-- ==== Sys2Proof/Word.lean ====
section
/-! DEFINITION. The word types of the HZ-8160 and their plainest arithmetic: the 32-bit register (R30), the
64-byte line of DRAM, and the modulo-2^48 comparison of epoch numbers (R59). -/

namespace Sys2Proof

/-- A register of the page space (R30). -/
abbrev Word := BitVec 32

/-- The data of one 64-byte line of DRAM. -/
abbrev LineData := BitVec 512

/-- The low 48 bits of an epoch number, as an islet record holds it (R59). -/
def low48 (n : Nat) : Nat := n % 2 ^ 48

/-- `a ≤ b` for epoch numbers compared modulo 2^48 (R59). -/
def le48 (a b : Nat) : Bool := decide ((low48 b + 2 ^ 48 - low48 a) % 2 ^ 48 < 2 ^ 47)

/-- The later of two epoch numbers compared modulo 2^48 (R59, R89). -/
def max48 (a b : Nat) : Nat := if le48 a b then low48 b else low48 a

/-- How many epochs `b` lies after `a`, modulo 2^48 (R59, R62). -/
def dist48 (a b : Nat) : Nat := (low48 b + 2 ^ 48 - low48 a) % 2 ^ 48

/-- Rounds a quotient up. -/
def ceilDiv (a b : Nat) : Nat := (a + b - 1) / b

/-- Bit `k` of `n`. -/
def bitOf (n k : Nat) : Bool := decide (n / 2 ^ k % 2 = 1)

/-- 1 for true, 0 for false. -/
def b2n (b : Bool) : Nat := if b then 1 else 0

end Sys2Proof
end

