-- ==== Sys2Proof/Config.lean ====
section
/-! DEFINITION. What an implementation fixes and the spec leaves open. Each constant here is opaque: it has no body
a proof could use, so a statement about it holds whatever its value. -/

namespace Sys2Proof.Config

/-- The free value drawn by the `n`th use of an undefined or unstated value: a result the spec leaves open. -/
opaque freeValue : Nat → Nat

/-- The blocks whose erase fails in the `n`th erase of the whole array, which only the dies decide (R211, R359).
DESIGN CHOICE, log 89. -/
opaque unerased : Nat → List Nat

/-- AES-256-XTS encryption of one 64-byte line of a 4,096-byte data unit (R208): the 512-bit media key, the unit's 16-byte tweak as
a little-endian number, the line's number in the unit, the plaintext. DESIGN CHOICE, log 13. -/
opaque xtsEncrypt : Nat → Nat → Nat → BitVec 512 → BitVec 512

/-- The inverse of `xtsEncrypt` (R208). DESIGN CHOICE, log 13. -/
opaque xtsDecrypt : Nat → Nat → Nat → BitVec 512 → BitVec 512

/-- AES key wrap of a media key under the controller's own key-encryption key, which is derived from the fused device secret (R209).
DESIGN CHOICE, log 13. -/
opaque kekWrap : Nat → Nat

/-- The media key inside a key that `kekWrap` wrapped (R209). DESIGN CHOICE, log 13. -/
opaque kekUnwrap : Nat → Nat

/-- SHA-384 of a byte string (R402, R508, R512). DESIGN CHOICE, log 13. -/
opaque sha384 : List (BitVec 8) → Nat

/-- The fresh X25519/P-384 session public key that the `n`th Key Import Begin returns (R360). DESIGN CHOICE, log 13. -/
opaque sessionPublicKey : Nat → Nat

/-- A media key wrapped for a receiver's public key (R360): media key, receiver key. DESIGN CHOICE, log 13. -/
opaque wrapKey : Nat → Nat → Nat

/-- The media key inside a wrapped key, under the session of that number and the sender's public key (R360); `none` when
it does not unwrap. DESIGN CHOICE, log 13. -/
opaque unwrapKey : Nat → Nat → Nat → Option Nat

/-- The fixed poison pattern of the line code: check symbols `4k` to `4k + 3` (R321). DESIGN CHOICE, log 14. -/
opaque poisonPattern : Nat → BitVec 32

/-- The event number of the `k`th kind of recorded event, where the owning chapter says that the event is recorded and
assigns no number (R438). DESIGN CHOICE, log 15. -/
opaque eventCode : Nat → BitVec 16

end Sys2Proof.Config
end

