-- ==== Sys2Proof/Syntax.lean ====
section
/-! DEFINITION. The commands of the HZ-8160 as a block, one constructor for each row of spec/opcode_table.json, and the types of
their operands. An operand carries what the world outside decides: the requests that arrive, and how physical work ended. -/

namespace Sys2Proof

/-- Who reads and writes registers: the two management ports, Glen firmware, and the test port (R33, R480). -/
inductive Port where
  | host | sideband | glen | tst
  deriving DecidableEq, Repr

/-- The header of a Strait frame as a port receives it: the port (0 UP, 1 DOWN), the sender, the destination (`none` for a
broadcast), the hops and the sequence number (R369). DESIGN CHOICE, log 59. -/
structure FrameHdr where
  port : Nat
  src : Nat
  dst : Option Nat
  hops : Nat
  seq : Nat
  deriving DecidableEq, Repr

/-- The messages sent on a periodic count (R372). -/
inductive Periodic where
  | heartbeat | probe | tickSync | memberInfo
  deriving DecidableEq, Repr

/-- A PCIe configuration request, as far as the controller's own chapters speak of it: a read, a read of the status of DVSEC range 1
or of the GPF DVSEC, a write of the MSI-X capability's enable and function mask, of a vector's mask in the MSI-X table, or another write
(R51, R167, R336, R340, R350, R403). -/
inductive CfgReq where
  | read
  | rangeStatus
  | gpfDvsec
  | msix (enable mask : Bool)
  | vectorMask (vector : Nat) (on : Bool)
  | other
  deriving DecidableEq, Repr

/-- A lane of the host link as a training leaves it: lane number, transmitter preset, receiver margin (R363). -/
structure LaneEnd where
  lane : Nat
  preset : Nat
  margin : Nat
  deriving DecidableEq, Repr

namespace Machine

/-- The four request queues of a flash channel, in priority order (R234). -/
inductive FQueue where
  | demand | save | normal | upkeep
  deriving DecidableEq, Repr

/-- The control operations of a flash channel (R231, R234). -/
inductive FControl where
  | reset | status | setFeatures | getFeatures | training
  deriving DecidableEq, Repr

/-- The operations of a queue entry (R234). -/
inductive FKind where
  | read | program | erase
  | control (op : FControl)
  deriving DecidableEq, Repr

/-- An operation of a flash channel: its queue, kind, die, the plane and block it names, the page and mode of a
program, and the stripe it belongs to (0: none). -/
structure FOp where
  queue : FQueue
  kind : FKind
  die : Nat
  planes : List Nat
  block : Nat
  page : Nat
  slc : Bool
  stripe : Nat
  deriving DecidableEq, Repr

/-- What the tag of a decoded codeword shows: whether its CRC matches, and its KIND, SKERRY and GROUP_TAG (R202, R203). -/
structure TagSeen where
  crc : Bool
  kind : Nat
  skerry : Nat
  groupTag : Nat
  deriving DecidableEq, Repr

/-- One try of a codeword read (R245): the tag it decodes to (none where the decode does not succeed), the corrected bits, and the
iterations of the decoder. -/
structure ReadTry where
  tag : Option TagSeen
  bits : Nat
  iters : Nat
  deriving DecidableEq, Repr

/-- A codeword read of a page (R246): which of its four codewords, the try at the group's offset, those at the die's retry levels 1, 2
and so on, the soft try, whether the 15 other cells of the slot are good, and whether that rebuild was ready before step 1 ended. -/
structure ReadEnd where
  page : Nat
  cw : Nat
  first : ReadTry
  levels : List ReadTry
  soft : Option ReadTry
  others : Bool
  sooner : Bool
  deriving DecidableEq, Repr

/-- What the parameter page of a die says (R196, R233): its planes, main area and page size, and the profile of the active Isle that
its manufacturer and model match, by that key: the 8 bytes of DIE_ID (R215). -/
structure DieFound where
  planes : Nat
  mainArea : Nat
  page : Nat
  profile : Option Nat
  deriving DecidableEq, Repr

/-- How a block erase ended: pass or FAIL, and its busy time in microseconds (R250, R251). -/
structure EraseEnd where
  good : Bool
  us : Nat
  deriving DecidableEq, Repr

/-- The requesters of DRAM in the order of R310. -/
inductive Requester where
  | host | mover | save | rstr | pers | dscr | dtrn | glen
  deriving DecidableEq, Repr

/-- The outcome of a line read (R320): `corrected` with the symbols that were in error, in rising order, and whether a write to the
line has been accepted since (R324). -/
inductive ReadOutcome where
  | clean
  | corrected (syms : List Nat) (written : Bool)
  | poison
  | ue
  deriving DecidableEq, Repr

/-- What detection reads on the dies: whether the wrap of the media key passes its integrity check, the channels whose superblock
versions do not read good, the WSEQs of journal-band codewords that do not read back whole, the blocks (by key) with a factory mark,
for blocks that were open (by key) the first page that is not programmed whole, with whether it is partly programmed, and the blocks
that fail an erase which the start completes first (R159, R203, R209, R211, R216, R219, R243, R253). -/
structure Found where
  keyOk : Bool
  badAnchors : List Nat
  badWseqs : List Nat
  factory : List Nat
  forward : List (Nat × Nat × Bool)
  unerased : List Nat
  deriving DecidableEq, Repr

/-- How a local-bus transaction ends (R484, R485, R488): with its data bytes read (none for a write), not acknowledged, with a
wrong PEC, or with arbitration lost at a bit, within an address byte or not, to a winner that addresses 0x08 or another. -/
inductive TwlEnd where
  | data (bytes : List (BitVec 8))
  | nack
  | pec
  | arb (bit : Nat) (inAddr winner08 : Bool)
  deriving DecidableEq, Repr

/-- What a reset covers (R425): a block by its number, a power domain by its place in R528, one Glen core. -/
inductive ScopeOf where
  | block (b : Nat)
  | domain (d : Nat)
  | core (k : Nat)
  deriving DecidableEq, Repr

/-- The work of the pass that ends at a tick, as the environment reports it (R67, R68, R104, R109, R239, R311): for each of the
four resources the units the foreground used; the islets that a host write reaches in the tick's own cycle; the classes with an
item still running, each with the units the item takes; how many shadow reads, fold copies, relocated copies and save islets there is room for; the
bursts each channel drained from its buffer; and, for each DRC, the requests that met a full queue and those that starved. -/
structure TickWork where
  used : List Nat
  hit : List Nat
  overrun : List (Nat × Nat)
  starts : Nat
  folds : Nat
  relocs : Nat
  saved : Nat
  sent : List (Nat × Nat)
  drcEvents : List (Nat × Nat × Nat)
  deriving DecidableEq, Repr

end Machine

open Machine

/-- The commands of the block, one constructor for each row of the table, in its order. DESIGN CHOICE, log 1. -/
inductive Instr where
  /-- PASS_TICK (R5): Every 3,000 fabric cycles a pass tick occurs, and the work scheduled for that pass is issued. -/
  | passTick (w : TickWork)
  /-- ALIVE_EDGE (R20): Every 0.5 ms of normal running the ALIVE output toggles. -/
  | aliveEdge
  /-- MASTERSHIP_TAKEOVER (R21): When all lower-numbered devices have been silent k × 50 µs, device k takes mastership and sends MASTER_CLAIM. -/
  | mastershipTakeover (late : Bool)
  /-- REGISTER_WRITE (R37): A write to a register without a row of its own is stored or dropped under the access code, semaphore and gating rules. -/
  | registerWrite (p : Port) (addr : Nat) (mask : Nat) (data : Word)
  /-- COUNTER_LO_READ (R32): A read of a counter pair's _LO returns the low half and loads the reader's latch with the high half, clearing an RC pair. -/
  | counterLoRead (p : Port) (addr : Nat)
  /-- RC_READ (R7): A read of an RC register returns its value and clears it to 0. -/
  | rcRead (p : Port) (addr : Nat)
  /-- SEM_CLAIM (R39): A read of SEM_CLAIMn grants a free semaphore, restarts the holder's lease, or returns the other holder's code. -/
  | semClaim (n : Nat) (readers : List Port)
  /-- SEM_RELEASE (R40): The holder writing its own code with bit 31 at 0 frees the semaphore; other such writes are dropped with cause 0x4. -/
  | semRelease (p : Port) (n : Nat) (owner : Nat)
  /-- SEM_BREAK (R41): A write with bit 31 at 1 after the lease has run out frees the semaphore, counts SEM_BROKEN and records an event; otherwise it is refused. -/
  | semBreak (p : Port) (n : Nat) (owner : Nat)
  /-- SEM_LEASE_EXPIRY (R41): A held semaphore's lease runs out, after which another port may break it. -/
  | semLeaseExpiry (n : Nat)
  /-- SHADOW_ARM (R45): Writing SHADOW_CTRL.ARM to 1 requests a shadow-to-active copy at the next tick. -/
  | shadowArm (p : Port) (page : Nat)
  /-- SHADOW_DISCARD (R27): Writing SHADOW_CTRL.DISCARD copies every active register back into its shadow. -/
  | shadowDiscard (p : Port) (page : Nat)
  /-- SOFT_RST (R29): Writing PAGE_CTRL.SOFT_RST resets the block's registers and releases its resources. -/
  | softRst (p : Port) (page : Nat)
  /-- CLK_GATE (R36): Writing PAGE_CTRL.CLK_GATE gates or ungates the block's clock. -/
  | clkGate (p : Port) (page : Nat) (on : Bool)
  /-- PAGE_EN (R27): Writing PAGE_CTRL.EN enables or disables the block; a 0 on a running mover aborts it with cause MGMT. -/
  | pageEn (p : Port) (page : Nat) (on : Bool)
  /-- INT_FORCE (R27): Writing INT_FORCE sets the matching INT_STAT bits, which may raise an interrupt request. -/
  | intForce (p : Port) (page : Nat) (causes : Word)
  /-- ERR_FORCE (R427): Writing ERR_FORCE arms injection of one fault per set bit at the next tick. -/
  | errForce (p : Port) (page : Nat) (sources : Word)
  /-- MGP_EOI (R51): Writing a vector number to MGP_EOI sends another MSI-X message when that vector is still pending. -/
  | mgpEoi (p : Port) (v : Nat)
  /-- MSIX_HELD_SEND (R51): A message held while the function could not send is sent once it can, provided the vector is still pending. -/
  | msixHeldSend
  /-- CXL_MEM_WRITE (R60): A received CXL.mem write passes the interlock check, sets its islet's collecting-plane bit and is written to DRAM. -/
  | cxlMemWrite (n : Nat) (line : Nat) (tag : Nat) (data : LineData) (be : BitVec 64) (poison : Bool)
  /-- CXL_MEM_READ (R53): A received CXL.mem read passes the interlock check and returns the last accepted write's data, or poison. -/
  | cxlMemRead (n : Nat) (line : Nat) (tag : Nat)
  /-- ISLET_RECORD_READ_DONE (R82): PERS finishes reading a held write's islet record, releasing it at once or placing it in the hold queue. -/
  | isletRecordReadDone
  /-- PACE_ADMIT (R83): At level 4 every SPACING passes the head of the hold queue is admitted. -/
  | paceAdmit
  /-- HOLD_MAX_ADMIT (R84): A held write that has waited HOLD_MAX is admitted anyway. -/
  | holdMaxAdmit
  /-- BUDGET_COMPUTE (R76): Every 100 passes PERS computes B_energy and B_eff from the energy input and derating. -/
  | budgetCompute (tj : Int)
  /-- GAUGE_STALE (R78): No good gauge reading younger than STALE_MS: the floor rule applies, GAUGE_STALE is set and raised. -/
  | gaugeStale (late : Bool)
  /-- EPOCH_CLOSE (R69): L passes after an epoch began it closes, its plane freezes, its tail begins and the next epoch collects. -/
  | epochClose
  /-- COOLING_WALK_DONE (R97): The walk of the frozen plane completes, having appended cooling islets, and the plane clear may begin. -/
  | coolingWalkDone
  /-- EPOCH_SEAL (R71): An epoch's seal record reads back good on both copies and the epoch is sealed. -/
  | epochSeal (rearmed : Bool) (again : Nat)
  /-- PLANE_CLEAR_DONE (R71): The clear of the frozen plane completes, completing the tail. -/
  | planeClearDone
  /-- PERS_BAR_POST (R87): Writing a tag to PERS_BAR_POST posts a barrier bound to the collecting epoch. -/
  | persBarPost (p : Port) (tag : Word)
  /-- PERS_Q_ISLET (R96): Writing PERS_Q_ISLET clears VALID and starts a lookup of the islet record. -/
  | persQIslet (p : Port) (islet : Nat)
  /-- ISLET_LOOKUP_DONE (R96): The islet lookup completes and the query registers hold the record with VALID set. -/
  | isletLookupDone
  /-- SHADOW_READ_END (R104): The last line of a shadow copy arrives in staging and the islet takes transition 8, 9 or 10. -/
  | shadowReadEnd (islet : Nat)
  /-- STRIPE_AGE_EXPIRY (R207): A stripe's oldest staged copy has waited 200 passes and the stripe is programmed with pad cells. -/
  | stripeAgeExpiry (slc : Bool)
  /-- SWEEP_ROUND_DONE (R99): An overflow sweep round completes, ending sweep mode when appends have resumed. -/
  | sweepRoundDone
  /-- BARRIER_SWEEP_DONE (R100): A barrier sweep completes and another follows at once or after the next seal. -/
  | barrierSweepDone
  /-- PFAIL_IN_FALL (R118): PFAIL_IN# falls and the debounce of PFAIL_DEB + 1 samples begins. -/
  | pfailInFall
  /-- PFAIL_DEBOUNCE_DONE (R118): PFAIL_IN# stays low through its debounce and a save starts with CAUSE 0b001. -/
  | pfailDebounceDone
  /-- PFAIL_GLITCH (R120): A low pulse on PFAIL_IN# ends before the debounce completes and is counted as a glitch. -/
  | pfailGlitch (samples : Nat)
  /-- PFAIL_IN_RISE (R148): PFAIL_IN# rises after a save has begun, starting the wait for power to be good for RET_MS. -/
  | pfailInRise
  /-- HOLD_RAIL_TRIP (R118): VDD_3V3_HOLD is found below V_TRIP and, with MON_EN, a save starts with CAUSE 0b010. -/
  | holdRailTrip
  /-- HOLD_RAIL_CLOSE (R142): VDD_3V3_HOLD is found below V_CLOSE, starting the close-out or letting HOLD_EN fall after SAVE_DONE. -/
  | holdRailClose (started : Nat)
  /-- SAVE_WRITES_APPLIED (R127): Every received write is in DRAM with its islet bit set, fixing the save set. -/
  | saveWritesApplied
  /-- SAVE_DATA_DONE (R127): The last residual stripe is programmed and the journal tail, unsaved map and save seal are programmed. -/
  | saveDataDone
  /-- ENERGY_CUTOFF (R142): E_est reaches the close-out threshold with CUT_EN at 1. -/
  | energyCutoff (started : Nat)
  /-- SAVE_SEAL_PROGRAMMED (R127): The save seal program completes and its read-back begins. -/
  | saveSealProgrammed
  /-- SAVE_SEAL_READBACK (R127): The save seal reads back good. -/
  | saveSealReadback
  /-- SAVE_BASIN_ENTRY (R127): After SAVE_DONE, DRAM enters self-refresh and the controller enters BASIN with the host link off. -/
  | saveBasinEntry (refreshed : Bool)
  /-- SELF_TEST_DONE (R126): The save sequencer's self-test ends and SOUND is set when it passes. -/
  | selfTestDone (pass : Bool)
  /-- POWER_RETURN (R148): PFAIL_IN# high and VDD_3V3_HOLD at or above V_TRIP have held for RET_MS after a power-fail save, giving a warm start with AUTO_WARM. -/
  | powerReturn
  /-- POWER_LOSS (R151): The controller's own supplies fail, ending any save without a seal. -/
  | powerLoss (torn : Bool)
  /-- RAIL_OUT_OF_BAND (R570): A supply rail leaves its band, raising RAIL_FAULT outside a save or ending a save without SAVE_DONE. -/
  | railOutOfBand (rail : Nat)
  /-- DRAM_RAIL_FAULT (R395): The DRAM supply monitor sees the DRAM rail fall out of tolerance and clears the retention flag. -/
  | dramRailFault
  /-- GPF_PHASE1 (R133): A GPF phase 1 request is acknowledged at once without a save. -/
  | gpfPhase1
  /-- GPF_PHASE2 (R133): A GPF phase 2 request is received and waits for prior writes to reach DRAM. -/
  | gpfPhase2
  /-- GPF_PHASE2_DONE (R133): Every write received before phase 2 is in DRAM and phase 2 completes. -/
  | gpfPhase2Done
  /-- DRAM_TRAINING_DONE (R329): DRAM training ends, falling back or retrying at a lower rate, or failing with TRAIN_FAIL. -/
  | dramTrainingDone (fell : List Nat) (lowered : Bool) (failed : List Nat)
  /-- IMAGE_DETECT_DONE (R160): Image detection ends in an outcome class held in RSTR_IMG_CLASS. -/
  | imageDetectDone (found : Found)
  /-- METADATA_LOAD_DONE (R166): The metadata load completes, ACTIVE is set and staging banks 14 and 15 are claimed. -/
  | metadataLoadDone
  /-- FAULT_IN_DONE (R172): A fault-in's last line is accepted in DRAM and the islet's bitmap bit becomes 1. -/
  | faultInDone (islet : Nat) (us : Nat) (rebuilt : Nat) (lost : List Nat) (late : Bool)
  /-- RESTORE_ISLET_DONE (R169): Background restore or zero fill completes an islet and its bitmap bit becomes 1. -/
  | restoreIsletDone (zero : Bool) (rebuilt : Nat) (lost : List Nat)
  /-- WARM_CHECK_DONE (R190): The reserved-region check word is verified at a warm start, or the start continues cold. -/
  | warmCheckDone (good : Bool)
  /-- CASCADE_WAIT_EXPIRY (R187): WAIT_MS passes without every strapped member's status and the master settles G from those heard. -/
  | cascadeWaitExpiry
  /-- FLASH_OP_ENQUEUE (R234): A READ, PROGRAM, ERASE or control request enters an FCH queue. -/
  | flashOpEnqueue (c : Nat) (o : FOp)
  /-- RESUME_WINDOW_EXPIRY (R238): A resumed operation has run RESUME_MIN µs and may be suspended again. -/
  | resumeWindowExpiry (c : Nat) (d : Nat)
  /-- FLASH_READ_DONE (R246): A codeword read completes and climbs the retry ladder when its decode fails. -/
  | flashReadDone (c : Nat) (d : Nat) (plane : Nat) (b : Nat) (r : ReadEnd) (last : Bool) (scan : Bool)
  /-- FLASH_PROGRAM_DONE (R249): A member program completes with pass or FAIL. -/
  | flashProgramDone (c : Nat) (d : Nat) (good : Bool) (us : Nat)
  /-- FLASH_ERASE_DONE (R250): A block erase completes, retiring the block on FAIL. -/
  | flashEraseDone (c : Nat) (d : Nat) (e : EraseEnd)
  /-- DIE_READY_TIMEOUT (R256): A die is not ready within 10 ms of an operation or of its RESET. -/
  | dieReadyTimeout (c : Nat) (d : Nat) (late : Bool)
  /-- FCH_RETRAIN (R261): Writing FCH_CTRL.RETRAIN retrains the channel at the next idle bus. -/
  | fchRetrain (p : Port) (c : Nat)
  /-- FLASH_CHANNEL_TRAINED (R256): ONFI channel training ends, the channel going up or down after two failures. -/
  | flashChannelTrained (c : Nat) (good : Bool) (found : List (Option DieFound))
  /-- FARR_Q_BLOCK (R265): Writing FARR_Q_BLOCK.BLOCK clears VALID and starts a block-record lookup. -/
  | farrQBlock (p : Port) (query : Word)
  /-- BLOCK_LOOKUP_DONE (R265): The block lookup completes and its record is shown with VALID set. -/
  | blockLookupDone
  /-- MOV_START (R292): Writing MOV_CMD.START requests a channel start at a tick, or sets START_REFUSED on a running channel. -/
  | movStart (p : Port) (c : Nat)
  /-- MOV_ABORT (R295): Writing MOV_CMD.ABORT aborts the channel, writing its residue and an ABORT record. -/
  | movAbort (p : Port) (c : Nat)
  /-- MOVE (R282): A MOVE instruction transfers LEN lines through its path in bursts. -/
  | move (c : Nat)
  /-- SPREAD (R286): A SPREAD instruction places slots of a stripe with their parity cells. -/
  | spread (c : Nat)
  /-- LOOP (R287): A LOOP instruction loads or decrements its counter and branches back while it is not 0. -/
  | loop (c : Nat)
  /-- WAIT (R288): A WAIT instruction holds the channel until its FILL, TICK, STRAIT or FLAG condition holds. -/
  | wait (c : Nat)
  /-- SIGNAL (R290): A SIGNAL instruction sets a flag, raises an interrupt, sends a Strait event or queues a record. -/
  | signal (c : Nat) (cycle : Nat)
  /-- HALT (R280): A HALT instruction ends the program with a HALT completion record. -/
  | halt (c : Nat) (cycle : Nat)
  /-- NOP (R279): A NOP instruction does nothing and the channel goes on. -/
  | nop (c : Nat)
  /-- ILLEGAL (R279): An illegal word or a breach of the channel restrictions aborts the channel with cause ILLEGAL. -/
  | illegal (c : Nat) (cycle : Nat)
  /-- PC_RANGE (R280): A fetch past word 0xFFFF or outside the management region aborts the channel with cause PC_RANGE. -/
  | pcRange (c : Nat) (cycle : Nat)
  /-- PM_UE (R275): An uncorrectable program-memory fetch raises PM_UE and aborts the channel. -/
  | pmUe (c : Nat) (cycle : Nat)
  /-- MOVER_TRANSFER_DONE (R282): A MOVE or SPREAD ends, whole or at a bus error, and its increments apply. `hit` is the burst an
outside bus error strikes, if one does, and `why` its cause code. -/
  | moverTransferDone (c : Nat) (hit : Option Nat) (why : Nat)
  /-- WAIT_END (R288): A WAIT's condition holds and the channel goes on to the next word. -/
  | waitEnd (c : Nat)
  /-- WAIT_TIMEOUT (R289): TMO passes without the WAIT condition and the channel aborts with cause WAIT_TIMEOUT. -/
  | waitTimeout (c : Nat) (cycle : Nat)
  /-- PM_DATA_HI_WRITE (R274): Writing MVG_PM_DATA_HI stores the program word and increments MVG_PM_ADDR, or is denied outside the management region. -/
  | pmDataHiWrite (p : Port) (hi : Word)
  /-- PM_DATA_LO_READ (R274): Reading MVG_PM_DATA_LO returns the low half and latches the high half. -/
  | pmDataLoRead (p : Port)
  /-- PM_DATA_HI_READ (R274): Reading MVG_PM_DATA_HI returns the latch and increments MVG_PM_ADDR. -/
  | pmDataHiRead (p : Port)
  /-- COLLECTOR_DRAIN (R298): The collector drains one slot per cycle to Glen firmware or the management ring. -/
  | collectorDrain (cycle : Nat)
  /-- MVG_CPOP (R300): Any write to MVG_CPOP removes the head record of the management ring. -/
  | mvgCpop (p : Port)
  /-- DRAM_READ_DONE (R320): A DRAM line read decodes to CLEAN, CORRECTED, POISON or UE and is handled by requester. -/
  | dramReadDone (line : Nat) (r : Requester) (o : ReadOutcome) (record : Nat)
  /-- REPAIR_WRITE (R325): Glen firmware's repair of a UE line is accepted or dropped by PERS's state check. -/
  | repairWrite (line : Nat)
  /-- REFRESH_DUE (R314): A rank's tREFI elapses and its refresh is issued, postponed or forced. -/
  | refreshDue (sc : Nat) (lrank : Nat) (queued : Bool)
  /-- MR4_POLL (R314): Every 16 ms MR4 of each rank is read for the refresh rate. -/
  | mr4Poll (d : Nat) (doubled : Bool)
  /-- RANK_POWER_DOWN (R316): PDTIME passes idle and the rank enters power-down. -/
  | rankPowerDown (d : Nat) (r : Nat) (late : Bool)
  /-- ROW_IDLE_CLOSE (R309): An open row passes OPEN_MAX or AUTO_IDLE without access and is closed. -/
  | rowIdleClose (bank : Nat)
  /-- CA_PARITY_ALERT (R326): An RCD reports a CA parity error and the subchannel stops issuing. -/
  | caParityAlert (sc : Nat)
  /-- CA_ALERT_CLEAR (R326): The RCD clears its alert and uncompleted commands are reissued, or a storm retrains. -/
  | caAlertClear (sc : Nat)
  /-- IN_PLACE_RETRAIN_DONE (R327): An in-place retrain completes and queued requests proceed. -/
  | inPlaceRetrainDone (sc : Nat) (margin : Bool)
  /-- DTRN_GO (R335): Writing DTRN_CMD.GO starts a training pattern operation in the training area. -/
  | dtrnGo (p : Port)
  /-- DTRN_STOP (R335): Writing DTRN_CMD.STOP stops the operation after the current line. -/
  | dtrnStop (p : Port)
  /-- DTRN_DONE (R335): A DTRN operation ends and DONE is set. -/
  | dtrnDone (lanes : Nat) (mismatches : Nat)
  /-- PERST_ASSERT (R393): PERST# is asserted: a link reset, or a device reset in BASIN after SAVE_DONE. -/
  | perstAssert
  /-- PERST_RELEASE (R403): PERST# is released and link training starts once PLL H is locked. -/
  | perstRelease
  /-- LINK_UP (R403): The host link reaches L0. -/
  | linkUp (rate : Nat) (flit256 : Bool) (lanes : List LaneEnd)
  /-- LINK_DOWN (R43): The host link goes down, freeing host-port semaphores. -/
  | linkDown
  /-- LINK_FAIL (R337): No rate of 16 GT/s or above trains within three attempts and the link is held in Detect. -/
  | linkFail
  /-- L1_EXIT (R526): The host link leaves L1, waking the controller from TERRACE. -/
  | l1Exit
  /-- CONFIG_REQUEST (R403): A PCIe configuration request is answered, with Request Retry Status before step 5. -/
  | configRequest (q : CfgReq)
  /-- CREDIT_STALL (R344): A credit-return stop lasts 1 ms and CREDIT_STALL is raised. -/
  | creditStall
  /-- DECODER_COMMIT (R341): An HDM decoder commit succeeds, or sets Commit Error when its span lies outside range 1. -/
  | decoderCommit (n : Nat) (base : Nat) (size : Nat) (dpa : Nat) (iw : Nat) (ig : Nat)
  /-- MEM_ENABLE (R167): The host sets Mem_Enable, allowing memory use once Memory_Active is set. -/
  | memEnable
  /-- GET_EVENT_RECORDS (R361): Mailbox Get Event Records returns records of an event log. -/
  | getEventRecords (log : Nat)
  /-- CLEAR_EVENT_RECORDS (R361): Mailbox Clear Event Records clears records of an event log. -/
  | clearEventRecords (log : Nat) (every : Bool) (handles : List Nat)
  /-- GET_EVENT_INTERRUPT_POLICY (R362): Mailbox Get Event Interrupt Policy returns the event interrupt policy. -/
  | getEventInterruptPolicy
  /-- SET_EVENT_INTERRUPT_POLICY (R362): Mailbox Set Event Interrupt Policy sets the event interrupt policy on vector 0. -/
  | setEventInterruptPolicy (modes : List Nat)
  /-- GET_FW_INFO (R353): Mailbox Get FW Info reports Isle A and Isle B as slots 1 and 2. -/
  | getFwInfo
  /-- UNSUPPORTED_COMMAND (R353): A mailbox opcode not listed, or Transfer or Activate FW, returns Unsupported. -/
  | unsupportedCommand
  /-- GET_TIMESTAMP (R361): Mailbox Get Timestamp returns the device timestamp. -/
  | getTimestamp
  /-- SET_TIMESTAMP (R361): Mailbox Set Timestamp sets the base of record timestamps. -/
  | setTimestamp (ns : Nat)
  /-- GET_SUPPORTED_LOGS (R353): Mailbox Get Supported Logs lists the Command Effects Log. -/
  | getSupportedLogs
  /-- GET_LOG (R353): Mailbox Get Log returns the Command Effects Log. -/
  | getLog (uuid : List (BitVec 8)) (offset : Nat) (length : Nat)
  /-- IDENTIFY_MEMORY_DEVICE (R342): Mailbox Identify Memory Device reports capacity as persistent or volatile, or Busy before detection ends. -/
  | identifyMemoryDevice
  /-- GET_HEALTH_INFO (R353): Mailbox Get Health Info reports health, media status, life used, temperature and the dirty-shutdown count. -/
  | getHealthInfo
  /-- GET_ALERT_CONFIG (R353): Mailbox Get Alert Config returns the alert configuration. -/
  | getAlertConfig
  /-- SET_ALERT_CONFIG (R353): Mailbox Set Alert Config sets the alert configuration. -/
  | setAlertConfig (config : List (BitVec 8))
  /-- GET_SHUTDOWN_STATE (R351): Mailbox Get Shutdown State returns the stored host flag. -/
  | getShutdownState
  /-- SET_SHUTDOWN_STATE (R351): Mailbox Set Shutdown State stores the host's flag in Atoll. -/
  | setShutdownState (v : Nat)
  /-- GET_POISON_LIST (R349): Mailbox Get Poison List returns up to 256 poisoned-line records with their sources. -/
  | getPoisonList (dpa : Nat) (length : Nat)
  /-- INJECT_POISON (R349): Mailbox Inject Poison writes one line poisoned as a host write through PERS. -/
  | injectPoison (dpa : Nat)
  /-- CLEAR_POISON (R349): Mailbox Clear Poison writes the supplied data to one line as a host write. -/
  | clearPoison (dpa : Nat) (data : LineData)
  /-- SANITIZE (R211): Mailbox Sanitize starts erasing the key slot, anchors and save array as a background command. -/
  | sanitize
  /-- SANITIZE_DONE (R211): The sanitize erase completes and its pending flag is cleared. -/
  | sanitizeDone
  /-- BARRIER_POST (R354): Mailbox Barrier Post posts a barrier and returns its sequence number, or a refusal code. -/
  | barrierPost (tag : Nat)
  /-- BARRIER_STATUS (R355): Mailbox Barrier Status returns the state and count of a barrier. -/
  | barrierStatus (seq : Nat)
  /-- BUDGET_QUERY (R356): Mailbox Budget Query returns RES, B_eff, the level and related values. -/
  | budgetQuery
  /-- IMAGE_STATUS (R357): Mailbox Image Status returns the image class, restore point and cascade outcome. -/
  | imageStatus
  /-- CASCADE_STATUS (R358): Mailbox Cascade Status returns the device's cascade membership and share. -/
  | cascadeStatus
  /-- FORMAT_ARRAY (R359): Mailbox Format Array, accepted only in volatile mode with cause 0x4 to 0x7, stores a pending flag and erases the array. -/
  | formatArray (confirm : Nat) (flags : Nat) (tag : Nat) (size : Nat)
  /-- FORMAT_ARRAY_DONE (R359): The format erase completes, leaving the array blank for class 5 at the next start. -/
  | formatArrayDone
  /-- KEY_IMPORT_BEGIN (R360): Mailbox Key Import Begin returns a fresh session public key. -/
  | keyImportBegin
  /-- KEY_EXPORT (R360): Mailbox Key Export wraps a slot's media key for the receiver's public key. -/
  | keyExport (slot : Nat) (receiver : Nat)
  /-- KEY_IMPORT (R360): Mailbox Key Import unwraps an exported key into a free slot and re-wraps it. -/
  | keyImport (sender : Nat) (keyId : Nat) (wrapped : Nat)
  /-- STRAIT_PORT_TRAINED (R367): A Strait port trains and its partner's straps are checked, holding the port down on WIRING. -/
  | straitPortTrained (port : Nat) (partner : Nat) (ring : Bool)
  /-- CENSUS_DONE (R368): 10 ms after port training the census fixes SIZE and the expected set. -/
  | censusDone
  /-- MASTER_ELECTION (R380): No master is heard within 10 ms of training, so device 0 becomes master. -/
  | masterElection
  /-- STRAIT_PERIODIC_SEND (R372): A periodic count expires and HEARTBEAT, PROBE, TICK_SYNC or MEMBER_INFO is sent. -/
  | straitPeriodicSend (k : Periodic)
  /-- STRAIT_FRAME_BAD (R370): A frame failing its CRC is discarded and replayed by its sender. -/
  | straitFrameBad (mine : Bool)
  /-- HEARTBEAT (R372): A HEARTBEAT frame marks its sender present with its state and master. -/
  | heartbeat (h : FrameHdr) (payload : List (BitVec 8))
  /-- PROBE (R374): A PROBE frame is answered with ECHO. -/
  | probe (h : FrameHdr) (turn : Nat)
  /-- ECHO (R374): An ECHO frame yields the port's one-way delay. -/
  | echo (h : FrameHdr) (payload : List (BitVec 8)) (trip : Nat)
  /-- TICK_SYNC (R375): A TICK_SYNC frame sets the tick offset, which is corrected or stepped. -/
  | tickSync (h : FrameHdr) (payload : List (BitVec 8)) (arrival : Int) (lag : Nat) (residence : Nat)
  /-- MEMBER_INFO (R372): A MEMBER_INFO frame updates a member's save power, rate, RES and LEFT. -/
  | memberInfo (h : FrameHdr) (payload : List (BitVec 8))
  /-- SHARE (R382): A SHARE frame gives the member its energy share as E_mJ. -/
  | share (h : FrameHdr) (payload : List (BitVec 8))
  /-- TAIL_DONE (R377): A TAIL_DONE frame reports a completed tail to the master. -/
  | tailDone (h : FrameHdr) (payload : List (BitVec 8))
  /-- CLOSE_ISSUE (R377): At T − CLOSE_LEAD the master sends CLOSE when every present member's tail is done, else retries. -/
  | closeIssue
  /-- CLOSE (R378): A CLOSE frame sets the close tick and number of the collecting epoch. -/
  | close (h : FrameHdr) (payload : List (BitVec 8))
  /-- SEALED (R378): A SEALED frame reports a member's seal for the group-sealed epoch. -/
  | sealedFrame (h : FrameHdr) (payload : List (BitVec 8))
  /-- GROUP_SEALED (R378): A GROUP_SEALED frame sets the group-sealed epoch used by R189. -/
  | groupSealed (h : FrameHdr) (payload : List (BitVec 8))
  /-- STRAIT_SAVE (R152): A SAVE frame from the master starts the member's save with CAUSE 0b100. -/
  | straitSave (h : FrameHdr)
  /-- SAVE_START (R384): A SAVE_START frame records a member's own-trigger save at the master. -/
  | saveStart (h : FrameHdr) (payload : List (BitVec 8))
  /-- SAVE_END (R383): A SAVE_END frame reports a member's SAVE_DONE, setting its need to 0. -/
  | saveEnd (h : FrameHdr) (payload : List (BitVec 8))
  /-- IMAGE_STATUS_FRAME (R186): An IMAGE_STATUS frame reports a member's H, cut identifier and class to the master. -/
  | imageStatusFrame (h : FrameHdr) (payload : List (BitVec 8))
  /-- GROUP_POINT (R186): A GROUP_POINT frame gives the group restore point and lets the metadata load begin. -/
  | groupPoint (h : FrameHdr) (payload : List (BitVec 8))
  /-- MASTER_CLAIM (R379): A MASTER_CLAIM frame announces a new master and raises MASTER_CHANGE. -/
  | masterClaim (h : FrameHdr) (payload : List (BitVec 8))
  /-- EVENT (R373): An EVENT frame ends WAITs of type STRAIT on its number. -/
  | eventFrame (h : FrameHdr) (payload : List (BitVec 8))
  /-- PEER_SILENT (R377): A device unheard for 50 µs leaves the present set and PEER_LOST is raised. -/
  | peerSilent (d : Nat) (late : Bool)
  /-- STRT_RETRAIN (R387): Writing STRT_CTRL.RETRAIN retrains both Strait ports. -/
  | strtRetrain (p : Port)
  /-- REF_LOSS (R391): REFCLK shows no edge for 1 µs: REF_OK falls and PLLs move to CLK25_IN. -/
  | refLoss
  /-- REF_BACK (R391): REFCLK stays in range for 1 ms: REF_OK rises and PLLs move back. -/
  | refBack (ppm : Nat)
  /-- AON_CLK_LOSS (R392): CLK25_IN shows no edge for 1 µs: the ring oscillator takes over and AON_CLK_LOSS is FATAL. -/
  | aonClkLoss
  /-- PLL_LOCK (R390): A PLL locks. -/
  | pllLock (k : Nat)
  /-- PLL_UNLOCK (R409): A PLL loses lock, stalling its block or retraining the host link. -/
  | pllUnlock (k : Nat)
  /-- POWER_ON_RESET (R399): The internal power-on reset releases at tp and a cold start begins. -/
  | powerOnReset (retries : Option Nat)
  /-- BOOT_IMAGE_VERIFIED (R402): Verification of the active Isle ends, booting it, falling back, or entering recovery. -/
  | bootImageVerified (active : Nat) (other : Nat)
  /-- CONFIGURATION_DONE (R400): Glen firmware has started and read the configuration store, and DRAM, flash and Strait start. -/
  | configurationDone (ver : Nat) (kinds : Nat)
  /-- RST_KEY (R410): Writing the key to RST_KEY arms DEV_RST for the writing port for 1 ms. -/
  | rstKey (p : Port) (key : Word)
  /-- DEV_RST (R394): Writing DEV_RST after the key requests a device reset and starts the quiesce. -/
  | devRst (p : Port)
  /-- QUIESCE_DONE (R394): The quiesce completes, the retention store and flag are written and reset is asserted. -/
  | quiesceDone (refreshed : Bool) (stored : Bool)
  /-- RESET_HOLD_RELEASE (R397): A held device reset is released once SAVE_DONE has risen and power has been good for RET_MS. -/
  | resetHoldRelease
  /-- RECOVERY_SAMPLE (R514): 100 µs after reset release the ROM samples the service pins again to confirm a recovery request. -/
  | recoverySample (first : Bool) (second : Bool)
  /-- FAULT_DETECT (R412): A detector fires, counts in ERR_COUNT and writes or merges its coded message. -/
  | faultDetect (page : Nat) (src : Nat) (kind : Nat) (addr : Nat) (cycle : Nat) (place : Nat) (alt : Bool)
  /-- FAULT_RECORD (R417): After its 64-cycle hold a fault message is recorded with the next FSEQ and reacted to by severity. -/
  | faultRecord
  /-- BLOCK_RESET_DONE (R421): A block or domain under reset reports ready and the reset is released. -/
  | blockResetDone (w : ScopeOf) (late : Bool)
  /-- RESET_OVERRUN (R423): A block reset passes 200 µs and is escalated to a domain reset. -/
  | resetOverrun (b : Nat)
  /-- RESET_STUCK (R423): A domain reset passes 300 µs and RESET_STUCK is raised as FATAL. -/
  | resetStuck (d : Nat)
  /-- RESET_SHADOW_END (R425): 2 passes after a reset's release its scope stops being shadowed. -/
  | resetShadowEnd (w : ScopeOf) (us : Nat)
  /-- TICK_STALL (R432): No pass tick arrives for 100 µs outside BASIN and TICK_STALL is FATAL. -/
  | tickStall
  /-- GLEN_WDOG (R433): A Glen core's watchdog runs out and the core is reset alone or the cluster as a domain. -/
  | glenWdog (k : Nat) (cycle : Nat)
  /-- GLEN_RESTART_DONE (R433): A restarted Glen core or cluster runs again and redoes its tasks. -/
  | glenRestartDone (k : Nat) (us : Nat)
  /-- FLT_POP (R436): A write to FLT_POP with semaphore 51 removes the oldest fault-log record. -/
  | fltPop (p : Port)
  /-- FLT_FIRST_CLR (R436): A write to FLT_FIRST_CLR with semaphore 51 clears FLT_FIRST. -/
  | fltFirstClr (p : Port)
  /-- REC_EVENT (R439): An event enters REC and becomes a record or is refused when the ring is full. -/
  | recEvent (b : Nat) (code : Nat) (coincident : Bool) (detail : List Word)
  /-- HOURS_NOTE (R438): An hour of operating time passes without another record and an HOURS note is written. -/
  | hoursNote
  /-- FLUSH (R449): Writing REC_CTRL.FLUSH requests a flush of unflushed records to Atoll. -/
  | flush (p : Port)
  /-- FLUSH_DONE (R450): A flush programs its last record and FLUSH_DONE is raised. -/
  | flushDone (failed : List Nat)
  /-- FREEZE (R453): Writing REC_CTRL.FREEZE starts or ends a freeze of recording and erasing. -/
  | freeze (p : Port) (on : Bool)
  /-- FREEZE_TIMEOUT (R453): FREEZE_S seconds pass and the freeze ends with a FREEZE_END note. -/
  | freezeTimeout
  /-- REC_RD_SEQ (R452): Writing REC_RD_SEQ starts a read of that record into the reader's window. -/
  | recRdSeq (p : Port) (rseq : Word)
  /-- REC_READ_DONE (R452): A window read ends with OK, BAD or GONE and DONE set. -/
  | recReadDone (p : Port) (bad : Bool) (early : Bool)
  /-- ATOL_PROGRAM (R464): The PROGRAM command word begins a sequence of eight data words. -/
  | atolProgram (p : Port)
  /-- ATOL_ERASE (R467): The ERASE command word begins a sequence that erases a block on its second cycle. -/
  | atolErase (p : Port)
  /-- ATOL_HALT (R468): The HALT command word suspends the running erase. -/
  | atolHalt (p : Port)
  /-- ATOL_CONTINUE (R468): The CONTINUE command word resumes an erase suspended by HALT. -/
  | atolContinue (p : Port)
  /-- ATOL_STATUS (R461): The STATUS command word makes the next window read return ATOL_PSTAT. -/
  | atolStatus (p : Port)
  /-- ATOL_COUNTS (R479): The COUNTS command word enters erase-counter mode where allowed. -/
  | atolCounts (p : Port)
  /-- ATOL_FLIP (R474): The FLIP command word, repeated, performs a boot swap. -/
  | atolFlip (p : Port)
  /-- ATOL_PROTECT (R476): The PROTECT command word with its confirming word raises the level, or lowers it with a wipe. -/
  | atolProtect (p : Port) (lvl : Nat)
  /-- ATOL_IDLE (R461): The IDLE command word returns the source to read mode. -/
  | atolIdle (p : Port)
  /-- ATOL_WINDOW_DATA (R461): A window write carries the next cycle of a sequence, starting the program on the eighth data word. -/
  | atolWindowData (p : Port) (offset : Nat) (data : Word) (late : Bool)
  /-- ATOL_WINDOW_READ (R471): A window read returns array data with its corrected-bit report, auto-suspending an erase. -/
  | atolWindowRead (p : Port) (offset : Nat) (cbits : Nat) (ue : Bool)
  /-- ATOL_SEQ_TIMEOUT (R462): SEQ_TMO_US passes between cycles and the sequence is abandoned with ERR_SEQ. -/
  | atolSeqTimeout (p : Port)
  /-- ATOL_PROGRAM_DONE (R465): An Atoll code-word program verifies or ends with ERR_PROG_FAIL. -/
  | atolProgramDone (pulses : Nat) (good : Bool)
  /-- ATOL_ERASE_DONE (R467): An Atoll block erase ends, its count rises, or a failed verify retires the block. -/
  | atolEraseDone (good : Bool)
  /-- WIPE_DONE (R476): The protection-lowering wipe completes and a device reset follows. -/
  | wipeDone
  /-- POLL_DUE (R487): A poll entry's interval passes and the entry becomes due. -/
  | pollDue (n : Nat)
  /-- TWL_TRANSACTION_START (R483): The local bus is free and TWL starts the first due item. -/
  | twlTransactionStart
  /-- TWL_TRANSACTION_DONE (R488): A local-bus transaction ends and its reading or outcome is recorded. -/
  | twlTransactionDone (e : TwlEnd)
  /-- TWL_TIMEOUT (R484): A target holds the bus for tTIMEOUT; TWL ends the transaction and pulses SCL. -/
  | twlTimeout (stuck : Bool)
  /-- BUS_STUCK_RETRY (R484): Every 100 ms a stuck local bus is tried again. -/
  | busStuckRetry (freed : Bool)
  /-- HOST_NOTIFY (R486): A Host Notify to 0x08 is committed into the FIFO and NOTIFY raised. -/
  | hostNotify (addr : Nat) (status : Nat)
  /-- TWL_NPOP (R497): Any write to TWL_NPOP removes the head of the Host Notify FIFO. -/
  | twlNpop (p : Port)
  /-- LOC_ALERT (R489): LOC_ALERT# low causes an ARA read and records the alerting address. -/
  | locAlert (low : Bool)
  /-- ARA_BACKOFF (R489): 10 ms after a spurious ARA the next ARA may be read. -/
  | araBackoff
  /-- TWL_XCMD_GO (R483): Writing TWL_XCMD.GO queues a management transaction. -/
  | twlXcmdGo (p : Port)
  /-- REG_WRITE (R493): A sideband REG_WRITE commits up to 8 register writes on one page. -/
  | regWrite (count : Nat) (a0 : BitVec 8) (a1 : BitVec 8) (a2 : BitVec 8) (words : List Word) (pecOk : Bool)
  /-- REG_READ (R494): A sideband REG_READ returns up to 8 register words. -/
  | regRead (count : Nat) (a0 : BitVec 8) (a1 : BitVec 8) (a2 : BitVec 8) (k : Nat)
  /-- RESET (R493): A sideband RESET requests a device reset with SRC 0x3. -/
  | reset (count : Nat) (bytes : List (BitVec 8)) (pecOk : Bool)
  /-- SB_ARA (R491): While SB_ALERT# is asserted the target answers ARA with its address. -/
  | sbAra
  /-- SB_TIMEOUT (R496): SB_SCL stays low for tTIMEOUT and the transaction is abandoned. -/
  | sbTimeout
  /-- SB_PROTOCOL_ABANDON (R496): A misplaced repeated start abandons the sideband transaction. -/
  | sbProtocolAbandon
  /-- IDENT (R503): Service IDENT returns the identity payload. -/
  | ident (tag : Nat) (good : Bool)
  /-- SVC_FRAME_SHORT (R502): SVC_SEL# rises before the request CRC completes and the request is discarded. -/
  | svcFrameShort
  /-- STATUS (R503): Service STATUS returns the update state and progress. -/
  | status (tag : Nat) (good : Bool)
  /-- PKG_BEGIN (R508): PKG_BEGIN checks the package header and starts hashing the base. -/
  | pkgBegin (tag : Nat) (good : Bool) (payload : List (BitVec 8))
  /-- UPD_HASH_DONE (R508): The base digest check ends, starting the Isle erase or failing with BASE_MISMATCH. -/
  | updHashDone
  /-- UPD_ERASE_DONE (R510): The target Isle's 32 blocks are erased and the update enters RECEIVING. -/
  | updEraseDone
  /-- PKG_DATA (R511): PKG_DATA buffers body bytes at the expected offset. -/
  | pkgData (tag : Nat) (good : Bool) (payload : List (BitVec 8))
  /-- PKG_END (R512): PKG_END starts checking the body and the target digest. -/
  | pkgEnd (tag : Nat) (good : Bool)
  /-- UPD_CHECK_DONE (R512): The package check ends in APPLIED or FAILED. -/
  | updCheckDone
  /-- ACTIVATE (R512): ACTIVATE writes a boot swap making the new Isle active with UPD_PEND. -/
  | activate (tag : Nat) (good : Bool)
  /-- ABORT (R510): ABORT ends the update in hand with ABORTED. -/
  | abort (tag : Nat) (good : Bool)
  /-- RCV_BEGIN (R515): RCV_BEGIN checks IMG_LEN and erases the inactive Isle in recovery. -/
  | rcvBegin (tag : Nat) (good : Bool) (payload : List (BitVec 8))
  /-- RCV_DATA (R511): RCV_DATA buffers image bytes at the expected offset. -/
  | rcvData (tag : Nat) (good : Bool) (payload : List (BitVec 8))
  /-- RCV_END (R515): RCV_END starts the read-back CRC check of the image. -/
  | rcvEnd (tag : Nat) (good : Bool)
  /-- RCV_CHECK_DONE (R515): The recovery image check ends with a boot swap or FAILED with DIGEST. -/
  | rcvCheckDone
  /-- PROT_SET (R476): PROT_SET runs the protection command from the service port. -/
  | protSet (tag : Nat) (good : Bool) (payload : List (BitVec 8))
  /-- EC_READ (R479): EC_READ returns erase counts of Atoll blocks in recovery. -/
  | ecRead (tag : Nat) (good : Bool) (payload : List (BitVec 8))
  /-- REQUEST_TERRACE (R523): PWR_MODE.TARGET written to TERRACE starts an entry or is refused. -/
  | requestTerrace (p : Port)
  /-- REQUEST_BASIN (R523): PWR_MODE.TARGET written to BASIN starts an entry or is refused. -/
  | requestBasin (p : Port)
  /-- REQUEST_RUN (R526): PWR_MODE.TARGET written to RUN wakes from TERRACE or BASIN. -/
  | requestRun (p : Port)
  /-- AUTO_TERRACE (R522): The link has been in L1 for TERRACE_IDLE_US and Glen firmware requests TERRACE. -/
  | autoTerrace (leaves : Bool)
  /-- L2_ENTRY (R522): After PME_Turn_Off the link enters L2 and Glen firmware requests BASIN. -/
  | l2Entry
  /-- STOP_POINT_REACHED (R523): Glen work reaches its stop point, every core is in WAIT, and PWR switches the domains. -/
  | stopPointReached
  /-- DOMAIN_READY (R523): The last domain reports ready, STATE takes the target and ENTERED is raised. -/
  | domainReady
  /-- DOMAIN_TIMEOUT (R523): A domain does not report ready within 1 ms and the entry is aborted. -/
  | domainTimeout (d : Nat) (late : Bool)
  /-- EXIT_DONE (R531): An exit to RUN completes and EXITED is raised. -/
  | exitDone
  /-- SCRUB_LINE_DUE (R536): The scrub accumulator passes a multiple of 65,536 and a line falls due. -/
  | scrubLineDue
  /-- ROUND_LATE (R537): A scrub round runs one-eighth beyond ROUND_H and ROUND_LATE is raised. -/
  | roundLate
  /-- RETENTION_SCAN_DUE (R540): RET_DAYS pass, or RESTORE_DONE arrives at a cold start (`restored`), and a retention round begins. -/
  | retentionScanDue (restored : Bool)
  /-- SCAN_LATE (R542): A scan round runs longer than its interval and SCAN_LATE is raised. -/
  | scanLate
  /-- ZQ_DUE (R543): ZQ_MS passes for a rank and DRAM ZQ calibration runs. -/
  | zqDue (sc : Nat) (lrank : Nat)
  /-- OSC_DUE (R543): OSC_MS passes for a rank and the DQS oscillator is read and the delays adjusted. -/
  | oscDue (sc : Nat) (lrank : Nat) (drift : Nat)
  /-- FCAL_DUE (R543): FCAL_H passes and a block group's read offset is swept. -/
  | fcalDue (c : Nat) (d : Nat) (plane : Nat) (group : Nat) (below : Nat) (present : Nat) (above : Nat)
  /-- ONFI_ZQ_DUE (R543): 24 h pass for a channel and ONFI ZQ and DCC are recalibrated. -/
  | onfiZqDue (c : Nat)
  /-- CAP_TEST_DUE (R545): CAP_DAYS pass, or an hour after a refused test, and the capacity test starts or is refused. -/
  | capTestDue
  /-- CAP_GO (R545): Writing UPK_CAP.CAP_GO starts a capacity test. -/
  | capGo (p : Port)
  /-- CAP_MAX_EXPIRY (R545): CAP_MAX_S passes in a capacity test and the test finishes with the last reading. -/
  | capMaxExpiry (late : Option Nat)
  /-- WEAR_HORIZON_UPDATE (R548): Once a day UPK computes the life fraction and WEAR_HORIZON. -/
  | wearHorizonUpdate
  /-- TELEMETRY_SAMPLE (R550): TEL_MS passes and UPK samples the telemetry values. -/
  | telemetrySample (tj : Int) (mw : Nat)
  /-- DSCR_MPOP (R551): Any write to DSCR_MPOP removes the head of the marked-islet list. -/
  | dscrMpop (p : Port)
  /-- TAP_RESET (R553): TRST# low or five TMS-high edges reset the TAP and end test mode. -/
  | tapReset
  /-- EXTEST (R555): EXTEST takes the pins and enters test mode. -/
  | extest (pins : Nat) (shifted : Option Nat)
  /-- SAMPLE (R554): SAMPLE captures the pins in the boundary register. -/
  | sample (pins : Nat)
  /-- PRELOAD (R554): PRELOAD loads the boundary register's update stage. -/
  | preload (pins : Nat) (shifted : Option Nat)
  /-- IDCODE (R560): IDCODE selects the 32-bit identification register. -/
  | idcode
  /-- CLAMP (R554): CLAMP holds the pins and selects bypass, entering test mode. -/
  | clamp
  /-- HIGHZ (R554): HIGHZ floats the pins and selects bypass, entering test mode. -/
  | highz
  /-- EXTEST_PULSE (R559): EXTEST_PULSE drives the AC-coupled lanes under IEEE 1149.6. -/
  | extestPulse (pins : Nat) (shifted : Option Nat)
  /-- EXTEST_TRAIN (R559): EXTEST_TRAIN toggles the AC-coupled lanes under IEEE 1149.6. -/
  | extestTrain (pins : Nat) (shifted : Option Nat)
  /-- SYS_ID (R561): SYS_ID selects the 256-bit identity register. -/
  | sysId
  /-- TST_RESET (R557): TST_RESET requests a device reset with SRC 0x7 through the quiesce. -/
  | tstReset
  /-- ATOL_READ (R562): ATOL_READ reads an Atoll word through TST's window at Update-DR. -/
  | atolRead (word : Nat) (cbits : Nat) (ue : Bool) (ready : Bool)
  /-- ATOL_EC (R563): ATOL_EC returns an Atoll block's erase count in test mode. -/
  | atolEc (b : Nat)
  /-- BYPASS (R554): BYPASS, or any unlisted code, selects the bypass register. -/
  | bypass (code : Nat)
  /-- PORT_DOWN (R19): A trained Strait port loses training, raising PORT_DOWN and leaving frames to the other path or to silence. -/
  | portDown (port : Nat)
  /-- LINK_RECOVERY (R363): The host link enters Recovery on lane errors, counting HLK_RECOV and raising LINK_RECOVERY, possibly downtraining. -/
  | linkRecovery (errors : List (Nat × Nat)) (down : Option (Nat × List LaneEnd))
  /-- L1_ENTRY (R522): The host link enters L1 by ASPM, starting the TERRACE_IDLE_US wait and making TERRACE requests admissible. -/
  | l1Entry
  /-- HOT_RESET (R363): An in-band hot reset on the host link clears Mem_Enable and resets the link. -/
  | hotReset
  /-- HOLD_RAIL_RETURN (R148): VDD_3V3_HOLD rises back to V_TRIP or above, starting the RET_MS wait for warm start or reset release. -/
  | holdRailReturn
  /-- SHARE_TIMEOUT (R155): A saving member receives no SHARE update for 3 × POLL_MS and continues on its time account alone. -/
  | shareTimeout
  /-- GATED_PAGE_READ (R36): A read of a gated or powered-off page returns 0xFFFF_FFFF or is not acknowledged and is recorded in SYS_ACCOFF. -/
  | gatedPageRead (p : Port) (addr : Nat)
  /-- UNLISTED_FRAME_TYPE (R372): A Strait frame of a type not listed is discarded and counted in STRT_DROP. -/
  | unlistedFrameType (h : FrameHdr)
  /-- BAD_OP (R504): A service-port request with an OP not listed is answered BAD_OP. -/
  | badOp (tag : Nat) (good : Bool)
  /-- SB_COMMAND_REFUSED (R495): A sideband transaction with a command code other than 0x01, 0x02 or 0x0F is not acknowledged at its command byte and recorded in TWS_LAST. -/
  | sbCommandRefused (code : Nat)
  deriving DecidableEq, Repr

end Sys2Proof
end

