-- ==== Sys2Proof/Machine/State.lean ====
section
/-! DEFINITION. The state of the HZ-8160: every register, FIFO, buffer, counter, mode and pin the spec gives the
block, as plain data, and the machine at power-on reset (R393). -/

namespace Sys2Proof.Machine

/-- Sparse data by key in ONE canonical form: keys strictly rising, no entry equal to what an unlisted key reads as. -/
abbrev Sparse (β : Type) := List (Nat × β)

/-- What stops the machine. -/
inductive Fault where
  /-- A CXL.mem request names a line outside the host-visible device physical address space (R57, R341): no such
  address exists, and the HDM decoders never produce it. Raised by the CXL.mem commands. Safe: the
  model stops where the spec gives the controller nothing to do. -/
  | lineOutsideMemory
  deriving DecidableEq, Repr

/-- Why a command has no answer. -/
inductive Refusal where
  /-- The command of this mnemonic has no meaning in the model yet; raised by its arm of `exec`. Safe. -/
  | notModelled (mnemonic : String)
  deriving DecidableEq, Repr

/-! ### The module around the controller -/

/-- The poll entry of the module's fuel gauge, as the configuration store holds it (R79, R487). -/
structure GaugeCfg where
  addr : Nat
  cmd : Nat
  proto : Nat
  pec : Bool
  intervalMs : Nat
  mult : Nat
  shift : Nat
  deriving DecidableEq, Repr

/-- What the controller is strapped and fitted with (R9, R12, R15, R16, R561): fixed for one module, and data, so that
a statement can speak of every module. -/
structure ModuleCfg where
  dramGiB : Nat
  diesPerChannel : List Nat
  dieGiB : Nat
  mixedDies : Bool
  gauge : Option GaugeCfg
  ecRated : Nat
  density : Nat
  rate : Nat
  rank2 : Bool
  height : Nat
  rcd : Bool
  cascId : Nat
  cascRing : Bool
  sbAddr : Nat
  planes : Nat
  ppbTlc : Nat
  ppbSlc : Nat
  bpp : Nat
  romVer : Nat
  fuse : List Word
  deriving DecidableEq, Repr

/-! ### Where the save array keeps a copy, and what its journal says (R221) -/

/-- A location value (R221). -/
structure Loc64 where
  kind : Nat
  prov : Bool
  slc : Bool
  col : Nat
  row : Nat
  skerry : Nat
  ep27 : Nat
  deriving DecidableEq, Repr

/-- A journal entry (R221). -/
inductive JEntry where
  | copy (islet : Nat) (loc : Loc64)
  | reloc (islet : Nat) (loc : Loc64)
  | poison (islet k : Nat) (mask : BitVec 64)
  | band (skerry dest eraseCount : Nat)
  | subst (skerry col block : Nat)
  | redirect (skerry col channel die block row stripeRow : Nat)
  | dieFail (die channel : Nat)
  deriving DecidableEq, Repr

/-! ### PERS -/

/-- The state code PERS stores for an islet; DIRTY and COOLING share one code (R61). -/
inductive IState where
  | zero | durable | dirty | inCopy | provisional | clean
  deriving DecidableEq, Repr

/-- An islet record (R59); `stamp` and `entry` hold 48 bits. -/
structure IsletRec where
  st : IState
  stamp : Nat
  entry : Nat
  deriving DecidableEq, Repr

/-- One line of DRAM: its data, and whether it reads as poison or uncorrectable (R320). -/
structure Line where
  data : LineData
  poison : Bool
  ue : Bool
  deriving DecidableEq, Repr

/-- A CXL.mem request: a read, or a write of the bytes enabled in `be`; `hint` is its decoder's page hint (R309),
`seq` its place in the order of arrival, `tag` what its answer carries, `none` once the answer is to be discarded (R363),
and `own` marks a write of the controller's own that acts as a host write and
has no completion (R277, R349). -/
structure MemReq where
  own : Bool
  seq : Nat
  tag : Option Nat
  line : Nat
  hint : Nat
  write : Bool
  data : LineData
  be : BitVec 64
  poison : Bool
  deriving DecidableEq, Repr

/-- A write in the budget hold queue and the pass at which it entered (R82 to R84). -/
structure HeldWrite where
  req : MemReq
  since : Nat
  deriving DecidableEq, Repr

/-- Where a shadow copy stands: being read, staged, or programmed and journalled in an epoch (R70, R104). -/
inductive CopyPhase where
  | reading
  | staged
  | journalled (epoch : Nat)
  deriving DecidableEq, Repr

/-- What a copy of an islet is: its data, a zero record, or a poison record (R105, R178, R221). -/
inductive CopyKind where
  | data | zero | poison
  deriving DecidableEq, Repr

/-- A shadow copy that is not yet sealed: its stream and its place in the stream's staging bank, read-start epoch, marks, the lines it
carries, and where it is programmed (R64, R103). -/
structure Copy where
  islet : Nat
  stream : Nat
  place : Nat
  r : Nat
  prov : Bool
  slc : Bool
  swept : Bool
  capped : Bool
  kind : CopyKind
  phase : CopyPhase
  lines : List (Nat × Line)
  stagedAt : Nat
  loc : Loc64
  deriving DecidableEq, Repr

/-- An entry of the cooling queue or of the return list: an islet and the epoch it entered COOLING (R97). -/
structure CoolEntry where
  islet : Nat
  tag : Nat
  deriving DecidableEq, Repr

/-- The tail of a closed epoch: whether its walk is complete, its seal has read back, its plane is cleared (R71). -/
structure Tail where
  epoch : Nat
  closedAt : Nat
  walked : Bool
  sealed : Bool
  deriving DecidableEq, Repr

/-- An open barrier; `count` is `none` until its epoch has closed (R88). -/
structure Barrier where
  seq : Nat
  tag : Nat
  nb : Nat
  count : Option Nat
  deriving DecidableEq, Repr

/-- A kept post: its sequence number, tag and whether it has completed (R355). -/
structure BarrierPost where
  seq : Nat
  tag : Nat
  done : Bool
  deriving DecidableEq, Repr

/-- An erase unit of the SLC band with the islets and data epochs of the copies it holds, the epoch of the newest of
them, the copies a fold has still to treat, and, once none is left, the epoch of its last fold entry (R109, R110). -/
structure BandUnit where
  skerry : Nat
  copies : List (Nat × Nat)
  newest : Nat
  left : Option (List (Nat × Nat))
  foldedIn : Option Nat
  deriving DecidableEq, Repr

/-- The persistence engine's state that is not a register (R57 to R116). -/
structure Pers where
  plane0 : List Nat
  plane1 : List Nat
  islets : Sparse IsletRec
  running : Bool
  epochBegan : Nat
  epochLen : Nat
  tail : Option Tail
  stretched : Bool
  closeAt : Option (Nat × Nat)
  queue : List CoolEntry
  retq : List CoolEntry
  appendStopped : Bool
  sweepFresh : Bool
  sweepPos : Nat
  barNs : Option Nat
  barPos : Nat
  barOffered : Bool
  barWait : Bool
  copies : List Copy
  barriers : List Barrier
  posts : List BarrierPost
  nextSeq : Nat
  recWait : List HeldWrite
  hold : List HeldWrite
  lastAdmit : Nat
  tokens : Nat
  tokensFilled : Bool
  hit : List Nat
  clearedAt : Option Nat
  deferredAt : Option Nat
  own : Option (Nat × Nat)
  gauge : Option (Nat × Nat)
  tj : Int
  tn : Option (Int × Nat)
  allot : List Nat
  band : List BandUnit
  bandUsed : Nat
  bandFolded : Nat
  lookup : Option Nat
  bpStopped : Bool
  deriving DecidableEq, Repr

/-! ### SAVE -/

/-- Where a running save stands (R127). -/
inductive SaveStep where
  | fenced | data | closeOut | metadata | sealProgrammed
  deriving DecidableEq, Repr

/-- A save in progress (R127 to R156); times are in passes. `cut` is a close-out that falls due before the save set is fixed; `stripe` the
skerry, row and next column of the stripe being filled, `placed` where each islet of a data copy lies, `extra` the blocks that take
redirected members (channel, die, block, next row), `turn` the channel whose turn it is (R146), `entries` the redirects. -/
structure SaveRun where
  t0 : Nat
  step : SaveStep
  fromBasin : Bool
  ef : Nat
  lastSealed : Nat
  nTop : Option Nat
  todo : List Nat
  written : List Nat
  zeros : List Nat
  eT0 : Nat
  gauge : Option (Nat × Nat)
  heard : Nat
  lost : Bool
  cut : Option Nat
  startUs : Nat
  dataUs : Nat
  stripe : Option (Nat × Nat × Nat)
  placed : List (Nat × Loc64)
  extra : List (Nat × Nat × Nat × Nat)
  turn : Nat
  entries : List JEntry
  sealedUs : Nat
  deriving DecidableEq, Repr

/-- What a save seal carries (R140, R158, R222). -/
structure SaveSeal where
  cutTag : Nat
  cutNo : Nat
  ef : Nat
  lastSealed : Nat
  cause : Nat
  short : Bool
  cutCause : Nat
  peerLost : Bool
  failedCh : Nat
  heard : Nat
  written : Nat
  zeros : Nat
  unsaved : List Nat
  startUs : Nat
  dataUs : Nat
  doneUs : Nat
  eT0 : Nat
  deriving DecidableEq, Repr

/-- The save sequencer's state that is not a register. -/
structure Save where
  run : Option SaveRun
  ended : Bool
  failed : Bool
  pfailLow : Bool
  pfailFell : Nat
  railLow : Bool
  railClosed : Bool
  failSeen : Bool
  goodSince : Option Nat
  planSeals : Nat
  keyLoaded : Bool
  holdEn : Bool
  chgEn : Bool
  saveActive : Bool
  saveDone : Bool
  barred : Bool
  startedAt : Option Nat
  gpf : Option Nat
  plan : List Nat
  mediaKey : Option Nat
  deriving DecidableEq, Repr

/-! ### The save array as FARR and RSTR see it -/

/-- What every seal carries (R222). -/
structure SealHead where
  epoch : Nat
  jcw : Nat
  sealType : Nat
  chain : Nat
  prevSealed : Nat
  void : Option (Nat × Nat)
  groupSealed : Nat
  hours : Nat
  deriving DecidableEq, Repr

/-- The fields of the superblock (R215). -/
structure Superblock where
  sbSeq : Nat
  groupTag : Nat
  keyId : Nat
  keySlot : Nat
  devNo : Nat
  groupSize : Nat
  isletSlots : Nat
  hostIslets : Nat
  dpc : Nat
  planes : Nat
  ppbTlc : Nat
  ppbSlc : Nat
  bpp : Nat
  dieId : Nat
  bands : List Nat
  failedDies : Nat
  genNew : Nat
  genOld : Nat
  jring : List Nat
  jsub : List Nat
  deriving DecidableEq, Repr

/-- What a codeword, or a run of consecutive codewords, of the journal band holds beyond pads: a journal codeword with its number
in its epoch, a seal (`failed` when a copy of it failed its read-back and it was written again), an unsaved map, the checkpoint or
the record of the generation of that number (R217 to R227). -/
inductive JBody where
  | journal (epoch k : Nat) (entries : List JEntry)
  | sealRec (head : SealHead) (save : Option (SaveSeal × Nat × Nat)) (failed : Bool)
  | unsavedMap (islets : List Nat)
  | checkpoint (no : Nat)
  | generation (no : Nat)
  | pad
  deriving DecidableEq, Repr

/-- `count` codewords of the journal band from WSEQ `first` on (R217). -/
structure JRun where
  first : Nat
  count : Nat
  body : JBody
  deriving DecidableEq, Repr

/-- A skerry of the journal ring: its number, FIRST_WSEQ and SB_SEQ of its header, and its next free position (R217). -/
structure JSkerry where
  skerry : Nat
  first : Nat
  sbSeq : Nat
  next : Nat
  deriving DecidableEq, Repr

/-- FARR's record of a skerry: its band by the code of a BAND entry (5 the anchor band), its mode, its next free row, whether it is closed to
further rows, and its erases in the SLC reserve band (R198, R212, R221, R249, R258). -/
structure SkRec where
  band : Nat
  slc : Bool
  next : Nat
  closed : Bool
  slcErases : Nat
  deriving DecidableEq, Repr

/-- A generation (R226, R227): GEN_NO, C_G, first WSEQ and number of its checkpoint codewords, JRN_WSEQ, the WSEQ of its record (0
until the record is written), CHAIN of the seal of C_G, and what the checkpoint states: locations, skerries with their erase counts, substitutions. -/
structure Gen where
  no : Nat
  cg : Nat
  ckpt : Nat
  ckptCw : Nat
  jrn : Nat
  recWseq : Nat
  chain : Nat
  locs : Sparse Loc64
  skerries : Sparse (Nat × Nat)
  subst : List (Nat × Nat × Nat)
  deriving DecidableEq, Repr

/-- The two anchor blocks of a channel: their numbers, the versions in the open one and in the other, newest last (R214). -/
structure Anchor where
  openBlk : Nat
  other : Nat
  cur : List Superblock
  old : List Superblock
  deriving DecidableEq, Repr

/-- The physical side of the save array (R199, R212 to R230): the anchors and the superblock in force, WSEQ, the journal ring and what it
holds, the last seal, entries that wait for their epoch's journal codewords, the generations (newest first), the skerries, the
image wordline that folds and relocations fill (skerry, first row, next column), and the skerries on their way to the spare band. -/
structure Media where
  anchors : Sparse Anchor
  sb : Superblock
  wseq : Nat
  ring : List JSkerry
  runs : List JRun
  lastHead : SealHead
  pend : List (Nat × JEntry)
  gens : List Gen
  skerries : Sparse SkRec
  foldAt : Option (Nat × Nat × Nat)
  toSpare : List Nat
  deriving DecidableEq, Repr

/-- A copy in the save array: the epoch that journals it, its data epoch, kind and lines, where it lies, and whether a RELOC entry
named it (R70, R110, R221). -/
structure ArrCopy where
  epoch : Nat
  dataEpoch : Nat
  kind : CopyKind
  prov : Bool
  slc : Bool
  lines : List (Nat × Line)
  loc : Loc64
  reloc : Bool
  deriving DecidableEq, Repr

/-- How the highest sealed epoch of the array is sealed (R160). -/
inductive SealKind where
  | format | ordinary
  | save (rec : SaveSeal)
  deriving DecidableEq, Repr

/-- The save array: its superblock, generation, journalled copies by islet, and the newest seal (R214 to R231).
DESIGN CHOICE, log 60. -/
structure Arr where
  blank : Bool
  groupTag : Nat
  groupSize : Nat
  dramGiB : Nat
  islets : Nat
  keySlot : Nat
  saveNo : Nat
  generation : Nat
  journalPages : Nat
  copies : Sparse (List ArrCopy)
  highSealed : Nat
  sealKind : SealKind
  groupSealed : Nat
  voidFrom : Option Nat
  unsavedMap : List Nat
  deriving DecidableEq, Repr

/-! ### FCH and FARR -/

/-- FARR's record of one block of one plane (R240): BSTATE (0 ERASED, 1 OPEN, 2 CLOSED, 3 BAD, 4 RETIRED), MODE, WP, EC,
EARLY, WORN, and the counts behind R252, R254 and R541. -/
structure BlkRec where
  bstate : Nat
  slc : Bool
  wp : Nat
  ec : Nat
  early : Nat
  worn : Bool
  slow : Nat
  rebuilds : Nat
  reads : Nat
  retire : Bool
  deriving DecidableEq, Repr

/-- A die: STATE (0 absent, 1 working, 2 failed), the operation it runs, the one it has suspended, when it resumed, its
WORN blocks, grown retirements, baseline samples by mode, its failures, and the busy time of its last erase (R240, R251, R254, R256). -/
structure DieRec where
  st : Nat
  busy : Option FOp
  susp : Option FOp
  resumedAt : Option Nat
  worn : Nat
  retired : Nat
  slcTimes : List Nat
  tlcTimes : List Nat
  wearEvents : Nat
  saveFails : Nat
  resetTried : Bool
  eraseUs : Nat
  deriving DecidableEq, Repr

/-- What a stripe's copies are: shadow copies, or copies a fold or a relocation rewrites (R110, R230). -/
inductive StripeFor where
  | shadow | fold | save
  deriving DecidableEq, Repr

/-- A stripe being programmed, or the three rows of a TLC wordline (R204, R207, R244): the skerry and first row it goes to, its copies
(islet and read-start epoch) in column order, the columns whose member is programmed, and how often it was redirected (R249). -/
structure Stripe where
  id : Nat
  skerry : Nat
  row : Nat
  use : StripeFor
  slc : Bool
  islets : List (Nat × Nat)
  done : List Nat
  redirects : Nat
  deriving DecidableEq, Repr

/-- FCH's and FARR's state that is not a register (R234 to R265): among it the dies without a valid parameter page or profile and the
profile of the others (R233), whether the factory marks have been read (R253), the die each queue of a channel served last (R237), the
rate each channel was trained at in MT/s (R261), the codewords that no step of the ladder recovered, as skerry, row, slot and column
(R247), and the blocks that take members redirected outside a save, with the channel whose turn is next (R146, R257). -/
structure Farr where
  queues : Sparse (List FOp)
  dies : Sparse DieRec
  blocks : Sparse BlkRec
  stripes : List Stripe
  nextStripe : Nat
  levels : Sparse Nat
  substitutes : List (Nat × Nat × Nat)
  relocating : List Nat
  lookup : Option Nat
  trainFails : Sparse Nat
  warned : Bool
  missing : List Nat
  profiles : Sparse Nat
  marked : Bool
  served : Sparse (List (FQueue × Nat))
  lost : List (Nat × Nat × Nat × Nat)
  rates : Sparse Nat
  extra : List (Nat × Nat × Nat × Nat)
  turn : Nat
  media : Media
  deriving DecidableEq, Repr

/-! ### The movers -/

/-- A completion record (R297): KIND 0 HALT, 1 SIGNAL, 2 ABORT. -/
structure MovRec where
  chan : Nat
  kind : Nat
  coincident : Bool
  cause : Nat
  pc : Nat
  code : Nat
  pass : Nat
  cycle : Nat
  deriving DecidableEq, Repr

/-- A mover channel: its PC, the word or words of the MOVE or SPREAD in progress with the bursts it has issued, when it fetched the WAIT it is in, the
order in which it was started, whether a START waits for the tick, its collector slot, and a record that waits for
the slot (R292 to R298). -/
structure MovChan where
  pc : Nat
  cur : Option (BitVec 64 × BitVec 64)
  issued : Nat
  waitAt : Nat
  startNo : Nat
  starting : Bool
  slot : Option MovRec
  blocked : Option MovRec
  deriving DecidableEq, Repr

/-- The tag of a 64 KiB staging slot: the islet and RD_EPOCH of its copy, and the zero flag ZSCAN sets (R278, R283). -/
structure SlotTag where
  islet : Nat
  rd : Nat
  zero : Bool
  deriving DecidableEq, Repr

/-- The movers' state that is not a register (R266 to R300): `cells` are the lines SPREAD has placed behind stripe
handles, `events` the Strait events that have arrived, by the channel that waits for them, `turns` the channel that each group's port
served last at each priority level (R271), `statusBy` the words whose STATUS the channels wrote in the pass `statusAt` (R284). -/
structure Mov where
  chans : Sparse MovChan
  pm : Sparse (BitVec 64)
  stage : Sparse Line
  tags : Sparse SlotTag
  cells : Sparse LineData
  statusBy : List (Nat × Nat)
  statusAt : Nat
  ring : List MovRec
  drained : Nat
  holders : List (Nat × Nat)
  starts : Nat
  events : List (Nat × Nat)
  turns : List (Nat × Nat × Nat)
  deriving DecidableEq, Repr

/-! ### RSTR -/

/-- A member's image status as the master collects it (R186). -/
structure MemberImage where
  member : Nat
  groupTag : Nat
  h : Nat
  cut : Nat
  cls : Nat
  deriving DecidableEq, Repr

/-- RSTR's state that is not a register (R159 to R193): among it the generations that validated at detection, the islet location
table (R166), and for the data and the zero-fill stream the step of R177's order it is in: 0 the hint ranges, 1 the unsaved islets, 2 the
rest (R177, R194). -/
structure Rstr where
  interlock : Bool
  restored : List Nat
  unsaved : List Nat
  poisonPending : List Nat
  heldTable : List MemReq
  faultQ : List (Nat × Nat)
  slots : List (Nat × Nat)
  firstEpoch : Nat
  statuses : List MemberImage
  settled : Option (Nat × Nat)
  waitFrom : Nat
  t0 : Nat
  banks : Bool
  cls : Nat
  point : Nat
  heardMask : Nat
  table : Sparse Loc64
  gens : List Nat
  bgStep : Nat
  zeroStep : Nat
  deriving DecidableEq, Repr

/-! ### FLT -/

/-- A coded message in a source's pending register (R412); `parent` names the scope that shadowed it (R425). -/
structure FltMsg where
  page : Nat
  src : Nat
  kind : Nat
  addr : Nat
  sev : Nat
  inj : Bool
  cycle : Nat
  pass : Nat
  rep : Nat
  conseq : Bool
  parent : Nat
  deriving DecidableEq, Repr

/-- A fault record (R419). -/
structure FltRec where
  fseq : Nat
  cluster : Nat
  sev : Nat
  coincident : Bool
  conseq : Bool
  inj : Bool
  dry : Bool
  src : Nat
  kind : Nat
  rep : Nat
  reaction : Nat
  addr : Nat
  parent : Nat
  pass : Nat
  cycle : Nat
  stall : Nat
  deriving DecidableEq, Repr

/-- How far a reset has come: to be asserted at the next tick, asserted, or released and settling (R421, R425). -/
inductive ScopePhase where
  | waiting | asserted | settling
  deriving DecidableEq, Repr

/-- A reset in progress: its scope, the FSEQ that began it (0 when FLT did not), and when its phase began. -/
structure Scope where
  what : ScopeOf
  parent : Nat
  phase : ScopePhase
  since : Nat
  detected : Nat
  deriving DecidableEq, Repr

/-- FLT's state that is not a register (R411 to R431). -/
structure Flt where
  pend : Sparse FltMsg
  log : List FltRec
  first : Option FltRec
  fatal : Option FltRec
  scopes : List Scope
  resets : List (Nat × Nat)
  lastReal : Sparse (Nat × Nat)
  lastTime : Option (Nat × Nat)
  fatalDue : Bool
  crashes : List (Nat × Nat)
  deriving DecidableEq, Repr

/-! ### REC -/

/-- An event record (R440); `kind` and `sev` are the fault's, for the merge rule (R443). -/
structure RecRec where
  rseq : Nat
  typ : Nat
  flags : Nat
  block : Nat
  nsnap : Nat
  set : Nat
  code : Nat
  rep : Nat
  cycles : Nat
  hours : Nat
  setGen : Nat
  pass : Nat
  lastPass : Nat
  lastAt : Nat
  detail : List Word
  snap : List Word
  good : Bool
  deriving DecidableEq, Repr

/-- A record read in progress (R452). -/
structure RecRead where
  reader : Port
  rseq : Nat
  deriving DecidableEq, Repr

/-- REC's state that is not a register (R438 to R454). -/
structure Recorder where
  ring : List RecRec
  atoll : List RecRec
  nextSeq : Nat
  refused : Nat
  afterFreeze : Bool
  afterLoss : Bool
  frozen : Bool
  frozenEvents : Nat
  frozenAt : Nat
  flushing : Bool
  flushTo : Nat
  tenths : Nat
  lastRecordTenths : Nat
  setGen : List Nat
  setDirty : List Nat
  reads : List RecRead
  slotAge : Nat
  deriving DecidableEq, Repr

/-! ### CLK, RST, PWR, SEM, MGP -/

/-- How far a start has come (R400, R406). -/
inductive StartPhase where
  | off | booting | verified | configured | trained | active | recovery
  deriving DecidableEq, Repr

/-- RST's state that is not a register (R393 to R407); `stalled` are the PLLs whose block stalls until they relock (R409). -/
structure Rst where
  phase : StartPhase
  startedAt : Nat
  keys : List (Port × Nat)
  quiesce : Option Nat
  quiesceAt : Nat
  held : Option Nat
  settingsKept : Bool
  selfRefresh : Bool
  checkWord : Bool
  rcvRequest : Bool
  rcvSampled : Bool
  fuseOk : Bool
  volatile : Bool
  volCause : Nat
  afterSave : Bool
  alive : Bool
  aliveRun : Bool
  stalled : List Nat
  deriving DecidableEq, Repr

/-- PWR's state that is not a register (R520 to R531). -/
structure Pwr where
  entering : Option Nat
  leftState : Nat
  since : Nat
  switching : Bool
  wakeCode : Option Nat
  enteredAt : Nat
  l1Since : Option Nat
  deriving DecidableEq, Repr

/-- The lease of a held semaphore (R41): its length in ms, the pass in which it began, and whether it has run out. -/
structure Lease where
  ms : Nat
  since : Nat
  out : Bool
  deriving DecidableEq, Repr

/-- A claim to a free resource entry that succeeded: the entry, the claimant's block, its enable bit, the requester that wrote
it and when (R47). -/
structure Claim where
  entry : Nat
  block : Nat
  addr : Nat
  lo : Nat
  port : Port
  tick : Nat
  deriving DecidableEq, Repr

/-- MGP's state that is not a register (R50 to R52), and the last claim to each resource entry (R47). -/
structure Mgp where
  claims : List Claim
  was : List Nat
  held : List Nat
  sbAlert : Bool
  msixEn : Bool
  fnMasked : Bool
  masked : List Nat
  deriving DecidableEq, Repr

/-- A committed HDM decoder: base and size of its HPA range, its first device physical address, its interleave ways, and
the pass from which it decodes (R341). -/
structure HdmDecoder where
  base : Nat
  size : Nat
  dpa : Nat
  ways : Nat
  since : Nat
  deriving DecidableEq, Repr

/-- The host link's state that is not a register (R336 to R364); `held` after LINK_FAIL until PERST# is released
(R337), `x8` the width in force since the start (R363). -/
structure Hlk where
  linkUp : Bool
  inL1 : Bool
  inL2 : Bool
  perst : Bool
  memEnable : Bool
  fenced : Bool
  buf : List MemReq
  nextReq : Nat
  stopSince : Nat
  badEntries : List Nat
  held : Bool
  x8 : Bool
  decs : Sparse (Option HdmDecoder)
  deriving DecidableEq, Repr

/-- A record of a CXL event log (R361): its handle, what happened (the row of R361's table), the device physical address,
and its timestamp. -/
structure CxlEvent where
  handle : Nat
  what : Nat
  dpa : Nat
  stamp : Nat
  deriving DecidableEq, Repr

/-- The mailbox's state (R349 to R362): the four event logs (0 informational, 1 warning, 2 failure, 3 fatal) with their
overflow counts and the timestamps of the first and last overflow, the interrupt policy, the timestamp base with the pass at which it was set, the alert configuration,
the source of each poisoned line that is not external (1 internal, 2 injected) with the list's overflow timestamp and how many
of its records the listing in progress has returned, the background command, whether Sanitize has disabled the media until the
next start, the key-import session, and the causes of maintenance and degraded health. -/
structure Mbox where
  logs : Sparse (List CxlEvent)
  overflow : Sparse (Nat × Nat × Nat)
  nextHandle : Nat
  policy : List Nat
  stampBase : Nat
  stampAt : Nat
  alert : List (BitVec 8)
  poison : Sparse Nat
  poisonOverflow : Option Nat
  poisonAt : Nat
  background : Option Nat
  mediaOff : Bool
  session : Option Nat
  sessions : Nat
  maintenance : Bool
  degraded : Bool
  deriving DecidableEq, Repr

/-! ### DRC -/

/-- What a DRAM request is charged to: a demand restore, host service, a class of the pass scheduler, or no class, as refresh, training
and corrected write-backs are (R306, R308). -/
inductive DramClass where
  | demand
  | host
  | share (c : Nat)
  | free
  deriving DecidableEq, Repr

/-- A line request in a bank's queue: its line, class and page hint, whether it writes, and how many reads and writes to other rows of its
bank have passed it over (R305 to R309). -/
structure DramReq where
  line : Nat
  cls : DramClass
  hint : Nat
  write : Bool
  passed : Nat
  deriving DecidableEq, Repr

/-- The DRAM controllers' state that is not a register (R304 to R335): the open row of each bank (row + 1, 0 when closed),
the refreshes each logical rank of a subchannel owes, the CA alerts of this pass, the subchannels stopped by an alert,
in a storm, and in an in-place retrain, the corrections of each device this scrub round, the DRAM lines whose repair is
requested, whether DTRN stops after its line, the DRCs whose last cold start put FGR mode and REFsb in force (R332), the requests in
the bank queues, oldest first (R305), and the bank group of each subchannel's last activate (R306). -/
structure Drc where
  rows : Sparse Nat
  owed : Sparse Nat
  alerts : List (Nat × Nat)
  stopped : List Nat
  storm : List Nat
  retraining : List Nat
  devCorr : Sparse Nat
  repairs : List Nat
  dtrnStop : Bool
  fgr : List Nat
  refSb : List Nat
  queue : List DramReq
  lastBg : Sparse Nat
  deriving DecidableEq, Repr

/-! ### STRT -/

/-- What a controller holds of a device of its group (R368, R372, R377, R378): when it was last heard, its latest
HEARTBEAT, MEMBER_INFO, TAIL_DONE and SEALED reports, and the sequence numbers of the frames taken from it (R371). -/
structure Peer where
  heard : Option Nat
  state : Nat
  master : Nat
  power : Nat
  rate : Nat
  fixed : Nat
  res : Nat
  left : Nat
  saving : Bool
  saveDone : Bool
  tailDone : Option Nat
  collecting : Nat
  sealed : Nat
  xseal : Nat
  seen : List Nat
  deriving DecidableEq, Repr

/-- STRT's state that is not a register (R365 to R388): what the controller knows of each device, the census, its own
frame sequence number, consecutive offsets outside the window, a step to be taken at the next tick, the master's
planned close and close number, the age base of the last share, and when the group-sealed epoch last advanced. -/
structure Strt where
  peers : Sparse Peer
  census : List Nat
  trainedAt : Option Nat
  censusDone : Bool
  everMaster : Bool
  masterHeard : Bool
  seq : Nat
  badSyncs : Nat
  step : Option (Nat × Nat)
  lastClose : Nat
  closeSent : Bool
  closeN : Nat
  shareAt : Option Nat
  gsAt : Nat
  gsHeld : Bool
  saveSent : Bool
  deriving DecidableEq, Repr

/-! ### ATOL -/

/-- A 32-byte code word of Atoll: its data, used marker (R464), and whether an interrupted operation left it undefined
(R472). -/
structure CodeWord where
  data : BitVec 256
  used : Bool
  undef : Bool
  deriving DecidableEq, Repr

/-- The condition of the physical block that serves a logical block of Atoll (R471, R477): its erase count, whether an
EARLY read has come since its last erase, the run of programs above PULSE_WARN, the mark for retirement, BAD. -/
structure AtolBlk where
  ec : Nat
  early : Bool
  slow : Nat
  marked : Bool
  bad : Bool
  deriving DecidableEq, Repr

/-- The operations of Atoll: a code-word program, a block erase, a boot swap, and a change of protection level. -/
inductive AtolKind where
  | program (cw : Nat) (data : BitVec 256)
  | erase (block : Nat)
  | swap
  | protect (level : Nat)
  deriving DecidableEq, Repr

/-- An Atoll operation and its source, by the code of ATOL_ARRAY.SOURCE (R463, R470). -/
structure AtolOp where
  src : Nat
  kind : AtolKind
  deriving DecidableEq, Repr

/-- A source's command sequence in progress (R461, R462): the command, its level, the data words so far, the window
offset of the first, and the pass of the last cycle. -/
structure AtolSeq where
  op : Nat
  level : Nat
  words : List Word
  first : Nat
  since : Nat
  deriving DecidableEq, Repr

/-- A boot selector record (R473). -/
structure Selector where
  seq : Nat
  active : Nat
  updPend : Bool
  wipePend : Bool
  prot : Nat
  deriving DecidableEq, Repr

/-- Atoll's state that is not a register (R455 to R480). -/
structure Atol where
  cells : Sparse CodeWord
  selLog : Sparse (Option Selector)
  undefBlocks : List Nat
  blocks : Sparse AtolBlk
  spares : List Nat
  sel : Selector
  selAt : Nat
  running : Option AtolOp
  erase : Option AtolOp
  halted : Bool
  bySave : Bool
  queue : List AtolOp
  seqs : Sparse (Option AtolSeq)
  wipeTo : Nat
  deriving DecidableEq, Repr

/-- A media-key slot of Atoll: its KEY_ID, and the wrapped media key (R209). -/
structure KeySlot where
  keyId : Nat
  key : Nat
  deriving DecidableEq, Repr

/-- What the configuration store and the key slots of Atoll keep, beyond the stored register values (R164, R209, R211,
R328, R351, R359, R456): the dirty-shutdown count with GROUP_TAG and H of its last raise, the host's shutdown flag, the
sanitize and format pending flags, the eight key slots, the rate and FGR setting of each DRC of the stored training results (R329), the group tag and
size of a pending format, and the format version of the store in force with the older versions kept beside it (R517). -/
structure Kept where
  dsc : Nat
  dscAt : Option (Nat × Nat)
  shutdown : Nat
  sanitize : Bool
  format : Bool
  keys : Sparse (Option KeySlot)
  trained : Option (List (Nat × Nat))
  formatTag : Nat
  formatSize : Nat
  cfgVer : Option Nat
  older : List (Nat × Sparse Word)
  deriving DecidableEq, Repr

/-! ### TWL and TWS -/

/-- A transaction of the local bus (R483). -/
inductive TwlWork where
  | poll (n : Nat)
  | ara
  | glen
  | mgmt
  deriving DecidableEq, Repr

/-- TWL's state that is not a register (R483 to R490). -/
structure Twl where
  cur : Option TwlWork
  retries : Nat
  lost : Bool
  due : List Nat
  doneAt : Sparse Nat
  goodAt : Sparse (Option Nat)
  mgmt : Option (Word × List Word)
  next : Option (Word × List Word)
  glen : Nat
  alertLow : Bool
  araAt : Option Nat
  araBackoff : Bool
  notifies : List (Nat × Nat)
  deriving DecidableEq, Repr

/-! ### SVC and TST -/

/-- The header fields of an update package (R506). -/
structure Package where
  baseDigest : Nat
  baseLen : Nat
  targetLen : Nat
  targetDigest : Nat
  targetVer : Nat
  cfgVer : Nat
  minRom : Nat
  bodyLen : Nat
  bodyCrc : Nat
  deriving DecidableEq, Repr

/-- The service port's state that is not a register (R499 to R519): the tag of the last good request, whether a background
command runs, whether the download in hand is a recovery image, its target Isle and header, the bytes received, and the
offsets at which the buffers still being applied end. -/
structure Svc where
  lastTag : Nat
  background : Bool
  rcv : Bool
  target : Nat
  pkg : Package
  imgCrc : Nat
  body : List (BitVec 8)
  waiting : List Nat
  deriving DecidableEq, Repr

/-- TST's state that is not a register (R553 to R564): the update stage of the boundary register, an instruction that waits
for SAVE_DONE, whether a start has still to show that test mode was seen, and the answer of the last Atoll access. -/
structure Tst where
  cells : Nat
  waiting : Option Nat
  seen : Bool
  atol : Nat
  deriving DecidableEq, Repr

/-! ### DSCR and UPK -/

/-- The scrub's state that is not a register (R536 to R538). -/
structure Dscr where
  acc : Nat
  due : Nat
  marks : List Nat
  roundBegan : Nat
  roundOpen : Bool
  lateRaised : Bool
  deriving DecidableEq, Repr

/-- The upkeep scheduler's state that is not a register (R540 to R550): when each calibration of a rank, block group or
channel last ran and at which temperature, those due by a temperature, the ranks whose write delays are adjusted at their
next refresh, the flash reads a retention round and the read-disturb scans still have to make (by block), the retention
round, the capacity test, the daily life fractions of each die, and what has moved since the last telemetry sample: lines
read and written by the host, islets shadowed, and flash pages programmed, with the board temperature. -/
structure Upk where
  ran : Sparse (Option (Nat × Int))
  due : List Nat
  dqDue : List Nat
  scan : List Nat
  disturb : List Nat
  retAt : Nat
  retFirst : Bool
  capAt : Nat
  capRefused : Bool
  capStart : Nat
  capEa : Nat
  capLast : Nat
  wearAt : Nat
  wear : Sparse (List Nat)
  pctWarned : Bool
  daysBelow : Bool
  telAt : Nat
  telRd : Nat
  telWr : Nat
  telShadow : Nat
  telPages : Nat
  resMax : Nat
  tb : Option (Int × Nat)
  deriving DecidableEq, Repr

/-! ### The machine -/

/-- What the controller has sent out, newest first: the model's own record of its outputs, no register of the spec. -/
inductive Out where
  /-- A register read answered at a port (R30). -/
  | regData (p : Port) (addr : Nat) (w : Word)
  /-- A sideband data phase not acknowledged (R36). -/
  | regNack (p : Port) (addr : Nat)
  /-- A CXL.mem write completion (R54). -/
  | memDone (tag : Nat)
  /-- CXL.mem read data, and whether it carries poison (R53). -/
  | memData (tag : Nat) (data : LineData) (poison : Bool)
  /-- An MSI-X message (R51). -/
  | msix (vector : Nat)
  /-- A mailbox completion: return code and payload bytes (R353). -/
  | mailbox (code : Nat) (payload : List (BitVec 8))
  /-- A 32-byte Strait frame leaving a port: 0 UP, 1 DOWN (R369, R371). -/
  | frame (port : Nat) (bytes : List (BitVec 8))
  /-- A service-port response: status and payload bytes (R504). -/
  | service (status : Nat) (payload : List (BitVec 8))
  /-- Bytes answered on a two-wire bus. -/
  | smbus (payload : List (BitVec 8))
  /-- A value captured for JTAG. -/
  | jtag (bits : Nat)
  /-- A completion record drained to Glen firmware (R298). -/
  | moverRecord (words : List Word)
  /-- A PCIe or CXL link-level answer: a code and a value. -/
  | link (code : Nat) (value : Nat)
  deriving DecidableEq, Repr

/-- The whole machine. -/
structure State where
  mdl : ModuleCfg
  regs : Sparse Word
  late : Sparse Word
  latch : Sparse Word
  now : Nat
  freeCtr : Nat
  dram : Sparse Line
  cfgStore : Sparse Word
  kept : Kept
  leases : Sparse Lease
  mgp : Mgp
  flt : Flt
  recd : Recorder
  rst : Rst
  pwr : Pwr
  pers : Pers
  save : Save
  arr : Arr
  farr : Farr
  mov : Mov
  rstr : Rstr
  hlk : Hlk
  drc : Drc
  strt : Strt
  atol : Atol
  twl : Twl
  mbox : Mbox
  svc : Svc
  tst : Tst
  dscr : Dscr
  upk : Upk
  out : List Out
  pending : List Instr
  deriving DecidableEq, Repr

/-! ### The machine at power-on reset (R393): every part of the state before the first command -/

/-- PERS at reset. -/
def Pers.init : Pers :=
  { plane0 := [], plane1 := [], islets := [], running := false, epochBegan := 0, epochLen := 0, tail := none
    stretched := false, closeAt := none, queue := [], retq := [], appendStopped := false, sweepFresh := false
    sweepPos := 0, barNs := none, barPos := 0, barOffered := false, barWait := false, copies := [], barriers := []
    posts := [], nextSeq := 1, recWait := [], hold := [], lastAdmit := 0, tokens := 0, tokensFilled := false, hit := [], clearedAt := none, deferredAt := none, own := none
    gauge := none, tj := 0, tn := none, allot := [], band := [], bandUsed := 0
    bandFolded := 0, lookup := none, bpStopped := false }

/-- SAVE at reset; the pins low as R407 states. -/
def Save.init : Save :=
  { run := none, ended := false, failed := false, pfailLow := false, pfailFell := 0, railLow := false, railClosed := false
    failSeen := false, goodSince := some 0, planSeals := 0, keyLoaded := false, holdEn := false, chgEn := false
    saveActive := false, saveDone := false, barred := false, startedAt := none, gpf := none, plan := [], mediaKey := none }

/-- A save array that was never formatted. DESIGN CHOICE, log 9. -/
def Arr.init : Arr :=
  { blank := true, groupTag := 0, groupSize := 0, dramGiB := 0, islets := 0, keySlot := 0, saveNo := 0, generation := 0
    journalPages := 0, copies := [], highSealed := 0, sealKind := .format, groupSealed := 0, voidFrom := none
    unsavedMap := [] }

/-- No superblock. -/
def Superblock.none : Superblock :=
  ⟨0, 0, 0, 0, 0, 0, 0, 0, 0, 0, 0, 0, 0, 0, [], 0, 0, 0, [], []⟩

/-- An array with nothing written. DESIGN CHOICE, log 9. -/
def Media.init : Media :=
  { anchors := [], sb := Superblock.none, wseq := 1, ring := [], runs := [], lastHead := ⟨0, 0, 0, 0, 0, none, 0, 0⟩, pend := []
    gens := [], skerries := [], foldAt := none, toSpare := [] }

/-- FCH and FARR at reset. -/
def Farr.init : Farr :=
  { queues := [], dies := [], blocks := [], stripes := [], nextStripe := 1, levels := [], substitutes := []
    relocating := [], lookup := none, trainFails := [], warned := false, missing := [], profiles := [], marked := false, served := [], lost := []
    rates := [], extra := [], turn := 0
    media := Media.init }

/-- The movers at reset. -/
def Mov.init : Mov :=
  { chans := [], pm := [], stage := [], tags := [], cells := [], statusBy := [], statusAt := 0, ring := [], drained := 0, holders := [], starts := 0
    events := [], turns := [] }

/-- RSTR at reset. -/
def Rstr.init : Rstr :=
  { interlock := false, restored := [], unsaved := [], poisonPending := [], heldTable := [], faultQ := [], slots := []
    firstEpoch := 0, statuses := [], settled := none, waitFrom := 0, t0 := 0, banks := false, cls := 0
    point := 0, heardMask := 0, table := [], gens := [], bgStep := 0, zeroStep := 0 }

/-- FLT at reset. -/
def Flt.init : Flt :=
  { pend := [], log := [], first := none, fatal := none, scopes := [], resets := [], lastReal := [], lastTime := none
    fatalDue := false, crashes := [] }

/-- REC at reset. -/
def Recorder.init : Recorder :=
  { ring := [], atoll := [], nextSeq := 1, refused := 0, afterFreeze := false, afterLoss := false, frozen := false
    frozenEvents := 0, frozenAt := 0, flushing := false, flushTo := 0, tenths := 0, lastRecordTenths := 0
    setGen := [0, 0, 0, 0], setDirty := [], reads := [], slotAge := 0 }

/-- RST before tp. -/
def Rst.init : Rst :=
  { phase := .off, startedAt := 0, keys := [], quiesce := none, quiesceAt := 0, held := none, settingsKept := false
    selfRefresh := false, checkWord := false, rcvRequest := false, rcvSampled := false, fuseOk := false, volatile := false, volCause := 0
    afterSave := false, alive := false, aliveRun := false, stalled := [] }

/-- PWR at reset. -/
def Pwr.init : Pwr :=
  { entering := none, leftState := 0, since := 0, switching := false, wakeCode := none, enteredAt := 0, l1Since := none }

/-- MGP at reset. -/
def Mgp.init : Mgp :=
  { claims := [], was := [], held := [], sbAlert := false, msixEn := false, fnMasked := false, masked := [] }

/-- The host link at reset. -/
def Hlk.init : Hlk :=
  { linkUp := false, inL1 := false, inL2 := false, perst := true, memEnable := false, fenced := false, buf := []
    nextReq := 0, stopSince := 0, badEntries := [], held := false, x8 := false, decs := [] }

/-- The DRAM controllers at reset. -/
def Drc.init : Drc :=
  { rows := [], owed := [], alerts := [], stopped := [], storm := [], retraining := [], devCorr := [], repairs := []
    dtrnStop := false, fgr := [], refSb := [], queue := [], lastBg := [] }

/-- The mailbox at reset. -/
def Mbox.init : Mbox :=
  { logs := [], overflow := [], nextHandle := 1, policy := [0, 0, 0, 0], stampBase := 0, stampAt := 0, alert := []
    poison := [], poisonOverflow := none, poisonAt := 0, background := none, mediaOff := false, session := none, sessions := 0
    maintenance := false, degraded := false }

/-- The service port at reset. -/
def Svc.init : Svc :=
  { lastTag := 0, background := false, rcv := false, target := 0, pkg := ⟨0, 0, 0, 0, 0, 0, 0, 0, 0⟩, imgCrc := 0
    body := [], waiting := [] }

/-- TST after a TAP reset; the safe values of the cells are the BSDL file's (R558, R559). -/
def Tst.init : Tst := { cells := 0, waiting := none, seen := false, atol := 0 }

/-- STRT at reset. -/
def Strt.init : Strt :=
  { peers := [], census := [], trainedAt := none, censusDone := false, everMaster := false, masterHeard := false, seq := 0, badSyncs := 0
    step := none, lastClose := 0, closeSent := false, closeN := 0, shareAt := none, gsAt := 0, gsHeld := false
    saveSent := false }

/-- Atoll as shipped: erased, with a selector record for Isle A at protection level 0 and 32 spares (R473, R480). -/
def Atol.init : Atol :=
  { cells := [], selLog := [(0, some ⟨1, 0, false, false, 0⟩)], undefBlocks := [], blocks := [], spares := List.replicate 32 0, sel := ⟨1, 0, false, false, 0⟩
    selAt := 1, running := none, erase := none, halted := false, bySave := false, queue := [], seqs := [], wipeTo := 0 }

/-- Nothing kept in Atoll beyond register values. DESIGN CHOICE, log 9. -/
def Kept.init : Kept := ⟨0, none, 0, false, false, [], none, 0, 0, none, []⟩

/-- TWL at reset. -/
def Twl.init : Twl :=
  { cur := none, retries := 0, lost := false, due := [], doneAt := [], goodAt := [], mgmt := none, next := none, glen := 0
    alertLow := false, araAt := none, araBackoff := false, notifies := [] }

/-- DSCR at reset. -/
def Dscr.init : Dscr := { acc := 0, due := 0, marks := [], roundBegan := 0, roundOpen := false, lateRaised := false }

/-- UPK at reset. -/
def Upk.init : Upk :=
  { ran := [], due := [], dqDue := [], scan := [], disturb := [], retAt := 0, retFirst := true, capAt := 0
    capRefused := false, capStart := 0, capEa := 0, capLast := 0, wearAt := 0, wear := [], pctWarned := false
    daysBelow := false, telAt := 0, telRd := 0, telWr := 0, telShadow := 0, telPages := 0, resMax := 0, tb := none }

/-- The module around the controller: LV1 of the spec's examples, its straps those of a controller alone.
DESIGN CHOICE, log 6. -/
def ModuleCfg.init : ModuleCfg :=
  { dramGiB := 1024, diesPerChannel := List.replicate 16 8, dieGiB := 32, mixedDies := false, gauge := some ⟨0x0B, 0x0F, 1, false, 100, 1, 0⟩
    ecRated := 3000, density := 2, rate := 4, rank2 := false, height := 3, rcd := true
    cascId := 0, cascRing := false, sbAddr := 0, planes := 4, ppbTlc := 1152, ppbSlc := 384, bpp := 455, romVer := 1
    fuse := [0x070160D4, 0x030E085A, 0x07670CF9, 0x000000A1, 0] }

/-- The machine held in power-on reset, before `tp` (R393, R399): every register at its reset value, memory with nothing listed,
the save array never formatted, no command waiting. -/
def State.reset : State :=
  { mdl := ModuleCfg.init, regs := [], late := [], latch := [], now := 0, freeCtr := 0, dram := [], cfgStore := []
    kept := Kept.init, leases := [], mgp := Mgp.init, flt := Flt.init, recd := Recorder.init, rst := Rst.init
    pwr := Pwr.init, pers := Pers.init, save := Save.init, arr := Arr.init, farr := Farr.init, mov := Mov.init
    rstr := Rstr.init, hlk := Hlk.init, drc := Drc.init, strt := Strt.init, atol := Atol.init, twl := Twl.init
    mbox := Mbox.init, svc := Svc.init, tst := Tst.init, dscr := Dscr.init, upk := Upk.init, out := [], pending := [] }

end Sys2Proof.Machine
end

