-- ==== Sys2Proof/Machine/Regs.lean ====
section
/-! DEFINITION. The register map: every register of the 171 pages with its fields, access codes, reset values and
ranges (the register tables of spec/02 to spec/21), and the named fields the meanings read and write. A register
is named by its 20-bit address, page * 0x1000 + offset (R24, R34). -/

namespace Sys2Proof.Machine

/-- The access codes of R7. -/
inductive Acc where
  | rw | ro | w1c | w1s | wo | rc | rws
  deriving DecidableEq, Repr

/-- How a register takes part in a 64-bit pair under R32: not at all, as the low or as the high half. -/
inductive RowKind where
  | plain | lo | hi
  deriving DecidableEq, Repr

/-- One field of a register table: its bits, access code, reset value, and the stated range of what may be written
(`mx = 0`: none stated), outside which a written value is stored as the nearest limit (R94). -/
structure FSpec where
  lo : Nat
  w : Nat
  acc : Acc
  rst : Nat
  mn : Nat
  mx : Nat
  deriving DecidableEq, Repr

/-- One row of the register map: `count` registers `stride` bytes apart from `off`, on each of `npages` pages from
`page`; whether they are shadowed (R44), and whether each reader has its own. -/
structure Row where
  page : Nat
  npages : Nat
  off : Nat
  count : Nat
  stride : Nat
  shadow : Bool
  perReader : Bool
  kind : RowKind
  flds : List FSpec
  deriving DecidableEq, Repr

/-- A named field: the register's address and the field's bits. -/
structure Fld where
  addr : Nat
  lo : Nat
  w : Nat
  deriving DecidableEq, Repr

/-! ### MGP (R35, R50 to R52) -/

abbrev MGP_DROP_COUNT (p : Nat) : Fld := ⟨0x8040 + 0x1000 * p, 24, 8⟩
abbrev MGP_DROP_CAUSE (p : Nat) : Fld := ⟨0x8040 + 0x1000 * p, 20, 4⟩
abbrev MGP_DROP_ADDR (p : Nat) : Fld := ⟨0x8040 + 0x1000 * p, 0, 20⟩
abbrev MGP_ROUTE_SB_EN (n : Nat) : Fld := ⟨0xa040 + 4 * n, 9, 1⟩
abbrev MGP_ROUTE_HOST_EN (n : Nat) : Fld := ⟨0xa040 + 4 * n, 8, 1⟩
abbrev MGP_ROUTE_VECTOR (n : Nat) : Fld := ⟨0xa040 + 4 * n, 0, 5⟩
abbrev MGP_VSTAT_PENDING : Fld := ⟨0xb040, 0, 32⟩
abbrev MGP_PSTAT_REQ (n : Nat) : Fld := ⟨0xb050 + 4 * n, 0, 32⟩
abbrev MGP_EOI_VECTOR : Fld := ⟨0xb080, 0, 5⟩

/-- The register tables of MGP (R35, R50 to R52). -/
def rowsMGP : List Row :=
  [ ⟨0x8, 2, 0x40, 1, 0, false, false, .plain, [⟨24, 8, .rc, 0, 0, 0⟩, ⟨20, 4, .ro, 0, 0, 0⟩, ⟨0, 20, .ro, 0, 0, 0⟩]⟩
  , ⟨0xA, 1, 0x40, 144, 4, false, false, .plain, [⟨9, 1, .rws, 0, 0, 0⟩, ⟨8, 1, .rws, 0, 0, 0⟩, ⟨0, 5, .rws, 0, 0, 0⟩]⟩
  , ⟨0xA, 1, 0x280, 1, 4, false, false, .plain, [⟨9, 1, .rws, 1, 0, 0⟩, ⟨8, 1, .rws, 1, 0, 0⟩, ⟨0, 5, .rws, 2, 0, 0⟩]⟩
  , ⟨0xA, 1, 0x284, 111, 4, false, false, .plain, [⟨9, 1, .rws, 0, 0, 0⟩, ⟨8, 1, .rws, 0, 0, 0⟩, ⟨0, 5, .rws, 0, 0, 0⟩]⟩
  , ⟨0xB, 1, 0x40, 1, 0, false, false, .plain, [⟨0, 32, .ro, 0, 0, 0⟩]⟩
  , ⟨0xB, 1, 0x50, 8, 4, false, false, .plain, [⟨0, 32, .ro, 0, 0, 0⟩]⟩
  , ⟨0xB, 1, 0x80, 1, 0, false, false, .plain, [⟨0, 5, .wo, 0, 0, 0⟩]⟩ ]

/-! ### SYS (R36, R46, R561) -/

abbrev SYS_ACCOFF_VALID : Fld := ⟨0x60, 31, 1⟩
abbrev SYS_ACCOFF_COUNT : Fld := ⟨0x60, 24, 7⟩
abbrev SYS_ACCOFF_PORT : Fld := ⟨0x60, 21, 2⟩
abbrev SYS_ACCOFF_WR : Fld := ⟨0x60, 20, 1⟩
abbrev SYS_ACCOFF_PAGE : Fld := ⟨0x60, 12, 8⟩
abbrev SYS_ACCOFF_OFFSET : Fld := ⟨0x60, 0, 12⟩
abbrev SYS_ID0_LOT0_4 : Fld := ⟨0x40, 0, 30⟩
abbrev SYS_ID1_LOT5_6 : Fld := ⟨0x44, 0, 12⟩
abbrev SYS_ID1_WAFER : Fld := ⟨0x44, 16, 5⟩
abbrev SYS_ID1_FAB : Fld := ⟨0x44, 24, 8⟩
abbrev SYS_ID2_DIE_X : Fld := ⟨0x48, 0, 8⟩
abbrev SYS_ID2_DIE_Y : Fld := ⟨0x48, 8, 8⟩
abbrev SYS_ID2_TEST_DATE : Fld := ⟨0x48, 16, 16⟩
abbrev SYS_ID3_REV : Fld := ⟨0x4c, 0, 8⟩
abbrev SYS_ID4_FUSE_CRC : Fld := ⟨0x50, 0, 32⟩
abbrev SYS_ID5_IDCODE : Fld := ⟨0x54, 0, 32⟩
abbrev SYS_ID6_FUSE_OK : Fld := ⟨0x58, 0, 1⟩
abbrev SYS_ID6_RETRIES : Fld := ⟨0x58, 8, 2⟩
abbrev SYS_PASS_LO_COUNT : Fld := ⟨0x70, 0, 32⟩
abbrev SYS_PASS_HI_COUNT : Fld := ⟨0x74, 0, 32⟩

/-- The register tables of SYS (R36, R46, R561). -/
def rowsSYS : List Row :=
  [ ⟨0x0, 1, 0x60, 1, 0, false, false, .plain, [⟨31, 1, .w1c, 0, 0, 0⟩, ⟨24, 7, .ro, 0, 0, 0⟩, ⟨21, 2, .ro, 0, 0, 0⟩, ⟨20, 1, .ro, 0, 0, 0⟩, ⟨12, 8, .ro, 0, 0, 0⟩, ⟨0, 12, .ro, 0, 0, 0⟩]⟩
  , ⟨0x0, 1, 0x40, 1, 0, false, false, .plain, [⟨0, 30, .ro, 0, 0, 0⟩]⟩
  , ⟨0x0, 1, 0x44, 1, 0, false, false, .plain, [⟨0, 12, .ro, 0, 0, 0⟩, ⟨16, 5, .ro, 0, 0, 0⟩, ⟨24, 8, .ro, 0, 0, 0⟩]⟩
  , ⟨0x0, 1, 0x48, 1, 0, false, false, .plain, [⟨0, 8, .ro, 0, 0, 0⟩, ⟨8, 8, .ro, 0, 0, 0⟩, ⟨16, 16, .ro, 0, 0, 0⟩]⟩
  , ⟨0x0, 1, 0x4C, 1, 0, false, false, .plain, [⟨0, 8, .ro, 0, 0, 0⟩]⟩
  , ⟨0x0, 1, 0x50, 1, 0, false, false, .plain, [⟨0, 32, .ro, 0, 0, 0⟩]⟩
  , ⟨0x0, 1, 0x54, 1, 0, false, false, .plain, [⟨0, 32, .ro, 404097359, 0, 0⟩]⟩
  , ⟨0x0, 1, 0x58, 1, 0, false, false, .plain, [⟨0, 1, .ro, 0, 0, 0⟩, ⟨8, 2, .ro, 0, 0, 0⟩]⟩
  , ⟨0x0, 1, 0x70, 1, 0, false, false, .lo, [⟨0, 32, .ro, 0, 0, 0⟩]⟩
  , ⟨0x0, 1, 0x74, 1, 0, false, false, .hi, [⟨0, 32, .ro, 0, 0, 0⟩]⟩ ]

/-! ### SEM (R37 to R42) -/

abbrev SEM_LEASE_LEASE_MS : Fld := ⟨0x4040, 0, 16⟩
abbrev SEM_HELD_HOLDER (n : Nat) : Fld := ⟨0x4050 + 4 * n, 0, 32⟩
abbrev SEM_TIE_NEXT_HOST (n : Nat) : Fld := ⟨0x4060 + 4 * n, 0, 32⟩
abbrev SEM_BROKEN_COUNT : Fld := ⟨0x4068, 0, 16⟩
abbrev SEM_CLAIM_BREAK (n : Nat) : Fld := ⟨0x4100 + 4 * n, 31, 1⟩
abbrev SEM_CLAIM_OWNER (n : Nat) : Fld := ⟨0x4100 + 4 * n, 0, 2⟩

/-- The register tables of SEM (R37 to R42). -/
def rowsSEM : List Row :=
  [ ⟨0x4, 1, 0x40, 1, 0, false, false, .plain, [⟨0, 16, .rw, 100, 1, 60000⟩]⟩
  , ⟨0x4, 1, 0x50, 4, 4, false, false, .plain, [⟨0, 32, .ro, 0, 0, 0⟩]⟩
  , ⟨0x4, 1, 0x60, 2, 4, false, false, .plain, [⟨0, 32, .ro, 0, 0, 0⟩]⟩
  , ⟨0x4, 1, 0x68, 1, 0, false, false, .plain, [⟨0, 16, .rc, 0, 0, 0⟩]⟩
  , ⟨0x4, 1, 0x100, 64, 4, false, false, .plain, [⟨31, 1, .wo, 0, 0, 0⟩, ⟨0, 2, .rc, 0, 0, 0⟩]⟩ ]

/-! ### RES (R47) -/

abbrev RES_ENTRY_CONFLICT (n : Nat) : Fld := ⟨0x5040 + 4 * n, 16, 1⟩
abbrev RES_ENTRY_REFUSED (n : Nat) : Fld := ⟨0x5040 + 4 * n, 8, 8⟩
abbrev RES_ENTRY_OWNER (n : Nat) : Fld := ⟨0x5040 + 4 * n, 0, 8⟩

/-- The register tables of RES (R47). -/
def rowsRES : List Row :=
  [ ⟨0x5, 1, 0x40, 32, 4, false, false, .plain, [⟨16, 1, .w1c, 0, 0, 0⟩, ⟨8, 8, .ro, 255, 0, 0⟩, ⟨0, 8, .ro, 255, 0, 0⟩]⟩ ]

/-! ### PERS (R94, R115) -/

abbrev PERS_CTRL_BARRIER_EN : Fld := ⟨0x20040, 11, 1⟩
abbrev PERS_CTRL_BP_EN : Fld := ⟨0x20040, 10, 1⟩
abbrev PERS_CTRL_SLC_EN : Fld := ⟨0x20040, 9, 1⟩
abbrev PERS_CTRL_SHADOW_EN : Fld := ⟨0x20040, 8, 1⟩
abbrev PERS_CTRL_ACTIVE : Fld := ⟨0x20040, 0, 1⟩
abbrev PERS_EPOCH_LEN_PASSES : Fld := ⟨0x20044, 0, 17⟩
abbrev PERS_COOLDOWN_MS : Fld := ⟨0x20048, 0, 16⟩
abbrev PERS_BUDGET_ISLETS : Fld := ⟨0x20080, 0, 21⟩
abbrev PERS_E_RESERVE_MJ : Fld := ⟨0x20084, 0, 20⟩
abbrev PERS_E_FLOOR_MJ : Fld := ⟨0x20088, 0, 20⟩
abbrev PERS_GAUGE_CFG_STALE_MS : Fld := ⟨0x2008c, 0, 16⟩
abbrev PERS_MARGIN_M16 : Fld := ⟨0x20090, 0, 6⟩
abbrev PERS_SAVE_POWER_MW : Fld := ⟨0x20094, 0, 20⟩
abbrev PERS_SAVE_RATE_MBPS : Fld := ⟨0x20098, 0, 17⟩
abbrev PERS_SAVE_FIXED_US : Fld := ⟨0x2009c, 0, 20⟩
abbrev PERS_DERATE_J_T1 : Fld := ⟨0x200a0, 0, 8⟩
abbrev PERS_DERATE_J_K1 : Fld := ⟨0x200a0, 8, 8⟩
abbrev PERS_DERATE_J_T2 : Fld := ⟨0x200a0, 16, 8⟩
abbrev PERS_DERATE_J_K2 : Fld := ⟨0x200a0, 24, 8⟩
abbrev PERS_DERATE_N_T1 : Fld := ⟨0x200a4, 0, 8⟩
abbrev PERS_DERATE_N_K1 : Fld := ⟨0x200a4, 8, 8⟩
abbrev PERS_DERATE_N_T2 : Fld := ⟨0x200a4, 16, 8⟩
abbrev PERS_DERATE_N_K2 : Fld := ⟨0x200a4, 24, 8⟩
abbrev PERS_BP_SPACING : Fld := ⟨0x200a8, 0, 8⟩
abbrev PERS_BP_HOLD_MAX : Fld := ⟨0x200a8, 16, 16⟩
abbrev PERS_BOOST_SHADOW_BOOST : Fld := ⟨0x200ac, 0, 6⟩
abbrev PERS_BOOST_COOL_SHIFT : Fld := ⟨0x200ac, 8, 2⟩
abbrev PERS_STAT_LEVEL : Fld := ⟨0x200c0, 0, 3⟩
abbrev PERS_STAT_GAUGE_STALE : Fld := ⟨0x200c0, 3, 1⟩
abbrev PERS_STAT_ENERGY_BOUND : Fld := ⟨0x200c0, 4, 1⟩
abbrev PERS_STAT_OVER : Fld := ⟨0x200c0, 5, 1⟩
abbrev PERS_STAT_K : Fld := ⟨0x200c0, 8, 9⟩
abbrev PERS_RES_ISLETS : Fld := ⟨0x200c4, 0, 26⟩
abbrev PERS_BEFF_ISLETS : Fld := ⟨0x200c8, 0, 21⟩
abbrev PERS_ENERGY_MJ : Fld := ⟨0x200cc, 0, 20⟩
abbrev PERS_ENERGY_AGE : Fld := ⟨0x200cc, 20, 12⟩
abbrev PERS_EPOCH_LO_EPOCH : Fld := ⟨0x200d0, 0, 32⟩
abbrev PERS_EPOCH_HI_EPOCH : Fld := ⟨0x200d4, 0, 32⟩
abbrev PERS_SEALED_LO_EPOCH : Fld := ⟨0x200d8, 0, 32⟩
abbrev PERS_SEALED_HI_EPOCH : Fld := ⟨0x200dc, 0, 32⟩
abbrev PERS_SHARE_MIN (n : Nat) : Fld := ⟨0x21040 + 4 * n, 0, 6⟩
abbrev PERS_SHARE_MAX (n : Nat) : Fld := ⟨0x21040 + 4 * n, 8, 7⟩
abbrev PERS_STRETCH_LO_PASSES : Fld := ⟨0x21080, 0, 32⟩
abbrev PERS_STRETCH_HI_PASSES : Fld := ⟨0x21084, 0, 32⟩
abbrev PERS_OVERRUN_COUNT : Fld := ⟨0x21088, 0, 32⟩
abbrev PERS_PROV_COUNT : Fld := ⟨0x2108c, 0, 32⟩
abbrev PERS_BP_HELD_COUNT : Fld := ⟨0x21090, 0, 32⟩
abbrev PERS_BP_OVR_COUNT : Fld := ⟨0x21094, 0, 32⟩
abbrev PERS_BAR_POST_TAG : Fld := ⟨0x22040, 0, 32⟩
abbrev PERS_BAR_STAT_OPEN : Fld := ⟨0x22044, 0, 5⟩
abbrev PERS_BAR_STAT_REFUSED : Fld := ⟨0x22044, 8, 1⟩
abbrev PERS_BAR_STAT_LAST_DONE : Fld := ⟨0x22044, 16, 16⟩
abbrev PERS_BAR_SEQ_LAST_POST : Fld := ⟨0x22048, 0, 16⟩
abbrev PERS_BAR_DONE_TAG_TAG : Fld := ⟨0x2204c, 0, 32⟩
abbrev PERS_BAR_LEFT_ISLETS : Fld := ⟨0x22050, 0, 26⟩
abbrev PERS_Q_ISLET_INDEX : Fld := ⟨0x23040, 0, 25⟩
abbrev PERS_Q_STATE_VALID : Fld := ⟨0x23044, 31, 1⟩
abbrev PERS_Q_STATE_FROZEN_BIT : Fld := ⟨0x23044, 5, 1⟩
abbrev PERS_Q_STATE_COLLECT_BIT : Fld := ⟨0x23044, 4, 1⟩
abbrev PERS_Q_STATE_STATE : Fld := ⟨0x23044, 0, 3⟩
abbrev PERS_Q_STAMP_LO_STAMP : Fld := ⟨0x23048, 0, 32⟩
abbrev PERS_Q_STAMP_HI_STAMP : Fld := ⟨0x2304c, 0, 16⟩
abbrev PERS_Q_ENTRY_LO_ENTRY : Fld := ⟨0x23050, 0, 32⟩
abbrev PERS_Q_ENTRY_HI_ENTRY : Fld := ⟨0x23054, 0, 16⟩
abbrev PERS_SHD_CFG_STREAMS : Fld := ⟨0x21100, 0, 4⟩
abbrev PERS_SHD_CFG_FOLD_EN : Fld := ⟨0x21100, 8, 1⟩
abbrev PERS_SHD_RATE_MBPS : Fld := ⟨0x21104, 0, 17⟩
abbrev PERS_FOLD_CFG_START_PCT : Fld := ⟨0x21108, 0, 7⟩
abbrev PERS_FOLD_CFG_AGE : Fld := ⟨0x21108, 8, 24⟩
abbrev PERS_SHD_STAT_SWEEP : Fld := ⟨0x21140, 0, 1⟩
abbrev PERS_SHD_STAT_BAR_SWEEP : Fld := ⟨0x21140, 1, 1⟩
abbrev PERS_SHD_STAT_FOLDING : Fld := ⟨0x21140, 2, 1⟩
abbrev PERS_SHD_STAT_BURST_BLOCKED : Fld := ⟨0x21140, 3, 1⟩
abbrev PERS_SHD_STAT_RATE_LIMITED : Fld := ⟨0x21140, 4, 1⟩
abbrev PERS_SHD_STAT_ACTIVE : Fld := ⟨0x21140, 8, 4⟩
abbrev PERS_CQ_DEPTH_ENTRIES : Fld := ⟨0x21144, 0, 24⟩
abbrev PERS_SLC_FILL_ISLETS : Fld := ⟨0x21148, 0, 22⟩
abbrev PERS_SLC_ROOM_ISLETS : Fld := ⟨0x2114c, 0, 22⟩
abbrev PERS_SHD_DATA_LO_COUNT : Fld := ⟨0x21160, 0, 32⟩
abbrev PERS_SHD_DATA_HI_COUNT : Fld := ⟨0x21164, 0, 32⟩
abbrev PERS_SHD_ZERO_LO_COUNT : Fld := ⟨0x21168, 0, 32⟩
abbrev PERS_SHD_ZERO_HI_COUNT : Fld := ⟨0x2116c, 0, 32⟩
abbrev PERS_SHD_SLC_LO_COUNT : Fld := ⟨0x21170, 0, 32⟩
abbrev PERS_SHD_SLC_HI_COUNT : Fld := ⟨0x21174, 0, 32⟩
abbrev PERS_FOLD_LO_COUNT : Fld := ⟨0x21178, 0, 32⟩
abbrev PERS_FOLD_HI_COUNT : Fld := ⟨0x2117c, 0, 32⟩
abbrev PERS_FOLD_DROP_LO_COUNT : Fld := ⟨0x21180, 0, 32⟩
abbrev PERS_FOLD_DROP_HI_COUNT : Fld := ⟨0x21184, 0, 32⟩
abbrev PERS_SHD_ABANDON_COUNT : Fld := ⟨0x21188, 0, 32⟩
abbrev PERS_CQ_STALE_COUNT : Fld := ⟨0x2118c, 0, 32⟩
abbrev PERS_CQ_OVF_COUNT : Fld := ⟨0x21190, 0, 32⟩
abbrev PERS_BAR_SWEEPS_COUNT : Fld := ⟨0x21194, 0, 32⟩

/-- The register tables of PERS (R94, R115), part 1. -/
def rowsPERS1 : List Row :=
  [ ⟨0x20, 1, 0x40, 1, 0, true, false, .plain, [⟨11, 1, .rws, 1, 0, 0⟩, ⟨10, 1, .rws, 1, 0, 0⟩, ⟨9, 1, .rws, 1, 0, 0⟩, ⟨8, 1, .rws, 1, 0, 0⟩, ⟨0, 1, .ro, 0, 0, 0⟩]⟩
  , ⟨0x20, 1, 0x44, 1, 0, true, false, .plain, [⟨0, 17, .rws, 2000, 100, 100000⟩]⟩
  , ⟨0x20, 1, 0x48, 1, 0, true, false, .plain, [⟨0, 16, .rws, 200, 0, 10000⟩]⟩
  , ⟨0x20, 1, 0x80, 1, 0, true, false, .plain, [⟨0, 21, .rws, 393216, 16384, 1572864⟩]⟩
  , ⟨0x20, 1, 0x84, 1, 0, true, false, .plain, [⟨0, 20, .rws, 4000, 0, 0⟩]⟩
  , ⟨0x20, 1, 0x88, 1, 0, true, false, .plain, [⟨0, 20, .rws, 0, 0, 0⟩]⟩
  , ⟨0x20, 1, 0x8C, 1, 0, true, false, .plain, [⟨0, 16, .rws, 2000, 100, 60000⟩]⟩
  , ⟨0x20, 1, 0x90, 1, 0, true, false, .plain, [⟨0, 6, .rws, 24, 16, 48⟩]⟩
  , ⟨0x20, 1, 0x94, 1, 0, true, false, .plain, [⟨0, 20, .rws, 52500, 1000, 1048575⟩]⟩
  , ⟨0x20, 1, 0x98, 1, 0, true, false, .plain, [⟨0, 17, .rws, 44000, 0, 0⟩]⟩
  , ⟨0x20, 1, 0x9C, 1, 0, true, false, .plain, [⟨0, 20, .rws, 34000, 0, 0⟩]⟩
  , ⟨0x20, 1, 0xA0, 1, 0, true, false, .plain, [⟨0, 8, .rws, 95, 0, 0⟩, ⟨8, 8, .rws, 230, 0, 0⟩, ⟨16, 8, .rws, 100, 0, 0⟩, ⟨24, 8, .rws, 205, 0, 0⟩]⟩
  , ⟨0x20, 1, 0xA4, 1, 0, true, false, .plain, [⟨0, 8, .rws, 70, 0, 0⟩, ⟨8, 8, .rws, 218, 0, 0⟩, ⟨16, 8, .rws, 85, 0, 0⟩, ⟨24, 8, .rws, 179, 0, 0⟩]⟩
  , ⟨0x20, 1, 0xA8, 1, 0, true, false, .plain, [⟨0, 8, .rws, 4, 1, 255⟩, ⟨16, 16, .rws, 500, 10, 50000⟩]⟩
  , ⟨0x20, 1, 0xAC, 1, 0, true, false, .plain, [⟨0, 6, .rws, 16, 0, 16⟩, ⟨8, 2, .rws, 2, 0, 0⟩]⟩
  , ⟨0x20, 1, 0xC0, 1, 0, false, false, .plain, [⟨0, 3, .ro, 0, 0, 0⟩, ⟨3, 1, .ro, 0, 0, 0⟩, ⟨4, 1, .ro, 0, 0, 0⟩, ⟨5, 1, .ro, 0, 0, 0⟩, ⟨8, 9, .ro, 256, 0, 0⟩]⟩
  , ⟨0x20, 1, 0xC4, 1, 0, false, false, .plain, [⟨0, 26, .ro, 0, 0, 0⟩]⟩
  , ⟨0x20, 1, 0xC8, 1, 0, false, false, .plain, [⟨0, 21, .ro, 0, 0, 0⟩]⟩
  , ⟨0x20, 1, 0xCC, 1, 0, false, false, .plain, [⟨0, 20, .ro, 0, 0, 0⟩, ⟨20, 12, .ro, 4095, 0, 0⟩]⟩
  , ⟨0x20, 1, 0xD0, 1, 0, false, false, .lo, [⟨0, 32, .ro, 0, 0, 0⟩]⟩
  , ⟨0x20, 1, 0xD4, 1, 0, false, false, .hi, [⟨0, 32, .ro, 0, 0, 0⟩]⟩
  , ⟨0x20, 1, 0xD8, 1, 0, false, false, .plain, [⟨0, 32, .ro, 0, 0, 0⟩]⟩
  , ⟨0x20, 1, 0xDC, 1, 0, false, false, .plain, [⟨0, 32, .ro, 0, 0, 0⟩]⟩
  , ⟨0x21, 1, 0x40, 1, 4, true, false, .plain, [⟨0, 6, .rws, 6, 0, 16⟩, ⟨8, 7, .rws, 64, 0, 64⟩]⟩
  , ⟨0x21, 1, 0x44, 1, 4, true, false, .plain, [⟨0, 6, .rws, 8, 0, 8⟩, ⟨8, 7, .rws, 64, 0, 64⟩]⟩
  , ⟨0x21, 1, 0x48, 1, 4, true, false, .plain, [⟨0, 6, .rws, 2, 1, 8⟩, ⟨8, 7, .rws, 8, 0, 64⟩]⟩
  , ⟨0x21, 1, 0x4C, 1, 4, true, false, .plain, [⟨0, 6, .rws, 1, 1, 4⟩, ⟨8, 7, .rws, 4, 0, 64⟩]⟩
  , ⟨0x21, 1, 0x50, 1, 4, true, false, .plain, [⟨0, 6, .rws, 1, 1, 2⟩, ⟨8, 7, .rws, 2, 0, 64⟩]⟩
  , ⟨0x21, 1, 0x80, 1, 0, false, false, .lo, [⟨0, 32, .rc, 0, 0, 0⟩]⟩
  , ⟨0x21, 1, 0x84, 1, 0, false, false, .hi, [⟨0, 32, .rc, 0, 0, 0⟩]⟩
  , ⟨0x21, 1, 0x88, 1, 0, false, false, .plain, [⟨0, 32, .rc, 0, 0, 0⟩]⟩
  , ⟨0x21, 1, 0x8C, 1, 0, false, false, .plain, [⟨0, 32, .rc, 0, 0, 0⟩]⟩
  , ⟨0x21, 1, 0x90, 1, 0, false, false, .plain, [⟨0, 32, .rc, 0, 0, 0⟩]⟩
  , ⟨0x21, 1, 0x94, 1, 0, false, false, .plain, [⟨0, 32, .rc, 0, 0, 0⟩]⟩
  , ⟨0x22, 1, 0x40, 1, 0, false, false, .plain, [⟨0, 32, .wo, 0, 0, 0⟩]⟩
  , ⟨0x22, 1, 0x44, 1, 0, false, false, .plain, [⟨0, 5, .ro, 0, 0, 0⟩, ⟨8, 1, .w1c, 0, 0, 0⟩, ⟨16, 16, .ro, 0, 0, 0⟩]⟩
  , ⟨0x22, 1, 0x48, 1, 0, false, false, .plain, [⟨0, 16, .ro, 0, 0, 0⟩]⟩
  , ⟨0x22, 1, 0x4C, 1, 0, false, false, .plain, [⟨0, 32, .ro, 0, 0, 0⟩]⟩
  , ⟨0x22, 1, 0x50, 1, 0, false, false, .plain, [⟨0, 26, .ro, 0, 0, 0⟩]⟩
  , ⟨0x23, 1, 0x40, 1, 0, false, false, .plain, [⟨0, 25, .rw, 0, 0, 0⟩]⟩ ]
/-- The register tables of PERS (R94, R115), part 2. -/
def rowsPERS2 : List Row :=
  [ ⟨0x23, 1, 0x44, 1, 0, false, false, .plain, [⟨31, 1, .ro, 0, 0, 0⟩, ⟨5, 1, .ro, 0, 0, 0⟩, ⟨4, 1, .ro, 0, 0, 0⟩, ⟨0, 3, .ro, 0, 0, 0⟩]⟩
  , ⟨0x23, 1, 0x48, 1, 0, false, false, .plain, [⟨0, 32, .ro, 0, 0, 0⟩]⟩
  , ⟨0x23, 1, 0x4C, 1, 0, false, false, .plain, [⟨0, 16, .ro, 0, 0, 0⟩]⟩
  , ⟨0x23, 1, 0x50, 1, 0, false, false, .plain, [⟨0, 32, .ro, 0, 0, 0⟩]⟩
  , ⟨0x23, 1, 0x54, 1, 0, false, false, .plain, [⟨0, 16, .ro, 0, 0, 0⟩]⟩
  , ⟨0x21, 1, 0x100, 1, 0, true, false, .plain, [⟨0, 4, .rws, 8, 1, 8⟩, ⟨8, 1, .rws, 1, 0, 0⟩]⟩
  , ⟨0x21, 1, 0x104, 1, 0, true, false, .plain, [⟨0, 17, .rws, 0, 0, 100000⟩]⟩
  , ⟨0x21, 1, 0x108, 1, 0, true, false, .plain, [⟨0, 7, .rws, 50, 10, 90⟩, ⟨8, 24, .rws, 500, 0, 100000⟩]⟩
  , ⟨0x21, 1, 0x140, 1, 0, false, false, .plain, [⟨0, 1, .ro, 0, 0, 0⟩, ⟨1, 1, .ro, 0, 0, 0⟩, ⟨2, 1, .ro, 0, 0, 0⟩, ⟨3, 1, .ro, 0, 0, 0⟩, ⟨4, 1, .ro, 0, 0, 0⟩, ⟨8, 4, .ro, 0, 0, 0⟩]⟩
  , ⟨0x21, 1, 0x144, 1, 0, false, false, .plain, [⟨0, 24, .ro, 0, 0, 0⟩]⟩
  , ⟨0x21, 1, 0x148, 1, 0, false, false, .plain, [⟨0, 22, .ro, 0, 0, 0⟩]⟩
  , ⟨0x21, 1, 0x14C, 1, 0, false, false, .plain, [⟨0, 22, .ro, 0, 0, 0⟩]⟩
  , ⟨0x21, 1, 0x160, 1, 0, false, false, .lo, [⟨0, 32, .rc, 0, 0, 0⟩]⟩
  , ⟨0x21, 1, 0x164, 1, 0, false, false, .hi, [⟨0, 32, .rc, 0, 0, 0⟩]⟩
  , ⟨0x21, 1, 0x168, 1, 0, false, false, .lo, [⟨0, 32, .rc, 0, 0, 0⟩]⟩
  , ⟨0x21, 1, 0x16C, 1, 0, false, false, .hi, [⟨0, 32, .rc, 0, 0, 0⟩]⟩
  , ⟨0x21, 1, 0x170, 1, 0, false, false, .lo, [⟨0, 32, .rc, 0, 0, 0⟩]⟩
  , ⟨0x21, 1, 0x174, 1, 0, false, false, .hi, [⟨0, 32, .rc, 0, 0, 0⟩]⟩
  , ⟨0x21, 1, 0x178, 1, 0, false, false, .lo, [⟨0, 32, .rc, 0, 0, 0⟩]⟩
  , ⟨0x21, 1, 0x17C, 1, 0, false, false, .hi, [⟨0, 32, .rc, 0, 0, 0⟩]⟩
  , ⟨0x21, 1, 0x180, 1, 0, false, false, .lo, [⟨0, 32, .rc, 0, 0, 0⟩]⟩
  , ⟨0x21, 1, 0x184, 1, 0, false, false, .hi, [⟨0, 32, .rc, 0, 0, 0⟩]⟩
  , ⟨0x21, 1, 0x188, 1, 0, false, false, .plain, [⟨0, 32, .rc, 0, 0, 0⟩]⟩
  , ⟨0x21, 1, 0x18C, 1, 0, false, false, .plain, [⟨0, 32, .rc, 0, 0, 0⟩]⟩
  , ⟨0x21, 1, 0x190, 1, 0, false, false, .plain, [⟨0, 32, .rc, 0, 0, 0⟩]⟩
  , ⟨0x21, 1, 0x194, 1, 0, false, false, .plain, [⟨0, 32, .rc, 0, 0, 0⟩]⟩ ]

/-- The register tables of PERS (R94, R115). -/
def rowsPERS : List Row := rowsPERS1 ++ rowsPERS2

/-! ### SAVE (R157) -/

abbrev SAVE_CTRL_MON_EN : Fld := ⟨0x28040, 0, 1⟩
abbrev SAVE_CTRL_FATAL_EN : Fld := ⟨0x28040, 1, 1⟩
abbrev SAVE_CTRL_CUT_EN : Fld := ⟨0x28040, 2, 1⟩
abbrev SAVE_CTRL_AUTO_WARM : Fld := ⟨0x28040, 3, 1⟩
abbrev SAVE_DETECT_PFAIL_DEB : Fld := ⟨0x28044, 0, 4⟩
abbrev SAVE_DETECT_V_TRIP : Fld := ⟨0x28044, 8, 8⟩
abbrev SAVE_DETECT_V_CLOSE : Fld := ⟨0x28044, 16, 8⟩
abbrev SAVE_DETECT_RET_MS : Fld := ⟨0x28044, 24, 8⟩
abbrev SAVE_CUT_CLOSE_US : Fld := ⟨0x28048, 0, 20⟩
abbrev SAVE_CUT_POLL_MS : Fld := ⟨0x28048, 24, 8⟩
abbrev SAVE_STAT_ARMED : Fld := ⟨0x29040, 0, 1⟩
abbrev SAVE_STAT_SOUND : Fld := ⟨0x29040, 1, 1⟩
abbrev SAVE_STAT_ACTIVE : Fld := ⟨0x29040, 2, 1⟩
abbrev SAVE_STAT_DONE : Fld := ⟨0x29040, 3, 1⟩
abbrev SAVE_STAT_SHORT : Fld := ⟨0x29040, 4, 1⟩
abbrev SAVE_STAT_EMPTY : Fld := ⟨0x29040, 5, 1⟩
abbrev SAVE_STAT_PEER_LOST : Fld := ⟨0x29040, 6, 1⟩
abbrev SAVE_STAT_CAUSE : Fld := ⟨0x29040, 8, 3⟩
abbrev SAVE_STAT_CUT_CAUSE : Fld := ⟨0x29040, 12, 3⟩
abbrev SAVE_STAT_FAILED_CH : Fld := ⟨0x29040, 16, 16⟩
abbrev SAVE_PROGRESS_ISLETS : Fld := ⟨0x29044, 0, 26⟩
abbrev SAVE_PLAN_ISLETS : Fld := ⟨0x29048, 0, 22⟩
abbrev SAVE_GLITCH_COUNT : Fld := ⟨0x2904c, 0, 16⟩
abbrev SAVE_LAST_STAT_ALL : Fld := ⟨0x2a040, 3, 29⟩
abbrev SAVE_LAST_CUT_LO_CUT : Fld := ⟨0x2a044, 0, 32⟩
abbrev SAVE_LAST_CUT_HI_CUT : Fld := ⟨0x2a048, 0, 32⟩
abbrev SAVE_LAST_START_US_US : Fld := ⟨0x2a04c, 0, 24⟩
abbrev SAVE_LAST_DATA_US_US : Fld := ⟨0x2a050, 0, 24⟩
abbrev SAVE_LAST_DONE_US_US : Fld := ⟨0x2a054, 0, 24⟩
abbrev SAVE_LAST_WRITTEN_ISLETS : Fld := ⟨0x2a058, 0, 26⟩
abbrev SAVE_LAST_ZERO_ISLETS : Fld := ⟨0x2a05c, 0, 26⟩
abbrev SAVE_LAST_UNSAVED_ISLETS : Fld := ⟨0x2a060, 0, 26⟩
abbrev SAVE_LAST_E_T0_MJ : Fld := ⟨0x2a064, 0, 20⟩
abbrev SAVE_LAST_EPOCH_LO_EPOCH : Fld := ⟨0x2a068, 0, 32⟩
abbrev SAVE_LAST_EPOCH_HI_EPOCH : Fld := ⟨0x2a06c, 0, 32⟩

/-- The register tables of SAVE (R157). -/
def rowsSAVE : List Row :=
  [ ⟨0x28, 1, 0x40, 1, 0, true, false, .plain, [⟨0, 1, .rws, 1, 0, 0⟩, ⟨1, 1, .rws, 1, 0, 0⟩, ⟨2, 1, .rws, 1, 0, 0⟩, ⟨3, 1, .rws, 1, 0, 0⟩]⟩
  , ⟨0x28, 1, 0x44, 1, 0, true, false, .plain, [⟨0, 4, .rws, 4, 0, 0⟩, ⟨8, 8, .rws, 30, 5, 50⟩, ⟨16, 8, .rws, 20, 0, 0⟩, ⟨24, 8, .rws, 10, 1, 255⟩]⟩
  , ⟨0x28, 1, 0x48, 1, 0, true, false, .plain, [⟨0, 20, .rws, 34000, 5000, 100000⟩, ⟨24, 8, .rws, 10, 2, 50⟩]⟩
  , ⟨0x29, 1, 0x40, 1, 0, false, false, .plain, [⟨0, 1, .ro, 0, 0, 0⟩, ⟨1, 1, .ro, 0, 0, 0⟩, ⟨2, 1, .ro, 0, 0, 0⟩, ⟨3, 1, .ro, 0, 0, 0⟩, ⟨4, 1, .ro, 0, 0, 0⟩, ⟨5, 1, .ro, 0, 0, 0⟩, ⟨6, 1, .ro, 0, 0, 0⟩, ⟨8, 3, .ro, 0, 0, 0⟩, ⟨12, 3, .ro, 0, 0, 0⟩, ⟨16, 16, .ro, 0, 0, 0⟩]⟩
  , ⟨0x29, 1, 0x44, 1, 0, false, false, .plain, [⟨0, 26, .ro, 0, 0, 0⟩]⟩
  , ⟨0x29, 1, 0x48, 1, 0, false, false, .plain, [⟨0, 22, .ro, 0, 0, 0⟩]⟩
  , ⟨0x29, 1, 0x4C, 1, 0, false, false, .plain, [⟨0, 16, .rc, 0, 0, 0⟩]⟩
  , ⟨0x2A, 1, 0x40, 1, 0, false, false, .plain, [⟨3, 29, .ro, 0, 0, 0⟩]⟩
  , ⟨0x2A, 1, 0x44, 1, 0, false, false, .plain, [⟨0, 32, .ro, 0, 0, 0⟩]⟩
  , ⟨0x2A, 1, 0x48, 1, 0, false, false, .plain, [⟨0, 32, .ro, 0, 0, 0⟩]⟩
  , ⟨0x2A, 1, 0x4C, 1, 0, false, false, .plain, [⟨0, 24, .ro, 0, 0, 0⟩]⟩
  , ⟨0x2A, 1, 0x50, 1, 0, false, false, .plain, [⟨0, 24, .ro, 0, 0, 0⟩]⟩
  , ⟨0x2A, 1, 0x54, 1, 0, false, false, .plain, [⟨0, 24, .ro, 0, 0, 0⟩]⟩
  , ⟨0x2A, 1, 0x58, 1, 0, false, false, .plain, [⟨0, 26, .ro, 0, 0, 0⟩]⟩
  , ⟨0x2A, 1, 0x5C, 1, 0, false, false, .plain, [⟨0, 26, .ro, 0, 0, 0⟩]⟩
  , ⟨0x2A, 1, 0x60, 1, 0, false, false, .plain, [⟨0, 26, .ro, 0, 0, 0⟩]⟩
  , ⟨0x2A, 1, 0x64, 1, 0, false, false, .plain, [⟨0, 20, .ro, 0, 0, 0⟩]⟩
  , ⟨0x2A, 1, 0x68, 1, 0, false, false, .lo, [⟨0, 32, .ro, 0, 0, 0⟩]⟩
  , ⟨0x2A, 1, 0x6C, 1, 0, false, false, .hi, [⟨0, 32, .ro, 0, 0, 0⟩]⟩ ]

/-! ### RSTR (R194) -/

abbrev RSTR_CTRL_BG_EN : Fld := ⟨0x2c040, 0, 1⟩
abbrev RSTR_CTRL_AUTO_FORMAT : Fld := ⟨0x2c040, 1, 1⟩
abbrev RSTR_CASC_WAIT_MS : Fld := ⟨0x2c044, 0, 16⟩
abbrev RSTR_FI_SLOW_US : Fld := ⟨0x2c048, 0, 16⟩
abbrev RSTR_HINT_BASE_ISLET (n : Nat) : Fld := ⟨0x2c080 + 8 * n, 0, 25⟩
abbrev RSTR_HINT_COUNT_ISLETS (n : Nat) : Fld := ⟨0x2c084 + 8 * n, 0, 25⟩
abbrev RSTR_STAT_PHASE : Fld := ⟨0x2d040, 0, 3⟩
abbrev RSTR_STAT_MEM_ACTIVE : Fld := ⟨0x2d040, 3, 1⟩
abbrev RSTR_STAT_WARM : Fld := ⟨0x2d040, 4, 1⟩
abbrev RSTR_STAT_CASC_PARTIAL : Fld := ⟨0x2d040, 5, 1⟩
abbrev RSTR_STAT_DSC_RAISED : Fld := ⟨0x2d040, 6, 1⟩
abbrev RSTR_STAT_VOL_CAUSE : Fld := ⟨0x2d040, 8, 4⟩
abbrev RSTR_LEFT_ISLETS : Fld := ⟨0x2d044, 0, 26⟩
abbrev RSTR_HELD_REQUESTS : Fld := ⟨0x2d048, 0, 10⟩
abbrev RSTR_HELD_SLOTS : Fld := ⟨0x2d048, 16, 6⟩
abbrev RSTR_T_META_US_US : Fld := ⟨0x2d050, 0, 24⟩
abbrev RSTR_T_DETECT_US_US : Fld := ⟨0x2d054, 0, 24⟩
abbrev RSTR_T_DONE_MS_MS : Fld := ⟨0x2d058, 0, 24⟩
abbrev RSTR_IMG_CLASS_CLASS : Fld := ⟨0x2e040, 0, 3⟩
abbrev RSTR_IMG_CUT_LO_CUT : Fld := ⟨0x2e044, 0, 32⟩
abbrev RSTR_IMG_CUT_HI_CUT : Fld := ⟨0x2e048, 0, 32⟩
abbrev RSTR_IMG_H_LO_EPOCH : Fld := ⟨0x2e04c, 0, 32⟩
abbrev RSTR_IMG_H_HI_EPOCH : Fld := ⟨0x2e050, 0, 32⟩
abbrev RSTR_IMG_P_LO_EPOCH : Fld := ⟨0x2e054, 0, 32⟩
abbrev RSTR_IMG_P_HI_EPOCH : Fld := ⟨0x2e058, 0, 32⟩
abbrev RSTR_IMG_UNSAVED_ISLETS : Fld := ⟨0x2e05c, 0, 26⟩
abbrev RSTR_DSC_COUNT : Fld := ⟨0x2e060, 0, 32⟩
abbrev RSTR_FI_LO_COUNT : Fld := ⟨0x2f040, 0, 32⟩
abbrev RSTR_FI_HI_COUNT : Fld := ⟨0x2f044, 0, 32⟩
abbrev RSTR_FI_SLOWCNT_COUNT : Fld := ⟨0x2f048, 0, 32⟩
abbrev RSTR_FI_MAX_US : Fld := ⟨0x2f04c, 0, 22⟩
abbrev RSTR_REBUILD_COUNT : Fld := ⟨0x2f050, 0, 32⟩
abbrev RSTR_MEDIA_POISON_LINES : Fld := ⟨0x2f054, 0, 32⟩

/-- The register tables of RSTR (R194). -/
def rowsRSTR : List Row :=
  [ ⟨0x2C, 1, 0x40, 1, 0, true, false, .plain, [⟨0, 1, .rws, 1, 0, 0⟩, ⟨1, 1, .rws, 1, 0, 0⟩]⟩
  , ⟨0x2C, 1, 0x44, 1, 0, true, false, .plain, [⟨0, 16, .rws, 500, 10, 10000⟩]⟩
  , ⟨0x2C, 1, 0x48, 1, 0, true, false, .plain, [⟨0, 16, .rws, 500, 50, 2000⟩]⟩
  , ⟨0x2C, 1, 0x80, 8, 8, true, false, .plain, [⟨0, 25, .rws, 0, 0, 0⟩]⟩
  , ⟨0x2C, 1, 0x84, 8, 8, true, false, .plain, [⟨0, 25, .rws, 0, 0, 0⟩]⟩
  , ⟨0x2D, 1, 0x40, 1, 0, false, false, .plain, [⟨0, 3, .ro, 0, 0, 0⟩, ⟨3, 1, .ro, 0, 0, 0⟩, ⟨4, 1, .ro, 0, 0, 0⟩, ⟨5, 1, .ro, 0, 0, 0⟩, ⟨6, 1, .ro, 0, 0, 0⟩, ⟨8, 4, .ro, 0, 0, 0⟩]⟩
  , ⟨0x2D, 1, 0x44, 1, 0, false, false, .plain, [⟨0, 26, .ro, 0, 0, 0⟩]⟩
  , ⟨0x2D, 1, 0x48, 1, 0, false, false, .plain, [⟨0, 10, .ro, 0, 0, 0⟩, ⟨16, 6, .ro, 0, 0, 0⟩]⟩
  , ⟨0x2D, 1, 0x50, 1, 0, false, false, .plain, [⟨0, 24, .ro, 0, 0, 0⟩]⟩
  , ⟨0x2D, 1, 0x54, 1, 0, false, false, .plain, [⟨0, 24, .ro, 0, 0, 0⟩]⟩
  , ⟨0x2D, 1, 0x58, 1, 0, false, false, .plain, [⟨0, 24, .ro, 0, 0, 0⟩]⟩
  , ⟨0x2E, 1, 0x40, 1, 0, false, false, .plain, [⟨0, 3, .ro, 0, 0, 0⟩]⟩
  , ⟨0x2E, 1, 0x44, 1, 0, false, false, .lo, [⟨0, 32, .ro, 0, 0, 0⟩]⟩
  , ⟨0x2E, 1, 0x48, 1, 0, false, false, .hi, [⟨0, 32, .ro, 0, 0, 0⟩]⟩
  , ⟨0x2E, 1, 0x4C, 1, 0, false, false, .lo, [⟨0, 32, .ro, 0, 0, 0⟩]⟩
  , ⟨0x2E, 1, 0x50, 1, 0, false, false, .hi, [⟨0, 32, .ro, 0, 0, 0⟩]⟩
  , ⟨0x2E, 1, 0x54, 1, 0, false, false, .lo, [⟨0, 32, .ro, 0, 0, 0⟩]⟩
  , ⟨0x2E, 1, 0x58, 1, 0, false, false, .hi, [⟨0, 32, .ro, 0, 0, 0⟩]⟩
  , ⟨0x2E, 1, 0x5C, 1, 0, false, false, .plain, [⟨0, 26, .ro, 0, 0, 0⟩]⟩
  , ⟨0x2E, 1, 0x60, 1, 0, false, false, .plain, [⟨0, 32, .ro, 0, 0, 0⟩]⟩
  , ⟨0x2F, 1, 0x40, 1, 0, false, false, .lo, [⟨0, 32, .rc, 0, 0, 0⟩]⟩
  , ⟨0x2F, 1, 0x44, 1, 0, false, false, .hi, [⟨0, 32, .rc, 0, 0, 0⟩]⟩
  , ⟨0x2F, 1, 0x48, 1, 0, false, false, .plain, [⟨0, 32, .rc, 0, 0, 0⟩]⟩
  , ⟨0x2F, 1, 0x4C, 1, 0, false, false, .plain, [⟨0, 22, .rc, 0, 0, 0⟩]⟩
  , ⟨0x2F, 1, 0x50, 1, 0, false, false, .plain, [⟨0, 32, .rc, 0, 0, 0⟩]⟩
  , ⟨0x2F, 1, 0x54, 1, 0, false, false, .plain, [⟨0, 32, .rc, 0, 0, 0⟩]⟩ ]

/-! ### FCH (R261) -/

abbrev FCH_MODE_IFACE (c : Nat) : Fld := ⟨0x60040 + 0x1000 * c, 0, 2⟩
abbrev FCH_MODE_RATE (c : Nat) : Fld := ⟨0x60040 + 0x1000 * c, 4, 3⟩
abbrev FCH_CTRL_RETRAIN (c : Nat) : Fld := ⟨0x60044 + 0x1000 * c, 0, 1⟩
abbrev FCH_CTRL_QUIESCE (c : Nat) : Fld := ⟨0x60044 + 0x1000 * c, 1, 1⟩
abbrev FCH_PACE_HIGH (c : Nat) : Fld := ⟨0x60048 + 0x1000 * c, 0, 9⟩
abbrev FCH_PACE_LOW (c : Nat) : Fld := ⟨0x60048 + 0x1000 * c, 16, 9⟩
abbrev FCH_SUSP_RESUME_MIN (c : Nat) : Fld := ⟨0x6004c + 0x1000 * c, 0, 10⟩
abbrev FCH_STAT_UP (c : Nat) : Fld := ⟨0x60080 + 0x1000 * c, 0, 1⟩
abbrev FCH_STAT_TRAINING (c : Nat) : Fld := ⟨0x60080 + 0x1000 * c, 1, 1⟩
abbrev FCH_STAT_DOWN (c : Nat) : Fld := ⟨0x60080 + 0x1000 * c, 2, 1⟩
abbrev FCH_STAT_DIE_FAILED (c : Nat) : Fld := ⟨0x60080 + 0x1000 * c, 16, 16⟩
abbrev FCH_FILL_BURSTS (c : Nat) : Fld := ⟨0x60084 + 0x1000 * c, 0, 9⟩
abbrev FCH_FILL_FULL (c : Nat) : Fld := ⟨0x60084 + 0x1000 * c, 16, 1⟩
abbrev FCH_QDEPTH_DEMAND (c : Nat) : Fld := ⟨0x60088 + 0x1000 * c, 0, 7⟩
abbrev FCH_QDEPTH_SAVE (c : Nat) : Fld := ⟨0x60088 + 0x1000 * c, 8, 7⟩
abbrev FCH_QDEPTH_NORMAL (c : Nat) : Fld := ⟨0x60088 + 0x1000 * c, 16, 7⟩
abbrev FCH_QDEPTH_UPKEEP (c : Nat) : Fld := ⟨0x60088 + 0x1000 * c, 24, 7⟩
abbrev FCH_RD_LO_COUNT (c : Nat) : Fld := ⟨0x600c0 + 0x1000 * c, 0, 32⟩
abbrev FCH_RD_HI_COUNT (c : Nat) : Fld := ⟨0x600c4 + 0x1000 * c, 0, 32⟩
abbrev FCH_PG_LO_COUNT (c : Nat) : Fld := ⟨0x600c8 + 0x1000 * c, 0, 32⟩
abbrev FCH_PG_HI_COUNT (c : Nat) : Fld := ⟨0x600cc + 0x1000 * c, 0, 32⟩
abbrev FCH_ER_COUNT (c : Nat) : Fld := ⟨0x600d0 + 0x1000 * c, 0, 32⟩
abbrev FCH_SUSPCNT_COUNT (c : Nat) : Fld := ⟨0x600d4 + 0x1000 * c, 0, 32⟩
abbrev FCH_NOTFREE_COUNT (c : Nat) : Fld := ⟨0x600d8 + 0x1000 * c, 0, 32⟩
abbrev FCH_TMO_COUNT (c : Nat) : Fld := ⟨0x600dc + 0x1000 * c, 0, 32⟩

/-- The register tables of FCH (R261). -/
def rowsFCH : List Row :=
  [ ⟨0x60, 16, 0x40, 1, 0, false, false, .plain, [⟨0, 2, .rws, 1, 1, 2⟩, ⟨4, 3, .rws, 3, 0, 3⟩]⟩
  , ⟨0x60, 16, 0x44, 1, 0, false, false, .plain, [⟨0, 1, .wo, 0, 0, 0⟩, ⟨1, 1, .rws, 0, 0, 0⟩]⟩
  , ⟨0x60, 16, 0x48, 1, 0, false, false, .plain, [⟨0, 9, .rws, 192, 1, 256⟩, ⟨16, 9, .rws, 64, 0, 255⟩]⟩
  , ⟨0x60, 16, 0x4C, 1, 0, false, false, .plain, [⟨0, 10, .rws, 200, 50, 1000⟩]⟩
  , ⟨0x60, 16, 0x80, 1, 0, false, false, .plain, [⟨0, 1, .ro, 0, 0, 0⟩, ⟨1, 1, .ro, 0, 0, 0⟩, ⟨2, 1, .ro, 0, 0, 0⟩, ⟨16, 16, .ro, 0, 0, 0⟩]⟩
  , ⟨0x60, 16, 0x84, 1, 0, false, false, .plain, [⟨0, 9, .ro, 0, 0, 0⟩, ⟨16, 1, .ro, 0, 0, 0⟩]⟩
  , ⟨0x60, 16, 0x88, 1, 0, false, false, .plain, [⟨0, 7, .ro, 0, 0, 0⟩, ⟨8, 7, .ro, 0, 0, 0⟩, ⟨16, 7, .ro, 0, 0, 0⟩, ⟨24, 7, .ro, 0, 0, 0⟩]⟩
  , ⟨0x60, 16, 0xC0, 1, 0, false, false, .lo, [⟨0, 32, .rc, 0, 0, 0⟩]⟩
  , ⟨0x60, 16, 0xC4, 1, 0, false, false, .hi, [⟨0, 32, .rc, 0, 0, 0⟩]⟩
  , ⟨0x60, 16, 0xC8, 1, 0, false, false, .lo, [⟨0, 32, .rc, 0, 0, 0⟩]⟩
  , ⟨0x60, 16, 0xCC, 1, 0, false, false, .hi, [⟨0, 32, .rc, 0, 0, 0⟩]⟩
  , ⟨0x60, 16, 0xD0, 1, 0, false, false, .plain, [⟨0, 32, .rc, 0, 0, 0⟩]⟩
  , ⟨0x60, 16, 0xD4, 1, 0, false, false, .plain, [⟨0, 32, .rc, 0, 0, 0⟩]⟩
  , ⟨0x60, 16, 0xD8, 1, 0, false, false, .plain, [⟨0, 32, .rc, 0, 0, 0⟩]⟩
  , ⟨0x60, 16, 0xDC, 1, 0, false, false, .plain, [⟨0, 32, .rc, 0, 0, 0⟩]⟩ ]

/-! ### FDG (R262) -/

abbrev FDG_DIE_STATE (c n : Nat) : Fld := ⟨0xc0040 + 0x1000 * c + 4 * n, 0, 2⟩
abbrev FDG_DIE_RETIRED (c n : Nat) : Fld := ⟨0xc0040 + 0x1000 * c + 4 * n, 4, 12⟩
abbrev FDG_DIE_EC_MAX (c n : Nat) : Fld := ⟨0xc0040 + 0x1000 * c + 4 * n, 16, 16⟩

/-- The register tables of FDG (R262). -/
def rowsFDG : List Row :=
  [ ⟨0xC0, 16, 0x40, 16, 4, false, false, .plain, [⟨0, 2, .ro, 0, 0, 0⟩, ⟨4, 12, .ro, 0, 0, 0⟩, ⟨16, 16, .ro, 0, 0, 0⟩]⟩ ]

/-! ### FARR (R263) -/

abbrev FARR_CTRL_WL_EN : Fld := ⟨0x70040, 0, 1⟩
abbrev FARR_CTRL_REFRESH_EN : Fld := ⟨0x70040, 1, 1⟩
abbrev FARR_WARN_BITS_SLC : Fld := ⟨0x70044, 0, 8⟩
abbrev FARR_WARN_BITS_TLC : Fld := ⟨0x70044, 8, 8⟩
abbrev FARR_WARN_ITER_WARN : Fld := ⟨0x70044, 16, 5⟩
abbrev FARR_WORN_PROG_WARN : Fld := ⟨0x70048, 0, 8⟩
abbrev FARR_WORN_EARLY_REFRESH : Fld := ⟨0x70048, 8, 8⟩
abbrev FARR_WORN_DIE_RETIRE_PCT : Fld := ⟨0x70048, 16, 8⟩
abbrev FARR_WORN_WEAR_EVT_PCT : Fld := ⟨0x70048, 24, 8⟩
abbrev FARR_WL_SPREAD : Fld := ⟨0x7004c, 0, 16⟩
abbrev FARR_RETRY_RETRY_MAX : Fld := ⟨0x70050, 0, 4⟩
abbrev FARR_RETRY_ITER_MAX : Fld := ⟨0x70050, 8, 5⟩
abbrev FARR_RETRY_SOFT_ITER : Fld := ⟨0x70050, 16, 6⟩
abbrev FARR_FAILED_DIES (n : Nat) : Fld := ⟨0x70080 + 4 * n, 0, 32⟩
abbrev FARR_RETIRED_BLOCKS : Fld := ⟨0x700a0, 0, 24⟩
abbrev FARR_FACTORY_BLOCKS : Fld := ⟨0x700a4, 0, 24⟩
abbrev FARR_EC_MAX_EC : Fld := ⟨0x700a8, 0, 24⟩
abbrev FARR_EC_MIN_EC : Fld := ⟨0x700ac, 0, 24⟩
abbrev FARR_RELOC_LEFT_SKERRIES : Fld := ⟨0x700b0, 0, 22⟩
abbrev FARR_EARLY_LO_COUNT : Fld := ⟨0x700c0, 0, 32⟩
abbrev FARR_EARLY_HI_COUNT : Fld := ⟨0x700c4, 0, 32⟩
abbrev FARR_LADDER1_COUNT : Fld := ⟨0x700c8, 0, 32⟩
abbrev FARR_LADDER2_COUNT : Fld := ⟨0x700cc, 0, 32⟩
abbrev FARR_REBUILD_COUNT : Fld := ⟨0x700d0, 0, 32⟩
abbrev FARR_STRIPE_LOSS_COUNT : Fld := ⟨0x700d4, 0, 32⟩
abbrev FARR_REDIRECT_COUNT : Fld := ⟨0x700d8, 0, 32⟩
abbrev FARR_REFRESH_COUNT : Fld := ⟨0x700dc, 0, 32⟩
abbrev FARR_WORN_CNT_BLOCKS : Fld := ⟨0x700e0, 0, 24⟩
abbrev FARR_Q_BLOCK_CH : Fld := ⟨0x71040, 0, 4⟩
abbrev FARR_Q_BLOCK_DIE : Fld := ⟨0x71040, 4, 4⟩
abbrev FARR_Q_BLOCK_PLANE : Fld := ⟨0x71040, 8, 2⟩
abbrev FARR_Q_BLOCK_BLOCK : Fld := ⟨0x71040, 12, 14⟩
abbrev FARR_Q_REC_VALID : Fld := ⟨0x71044, 31, 1⟩
abbrev FARR_Q_REC_BSTATE : Fld := ⟨0x71044, 0, 3⟩
abbrev FARR_Q_REC_MODE : Fld := ⟨0x71044, 3, 1⟩
abbrev FARR_Q_REC_WORN : Fld := ⟨0x71044, 4, 1⟩
abbrev FARR_Q_REC_EARLY : Fld := ⟨0x71044, 8, 8⟩
abbrev FARR_Q_WP_PAGE : Fld := ⟨0x71048, 0, 16⟩
abbrev FARR_Q_EC_EC : Fld := ⟨0x7104c, 0, 24⟩

/-- The register tables of FARR (R263). -/
def rowsFARR : List Row :=
  [ ⟨0x70, 1, 0x40, 1, 0, false, false, .plain, [⟨0, 1, .rws, 1, 0, 0⟩, ⟨1, 1, .rws, 1, 0, 0⟩]⟩
  , ⟨0x70, 1, 0x44, 1, 0, false, false, .plain, [⟨0, 8, .rws, 80, 8, 255⟩, ⟨8, 8, .rws, 150, 8, 255⟩, ⟨16, 5, .rws, 10, 1, 30⟩]⟩
  , ⟨0x70, 1, 0x48, 1, 0, false, false, .plain, [⟨0, 8, .rws, 150, 110, 250⟩, ⟨8, 8, .rws, 4, 1, 255⟩, ⟨16, 8, .rws, 10, 1, 50⟩, ⟨24, 8, .rws, 1, 1, 10⟩]⟩
  , ⟨0x70, 1, 0x4C, 1, 0, false, false, .plain, [⟨0, 16, .rws, 200, 16, 4000⟩]⟩
  , ⟨0x70, 1, 0x50, 1, 0, false, false, .plain, [⟨0, 4, .rws, 7, 1, 15⟩, ⟨8, 5, .rws, 20, 5, 30⟩, ⟨16, 6, .rws, 40, 10, 60⟩]⟩
  , ⟨0x70, 1, 0x80, 8, 4, false, false, .plain, [⟨0, 32, .ro, 0, 0, 0⟩]⟩
  , ⟨0x70, 1, 0xA0, 1, 0, false, false, .plain, [⟨0, 24, .ro, 0, 0, 0⟩]⟩
  , ⟨0x70, 1, 0xA4, 1, 0, false, false, .plain, [⟨0, 24, .ro, 0, 0, 0⟩]⟩
  , ⟨0x70, 1, 0xA8, 1, 0, false, false, .plain, [⟨0, 24, .ro, 0, 0, 0⟩]⟩
  , ⟨0x70, 1, 0xAC, 1, 0, false, false, .plain, [⟨0, 24, .ro, 0, 0, 0⟩]⟩
  , ⟨0x70, 1, 0xB0, 1, 0, false, false, .plain, [⟨0, 22, .ro, 0, 0, 0⟩]⟩
  , ⟨0x70, 1, 0xC0, 1, 0, false, false, .lo, [⟨0, 32, .rc, 0, 0, 0⟩]⟩
  , ⟨0x70, 1, 0xC4, 1, 0, false, false, .hi, [⟨0, 32, .rc, 0, 0, 0⟩]⟩
  , ⟨0x70, 1, 0xC8, 1, 0, false, false, .plain, [⟨0, 32, .rc, 0, 0, 0⟩]⟩
  , ⟨0x70, 1, 0xCC, 1, 0, false, false, .plain, [⟨0, 32, .rc, 0, 0, 0⟩]⟩
  , ⟨0x70, 1, 0xD0, 1, 0, false, false, .plain, [⟨0, 32, .rc, 0, 0, 0⟩]⟩
  , ⟨0x70, 1, 0xD4, 1, 0, false, false, .plain, [⟨0, 32, .rc, 0, 0, 0⟩]⟩
  , ⟨0x70, 1, 0xD8, 1, 0, false, false, .plain, [⟨0, 32, .rc, 0, 0, 0⟩]⟩
  , ⟨0x70, 1, 0xDC, 1, 0, false, false, .plain, [⟨0, 32, .rc, 0, 0, 0⟩]⟩
  , ⟨0x70, 1, 0xE0, 1, 0, false, false, .plain, [⟨0, 24, .ro, 0, 0, 0⟩]⟩
  , ⟨0x71, 1, 0x40, 1, 0, false, false, .plain, [⟨0, 4, .rw, 0, 0, 0⟩, ⟨4, 4, .rw, 0, 0, 0⟩, ⟨8, 2, .rw, 0, 0, 0⟩, ⟨12, 14, .rw, 0, 0, 0⟩]⟩
  , ⟨0x71, 1, 0x44, 1, 0, false, false, .plain, [⟨31, 1, .ro, 0, 0, 0⟩, ⟨0, 3, .ro, 0, 0, 0⟩, ⟨3, 1, .ro, 0, 0, 0⟩, ⟨4, 1, .ro, 0, 0, 0⟩, ⟨8, 8, .ro, 0, 0, 0⟩]⟩
  , ⟨0x71, 1, 0x48, 1, 0, false, false, .plain, [⟨0, 16, .ro, 0, 0, 0⟩]⟩
  , ⟨0x71, 1, 0x4C, 1, 0, false, false, .plain, [⟨0, 24, .ro, 0, 0, 0⟩]⟩ ]

/-! ### MOV (R299) -/

abbrev MOV_CMD_START (c : Nat) : Fld := ⟨0x30040 + 0x1000 * c, 0, 1⟩
abbrev MOV_CMD_ABORT (c : Nat) : Fld := ⟨0x30040 + 0x1000 * c, 1, 1⟩
abbrev MOV_STAT_STATE (c : Nat) : Fld := ⟨0x30044 + 0x1000 * c, 0, 3⟩
abbrev MOV_STAT_START_REFUSED (c : Nat) : Fld := ⟨0x30044 + 0x1000 * c, 8, 1⟩
abbrev MOV_STAT_LAST_CAUSE (c : Nat) : Fld := ⟨0x30044 + 0x1000 * c, 12, 4⟩
abbrev MOV_PC_PC (c : Nat) : Fld := ⟨0x30048 + 0x1000 * c, 0, 16⟩
abbrev MOV_CTR01_CTR0 (c : Nat) : Fld := ⟨0x3004c + 0x1000 * c, 0, 16⟩
abbrev MOV_CTR01_CTR1 (c : Nat) : Fld := ⟨0x3004c + 0x1000 * c, 16, 16⟩
abbrev MOV_CTR23_CTR2 (c : Nat) : Fld := ⟨0x30050 + 0x1000 * c, 0, 16⟩
abbrev MOV_CTR23_CTR3 (c : Nat) : Fld := ⟨0x30050 + 0x1000 * c, 16, 16⟩
abbrev MOV_SIGCODE_CODE (c : Nat) : Fld := ⟨0x30054 + 0x1000 * c, 0, 32⟩
abbrev MOV_CFG_START_PC (c : Nat) : Fld := ⟨0x30080 + 0x1000 * c, 0, 16⟩
abbrev MOV_CFG_PRIO (c : Nat) : Fld := ⟨0x30080 + 0x1000 * c, 16, 2⟩
abbrev MOV_CFG_CLASS (c : Nat) : Fld := ⟨0x30080 + 0x1000 * c, 24, 3⟩
abbrev MOV_A_LO_ADDR (c n : Nat) : Fld := ⟨0x300c0 + 0x1000 * c + 8 * n, 0, 32⟩
abbrev MOV_A_HI_ADDR (c n : Nat) : Fld := ⟨0x300c4 + 0x1000 * c + 8 * n, 0, 32⟩
abbrev MOV_WA_LO_ADDR (c n : Nat) : Fld := ⟨0x30100 + 0x1000 * c + 8 * n, 0, 32⟩
abbrev MOV_WA_HI_ADDR (c n : Nat) : Fld := ⟨0x30104 + 0x1000 * c + 8 * n, 0, 32⟩
abbrev MOV_RES_BYTES_BYTES (c : Nat) : Fld := ⟨0x30140 + 0x1000 * c, 0, 26⟩
abbrev MOV_RES_BYTES_VALID (c : Nat) : Fld := ⟨0x30140 + 0x1000 * c, 31, 1⟩
abbrev MOV_RES_PC_PC (c : Nat) : Fld := ⟨0x30144 + 0x1000 * c, 0, 16⟩
abbrev MOV_RES_CAUSE_CAUSE (c : Nat) : Fld := ⟨0x30148 + 0x1000 * c, 0, 4⟩
abbrev MOV_BERR_PC (c : Nat) : Fld := ⟨0x30150 + 0x1000 * c, 0, 16⟩
abbrev MOV_BERR_ECAUSE (c : Nat) : Fld := ⟨0x30150 + 0x1000 * c, 16, 4⟩
abbrev MOV_BERR_VALID (c : Nat) : Fld := ⟨0x30150 + 0x1000 * c, 31, 1⟩
abbrev MOV_BERR_ADDR_LO_ADDR (c : Nat) : Fld := ⟨0x30154 + 0x1000 * c, 0, 32⟩
abbrev MOV_BERR_ADDR_HI_ADDR (c : Nat) : Fld := ⟨0x30158 + 0x1000 * c, 0, 32⟩
abbrev MOV_BURSTS_LO_COUNT (c : Nat) : Fld := ⟨0x30180 + 0x1000 * c, 0, 32⟩
abbrev MOV_BURSTS_HI_COUNT (c : Nat) : Fld := ⟨0x30184 + 0x1000 * c, 0, 32⟩
abbrev MOV_BERRCNT_COUNT (c : Nat) : Fld := ⟨0x30188 + 0x1000 * c, 0, 32⟩
abbrev MOV_ABORTCNT_COUNT (c : Nat) : Fld := ⟨0x3018c + 0x1000 * c, 0, 32⟩

/-- The register tables of MOV (R299). -/
def rowsMOV : List Row :=
  [ ⟨0x30, 32, 0x40, 1, 0, false, false, .plain, [⟨0, 1, .wo, 0, 0, 0⟩, ⟨1, 1, .wo, 0, 0, 0⟩]⟩
  , ⟨0x30, 32, 0x44, 1, 0, false, false, .plain, [⟨0, 3, .ro, 0, 0, 0⟩, ⟨8, 1, .w1c, 0, 0, 0⟩, ⟨12, 4, .ro, 0, 0, 0⟩]⟩
  , ⟨0x30, 32, 0x48, 1, 0, false, false, .plain, [⟨0, 16, .ro, 0, 0, 0⟩]⟩
  , ⟨0x30, 32, 0x4C, 1, 0, false, false, .plain, [⟨0, 16, .ro, 0, 0, 0⟩, ⟨16, 16, .ro, 0, 0, 0⟩]⟩
  , ⟨0x30, 32, 0x50, 1, 0, false, false, .plain, [⟨0, 16, .ro, 0, 0, 0⟩, ⟨16, 16, .ro, 0, 0, 0⟩]⟩
  , ⟨0x30, 32, 0x54, 1, 0, false, false, .plain, [⟨0, 32, .ro, 0, 0, 0⟩]⟩
  , ⟨0x30, 28, 0x80, 1, 0, true, false, .plain, [⟨0, 16, .rws, 0, 0, 0⟩, ⟨16, 2, .rws, 2, 0, 0⟩, ⟨24, 3, .rws, 0, 0, 0⟩]⟩
  , ⟨0x4C, 4, 0x80, 1, 0, true, false, .plain, [⟨0, 16, .rws, 61440, 61440, 65535⟩, ⟨16, 2, .rws, 2, 0, 0⟩, ⟨24, 3, .ro, 4, 0, 0⟩]⟩
  , ⟨0x30, 32, 0xC0, 8, 8, true, false, .lo, [⟨0, 32, .rws, 0, 0, 0⟩]⟩
  , ⟨0x30, 32, 0xC4, 8, 8, true, false, .hi, [⟨0, 32, .rws, 0, 0, 0⟩]⟩
  , ⟨0x30, 32, 0x100, 8, 8, false, false, .lo, [⟨0, 32, .ro, 0, 0, 0⟩]⟩
  , ⟨0x30, 32, 0x104, 8, 8, false, false, .hi, [⟨0, 32, .ro, 0, 0, 0⟩]⟩
  , ⟨0x30, 32, 0x140, 1, 0, false, false, .plain, [⟨0, 26, .ro, 0, 0, 0⟩, ⟨31, 1, .w1c, 0, 0, 0⟩]⟩
  , ⟨0x30, 32, 0x144, 1, 0, false, false, .plain, [⟨0, 16, .ro, 0, 0, 0⟩]⟩
  , ⟨0x30, 32, 0x148, 1, 0, false, false, .plain, [⟨0, 4, .ro, 0, 0, 0⟩]⟩
  , ⟨0x30, 32, 0x150, 1, 0, false, false, .plain, [⟨0, 16, .ro, 0, 0, 0⟩, ⟨16, 4, .ro, 0, 0, 0⟩, ⟨31, 1, .w1c, 0, 0, 0⟩]⟩
  , ⟨0x30, 32, 0x154, 1, 0, false, false, .lo, [⟨0, 32, .ro, 0, 0, 0⟩]⟩
  , ⟨0x30, 32, 0x158, 1, 0, false, false, .hi, [⟨0, 32, .ro, 0, 0, 0⟩]⟩
  , ⟨0x30, 32, 0x180, 1, 0, false, false, .lo, [⟨0, 32, .rc, 0, 0, 0⟩]⟩
  , ⟨0x30, 32, 0x184, 1, 0, false, false, .hi, [⟨0, 32, .rc, 0, 0, 0⟩]⟩
  , ⟨0x30, 32, 0x188, 1, 0, false, false, .plain, [⟨0, 32, .rc, 0, 0, 0⟩]⟩
  , ⟨0x30, 32, 0x18C, 1, 0, false, false, .plain, [⟨0, 32, .rc, 0, 0, 0⟩]⟩ ]

/-! ### MVG (R300) -/

abbrev MVG_MODE_MODE (c : Nat) : Fld := ⟨0xb4040 + 0x1000 * c, 0, 1⟩
abbrev MVG_FLAGS_FLAGS : Fld := ⟨0xb4044, 0, 32⟩
abbrev MVG_FLAG_SET_SET : Fld := ⟨0xb4048, 0, 32⟩
abbrev MVG_STAGE_BANK14_EN : Fld := ⟨0xb404c, 0, 1⟩
abbrev MVG_PM_ADDR_WORD : Fld := ⟨0xb4080, 0, 16⟩
abbrev MVG_PM_DATA_LO_LO : Fld := ⟨0xb4084, 0, 32⟩
abbrev MVG_PM_DATA_HI_HI : Fld := ⟨0xb4088, 0, 32⟩
abbrev MVG_PM_STAT_DENIED : Fld := ⟨0xb408c, 0, 1⟩
abbrev MVG_CREC_W (n : Nat) : Fld := ⟨0xb7040 + 4 * n, 0, 32⟩
abbrev MVG_CPOP_ANY : Fld := ⟨0xb7050, 0, 32⟩
abbrev MVG_CCOUNT_RECORDS : Fld := ⟨0xb7054, 0, 5⟩

/-- The register tables of MVG (R300). -/
def rowsMVG : List Row :=
  [ ⟨0xB4, 4, 0x40, 1, 0, false, false, .plain, [⟨0, 1, .rws, 1, 0, 0⟩]⟩
  , ⟨0xB4, 1, 0x44, 1, 0, false, false, .plain, [⟨0, 32, .w1c, 0, 0, 0⟩]⟩
  , ⟨0xB4, 1, 0x48, 1, 0, false, false, .plain, [⟨0, 32, .w1s, 0, 0, 0⟩]⟩
  , ⟨0xB4, 1, 0x4C, 1, 0, false, false, .plain, [⟨0, 1, .rws, 0, 0, 0⟩]⟩
  , ⟨0xB4, 1, 0x80, 1, 0, false, false, .plain, [⟨0, 16, .rws, 0, 0, 0⟩]⟩
  , ⟨0xB4, 1, 0x84, 1, 0, false, false, .plain, [⟨0, 32, .rws, 0, 0, 0⟩]⟩
  , ⟨0xB4, 1, 0x88, 1, 0, false, false, .plain, [⟨0, 32, .rws, 0, 0, 0⟩]⟩
  , ⟨0xB4, 1, 0x8C, 1, 0, false, false, .plain, [⟨0, 1, .w1c, 0, 0, 0⟩]⟩
  , ⟨0xB7, 1, 0x40, 4, 4, false, false, .plain, [⟨0, 32, .ro, 0, 0, 0⟩]⟩
  , ⟨0xB7, 1, 0x50, 1, 0, false, false, .plain, [⟨0, 32, .wo, 0, 0, 0⟩]⟩
  , ⟨0xB7, 1, 0x54, 1, 0, false, false, .plain, [⟨0, 5, .ro, 0, 0, 0⟩]⟩ ]

/-! ### DRC (R332) -/

abbrev DRC_CFG_RATE (d : Nat) : Fld := ⟨0x50040 + 0x4000 * d, 0, 3⟩
abbrev DRC_CFG_DENSITY (d : Nat) : Fld := ⟨0x50040 + 0x4000 * d, 4, 2⟩
abbrev DRC_CFG_RANK2 (d : Nat) : Fld := ⟨0x50040 + 0x4000 * d, 6, 1⟩
abbrev DRC_CFG_HEIGHT (d : Nat) : Fld := ⟨0x50040 + 0x4000 * d, 8, 2⟩
abbrev DRC_CFG_RCD (d : Nat) : Fld := ⟨0x50040 + 0x4000 * d, 12, 1⟩
abbrev DRC_CFG_FGR (d : Nat) : Fld := ⟨0x50040 + 0x4000 * d, 16, 1⟩
abbrev DRC_CFG_REF_SB (d : Nat) : Fld := ⟨0x50040 + 0x4000 * d, 17, 1⟩
abbrev DRC_PAGE_OPEN_MAX (d : Nat) : Fld := ⟨0x50044 + 0x4000 * d, 0, 16⟩
abbrev DRC_PAGE_AUTO_IDLE (d : Nat) : Fld := ⟨0x50044 + 0x4000 * d, 16, 16⟩
abbrev DRC_PD_EN (d : Nat) : Fld := ⟨0x50048 + 0x4000 * d, 0, 1⟩
abbrev DRC_PD_PDTIME (d : Nat) : Fld := ⟨0x50048 + 0x4000 * d, 16, 16⟩
abbrev DRC_REF_POSTPONE_EN (d : Nat) : Fld := ⟨0x5004c + 0x4000 * d, 0, 1⟩
abbrev DRC_TRAIN_MARGIN_MIN (d : Nat) : Fld := ⟨0x50050 + 0x4000 * d, 0, 4⟩
abbrev DRC_STAT_TRAINED (d : Nat) : Fld := ⟨0x50080 + 0x4000 * d, 0, 1⟩
abbrev DRC_STAT_PATH (d : Nat) : Fld := ⟨0x50080 + 0x4000 * d, 1, 2⟩
abbrev DRC_STAT_SELF_REFRESH (d : Nat) : Fld := ⟨0x50080 + 0x4000 * d, 3, 1⟩
abbrev DRC_STAT_PD_RANKS (d : Nat) : Fld := ⟨0x50080 + 0x4000 * d, 4, 2⟩
abbrev DRC_STAT_RATE2X (d : Nat) : Fld := ⟨0x50080 + 0x4000 * d, 6, 1⟩
abbrev DRC_STAT_DEBT_MAX (d : Nat) : Fld := ⟨0x50080 + 0x4000 * d, 8, 4⟩
abbrev DRC_ACT_LO_COUNT (d : Nat) : Fld := ⟨0x51040 + 0x4000 * d, 0, 32⟩
abbrev DRC_ACT_HI_COUNT (d : Nat) : Fld := ⟨0x51044 + 0x4000 * d, 0, 32⟩
abbrev DRC_RD_LO_COUNT (d : Nat) : Fld := ⟨0x51048 + 0x4000 * d, 0, 32⟩
abbrev DRC_RD_HI_COUNT (d : Nat) : Fld := ⟨0x5104c + 0x4000 * d, 0, 32⟩
abbrev DRC_WR_LO_COUNT (d : Nat) : Fld := ⟨0x51050 + 0x4000 * d, 0, 32⟩
abbrev DRC_WR_HI_COUNT (d : Nat) : Fld := ⟨0x51054 + 0x4000 * d, 0, 32⟩
abbrev DRC_RMW_COUNT (d : Nat) : Fld := ⟨0x51058 + 0x4000 * d, 0, 32⟩
abbrev DRC_REF_PP_COUNT (d : Nat) : Fld := ⟨0x5105c + 0x4000 * d, 0, 32⟩
abbrev DRC_REF_FORCED_COUNT (d : Nat) : Fld := ⟨0x51060 + 0x4000 * d, 0, 32⟩
abbrev DRC_PD_ENTRY_COUNT (d : Nat) : Fld := ⟨0x51064 + 0x4000 * d, 0, 32⟩
abbrev DRC_QFULL_COUNT (d : Nat) : Fld := ⟨0x51068 + 0x4000 * d, 0, 32⟩
abbrev DRC_STARVE_COUNT (d : Nat) : Fld := ⟨0x5106c + 0x4000 * d, 0, 32⟩

/-- The register tables of DRC (R332). -/
def rowsDRC : List Row :=
  [ ⟨0x50, 1, 0x40, 1, 0, false, false, .plain, [⟨0, 3, .rws, 0, 0, 4⟩, ⟨4, 2, .ro, 0, 0, 0⟩, ⟨6, 1, .ro, 0, 0, 0⟩, ⟨8, 2, .ro, 0, 0, 0⟩, ⟨12, 1, .ro, 0, 0, 0⟩, ⟨16, 1, .rws, 0, 0, 0⟩, ⟨17, 1, .rws, 1, 0, 0⟩]⟩
  , ⟨0x54, 1, 0x40, 1, 0, false, false, .plain, [⟨0, 3, .rws, 0, 0, 4⟩, ⟨4, 2, .ro, 0, 0, 0⟩, ⟨6, 1, .ro, 0, 0, 0⟩, ⟨8, 2, .ro, 0, 0, 0⟩, ⟨12, 1, .ro, 0, 0, 0⟩, ⟨16, 1, .rws, 0, 0, 0⟩, ⟨17, 1, .rws, 1, 0, 0⟩]⟩
  , ⟨0x50, 1, 0x44, 1, 0, false, false, .plain, [⟨0, 16, .rws, 2000, 64, 65535⟩, ⟨16, 16, .rws, 128, 16, 65535⟩]⟩
  , ⟨0x54, 1, 0x44, 1, 0, false, false, .plain, [⟨0, 16, .rws, 2000, 64, 65535⟩, ⟨16, 16, .rws, 128, 16, 65535⟩]⟩
  , ⟨0x50, 1, 0x48, 1, 0, false, false, .plain, [⟨0, 1, .rws, 0, 0, 0⟩, ⟨16, 16, .rws, 512, 64, 65535⟩]⟩
  , ⟨0x54, 1, 0x48, 1, 0, false, false, .plain, [⟨0, 1, .rws, 0, 0, 0⟩, ⟨16, 16, .rws, 512, 64, 65535⟩]⟩
  , ⟨0x50, 1, 0x4C, 1, 0, false, false, .plain, [⟨0, 1, .rws, 1, 0, 0⟩]⟩
  , ⟨0x54, 1, 0x4C, 1, 0, false, false, .plain, [⟨0, 1, .rws, 1, 0, 0⟩]⟩
  , ⟨0x50, 1, 0x50, 1, 0, false, false, .plain, [⟨0, 4, .rws, 6, 2, 15⟩]⟩
  , ⟨0x54, 1, 0x50, 1, 0, false, false, .plain, [⟨0, 4, .rws, 6, 2, 15⟩]⟩
  , ⟨0x50, 1, 0x80, 1, 0, false, false, .plain, [⟨0, 1, .ro, 0, 0, 0⟩, ⟨1, 2, .ro, 0, 0, 0⟩, ⟨3, 1, .ro, 0, 0, 0⟩, ⟨4, 2, .ro, 0, 0, 0⟩, ⟨6, 1, .ro, 0, 0, 0⟩, ⟨8, 4, .rc, 0, 0, 0⟩]⟩
  , ⟨0x54, 1, 0x80, 1, 0, false, false, .plain, [⟨0, 1, .ro, 0, 0, 0⟩, ⟨1, 2, .ro, 0, 0, 0⟩, ⟨3, 1, .ro, 0, 0, 0⟩, ⟨4, 2, .ro, 0, 0, 0⟩, ⟨6, 1, .ro, 0, 0, 0⟩, ⟨8, 4, .rc, 0, 0, 0⟩]⟩
  , ⟨0x51, 1, 0x40, 1, 0, false, false, .lo, [⟨0, 32, .rc, 0, 0, 0⟩]⟩
  , ⟨0x51, 1, 0x44, 1, 0, false, false, .hi, [⟨0, 32, .rc, 0, 0, 0⟩]⟩
  , ⟨0x55, 1, 0x40, 1, 0, false, false, .lo, [⟨0, 32, .rc, 0, 0, 0⟩]⟩
  , ⟨0x55, 1, 0x44, 1, 0, false, false, .hi, [⟨0, 32, .rc, 0, 0, 0⟩]⟩
  , ⟨0x51, 1, 0x48, 1, 0, false, false, .lo, [⟨0, 32, .rc, 0, 0, 0⟩]⟩
  , ⟨0x51, 1, 0x4C, 1, 0, false, false, .hi, [⟨0, 32, .rc, 0, 0, 0⟩]⟩
  , ⟨0x55, 1, 0x48, 1, 0, false, false, .lo, [⟨0, 32, .rc, 0, 0, 0⟩]⟩
  , ⟨0x55, 1, 0x4C, 1, 0, false, false, .hi, [⟨0, 32, .rc, 0, 0, 0⟩]⟩
  , ⟨0x51, 1, 0x50, 1, 0, false, false, .lo, [⟨0, 32, .rc, 0, 0, 0⟩]⟩
  , ⟨0x51, 1, 0x54, 1, 0, false, false, .hi, [⟨0, 32, .rc, 0, 0, 0⟩]⟩
  , ⟨0x55, 1, 0x50, 1, 0, false, false, .lo, [⟨0, 32, .rc, 0, 0, 0⟩]⟩
  , ⟨0x55, 1, 0x54, 1, 0, false, false, .hi, [⟨0, 32, .rc, 0, 0, 0⟩]⟩
  , ⟨0x51, 1, 0x58, 1, 0, false, false, .plain, [⟨0, 32, .rc, 0, 0, 0⟩]⟩
  , ⟨0x55, 1, 0x58, 1, 0, false, false, .plain, [⟨0, 32, .rc, 0, 0, 0⟩]⟩
  , ⟨0x51, 1, 0x5C, 1, 0, false, false, .plain, [⟨0, 32, .rc, 0, 0, 0⟩]⟩
  , ⟨0x55, 1, 0x5C, 1, 0, false, false, .plain, [⟨0, 32, .rc, 0, 0, 0⟩]⟩
  , ⟨0x51, 1, 0x60, 1, 0, false, false, .plain, [⟨0, 32, .rc, 0, 0, 0⟩]⟩
  , ⟨0x55, 1, 0x60, 1, 0, false, false, .plain, [⟨0, 32, .rc, 0, 0, 0⟩]⟩
  , ⟨0x51, 1, 0x64, 1, 0, false, false, .plain, [⟨0, 32, .rc, 0, 0, 0⟩]⟩
  , ⟨0x55, 1, 0x64, 1, 0, false, false, .plain, [⟨0, 32, .rc, 0, 0, 0⟩]⟩
  , ⟨0x51, 1, 0x68, 1, 0, false, false, .plain, [⟨0, 32, .rc, 0, 0, 0⟩]⟩
  , ⟨0x55, 1, 0x68, 1, 0, false, false, .plain, [⟨0, 32, .rc, 0, 0, 0⟩]⟩
  , ⟨0x51, 1, 0x6C, 1, 0, false, false, .plain, [⟨0, 32, .rc, 0, 0, 0⟩]⟩
  , ⟨0x55, 1, 0x6C, 1, 0, false, false, .plain, [⟨0, 32, .rc, 0, 0, 0⟩]⟩ ]

/-! ### DSC (R334) -/

abbrev DSC_CE_LO_COUNT (c : Nat) : Fld := ⟨0xb0040 + 0x1000 * c, 0, 32⟩
abbrev DSC_CE_HI_COUNT (c : Nat) : Fld := ⟨0xb0044 + 0x1000 * c, 0, 32⟩
abbrev DSC_UE_COUNT (c : Nat) : Fld := ⟨0xb0048 + 0x1000 * c, 0, 32⟩
abbrev DSC_PSN_COUNT (c : Nat) : Fld := ⟨0xb004c + 0x1000 * c, 0, 32⟩
abbrev DSC_DEVCE_COUNT (c n : Nat) : Fld := ⟨0xb0050 + 0x1000 * c + 4 * n, 0, 32⟩
abbrev DSC_REPAIR_DONE (c : Nat) : Fld := ⟨0xb0078 + 0x1000 * c, 0, 16⟩
abbrev DSC_REPAIR_DROPPED (c : Nat) : Fld := ⟨0xb0078 + 0x1000 * c, 16, 16⟩
abbrev DSC_ERR_VALID (c : Nat) : Fld := ⟨0xb0080 + 0x1000 * c, 31, 1⟩
abbrev DSC_ERR_UE (c : Nat) : Fld := ⟨0xb0080 + 0x1000 * c, 30, 1⟩
abbrev DSC_ERR_PSN (c : Nat) : Fld := ⟨0xb0080 + 0x1000 * c, 29, 1⟩
abbrev DSC_ERR_SOURCE (c : Nat) : Fld := ⟨0xb0080 + 0x1000 * c, 24, 4⟩
abbrev DSC_ERR_DEVICE (c : Nat) : Fld := ⟨0xb0080 + 0x1000 * c, 16, 4⟩
abbrev DSC_ERR_NSYM (c : Nat) : Fld := ⟨0xb0080 + 0x1000 * c, 0, 8⟩
abbrev DSC_ERR_ADDR_LO_ADDR (c : Nat) : Fld := ⟨0xb0084 + 0x1000 * c, 0, 32⟩
abbrev DSC_ERR_ADDR_HI_ADDR (c : Nat) : Fld := ⟨0xb0088 + 0x1000 * c, 0, 32⟩
abbrev DSC_DEVFAIL_VALID (c n : Nat) : Fld := ⟨0xb00c0 + 0x1000 * c + 4 * n, 31, 1⟩
abbrev DSC_DEVFAIL_DEVICE (c n : Nat) : Fld := ⟨0xb00c0 + 0x1000 * c + 4 * n, 0, 4⟩
abbrev DSC_CFG_DEV_FAIL_CNT (c : Nat) : Fld := ⟨0xb0100 + 0x1000 * c, 0, 16⟩
abbrev DSC_CFG_ERASE_EN (c : Nat) : Fld := ⟨0xb0100 + 0x1000 * c, 16, 1⟩
abbrev DSC_PSN_PAT_PAT (c n : Nat) : Fld := ⟨0xb0140 + 0x1000 * c + 4 * n, 0, 32⟩

/-- The register tables of DSC (R334). -/
def rowsDSC : List Row :=
  [ ⟨0xB0, 4, 0x40, 1, 0, false, false, .lo, [⟨0, 32, .rc, 0, 0, 0⟩]⟩
  , ⟨0xB0, 4, 0x44, 1, 0, false, false, .hi, [⟨0, 32, .rc, 0, 0, 0⟩]⟩
  , ⟨0xB0, 4, 0x48, 1, 0, false, false, .plain, [⟨0, 32, .rc, 0, 0, 0⟩]⟩
  , ⟨0xB0, 4, 0x4C, 1, 0, false, false, .plain, [⟨0, 32, .rc, 0, 0, 0⟩]⟩
  , ⟨0xB0, 4, 0x50, 10, 4, false, false, .plain, [⟨0, 32, .rc, 0, 0, 0⟩]⟩
  , ⟨0xB0, 4, 0x78, 1, 0, false, false, .plain, [⟨0, 16, .rc, 0, 0, 0⟩, ⟨16, 16, .rc, 0, 0, 0⟩]⟩
  , ⟨0xB0, 4, 0x80, 1, 0, false, false, .plain, [⟨31, 1, .w1c, 0, 0, 0⟩, ⟨30, 1, .ro, 0, 0, 0⟩, ⟨29, 1, .ro, 0, 0, 0⟩, ⟨24, 4, .ro, 0, 0, 0⟩, ⟨16, 4, .ro, 0, 0, 0⟩, ⟨0, 8, .ro, 0, 0, 0⟩]⟩
  , ⟨0xB0, 4, 0x84, 1, 0, false, false, .plain, [⟨0, 32, .ro, 0, 0, 0⟩]⟩
  , ⟨0xB0, 4, 0x88, 1, 0, false, false, .plain, [⟨0, 32, .ro, 0, 0, 0⟩]⟩
  , ⟨0xB0, 4, 0xC0, 16, 4, false, false, .plain, [⟨31, 1, .ro, 0, 0, 0⟩, ⟨0, 4, .ro, 0, 0, 0⟩]⟩
  , ⟨0xB0, 4, 0x100, 1, 0, false, false, .plain, [⟨0, 16, .rws, 256, 16, 65535⟩, ⟨16, 1, .rws, 1, 0, 0⟩]⟩
  , ⟨0xB0, 4, 0x140, 4, 4, false, false, .plain, [⟨0, 32, .ro, 0, 0, 0⟩]⟩ ]

/-! ### DTRN (R335) -/

abbrev DTRN_CMD_GO : Fld := ⟨0x58040, 0, 1⟩
abbrev DTRN_CMD_STOP : Fld := ⟨0x58040, 1, 1⟩
abbrev DTRN_CMD_OP : Fld := ⟨0x58040, 4, 3⟩
abbrev DTRN_TGT_SC : Fld := ⟨0x58044, 0, 2⟩
abbrev DTRN_TGT_LRANK : Fld := ⟨0x58044, 4, 4⟩
abbrev DTRN_TGT_BANK : Fld := ⟨0x58044, 8, 5⟩
abbrev DTRN_TGT_LINES : Fld := ⟨0x58044, 16, 9⟩
abbrev DTRN_PAT_MODE : Fld := ⟨0x58048, 0, 3⟩
abbrev DTRN_PAT_SEED : Fld := ⟨0x58048, 8, 24⟩
abbrev DTRN_USER_DATA (n : Nat) : Fld := ⟨0x58080 + 4 * n, 0, 32⟩
abbrev DTRN_STAT_BUSY : Fld := ⟨0x580e0, 0, 1⟩
abbrev DTRN_STAT_DONE : Fld := ⟨0x580e0, 8, 1⟩
abbrev DTRN_STAT_AREA_REFUSED : Fld := ⟨0x580e0, 9, 1⟩
abbrev DTRN_LANE0_ERR : Fld := ⟨0x580e4, 0, 32⟩
abbrev DTRN_LANE1_ERR : Fld := ⟨0x580e8, 0, 8⟩
abbrev DTRN_BITERR_COUNT : Fld := ⟨0x580ec, 0, 32⟩

/-- The register tables of DTRN (R335). -/
def rowsDTRN : List Row :=
  [ ⟨0x58, 1, 0x40, 1, 0, false, false, .plain, [⟨0, 1, .wo, 0, 0, 0⟩, ⟨1, 1, .wo, 0, 0, 0⟩, ⟨4, 3, .rws, 0, 0, 0⟩]⟩
  , ⟨0x58, 1, 0x44, 1, 0, false, false, .plain, [⟨0, 2, .rws, 0, 0, 0⟩, ⟨4, 4, .rws, 0, 0, 0⟩, ⟨8, 5, .rws, 0, 0, 0⟩, ⟨16, 9, .rws, 128, 0, 128⟩]⟩
  , ⟨0x58, 1, 0x48, 1, 0, false, false, .plain, [⟨0, 3, .rws, 1, 0, 0⟩, ⟨8, 24, .rws, 1, 1, 16777215⟩]⟩
  , ⟨0x58, 1, 0x80, 20, 4, false, false, .plain, [⟨0, 32, .rws, 0, 0, 0⟩]⟩
  , ⟨0x58, 1, 0xE0, 1, 0, false, false, .plain, [⟨0, 1, .ro, 0, 0, 0⟩, ⟨8, 1, .w1c, 0, 0, 0⟩, ⟨9, 1, .w1c, 0, 0, 0⟩]⟩
  , ⟨0x58, 1, 0xE4, 1, 0, false, false, .plain, [⟨0, 32, .ro, 0, 0, 0⟩]⟩
  , ⟨0x58, 1, 0xE8, 1, 0, false, false, .plain, [⟨0, 8, .ro, 0, 0, 0⟩]⟩
  , ⟨0x58, 1, 0xEC, 1, 0, false, false, .plain, [⟨0, 32, .ro, 0, 0, 0⟩]⟩ ]

/-! ### HLK (R363) -/

abbrev HLK_CFG_MAX_RATE : Fld := ⟨0x10040, 0, 2⟩
abbrev HLK_CFG_X8 : Fld := ⟨0x10040, 4, 1⟩
abbrev HLK_CFG_F68_EN : Fld := ⟨0x10040, 5, 1⟩
abbrev HLK_HINT_HINT (n : Nat) : Fld := ⟨0x10044 + 4 * n, 0, 2⟩
abbrev HLK_LINK_RATE : Fld := ⟨0x10080, 0, 2⟩
abbrev HLK_LINK_WIDTH : Fld := ⟨0x10080, 2, 5⟩
abbrev HLK_LINK_UP : Fld := ⟨0x10080, 8, 1⟩
abbrev HLK_LINK_FLIT256 : Fld := ⟨0x10080, 9, 1⟩
abbrev HLK_LINK_MEM_EN : Fld := ⟨0x10080, 10, 1⟩
abbrev HLK_LINK_DEVLOAD : Fld := ⟨0x10080, 12, 2⟩
abbrev HLK_LINK_LTSSM : Fld := ⟨0x10080, 16, 8⟩
abbrev HLK_HOLD_HELD : Fld := ⟨0x10084, 0, 9⟩
abbrev HLK_HOLD_FULL : Fld := ⟨0x10084, 16, 1⟩
abbrev HLK_CREDIT_REQ_FREE : Fld := ⟨0x10088, 0, 8⟩
abbrev HLK_CREDIT_RWD_FREE : Fld := ⟨0x10088, 8, 8⟩
abbrev HLK_CREDIT_REQ_STOP : Fld := ⟨0x10088, 16, 1⟩
abbrev HLK_CREDIT_RWD_STOP : Fld := ⟨0x10088, 17, 1⟩
abbrev HLK_TMO_MIN_US : Fld := ⟨0x1008c, 0, 20⟩
abbrev HLK_DEC_COMMITTED (n : Nat) : Fld := ⟨0x100a0 + 4 * n, 0, 1⟩
abbrev HLK_DEC_COMMIT_ERR (n : Nat) : Fld := ⟨0x100a0 + 4 * n, 1, 1⟩
abbrev HLK_DEC_IW (n : Nat) : Fld := ⟨0x100a0 + 4 * n, 4, 2⟩
abbrev HLK_DEC_IG (n : Nat) : Fld := ⟨0x100a0 + 4 * n, 8, 4⟩
abbrev HLK_RD_LO_COUNT : Fld := ⟨0x11040, 0, 32⟩
abbrev HLK_RD_HI_COUNT : Fld := ⟨0x11044, 0, 32⟩
abbrev HLK_WR_LO_COUNT : Fld := ⟨0x11048, 0, 32⟩
abbrev HLK_WR_HI_COUNT : Fld := ⟨0x1104c, 0, 32⟩
abbrev HLK_PSN_RX_COUNT : Fld := ⟨0x11050, 0, 32⟩
abbrev HLK_PSN_TX_COUNT : Fld := ⟨0x11054, 0, 32⟩
abbrev HLK_STALL_REQ_PASSES : Fld := ⟨0x11058, 0, 32⟩
abbrev HLK_STALL_RWD_PASSES : Fld := ⟨0x1105c, 0, 32⟩
abbrev HLK_RECOV_COUNT : Fld := ⟨0x11060, 0, 32⟩
abbrev HLK_LINKDN_COUNT : Fld := ⟨0x11064, 0, 32⟩
abbrev HLK_LANE_ACTIVE (n : Nat) : Fld := ⟨0x12040 + 4 * n, 0, 1⟩
abbrev HLK_LANE_PRESET (n : Nat) : Fld := ⟨0x12040 + 4 * n, 4, 4⟩
abbrev HLK_LANE_MARGIN (n : Nat) : Fld := ⟨0x12040 + 4 * n, 8, 8⟩
abbrev HLK_LANE_ERRORS (n : Nat) : Fld := ⟨0x12040 + 4 * n, 16, 16⟩

/-- The register tables of HLK (R363). -/
def rowsHLK : List Row :=
  [ ⟨0x10, 1, 0x40, 1, 0, false, false, .plain, [⟨0, 2, .rws, 2, 0, 2⟩, ⟨4, 1, .rws, 0, 0, 0⟩, ⟨5, 1, .rws, 1, 0, 0⟩]⟩
  , ⟨0x10, 1, 0x44, 4, 4, false, false, .plain, [⟨0, 2, .rws, 0, 0, 0⟩]⟩
  , ⟨0x10, 1, 0x80, 1, 0, false, false, .plain, [⟨0, 2, .ro, 0, 0, 0⟩, ⟨2, 5, .ro, 0, 0, 0⟩, ⟨8, 1, .ro, 0, 0, 0⟩, ⟨9, 1, .ro, 0, 0, 0⟩, ⟨10, 1, .ro, 0, 0, 0⟩, ⟨12, 2, .ro, 0, 0, 0⟩, ⟨16, 8, .ro, 0, 0, 0⟩]⟩
  , ⟨0x10, 1, 0x84, 1, 0, false, false, .plain, [⟨0, 9, .ro, 0, 0, 0⟩, ⟨16, 1, .ro, 0, 0, 0⟩]⟩
  , ⟨0x10, 1, 0x88, 1, 0, false, false, .plain, [⟨0, 8, .ro, 128, 0, 0⟩, ⟨8, 8, .ro, 128, 0, 0⟩, ⟨16, 1, .ro, 0, 0, 0⟩, ⟨17, 1, .ro, 0, 0, 0⟩]⟩
  , ⟨0x10, 1, 0x8C, 1, 0, false, false, .plain, [⟨0, 20, .ro, 2536, 0, 0⟩]⟩
  , ⟨0x10, 1, 0xA0, 4, 4, false, false, .plain, [⟨0, 1, .ro, 0, 0, 0⟩, ⟨1, 1, .ro, 0, 0, 0⟩, ⟨4, 2, .ro, 0, 0, 0⟩, ⟨8, 4, .ro, 0, 0, 0⟩]⟩
  , ⟨0x11, 1, 0x40, 1, 0, false, false, .lo, [⟨0, 32, .rc, 0, 0, 0⟩]⟩
  , ⟨0x11, 1, 0x44, 1, 0, false, false, .hi, [⟨0, 32, .rc, 0, 0, 0⟩]⟩
  , ⟨0x11, 1, 0x48, 1, 0, false, false, .lo, [⟨0, 32, .rc, 0, 0, 0⟩]⟩
  , ⟨0x11, 1, 0x4C, 1, 0, false, false, .hi, [⟨0, 32, .rc, 0, 0, 0⟩]⟩
  , ⟨0x11, 1, 0x50, 1, 0, false, false, .plain, [⟨0, 32, .rc, 0, 0, 0⟩]⟩
  , ⟨0x11, 1, 0x54, 1, 0, false, false, .plain, [⟨0, 32, .rc, 0, 0, 0⟩]⟩
  , ⟨0x11, 1, 0x58, 1, 0, false, false, .plain, [⟨0, 32, .rc, 0, 0, 0⟩]⟩
  , ⟨0x11, 1, 0x5C, 1, 0, false, false, .plain, [⟨0, 32, .rc, 0, 0, 0⟩]⟩
  , ⟨0x11, 1, 0x60, 1, 0, false, false, .plain, [⟨0, 32, .rc, 0, 0, 0⟩]⟩
  , ⟨0x11, 1, 0x64, 1, 0, false, false, .plain, [⟨0, 32, .rc, 0, 0, 0⟩]⟩
  , ⟨0x12, 1, 0x40, 16, 4, false, false, .plain, [⟨0, 1, .ro, 0, 0, 0⟩, ⟨4, 4, .ro, 0, 0, 0⟩, ⟨8, 8, .ro, 0, 0, 0⟩, ⟨16, 16, .rc, 0, 0, 0⟩]⟩ ]

/-! ### STRT (R387) -/

abbrev STRT_CTRL_EN : Fld := ⟨0x88040, 0, 1⟩
abbrev STRT_CTRL_SYNC_OUT_EN : Fld := ⟨0x88040, 1, 1⟩
abbrev STRT_CTRL_RETRAIN : Fld := ⟨0x88040, 8, 1⟩
abbrev STRT_CFG_CLOSE_LEAD : Fld := ⟨0x88044, 0, 8⟩
abbrev STRT_CFG_GS_WARN : Fld := ⟨0x88044, 16, 16⟩
abbrev STRT_EXCLUDE_MASK : Fld := ⟨0x88048, 0, 8⟩
abbrev STRT_STAT_DEV_NO : Fld := ⟨0x88080, 0, 3⟩
abbrev STRT_STAT_MASTER : Fld := ⟨0x88080, 4, 3⟩
abbrev STRT_STAT_SIZE : Fld := ⟨0x88080, 8, 4⟩
abbrev STRT_STAT_RING : Fld := ⟨0x88080, 12, 1⟩
abbrev STRT_STAT_TOOK : Fld := ⟨0x88080, 13, 1⟩
abbrev STRT_STAT_UP_OK : Fld := ⟨0x88080, 14, 1⟩
abbrev STRT_STAT_DOWN_OK : Fld := ⟨0x88080, 15, 1⟩
abbrev STRT_STAT_ALIGNED : Fld := ⟨0x88080, 16, 1⟩
abbrev STRT_STAT_IN_GROUP : Fld := ⟨0x88080, 17, 1⟩
abbrev STRT_STAT_PRESENT : Fld := ⟨0x88080, 24, 8⟩
abbrev STRT_EXPECT_MASK : Fld := ⟨0x88084, 0, 8⟩
abbrev STRT_OFFSET_PS : Fld := ⟨0x88088, 0, 32⟩
abbrev STRT_SHARE_MJ : Fld := ⟨0x8808c, 0, 20⟩
abbrev STRT_SHARE_AGE : Fld := ⟨0x8808c, 20, 12⟩
abbrev STRT_GSEALED_LO_EPOCH : Fld := ⟨0x88090, 0, 32⟩
abbrev STRT_GSEALED_HI_EPOCH : Fld := ⟨0x88094, 0, 32⟩
abbrev STRT_DELAY_UP_PS : Fld := ⟨0x88098, 0, 16⟩
abbrev STRT_DELAY_DOWN_PS : Fld := ⟨0x88098, 16, 16⟩
abbrev STRT_TX_LO_COUNT : Fld := ⟨0x89040, 0, 32⟩
abbrev STRT_TX_HI_COUNT : Fld := ⟨0x89044, 0, 32⟩
abbrev STRT_RX_LO_COUNT : Fld := ⟨0x89048, 0, 32⟩
abbrev STRT_RX_HI_COUNT : Fld := ⟨0x8904c, 0, 32⟩
abbrev STRT_CRC_COUNT : Fld := ⟨0x89050, 0, 32⟩
abbrev STRT_REPLAY_COUNT : Fld := ⟨0x89054, 0, 32⟩
abbrev STRT_LOST_COUNT : Fld := ⟨0x89058, 0, 32⟩
abbrev STRT_STEP_COUNT : Fld := ⟨0x8905c, 0, 32⟩
abbrev STRT_CLOSE_LATE_COUNT : Fld := ⟨0x89060, 0, 32⟩
abbrev STRT_DROP_COUNT : Fld := ⟨0x89064, 0, 32⟩

/-- The register tables of STRT (R387). -/
def rowsSTRT : List Row :=
  [ ⟨0x88, 1, 0x40, 1, 0, false, false, .plain, [⟨0, 1, .rws, 1, 0, 0⟩, ⟨1, 1, .rws, 0, 0, 0⟩, ⟨8, 1, .wo, 0, 0, 0⟩]⟩
  , ⟨0x88, 1, 0x44, 1, 0, false, false, .plain, [⟨0, 8, .rws, 20, 10, 200⟩, ⟨16, 16, .rws, 1000, 10, 65535⟩]⟩
  , ⟨0x88, 1, 0x48, 1, 0, false, false, .plain, [⟨0, 8, .rws, 0, 0, 0⟩]⟩
  , ⟨0x88, 1, 0x80, 1, 0, false, false, .plain, [⟨0, 3, .ro, 0, 0, 0⟩, ⟨4, 3, .ro, 0, 0, 0⟩, ⟨8, 4, .ro, 1, 0, 0⟩, ⟨12, 1, .ro, 0, 0, 0⟩, ⟨13, 1, .ro, 0, 0, 0⟩, ⟨14, 1, .ro, 0, 0, 0⟩, ⟨15, 1, .ro, 0, 0, 0⟩, ⟨16, 1, .ro, 0, 0, 0⟩, ⟨17, 1, .ro, 0, 0, 0⟩, ⟨24, 8, .ro, 1, 0, 0⟩]⟩
  , ⟨0x88, 1, 0x84, 1, 0, false, false, .plain, [⟨0, 8, .ro, 0, 0, 0⟩]⟩
  , ⟨0x88, 1, 0x88, 1, 0, false, false, .plain, [⟨0, 32, .ro, 0, 0, 0⟩]⟩
  , ⟨0x88, 1, 0x8C, 1, 0, false, false, .plain, [⟨0, 20, .ro, 0, 0, 0⟩, ⟨20, 12, .ro, 4095, 0, 0⟩]⟩
  , ⟨0x88, 1, 0x90, 1, 0, false, false, .lo, [⟨0, 32, .ro, 0, 0, 0⟩]⟩
  , ⟨0x88, 1, 0x94, 1, 0, false, false, .hi, [⟨0, 32, .ro, 0, 0, 0⟩]⟩
  , ⟨0x88, 1, 0x98, 1, 0, false, false, .plain, [⟨0, 16, .ro, 0, 0, 0⟩, ⟨16, 16, .ro, 0, 0, 0⟩]⟩
  , ⟨0x89, 1, 0x40, 1, 0, false, false, .lo, [⟨0, 32, .rc, 0, 0, 0⟩]⟩
  , ⟨0x89, 1, 0x44, 1, 0, false, false, .hi, [⟨0, 32, .rc, 0, 0, 0⟩]⟩
  , ⟨0x89, 1, 0x48, 1, 0, false, false, .lo, [⟨0, 32, .rc, 0, 0, 0⟩]⟩
  , ⟨0x89, 1, 0x4C, 1, 0, false, false, .hi, [⟨0, 32, .rc, 0, 0, 0⟩]⟩
  , ⟨0x89, 1, 0x50, 1, 0, false, false, .plain, [⟨0, 32, .rc, 0, 0, 0⟩]⟩
  , ⟨0x89, 1, 0x54, 1, 0, false, false, .plain, [⟨0, 32, .rc, 0, 0, 0⟩]⟩
  , ⟨0x89, 1, 0x58, 1, 0, false, false, .plain, [⟨0, 32, .rc, 0, 0, 0⟩]⟩
  , ⟨0x89, 1, 0x5C, 1, 0, false, false, .plain, [⟨0, 32, .rc, 0, 0, 0⟩]⟩
  , ⟨0x89, 1, 0x60, 1, 0, false, false, .plain, [⟨0, 32, .rc, 0, 0, 0⟩]⟩
  , ⟨0x89, 1, 0x64, 1, 0, false, false, .plain, [⟨0, 32, .rc, 0, 0, 0⟩]⟩ ]

/-! ### CLK (R408) -/

abbrev CLK_STAT_LOCK : Fld := ⟨0x1080, 0, 6⟩
abbrev CLK_STAT_ON_AON : Fld := ⟨0x1080, 8, 6⟩
abbrev CLK_STAT_REF_OK : Fld := ⟨0x1080, 16, 1⟩
abbrev CLK_STAT_AON_OK : Fld := ⟨0x1080, 17, 1⟩
abbrev CLK_REF_PPM_PPM : Fld := ⟨0x1084, 0, 16⟩
abbrev CLK_REF_LOSS_COUNT : Fld := ⟨0x10a0, 0, 32⟩
abbrev CLK_UNLOCK_COUNT : Fld := ⟨0x10a4, 0, 32⟩
abbrev CLK_GATED_PAGES (n : Nat) : Fld := ⟨0x10c0 + 4 * n, 0, 32⟩

/-- The register tables of CLK (R408). -/
def rowsCLK : List Row :=
  [ ⟨0x1, 1, 0x80, 1, 0, false, false, .plain, [⟨0, 6, .ro, 0, 0, 0⟩, ⟨8, 6, .ro, 0, 0, 0⟩, ⟨16, 1, .ro, 0, 0, 0⟩, ⟨17, 1, .ro, 1, 0, 0⟩]⟩
  , ⟨0x1, 1, 0x84, 1, 0, false, false, .plain, [⟨0, 16, .ro, 0, 0, 0⟩]⟩
  , ⟨0x1, 1, 0xA0, 1, 0, false, false, .plain, [⟨0, 32, .rc, 0, 0, 0⟩]⟩
  , ⟨0x1, 1, 0xA4, 1, 0, false, false, .plain, [⟨0, 32, .rc, 0, 0, 0⟩]⟩
  , ⟨0x1, 1, 0xC0, 8, 4, false, false, .plain, [⟨0, 32, .ro, 0, 0, 0⟩]⟩ ]

/-! ### RST (R410) -/

abbrev RST_CTRL_DEV_RST : Fld := ⟨0x2040, 0, 1⟩
abbrev RST_CTRL_FORCE_COLD : Fld := ⟨0x2040, 1, 1⟩
abbrev RST_CTRL_RECOVERY : Fld := ⟨0x2040, 2, 1⟩
abbrev RST_KEY_KEY : Fld := ⟨0x2044, 0, 32⟩
abbrev RST_STAT_START : Fld := ⟨0x2080, 0, 2⟩
abbrev RST_STAT_SRC : Fld := ⟨0x2080, 4, 4⟩
abbrev RST_STAT_RETAIN : Fld := ⟨0x2080, 8, 1⟩
abbrev RST_STAT_WARM_FAIL : Fld := ⟨0x2080, 9, 1⟩
abbrev RST_STAT_UPD_PEND : Fld := ⟨0x2080, 10, 1⟩
abbrev RST_STAT_ISLE : Fld := ⟨0x2080, 11, 1⟩
abbrev RST_STAT_ISLE_FALLBACK : Fld := ⟨0x2080, 12, 1⟩
abbrev RST_STAT_RCV_CAUSE : Fld := ⟨0x2080, 13, 3⟩
abbrev RST_STAT_HELD : Fld := ⟨0x2080, 16, 1⟩
abbrev RST_T_PLL_US_US : Fld := ⟨0x2084, 0, 24⟩
abbrev RST_T_FW_US_US : Fld := ⟨0x2088, 0, 24⟩
abbrev RST_T_TRAIN_US_US : Fld := ⟨0x208c, 0, 24⟩
abbrev RST_COLD_CNT_COUNT : Fld := ⟨0x20a0, 0, 32⟩
abbrev RST_WARM_CNT_COUNT : Fld := ⟨0x20a4, 0, 32⟩
abbrev RST_RCV_CNT_COUNT : Fld := ⟨0x20a8, 0, 32⟩

/-- The register tables of RST (R410). -/
def rowsRST : List Row :=
  [ ⟨0x2, 1, 0x40, 1, 0, false, false, .plain, [⟨0, 1, .wo, 0, 0, 0⟩, ⟨1, 1, .rws, 0, 0, 0⟩, ⟨2, 1, .rws, 0, 0, 0⟩]⟩
  , ⟨0x2, 1, 0x44, 1, 0, false, false, .plain, [⟨0, 32, .wo, 0, 0, 0⟩]⟩
  , ⟨0x2, 1, 0x80, 1, 0, false, false, .plain, [⟨0, 2, .ro, 0, 0, 0⟩, ⟨4, 4, .ro, 0, 0, 0⟩, ⟨8, 1, .ro, 0, 0, 0⟩, ⟨9, 1, .ro, 0, 0, 0⟩, ⟨10, 1, .ro, 0, 0, 0⟩, ⟨11, 1, .ro, 0, 0, 0⟩, ⟨12, 1, .ro, 0, 0, 0⟩, ⟨13, 3, .ro, 0, 0, 0⟩, ⟨16, 1, .ro, 0, 0, 0⟩]⟩
  , ⟨0x2, 1, 0x84, 1, 0, false, false, .plain, [⟨0, 24, .ro, 0, 0, 0⟩]⟩
  , ⟨0x2, 1, 0x88, 1, 0, false, false, .plain, [⟨0, 24, .ro, 0, 0, 0⟩]⟩
  , ⟨0x2, 1, 0x8C, 1, 0, false, false, .plain, [⟨0, 24, .ro, 0, 0, 0⟩]⟩
  , ⟨0x2, 1, 0xA0, 1, 0, false, false, .plain, [⟨0, 32, .rc, 0, 0, 0⟩]⟩
  , ⟨0x2, 1, 0xA4, 1, 0, false, false, .plain, [⟨0, 32, .rc, 0, 0, 0⟩]⟩
  , ⟨0x2, 1, 0xA8, 1, 0, false, false, .plain, [⟨0, 32, .rc, 0, 0, 0⟩]⟩ ]

/-! ### FLT (R436) -/

abbrev FLT_STATUS_LO_STATUS : Fld := ⟨0x90040, 0, 32⟩
abbrev FLT_STATUS_HI_STATUS : Fld := ⟨0x90044, 0, 32⟩
abbrev FLT_CTRL_INJ_DRY : Fld := ⟨0x90048, 0, 1⟩
abbrev FLT_CTRL_CORR_TO_REC : Fld := ⟨0x90048, 1, 1⟩
abbrev FLT_CTRL_ADV_TO_REC : Fld := ⟨0x90048, 2, 1⟩
abbrev FLT_LINE_LINES : Fld := ⟨0x9004c, 0, 16⟩
abbrev FLT_SEQ_NEXT : Fld := ⟨0x90050, 0, 16⟩
abbrev FLT_ESC_ESC_MS : Fld := ⟨0x90054, 0, 16⟩
abbrev FLT_ESC_ESC_N : Fld := ⟨0x90054, 16, 4⟩
abbrev FLT_SAFE_SAFE : Fld := ⟨0x90058, 0, 1⟩
abbrev FLT_SAFE_SAVED : Fld := ⟨0x90058, 1, 1⟩
abbrev FLT_SAFE_CAUSE_SEQ : Fld := ⟨0x90058, 16, 16⟩
abbrev FLT_CNT_ADV_COUNT : Fld := ⟨0x91040, 0, 32⟩
abbrev FLT_CNT_CORR_COUNT : Fld := ⟨0x91044, 0, 32⟩
abbrev FLT_CNT_CONT_COUNT : Fld := ⟨0x91048, 0, 32⟩
abbrev FLT_CNT_FATAL_COUNT : Fld := ⟨0x9104c, 0, 32⟩
abbrev FLT_CNT_CONSEQ_COUNT : Fld := ⟨0x91050, 0, 32⟩
abbrev FLT_CNT_ESC_COUNT : Fld := ⟨0x91054, 0, 32⟩
abbrev FLT_STALL_MAX_US : Fld := ⟨0x91058, 0, 16⟩
abbrev FLT_REC_W (n : Nat) : Fld := ⟨0x92040 + 4 * n, 0, 32⟩
abbrev FLT_POP_ANY : Fld := ⟨0x92060, 0, 32⟩
abbrev FLT_COUNT_RECORDS : Fld := ⟨0x92064, 0, 7⟩
abbrev FLT_FIRST_W (n : Nat) : Fld := ⟨0x93040 + 4 * n, 0, 32⟩
abbrev FLT_FIRST_CLR_ANY : Fld := ⟨0x93060, 0, 32⟩
abbrev FLT_FATAL_W (n : Nat) : Fld := ⟨0x93080 + 4 * n, 0, 32⟩

/-- The register tables of FLT (R436). -/
def rowsFLT : List Row :=
  [ ⟨0x90, 1, 0x40, 1, 0, false, false, .plain, [⟨0, 21, .w1c, 0, 0, 0⟩, ⟨21, 1, .ro, 0, 0, 0⟩, ⟨22, 6, .w1c, 0, 0, 0⟩]⟩
  , ⟨0x90, 1, 0x44, 1, 0, false, false, .plain, [⟨0, 32, .ro, 0, 0, 0⟩]⟩
  , ⟨0x90, 1, 0x48, 1, 0, false, false, .plain, [⟨0, 1, .rws, 0, 0, 0⟩, ⟨1, 1, .rws, 1, 0, 0⟩, ⟨2, 1, .rws, 1, 0, 0⟩]⟩
  , ⟨0x90, 1, 0x4C, 1, 0, false, false, .plain, [⟨0, 16, .ro, 0, 0, 0⟩]⟩
  , ⟨0x90, 1, 0x50, 1, 0, false, false, .plain, [⟨0, 16, .ro, 1, 0, 0⟩]⟩
  , ⟨0x90, 1, 0x54, 1, 0, false, false, .plain, [⟨0, 16, .rws, 1000, 10, 60000⟩, ⟨16, 4, .rws, 3, 2, 15⟩]⟩
  , ⟨0x90, 1, 0x58, 1, 0, false, false, .plain, [⟨0, 1, .ro, 0, 0, 0⟩, ⟨1, 1, .ro, 0, 0, 0⟩, ⟨16, 16, .ro, 0, 0, 0⟩]⟩
  , ⟨0x91, 1, 0x40, 1, 0, false, false, .plain, [⟨0, 32, .rc, 0, 0, 0⟩]⟩
  , ⟨0x91, 1, 0x44, 1, 0, false, false, .plain, [⟨0, 32, .rc, 0, 0, 0⟩]⟩
  , ⟨0x91, 1, 0x48, 1, 0, false, false, .plain, [⟨0, 32, .rc, 0, 0, 0⟩]⟩
  , ⟨0x91, 1, 0x4C, 1, 0, false, false, .plain, [⟨0, 32, .rc, 0, 0, 0⟩]⟩
  , ⟨0x91, 1, 0x50, 1, 0, false, false, .plain, [⟨0, 32, .rc, 0, 0, 0⟩]⟩
  , ⟨0x91, 1, 0x54, 1, 0, false, false, .plain, [⟨0, 32, .rc, 0, 0, 0⟩]⟩
  , ⟨0x91, 1, 0x58, 1, 0, false, false, .plain, [⟨0, 16, .rc, 0, 0, 0⟩]⟩
  , ⟨0x92, 1, 0x40, 8, 4, false, false, .plain, [⟨0, 32, .ro, 0, 0, 0⟩]⟩
  , ⟨0x92, 1, 0x60, 1, 0, false, false, .plain, [⟨0, 32, .wo, 0, 0, 0⟩]⟩
  , ⟨0x92, 1, 0x64, 1, 0, false, false, .plain, [⟨0, 7, .ro, 0, 0, 0⟩]⟩
  , ⟨0x93, 1, 0x40, 8, 4, false, false, .plain, [⟨0, 32, .ro, 0, 0, 0⟩]⟩
  , ⟨0x93, 1, 0x60, 1, 0, false, false, .plain, [⟨0, 32, .wo, 0, 0, 0⟩]⟩
  , ⟨0x93, 1, 0x80, 8, 4, false, false, .plain, [⟨0, 32, .ro, 0, 0, 0⟩]⟩ ]

/-! ### GLC (R437) -/

abbrev GLC_STAT_STATE (c : Nat) : Fld := ⟨0xd0040 + 0x1000 * c, 0, 2⟩
abbrev GLC_STAT_LAST_CAUSE (c : Nat) : Fld := ⟨0xd0040 + 0x1000 * c, 8, 8⟩
abbrev GLC_WDOG_WDOG_MS (c : Nat) : Fld := ⟨0xd0044 + 0x1000 * c, 0, 16⟩
abbrev GLC_CRASH_COUNT (c : Nat) : Fld := ⟨0xd0048 + 0x1000 * c, 0, 32⟩
abbrev GLC_RESTART_US_US (c : Nat) : Fld := ⟨0xd004c + 0x1000 * c, 0, 24⟩

/-- The register tables of GLC (R437). -/
def rowsGLC : List Row :=
  [ ⟨0xD0, 4, 0x40, 1, 0, false, false, .plain, [⟨0, 2, .ro, 0, 0, 0⟩, ⟨8, 8, .ro, 0, 0, 0⟩]⟩
  , ⟨0xD0, 4, 0x44, 1, 0, false, false, .plain, [⟨0, 16, .rws, 100, 10, 10000⟩]⟩
  , ⟨0xD0, 4, 0x48, 1, 0, false, false, .plain, [⟨0, 32, .rc, 0, 0, 0⟩]⟩
  , ⟨0xD0, 4, 0x4C, 1, 0, false, false, .plain, [⟨0, 24, .ro, 0, 0, 0⟩]⟩ ]

/-! ### REC (R454) -/

abbrev REC_CTRL_EN : Fld := ⟨0x94040, 0, 1⟩
abbrev REC_CTRL_FREEZE : Fld := ⟨0x94040, 1, 1⟩
abbrev REC_CTRL_SNAP_EN : Fld := ⟨0x94040, 2, 1⟩
abbrev REC_CTRL_BURST_EN : Fld := ⟨0x94040, 3, 1⟩
abbrev REC_CTRL_FLUSH : Fld := ⟨0x94040, 8, 1⟩
abbrev REC_CFG_REPEAT_MS : Fld := ⟨0x94044, 0, 16⟩
abbrev REC_CFG_FREEZE_S : Fld := ⟨0x94044, 16, 10⟩
abbrev REC_STAT_UNFLUSHED : Fld := ⟨0x94048, 0, 9⟩
abbrev REC_STAT_FROZEN : Fld := ⟨0x94048, 16, 1⟩
abbrev REC_STAT_FLUSHING : Fld := ⟨0x94048, 17, 1⟩
abbrev REC_STAT_DIRECT : Fld := ⟨0x94048, 18, 1⟩
abbrev REC_STAT_STALLED : Fld := ⟨0x94048, 19, 1⟩
abbrev REC_OLDEST_RSEQ : Fld := ⟨0x9404c, 0, 32⟩
abbrev REC_NEWEST_RSEQ : Fld := ⟨0x94050, 0, 32⟩
abbrev REC_FLUSHED_RSEQ : Fld := ⟨0x94054, 0, 32⟩
abbrev REC_HOURS_LO_HOURS : Fld := ⟨0x94058, 0, 32⟩
abbrev REC_HOURS_HI_HOURS : Fld := ⟨0x9405c, 0, 16⟩
abbrev REC_CYCLES_COUNT : Fld := ⟨0x94060, 0, 32⟩
abbrev REC_FROZEN_CNT_COUNT : Fld := ⟨0x94064, 0, 32⟩
abbrev REC_LOST_COUNT : Fld := ⟨0x94068, 0, 32⟩
abbrev REC_REPEAT_COUNT : Fld := ⟨0x9406c, 0, 32⟩
abbrev REC_FLUSH_CNT_COUNT : Fld := ⟨0x94070, 0, 32⟩
abbrev REC_TRIG_CODE (n : Nat) : Fld := ⟨0x94080 + 4 * n, 0, 16⟩
abbrev REC_TRIG_BLOCK (n : Nat) : Fld := ⟨0x94080 + 4 * n, 16, 8⟩
abbrev REC_TRIG_TYPE (n : Nat) : Fld := ⟨0x94080 + 4 * n, 24, 3⟩
abbrev REC_TRIG_ANY_CODE (n : Nat) : Fld := ⟨0x94080 + 4 * n, 28, 1⟩
abbrev REC_TRIG_ANY_BLOCK (n : Nat) : Fld := ⟨0x94080 + 4 * n, 29, 1⟩
abbrev REC_TRIG_EN (n : Nat) : Fld := ⟨0x94080 + 4 * n, 31, 1⟩
abbrev REC_SNAP_ADDR (n : Nat) : Fld := ⟨0x940c0 + 4 * n, 0, 20⟩
abbrev REC_SNAP_EN (n : Nat) : Fld := ⟨0x940c0 + 4 * n, 31, 1⟩
abbrev REC_RD_SEQ_RSEQ : Fld := ⟨0x94200, 0, 32⟩
abbrev REC_RD_STAT_DONE : Fld := ⟨0x94204, 0, 1⟩
abbrev REC_RD_STAT_OUTCOME : Fld := ⟨0x94204, 1, 2⟩
abbrev REC_RD_STAT_EARLY : Fld := ⟨0x94204, 3, 1⟩
abbrev REC_RD_W_W (n : Nat) : Fld := ⟨0x94280 + 4 * n, 0, 32⟩

/-- The register tables of REC (R454). -/
def rowsREC : List Row :=
  [ ⟨0x94, 1, 0x40, 1, 0, false, false, .plain, [⟨0, 1, .rws, 1, 0, 0⟩, ⟨1, 1, .rws, 0, 0, 0⟩, ⟨2, 1, .rws, 1, 0, 0⟩, ⟨3, 1, .rws, 1, 0, 0⟩, ⟨8, 1, .wo, 0, 0, 0⟩]⟩
  , ⟨0x94, 1, 0x44, 1, 0, false, false, .plain, [⟨0, 16, .rws, 1000, 1, 60000⟩, ⟨16, 10, .rws, 10, 1, 600⟩]⟩
  , ⟨0x94, 1, 0x48, 1, 0, false, false, .plain, [⟨0, 9, .ro, 0, 0, 0⟩, ⟨16, 1, .ro, 0, 0, 0⟩, ⟨17, 1, .ro, 0, 0, 0⟩, ⟨18, 1, .ro, 0, 0, 0⟩, ⟨19, 1, .ro, 0, 0, 0⟩]⟩
  , ⟨0x94, 1, 0x4C, 1, 0, false, false, .plain, [⟨0, 32, .ro, 0, 0, 0⟩]⟩
  , ⟨0x94, 1, 0x50, 1, 0, false, false, .plain, [⟨0, 32, .ro, 0, 0, 0⟩]⟩
  , ⟨0x94, 1, 0x54, 1, 0, false, false, .plain, [⟨0, 32, .ro, 0, 0, 0⟩]⟩
  , ⟨0x94, 1, 0x58, 1, 0, false, false, .lo, [⟨0, 32, .ro, 0, 0, 0⟩]⟩
  , ⟨0x94, 1, 0x5C, 1, 0, false, false, .hi, [⟨0, 16, .ro, 0, 0, 0⟩]⟩
  , ⟨0x94, 1, 0x60, 1, 0, false, false, .plain, [⟨0, 32, .ro, 0, 0, 0⟩]⟩
  , ⟨0x94, 1, 0x64, 1, 0, false, false, .plain, [⟨0, 32, .rc, 0, 0, 0⟩]⟩
  , ⟨0x94, 1, 0x68, 1, 0, false, false, .plain, [⟨0, 32, .rc, 0, 0, 0⟩]⟩
  , ⟨0x94, 1, 0x6C, 1, 0, false, false, .plain, [⟨0, 32, .rc, 0, 0, 0⟩]⟩
  , ⟨0x94, 1, 0x70, 1, 0, false, false, .plain, [⟨0, 32, .rc, 0, 0, 0⟩]⟩
  , ⟨0x94, 1, 0x80, 4, 4, false, false, .plain, [⟨0, 16, .rws, 0, 0, 0⟩, ⟨16, 8, .rws, 0, 0, 0⟩, ⟨24, 3, .rws, 0, 0, 0⟩, ⟨28, 1, .rws, 0, 0, 0⟩, ⟨29, 1, .rws, 0, 0, 0⟩, ⟨31, 1, .rws, 0, 0, 0⟩]⟩
  , ⟨0x94, 1, 0xC0, 64, 4, false, false, .plain, [⟨0, 20, .rws, 0, 0, 0⟩, ⟨31, 1, .rws, 0, 0, 0⟩]⟩
  , ⟨0x94, 1, 0x200, 1, 0, false, true, .plain, [⟨0, 32, .rw, 0, 0, 0⟩]⟩
  , ⟨0x94, 1, 0x204, 1, 0, false, true, .plain, [⟨0, 1, .ro, 0, 0, 0⟩, ⟨1, 2, .ro, 0, 0, 0⟩, ⟨3, 1, .ro, 0, 0, 0⟩]⟩
  , ⟨0x94, 1, 0x280, 32, 4, false, true, .plain, [⟨0, 32, .ro, 0, 0, 0⟩]⟩ ]

/-! ### ATOL (R480) -/

abbrev ATOL_WIN_BASE : Fld := ⟨0x81040, 0, 14⟩
abbrev ATOL_PSTAT_BUSY : Fld := ⟨0x81044, 0, 1⟩
abbrev ATOL_PSTAT_MODE : Fld := ⟨0x81044, 1, 2⟩
abbrev ATOL_PSTAT_ERR_NOTERASED : Fld := ⟨0x81044, 8, 1⟩
abbrev ATOL_PSTAT_ERR_SEQ : Fld := ⟨0x81044, 9, 1⟩
abbrev ATOL_PSTAT_ERR_PROTECT : Fld := ⟨0x81044, 10, 1⟩
abbrev ATOL_PSTAT_ERR_BUSY : Fld := ⟨0x81044, 11, 1⟩
abbrev ATOL_PSTAT_ERR_NOSUSP : Fld := ⟨0x81044, 12, 1⟩
abbrev ATOL_PSTAT_ERR_ERASING : Fld := ⟨0x81044, 13, 1⟩
abbrev ATOL_PSTAT_ERR_MODE : Fld := ⟨0x81044, 14, 1⟩
abbrev ATOL_PSTAT_ERR_RANGE : Fld := ⟨0x81044, 15, 1⟩
abbrev ATOL_PSTAT_ERR_PROG_FAIL : Fld := ⟨0x81044, 16, 1⟩
abbrev ATOL_PSTAT_ERR_BAD : Fld := ⟨0x81044, 17, 1⟩
abbrev ATOL_PSTAT_ERR_ABORT : Fld := ⟨0x81044, 18, 1⟩
abbrev ATOL_RD_STAT_CBITS : Fld := ⟨0x81048, 0, 4⟩
abbrev ATOL_RD_STAT_EARLY : Fld := ⟨0x81048, 4, 1⟩
abbrev ATOL_RD_STAT_UE : Fld := ⟨0x81048, 5, 1⟩
abbrev ATOL_CFG_EARLY_TH : Fld := ⟨0x8104c, 0, 4⟩
abbrev ATOL_CFG_PULSE_WARN : Fld := ⟨0x8104c, 8, 4⟩
abbrev ATOL_CFG_SEQ_TMO_US : Fld := ⟨0x8104c, 16, 16⟩
abbrev ATOL_PROT_LEVEL : Fld := ⟨0x81050, 0, 2⟩
abbrev ATOL_PROT_WIPING : Fld := ⟨0x81050, 8, 1⟩
abbrev ATOL_ARRAY_ERASING : Fld := ⟨0x81054, 0, 1⟩
abbrev ATOL_ARRAY_SUSPENDED : Fld := ⟨0x81054, 1, 1⟩
abbrev ATOL_ARRAY_PROGRAMMING : Fld := ⟨0x81054, 2, 1⟩
abbrev ATOL_ARRAY_SOURCE : Fld := ⟨0x81054, 4, 3⟩
abbrev ATOL_ARRAY_ERASE_BLOCK : Fld := ⟨0x81054, 16, 9⟩
abbrev ATOL_SPARE_FREE : Fld := ⟨0x82040, 0, 6⟩
abbrev ATOL_FACTORY_BLOCKS : Fld := ⟨0x82044, 0, 10⟩
abbrev ATOL_GROWN_BLOCKS : Fld := ⟨0x82048, 0, 10⟩
abbrev ATOL_WORN_BLOCKS : Fld := ⟨0x8204c, 0, 10⟩
abbrev ATOL_EARLY_CNT_COUNT : Fld := ⟨0x82050, 0, 32⟩
abbrev ATOL_PROGS_LO_COUNT : Fld := ⟨0x82054, 0, 32⟩
abbrev ATOL_PROGS_HI_COUNT : Fld := ⟨0x82058, 0, 32⟩
abbrev ATOL_ERASES_COUNT : Fld := ⟨0x8205c, 0, 32⟩
abbrev ATOL_SUSP_COUNT : Fld := ⟨0x82060, 0, 32⟩
abbrev ATOL_NOTERASED_COUNT : Fld := ⟨0x82064, 0, 32⟩
abbrev ATOL_SEQERR_COUNT : Fld := ⟨0x82068, 0, 32⟩

/-- The register tables of ATOL (R480). -/
def rowsATOL : List Row :=
  [ ⟨0x81, 1, 0x40, 1, 0, false, true, .plain, [⟨0, 14, .rws, 0, 0, 0⟩]⟩
  , ⟨0x81, 1, 0x44, 1, 0, false, true, .plain, [⟨0, 1, .ro, 0, 0, 0⟩, ⟨1, 2, .ro, 0, 0, 0⟩, ⟨8, 1, .w1c, 0, 0, 0⟩, ⟨9, 1, .w1c, 0, 0, 0⟩, ⟨10, 1, .w1c, 0, 0, 0⟩, ⟨11, 1, .w1c, 0, 0, 0⟩, ⟨12, 1, .w1c, 0, 0, 0⟩, ⟨13, 1, .w1c, 0, 0, 0⟩, ⟨14, 1, .w1c, 0, 0, 0⟩, ⟨15, 1, .w1c, 0, 0, 0⟩, ⟨16, 1, .w1c, 0, 0, 0⟩, ⟨17, 1, .w1c, 0, 0, 0⟩, ⟨18, 1, .w1c, 0, 0, 0⟩]⟩
  , ⟨0x81, 1, 0x48, 1, 0, false, true, .plain, [⟨0, 4, .ro, 0, 0, 0⟩, ⟨4, 1, .ro, 0, 0, 0⟩, ⟨5, 1, .ro, 0, 0, 0⟩]⟩
  , ⟨0x81, 1, 0x4C, 1, 0, false, false, .plain, [⟨0, 4, .rws, 3, 1, 12⟩, ⟨8, 4, .rws, 8, 4, 12⟩, ⟨16, 16, .rws, 1000, 10, 65535⟩]⟩
  , ⟨0x81, 1, 0x50, 1, 0, false, false, .plain, [⟨0, 2, .ro, 0, 0, 0⟩, ⟨8, 1, .ro, 0, 0, 0⟩]⟩
  , ⟨0x81, 1, 0x54, 1, 0, false, false, .plain, [⟨0, 1, .ro, 0, 0, 0⟩, ⟨1, 1, .ro, 0, 0, 0⟩, ⟨2, 1, .ro, 0, 0, 0⟩, ⟨4, 3, .ro, 0, 0, 0⟩, ⟨16, 9, .ro, 0, 0, 0⟩]⟩
  , ⟨0x82, 1, 0x40, 1, 0, false, false, .plain, [⟨0, 6, .ro, 0, 0, 0⟩]⟩
  , ⟨0x82, 1, 0x44, 1, 0, false, false, .plain, [⟨0, 10, .ro, 0, 0, 0⟩]⟩
  , ⟨0x82, 1, 0x48, 1, 0, false, false, .plain, [⟨0, 10, .ro, 0, 0, 0⟩]⟩
  , ⟨0x82, 1, 0x4C, 1, 0, false, false, .plain, [⟨0, 10, .ro, 0, 0, 0⟩]⟩
  , ⟨0x82, 1, 0x50, 1, 0, false, false, .plain, [⟨0, 32, .rc, 0, 0, 0⟩]⟩
  , ⟨0x82, 1, 0x54, 1, 0, false, false, .lo, [⟨0, 32, .rc, 0, 0, 0⟩]⟩
  , ⟨0x82, 1, 0x58, 1, 0, false, false, .hi, [⟨0, 32, .rc, 0, 0, 0⟩]⟩
  , ⟨0x82, 1, 0x5C, 1, 0, false, false, .plain, [⟨0, 32, .rc, 0, 0, 0⟩]⟩
  , ⟨0x82, 1, 0x60, 1, 0, false, false, .plain, [⟨0, 32, .rc, 0, 0, 0⟩]⟩
  , ⟨0x82, 1, 0x64, 1, 0, false, false, .plain, [⟨0, 32, .rc, 0, 0, 0⟩]⟩
  , ⟨0x82, 1, 0x68, 1, 0, false, false, .plain, [⟨0, 32, .rc, 0, 0, 0⟩]⟩ ]

/-! ### TWL (R497) -/

abbrev TWL_CTRL_EN : Fld := ⟨0x98040, 0, 1⟩
abbrev TWL_CTRL_ALERT_EN : Fld := ⟨0x98040, 1, 1⟩
abbrev TWL_CTRL_POLL_EN : Fld := ⟨0x98040, 2, 1⟩
abbrev TWL_CTRL_TARGET_EN : Fld := ⟨0x98040, 3, 1⟩
abbrev TWL_CFG_SPEED : Fld := ⟨0x98044, 0, 2⟩
abbrev TWL_CFG_RETRY_MAX : Fld := ⟨0x98044, 4, 3⟩
abbrev TWL_XCMD_ADDR : Fld := ⟨0x98060, 0, 7⟩
abbrev TWL_XCMD_CMD : Fld := ⟨0x98060, 8, 8⟩
abbrev TWL_XCMD_PROTO : Fld := ⟨0x98060, 16, 4⟩
abbrev TWL_XCMD_PEC : Fld := ⟨0x98060, 20, 1⟩
abbrev TWL_XCMD_COUNT : Fld := ⟨0x98060, 24, 6⟩
abbrev TWL_XCMD_GO : Fld := ⟨0x98060, 31, 1⟩
abbrev TWL_XSTAT_BUSY : Fld := ⟨0x98064, 0, 1⟩
abbrev TWL_XSTAT_OUTCOME : Fld := ⟨0x98064, 1, 3⟩
abbrev TWL_XSTAT_RCOUNT : Fld := ⟨0x98064, 8, 6⟩
abbrev TWL_STAT_BUSY : Fld := ⟨0x98080, 0, 1⟩
abbrev TWL_STAT_TARGET : Fld := ⟨0x98080, 1, 1⟩
abbrev TWL_STAT_STUCK : Fld := ⟨0x98080, 2, 1⟩
abbrev TWL_ARB_BIT : Fld := ⟨0x98084, 0, 9⟩
abbrev TWL_ARB_IN_ADDR : Fld := ⟨0x98084, 16, 1⟩
abbrev TWL_ARB_TO_TARGET : Fld := ⟨0x98084, 17, 1⟩
abbrev TWL_ARB_VALID : Fld := ⟨0x98084, 31, 1⟩
abbrev TWL_ALERT_ADDR : Fld := ⟨0x98088, 0, 7⟩
abbrev TWL_NOTIFY_ADDR : Fld := ⟨0x98090, 0, 7⟩
abbrev TWL_NOTIFY_STATUS : Fld := ⟨0x98090, 16, 16⟩
abbrev TWL_NPOP_ANY : Fld := ⟨0x98094, 0, 32⟩
abbrev TWL_ARBCNT_COUNT : Fld := ⟨0x980c0, 0, 32⟩
abbrev TWL_SPURIOUS_COUNT : Fld := ⟨0x980c4, 0, 32⟩
abbrev TWL_NDROP_COUNT : Fld := ⟨0x980c8, 0, 32⟩
abbrev TWL_XDATA_DATA (n : Nat) : Fld := ⟨0x98100 + 4 * n, 0, 32⟩
abbrev TWL_POLL_A_ADDR (n : Nat) : Fld := ⟨0x98200 + 16 * n, 0, 7⟩
abbrev TWL_POLL_A_CMD (n : Nat) : Fld := ⟨0x98200 + 16 * n, 8, 8⟩
abbrev TWL_POLL_A_PROTO (n : Nat) : Fld := ⟨0x98200 + 16 * n, 16, 2⟩
abbrev TWL_POLL_A_PEC (n : Nat) : Fld := ⟨0x98200 + 16 * n, 18, 1⟩
abbrev TWL_POLL_A_DEST (n : Nat) : Fld := ⟨0x98200 + 16 * n, 20, 4⟩
abbrev TWL_POLL_B_INTERVAL_MS (n : Nat) : Fld := ⟨0x98204 + 16 * n, 0, 16⟩
abbrev TWL_POLL_C_MULT (n : Nat) : Fld := ⟨0x98208 + 16 * n, 0, 16⟩
abbrev TWL_POLL_C_SHIFT (n : Nat) : Fld := ⟨0x98208 + 16 * n, 16, 5⟩
abbrev TWL_POLL_C_SIGNED (n : Nat) : Fld := ⟨0x98208 + 16 * n, 24, 1⟩
abbrev TWL_RES_VALUE (n : Nat) : Fld := ⟨0x98300 + 4 * n, 0, 20⟩
abbrev TWL_RES_AGE (n : Nat) : Fld := ⟨0x98300 + 4 * n, 20, 12⟩
abbrev TWL_RSTAT_OUTCOME (n : Nat) : Fld := ⟨0x98340 + 4 * n, 0, 3⟩
abbrev TWL_RSTAT_FAILS (n : Nat) : Fld := ⟨0x98340 + 4 * n, 8, 8⟩

/-- The register tables of TWL (R497). -/
def rowsTWL : List Row :=
  [ ⟨0x98, 1, 0x40, 1, 0, false, false, .plain, [⟨0, 1, .rws, 1, 0, 0⟩, ⟨1, 1, .rws, 1, 0, 0⟩, ⟨2, 1, .rws, 1, 0, 0⟩, ⟨3, 1, .rws, 1, 0, 0⟩]⟩
  , ⟨0x98, 1, 0x44, 1, 0, false, false, .plain, [⟨0, 2, .rws, 1, 0, 2⟩, ⟨4, 3, .rws, 3, 0, 0⟩]⟩
  , ⟨0x98, 1, 0x60, 1, 0, false, false, .plain, [⟨0, 7, .rws, 0, 0, 0⟩, ⟨8, 8, .rws, 0, 0, 0⟩, ⟨16, 4, .rws, 0, 0, 0⟩, ⟨20, 1, .rws, 0, 0, 0⟩, ⟨24, 6, .rws, 0, 0, 32⟩, ⟨31, 1, .wo, 0, 0, 0⟩]⟩
  , ⟨0x98, 1, 0x64, 1, 0, false, false, .plain, [⟨0, 1, .ro, 0, 0, 0⟩, ⟨1, 3, .ro, 0, 0, 0⟩, ⟨8, 6, .ro, 0, 0, 0⟩]⟩
  , ⟨0x98, 1, 0x80, 1, 0, false, false, .plain, [⟨0, 1, .ro, 0, 0, 0⟩, ⟨1, 1, .ro, 0, 0, 0⟩, ⟨2, 1, .ro, 0, 0, 0⟩]⟩
  , ⟨0x98, 1, 0x84, 1, 0, false, false, .plain, [⟨0, 9, .ro, 0, 0, 0⟩, ⟨16, 1, .ro, 0, 0, 0⟩, ⟨17, 1, .ro, 0, 0, 0⟩, ⟨31, 1, .w1c, 0, 0, 0⟩]⟩
  , ⟨0x98, 1, 0x88, 1, 0, false, false, .plain, [⟨0, 7, .ro, 0, 0, 0⟩]⟩
  , ⟨0x98, 1, 0x90, 1, 0, false, false, .plain, [⟨0, 7, .ro, 0, 0, 0⟩, ⟨16, 16, .ro, 0, 0, 0⟩]⟩
  , ⟨0x98, 1, 0x94, 1, 0, false, false, .plain, [⟨0, 32, .wo, 0, 0, 0⟩]⟩
  , ⟨0x98, 1, 0xC0, 1, 0, false, false, .plain, [⟨0, 32, .rc, 0, 0, 0⟩]⟩
  , ⟨0x98, 1, 0xC4, 1, 0, false, false, .plain, [⟨0, 32, .rc, 0, 0, 0⟩]⟩
  , ⟨0x98, 1, 0xC8, 1, 0, false, false, .plain, [⟨0, 32, .rc, 0, 0, 0⟩]⟩
  , ⟨0x98, 1, 0x100, 8, 4, false, false, .plain, [⟨0, 32, .rws, 0, 0, 0⟩]⟩
  , ⟨0x98, 1, 0x200, 16, 16, false, false, .plain, [⟨0, 7, .rws, 0, 0, 0⟩, ⟨8, 8, .rws, 0, 0, 0⟩, ⟨16, 2, .rws, 0, 0, 0⟩, ⟨18, 1, .rws, 0, 0, 0⟩, ⟨20, 4, .rws, 0, 0, 0⟩]⟩
  , ⟨0x98, 1, 0x204, 16, 16, false, false, .plain, [⟨0, 16, .rws, 100, 2, 60000⟩]⟩
  , ⟨0x98, 1, 0x208, 16, 16, false, false, .plain, [⟨0, 16, .rws, 1, 0, 0⟩, ⟨16, 5, .rws, 0, 0, 0⟩, ⟨24, 1, .rws, 0, 0, 0⟩]⟩
  , ⟨0x98, 1, 0x300, 16, 4, false, false, .plain, [⟨0, 20, .ro, 0, 0, 0⟩, ⟨20, 12, .ro, 4095, 0, 0⟩]⟩
  , ⟨0x98, 1, 0x340, 16, 4, false, false, .plain, [⟨0, 3, .ro, 0, 0, 0⟩, ⟨8, 8, .ro, 0, 0, 0⟩]⟩ ]

/-! ### TWS (R498) -/

abbrev TWS_CFG_PEC_REQ : Fld := ⟨0x99040, 0, 1⟩
abbrev TWS_CFG_ARA_EN : Fld := ⟨0x99040, 1, 1⟩
abbrev TWS_STAT_ADDR : Fld := ⟨0x99080, 0, 7⟩
abbrev TWS_STAT_ALERT : Fld := ⟨0x99080, 8, 1⟩
abbrev TWS_LAST_CAUSE : Fld := ⟨0x99084, 0, 4⟩
abbrev TWS_LAST_ADDR : Fld := ⟨0x99084, 8, 20⟩
abbrev TWS_LAST_VALID : Fld := ⟨0x99084, 31, 1⟩
abbrev TWS_XACT_COUNT : Fld := ⟨0x990c0, 0, 32⟩
abbrev TWS_NACK_COUNT : Fld := ⟨0x990c4, 0, 32⟩
abbrev TWS_PEC_ERR_COUNT : Fld := ⟨0x990c8, 0, 32⟩
abbrev TWS_PROTO_COUNT : Fld := ⟨0x990cc, 0, 32⟩
abbrev TWS_TMO_COUNT : Fld := ⟨0x990d0, 0, 32⟩

/-- The register tables of TWS (R498). -/
def rowsTWS : List Row :=
  [ ⟨0x99, 1, 0x40, 1, 0, false, false, .plain, [⟨0, 1, .rws, 1, 0, 0⟩, ⟨1, 1, .rws, 1, 0, 0⟩]⟩
  , ⟨0x99, 1, 0x80, 1, 0, false, false, .plain, [⟨0, 7, .ro, 0, 0, 0⟩, ⟨8, 1, .ro, 0, 0, 0⟩]⟩
  , ⟨0x99, 1, 0x84, 1, 0, false, false, .plain, [⟨0, 4, .ro, 0, 0, 0⟩, ⟨8, 20, .ro, 0, 0, 0⟩, ⟨31, 1, .w1c, 0, 0, 0⟩]⟩
  , ⟨0x99, 1, 0xC0, 1, 0, false, false, .plain, [⟨0, 32, .rc, 0, 0, 0⟩]⟩
  , ⟨0x99, 1, 0xC4, 1, 0, false, false, .plain, [⟨0, 32, .rc, 0, 0, 0⟩]⟩
  , ⟨0x99, 1, 0xC8, 1, 0, false, false, .plain, [⟨0, 32, .rc, 0, 0, 0⟩]⟩
  , ⟨0x99, 1, 0xCC, 1, 0, false, false, .plain, [⟨0, 32, .rc, 0, 0, 0⟩]⟩
  , ⟨0x99, 1, 0xD0, 1, 0, false, false, .plain, [⟨0, 32, .rc, 0, 0, 0⟩]⟩ ]

/-! ### SVC (R519) -/

abbrev SVC_CTRL_EN : Fld := ⟨0x9c040, 0, 1⟩
abbrev SVC_CTRL_UPD_EN : Fld := ⟨0x9c040, 1, 1⟩
abbrev SVC_CTRL_PROT_EN : Fld := ⟨0x9c040, 2, 1⟩
abbrev SVC_STAT_STATE : Fld := ⟨0x9c080, 0, 3⟩
abbrev SVC_STAT_MODE : Fld := ⟨0x9c080, 4, 3⟩
abbrev SVC_STAT_SELECTED : Fld := ⟨0x9c080, 8, 1⟩
abbrev SVC_STAT_LAST_STATUS : Fld := ⟨0x9c080, 16, 8⟩
abbrev SVC_DONE_BYTES : Fld := ⟨0x9c084, 0, 22⟩
abbrev SVC_TOTAL_BYTES : Fld := ⟨0x9c088, 0, 22⟩
abbrev SVC_TARGET_VER_VER : Fld := ⟨0x9c08c, 0, 32⟩
abbrev SVC_FRAMES_COUNT : Fld := ⟨0x9c0c0, 0, 32⟩
abbrev SVC_CRC_ERR_COUNT : Fld := ⟨0x9c0c4, 0, 32⟩
abbrev SVC_SHORT_COUNT : Fld := ⟨0x9c0c8, 0, 32⟩
abbrev SVC_REFUSED_COUNT : Fld := ⟨0x9c0cc, 0, 32⟩

/-- The register tables of SVC (R519). -/
def rowsSVC : List Row :=
  [ ⟨0x9C, 1, 0x40, 1, 0, false, false, .plain, [⟨0, 1, .rws, 1, 0, 0⟩, ⟨1, 1, .rws, 1, 0, 0⟩, ⟨2, 1, .rws, 0, 0, 0⟩]⟩
  , ⟨0x9C, 1, 0x80, 1, 0, false, false, .plain, [⟨0, 3, .ro, 0, 0, 0⟩, ⟨4, 3, .ro, 0, 0, 0⟩, ⟨8, 1, .ro, 0, 0, 0⟩, ⟨16, 8, .ro, 0, 0, 0⟩]⟩
  , ⟨0x9C, 1, 0x84, 1, 0, false, false, .plain, [⟨0, 22, .ro, 0, 0, 0⟩]⟩
  , ⟨0x9C, 1, 0x88, 1, 0, false, false, .plain, [⟨0, 22, .ro, 0, 0, 0⟩]⟩
  , ⟨0x9C, 1, 0x8C, 1, 0, false, false, .plain, [⟨0, 32, .ro, 0, 0, 0⟩]⟩
  , ⟨0x9C, 1, 0xC0, 1, 0, false, false, .plain, [⟨0, 32, .rc, 0, 0, 0⟩]⟩
  , ⟨0x9C, 1, 0xC4, 1, 0, false, false, .plain, [⟨0, 32, .rc, 0, 0, 0⟩]⟩
  , ⟨0x9C, 1, 0xC8, 1, 0, false, false, .plain, [⟨0, 32, .rc, 0, 0, 0⟩]⟩
  , ⟨0x9C, 1, 0xCC, 1, 0, false, false, .plain, [⟨0, 32, .rc, 0, 0, 0⟩]⟩ ]

/-! ### PWR (R533) -/

abbrev PWR_MODE_TARGET : Fld := ⟨0x3040, 0, 2⟩
abbrev PWR_MODE_AUTO_TERRACE : Fld := ⟨0x3040, 8, 1⟩
abbrev PWR_CFG_TERRACE_IDLE_US : Fld := ⟨0x3044, 0, 16⟩
abbrev PWR_CFG_TERRACE_SHARE : Fld := ⟨0x3044, 16, 7⟩
abbrev PWR_CFG_GLEN_DIV : Fld := ⟨0x3044, 24, 2⟩
abbrev PWR_STAT_STATE : Fld := ⟨0x3080, 0, 3⟩
abbrev PWR_STAT_ENTERING : Fld := ⟨0x3080, 4, 1⟩
abbrev PWR_STAT_EXITING : Fld := ⟨0x3080, 5, 1⟩
abbrev PWR_STAT_WAKE_LATCHED : Fld := ⟨0x3080, 6, 1⟩
abbrev PWR_STAT_DOM_ON : Fld := ⟨0x3080, 8, 9⟩
abbrev PWR_REFUSE_BLOCK : Fld := ⟨0x3084, 0, 8⟩
abbrev PWR_REFUSE_TARGET : Fld := ⟨0x3084, 8, 3⟩
abbrev PWR_REFUSE_ABORTED : Fld := ⟨0x3084, 12, 1⟩
abbrev PWR_REFUSE_VALID : Fld := ⟨0x3084, 31, 1⟩
abbrev PWR_REFUSE_CNT_COUNT : Fld := ⟨0x3088, 0, 32⟩
abbrev PWR_ABORT_CNT_COUNT : Fld := ⟨0x308c, 0, 32⟩
abbrev PWR_WAKE_REPLAY_COUNT : Fld := ⟨0x3090, 0, 32⟩
abbrev PWR_WAKE_SRC_CODE : Fld := ⟨0x3094, 0, 4⟩
abbrev PWR_T_ENTRY_US_US : Fld := ⟨0x3098, 0, 24⟩
abbrev PWR_T_EXIT_US_US : Fld := ⟨0x309c, 0, 24⟩
abbrev PWR_TERRACE_MS_LO_MS : Fld := ⟨0x30a0, 0, 32⟩
abbrev PWR_TERRACE_MS_HI_MS : Fld := ⟨0x30a4, 0, 32⟩
abbrev PWR_BASIN_MS_LO_MS : Fld := ⟨0x30a8, 0, 32⟩
abbrev PWR_BASIN_MS_HI_MS : Fld := ⟨0x30ac, 0, 32⟩

/-- The register tables of PWR (R533). -/
def rowsPWR : List Row :=
  [ ⟨0x3, 1, 0x40, 1, 0, false, false, .plain, [⟨0, 2, .rws, 0, 0, 0⟩, ⟨8, 1, .rws, 0, 0, 0⟩]⟩
  , ⟨0x3, 1, 0x44, 1, 0, false, false, .plain, [⟨0, 16, .rws, 100, 10, 65535⟩, ⟨16, 7, .rws, 8, 0, 64⟩, ⟨24, 2, .rws, 1, 0, 2⟩]⟩
  , ⟨0x3, 1, 0x80, 1, 0, false, false, .plain, [⟨0, 3, .ro, 0, 0, 0⟩, ⟨4, 1, .ro, 0, 0, 0⟩, ⟨5, 1, .ro, 0, 0, 0⟩, ⟨6, 1, .ro, 0, 0, 0⟩, ⟨8, 9, .ro, 511, 0, 0⟩]⟩
  , ⟨0x3, 1, 0x84, 1, 0, false, false, .plain, [⟨0, 8, .ro, 0, 0, 0⟩, ⟨8, 3, .ro, 0, 0, 0⟩, ⟨12, 1, .ro, 0, 0, 0⟩, ⟨31, 1, .w1c, 0, 0, 0⟩]⟩
  , ⟨0x3, 1, 0x88, 1, 0, false, false, .plain, [⟨0, 32, .rc, 0, 0, 0⟩]⟩
  , ⟨0x3, 1, 0x8C, 1, 0, false, false, .plain, [⟨0, 32, .rc, 0, 0, 0⟩]⟩
  , ⟨0x3, 1, 0x90, 1, 0, false, false, .plain, [⟨0, 32, .rc, 0, 0, 0⟩]⟩
  , ⟨0x3, 1, 0x94, 1, 0, false, false, .plain, [⟨0, 4, .ro, 0, 0, 0⟩]⟩
  , ⟨0x3, 1, 0x98, 1, 0, false, false, .plain, [⟨0, 24, .ro, 0, 0, 0⟩]⟩
  , ⟨0x3, 1, 0x9C, 1, 0, false, false, .plain, [⟨0, 24, .ro, 0, 0, 0⟩]⟩
  , ⟨0x3, 1, 0xA0, 1, 0, false, false, .lo, [⟨0, 32, .rc, 0, 0, 0⟩]⟩
  , ⟨0x3, 1, 0xA4, 1, 0, false, false, .hi, [⟨0, 32, .rc, 0, 0, 0⟩]⟩
  , ⟨0x3, 1, 0xA8, 1, 0, false, false, .lo, [⟨0, 32, .rc, 0, 0, 0⟩]⟩
  , ⟨0x3, 1, 0xAC, 1, 0, false, false, .hi, [⟨0, 32, .rc, 0, 0, 0⟩]⟩ ]

/-! ### DSCR (R551) -/

abbrev DSCR_CTRL_EN : Fld := ⟨0x5c040, 0, 1⟩
abbrev DSCR_CTRL_PACE_EN : Fld := ⟨0x5c040, 1, 1⟩
abbrev DSCR_CFG_ROUND_H : Fld := ⟨0x5c044, 0, 16⟩
abbrev DSCR_POS_LO_ADDR : Fld := ⟨0x5c080, 0, 32⟩
abbrev DSCR_POS_HI_ADDR : Fld := ⟨0x5c084, 0, 32⟩
abbrev DSCR_RATE_RATE : Fld := ⟨0x5c088, 0, 24⟩
abbrev DSCR_ROUND_COUNT : Fld := ⟨0x5c08c, 0, 32⟩
abbrev DSCR_ROUND_T_MIN : Fld := ⟨0x5c090, 0, 24⟩
abbrev DSCR_SKIP_COUNT : Fld := ⟨0x5c094, 0, 32⟩
abbrev DSCR_MARK_ISLET : Fld := ⟨0x5c0c0, 0, 25⟩
abbrev DSCR_MARK_VALID : Fld := ⟨0x5c0c0, 31, 1⟩
abbrev DSCR_MPOP_ANY : Fld := ⟨0x5c0c4, 0, 32⟩
abbrev DSCR_MCOUNT_ENTRIES : Fld := ⟨0x5c0c8, 0, 9⟩
abbrev DSCR_MOVF_COUNT : Fld := ⟨0x5c0cc, 0, 32⟩

/-- The register tables of DSCR (R551). -/
def rowsDSCR : List Row :=
  [ ⟨0x5C, 1, 0x40, 1, 0, false, false, .plain, [⟨0, 1, .rws, 1, 0, 0⟩, ⟨1, 1, .rws, 0, 0, 0⟩]⟩
  , ⟨0x5C, 1, 0x44, 1, 0, false, false, .plain, [⟨0, 16, .rws, 96, 1, 8760⟩]⟩
  , ⟨0x5C, 1, 0x80, 1, 0, false, false, .lo, [⟨0, 32, .ro, 0, 0, 0⟩]⟩
  , ⟨0x5C, 1, 0x84, 1, 0, false, false, .hi, [⟨0, 32, .ro, 0, 0, 0⟩]⟩
  , ⟨0x5C, 1, 0x88, 1, 0, false, false, .plain, [⟨0, 24, .ro, 0, 0, 0⟩]⟩
  , ⟨0x5C, 1, 0x8C, 1, 0, false, false, .plain, [⟨0, 32, .ro, 0, 0, 0⟩]⟩
  , ⟨0x5C, 1, 0x90, 1, 0, false, false, .plain, [⟨0, 24, .ro, 0, 0, 0⟩]⟩
  , ⟨0x5C, 1, 0x94, 1, 0, false, false, .plain, [⟨0, 32, .rc, 0, 0, 0⟩]⟩
  , ⟨0x5C, 1, 0xC0, 1, 0, false, false, .plain, [⟨0, 25, .ro, 0, 0, 0⟩, ⟨31, 1, .ro, 0, 0, 0⟩]⟩
  , ⟨0x5C, 1, 0xC4, 1, 0, false, false, .plain, [⟨0, 32, .wo, 0, 0, 0⟩]⟩
  , ⟨0x5C, 1, 0xC8, 1, 0, false, false, .plain, [⟨0, 9, .ro, 0, 0, 0⟩]⟩
  , ⟨0x5C, 1, 0xCC, 1, 0, false, false, .plain, [⟨0, 32, .rc, 0, 0, 0⟩]⟩ ]

/-! ### UPK (R552) -/

abbrev UPK_SCAN_RET_DAYS : Fld := ⟨0xa0040, 0, 10⟩
abbrev UPK_SCAN_RD_LIMIT : Fld := ⟨0xa0040, 16, 16⟩
abbrev UPK_CAL_ZQ_MS : Fld := ⟨0xa0044, 0, 16⟩
abbrev UPK_CAL_OSC_MS : Fld := ⟨0xa0044, 16, 16⟩
abbrev UPK_CAL2_FCAL_H : Fld := ⟨0xa0048, 0, 8⟩
abbrev UPK_CAL2_DRIFT_PS : Fld := ⟨0xa0048, 8, 8⟩
abbrev UPK_CAL2_TEMP_STEP : Fld := ⟨0xa0048, 16, 8⟩
abbrev UPK_CAP_CAP_DAYS : Fld := ⟨0xa004c, 0, 8⟩
abbrev UPK_CAP_CAP_GO : Fld := ⟨0xa004c, 8, 1⟩
abbrev UPK_CAP2_CAP_DROP_MJ : Fld := ⟨0xa0050, 0, 16⟩
abbrev UPK_CAP2_CAP_MAX_S : Fld := ⟨0xa0050, 16, 8⟩
abbrev UPK_CAP2_TOL : Fld := ⟨0xa0050, 24, 8⟩
abbrev UPK_TL_TL_ADDR : Fld := ⟨0xa0054, 0, 7⟩
abbrev UPK_TL_TL_CMD : Fld := ⟨0xa0054, 8, 8⟩
abbrev UPK_TL_TL_ON : Fld := ⟨0xa0054, 16, 8⟩
abbrev UPK_TL_TL_OFF : Fld := ⟨0xa0054, 24, 8⟩
abbrev UPK_TL_MW_MW : Fld := ⟨0xa0058, 0, 20⟩
abbrev UPK_WEAR_EC_RATED : Fld := ⟨0xa005c, 0, 16⟩
abbrev UPK_WEAR_HZ_WARN_PCT : Fld := ⟨0xa005c, 16, 7⟩
abbrev UPK_WEAR2_HZ_WARN_DAYS : Fld := ⟨0xa0060, 0, 16⟩
abbrev UPK_STAT_CAP_RUN : Fld := ⟨0xa0080, 0, 1⟩
abbrev UPK_STAT_RET_RUN : Fld := ⟨0xa0080, 1, 1⟩
abbrev UPK_STAT_SCAN_LATE : Fld := ⟨0xa0080, 2, 1⟩
abbrev TEL_CFG_TEL_MS : Fld := ⟨0xa1040, 0, 16⟩
abbrev TEL_CFG_TMR_EN : Fld := ⟨0xa1040, 16, 1⟩
abbrev TEL_TEMP_TJ : Fld := ⟨0xa1080, 0, 8⟩
abbrev TEL_TEMP_TN : Fld := ⟨0xa1080, 8, 8⟩
abbrev TEL_TEMP_TB : Fld := ⟨0xa1080, 16, 8⟩
abbrev TEL_TJ_MAX_C : Fld := ⟨0xa1084, 0, 8⟩
abbrev TEL_POWER_MW : Fld := ⟨0xa1088, 0, 16⟩
abbrev TEL_HOST_RD_MBPS : Fld := ⟨0xa108c, 0, 16⟩
abbrev TEL_HOST_WR_MBPS : Fld := ⟨0xa108c, 16, 16⟩
abbrev TEL_FLASH_SHADOW_MBPS : Fld := ⟨0xa1090, 0, 16⟩
abbrev TEL_FLASH_PROG_MBPS : Fld := ⟨0xa1090, 16, 16⟩
abbrev TEL_RES_ISLETS : Fld := ⟨0xa1094, 0, 26⟩
abbrev TEL_PASS_LO_PASS : Fld := ⟨0xa1098, 0, 32⟩
abbrev TEL_PASS_HI_PASS : Fld := ⟨0xa109c, 0, 32⟩
abbrev WEAR_HORIZON_PCT : Fld := ⟨0xa2040, 0, 7⟩
abbrev WEAR_HORIZON_DAYS : Fld := ⟨0xa2040, 16, 16⟩
abbrev WEAR_U_U : Fld := ⟨0xa2044, 0, 17⟩
abbrev WEAR_U_DIE : Fld := ⟨0xa2044, 24, 8⟩
abbrev WEAR_U_SPARE_LIMITED : Fld := ⟨0xa2044, 17, 1⟩
abbrev CAP_RESULT_DROP_MJ : Fld := ⟨0xa2080, 0, 20⟩
abbrev CAP_EXPECT_MJ : Fld := ⟨0xa2084, 0, 20⟩
abbrev CAP_RATIO_RATIO : Fld := ⟨0xa2088, 0, 16⟩
abbrev CAP_RATIO_SUSPECT : Fld := ⟨0xa2088, 16, 1⟩
abbrev CAP_RATIO_ABORTED : Fld := ⟨0xa2088, 17, 1⟩
abbrev CAP_RATIO_VALID : Fld := ⟨0xa2088, 31, 1⟩
abbrev CAP_HOURS_LO_HOURS : Fld := ⟨0xa208c, 0, 32⟩
abbrev CAP_HOURS_HI_HOURS : Fld := ⟨0xa2090, 0, 16⟩

/-- The register tables of UPK (R552). -/
def rowsUPK : List Row :=
  [ ⟨0xA0, 1, 0x40, 1, 0, false, false, .plain, [⟨0, 10, .rws, 7, 1, 365⟩, ⟨16, 16, .rws, 100, 1, 65535⟩]⟩
  , ⟨0xA0, 1, 0x44, 1, 0, false, false, .plain, [⟨0, 16, .rws, 128, 16, 10000⟩, ⟨16, 16, .rws, 16, 1, 1000⟩]⟩
  , ⟨0xA0, 1, 0x48, 1, 0, false, false, .plain, [⟨0, 8, .rws, 24, 1, 168⟩, ⟨8, 8, .rws, 8, 2, 64⟩, ⟨16, 8, .rws, 10, 2, 40⟩]⟩
  , ⟨0xA0, 1, 0x4C, 1, 0, false, false, .plain, [⟨0, 8, .rws, 30, 0, 255⟩, ⟨8, 1, .wo, 0, 0, 0⟩]⟩
  , ⟨0xA0, 1, 0x50, 1, 0, false, false, .plain, [⟨0, 16, .rws, 2000, 500, 20000⟩, ⟨16, 8, .rws, 60, 5, 255⟩, ⟨24, 8, .rws, 26, 4, 128⟩]⟩
  , ⟨0xA0, 1, 0x54, 1, 0, false, false, .plain, [⟨0, 7, .rws, 0, 0, 0⟩, ⟨8, 8, .rws, 0, 0, 0⟩, ⟨16, 8, .rws, 1, 0, 0⟩, ⟨24, 8, .rws, 0, 0, 0⟩]⟩
  , ⟨0xA0, 1, 0x58, 1, 0, false, false, .plain, [⟨0, 20, .rws, 0, 0, 0⟩]⟩
  , ⟨0xA0, 1, 0x5C, 1, 0, false, false, .plain, [⟨0, 16, .rws, 0, 100, 65535⟩, ⟨16, 7, .rws, 80, 1, 100⟩]⟩
  , ⟨0xA0, 1, 0x60, 1, 0, false, false, .plain, [⟨0, 16, .rws, 180, 1, 65534⟩]⟩
  , ⟨0xA0, 1, 0x80, 1, 0, false, false, .plain, [⟨0, 1, .ro, 0, 0, 0⟩, ⟨1, 1, .ro, 0, 0, 0⟩, ⟨2, 1, .ro, 0, 0, 0⟩]⟩
  , ⟨0xA1, 1, 0x40, 1, 0, false, false, .plain, [⟨0, 16, .rws, 1000, 10, 60000⟩, ⟨16, 1, .rws, 0, 0, 0⟩]⟩
  , ⟨0xA1, 1, 0x80, 1, 0, false, false, .plain, [⟨0, 8, .ro, 0, 0, 0⟩, ⟨8, 8, .ro, 0, 0, 0⟩, ⟨16, 8, .ro, 0, 0, 0⟩]⟩
  , ⟨0xA1, 1, 0x84, 1, 0, false, false, .plain, [⟨0, 8, .rc, 128, 0, 0⟩]⟩
  , ⟨0xA1, 1, 0x88, 1, 0, false, false, .plain, [⟨0, 16, .ro, 0, 0, 0⟩]⟩
  , ⟨0xA1, 1, 0x8C, 1, 0, false, false, .plain, [⟨0, 16, .ro, 0, 0, 0⟩, ⟨16, 16, .ro, 0, 0, 0⟩]⟩
  , ⟨0xA1, 1, 0x90, 1, 0, false, false, .plain, [⟨0, 16, .ro, 0, 0, 0⟩, ⟨16, 16, .ro, 0, 0, 0⟩]⟩
  , ⟨0xA1, 1, 0x94, 1, 0, false, false, .plain, [⟨0, 26, .ro, 0, 0, 0⟩]⟩
  , ⟨0xA1, 1, 0x98, 1, 0, false, false, .lo, [⟨0, 32, .ro, 0, 0, 0⟩]⟩
  , ⟨0xA1, 1, 0x9C, 1, 0, false, false, .hi, [⟨0, 32, .ro, 0, 0, 0⟩]⟩
  , ⟨0xA2, 1, 0x40, 1, 0, false, false, .plain, [⟨0, 7, .ro, 0, 0, 0⟩, ⟨16, 16, .ro, 65535, 0, 0⟩]⟩
  , ⟨0xA2, 1, 0x44, 1, 0, false, false, .plain, [⟨0, 17, .ro, 0, 0, 0⟩, ⟨24, 8, .ro, 0, 0, 0⟩, ⟨17, 1, .ro, 0, 0, 0⟩]⟩
  , ⟨0xA2, 1, 0x80, 1, 0, false, false, .plain, [⟨0, 20, .ro, 0, 0, 0⟩]⟩
  , ⟨0xA2, 1, 0x84, 1, 0, false, false, .plain, [⟨0, 20, .ro, 0, 0, 0⟩]⟩
  , ⟨0xA2, 1, 0x88, 1, 0, false, false, .plain, [⟨0, 16, .ro, 0, 0, 0⟩, ⟨16, 1, .ro, 0, 0, 0⟩, ⟨17, 1, .ro, 0, 0, 0⟩, ⟨31, 1, .ro, 0, 0, 0⟩]⟩
  , ⟨0xA2, 1, 0x8C, 1, 0, false, false, .lo, [⟨0, 32, .ro, 0, 0, 0⟩]⟩
  , ⟨0xA2, 1, 0x90, 1, 0, false, false, .hi, [⟨0, 16, .ro, 0, 0, 0⟩]⟩ ]

/-! ### TST (R564) -/

abbrev TST_STAT_IR : Fld := ⟨0xa8080, 0, 8⟩
abbrev TST_STAT_TEST_MODE : Fld := ⟨0xa8080, 8, 1⟩
abbrev TST_STAT_HELD : Fld := ⟨0xa8080, 9, 1⟩
abbrev TST_STAT_TRIG_SEEN : Fld := ⟨0xa8080, 10, 1⟩
abbrev TST_ENTRIES_COUNT : Fld := ⟨0xa8084, 0, 32⟩

/-- The register tables of TST (R564). -/
def rowsTST : List Row :=
  [ ⟨0xA8, 1, 0x80, 1, 0, false, false, .plain, [⟨0, 8, .ro, 3, 0, 0⟩, ⟨8, 1, .ro, 0, 0, 0⟩, ⟨9, 1, .ro, 0, 0, 0⟩, ⟨10, 1, .w1c, 0, 0, 0⟩]⟩
  , ⟨0xA8, 1, 0x84, 1, 0, false, false, .plain, [⟨0, 32, .rc, 0, 0, 0⟩]⟩ ]

/-- Every register table with the pages it lies on. -/
def regTables : List (Nat × Nat × List Row) :=
  [ (0x8, 4, rowsMGP)
  , (0x0, 1, rowsSYS)
  , (0x4, 1, rowsSEM)
  , (0x5, 1, rowsRES)
  , (0x20, 8, rowsPERS)
  , (0x28, 4, rowsSAVE)
  , (0x2C, 4, rowsRSTR)
  , (0x60, 16, rowsFCH)
  , (0xC0, 16, rowsFDG)
  , (0x70, 4, rowsFARR)
  , (0x30, 32, rowsMOV)
  , (0xB4, 4, rowsMVG)
  , (0x50, 8, rowsDRC)
  , (0xB0, 4, rowsDSC)
  , (0x58, 4, rowsDTRN)
  , (0x10, 16, rowsHLK)
  , (0x88, 4, rowsSTRT)
  , (0x1, 1, rowsCLK)
  , (0x2, 1, rowsRST)
  , (0x90, 4, rowsFLT)
  , (0xD0, 4, rowsGLC)
  , (0x94, 1, rowsREC)
  , (0x80, 4, rowsATOL)
  , (0x98, 1, rowsTWL)
  , (0x99, 1, rowsTWS)
  , (0x9C, 1, rowsSVC)
  , (0x3, 1, rowsPWR)
  , (0x5C, 4, rowsDSCR)
  , (0xA0, 4, rowsUPK)
  , (0xA8, 1, rowsTST) ]

/-- Does this row hold the register at page `p`, offset `o`? -/
def rowCovers (p o : Nat) (r : Row) : Bool :=
  decide (r.page ≤ p ∧ p < r.page + r.npages ∧ r.off ≤ o)
    && (if r.count = 1 then decide (o = r.off)
        else decide ((o - r.off) % r.stride = 0 ∧ (o - r.off) / r.stride < r.count))

/-- The register map row of address `a`, if the map lists one. -/
def rowOf (a : Nat) : Option Row :=
  match regTables.find? (fun t => decide (t.1 ≤ a / 0x1000 ∧ a / 0x1000 < t.1 + t.2.1)) with
  | none => none
  | some t => t.2.2.find? (rowCovers (a / 0x1000) (a % 0x1000))

/-- The value a register's fields take at reset. -/
def rowReset (r : Row) : Nat :=
  r.flds.foldl (fun n f => n + (f.rst % 2 ^ f.w) * 2 ^ f.lo) 0

end Sys2Proof.Machine
end

