-- ==== Sys2Proof/Machine/Ops.lean ====
section
/-! DEFINITION. The named operations over sparse data and registers, the page map with its blocks, domains, clusters
and semaphores (R11, R26, R411, R528), the fault-source tables, and the resource table (R47, R48). -/

namespace Sys2Proof.Machine

/-! ### Replacing one part of the state -/

/-- Replaces the state of PERS. -/
def State.setPers (s : State) (x : Pers) : State := { s with pers := x }

/-- Replaces the state of SAVE. -/
def State.setSave (s : State) (x : Save) : State := { s with save := x }

/-- Replaces the state of the save array. -/
def State.setArr (s : State) (x : Arr) : State := { s with arr := x }

/-- Replaces the state of FCH and FARR. -/
def State.setFarr (s : State) (x : Farr) : State := { s with farr := x }

/-- Replaces the state of the movers. -/
def State.setMov (s : State) (x : Mov) : State := { s with mov := x }

/-- Replaces the state of RSTR. -/
def State.setRstr (s : State) (x : Rstr) : State := { s with rstr := x }

/-- Replaces the state of FLT. -/
def State.setFlt (s : State) (x : Flt) : State := { s with flt := x }

/-- Replaces the state of REC. -/
def State.setRecd (s : State) (x : Recorder) : State := { s with recd := x }

/-- Replaces the state of RST. -/
def State.setRst (s : State) (x : Rst) : State := { s with rst := x }

/-- Replaces the state of PWR. -/
def State.setPwr (s : State) (x : Pwr) : State := { s with pwr := x }

/-- Replaces the state of MGP. -/
def State.setMgp (s : State) (x : Mgp) : State := { s with mgp := x }

/-- Replaces the state of HLK. -/
def State.setHlk (s : State) (x : Hlk) : State := { s with hlk := x }

/-- Replaces the state of the DRAM controllers. -/
def State.setDrc (s : State) (x : Drc) : State := { s with drc := x }

/-- Replaces the state of STRT. -/
def State.setStrt (s : State) (x : Strt) : State := { s with strt := x }

/-- Replaces the state of Atoll. -/
def State.setAtol (s : State) (x : Atol) : State := { s with atol := x }

/-- Replaces what Atoll keeps. -/
def State.setKept (s : State) (x : Kept) : State := { s with kept := x }

/-- Replaces the state of TWL. -/
def State.setTwl (s : State) (x : Twl) : State := { s with twl := x }

/-- Replaces the state of the mailbox. -/
def State.setMbox (s : State) (x : Mbox) : State := { s with mbox := x }

/-- Replaces the state of SVC. -/
def State.setSvc (s : State) (x : Svc) : State := { s with svc := x }

/-- Replaces the state of TST. -/
def State.setTst (s : State) (x : Tst) : State := { s with tst := x }

/-- Replaces the state of DSCR. -/
def State.setDscr (s : State) (x : Dscr) : State := { s with dscr := x }

/-- Replaces the state of UPK. -/
def State.setUpk (s : State) (x : Upk) : State := { s with upk := x }

/-! ### Sparse data in canonical form -/

/-- The value under key `k`; an unlisted key reads as `d k`. -/
def Sparse.get {β : Type} (d : Nat → β) : Sparse β → Nat → β
  | [], k => d k
  | (k', v) :: t, k => if k = k' then v else Sparse.get d t k

/-- Stores `v` under `k`, keeping the keys rising and listing no value equal to what an unlisted key reads as. -/
def Sparse.set {β : Type} [DecidableEq β] (d : Nat → β) : Sparse β → Nat → β → Sparse β
  | [], k, v => if v = d k then [] else [(k, v)]
  | (k', v') :: t, k, v =>
    if k < k' then (if v = d k then (k', v') :: t else (k, v) :: (k', v') :: t)
    else if k = k' then (if v = d k then t else (k, v) :: t)
    else (k', v') :: Sparse.set d t k v

/-- The keys of a sparse map rise strictly from above `lo`. -/
def Sparse.risesFrom {β : Type} : Nat → Sparse β → Bool
  | _, [] => true
  | lo, (k, _) :: t => decide (lo ≤ k) && Sparse.risesFrom (k + 1) t

/-- The canonical form: keys strictly rising, no entry equal to what its key reads as unlisted. -/
def Sparse.wf {β : Type} [DecidableEq β] (d : Nat → β) (m : Sparse β) : Bool :=
  Sparse.risesFrom 0 m && m.all (fun e => decide (e.2 ≠ d e.1))

/-- Applies `f` to every listed value, keeping the canonical form. -/
def Sparse.mapVals {β : Type} [DecidableEq β] (d : Nat → β) (f : β → β) (m : Sparse β) : Sparse β :=
  (m.map (fun e => (e.1, f e.2))).filter (fun e => decide (e.2 ≠ d e.1))

/-- Inserts a number into a strictly rising list. -/
def insertNat : List Nat → Nat → List Nat
  | [], n => [n]
  | m :: t, n => if n < m then n :: m :: t else if n = m then m :: t else m :: insertNat t n

/-- Drops `n` from a list. -/
def dropNat (l : List Nat) (n : Nat) : List Nat := l.filter (fun m => decide (m ≠ n))

/-! ### The page map -/

/-- The pages in always-on logic (R528). -/
def alwaysOnPages : List Nat := [0x0, 0x1, 0x2, 0x3, 0x4, 0x5, 0x90, 0x93, 0x94, 0x98, 0x99, 0x9C, 0xA8]

/-- Is page `p` in always-on logic (R528)? -/
def alwaysOn (p : Nat) : Bool := alwaysOnPages.contains p

/-- One line of the page map (R26): first page, pages, whether each page is a block of its own, block type code. -/
structure BlockRow where
  first : Nat
  pages : Nat
  each : Bool
  typ : Nat
  deriving DecidableEq, Repr

/-- The page map (R26). -/
def pageMap : List BlockRow :=
  [ ⟨0x00, 1, false, 0x01⟩, ⟨0x01, 1, false, 0x02⟩, ⟨0x02, 1, false, 0x03⟩, ⟨0x03, 1, false, 0x04⟩
  , ⟨0x04, 1, false, 0x05⟩, ⟨0x05, 1, false, 0x06⟩, ⟨0x08, 4, false, 0x07⟩, ⟨0x10, 16, false, 0x10⟩
  , ⟨0x20, 8, false, 0x11⟩, ⟨0x28, 4, false, 0x12⟩, ⟨0x2C, 4, false, 0x13⟩, ⟨0x30, 32, true, 0x14⟩
  , ⟨0x50, 4, false, 0x20⟩, ⟨0x54, 4, false, 0x20⟩, ⟨0x58, 4, false, 0x21⟩, ⟨0x5C, 4, false, 0x22⟩
  , ⟨0x60, 16, true, 0x30⟩, ⟨0x70, 4, false, 0x31⟩, ⟨0x74, 4, false, 0x32⟩, ⟨0x78, 4, false, 0x33⟩
  , ⟨0x7C, 4, false, 0x34⟩, ⟨0x80, 4, false, 0x40⟩, ⟨0x88, 4, false, 0x41⟩, ⟨0x90, 4, false, 0x42⟩
  , ⟨0x94, 1, false, 0x43⟩, ⟨0x98, 1, false, 0x44⟩, ⟨0x99, 1, false, 0x45⟩, ⟨0x9C, 1, false, 0x46⟩
  , ⟨0xA0, 4, false, 0x47⟩, ⟨0xA8, 1, false, 0x48⟩, ⟨0xB0, 4, false, 0x23⟩, ⟨0xB4, 4, false, 0x15⟩
  , ⟨0xC0, 16, false, 0x35⟩, ⟨0xD0, 4, false, 0x50⟩ ]

/-- The page-map line of page `p`, if the controller implements it (R24). -/
def blockRow (p : Nat) : Option BlockRow :=
  pageMap.find? (fun r => decide (r.first ≤ p ∧ p < r.first + r.pages))

/-- Is page `p` implemented (R24)? -/
def implemented (p : Nat) : Bool := (blockRow p).isSome

/-- The block number of page `p`: the page number of its block's first page (R25). -/
def blockOf (p : Nat) : Nat :=
  match blockRow p with
  | none => p
  | some r => if r.each then p else r.first

/-- The pages of block `b`. -/
def pagesOf (b : Nat) : List Nat :=
  match blockRow b with
  | none => []
  | some r => if r.each then [b] else (List.range r.pages).map (· + r.first)

/-- The semaphore that guards page `p`, if one does (R26). -/
def semOf (p : Nat) : Option Nat :=
  if p = 0x00 then some 0 else if p = 0x01 ∨ p = 0x02 then some 1 else if p = 0x03 then some 2
  else if p = 0x05 then some 3 else if 0x08 ≤ p ∧ p < 0x0C then some 4 else if 0x10 ≤ p ∧ p < 0x20 then some 5
  else if 0x20 ≤ p ∧ p < 0x28 then some 6 else if 0x28 ≤ p ∧ p < 0x2C then some 7
  else if 0x2C ≤ p ∧ p < 0x30 then some 8 else if 0x30 ≤ p ∧ p < 0x50 then some (16 + (p - 0x30))
  else if 0x50 ≤ p ∧ p < 0x54 then some 9 else if 0x54 ≤ p ∧ p < 0x58 then some 10
  else if 0x58 ≤ p ∧ p < 0x5C then some 11 else if 0x5C ≤ p ∧ p < 0x60 then some 12
  else if 0x60 ≤ p ∧ p < 0x68 then some 13 else if 0x68 ≤ p ∧ p < 0x70 then some 14
  else if 0x70 ≤ p ∧ p < 0x80 then some 15 else if 0x80 ≤ p ∧ p < 0x84 then some 49
  else if 0x88 ≤ p ∧ p < 0x8C then some 50 else if 0x90 ≤ p ∧ p < 0x94 then some 51
  else if p = 0x94 then some 52 else if p = 0x98 then some 53 else if p = 0x99 then some 54
  else if p = 0x9C then some 55 else if 0xA0 ≤ p ∧ p < 0xA4 then some 56 else if p = 0xA8 then some 57
  else if p = 0xB0 ∨ p = 0xB1 then some 9 else if p = 0xB2 ∨ p = 0xB3 then some 10
  else if 0xB4 ≤ p ∧ p < 0xB8 then some 48 else if 0xC0 ≤ p ∧ p < 0xC8 then some 13
  else if 0xC8 ≤ p ∧ p < 0xD0 then some 14 else if 0xD0 ≤ p ∧ p < 0xD4 then some 58 else none

/-- The power domain of page `p`, by its place in R528: 0 AON, 1 ATOLL, 2 STRAIT, 3 CORE, 4 GLEN, 5 HOST, 6 DDR0,
7 DDR1, 8 ONFI. -/
def domainOf (p : Nat) : Nat :=
  if alwaysOn p then 0 else if 0x80 ≤ p ∧ p < 0x84 then 1 else if 0x88 ≤ p ∧ p < 0x8C then 2
  else if 0x10 ≤ p ∧ p < 0x20 then 5
  else if (0x50 ≤ p ∧ p < 0x54) ∨ (0x58 ≤ p ∧ p < 0x60) ∨ p = 0xB0 ∨ p = 0xB1 then 6
  else if (0x54 ≤ p ∧ p < 0x58) ∨ p = 0xB2 ∨ p = 0xB3 then 7
  else if (0x60 ≤ p ∧ p < 0x70) ∨ (0xC0 ≤ p ∧ p < 0xD0) then 8
  else if (0xA0 ≤ p ∧ p < 0xA4) ∨ (0xD0 ≤ p ∧ p < 0xD4) then 4 else 3

/-- The cluster of page `p` (R11); 16 names FLT's own sources (R411). -/
def clusterOf (p : Nat) : Nat :=
  if 0x90 ≤ p ∧ p < 0x94 then 16
  else if 0x10 ≤ p ∧ p < 0x20 then 0 else if 0x20 ≤ p ∧ p < 0x28 then 1 else if 0x28 ≤ p ∧ p < 0x30 then 2
  else if 0x30 ≤ p ∧ p < 0x40 then 3 else if (0x40 ≤ p ∧ p < 0x50) ∨ (0xB4 ≤ p ∧ p < 0xB8) then 4
  else if (0x50 ≤ p ∧ p < 0x54) ∨ p = 0xB0 ∨ p = 0xB1 then 5
  else if (0x54 ≤ p ∧ p < 0x58) ∨ p = 0xB2 ∨ p = 0xB3 then 6 else if 0x58 ≤ p ∧ p < 0x60 then 7
  else if (0x60 ≤ p ∧ p < 0x68) ∨ (0xC0 ≤ p ∧ p < 0xC8) then 8
  else if (0x68 ≤ p ∧ p < 0x70) ∨ (0xC8 ≤ p ∧ p < 0xD0) then 9 else if 0x70 ≤ p ∧ p < 0x80 then 10
  else if (0xA0 ≤ p ∧ p < 0xA4) ∨ (0xD0 ≤ p ∧ p < 0xD4) then 11 else if 0x80 ≤ p ∧ p < 0x84 then 12
  else if 0x88 ≤ p ∧ p < 0x8C then 13
  else if (0x04 ≤ p ∧ p < 0x0C) ∨ (0x94 ≤ p ∧ p < 0xA0) then 14 else 15

/-- The slot of page `p` among the implemented pages of its cluster, in ascending page number (R411). -/
def slotOf (p : Nat) : Nat :=
  ((List.range p).filter (fun q => implemented q && decide (clusterOf q = clusterOf p))).length

/-- SRC of source `n` of page `p` (R411). -/
def srcOf (p n : Nat) : Nat := slotOf p * 32 + n

/-- FSRC of source `n` of page `p` (R411). -/
def fsrcOf (p n : Nat) : Nat := clusterOf p * 1024 + srcOf p n

/-- The fault sources of page `p`: their own severities in source order, 0 ADVISORY to 3 FATAL (the owning chapters). -/
def faultSources (p : Nat) : List Nat :=
  if p = 0x20 then [0, 0, 0, 2, 2] else if p = 0x21 then [2, 0] else if p = 0x29 then [2, 0, 0, 1]
  else if p = 0x2D then [2, 2, 0, 2] else if 0x60 ≤ p ∧ p < 0x70 then [2, 1, 1, 1, 2, 2]
  else if p = 0x70 then [2, 1, 2, 0, 0] else if 0x30 ≤ p ∧ p < 0x50 then [2, 0, 0, 2]
  else if p = 0x50 ∨ p = 0x54 then [2, 1, 2, 3, 2] else if 0xB0 ≤ p ∧ p < 0xB4 then [1, 2, 0]
  else if p = 0x58 ∨ p = 0xB4 then [2]
  else if p = 0x10 then [2, 1, 2, 0, 0] else if p = 0x88 then [1, 0, 0, 2, 2] else if p = 0x01 then [2, 3, 2, 3]
  else if p = 0x02 then [0, 0] else if p = 0x90 then [2, 3, 2, 0, 0, 0, 3]
  else if 0xD0 ≤ p ∧ p < 0xD4 then [2, 2, 2] else if p = 0x94 then [1, 0, 0] else if p = 0x80 then [2, 1, 1, 0, 2, 0]
  else if p = 0x98 then [0, 2, 2] else if p = 0x99 then [0, 0, 2] else if p = 0x9C then [0, 2, 2]
  else if p = 0x03 then [2, 2, 3] else if p = 0x5C then [0, 2] else if p = 0xA0 then [0, 0, 2]
  else if p = 0xA8 then [2] else []

/-- The pages with PAGE_CAPS.SHADOWED = 1 (R93, R115, R157, R194, R299). -/
def shadowedPage (p : Nat) : Bool :=
  decide (p = 0x20 ∨ p = 0x21 ∨ p = 0x28 ∨ p = 0x2C ∨ (0x30 ≤ p ∧ p < 0x50))

/-- Does page `p` hold a 64-bit counter pair (R584)? DEDUCED, log 33. -/
def hasCounterPair (p : Nat) : Bool :=
  regTables.any (fun t => decide (t.1 ≤ p ∧ p < t.1 + t.2.1) && t.2.2.any (fun r =>
    decide (r.page ≤ p ∧ p < r.page + r.npages ∧ r.kind = .lo) && r.flds.any (fun f => decide (f.acc = .rc))))
    || decide (p = 0)

/-! ### The header and the whole register map -/

/-- The header registers at offset `o` of page `p` that hold a value of their own (R27, R28, R584). -/
def headerFields (p o : Nat) : List FSpec :=
  if o = 0x008 then (if alwaysOn p then [⟨0, 1, .rws, 1, 1, 1⟩]
    else [⟨2, 1, .rws, 0, 0, 0⟩, ⟨1, 1, .rws, 0, 0, 0⟩, ⟨0, 1, .rws, 1, 0, 0⟩])
  else if o = 0x010 then [⟨0, 32, .w1c, 0, 0, 0⟩]
  else if o = 0x014 then [⟨0, 32, .rw, if p = 0x90 then 8 else 0, 0, 0⟩]
  else if o = 0x018 then [⟨0, 32, .wo, 0, 0, 0⟩]
  else if o = 0x01C then [⟨0, (faultSources p).length, .rws, 0, 0, 0⟩]
  else if o = 0x020 then ⟨0, 0, .rws, 0, 0, 0⟩ :: (List.range (faultSources p).length).map (fun i =>
    if (faultSources p).getD i 0 = 3 then ⟨i, 0, .rws, 0, 0, 0⟩ else ⟨i, 1, .rws, 0, 0, 0⟩)
  else if o = 0x024 then [⟨16, 8, .ro, 0, 0, 0⟩, ⟨0, 16, .rc, 0, 0, 0⟩]
  else if o = 0x02C then [⟨1, 1, .wo, 0, 0, 0⟩, ⟨0, 1, .rws, 0, 0, 0⟩]
  else if o = 0x030 then [⟨0, 32, .ro, 0, 0, 0⟩]
  else if o = 0x034 then [⟨16, 1, .w1c, 0, 0, 0⟩, ⟨8, 8, .ro, 0, 0, 0⟩, ⟨0, 8, .ro, 0, 0, 0⟩]
  else if o = 0x038 then [⟨0, 16, .rc, 0, 0, 0⟩]
  else if o = 0x03C then [⟨0, 32, .ro, 0, 0, 0⟩]
  else []

/-- The register at address `a`: a header register or a row of the register map; the shadow of a shadowed register
lies at its offset + 0x800 (R44). -/
def regRow (a : Nat) : Option Row :=
  if ¬ implemented (a / 0x1000) then none
  else if a % 0x1000 < 0x40 then
    some ⟨a / 0x1000, 1, a % 0x1000, 1, 4, false, false, .plain, headerFields (a / 0x1000) (a % 0x1000)⟩
  else rowOf a

/-- Is `a` the shadow address of a shadowed register (R44)? -/
def isShadowAddr (a : Nat) : Bool :=
  decide (0x800 ≤ a % 0x1000) && shadowedPage (a / 0x1000) &&
    (match rowOf (a - 0x800) with
     | some r => r.shadow
     | none => false)

/-- The value the register under key `k` reads as at reset. Keys of 2^20 and above are the per-reader copies.
DESIGN CHOICE, log 5. -/
def resetWord (k : Nat) : Word :=
  match regRow (k % 0x100000) with
  | some r => BitVec.ofNat 32 (rowReset r)
  | none =>
    if isShadowAddr (k % 0x100000) then
      match rowOf (k % 0x100000 - 0x800) with
      | some r => BitVec.ofNat 32 (rowReset r)
      | none => 0
    else 0

/-- The key of register `a` of page `p` for one reader, where each reader has its own (R35, R452, R480). -/
def perKey (p : Port) (a : Nat) : Nat :=
  (match p with
   | .host => 1
   | .sideband => 2
   | .glen => 3
   | .tst => 4) * 0x100000 + a

/-- A field of a register of which each reader has its own copy. -/
def Fld.at (f : Fld) (p : Port) : Fld := ⟨perKey p f.addr, f.lo, f.w⟩

/-- The owner code of a port (R38). -/
def portCode : Port → Nat
  | .host => 1
  | .sideband => 2
  | .glen => 3
  | .tst => 0

/-! ### Reading and writing registers and fields -/

/-- The register under key `k`. -/
def State.word (s : State) (k : Nat) : Word := Sparse.get resetWord s.regs k

/-- Stores a register. -/
def State.setWord (s : State) (k : Nat) (w : Word) : State := { s with regs := Sparse.set resetWord s.regs k w }

/-- Bits `lo` to `lo + w - 1` of a register value. -/
def getBits (x : Word) (lo w : Nat) : Nat := x.toNat / 2 ^ lo % 2 ^ w

/-- A register value with bits `lo` to `lo + w - 1` replaced by the low bits of `v`. -/
def putBits (x : Word) (lo w v : Nat) : Word :=
  BitVec.ofNat 32 (x.toNat / 2 ^ (lo + w) * 2 ^ (lo + w) + v % 2 ^ w * 2 ^ lo + x.toNat % 2 ^ lo)

/-- The value of a field. -/
def State.get (s : State) (f : Fld) : Nat := getBits (s.word f.addr) f.lo f.w

/-- Stores a field. -/
def State.put (s : State) (f : Fld) (v : Nat) : State := s.setWord f.addr (putBits (s.word f.addr) f.lo f.w v)

/-- A one-bit field as a truth value. -/
def State.flag (s : State) (f : Fld) : Bool := decide (s.get f = 1)

/-- The register a block acts on: on a page whose writes take effect at the next tick, the value in force before
the writes since the last tick. -/
def State.actWord (s : State) (k : Nat) : Word :=
  match s.late.find? (fun e => decide (e.1 = k)) with
  | some e => e.2
  | none => s.word k

/-- The value of a configuration field in force. -/
def State.cfg (s : State) (f : Fld) : Nat := getBits (s.actWord f.addr) f.lo f.w

/-- A one-bit configuration field in force. -/
def State.cfgOn (s : State) (f : Fld) : Bool := decide (s.cfg f = 1)

/-- The other half of a 64-bit pair whose low half is `f`. -/
def Fld.hi (f : Fld) : Fld := ⟨f.addr + 4, 0, 32⟩

/-- A 64-bit value held in a _LO/_HI pair. -/
def State.get64 (s : State) (f : Fld) : Nat := s.get f + 2 ^ 32 * s.get f.hi

/-- Stores a 64-bit value in a _LO/_HI pair. -/
def State.put64 (s : State) (f : Fld) (v : Nat) : State := (s.put f (v % 2 ^ 32)).put f.hi (v / 2 ^ 32)

/-- A fresh free value: a value the spec leaves open (the counter advances, so that each use has its own).
DESIGN CHOICE, log 10. -/
def State.free (s : State) : Nat := Config.freeValue s.freeCtr

/-- Marks the free value as drawn. -/
def State.drawn (s : State) : State := { s with freeCtr := s.freeCtr + 1 }

/-- Counts one event in a field that saturates. -/
def State.bumpSat (s : State) (f : Fld) : State := if s.get f + 1 < 2 ^ f.w then s.put f (s.get f + 1) else s

/-- Counts `n` events in a field. Where the count passes the field's width, the spec states no value: a free one.
DESIGN CHOICE, log 11. -/
def State.bumpBy (s : State) (f : Fld) (n : Nat) : State :=
  if s.get f + n < 2 ^ f.w then s.put f (s.get f + n) else (s.put f s.free).drawn

/-- Counts one event in a field. -/
def State.bump (s : State) (f : Fld) : State := s.bumpBy f 1

/-- Counts `n` events in a 64-bit pair. -/
def State.bump64By (s : State) (f : Fld) (n : Nat) : State := s.put64 f ((s.get64 f + n) % 2 ^ 64)

/-- Counts one event in a 64-bit pair. -/
def State.bump64 (s : State) (f : Fld) : State := s.bump64By f 1

/-- The pass counter (R45, R583). -/
def State.passCount (s : State) : Nat := s.get64 SYS_PASS_LO_COUNT

/-- Low 32 bits of the pass counter. -/
def State.pass32 (s : State) : Nat := s.get SYS_PASS_LO_COUNT

/-- Records an output. -/
def State.send (s : State) (o : Out) : State := { s with out := o :: s.out }

/-! ### Header registers by page -/

abbrev PAGE_CTRL_SOFT_RST (p : Nat) : Fld := ⟨0x1000 * p + 0x008, 2, 1⟩
abbrev PAGE_CTRL_CLK_GATE (p : Nat) : Fld := ⟨0x1000 * p + 0x008, 1, 1⟩
abbrev PAGE_CTRL_EN (p : Nat) : Fld := ⟨0x1000 * p + 0x008, 0, 1⟩
abbrev INT_STAT_CAUSE (p : Nat) : Fld := ⟨0x1000 * p + 0x010, 0, 32⟩
abbrev INT_EN_EN (p : Nat) : Fld := ⟨0x1000 * p + 0x014, 0, 32⟩
abbrev ERR_FORCE_FORCE (p : Nat) : Fld := ⟨0x1000 * p + 0x01C, 0, 32⟩
abbrev ERR_MASK_MASK (p : Nat) : Fld := ⟨0x1000 * p + 0x020, 0, 32⟩
abbrev ERR_COUNT_LAST_SRC (p : Nat) : Fld := ⟨0x1000 * p + 0x024, 16, 8⟩
abbrev ERR_COUNT_COUNT (p : Nat) : Fld := ⟨0x1000 * p + 0x024, 0, 16⟩
abbrev SHADOW_CTRL_ARM (p : Nat) : Fld := ⟨0x1000 * p + 0x02C, 0, 1⟩
abbrev COMMIT_SEQ_TICK (p : Nat) : Fld := ⟨0x1000 * p + 0x030, 0, 32⟩
abbrev RESOURCE_OWN_CONFLICT (p : Nat) : Fld := ⟨0x1000 * p + 0x034, 16, 1⟩
abbrev RESOURCE_OWN_RES (p : Nat) : Fld := ⟨0x1000 * p + 0x034, 8, 8⟩
abbrev RESOURCE_OWN_OWNER (p : Nat) : Fld := ⟨0x1000 * p + 0x034, 0, 8⟩
abbrev LATE_OK_COUNT (p : Nat) : Fld := ⟨0x1000 * p + 0x038, 0, 16⟩
abbrev PAGE_SEQ_COUNT (p : Nat) : Fld := ⟨0x1000 * p + 0x03C, 0, 32⟩

/-- Is the clock of page `p`'s block gated: CLK_GATE set on any page of the block (R27, R36)? DESIGN CHOICE, log 64. -/
def State.clockGated (s : State) (p : Nat) : Bool :=
  !alwaysOn p && (pagesOf (blockOf p)).any (fun q => s.flag (PAGE_CTRL_CLK_GATE q))

/-- Is the power domain of page `p` on (R528)? -/
def State.powered (s : State) (p : Nat) : Bool := bitOf (s.get PWR_STAT_DOM_ON) (domainOf p)

/-- Do the pages of ATOL still behave as gated: before step 5 of a start, and in recovery (R460)? -/
def State.atolShut (s : State) : Bool :=
  decide (s.rst.phase = .off ∨ s.rst.phase = .booting ∨ s.rst.phase = .verified ∨ s.rst.phase = .recovery)

/-- Is page `p` gated or powered off, so that R36 governs its accesses? DEDUCED, log 19. -/
def State.gated (s : State) (p : Nat) : Bool :=
  !alwaysOn p && (!s.powered p || s.clockGated p || (decide (0x80 ≤ p ∧ p < 0x84) && s.atolShut))

/-- A timeout whose awaited event arrived in the expiry cycle (R27). -/
def State.lateOk (s : State) (p : Nat) : State := s.bumpSat (LATE_OK_COUNT p)

/-! ### The resource table (R47 to R49) -/

/-- A feature that claims a resource: its enable bit, its entry and its block number (R49). -/
structure Feature where
  enable : Fld
  entry : Nat
  block : Nat
  deriving DecidableEq, Repr

/-- The features of R49 that a register bit enables. -/
def features : List Feature :=
  [ ⟨TWL_CTRL_ALERT_EN, 0, 0x98⟩, ⟨STRT_CTRL_SYNC_OUT_EN, 0, 0x88⟩, ⟨DRC_PD_EN 0, 1, 0x50⟩, ⟨DSCR_CTRL_PACE_EN, 1, 0x5C⟩
  , ⟨DRC_PD_EN 1, 2, 0x54⟩, ⟨TEL_CFG_TMR_EN, 2, 0xA0⟩, ⟨MVG_STAGE_BANK14_EN, 3, 0xB4⟩, ⟨REC_CTRL_BURST_EN, 4, 0x94⟩ ]

/-- A claim on entry `e` by block `b` from page `pg` (R47): the entry records the claimant when it is free, else the
claim is refused and both sides record it. -/
def State.claim (s : State) (e b pg : Nat) : State :=
  if s.get (RES_ENTRY_OWNER e) = 0xFF ∨ s.get (RES_ENTRY_OWNER e) = b then s.put (RES_ENTRY_OWNER e) b
  else
    ((((s.put (RESOURCE_OWN_CONFLICT pg) 1).put (RESOURCE_OWN_RES pg) e).put
      (RESOURCE_OWN_OWNER pg) (s.get (RES_ENTRY_OWNER e))).put (RES_ENTRY_CONFLICT e) 1).put (RES_ENTRY_REFUSED e) b

/-- Block `b` disables its feature on entry `e`, so that the entry becomes free (R47). -/
def State.release (s : State) (e b : Nat) : State :=
  if s.get (RES_ENTRY_OWNER e) = b then s.put (RES_ENTRY_OWNER e) 0xFF else s

/-- The feature writes its enable bit to `on`: a claim or a release; a refused bit reads back 0 (R47). -/
def State.enableFeature (s : State) (f : Feature) (on : Bool) : State :=
  if on then
    if s.get (RES_ENTRY_OWNER f.entry) = 0xFF ∨ s.get (RES_ENTRY_OWNER f.entry) = f.block then
      (s.claim f.entry f.block (f.enable.addr / 0x1000)).put f.enable 1
    else (s.claim f.entry f.block (f.enable.addr / 0x1000)).put f.enable 0
  else (s.put f.enable 0).release f.entry f.block

/-- RSTR takes entry `e` from any other owner, whose enable bit is cleared and whose page records the conflict with
RSTR's block number 0x2C (R48). -/
def State.preempt (s : State) (e : Nat) : State :=
  match features.find? (fun f => decide (f.entry = e ∧ s.get (RES_ENTRY_OWNER e) = f.block)) with
  | none => s.put (RES_ENTRY_OWNER e) 0x2C
  | some f =>
    (((((((s.put f.enable 0).put (RESOURCE_OWN_CONFLICT (f.enable.addr / 0x1000)) 1).put
      (RESOURCE_OWN_RES (f.enable.addr / 0x1000)) e).put (RESOURCE_OWN_OWNER (f.enable.addr / 0x1000)) 0x2C).put
      (RES_ENTRY_CONFLICT e) 1).put (RES_ENTRY_REFUSED e) f.block).put (RES_ENTRY_OWNER e) 0x2C)

/-! ### The module's sizes -/

/-- Host-visible islets: DRAM less DRAM/512 and 256 MiB, in 64 KiB granules (R15, R57). -/
def ModuleCfg.hostIslets (m : ModuleCfg) : Nat := m.dramGiB * 16384 - m.dramGiB * 32 - 4096

/-- Host-visible 64-byte lines. -/
def ModuleCfg.hostLines (m : ModuleCfg) : Nat := m.hostIslets * 1024

/-- The capacity of the SLC reserve band: D / 16 in islets (R108, R213). -/
def ModuleCfg.bandIslets (m : ModuleCfg) : Nat := m.dramGiB * 1024

/-- Rows of a skerry, from the pages per block in the mode it is written in (R198). -/
def skerryRows (planes ppb : Nat) : Nat := planes * ppb / 4

/-- Islets of an SLC skerry: 15 per row (R198, R213). -/
def ModuleCfg.slcIslets (m : ModuleCfg) : Nat := 15 * skerryRows m.planes m.ppbSlc

/-- Dies per channel (R16). -/
def ModuleCfg.dpc (m : ModuleCfg) : Nat := m.diesPerChannel.headD 0

/-- Skerries of the array (R213). -/
def ModuleCfg.skerries (m : ModuleCfg) : Nat := m.dpc * m.bpp

/-- Bytes of one SLC journal skerry, mirrored (R213, R218). -/
def ModuleCfg.journalNet (m : ModuleCfg) : Nat := skerryRows m.planes m.ppbSlc * 128 * 4096

/-- Skerries of the journal band at format (R213). -/
def ModuleCfg.journalBand (m : ModuleCfg) : Nat :=
  ceilDiv (max (m.dramGiB * 2 ^ 22) (4 * (m.dramGiB * 16384) * 8)) m.journalNet

/-- Skerries of the SLC reserve band at format (R213). -/
def ModuleCfg.slcBand (m : ModuleCfg) : Nat := ceilDiv m.bandIslets m.slcIslets

/-- Skerries of the spare band at format (R213). -/
def ModuleCfg.spareBand (m : ModuleCfg) : Nat := ceilDiv m.skerries 32

/-- Skerries of the image band at format (R213). -/
def ModuleCfg.imageBand (m : ModuleCfg) : Nat := m.skerries - 8 - m.journalBand - m.slcBand - m.spareBand

/-- Does a format of this geometry fit, the image band holding at least 1.5 × HOST_ISLETS islets (R213)? -/
def ModuleCfg.formatFits (m : ModuleCfg) : Bool :=
  decide (3 * m.hostIslets ≤ 2 * (m.imageBand * (15 * skerryRows m.planes m.ppbTlc)))

/-- Dies in the save array. -/
def ModuleCfg.dies (m : ModuleCfg) : Nat := m.diesPerChannel.foldl (· + ·) 0

/-- A line as a copy carries it: one that read uncorrectable is carried poisoned (R64, R323). -/
def Line.carried (l : Line) : Line := ⟨l.data, l.poison || l.ue, false⟩

/-- A line of zeros without poison. -/
def zeroLine : Line := ⟨0, false, false⟩

/-- A poisoned line. -/
def poisonLine : Line := ⟨0, true, false⟩

/-- The line of DRAM at line number `l`; DRAM that nothing has written reads as zeros. DESIGN CHOICE, log 8. -/
def State.dramLine (s : State) (l : Nat) : Line := Sparse.get (fun _ => zeroLine) s.dram l

/-- Writes a line of DRAM. -/
def State.setLine (s : State) (l : Nat) (v : Line) : State :=
  { s with dram := Sparse.set (fun _ => zeroLine) s.dram l v }

/-- The lines of islet `i` that DRAM lists, by offset within the islet. -/
def State.isletLines (s : State) (i : Nat) : List (Nat × Line) :=
  (s.dram.filter (fun e => decide (e.1 / 1024 = i))).map (fun e => (e.1 % 1024, e.2))

/-- Islet `i` takes exactly the given lines, every other line of it zeros. -/
def State.setIslet (s : State) (i : Nat) (ls : List (Nat × Line)) : State :=
  ls.foldl (fun t e => t.setLine (i * 1024 + e.1 % 1024) e.2)
    { s with dram := s.dram.filter (fun e => decide (e.1 / 1024 ≠ i)) }

/-- Does every line of islet `i` count as zero: data zero and no poison (R105)? -/
def State.isletZero (s : State) (i : Nat) : Bool :=
  (s.isletLines i).all (fun e => decide (e.2.data = 0 ∧ e.2.poison = false ∧ e.2.ue = false))

/-- Is a save running (R121)? -/
def State.saving (s : State) : Bool := s.save.run.isSome

end Sys2Proof.Machine
end

