-- ==== Sys2Proof/Machine/Operands.lean ====
section
/-! DEFINITION. The encodings: bytes and words (R4), the CRC-32C of the controller's structures, the fault record
(R419) and the event record (R440). -/

namespace Sys2Proof.Machine

/-- The `n` bytes of a value, least significant first (R4). -/
def leBytes : Nat → Nat → List (BitVec 8)
  | 0, _ => []
  | n + 1, v => BitVec.ofNat 8 v :: leBytes n (v / 256)

/-- The value of bytes stored least significant first (R4). -/
def leNat : List (BitVec 8) → Nat
  | [] => 0
  | b :: t => b.toNat + 256 * leNat t

/-- One bit step of CRC-32C: reflected polynomial 0x82F6_3B78. -/
def crcStep (c : BitVec 32) : BitVec 32 := if c.getLsbD 0 then (c >>> 1) ^^^ 0x82F63B78 else c >>> 1

/-- One byte of CRC-32C. -/
def crcByte (c : BitVec 32) (b : BitVec 8) : BitVec 32 :=
  crcStep (crcStep (crcStep (crcStep (crcStep (crcStep (crcStep (crcStep (c ^^^ b.setWidth 32))))))))

/-- CRC-32C of a byte string: initial value and final complement all ones. -/
def crc32c (bs : List (BitVec 8)) : BitVec 32 := (bs.foldl crcByte 0xFFFFFFFF) ^^^ 0xFFFFFFFF

/-- One bit step of the SMBus packet error code: polynomial 0x07, most significant bit first. -/
def pecStep (c : BitVec 8) : BitVec 8 := if c.getLsbD 7 then (c <<< 1) ^^^ 0x07 else c <<< 1

/-- One byte of the packet error code. -/
def pecByte (c b : BitVec 8) : BitVec 8 :=
  pecStep (pecStep (pecStep (pecStep (pecStep (pecStep (pecStep (pecStep (c ^^^ b))))))))

/-- The SMBus packet error code of the bytes of a transaction. -/
def pec (bs : List (BitVec 8)) : BitVec 8 := bs.foldl pecByte 0

/-- The eight words of a fault record (R419). -/
def FltRec.words (r : FltRec) : List Word :=
  [ BitVec.ofNat 32 (r.fseq % 2 ^ 16 + r.cluster % 32 * 2 ^ 16 + r.sev % 4 * 2 ^ 21 + b2n r.coincident * 2 ^ 23
      + b2n r.conseq * 2 ^ 24 + b2n r.inj * 2 ^ 25 + b2n r.dry * 2 ^ 26)
  , BitVec.ofNat 32 (r.src % 2 ^ 10 + r.kind % 64 * 2 ^ 10 + min r.rep 0xFF * 2 ^ 16 + r.reaction % 256 * 2 ^ 24)
  , BitVec.ofNat 32 (r.addr % 2 ^ 32)
  , BitVec.ofNat 32 (r.addr / 2 ^ 32 % 2 ^ 16 + r.parent % 2 ^ 16 * 2 ^ 16)
  , BitVec.ofNat 32 r.pass
  , BitVec.ofNat 32 (r.cycle % 2 ^ 12)
  , BitVec.ofNat 32 (min r.stall 0xFFFF)
  , 0 ]

/-- The words of an event record before its CRC: bytes 0x00 to 0x3B (R440). -/
def RecRec.head (r : RecRec) : List Word :=
  [ BitVec.ofNat 32 r.rseq
  , BitVec.ofNat 32 (r.typ % 256 + r.flags % 256 * 2 ^ 8 + r.block % 256 * 2 ^ 16
      + (r.nsnap % 32 + r.set % 4 * 64) * 2 ^ 24)
  , BitVec.ofNat 32 (r.code % 2 ^ 16 + min r.rep 0xFFFF * 2 ^ 16)
  , BitVec.ofNat 32 r.cycles
  , BitVec.ofNat 32 (r.hours % 2 ^ 32)
  , BitVec.ofNat 32 (r.hours / 2 ^ 32 % 2 ^ 16 + r.setGen % 2 ^ 16 * 2 ^ 16)
  , BitVec.ofNat 32 r.pass
  , BitVec.ofNat 32 r.lastPass ]
  ++ (List.range 7).map (fun k => r.detail.getD k 0)

/-- The snapshot words of an event record: bytes 0x40 to 0x7F (R440). -/
def RecRec.tail (r : RecRec) : List Word :=
  (List.range 16).map (fun k => if k < r.nsnap then r.snap.getD k 0 else 0)

/-- The bytes of a list of registers. -/
def wordBytes (ws : List Word) : List (BitVec 8) := ws.flatMap (fun w => leBytes 4 w.toNat)

/-- The 32 words of an event record, its CRC at 0x3C (R440). -/
def RecRec.words (r : RecRec) : List Word :=
  r.head ++ [crc32c (wordBytes (r.head ++ r.tail))] ++ r.tail

/-- The words of a boot selector record before its CRC: bytes 0x00 to 0x1B (R473). -/
def Selector.head (x : Selector) : List Word :=
  [0x4C45535A, BitVec.ofNat 32 x.seq, BitVec.ofNat 32 (x.active % 256 + (b2n x.updPend + 2 * b2n x.wipePend) * 2 ^ 8 + x.prot % 256 * 2 ^ 16)]
  ++ List.replicate 4 0

/-- The eight words of a boot selector record, its CRC at 0x1C (R473). -/
def Selector.words (x : Selector) : List Word := x.head ++ [crc32c (wordBytes x.head)]

/-- The four words of a completion record (R297). -/
def MovRec.words (r : MovRec) : List Word :=
  [ BitVec.ofNat 32 (r.chan % 32 + r.kind % 8 * 2 ^ 5 + b2n r.coincident * 2 ^ 8 + r.cause % 16 * 2 ^ 12 + r.pc % 2 ^ 16 * 2 ^ 16)
  , BitVec.ofNat 32 r.code, BitVec.ofNat 32 r.pass, BitVec.ofNat 32 (r.cycle % 2 ^ 12) ]

end Sys2Proof.Machine
end

