-- ==== Sys2Proof/Machine/View.lean ====
section
/-! DEFINITION. What a register reads as without any side effect: the computed registers (page header words, status
copies, log and ring heads) and the stored ones. -/

namespace Sys2Proof.Machine

/-! ### The page header (R27, R36, R584) -/

/-- PAGE_ID of page `p` (R27, R36). -/
def State.pageId (s : State) (p : Nat) : Nat :=
  match blockRow p with
  | none => 0xFF000000
  | some r =>
    r.typ * 2 ^ 24 + (if r.each then 0 else p - r.first) * 2 ^ 16 + 0x01 * 2 ^ 8
      + b2n (s.powered p) * 2 + b2n (s.powered p && !s.clockGated p)

/-- PAGE_CAPS of page `p` (R584). -/
def pageCaps (p : Nat) : Nat :=
  (faultSources p).length * 2 ^ 8 + b2n (hasCounterPair p) * 16 + b2n (!alwaysOn p) * 8
    + b2n (decide (3 ≤ domainOf p)) * 4 + b2n (!alwaysOn p) * 2 + b2n (shadowedPage p)

/-- SEM_GROUP of page `p` (R27). -/
def semGroup (p : Nat) : Nat :=
  match semOf p with
  | some n => 0x80 + n
  | none => 0

/-- Is page `p` inside a reset in progress: asserted, or a soft reset that is held (R29, R121, R425)? -/
def State.inReset (s : State) (p : Nat) : Bool :=
  s.flt.scopes.any (fun c => decide (c.phase = .asserted) &&
    (match c.what with
     | .block b => !alwaysOn p && decide (blockOf p = b)
     | .domain d => !alwaysOn p && decide (domainOf p = d)
     | .core _ => false))

/-- PAGE_STAT of page `p` (R27): no chapter defines block-specific status for it on silicon A1. DEDUCED, log 33. -/
def State.pageStat (s : State) (p : Nat) : Nat :=
  b2n (s.flag (SHADOW_CTRL_ARM p)) * 8 + b2n (s.flag (RESOURCE_OWN_CONFLICT p)) * 4 + b2n (s.inReset p) * 2
    + b2n (s.flag (PAGE_CTRL_EN p) && !s.gated p && !s.inReset p)

/-! ### Interrupt requests (R50 to R52) -/

/-- The pages that raise their interrupt request: INT_STAT and INT_EN share a bit. -/
def State.requesting (s : State) : List Nat :=
  (s.regs.filter (fun e => decide (e.1 < 0x100000 ∧ e.1 % 0x1000 = 0x10) &&
    decide (e.2 &&& s.word (e.1 + 4) ≠ 0))).map (fun e => e.1 / 0x1000)

/-- The pending vectors: those to which a requesting page is routed with HOST_EN (R51); VECTOR 0 raises none (R50). -/
def State.vectors (s : State) : List Nat :=
  (List.range 32).filter (fun v => decide (v ≠ 0) && s.requesting.any (fun p =>
    s.flag (MGP_ROUTE_HOST_EN p) && decide (s.get (MGP_ROUTE_VECTOR p) = v)))

/-- Is SB_ALERT# called for: a requesting page routed with SB_EN (R52)? -/
def State.sbWanted (s : State) : Bool := s.requesting.any (fun p => s.flag (MGP_ROUTE_SB_EN p))

/-- A list of bit numbers as a mask. -/
def maskOf (l : List Nat) : Nat := l.foldl (fun n k => if bitOf n k then n else n + 2 ^ k) 0

/-! ### Computed block registers -/

/-- Word `k` of an optional fault record; 0 when none is held. -/
def fltWord (r : Option FltRec) (k : Nat) : Word :=
  match r with
  | none => 0
  | some r => r.words.getD k 0

/-- The clusters whose line is not at 0b000: those with a message not yet recorded (R415). -/
def State.fltLines (s : State) : Nat :=
  maskOf (((s.flt.pend.map (fun e => clusterOf e.2.page)).filter (fun c => decide (c < 16))))

/-- The age of a reading taken at pass `at'`, in 10 ms units, saturating; 0xFFF before the first (R487, R387). -/
def State.ageOf (s : State) (at' : Option Nat) : Nat :=
  match at' with
  | none => 0xFFF
  | some t => min ((s.now - t) / 10000) 0xFFF

/-- Word `k` at the head of the management ring (R300); 0 when the ring is empty. -/
def State.ringWord (s : State) (k : Nat) : Word :=
  match s.mov.ring with
  | [] => 0
  | r :: _ => r.words.getD k 0

/-- The head of the Host Notify FIFO, as TWL_NOTIFY shows it (R486, R497). -/
def State.notifyWord (s : State) : Word :=
  match s.twl.notifies with
  | [] => 0
  | n :: _ => BitVec.ofNat 32 (n.1 % 128 + n.2 % 2 ^ 16 * 2 ^ 16)

/-- The head of the marked-islet list, as DSCR_MARK shows it (R538, R551). -/
def State.markWord (s : State) : Word :=
  match s.dscr.marks with
  | [] => 0
  | i :: _ => BitVec.ofNat 32 (i % 2 ^ 25 + 2 ^ 31)

/-- MODE of the service port: 0 run, 1 recovery, 2 start before run, 3 save, 4 BASIN (R503, R519). -/
def State.svcMode (s : State) : Nat :=
  if s.saving then 3
  else if s.rst.phase = .recovery then 1
  else if s.get PWR_STAT_STATE = 2 then 4
  else if s.rst.phase = .configured ∨ s.rst.phase = .trained ∨ s.rst.phase = .active then 0
  else 2

/-- The registers a block computes when they are read; `none` for a stored register. DEDUCED, log 28. -/
def State.computed (s : State) (a : Nat) : Option Word :=
  let p := a / 0x1000
  let o := a % 0x1000
  if o = 0x000 then some (BitVec.ofNat 32 (s.pageId p))
  else if o = 0x004 then some (BitVec.ofNat 32 (pageCaps p))
  else if o = 0x00C then some (BitVec.ofNat 32 (s.pageStat p))
  else if o = 0x028 then some (BitVec.ofNat 32 (semGroup p))
  else if p = 0x01 ∧ 0x0C0 ≤ o ∧ o < 0x0E0 then
    some (BitVec.ofNat 32 (maskOf ((List.range 32).filter (fun b =>
      implemented ((o - 0xC0) / 4 * 32 + b) && s.clockGated ((o - 0xC0) / 4 * 32 + b)))))
  else if a = 0xB040 then some (BitVec.ofNat 32 (maskOf s.vectors))
  else if p = 0x0B ∧ 0x050 ≤ o ∧ o < 0x070 then
    some (BitVec.ofNat 32 (maskOf ((s.requesting.filter (fun q => decide (q / 32 = (o - 0x50) / 4))).map (· % 32))))
  else if a = 0x9004C then some (BitVec.ofNat 32 s.fltLines)
  else if p = 0x92 ∧ 0x040 ≤ o ∧ o < 0x060 then some (fltWord s.flt.log.head? ((o - 0x40) / 4))
  else if a = 0x92064 then some (BitVec.ofNat 32 s.flt.log.length)
  else if p = 0x93 ∧ 0x040 ≤ o ∧ o < 0x060 then some (fltWord s.flt.first ((o - 0x40) / 4))
  else if p = 0x93 ∧ 0x080 ≤ o ∧ o < 0x0A0 then some (fltWord s.flt.fatal ((o - 0x80) / 4))
  else if p = 0xB7 ∧ 0x040 ≤ o ∧ o < 0x050 then some (s.ringWord ((o - 0x40) / 4))
  else if a = 0xB4048 then some (s.word 0xB4044)
  else if a = 0xB4084 then
    some ((Sparse.get (fun _ => 0) s.mov.pm (s.get MVG_PM_ADDR_WORD)).setWidth 32)
  else if a = 0xB7054 then some (BitVec.ofNat 32 s.mov.ring.length)
  else if a = 0x5C0C0 then some s.markWord
  else if a = 0x5C0C8 then some (BitVec.ofNat 32 s.dscr.marks.length)
  else if a = 0x98090 then some s.notifyWord
  else if a = 0x9C080 then some (putBits (s.word a) 4 3 s.svcMode)
  else if p = 0x98 ∧ 0x300 ≤ o ∧ o < 0x340 ∧ o % 4 = 0 then
    some (putBits (s.word a) 20 12 (s.ageOf (Sparse.get (fun _ => none) s.twl.goodAt ((o - 0x300) / 4))))
  else if a = 0x8808C then some (putBits (s.word a) 20 12 (s.ageOf s.strt.shareAt))
  else if 0xB0 ≤ p ∧ p < 0xB4 ∧ 0x140 ≤ o ∧ o < 0x150 ∧ o % 4 = 0 then some (Config.poisonPattern ((o - 0x140) / 4))
  else none

/-- Has each reader its own copy of register `a`? -/
def perReader (a : Nat) : Bool :=
  match rowOf a with
  | some r => r.perReader
  | none => false

/-- The fields of register `a` that a read returns: WO and RSV bits read 0 (R7). -/
def readMask (a : Nat) (w : Word) : Word :=
  match regRow a with
  | none => if isShadowAddr a then w else 0
  | some r => r.flds.foldl (fun x f => if f.acc = .wo then x else putBits x f.lo f.w (getBits w f.lo f.w)) 0

/-- What register `a` reads as for reader `p`, with no side effect of any kind (R445). -/
def State.peek (s : State) (p : Port) (a : Nat) : Word :=
  if ¬ implemented (a / 0x1000) then (if a % 0x1000 = 0 then 0xFF000000 else 0)
  else if s.gated (a / 0x1000) && decide (a % 0x1000 ≠ 0) then 0xFFFFFFFF
  else
    match s.computed a with
    | some w => w
    | none =>
      if 0x4100 ≤ a ∧ a < 0x4200 then
        BitVec.ofNat 32 (s.get ⟨0x4050 + 4 * ((a - 0x4100) / 4 / 16), 2 * ((a - 0x4100) / 4 % 16), 2⟩)
      else if perReader a then readMask a (s.word (perKey p a))
      else readMask a (s.word a)

end Sys2Proof.Machine
end

