-- ==== Sys2Proof/Machine/Flags.lean ====
section
/-! DEFINITION. What every block raises and nothing decides: interrupt causes with the messages and SB_ALERT# they
call for (R50 to R52), wakes (R526, R527), and the event recorder's records, repeats, snapshots and flushes
(R438 to R453). -/

namespace Sys2Proof.Machine

/-! ### Wakes (R526, R527) -/

/-- From which PWR states a wake of code `c` wakes (R526). -/
def wakesFrom (c : Nat) : List Nat :=
  if c = 1 then [1] else if c = 2 then [2] else if c = 3 then [1, 2] else if c = 4 then [1]
  else if c = 5 then [2] else if c = 6 then [2] else []

/-- The switch of the domains that BASIN turns off, every one but AON, ATOLL and STRAIT, is a domain change (R425, R528). -/
def State.switchScopes (s : State) : State :=
  { s with flt := { s.flt with scopes := s.flt.scopes ++ [3, 4, 5, 6, 7, 8].map (fun d => ⟨.domain d, 0, .settling, s.now, s.now⟩) } }

/-- A wake of code `c`: latched while an entry to a state that it wakes runs (R527), else it starts an exit from the states
it wakes (R526). From SAVE_DONE only a device reset ends the stay in BASIN (R521). DEDUCED, log 42. -/
def State.wake (s : State) (c : Nat) : State :=
  if s.flag PWR_STAT_ENTERING then
    if (s.pwr.entering.map (wakesFrom c).contains).getD false then
      { s.put PWR_STAT_WAKE_LATCHED 1 with pwr := { s.pwr with wakeCode := some c } }
    else s
  else if (wakesFrom c).contains (s.get PWR_STAT_STATE) && !s.flag PWR_STAT_EXITING && !s.save.ended then
    let t := { (s.put PWR_STAT_EXITING 1).put PWR_WAKE_SRC_CODE c with pwr := { s.pwr with since := s.now } }
    if s.get PWR_STAT_STATE = 2 then t.switchScopes else t
  else s

/-! ### Interrupt causes and messages -/

/-- Can the function send vector `v`'s message: link up, not fenced, MSI-X enabled, nothing masked (R51)? -/
def State.canSend (s : State) (v : Nat) : Bool :=
  s.hlk.linkUp && !s.hlk.fenced && s.mgp.msixEn && !s.mgp.fnMasked && !s.mgp.masked.contains v

/-- A vector that goes from not pending to pending sends one message, or has it held (R51). -/
def State.vectorUp (s : State) (v : Nat) : State :=
  if s.canSend v then s.send (.msix v) else { s with mgp := { s.mgp with held := insertNat s.mgp.held v } }

/-- Brings the messages and SB_ALERT# up to date with the requests now raised (R51, R52, R526 code 0x4). -/
def State.settle (s : State) : State :=
  let t := (s.vectors.filter (fun v => !s.mgp.was.contains v)).foldl State.vectorUp s
  let u := { t with mgp := { t.mgp with was := s.vectors, sbAlert := s.sbWanted } }
  let w := u.put TWS_STAT_ALERT (b2n s.sbWanted)
  if s.sbWanted && !s.mgp.sbAlert then w.wake 4 else w

/-- Sets INT_STAT bits of page `p` given as a mask. -/
def State.raiseMask (s : State) (p m : Nat) : State :=
  (s.put (INT_STAT_CAUSE p) ((BitVec.ofNat 32 (s.get (INT_STAT_CAUSE p)) ||| BitVec.ofNat 32 m).toNat)).settle

/-- Raises interrupt cause `b` of page `p` (R27). -/
def State.raiseInt (s : State) (p b : Nat) : State := s.raiseMask p (2 ^ b)

/-! ### The event recorder -/

/-- An event on its way into REC (R438): for TYPE 0x01 `ks` is the fault's KIND and SEV; `must` marks a FATAL record,
stored even in a freeze (R453). -/
structure RecEvent where
  typ : Nat
  block : Nat
  code : Nat
  ks : Nat
  co : Bool
  must : Bool
  detail : List Word
  deriving DecidableEq, Repr

/-- KIND and SEV of a fault record from its words W0 and W1 (R419), as the merge rule compares them (R443). -/
def ksOf (detail : List Word) : Nat :=
  getBits (detail.getD 0 0) 21 2 * 64 + getBits (detail.getD 1 0) 10 6

/-- Does a record of this TYPE, BLOCK and CODE match trigger `n` (R444)? -/
def State.trigMatches (s : State) (e : RecEvent) (n : Nat) : Bool :=
  s.cfgOn (REC_TRIG_EN n) && decide (s.cfg (REC_TRIG_TYPE n) = e.typ)
    && (s.cfgOn (REC_TRIG_ANY_BLOCK n) || decide (s.cfg (REC_TRIG_BLOCK n) = e.block))
    && (s.cfgOn (REC_TRIG_ANY_CODE n) || decide (s.cfg (REC_TRIG_CODE n) = e.code))

/-- The lowest trigger the event matches (R444). -/
def State.trigOf (s : State) (e : RecEvent) : Option Nat := (List.range 4).find? (fun n => s.trigMatches e n)

/-- The registers set `n` snapshots, in ascending order (R444, R445). -/
def State.snapshot (s : State) (n : Nat) : List Word :=
  ((List.range 16).filter (fun k => s.cfgOn (REC_SNAP_EN (16 * n + k)))).map
    (fun k => s.peek .glen (s.cfg (REC_SNAP_ADDR (16 * n + k))))

/-- May a snapshot be taken now (R446)? -/
def State.snapAllowed (s : State) : Bool := !s.saving && !s.flag FLT_SAFE_SAFE

/-- The record an event makes (R440 to R446). -/
def State.recordOf (s : State) (e : RecEvent) : RecRec :=
  let base : RecRec :=
    { rseq := s.recd.nextSeq % 2 ^ 32, typ := e.typ
      flags := b2n e.co + b2n s.recd.afterFreeze * 4 + b2n s.recd.afterLoss * 8
      block := e.block, nsnap := 0, set := 0, code := e.code, rep := 0, cycles := s.get REC_CYCLES_COUNT
      hours := s.recd.tenths, setGen := 0, pass := s.pass32, lastPass := s.pass32, lastAt := s.now
      detail := e.detail, snap := [], good := true }
  match s.trigOf e with
  | none => base
  | some n =>
    if s.cfgOn REC_CTRL_SNAP_EN then
      if s.snapAllowed then
        { base with nsnap := (s.snapshot n).length, set := n, snap := s.snapshot n
                    setGen := s.recd.setGen.getD n 0 }
      else { base with flags := base.flags + 2, set := n, setGen := s.recd.setGen.getD n 0 }
    else base

/-- Does the event merge into the newest record of the SRAM ring (R443)? -/
def State.merges (s : State) (e : RecEvent) : Bool :=
  match s.recd.ring.getLast? with
  | none => false
  | some r =>
    decide (r.typ = e.typ ∧ r.block = e.block ∧ r.code = e.code) &&
      (decide (e.typ ≠ 1) || decide (ksOf r.detail = e.ks)) &&
      decide (s.now ≤ r.lastAt + s.cfg REC_CFG_REPEAT_MS * 1000)

/-- Merges the event into the newest record (R443). -/
def State.mergeRecord (s : State) : State :=
  match s.recd.ring.getLast? with
  | none => s
  | some r =>
    { s.bump REC_REPEAT_COUNT with recd := { s.recd with ring := s.recd.ring.dropLast ++
        [{ r with rep := min (r.rep + 1) 0xFFFF, lastPass := s.pass32, lastAt := s.now }] } }

/-- Direct mode: REC does not own staging bank 15, or a save runs (R450). -/
def State.directMode (s : State) : Bool := decide (s.get (RES_ENTRY_OWNER 4) ≠ 0x94) || s.saving

/-- A flush of every unflushed record, or the extension of one that runs (R449, R450). -/
def State.flush (s : State) : State :=
  if s.recd.ring.isEmpty then s
  else
    let t := if s.recd.flushing then s else s.bump REC_FLUSH_CNT_COUNT
    { (t.put REC_STAT_FLUSHING 1).put REC_STAT_DIRECT (b2n s.directMode) with
        recd := { t.recd with flushing := true, flushTo := s.recd.nextSeq } }

/-- Appends a record to the SRAM ring (R441, R447, R449). -/
def State.appendRecord (s : State) (e : RecEvent) : State :=
  let r := s.recordOf e
  let t := { s with recd := { s.recd with
    ring := s.recd.ring ++ [r], nextSeq := s.recd.nextSeq + 1, afterFreeze := false, afterLoss := false
    lastRecordTenths := s.recd.tenths } }
  let u := (t.put REC_NEWEST_RSEQ r.rseq).put REC_STAT_UNFLUSHED t.recd.ring.length
  let v := if u.get REC_OLDEST_RSEQ = 0 then u.put REC_OLDEST_RSEQ r.rseq else u
  if u.recd.ring.length = 128 then
    let w := v.raiseInt 0x94 0
    if w.get PWR_STAT_STATE = 2 then w else w.flush
  else v

/-- An event that finds the SRAM ring full is refused (R447). -/
def State.refuseRecord (s : State) : State :=
  { s.bump REC_LOST_COUNT with recd := { s.recd with refused := s.recd.refused + 1, afterLoss := true } }.raiseInt 0x94 1

/-- REC's own note `n` (R438): a record of TYPE 0x04, stored without a merge. -/
def State.note (s : State) (n detail : Nat) : State :=
  if s.recd.ring.length < 256 then s.appendRecord ⟨4, 0x94, n, 0, false, false, [BitVec.ofNat 32 detail]⟩
  else s.refuseRecord

/-- Stores an event as a record; the first after refused ones is followed by a LOST note (R447). -/
def State.storeEvent (s : State) (e : RecEvent) : State :=
  if s.merges e then s.mergeRecord
  else if s.recd.ring.length < 256 then
    if s.recd.afterLoss then
      { s.appendRecord e with recd := { (s.appendRecord e).recd with refused := 0 } }.note 4 s.recd.refused
    else s.appendRecord e
  else s.refuseRecord

/-- A freeze ends: its note and its interrupt cause (R453). -/
def State.endFreeze (s : State) : State :=
  if s.recd.frozen then
    let t := { (s.put REC_STAT_FROZEN 0).put REC_STAT_STALLED 0 with
      recd := { s.recd with frozen := false, frozenEvents := 0, afterFreeze := true } }
    ((t.put REC_CTRL_FREEZE 0).note 3 s.recd.frozenEvents).raiseInt 0x94 2
  else s

/-- An event enters REC (R438, R443, R447, R453, R454). DEDUCED, log 49. -/
def State.recEvent (s : State) (e : RecEvent) : State :=
  if ¬ s.cfgOn REC_CTRL_EN then s.bump REC_FROZEN_CNT_COUNT
  else if s.recd.frozen then
    if e.must then s.endFreeze.storeEvent e
    else { s.bump REC_FROZEN_CNT_COUNT with recd := { s.recd with frozenEvents := s.recd.frozenEvents + 1 } }
  else s.storeEvent e

/-- The kinds of TYPE 0x02 events whose number no chapter assigns, in the model's own order (R438). -/
inductive EventKind where
  | semBroken | semFreed | budgetOverride | dramRead | isleFallback | lateMember | droppedWrite | capSuspect | horizon
  deriving DecidableEq, Repr

/-- The place of an event kind in `Config.eventCode`. DESIGN CHOICE, log 15. -/
def EventKind.index : EventKind → Nat
  | .semBroken => 0
  | .semFreed => 1
  | .budgetOverride => 2
  | .dramRead => 3
  | .isleFallback => 4
  | .lateMember => 5
  | .droppedWrite => 6
  | .capSuspect => 7
  | .horizon => 8

/-- A TYPE 0x02 event of a block, with its DETAIL words (R438). DESIGN CHOICE, log 15. -/
def State.event (s : State) (k : EventKind) (block : Nat) (detail : List Nat) : State :=
  s.recEvent ⟨2, block, (Config.eventCode k.index).toNat, 0, false, false, detail.map (BitVec.ofNat 32)⟩

end Sys2Proof.Machine
end

