-- ==== Sys2Proof/Machine/Layout.lean ====
section
/-! DEFINITION. Where every byte of the save array lies, and what it holds: members, skerries, codewords, stripes, bands,
superblock, journal, seals and checkpoints (chapter 7). The state keeps the array by what it holds (log 60); the
definitions of this file say how that content is written on the dies. -/

namespace Sys2Proof.Machine

/-! ### Members and skerries (R196 to R199) -/

/-- A page as it is programmed: four codewords, and 0xFF beyond 4 × 4,588 bytes (R196, R200). -/
def pageBytes (size : Nat) (cws : List (List (BitVec 8))) : List (BitVec 8) :=
  cws.flatten ++ List.replicate (size - 4 * 4588) 0xFF

/-- Does the controller accept a die of this shape (R196)? -/
def dieAccepted (planes mainArea page : Nat) : Bool :=
  decide ((planes = 2 ∨ planes = 4) ∧ mainArea = 16384 ∧ 18352 ≤ page)

/-- Plane, page and codeword of slot `s` in the member of row `r` (R197). -/
def memberSlot (planes r s : Nat) : Nat × Nat × Nat :=
  if planes = 4 then (s / 4, r, s % 4) else (s / 4 % 2, 2 * r + s / 8, s % 4)

/-- The die of skerry `k` on every channel (R198). -/
def skerryDie (dpc k : Nat) : Nat := k % dpc

/-- The block of skerry `k` on every plane (R198). -/
def skerryBlock (dpc k : Nat) : Nat := k / dpc

/-- The block that serves column `c` of skerry `k`: its substitute where one is recorded, on the same die and channel
(R199). -/
def columnBlock (subst : List (Nat × Nat × Nat)) (dpc k c : Nat) : Nat :=
  match subst.find? (fun e => e.1 == k && e.2.1 == c) with
  | some e => e.2.2
  | none => skerryBlock dpc k

/-! ### The LDPC code (R201) -/

/-- The row that information column `j` meets with its `t`th circulant (R201). -/
def ldpcRow (j t : Nat) : Nat := (j + 29 * t) % 115

/-- The shift of that circulant (R201). -/
def ldpcShift (j t : Nat) : Nat := (7 * j * (t + 1) + t) % 32

/-- What information column `j` adds to the checks of row `r`: bit `x` meets check (x + s) mod 32 (R201). -/
def ldpcColumn (info : Nat → BitVec 32) (r j : Nat) : BitVec 32 :=
  (List.range 4).foldl (fun a t => if ldpcRow j t = r then a ^^^ (info j).rotateLeft (ldpcShift j t) else a) 0

/-- What the 1,032 information columns add to the checks of row `r` (R201). -/
def ldpcSum (info : Nat → BitVec 32) (r : Nat) : BitVec 32 :=
  (List.range 1032).foldl (fun a j => a ^^^ ldpcColumn info r j) 0

/-- Parity column 1,032 + `i`: the running accumulation over rows 0 to `i` (R201). -/
def ldpcParity (info : Nat → BitVec 32) : Nat → BitVec 32
  | 0 => ldpcSum info 0
  | i + 1 => ldpcParity info i ^^^ ldpcSum info (i + 1)

/-- The codeword of the information columns: column `j` of 1,147 (R201). -/
def ldpcEncode (info : Nat → BitVec 32) (j : Nat) : BitVec 32 := if j < 1032 then info j else ldpcParity info (j - 1032)

/-- The 32 checks of base row `r` over a codeword: row 0 meets parity column 1,032, and row `r` meets 1,032 + r − 1 and
1,032 + r (R201). -/
def ldpcCheck (word : Nat → BitVec 32) (r : Nat) : BitVec 32 :=
  ldpcSum word r ^^^ (if r = 0 then 0 else word (1031 + r)) ^^^ word (1032 + r)

/-- Base column `j` of a codeword's bytes: bit `b` is bit b mod 8 of byte b / 8 (R201). -/
def ldpcColumnOf (bytes : List (BitVec 8)) (j : Nat) : BitVec 32 := BitVec.ofNat 32 (leNat ((bytes.drop (4 * j)).take 4))

/-! ### Codewords and tags (R200, R202, R203) -/

/-- What a codeword is (R202). -/
inductive CwKind where
  | data | parity | pad | superblock | skerryHeader | journal | sealRec | generation | checkpoint | unsavedMap | journalPad
  | erased
  deriving DecidableEq, Repr

/-- KIND of a tag (R202). -/
def CwKind.code : CwKind → Nat
  | .data => 0x01
  | .parity => 0x02
  | .pad => 0x03
  | .superblock => 0x10
  | .skerryHeader => 0x11
  | .journal => 0x12
  | .sealRec => 0x13
  | .generation => 0x14
  | .checkpoint => 0x15
  | .unsavedMap => 0x16
  | .journalPad => 0x1F
  | .erased => 0xFF

/-- The fields of a tag but for KIND and CRC (R202). -/
structure CwTag where
  kind : CwKind
  slot : Nat
  prov : Bool
  slc : Bool
  reloc : Bool
  save : Bool
  mirror : Bool
  col : Nat
  islet : Nat
  seq : Nat
  skerry : Nat
  groupTag : Nat
  deriving DecidableEq, Repr

/-- FLAGS of a tag (R202). -/
def CwTag.flags (t : CwTag) : Nat := b2n t.prov + 2 * b2n t.slc + 4 * b2n t.reloc + 8 * b2n t.save + 16 * b2n t.mirror

/-- Tag bytes 0x00 to 0x1B (R202). -/
def CwTag.head (t : CwTag) : List (BitVec 8) :=
  leBytes 1 t.kind.code ++ leBytes 1 t.slot ++ leBytes 1 t.flags ++ leBytes 1 t.col ++ leBytes 4 t.islet ++ leBytes 6 t.seq
    ++ leBytes 2 t.skerry ++ leBytes 4 t.groupTag ++ leBytes 8 0

/-- The tag of a data cell: codeword `k` of an islet in stripe column `col`, with its read-start epoch (R202). -/
def CwTag.ofData (l : Loc64) (reloc save : Bool) (islet k rd groupTag : Nat) : CwTag :=
  ⟨.data, k, l.prov, l.slc, reloc, save, false, l.col, islet, rd, l.skerry, groupTag⟩

/-- The tag of the parity cell of slot `c`: COL 0x0F, ISLET and RD_EPOCH 0 (R202). -/
def CwTag.ofParity (c : Nat) (slc : Bool) (skerry groupTag : Nat) : CwTag :=
  ⟨.parity, c, false, slc, false, false, false, 0x0F, 0, 0, skerry, groupTag⟩

/-- The tag of a pad cell (R202). -/
def CwTag.ofPad (slc : Bool) (skerry groupTag : Nat) : CwTag :=
  ⟨.pad, 0, false, slc, false, false, false, 0x0F, 0, 0, skerry, groupTag⟩

/-- The tag of a metadata codeword: SLOT, COL and ISLET 0, SEQ48 its WSEQ (R202). -/
def CwTag.ofMeta (kind : CwKind) (mirror : Bool) (wseq skerry groupTag : Nat) : CwTag :=
  ⟨kind, 0, false, true, false, false, mirror, 0, 0, wseq, skerry, groupTag⟩

/-- The 32 bytes of a tag: its CRC covers the data field as stored and tag bytes 0x00 to 0x1B (R202). -/
def CwTag.bytes (t : CwTag) (stored : List (BitVec 8)) : List (BitVec 8) :=
  t.head ++ leBytes 4 (crc32c (stored ++ t.head)).toNat

/-- The 4,588 bytes of a codeword: 4,096 of data field, 32 of tag, 460 of LDPC parity (R200, R201). -/
def codewordBytes (t : CwTag) (stored : List (BitVec 8)) : List (BitVec 8) :=
  let info := stored ++ t.bytes stored
  info ++ (List.range 115).flatMap (fun i => leBytes 4 (ldpcParity (ldpcColumnOf info) i).toNat)

/-- What the tag of a decoded codeword shows: whether its CRC matches, and its KIND, SKERRY and GROUP_TAG (R203). -/
def tagSeen (b : List (BitVec 8)) : TagSeen :=
  ⟨decide (leNat ((b.drop 4124).take 4) = (crc32c (b.take 4124)).toNat), leNat ((b.drop 4096).take 1), leNat ((b.drop 4110).take 2),
    leNat ((b.drop 4112).take 4)⟩

/-- A decoded codeword is good: its CRC matches, and KIND, SKERRY and GROUP_TAG are those its position calls for; all others
are erasures (R203). -/
def codewordGood (decoded : Option TagSeen) (kinds : List CwKind) (skerry groupTag : Nat) : Bool :=
  match decoded with
  | none => false
  | some t => t.crc && kinds.any (fun k => decide (k.code = t.kind)) && decide (t.skerry = skerry ∧ t.groupTag = groupTag)

/-- The kinds that a position calls for: band by its code, whether the cell is its slot's parity, journal position (R203, R204, R214,
R217). -/
def kindsAt (band slot col pos : Nat) : List CwKind :=
  if band = 5 then [.superblock]
  else if band = 1 then
    if pos = 0 then [.skerryHeader] else [.journal, .sealRec, .generation, .checkpoint, .unsavedMap, .journalPad]
  else if slot = col then [.parity] else [.data, .pad]

/-! ### Stripes (R204 to R207) -/

/-- What cell (c, d) of a stripe holds: parity, or codeword `d` of the islet in stripe column `j` (R204). -/
inductive Cell where
  | parity
  | codeword (j k : Nat)
  deriving DecidableEq, Repr

/-- The cell of slot `c` on column `d` (R204). -/
def cellAt (c d : Nat) : Cell := if d = c then .parity else .codeword ((d + 31 - c) % 16) d

/-- The slot where codeword `k` of the islet in stripe column `j` lies, on column `k` (R204). -/
def stripeSlot (j k : Nat) : Nat := (k + 31 - j) % 16

/-- The data byte of the parity cell of slot `c`: the XOR of that byte of the 15 other cells (R205). -/
def parityByte (cell : Nat → BitVec 8) (c : Nat) : BitVec 8 :=
  ((List.range 16).filter (fun d => decide (d ≠ c))).foldl (fun a d => a ^^^ cell d) 0

/-- A lost cell of a slot is rebuilt from the 15 others (R205). -/
def rebuildByte (cell : Nat → BitVec 8) (lost : Nat) : BitVec 8 := parityByte cell lost

/-! ### The tweak (R208) -/

/-- The tweak of a data cell: islet, codeword index and read-start epoch (R208). -/
def dataTweak (islet k rd : Nat) : List (BitVec 8) :=
  leBytes 4 islet ++ leBytes 1 k ++ leBytes 6 rd ++ leBytes 4 0 ++ leBytes 1 0x00

/-- The tweak of a metadata codeword: its WSEQ (R208). -/
def metaTweak (wseq : Nat) : List (BitVec 8) := leBytes 6 wseq ++ leBytes 9 0 ++ leBytes 1 0x80

/-- The 4,096 bytes of a data unit as 64 lines. -/
def unitLine (b : List (BitVec 8)) (n : Nat) : LineData := BitVec.ofNat 512 (leNat ((b.drop (64 * n)).take 64))

/-- A data field as it is stored: AES-256-XTS ciphertext of its 4,096 bytes under a tweak (R208). -/
def encryptUnit (key tweak : Nat) (b : List (BitVec 8)) : List (BitVec 8) :=
  (List.range 64).flatMap (fun n => leBytes 64 (Config.xtsEncrypt key tweak n (unitLine b n)).toNat)

/-! ### Bands (R212 to R214) -/

/-- The band of a skerry (R212, R221). -/
inductive Band where
  | anchor | journal | slcReserve | image | spare | retired
  deriving DecidableEq, Repr

/-- The code of a band in a BAND entry; the anchor band is fixed and has none (R212, R221). -/
def Band.code : Band → Option Nat
  | .anchor => none
  | .spare => some 0
  | .journal => some 1
  | .slcReserve => some 2
  | .image => some 3
  | .retired => some 4

/-- The two anchor blocks of a channel: the lowest numbers from 0 to 7 that are not factory-bad on any plane of die 0; none
where there are not two (R214). -/
def anchorBlocks (bad : Nat → Bool) : Option (Nat × Nat) :=
  match (List.range 8).filter (fun b => !bad b) with
  | a :: b :: _ => some (a, b)
  | _ => none

/-! ### The superblock (R215, R216) -/

/-- MAGIC: "ZELANSB1" (R215). -/
def superblockMagic : List (BitVec 8) := [0x5A, 0x45, 0x4C, 0x41, 0x4E, 0x53, 0x42, 0x31]

/-- Bytes padded with zeros to `n`. -/
def padTo (n : Nat) (l : List (BitVec 8)) : List (BitVec 8) := (l ++ List.replicate n 0).take n

/-- Superblock bytes 0x000 to 0xFFB; those the table does not list are 0 (R215). -/
def Superblock.body (b : Superblock) : List (BitVec 8) :=
  padTo 0xFFC (padTo 0x100
    (superblockMagic ++ leBytes 2 0x0100 ++ leBytes 2 0 ++ leBytes 4 b.sbSeq ++ leBytes 4 b.groupTag ++ leBytes 4 b.keyId
      ++ leBytes 1 b.keySlot ++ leBytes 1 b.devNo ++ leBytes 2 b.groupSize ++ leBytes 4 b.isletSlots
      ++ leBytes 4 b.hostIslets ++ leBytes 1 16 ++ leBytes 1 b.dpc ++ leBytes 2 b.planes ++ leBytes 2 b.ppbTlc
      ++ leBytes 2 b.ppbSlc ++ leBytes 4 b.bpp ++ leBytes 8 b.dieId
      ++ padTo 8 (b.bands.flatMap (leBytes 2)) ++ leBytes 32 b.failedDies ++ leBytes 8 b.genNew ++ leBytes 8 b.genOld
      ++ leBytes 2 b.jring.length ++ leBytes 2 0 ++ padTo 128 (b.jring.flatMap (leBytes 2)) ++ leBytes 2 b.jsub.length)
    ++ b.jsub.flatMap (leBytes 8))

/-- The 4,096 bytes of a superblock (R215). -/
def Superblock.bytes (b : Superblock) : List (BitVec 8) := b.body ++ leBytes 4 (crc32c b.body).toNat

/-- Is a good superblock codeword's data field a valid version (R216)? -/
def superblockValid (d : List (BitVec 8)) : Bool :=
  decide (d.take 8 = superblockMagic ∧ leNat ((d.drop 8).take 2) = 0x0100
    ∧ leNat ((d.drop 0xFFC).take 4) = (crc32c (d.take 0xFFC)).toNat)

/-- SB_SEQ of a superblock's data field (R215). -/
def superblockSeq (d : List (BitVec 8)) : Nat := leNat ((d.drop 0x0C).take 4)

/-- The version image detection takes from the channels' versions; `none` when there is none or the newest differ (R216). -/
def newestSuperblock (ds : List (List (BitVec 8))) : Option (List (BitVec 8)) :=
  let ok := ds.filter superblockValid
  let top := ok.foldl (fun a d => max a (superblockSeq d)) 0
  match ok.filter (fun d => superblockSeq d == top) with
  | [] => none
  | d :: t => if t.all (fun e => e == d) then some d else none

/-! ### The journal band (R217 to R221) -/

/-- The skerry header of a journal skerry (R217). -/
def skerryHeader (skerry firstWseq sbSeq : Nat) : List (BitVec 8) :=
  padTo 4096 (leBytes 2 skerry ++ leBytes 6 0 ++ leBytes 6 firstWseq ++ leBytes 2 0 ++ leBytes 4 sbSeq)

/-- WSEQ of position `p` of a journal skerry (R217). -/
def wseqAt (firstWseq p : Nat) : Nat := firstWseq + p - 1

/-- Row, slot and the two columns of journal position `p` (R218). -/
def journalPlace (p : Nat) : Nat × Nat × Nat × Nat :=
  let u := p % 128
  (p / 128, u / 32 * 4 + u % 4, u / 4 % 8, u / 4 % 8 + 8)

/-- Row and slot of page `page`, codeword `i` of a plane: the inverse of `memberSlot` (R197). -/
def rowSlot (planes plane page i : Nat) : Nat × Nat :=
  if planes = 4 then (page, plane * 4 + i) else (page / 2, page % 2 * 8 + plane * 4 + i)

/-- The journal position of a row, slot and column: the inverse of `journalPlace` (R218). -/
def journalPos (row slot col : Nat) : Nat := row * 128 + slot / 4 * 32 + col % 8 * 4 + slot % 4

/-- A journal codeword reads back whole when at least one copy is good (R219). -/
def readsWhole (a b : Bool) : Bool := a || b

/-- A seal counts as programmed when both copies have read back good; else it is written again (R219). -/
def sealCounts (a b : Bool) : Bool := a && b

/-- The 64 bits of a location; for any KIND but 0b010, COL, ROW, SKERRY and SLC are 0 (R221). -/
def Loc64.word (l : Loc64) : BitVec 64 :=
  let d := decide (l.kind = 2)
  BitVec.ofNat 64 (l.kind % 8 + b2n l.prov * 2 ^ 3 + b2n (l.slc && d) * 2 ^ 4
    + (if l.kind = 2 then l.col % 16 * 2 ^ 5 + l.row % 4096 * 2 ^ 9 + l.skerry % 65536 * 2 ^ 21 else 0)
    + l.ep27 % 2 ^ 27 * 2 ^ 37)

/-- The AUX value of a BAND entry (R221, R226). -/
def bandAux (dest eraseCount : Nat) : Nat := dest % 16 + eraseCount % 2 ^ 24 * 2 ^ 8

/-- The AUX value of a SUBST entry: the skerry number only in the superblock (R215, R221). -/
def substAux (col block skerry : Nat) : Nat := col % 16 + block % 65536 * 2 ^ 4 + skerry % 65536 * 2 ^ 20

/-- LOC or AUX, ISLET, ETYPE and ESUB of an entry (R221). -/
def JEntry.parts : JEntry → Nat × Nat × Nat × Nat
  | .copy i l => (l.word.toNat, i, 1, 0)
  | .reloc i l => (l.word.toNat, i, 2, 0)
  | .poison i k m => (m.toNat, i, 3, k)
  | .band s b e => (bandAux b e, s, 4, 0)
  | .subst s c b => (substAux c b 0, s, 5, 0)
  | .redirect s c ch d b r sr =>
    (c % 16 + ch % 16 * 2 ^ 4 + d % 16 * 2 ^ 8 + b % 65536 * 2 ^ 12 + r % 4096 * 2 ^ 28 + sr % 4096 * 2 ^ 40, s, 6, 0)
  | .dieFail d c => (0, 16 * d + c, 7, 0)

/-- The 16 bytes of an entry (R221). -/
def JEntry.bytes (e : JEntry) : List (BitVec 8) :=
  leBytes 8 e.parts.1 ++ leBytes 4 e.parts.2.1 ++ leBytes 1 e.parts.2.2.1 ++ leBytes 1 e.parts.2.2.2 ++ leBytes 2 0

/-- The data field of a journal codeword: its header and up to 255 entries, the rest zero (R220). -/
def journalBytes (epoch seqInEpoch : Nat) (es : List JEntry) : List (BitVec 8) :=
  padTo 4096 (leBytes 8 epoch ++ leBytes 2 es.length ++ leBytes 2 seqInEpoch ++ leBytes 4 0 ++ es.flatMap JEntry.bytes)

/-! ### Seals (R222 to R224) -/

/-- Seal bytes 0x000 to 0x037 (R222). -/
def SealHead.bytes (h : SealHead) : List (BitVec 8) :=
  leBytes 8 h.epoch ++ leBytes 2 h.jcw ++ leBytes 1 h.sealType ++ leBytes 1 (b2n h.void.isSome) ++ leBytes 4 h.chain
    ++ leBytes 8 h.prevSealed ++ leBytes 8 ((h.void.map (·.1)).getD 0) ++ leBytes 8 ((h.void.map (·.2)).getD 0)
    ++ leBytes 8 h.groupSealed ++ leBytes 8 h.hours

/-- The last byte of OUTCOME, as SAVE_END carries it (R222, R384). -/
def SaveSeal.outcome (x : SaveSeal) : Nat :=
  x.cause % 8 + b2n x.short * 8 + x.cutCause % 8 * 16 + b2n x.peerLost * 128

/-- Seal bytes 0x080 to 0x0B3 of a save seal (R222). -/
def SaveSeal.tailBytes (x : SaveSeal) (umapWseq umapCw : Nat) : List (BitVec 8) :=
  leBytes 4 x.cutNo ++ leBytes 4 x.cutTag ++ leBytes 1 x.outcome ++ leBytes 1 x.heard ++ leBytes 2 x.failedCh
    ++ leBytes 4 x.written ++ leBytes 4 x.zeros ++ leBytes 4 x.unsaved.length ++ leBytes 8 umapWseq ++ leBytes 4 umapCw
    ++ leBytes 4 x.eT0 ++ leBytes 4 x.startUs ++ leBytes 4 x.dataUs ++ leBytes 4 x.doneUs

/-- The data field of an epoch or format seal (`none`) or of a save seal (R222). -/
def sealBytes (h : SealHead) (save : Option (SaveSeal × Nat × Nat)) : List (BitVec 8) :=
  padTo 4096 (padTo 0x80 h.bytes ++
    match save with
    | some (x, w, n) => x.tailBytes w n
    | none => [])

/-- CHAIN of a seal: over the previous CHAIN and the epoch's journal codewords; 0 before the format seal (R222). -/
def chainOf (prev : Nat) (cws : List (List (BitVec 8))) : Nat := (crc32c (leBytes 4 prev ++ cws.flatten)).toNat

/-- Is a seal that reads back whole a whole seal after the preceding one (R223)? -/
def sealWhole (prev h : SealHead) (cws : List (List (BitVec 8))) : Bool :=
  decide (h.prevSealed < h.epoch ∧ h.prevSealed = prev.epoch ∧ h.chain = chainOf prev.chain cws)

/-- The highest sealed epoch H over the seals in WSEQ order: the first that is not whole ends it (R159, R223). -/
def highestSealed (prev : SealHead) : List (SealHead × List (List (BitVec 8))) → Nat
  | [] => prev.epoch
  | (h, cws) :: t => if sealWhole prev h cws then highestSealed h t else prev.epoch

/-- Codewords of the unsaved map (R224). -/
def unsavedCw (hostIslets : Nat) : Nat := ceilDiv hostIslets 32768

/-- Byte `b` of the unsaved map: bit i set when islet 8b + i is unsaved, bits beyond HOST_ISLETS 0 (R224). -/
def unsavedByte (hostIslets : Nat) (unsaved : List Nat) (b : Nat) : BitVec 8 :=
  BitVec.ofNat 8 ((List.range 8).foldl
    (fun a i => if 8 * b + i < hostIslets ∧ (8 * b + i) ∈ unsaved then a + 2 ^ i else a) 0)

/-! ### Generations, replay and erasure (R226 to R230) -/

/-- The checkpoint stream: locations, skerry entries, substitutions with their end mark, and zeros to the codeword's end
(R226). -/
def checkpointBytes (locs : List Loc64) (skerries : List (Nat × Nat)) (subst : List (Nat × Nat × Nat)) : List (BitVec 8) :=
  let b := locs.flatMap (fun l => leBytes 8 l.word.toNat) ++ skerries.flatMap (fun e => leBytes 4 (bandAux e.1 e.2))
    ++ subst.flatMap (fun e => leBytes 4 e.1 ++ leBytes 8 (substAux e.2.1 e.2.2 0)) ++ List.replicate 12 0xFF
  padTo (ceilDiv b.length 4096 * 4096) b

/-- The data field of a generation record (R227). -/
def generationBytes (genNo cg ckptWseq ckptCw ckptCrc jrnWseq isletSlots skerries : Nat) : List (BitVec 8) :=
  padTo 4096 (leBytes 8 genNo ++ leBytes 8 cg ++ leBytes 8 ckptWseq ++ leBytes 4 ckptCw ++ leBytes 4 ckptCrc
    ++ leBytes 8 jrnWseq ++ leBytes 4 isletSlots ++ leBytes 4 skerries)

/-- A generation validates when everything of it reads back whole and CKPT_CRC recomputes (R227). -/
def generationValid (recordWhole allWhole : Bool) (stream : List (BitVec 8)) (ckptCrc : Nat) : Bool :=
  recordWhole && allWhole && decide ((crc32c stream).toNat = ckptCrc)

/-- May a journal skerry be erased: every WSEQ in it below the older generation's CKPT_WSEQ and JRN_WSEQ (R228)? -/
def journalErasable (wseqs : List Nat) (ckptWseq jrnWseq : Nat) : Bool :=
  wseqs.all (fun w => decide (w < ckptWseq ∧ w < jrnWseq))

/-- Is data epoch `a` newer than `b`, compared modulo 2^27 (R229)? DEDUCED, log 50. -/
def epNewer (a b : Nat) : Bool :=
  let d := (a % 2 ^ 27 + 2 ^ 27 - b % 2 ^ 27) % 2 ^ 27
  decide (0 < d ∧ d < 2 ^ 26)

/-- Does an entry replace an islet's held location; `held` says whether a RELOC entry gave it, and `source` whether it names
the skerry, row and column that the fold read (R229)? -/
def entryReplaces (reloc : Bool) (new held : Loc64) (heldReloc source : Bool) : Bool :=
  epNewer new.ep27 held.ep27
    || (decide (new.ep27 % 2 ^ 27 = held.ep27 % 2 ^ 27) && (!reloc || heldReloc || source))

/-- May a skerry be erased: all its copies superseded, dropped or relocated, those entries sealed, the group rule met, and
the older generation not in need of it (R189, R230)? -/
def skerryErasable (noneLive entriesSealed groupAllows olderNeeds : Bool) : Bool :=
  noneLive && entriesSealed && groupAllows && !olderNeeds

/-! ### The configuration store (R516) -/

/-- The header and body of a record of the configuration store, its CRC over bytes 0x00 to 0x0B and the body, padded to whole code
words of 32 bytes (R516). -/
def configRecord (cfgVer kind seq : Nat) (migrated : Bool) (body : List (BitVec 8)) : List (BitVec 8) :=
  let head := leBytes 2 cfgVer ++ leBytes 2 kind ++ leBytes 2 body.length ++ leBytes 2 (b2n migrated) ++ leBytes 4 seq
  padTo ((16 + body.length + 31) / 32 * 32) (head ++ leBytes 4 (crc32c (head ++ body)).toNat ++ body)

end Sys2Proof.Machine
end

