-- ==== Sys2Proof/Machine/Zelan.lean ====
section
/-! DEFINITION. The line code of the DRAM controllers (R318 to R322): the Reed-Solomon code RS(80,64) with its check symbols, the
poison pattern, where each symbol travels on the DRAM's pins, and what the decoder can correct. -/

namespace Sys2Proof.Machine

/-! ### The field and the code (R319) -/

/-- Multiplication by α = 0x02 in GF(2^8) with x^8 + x^4 + x^3 + x^2 + 1 (R319). -/
def gfDouble (a : BitVec 8) : BitVec 8 := if a.getLsbD 7 then (a <<< 1) ^^^ 0x1D else a <<< 1

/-- `a` times the polynomial of the low `n` bits of `b`. -/
def gfMulTo (a b : BitVec 8) : Nat → BitVec 8
  | 0 => 0
  | n + 1 => gfMulTo (gfDouble a) (b >>> 1) n ^^^ (if b.getLsbD 0 then a else 0)

/-- The product in GF(2^8) (R319). -/
def gfMul (a b : BitVec 8) : BitVec 8 := gfMulTo a b 8

/-- α to the power `i` (R319). -/
def alphaPow : Nat → BitVec 8
  | 0 => 1
  | i + 1 => gfDouble (alphaPow i)

/-- A polynomial, lowest coefficient first, times (x − r). -/
def timesRoot (r : BitVec 8) (p : List (BitVec 8)) : List (BitVec 8) :=
  List.zipWith (· ^^^ ·) (0 :: p) (p.map (gfMul r) ++ [0])

/-- The generator g(x) = ∏ (x − α^i) for i = 0 to 15, lowest coefficient first (R319). -/
def generatorPoly : List (BitVec 8) := (List.range 16).foldl (fun p i => timesRoot (alphaPow i) p) [1]

/-- One data symbol enters the division by g(x): the remainder's 16 coefficients, lowest first. -/
def divideStep (g rem : List (BitVec 8)) (sym : BitVec 8) : List (BitVec 8) :=
  let q := sym ^^^ rem.getLastD 0
  List.zipWith (· ^^^ ·) (0 :: rem.dropLast) (g.map (gfMul q))

/-- The 16 check coefficients of 64 data bytes: d(x) · x^16 mod g(x), with line byte b the coefficient 16 + b (R319). -/
def checkSymbols (bytes : List (BitVec 8)) : List (BitVec 8) :=
  let g := generatorPoly.take 16
  bytes.reverse.foldl (divideStep g) (List.replicate 16 0)

/-- The 64 bytes of a line, byte 0 first. -/
def lineBytes (d : LineData) : List (BitVec 8) := (List.range 64).map (fun b => d.extractLsb' (8 * b) 8)

/-- The fixed poison pattern on check symbol `j` (R321). -/
def poisonSymbol (j : Nat) : BitVec 8 := (Config.poisonPattern (j / 4)).extractLsb' (8 * (j % 4)) 8

/-- The 80 symbols a line is stored as: line byte b is symbol b, check coefficient j is symbol 64 + j, and a poisoned line has its check
symbols XORed with the poison pattern (R318, R319, R321). -/
def Line.symbols (l : Line) : List (BitVec 8) :=
  let c := checkSymbols (lineBytes l.data)
  lineBytes l.data ++ (if l.poison then List.zipWith (· ^^^ ·) c ((List.range 16).map poisonSymbol) else c)

/-! ### The pins (R318) -/

/-- The device that carries symbol `s`: 0 to 7 data, 8 and 9 check symbols (R318, R319). -/
def symbolDevice (s : Nat) : Nat := s / 8

/-- The symbol of which DQ `q` carries a bit at beat `t` of a burst, and that bit's place in it (R318). -/
def pinBit (q t : Nat) : Nat × Nat := (8 * (q / 4) + t / 2, 4 * (t % 2) + q % 4)

/-- What the 40 DQ of a subchannel carry at beat `t` of the burst of a line (R318). -/
def Line.beat (l : Line) (t : Nat) : List Bool :=
  (List.range 40).map (fun q => (l.symbols.getD (pinBit q t).1 0).getLsbD (pinBit q t).2)

/-! ### What the decoder corrects (R320, R322) -/

/-- Can the decoder correct errors in the symbols `syms`, with one device's 8 symbols treated as erasures where one is marked: 8
symbols at most, and beside an erased device 4 (R320, R322)? -/
def correctable (erased : Option Nat) (syms : List Nat) : Bool :=
  match erased with
  | none => decide (syms.length ≤ 8)
  | some k => decide ((syms.filter (fun x => decide (symbolDevice x ≠ k))).length ≤ 4)

/-- The device on which all the symbols lie, if there is one (R320). -/
def oneDevice (syms : List Nat) : Option Nat :=
  match syms with
  | [] => none
  | x :: l => if l.all (fun y => decide (symbolDevice y = symbolDevice x)) then some (symbolDevice x) else none

end Sys2Proof.Machine
end

