-- ==== Sys2Proof/Machine/Dram.lean ====
section
/-! DEFINITION. A line access as the DRAM controllers carry it out: the address map (R303, R304), the bank queues and the pick of a
command slot (R305 to R308), the row it opens and the counters (R309, R332), partial writes (R313), and what a read of a poisoned or uncorrectable line records
(R323, R334). -/

namespace Sys2Proof.Machine

/-! ### The address map (R304) -/

/-- log2 of the logical ranks: the stack height's code, and one more for a second physical rank. -/
def ModuleCfg.lrb (m : ModuleCfg) : Nat := m.height + b2n m.rank2

/-- Does the controller support the module's DRAM: the density codes of DRC_CFG, 2 to 16 logical ranks, and the total they make (R301,
R302)? -/
def ModuleCfg.dramSupported (m : ModuleCfg) : Bool :=
  decide (m.density ≤ 2 ∧ m.rate ≤ 4 ∧ m.height ≤ 3 ∧ 1 ≤ m.lrb ∧ m.lrb ≤ 4 ∧ m.dramGiB = 4 * 8 * (2 + m.density) * 2 ^ m.lrb)
    && [256, 384, 512, 768, 1024, 1536, 2048].contains m.dramGiB

/-- Where a line lies: subchannel, line within the row, bank group, bank, logical rank, row. -/
structure DramLoc where
  sc : Nat
  col : Nat
  bg : Nat
  ba : Nat
  lrank : Nat
  row : Nat
  deriving DecidableEq, Repr

/-- The map of R304, from a line number (the DRAM address divided by 64). -/
def dramLoc (lrb line : Nat) : DramLoc :=
  let a := line * 64
  let row := a / 2 ^ (20 + lrb)
  { sc := a / 64 % 4
    col := a / 256 % 128
    bg := Nat.xor (a / 2 ^ 15 % 8) (row % 8)
    ba := Nat.xor (a / 2 ^ 18 % 4) (row / 8 % 4)
    lrank := a / 2 ^ 20 % 2 ^ lrb
    row := row }

/-- One number for a bank of a logical rank of a subchannel. -/
def DramLoc.bank (l : DramLoc) : Nat := ((l.sc * 16 + l.lrank) * 8 + l.bg) * 4 + l.ba

/-- The DRC of a line: 0 for subchannels 0 and 1, 1 for 2 and 3. -/
def drcOf (line : Nat) : Nat := line % 4 / 2

/-- The DSC page index of a line. -/
def dscOf (line : Nat) : Nat := line % 4

/-! ### The pick of a command slot (R306 to R308) -/

/-- The order of classes at a command slot: demand restore, host service, then the background classes (R306). -/
def DramClass.rank : DramClass → Nat
  | .demand => 0
  | .host => 1
  | .share _ => 2
  | .free => 2

/-- A command of a command slot: refresh a logical rank, serve a queued request whose row is open, or open the row of one. -/
inductive SlotCmd where
  | refresh (lrank : Nat)
  | serve (r : DramReq)
  | activate (r : DramReq)
  deriving DecidableEq, Repr

/-- A request in the view of the pick: it and where its line lies. -/
abbrev Queued := DramReq × DramLoc

/-- The requests of a queue that their banks have taken: the first 8 of every bank, oldest first; those beyond are still offered (R305). -/
def takenOf (q : List Queued) : List Queued :=
  q.foldl (fun l e => if (l.filter (fun f => decide (f.2.bank = e.2.bank))).length < 8 then l ++ [e] else l) []

/-- The first request of the highest class in a list, oldest first (R306). -/
def bestOf (l : List Queued) : Option Queued :=
  [0, 1, 2].findSome? (fun k => l.find? (fun e => decide (e.1.cls.rank = k)))

/-- Has a request of the bank been passed over 16 times (R307)? -/
def starvedIn (q : List Queued) (bank : Nat) : Option Queued := q.find? (fun e => decide (e.2.bank = bank ∧ 16 ≤ e.1.passed))

/-- Step 2: a queued request whose row is open, unless a starved request of its bank waits for another row (R306, R307). -/
def pickHit (isOpen : DramLoc → Bool) (q l : List Queued) : Option Queued :=
  bestOf (l.filter (fun e => isOpen e.2 && ((starvedIn q e.2.bank).map (fun x => decide (x.2.row = e.2.row))).getD true))

/-- Is a bank ready for the row of a request: the request is the starved one, or none starves and no queued request hits the open row
(R307, R309)? -/
def bankReady (isOpen : DramLoc → Bool) (q : List Queued) (e : Queued) : Bool :=
  match starvedIn q e.2.bank with
  | some x => decide (x = e)
  | none => q.all (fun f => decide (f.2.bank ≠ e.2.bank) || !isOpen f.2)

/-- Step 3: the row of a request of the highest class with a ready bank, over the bank groups in rotating order from the one after the last
activate's, the oldest of the bank group (R306). -/
def pickRow (isOpen : DramLoc → Bool) (lastBg : Nat) (q l : List Queued) : Option Queued :=
  let r := l.filter (fun e => !isOpen e.2 && bankReady isOpen q e)
  match bestOf r with
  | none => none
  | some b =>
    let same := r.filter (fun e => decide (e.1.cls.rank = b.1.cls.rank))
    ((List.range 8).map (fun k => (lastBg + 1 + k) % 8)).findSome? (fun g => same.find? (fun e => decide (e.2.bg = g)))

/-- What a command slot of a subchannel issues (R306): of the queue `q`, with the logical ranks whose refresh is forced, those that owe one
that could wait, and the classes whose units are spent, which are skipped (R308). -/
def slotPick (isOpen : DramLoc → Bool) (lastBg : Nat) (forced owing : List Nat) (spent : DramClass → Bool) (q : List Queued) :
    Option SlotCmd :=
  let t := takenOf q
  let l := t.filter (fun e => !spent e.1.cls)
  match forced with
  | r :: _ => some (.refresh r)
  | [] =>
    match pickHit isOpen t l with
    | some e => some (.serve e.1)
    | none =>
      match pickRow isOpen lastBg t l with
      | some e => some (.activate e.1)
      | none => (owing.find? (fun r => q.all (fun e => decide (e.2.lrank ≠ r)))).map .refresh

/-! ### Line accesses -/

/-- Opens the row of a line, counting an activate when it was not open (R306, R309). -/
def State.openRow (s : State) (line : Nat) : State :=
  let l := dramLoc s.mdl.lrb line
  if Sparse.get (fun _ => 0) s.drc.rows l.bank = l.row + 1 then s
  else
    { s.bump64 (DRC_ACT_LO_COUNT (drcOf line)) with
        drc := { s.drc with
          rows := Sparse.set (fun _ => 0) s.drc.rows l.bank (l.row + 1)
          lastBg := Sparse.set (fun _ => 0) s.drc.lastBg l.sc l.bg } }

/-- A rank that a request reaches leaves power-down (R316). -/
def State.wakeRank (s : State) (line : Nat) : State :=
  let l := dramLoc s.mdl.lrb line
  let r := if s.mdl.rank2 then l.lrank / 2 ^ s.mdl.height else 0
  let m := s.get (DRC_STAT_PD_RANKS (drcOf line))
  if bitOf m r then s.put (DRC_STAT_PD_RANKS (drcOf line)) (m - 2 ^ r) else s

/-- Does a queued request hit the open row of a bank, so that it stays open (R309)? -/
def State.bankHit (s : State) (bank : Nat) : Bool :=
  s.drc.queue.any (fun x => decide ((dramLoc s.mdl.lrb x.line).bank = bank
    ∧ Sparse.get (fun _ => 0) s.drc.rows bank = (dramLoc s.mdl.lrb x.line).row + 1))

/-- The row of a line's bank closes. -/
def State.closeBank (s : State) (bank : Nat) : State :=
  { s with drc := { s.drc with rows := Sparse.set (fun _ => 0) s.drc.rows bank 0 } }

/-- What a page hint does after the access: 0 AUTO and 1 OPEN leave the row open, 2 CLOSE closes it (R309). -/
def State.afterHint (s : State) (line hint : Nat) : State :=
  if hint = 2 ∧ s.bankHit (dramLoc s.mdl.lrb line).bank = false then s.closeBank (dramLoc s.mdl.lrb line).bank else s

/-- Does the subchannel issue no read and no write: stopped by a CA alert, in an in-place retrain, or with its PLL, D0 or D1, unlocked (R326,
R327, R409)? -/
def State.halted (s : State) (sc : Nat) : Bool :=
  s.drc.stopped.contains sc || s.drc.retraining.contains sc || s.rst.stalled.contains (2 + sc / 2)

/-- A read or write is issued: every queued request to another row of its bank has been passed over once more, and the 16th time is counted
(R307). -/
def State.passOver (s : State) (line : Nat) : State :=
  let l := dramLoc s.mdl.lrb line
  let other := fun (x : DramReq) =>
    decide ((dramLoc s.mdl.lrb x.line).bank = l.bank ∧ (dramLoc s.mdl.lrb x.line).row ≠ l.row)
  let n := (s.drc.queue.filter (fun x => other x && decide (x.passed = 15))).length
  let t := if n = 0 then s else s.bumpBy (DRC_STARVE_COUNT (drcOf line)) n
  { t with drc := { t.drc with queue := t.drc.queue.map (fun x => if other x then { x with passed := x.passed + 1 } else x) } }

/-- A request is served: its rank leaves power-down, its row opens, and the row stays as its hint says (R306, R309, R316). -/
def State.serveReq (s : State) (r : DramReq) : State :=
  let t := ((s.wakeRank r.line).openRow r.line).passOver r.line
  (t.bump64 (if r.write then DRC_WR_LO_COUNT (drcOf r.line) else DRC_RD_LO_COUNT (drcOf r.line))).afterHint r.line r.hint

/-- A request enters the queue of its bank; one that finds it full is counted and offered again until it is taken (R305). -/
def State.enqueueReq (s : State) (r : DramReq) : State :=
  let b := (dramLoc s.mdl.lrb r.line).bank
  let n := (s.drc.queue.filter (fun x => decide ((dramLoc s.mdl.lrb x.line).bank = b))).length
  let t := if 8 ≤ n then s.bump (DRC_QFULL_COUNT (drcOf r.line)) else s
  { t with drc := { t.drc with queue := t.drc.queue ++ [r] } }

/-- One line request reaches the DRC: the next command slots serve it, unless its subchannel is halted, when it stays queued (R305, R306,
R326, R327). DESIGN CHOICE, log 85. -/
def State.drcReq (s : State) (r : DramReq) : State := if s.halted (dscOf r.line) then s.enqueueReq r else s.serveReq r

/-- One line read of a class reaches the DRC with a page hint. -/
def State.drcRead (s : State) (cls : DramClass) (line hint : Nat) : State := s.drcReq ⟨line, cls, hint, false, 0⟩

/-- One line write of a class reaches the DRC with a page hint. -/
def State.drcWrite (s : State) (cls : DramClass) (line hint : Nat) : State := s.drcReq ⟨line, cls, hint, true, 0⟩

/-- A whole islet is read or written: 256 lines on each subchannel, in the rows of two bank groups (R304). -/
def State.drcIslet (s : State) (i : Nat) (write : Bool) : State :=
  let f := fun (t : State) (k : Nat) => (t.wakeRank (i * 1024 + k)).openRow (i * 1024 + k)
  let t := [0, 1, 2, 3, 512, 513, 514, 515].foldl f s
  if write then (t.bump64By (DRC_WR_LO_COUNT 0) 512).bump64By (DRC_WR_LO_COUNT 1) 512
  else (t.bump64By (DRC_RD_LO_COUNT 0) 512).bump64By (DRC_RD_LO_COUNT 1) 512

/-- The bytes of `new` that `be` enables, over `old` (R313). -/
def mergeBytes (be : BitVec 64) (old new : LineData) : LineData :=
  (List.range 64).foldl (fun d i =>
    if be.getLsbD i then
      let m : LineData := (0xFF : LineData) <<< (8 * i)
      (d &&& ~~~ m) ||| (new &&& m)
    else d) old

/-- The code of a requester in DSC_ERR.SOURCE (R334). -/
def Requester.code : Requester → Nat
  | .host => 0
  | .mover => 1
  | .save => 2
  | .rstr => 3
  | .pers => 4
  | .dscr => 5
  | .dtrn => 6
  | .glen => 7

/-- Writes a line as a requester of class `cls` asks: whole, or read, merged and written under a lock; a merge into a line
found uncorrectable or poisoned is written poisoned (R313), as is a write that carries poison (R321). -/
def State.storeLine (s : State) (cls : DramClass) (line hint : Nat) (data : LineData) (be : BitVec 64) (poison : Bool) : State :=
  if be = BitVec.allOnes 64 then (s.drcWrite cls line hint).setLine line ⟨data, poison, false⟩
  else
    let old := s.dramLine line
    (((s.drcRead cls line 0).drcWrite cls line hint).bump (DRC_RMW_COUNT (drcOf line))).setLine line
      ⟨mergeBytes be old.data data, poison || old.poison || old.ue, false⟩

/-- DSC_ERR keeps the first event after VALID was cleared, a UE in preference to an earlier CORRECTED record (R334). -/
def State.dscErr (s : State) (line : Nat) (r : Requester) (ue psn : Bool) (device nsym : Nat) : State :=
  let d := dscOf line
  if ¬ s.flag (DSC_ERR_VALID d) ∨ (ue = true ∧ s.get (DSC_ERR_UE d) = 0 ∧ s.get (DSC_ERR_PSN d) = 0) then
    ((((((((s.put (DSC_ERR_VALID d) 1).put (DSC_ERR_UE d) (b2n ue)).put (DSC_ERR_PSN d) (b2n psn)).put
      (DSC_ERR_SOURCE d) r.code).put (DSC_ERR_DEVICE d) device).put (DSC_ERR_NSYM d) nsym).put
      (DSC_ERR_ADDR_LO_ADDR d) (line * 64 % 2 ^ 32)).put (DSC_ERR_ADDR_HI_ADDR d) (line * 64 / 2 ^ 32))
  else s

/-- A line reads POISON: counted, recorded in DSC_ERR, and for the host path an event (R323). -/
def State.readPoison (s : State) (line : Nat) (r : Requester) : State :=
  let t := (s.bump (DSC_PSN_COUNT (dscOf line))).dscErr line r false true 0xF 0
  if r = .host then t.event .dramRead 0xB0 [line * 64 % 2 ^ 32, line * 64 / 2 ^ 32, r.code, 2] else t

end Sys2Proof.Machine
end

