-- ==== Sys2Proof/Machine/CxlCore.lean ====
section
/-! DEFINITION. The CXL event logs (R361, R362) and the sources of poisoned lines (R349), which every block feeds. -/

namespace Sys2Proof.Machine

/-- The device timestamp in ns: the last Set Timestamp plus the passes since (R361). -/
def State.stamp (s : State) : Nat := s.mbox.stampBase + (s.now - s.mbox.stampAt) * 1000

/-- Log `l`: 0 informational, 1 warning, 2 failure, 3 fatal. -/
def State.cxlLog (s : State) (l : Nat) : List CxlEvent := Sparse.get (fun _ => []) s.mbox.logs l

/-- What R361's table logs, in its order. -/
inductive CxlWhat where
  | dramUe | restoredPoison | deviceFailed | wear | startClass | linkOrTraining
  deriving DecidableEq, Repr

/-- The log of an event (R361). -/
def CxlWhat.log : CxlWhat → Nat
  | .dramUe => 2
  | .restoredPoison => 2
  | .deviceFailed => 1
  | .wear => 1
  | .startClass => 1
  | .linkOrTraining => 2

/-- The place of an event in R361's table. -/
def CxlWhat.code : CxlWhat → Nat
  | .dramUe => 1
  | .restoredPoison => 2
  | .deviceFailed => 3
  | .wear => 4
  | .startClass => 5
  | .linkOrTraining => 6

/-- The message of vector 0, for the mailbox and the event logs (R362). -/
def State.vector0 (s : State) : State := if s.canSend 0 then s.send (.msix 0) else s

/-- An event enters its log, or counts as overflow when the log holds 64 records; the interrupt policy decides on the message
(R361, R362). -/
def State.cxlEvent (s : State) (w : CxlWhat) (dpa : Nat) : State :=
  let l := w.log
  let t :=
    if (s.cxlLog l).length < 64 then
      s.setMbox { s.mbox with
        logs := Sparse.set (fun _ => []) s.mbox.logs l (s.cxlLog l ++ [⟨s.mbox.nextHandle, w.code, dpa, s.stamp⟩])
        nextHandle := s.mbox.nextHandle + 1 }
    else
      let o := Sparse.get (fun _ => ((0, 0, 0) : Nat × Nat × Nat)) s.mbox.overflow l
      let n : Nat × Nat × Nat := (o.1 + 1, if o.1 = 0 then s.stamp else o.2.1, s.stamp)
      s.setMbox { s.mbox with overflow := Sparse.set (fun _ => ((0, 0, 0) : Nat × Nat × Nat)) s.mbox.overflow l n }
  if s.mbox.policy.getD l 0 = 1 then t.vector0 else t

/-- Maintenance is needed: EARLY_WEAR, SPARE_LOW or DEV_FAILED has been raised (R353). -/
def State.needsCare (s : State) : State := s.setMbox { s.mbox with maintenance := true }

/-- A die or a channel has failed: performance is degraded (R353). -/
def State.degraded (s : State) : State := (s.cxlEvent .wear 0).setMbox { (s.cxlEvent .wear 0).mbox with degraded := true }

/-- EARLY_WEAR or SPARE_LOW: maintenance is needed, and the event is logged (R353, R361). -/
def State.wearLog (s : State) : State := (s.needsCare).cxlEvent .wear 0

/-- The runs of consecutive poisoned lines with one source, as (first line, lines, source), in ascending order. -/
def poisonRuns (src : Nat → Nat) : List (Nat × Line) → List (Nat × Nat × Nat)
  | [] => []
  | e :: t =>
    if e.2.poison || e.2.ue then
      match poisonRuns src t with
      | [] => [(e.1, 1, src e.1)]
      | r :: rs => if r.1 = e.1 + 1 ∧ r.2.2 = src e.1 then (e.1, r.2.1 + 1, r.2.2) :: rs else (e.1, 1, src e.1) :: r :: rs
    else poisonRuns src t

/-- The source of a poisoned line: 0 external, 1 internal, 2 injected (R349). -/
def State.poisonSource (s : State) (line : Nat) : Nat := Sparse.get (fun _ => 0) s.mbox.poison line

/-- The poison list (R349): the poisoned host-visible lines. -/
def State.poisonList (s : State) : List (Nat × Nat × Nat) :=
  poisonRuns s.poisonSource (s.dram.filter (fun e => decide (e.1 < s.mdl.hostLines)))

/-- Records the source of lines that are now poisoned, and the first overflow of the list beyond 4,096 ranges (R349). -/
def State.markPoison (s : State) (lines : List Nat) (source : Nat) : State :=
  let t := s.setMbox { s.mbox with poison := lines.foldl (fun m l => Sparse.set (fun _ => 0) m l source) s.mbox.poison }
  if t.mbox.poisonOverflow = none ∧ 4096 < t.poisonList.length then
    t.setMbox { t.mbox with poisonOverflow := some s.stamp }
  else t

/-- Islet `i` takes 1,024 poisoned lines of internal source (R178, R349). -/
def State.poisonIslet (s : State) (i : Nat) : State :=
  (s.setIslet i ((List.range 1024).map (fun o => (o, poisonLine)))).markPoison ((List.range 1024).map (fun o => i * 1024 + o)) 1

end Sys2Proof.Machine
end

