-- ==== Sys2Proof/Machine/Pers.lean ====
section
/-! DEFINITION. The persistence engine: islet records and planes (R57 to R62), the first-write transitions (R64), the
residual count with everything that follows it (R75, R80, R88, R108, R125), the effective budget (R76 to R79), the
commit barriers (R87 to R92), and the record repairs (R95). -/

namespace Sys2Proof.Machine

/-! ### Islet records and the islet map -/

/-- The record of an islet nothing has written: ZERO (R61, after format). -/
def freshRec : IsletRec := ⟨.zero, 0, 0⟩

/-- The record of islet `i` (R59). -/
def State.recOf (s : State) (i : Nat) : IsletRec := Sparse.get (fun _ => freshRec) s.pers.islets i

/-- Writes the record of islet `i`. -/
def State.setRec (s : State) (i : Nat) (r : IsletRec) : State :=
  (s.setPers { s.pers with islets := Sparse.set (fun _ => freshRec) s.pers.islets i r })

/-- The residual states of R61. -/
def IState.residual : IState → Bool
  | .zero => false
  | .durable => false
  | .dirty => true
  | .inCopy => true
  | .provisional => true
  | .clean => true

/-- Is islet `i` residual (R61)? -/
def State.residual (s : State) (i : Nat) : Bool := (s.recOf i).st.residual

/-- The collecting epoch. -/
def State.epoch (s : State) : Nat := s.get64 PERS_EPOCH_LO_EPOCH

/-- The last sealed epoch. -/
def State.sealedEpoch (s : State) : Nat := s.get64 PERS_SEALED_LO_EPOCH

/-- Is a record with the DIRTY code COOLING: its STAMP older than the collecting epoch (R61)? -/
def IsletRec.cooling (r : IsletRec) (e : Nat) : Bool := decide (r.st = .dirty) && !le48 e r.stamp

/-- The derived state code of R61. -/
def IsletRec.code (r : IsletRec) (e : Nat) : Nat :=
  match r.st with
  | .zero => 0
  | .durable => 1
  | .dirty => if r.cooling e then 3 else 2
  | .inCopy => 4
  | .provisional => 5
  | .clean => 6

/-- The plane in which epoch `e` collects: plane `e` mod 2 (R58). -/
def Pers.plane (p : Pers) (e : Nat) : List Nat := if e % 2 = 0 then p.plane0 else p.plane1

/-- Replaces the plane of epoch `e`. -/
def Pers.setPlane (p : Pers) (e : Nat) (l : List Nat) : Pers :=
  if e % 2 = 0 then { p with plane0 := l } else { p with plane1 := l }

/-- Is islet `i`'s bit in the collecting plane 1 (R60)? -/
def State.collects (s : State) (i : Nat) : Bool := (s.pers.plane s.epoch).contains i

/-- Sets islet `i`'s bit in the collecting plane (R60). -/
def State.setBit (s : State) (i : Nat) : State :=
  (s.setPers (s.pers.setPlane s.epoch (insertNat (s.pers.plane s.epoch) i)))

/-- Is persistence active (R91)? -/
def State.active (s : State) : Bool := s.flag PERS_CTRL_ACTIVE

/-! ### What follows the residual count -/

/-- The residual count RES (R75). -/
def State.res (s : State) : Nat := s.get PERS_RES_ISLETS

/-- PERS_BAR_LEFT and PERS_BAR_STAT.OPEN (R88). -/
def State.refreshBars (s : State) : State :=
  (s.put PERS_BAR_LEFT_ISLETS (match s.pers.barriers with
    | [] => 0
    | b :: _ => b.count.getD s.res)).put PERS_BAR_STAT_OPEN s.pers.barriers.length

/-- The burst room: the free capacity of the band less max(PERS_BUDGET, RES), never below 0 (R108). -/
def State.bandRoom (s : State) : Nat := s.mdl.bandIslets - s.pers.bandUsed - max (s.cfg PERS_BUDGET_ISLETS) s.res

/-- PERS_SLC_FILL, PERS_SLC_ROOM, and BURST_BLOCKED, which clears at 16,384 islets of room (R108). -/
def State.refreshBand (s : State) : State :=
  let t := (s.put PERS_SLC_FILL_ISLETS s.pers.bandUsed).put PERS_SLC_ROOM_ISLETS s.bandRoom
  if 16384 ≤ s.bandRoom then t.put PERS_SHD_STAT_BURST_BLOCKED 0 else t

/-- A copy that takes room in its stream's staging bank: being read or staged (R103). -/
def Copy.inStaging (c : Copy) : Bool :=
  match c.phase with
  | .reading => true
  | .staged => true
  | .journalled _ => false

/-- Streams that hold at least one copy. -/
def State.activeStreams (s : State) : Nat :=
  ((List.range 8).filter (fun n => s.pers.copies.any (fun c => c.inStaging && decide (c.stream = n)))).length

/-- PERS_CQ_DEPTH, PERS_SHD_STAT.ACTIVE and HLK_HOLD (R97, R103, R343). -/
def State.refreshQueues (s : State) : State :=
  (((s.put PERS_CQ_DEPTH_ENTRIES s.pers.queue.length).put PERS_SHD_STAT_ACTIVE s.activeStreams).put
    HLK_HOLD_HELD s.pers.hold.length).put HLK_HOLD_FULL (b2n (decide (256 ≤ s.pers.hold.length)))

/-- The conditions of ARMED (R125). -/
def State.armedNow (s : State) : Bool :=
  s.active && s.flag SAVE_STAT_SOUND && s.save.keyLoaded &&
    decide (max (s.cfg PERS_BUDGET_ISLETS) s.res ≤ s.get SAVE_PLAN_ISLETS)

/-- ARMED follows its conditions in every cycle; its fall raises ARM_LOST (R125). -/
def State.refreshArmed (s : State) : State :=
  if s.armedNow then s.put SAVE_STAT_ARMED 1
  else if s.flag SAVE_STAT_ARMED then (s.put SAVE_STAT_ARMED 0).raiseInt 0x29 0
  else s

/-- Brings every register that follows PERS's state up to date. -/
def State.refresh (s : State) : State :=
  ((((s.put PERS_STAT_OVER (b2n (decide (s.get PERS_BEFF_ISLETS < s.res)))).refreshBars).refreshBand).refreshQueues).refreshArmed

/-- Sets the residual count and what follows it. -/
def State.setRes (s : State) (n : Nat) : State :=
  ((s.setUpk { s.upk with resMax := max s.upk.resMax n }).put PERS_RES_ISLETS n).refresh

/-! ### The transitions (R64) -/

/-- The first-write transition of a record in epoch `e`: transitions 1, 2, 3, 7 and 11. -/
def IsletRec.firstWrite (r : IsletRec) (e : Nat) : IsletRec :=
  match r.st with
  | .zero => ⟨.dirty, low48 e, low48 e⟩
  | .durable => ⟨.dirty, low48 e, low48 e⟩
  | .dirty => { r with stamp := low48 e }
  | .inCopy => { r with st := .provisional, stamp := low48 e }
  | .provisional => { r with stamp := low48 e }
  | .clean => { r with st := .dirty, stamp := low48 e }

/-- Transition 7 marks the islet's copy provisional, which is counted in PERS_PROV. -/
def State.markProvisional (s : State) (i : Nat) : State :=
  { s.bump PERS_PROV_COUNT with pers := { s.pers with copies := s.pers.copies.map (fun c =>
      if c.islet = i ∧ c.phase = .reading then { c with prov := true } else c) } }

/-- The first-write transition of islet `i` with its effect on RES (R64, R75). -/
def State.firstWrite (s : State) (i : Nat) : State :=
  let r := s.recOf i
  let t := s.setRec i (r.firstWrite s.epoch)
  let u := if r.st = .inCopy then t.markProvisional i else t
  if r.st.residual then u else u.setRes (u.res + 1)

/-- A host write touches islet `i`: it tests and sets the collecting-plane bit and applies the first-write transition
when the bit was 0 (R60). In volatile mode PERS tracks nothing (R61). -/
def State.touch (s : State) (i : Nat) : State :=
  if s.active && !s.collects i then (s.setBit i).firstWrite i else s

/-- Would a host write to islet `i` be new-residual: bit 0 and transition 1 (R82)? -/
def State.newResidual (s : State) (i : Nat) : Bool := s.active && !s.collects i && !s.residual i

/-! ### Record and map repairs (R95) -/

/-- An islet record reads uncorrectable: it is rewritten DIRTY in the collecting epoch (R95). DEDUCED, log 34. -/
def State.recordLost (s : State) (i : Nat) : State :=
  let t := s.setRec i ⟨.dirty, low48 s.epoch, low48 s.epoch⟩
  if s.residual i then t else t.setRes (t.res + 1)

/-- A collecting-plane word reads uncorrectable: every bit of it is set, and every host-visible islet of it takes its
first-write transition (R95). -/
def State.mapWordLost (s : State) (word : Nat) : State :=
  (List.range 64).foldl (fun t k =>
    let i := word * 64 + k
    if i < t.mdl.hostIslets then (if t.collects i then t.firstWrite i else (t.setBit i).firstWrite i)
    else t) s

/-! ### The effective budget (R76 to R79) -/

/-- A derating factor in 1/256 (R77). -/
def derate (t : Int) (t1 k1 t2 k2 : Nat) : Nat := if t ≤ t1 then 256 else if t ≤ t2 then k1 else k2

/-- STALE_MS in passes. -/
def State.stalePasses (s : State) : Nat := s.cfg PERS_GAUGE_CFG_STALE_MS * 1000

/-- A reading younger than STALE_MS. -/
def State.fresh {α : Type} (s : State) (r : Option (α × Nat)) : Bool :=
  match r with
  | none => false
  | some r => decide (s.now < r.2 + s.stalePasses)

/-- A reading not older than STALE_MS (R77). -/
def State.notOlder {α : Type} (s : State) (r : Option (α × Nat)) : Bool :=
  match r with
  | none => false
  | some r => decide (s.now ≤ r.2 + s.stalePasses)

/-- k_j for the hottest on-die sensor (R77). -/
def State.kJ (s : State) (tj : Int) : Nat :=
  derate tj (s.cfg PERS_DERATE_J_T1) (s.cfg PERS_DERATE_J_K1) (s.cfg PERS_DERATE_J_T2) (s.cfg PERS_DERATE_J_K2)

/-- Is a NAND temperature sensor configured: a poll entry with DEST 2 (R77, R487)? -/
def State.nandPolled (s : State) : Bool := (List.range 16).any (fun n => decide (s.cfg (TWL_POLL_A_DEST n) = 2))

/-- k_n for the hottest NAND sensor: 256 with no sensor configured, K2 when the reading is older than STALE_MS (R77); K2 too
before the first reading, of which the spec says nothing. DESIGN CHOICE, log 68. -/
def State.kN (s : State) : Nat :=
  if ¬ s.nandPolled then 256
  else
    match s.pers.tn with
    | none => s.cfg PERS_DERATE_N_K2
    | some r =>
      if s.notOlder s.pers.tn then derate r.1 (s.cfg PERS_DERATE_N_T1) (s.cfg PERS_DERATE_N_K1) (s.cfg PERS_DERATE_N_T2)
        (s.cfg PERS_DERATE_N_K2)
      else s.cfg PERS_DERATE_N_K2

/-- The energy input and whether the floor rule is in force (R78, R79). -/
def State.energyInput (s : State) : Nat × Bool :=
  match s.pers.gauge with
  | none => (s.cfg PERS_E_FLOOR_MJ, false)
  | some r =>
    if s.fresh s.pers.gauge then (r.1, false)
    else (min r.1 (s.cfg PERS_E_FLOOR_MJ), true)

/-- B_energy of R76 from the energy input and the derating factor. -/
def bEnergy (e reserve m16 power fixed rate k : Nat) : Nat :=
  ((e - reserve) * 16 / m16 * 1000000 / power - fixed) * (rate * k / 256) / 65536

/-- AGE of the energy reading in 10 ms units, saturating; 0xFFF before the first reading. -/
def State.energyAge (s : State) : Nat :=
  match s.pers.gauge with
  | none => 0xFFF
  | some r => min ((s.now - r.2) / 10000) 0xFFF

/-- The computation of R76 with the hottest on-die sensor at `tj` °C; ENERGY_BOUND raises its cause when it is set. -/
def State.computeBudget (s : State) (tj : Int) : State :=
  let k := min (s.kJ tj) s.kN
  let b := bEnergy s.energyInput.1 (s.cfg PERS_E_RESERVE_MJ) (s.cfg PERS_MARGIN_M16) (s.cfg PERS_SAVE_POWER_MW)
    (s.cfg PERS_SAVE_FIXED_US) (s.cfg PERS_SAVE_RATE_MBPS) k
  let bound := decide (b < s.cfg PERS_BUDGET_ISLETS)
  let t := ((((((s.setPers { s.pers with tj := tj }).put PERS_BEFF_ISLETS (min (s.cfg PERS_BUDGET_ISLETS) b)).put
    PERS_STAT_K k).put PERS_STAT_ENERGY_BOUND (b2n bound)).put PERS_ENERGY_MJ s.energyInput.1).put
    PERS_ENERGY_AGE s.energyAge).refresh
  if bound && !s.flag PERS_STAT_ENERGY_BOUND then t.raiseInt 0x20 3 else t

/-! ### Budget levels (R80, R81) -/

/-- ENTER of each level, in 1/256 of B_eff. -/
def enterOf : Nat → Nat
  | 1 => 154
  | 2 => 192
  | 3 => 218
  | 4 => 236
  | _ => 256

/-- LEAVE of each level, in 1/256 of B_eff. -/
def leaveOf : Nat → Nat
  | 1 => 128
  | 2 => 166
  | 3 => 200
  | 4 => 225
  | _ => 248

/-- The highest level in 1 to 5 whose ENTER is met, else 0. -/
def enteredLevel (q b : Nat) : Nat :=
  if b * enterOf 5 ≤ q then 5 else if b * enterOf 4 ≤ q then 4 else if b * enterOf 3 ≤ q then 3
  else if b * enterOf 2 ≤ q then 2 else if b * enterOf 1 ≤ q then 1 else 0

/-- The level after an evaluation: RES, B_eff and the level before it (R80); 5 whatever RES is when B_eff is 0 (R81). -/
def nextLevel (res beff level : Nat) : Nat :=
  if beff = 0 then 5
  else if level < enteredLevel (res * 256) beff then enteredLevel (res * 256) beff
  else if 0 < level ∧ res * 256 < beff * leaveOf level then level - 1
  else level

/-- The budget level in force. -/
def State.level (s : State) : Nat := s.get PERS_STAT_LEVEL

/-- Evaluates the level at a tick, raising LEVEL_UP or LEVEL_DOWN on a change (R80, R81). -/
def State.evalLevel (s : State) : State :=
  let n := nextLevel s.res (s.get PERS_BEFF_ISLETS) s.level
  if s.level < n then (s.put PERS_STAT_LEVEL n).raiseInt 0x20 0
  else if n < s.level then (s.put PERS_STAT_LEVEL n).raiseInt 0x20 1
  else s

/-! ### Commit barriers (R87 to R92) -/

/-- The sequence number after `n`: 0xFFFF wraps to 0x0001 (R87). -/
def nextBarSeq (n : Nat) : Nat := if n = 0xFFFF then 1 else n + 1

/-- Why a post is refused: the first cause in the order of R91, by the mailbox return code of R354.
DESIGN CHOICE, log 71. -/
def State.barRefusal (s : State) : Option Nat :=
  if ¬ s.active ∨ s.saving ∨ s.save.ended ∨ s.save.failed then some 7
  else if ¬ s.cfgOn PERS_CTRL_BARRIER_EN then some 3
  else if 16 ≤ s.pers.barriers.length then some 6
  else none

/-- The last 64 accepted posts (R355). -/
def keep64 (l : List BarrierPost) : List BarrierPost := l.drop (l.length - 64)

/-- A write of a tag to PERS_BAR_POST (R87, R91). -/
def State.postBarrier (s : State) (tag : Nat) : State :=
  match s.barRefusal with
  | some _ => (s.put PERS_BAR_STAT_REFUSED 1).raiseInt 0x22 1
  | none =>
    let n := s.pers.nextSeq
    ((s.setPers { s.pers with
        barriers := s.pers.barriers ++ [⟨n, tag, s.epoch, none⟩]
        posts := keep64 (s.pers.posts ++ [⟨n, tag, false⟩])
        nextSeq := nextBarSeq n }).put PERS_BAR_SEQ_LAST_POST n).refresh

/-- Completes the oldest barriers whose counts have reached 0, in posting order (R90). -/
def State.completeBarriers : List Barrier → State → State
  | [], s => s
  | b :: t, s =>
    if b.count = some 0 then
      State.completeBarriers t
        ((((s.setPers { s.pers with
            barriers := t
            posts := s.pers.posts.map (fun p => if p.seq = b.seq then { p with done := true } else p) }).put
          PERS_BAR_STAT_LAST_DONE b.seq).put PERS_BAR_DONE_TAG_TAG b.tag).raiseInt 0x22 0)
    else s

/-- At the close of epoch `e` the barriers bound to it start their counts at RES (R88). -/
def State.startBarCounts (s : State) (e : Nat) : State :=
  (s.setPers { s.pers with barriers := s.pers.barriers.map (fun b =>
      if b.nb = e ∧ b.count = none then { b with count := some s.res } else b) })

/-- Counts an islet off the open barriers it discharges (R89): those with ENTRY at or before N_b, and before `r` when a
read start bounds them. -/
def dischargeBars (entry : Nat) (r : Option Nat) (bs : List Barrier) : List Barrier :=
  bs.map (fun b =>
    if le48 entry b.nb && (match r with
        | none => true
        | some r => !le48 r b.nb)
    then { b with count := b.count.map (· - 1) } else b)

/-- Does an open barrier cover an islet with this ENTRY (R88)? -/
def State.covered (s : State) (entry : Nat) : Bool := s.pers.barriers.any (fun b => le48 entry b.nb)

/-! ### The islet query (R96) -/

/-- The lookup ends: the query registers hold the islet's record, or zeros beyond the last host-visible islet. -/
def State.endLookup (s : State) (i : Nat) : State :=
  let t := s.put PERS_Q_STATE_VALID 1
  let u := (t.setPers { t.pers with lookup := none })
  if s.mdl.hostIslets ≤ i then
    ((((((u.put PERS_Q_STATE_FROZEN_BIT 0).put PERS_Q_STATE_COLLECT_BIT 0).put PERS_Q_STATE_STATE 0).put
      PERS_Q_STAMP_LO_STAMP 0).put PERS_Q_STAMP_HI_STAMP 0).put PERS_Q_ENTRY_LO_ENTRY 0).put PERS_Q_ENTRY_HI_ENTRY 0
  else
    let r := s.recOf i
    ((((((u.put PERS_Q_STATE_FROZEN_BIT (b2n ((s.pers.plane (s.epoch + 1)).contains i))).put
      PERS_Q_STATE_COLLECT_BIT (b2n (s.collects i))).put PERS_Q_STATE_STATE (r.code s.epoch)).put
      PERS_Q_STAMP_LO_STAMP (r.stamp % 2 ^ 32)).put PERS_Q_STAMP_HI_STAMP (r.stamp / 2 ^ 32)).put
      PERS_Q_ENTRY_LO_ENTRY (r.entry % 2 ^ 32)).put PERS_Q_ENTRY_HI_ENTRY (r.entry / 2 ^ 32)

end Sys2Proof.Machine
end

