-- ==== Sys2Proof/Machine/Path.lean ====
section
/-! DEFINITION. The path of a CXL.mem request: the restore interlock with its held-request table and fault-in queue
(R169 to R173), the budget hold queue (R82 to R85, R114), HLK's receive buffer with its credits and DevLoad (R343 to
R346), and the access itself. -/

namespace Sys2Proof.Machine

/-! ### Answers -/

/-- Are answers still sent: the link is up, and a save, if one runs, has not reached step 4 (R132)? -/
def State.answering (s : State) : Bool :=
  s.hlk.linkUp && (match s.save.run with
    | none => true
    | some r => decide (r.step = .fenced))

/-- Sends an answer to the host while answers are sent. -/
def State.answer (s : State) (o : Out) : State := if s.answering then s.send o else s

/-- Answers a request that still has its tag. -/
def State.reply (s : State) (r : MemReq) (o : Nat → Out) : State :=
  match r.tag with
  | none => s
  | some n => s.answer (o n)

/-- A host read is served: the data of the line, or data with poison, counted (R53, R348). -/
def State.hostRead (s : State) (r : MemReq) : State :=
  let l := s.dramLine r.line
  let t := s.drcRead .host r.line r.hint
  if l.poison || l.ue then (t.bump HLK_PSN_TX_COUNT).reply r (fun n => .memData n l.data true)
  else t.reply r (fun n => .memData n l.data false)

/-- A host write is admitted: PERS tests and sets its islet's bit, DRAM takes the line, and the completion is sent
(R54, R60, R311). -/
def State.hostWrite (s : State) (r : MemReq) : State :=
  let u := (s.touch (r.line / 1024)).storeLine .host r.line r.hint r.data r.be r.poison
  let t := if r.poison then u.markPoison [r.line] (if r.own then 2 else 0) else u
  t.reply r (fun n => .memDone n)

/-! ### The restore interlock -/

/-- Is a start still before the end of its metadata load, when no islet is restored; a warm start has every bit at 1 (R169, R191)? -/
def State.beforeLoad (s : State) : Bool :=
  match s.rst.phase with
  | .off => false
  | .booting => decide (s.get RST_STAT_START = 0)
  | .verified => decide (s.get RST_STAT_START = 0)
  | .configured => decide (s.get RST_STAT_START = 0)
  | .trained => true
  | .active => false
  | .recovery => false

/-- Is islet `i` restored, or does the interlock let every request pass (R169, R170, R174, R180)? -/
def State.isRestored (s : State) (i : Nat) : Bool :=
  !s.beforeLoad && (!s.rstr.interlock || s.rstr.restored.contains i)

/-- RSTR_HELD follows the table and the slots. -/
def State.refreshHeld (s : State) : State :=
  (s.put RSTR_HELD_REQUESTS s.rstr.heldTable.length).put RSTR_HELD_SLOTS s.rstr.slots.length

/-- Fault-in slots are granted in queue order, 32 at most, once RSTR holds the staging banks (R172). -/
def State.grantSlots (s : State) : State :=
  if s.rstr.banks then
    (s.setRstr { s.rstr with
      slots := s.rstr.slots ++ s.rstr.faultQ.take (32 - s.rstr.slots.length)
      faultQ := s.rstr.faultQ.drop (32 - s.rstr.slots.length) }).refreshHeld
  else s.refreshHeld

/-- A fault-in of islet `i` is requested, once (R170, R172). -/
def State.requestFaultIn (s : State) (i : Nat) : State :=
  if s.rstr.faultQ.any (fun e => decide (e.1 = i)) || s.rstr.slots.any (fun e => decide (e.1 = i)) then s.grantSlots
  else (s.setRstr { s.rstr with faultQ := s.rstr.faultQ ++ [(i, s.now)] }).grantSlots

/-- A request to a not-restored islet enters the held-request table and requests a fault-in (R170). -/
def State.holdForRestore (s : State) (r : MemReq) : State :=
  (s.setRstr { s.rstr with heldTable := s.rstr.heldTable ++ [r] }).requestFaultIn (r.line / 1024)

/-! ### Waiting -/

/-- Is the budget holding new-residual writes now: level 4 or 5, BP_EN, no save (R82, R86, R131)? -/
def State.holding (s : State) : Bool := decide (4 ≤ s.level) && s.cfgOn PERS_CTRL_BP_EN && !s.saving

/-- Does a held or waiting request name this line (R85, R310)? -/
def State.lineHeld (s : State) (l : Nat) : Bool :=
  s.pers.recWait.any (fun h => decide (h.req.line = l)) || s.pers.hold.any (fun h => decide (h.req.line = l))
    || s.rstr.heldTable.any (fun r => decide (r.line = l))

/-- A write enters the budget hold queue (R82). -/
def State.enterHold (s : State) (r : MemReq) : State :=
  (s.bump PERS_BP_HELD_COUNT).setPers { s.pers with hold := s.pers.hold ++ [⟨r, s.now⟩] }

/-- A request whose islet record PERS has read, to an islet that is restored: it is served, or it enters the hold
queue, or (`none`) it stays where it waits. -/
def State.dispose (s : State) (r : MemReq) : Option State :=
  if ¬ r.write then some (s.hostRead r)
  else if s.holding && s.newResidual (r.line / 1024) then
    if s.pers.hold.length < 256 then some (s.enterHold r) else none
  else some (s.hostWrite r)

/-- Serves the released requests of the held-request table in arrival order; `kept` are those that stay (R171). -/
def State.serveTable : List MemReq → List MemReq → State → State
  | [], kept, s => s.setRstr { s.rstr with heldTable := kept }
  | r :: t, kept, s =>
    if s.isRestored (r.line / 1024) && !kept.any (fun q => decide (q.line = r.line))
        && !s.pers.hold.any (fun h => decide (h.req.line = r.line)) then
      match s.dispose r with
      | some u => State.serveTable t kept u
      | none => State.serveTable t (kept ++ [r]) s
    else State.serveTable t (kept ++ [r]) s

/-- Serves HLK's receive buffer in arrival order; `kept` are the requests that stay (R343, R344). -/
def State.serveBuf : List MemReq → List MemReq → State → State
  | [], kept, s => s.setHlk { s.hlk with buf := kept }
  | r :: t, kept, s =>
    if kept.any (fun q => decide (q.line = r.line)) then State.serveBuf t (kept ++ [r]) s
    else if ¬ s.isRestored (r.line / 1024) then
      if s.rstr.heldTable.length < 512 then State.serveBuf t kept (s.holdForRestore r)
      else State.serveBuf t (kept ++ [r]) s
    else if s.lineHeld r.line then State.serveBuf t (kept ++ [r]) s
    else
      match s.dispose r with
      | some u => State.serveBuf t kept u
      | none => State.serveBuf t (kept ++ [r]) s

/-! ### Credits, DevLoad and T_min -/

/-- Host requests that a full bank queue has not taken (R305, R344). -/
def State.untaken (s : State) (write : Bool) : Nat :=
  if s.drc.queue = [] then 0
  else
    let q := s.drc.queue.map (fun x => (x, dramLoc s.mdl.lrb x.line))
    let host := fun (e : Queued) => decide (e.1.cls = .host ∧ e.1.write = write)
    (q.filter host).length - ((takenOf q).filter host).length

/-- Requests in the receive buffer: on the Req channel, and on the RwD channel with the writes whose islet record is being read; those that a
full bank queue has not taken keep their credit too (R82, R343, R344). -/
def State.reqWaiting (s : State) : Nat := (s.hlk.buf.filter (fun r => !r.write)).length + s.untaken false

def State.rwdWaiting (s : State) : Nat := (s.hlk.buf.filter (fun r => r.write)).length + s.pers.recWait.length + s.untaken true

/-- Is credit return stopped on the Req channel: held-request table full, or HLK under reset (R171, R344, R364)?
DEDUCED, log 37. -/
def State.reqStopped (s : State) : Bool := decide (512 ≤ s.rstr.heldTable.length) || s.inReset 0x10

/-- Is credit return stopped on the RwD channel: as Req, or the hold queue is full and writes wait for it (R344)? -/
def State.rwdStopped (s : State) : Bool :=
  s.reqStopped || (decide (256 ≤ s.pers.hold.length) && s.hlk.buf.any (fun r => r.write))

/-- DevLoad (R345). -/
def State.devLoad (s : State) : Nat :=
  if s.level = 5 then 3
  else if s.level = 4 ∨ s.reqStopped = true ∨ s.rwdStopped = true then 2
  else if s.level = 0 ∧ s.reqWaiting < 32 ∧ s.rwdWaiting < 32 then 0
  else 1

/-- T_min (R346). -/
def State.tMin (s : State) : Nat :=
  let bp := s.cfg PERS_BP_HOLD_MAX + 384 * s.cfg PERS_BP_SPACING + 500
  if s.get RSTR_STAT_PHASE = 3 then max bp 2400 else bp

/-- Brings HLK's credit, hold, DevLoad and timeout registers up to date, raising HOLD_FULL and CREDIT_STOP when they
begin (R343 to R346). -/
def State.refreshHlk (s : State) : State :=
  let q := s.refreshQueues
  let t := (((((q.put HLK_CREDIT_REQ_FREE (128 - s.reqWaiting)).put HLK_CREDIT_RWD_FREE (128 - s.rwdWaiting)).put
    HLK_CREDIT_REQ_STOP (b2n s.reqStopped)).put HLK_CREDIT_RWD_STOP (b2n s.rwdStopped)).put
    HLK_LINK_DEVLOAD s.devLoad).put HLK_TMO_MIN_US s.tMin
  let u := if !s.flag HLK_HOLD_FULL && decide (256 ≤ s.pers.hold.length) then t.raiseInt 0x10 3 else t
  if (s.reqStopped && !s.flag HLK_CREDIT_REQ_STOP) || (s.rwdStopped && !s.flag HLK_CREDIT_RWD_STOP)
  then { u.raiseInt 0x10 4 with hlk := { u.hlk with stopSince := s.now } }
  else u

/-- Serves everything that waits for a place, then brings the registers up to date. -/
def State.serve (s : State) : State :=
  let t := State.serveTable s.rstr.heldTable [] s
  ((State.serveBuf t.hlk.buf [] t).refreshHeld).refreshHlk

/-! ### Arrival -/

/-- Counts a received request (R348 and the counters of R363). -/
def State.countReq (s : State) (r : MemReq) : State :=
  if r.write then
    let t := (s.setUpk { s.upk with telWr := s.upk.telWr + 1 }).bump64 HLK_WR_LO_COUNT
    if r.poison then t.bump HLK_PSN_RX_COUNT else t
  else (s.setUpk { s.upk with telRd := s.upk.telRd + 1 }).bump64 HLK_RD_LO_COUNT

/-- A request stays in the receive buffer, which keeps the order of arrival. -/
def State.buffer (s : State) (r : MemReq) : State :=
  s.setHlk { s.hlk with buf := s.hlk.buf.filter (fun q => decide (q.seq < r.seq)) ++
    (r :: s.hlk.buf.filter (fun q => decide (r.seq ≤ q.seq))) }

/-- A CXL.mem request is received (R82, R85, R170, R343). -/
def State.arrive (s : State) (r : MemReq) : State :=
  let i := r.line / 1024
  let t :=
    if s.hlk.buf.any (fun q => decide (q.line = r.line)) then s.buffer r
    else if ¬ s.isRestored i then
      if s.rstr.heldTable.length < 512 then s.holdForRestore r else s.buffer r
    else if s.lineHeld r.line then s.buffer r
    else if ¬ r.write then s.hostRead r
    else if s.holding && s.active && !s.collects i then
      s.setPers { s.pers with recWait := s.pers.recWait ++ [⟨r, s.now⟩] }
    else s.hostWrite r
  t.refreshHlk

/-! ### The hold queue -/

/-- Admits the held writes at the head that are no longer new-residual (R83). -/
def State.judgeHead : List HeldWrite → State → State
  | [], s => s.setPers { s.pers with hold := [] }
  | h :: t, s =>
    if s.newResidual (h.req.line / 1024) then s.setPers { s.pers with hold := h :: t }
    else State.judgeHead t (s.hostWrite h.req)

/-- PERS finishes reading the record of the oldest write held for it: the write is released at once, or it enters the
hold queue, or it waits in the receive buffer for a place (R82, R344). -/
def State.recordRead (s : State) : State :=
  match s.pers.recWait with
  | [] => s
  | h :: t =>
    let u := s.setPers { s.pers with recWait := t }
    (match u.dispose h.req with
     | some v => v
     | none => u.buffer h.req).serve

/-- The head of the hold queue is admitted; the writes behind it are judged and places are taken (R83).
DESIGN CHOICE, log 69. -/
def State.admitHead (s : State) : State :=
  match s.pers.hold with
  | [] => s
  | h :: t => (State.judgeHead t ((s.setPers { s.pers with hold := t, lastAdmit := s.now }).hostWrite h.req)).serve

/-- Every held write is admitted at once in arrival order: the hold queue, then the writes whose record is being read,
then what waits behind them (R114, R131). -/
def State.admitAll (s : State) : State :=
  let ws := s.pers.hold ++ s.pers.recWait
  (ws.foldl (fun t h => t.hostWrite h.req) (s.setPers { s.pers with hold := [], recWait := [] })).serve

end Sys2Proof.Machine
end

