-- ==== Sys2Proof/Machine/Array.lean ====
section
/-! DEFINITION. The physical side of the save array as FARR keeps it: dies, blocks and skerries with their bands (R198, R199, R212,
R213, R240, R258), the anchors and the superblock (R214 to R216), the journal ring with its codewords, seals and generations (R217 to
R229), and what may be erased (R189, R230). -/

namespace Sys2Proof.Machine

/-! ### Dies, blocks and their records -/

/-- The key of die `d` of channel `c`. -/
def dieKey (c d : Nat) : Nat := c * 16 + d

/-- A die that is not there. -/
def noDie : DieRec := ⟨0, none, none, none, 0, 0, [], [], 0, 0, false, 0⟩

/-- A die. -/
def State.die (s : State) (c d : Nat) : DieRec := Sparse.get (fun _ => noDie) s.farr.dies (dieKey c d)

/-- Replaces a die. -/
def State.setDie (s : State) (c d : Nat) (x : DieRec) : State :=
  s.setFarr { s.farr with dies := Sparse.set (fun _ => noDie) s.farr.dies (dieKey c d) x }

/-- A block that nothing has happened to: ERASED. -/
def freshBlock : BlkRec := ⟨0, false, 0, 0, 0, false, 0, 0, 0, false⟩

/-- The key of a block. -/
def blockKey (c d p b : Nat) : Nat := (dieKey c d * 4 + p) * 16384 + b

/-- The record of a block (R240). -/
def State.block (s : State) (c d p b : Nat) : BlkRec := Sparse.get (fun _ => freshBlock) s.farr.blocks (blockKey c d p b)

/-- Replaces the record of a block. -/
def State.setBlock (s : State) (c d p b : Nat) (x : BlkRec) : State :=
  s.setFarr { s.farr with blocks := Sparse.set (fun _ => freshBlock) s.farr.blocks (blockKey c d p b) x }

/-- Pages of a block in a mode. -/
def ModuleCfg.ppb (m : ModuleCfg) (slc : Bool) : Nat := if slc then m.ppbSlc else m.ppbTlc

/-- Blocks of a die over all planes. -/
def ModuleCfg.dieBlocks (m : ModuleCfg) : Nat := m.planes * m.bpp

/-- Spare blocks a die starts with: its part of the ⌈Q / 32⌉ spare skerries, on every plane (R213). -/
def ModuleCfg.spareBlocks (m : ModuleCfg) : Nat := ceilDiv (m.dpc * m.bpp) 32 / max 1 m.dpc * m.planes

/-! ### Skerries and their bands (R198, R199, R212, R213, R258) -/

/-- Replaces the physical side of the save array. -/
def State.setMedia (s : State) (m : Media) : State := s.setFarr { s.farr with media := m }

/-- The physical side of the save array. -/
def State.media (s : State) : Media := s.farr.media

/-- The band of a skerry at format, by the code of a BAND entry, 5 the anchor band: the sizes of R213 in ascending number; which skerry
goes to which band the spec does not say. DESIGN CHOICE, log 75. -/
def formatBand (m : ModuleCfg) (k : Nat) : Nat :=
  if k % m.dpc = 0 ∧ k / m.dpc < 8 then 5
  else
    let n := k - min 8 (ceilDiv k m.dpc)
    if n < m.journalBand then 1
    else if n < m.journalBand + m.slcBand then 2
    else if n < m.journalBand + m.slcBand + m.spareBand then 0
    else 3

/-- A skerry that nothing has happened to. -/
def freshSk (m : ModuleCfg) (k : Nat) : SkRec := ⟨formatBand m k, false, 0, false, 0⟩

/-- FARR's record of skerry `k`. -/
def State.sk (s : State) (k : Nat) : SkRec := Sparse.get (freshSk s.mdl) s.media.skerries k

/-- Replaces FARR's record of skerry `k`. -/
def State.setSk (s : State) (k : Nat) (x : SkRec) : State :=
  s.setMedia { s.media with skerries := Sparse.set (freshSk s.mdl) s.media.skerries k x }

/-- The skerry that block `b` of die `d` of channel `c` serves: its own, or the one it is a substitute in (R198, R199). -/
def State.skerryOf (s : State) (c d b : Nat) : Nat :=
  match s.farr.substitutes.find? (fun e => decide (e.1 % s.mdl.dpc = d ∧ e.2.1 = c ∧ e.2.2 = b)) with
  | some e => e.1
  | none => b * s.mdl.dpc + d

/-- The blocks of skerry `k`, by key: one on every plane of each column whose die works (R198, R199). -/
def State.blocksOf (s : State) (k : Nat) : List Nat :=
  let d := skerryDie s.mdl.dpc k
  ((List.range 16).filter (fun c => decide ((s.die c d).st ≠ 2))).flatMap (fun c =>
    (List.range s.mdl.planes).map (fun p => blockKey c d p (columnBlock s.farr.substitutes s.mdl.dpc k c)))

/-- Is every block of skerry `k` ERASED? -/
def State.allErased (s : State) (k : Nat) : Bool :=
  !s.farr.blocks.any (fun e => decide (e.2.bstate ≠ 0) && (s.blocksOf k).contains e.1)

/-- Is a block of skerry `k` a substitute in another skerry? -/
def State.lent (s : State) (k : Nat) : Bool :=
  s.farr.substitutes.any (fun e => decide (e.1 ≠ k ∧ e.1 % s.mdl.dpc = k % s.mdl.dpc ∧ e.2.2 = k / s.mdl.dpc))

/-- Is skerry `k` erased and whole, so that it may be opened? -/
def State.skErased (s : State) (k : Nat) : Bool :=
  decide ((s.sk k).next = 0 ∧ (s.sk k).closed = false) && s.allErased k && !s.lent k

/-- The highest block EC of skerry `k` (R258). -/
def State.highEc (s : State) (k : Nat) : Nat :=
  ((s.farr.blocks.filter (fun e => (s.blocksOf k).contains e.1)).map (fun e => e.2.ec)).foldl max 0

/-- The skerry with the lowest highest EC among those that pass a test, the lowest number among equals (R258). -/
def State.lowestSk (s : State) (ok : Nat → Bool) : Option Nat :=
  (List.range s.mdl.skerries).foldl (fun o k =>
    if ok k then
      match o with
      | none => some k
      | some j => if s.highEc k < s.highEc j then some k else some j
    else o) none

/-- The erased skerry of a band that FARR opens next: ascending highest EC (R258). -/
def State.freeSk (s : State) (band : Nat) (avoid : List Nat) : Option Nat :=
  s.lowestSk (fun k => decide ((s.sk k).band = band) && s.skErased k && !avoid.contains k)

/-- The erased skerry that is opened in a band: one of the band, else one of the spare band, which FARR then moves (R212). DESIGN
CHOICE, log 75. -/
def State.freeFor (s : State) (band : Nat) (avoid : List Nat) : Option Nat :=
  match s.freeSk band avoid with
  | some k => some k
  | none => s.freeSk 0 avoid

/-- An entry waits for the journal codewords of the collecting epoch (R220, R221); in volatile mode nothing is journalled. -/
def State.noteEntry (s : State) (e : JEntry) : State :=
  if s.active then s.setMedia { s.media with pend := s.media.pend ++ [(s.epoch, e)] } else s

/-- FARR moves a skerry to a band; the move is a BAND entry (R212, R221, R258). -/
def State.moveBand (s : State) (k band : Nat) : State :=
  (s.setSk k { s.sk k with band := band, slcErases := 0 }).noteEntry (.band k band (s.highEc k))

/-- Rows of a skerry in a mode (R198). -/
def ModuleCfg.rows (m : ModuleCfg) (slc : Bool) : Nat := skerryRows m.planes (m.ppb slc)

/-- An open skerry of a band and mode with room for `n` more rows. -/
def State.openSk (s : State) (band : Nat) (slc : Bool) (n : Nat) (avoid : List Nat) : Option Nat :=
  (s.media.skerries.find? (fun e => decide (e.2.band = band ∧ e.2.slc = slc ∧ 0 < e.2.next ∧ e.2.next + n ≤ s.mdl.rows slc
    ∧ e.2.closed = false) && !avoid.contains e.1)).map (·.1)

/-- Where the next `n` rows of a band go: skerry and first row (R249, R258). -/
def State.rowFor (s : State) (band : Nat) (slc : Bool) (n : Nat) (avoid : List Nat) : Option (Nat × Nat) :=
  match s.openSk band slc n avoid with
  | some k => some (k, (s.sk k).next)
  | none => (s.freeFor band avoid).map (fun k => (k, 0))

/-- `n` rows of skerry `k` from `row` on are taken, and with the first the skerry is opened in its mode. -/
def State.takeRows (s : State) (band : Nat) (slc : Bool) (n k row : Nat) : State :=
  let t := if (s.sk k).band = band then s else s.moveBand k band
  t.setSk k { t.sk k with slc := slc, next := row + n }

/-- The block with a key after its rows up to `rows` are programmed (R240). -/
def State.programKey (s : State) (slc : Bool) (rows key : Nat) : State :=
  let wp := rows * (if s.mdl.planes = 2 then 2 else 1)
  let r := Sparse.get (fun _ => freshBlock) s.farr.blocks key
  let r' : BlkRec := { r with bstate := if s.mdl.ppb slc ≤ wp then 2 else 1, slc := slc, wp := wp }
  s.setFarr { s.farr with blocks := Sparse.set (fun _ => freshBlock) s.farr.blocks key r' }

/-- The rows of skerry `k` up to `rows` are programmed on every column (R197, R240). -/
def State.rowsProgrammed (s : State) (k rows : Nat) : State :=
  (s.blocksOf k).foldl (fun t key => t.programKey (s.sk k).slc rows key) s

/-! ### Status registers, erasing and substitution (R199, R240, R254, R255, R259, R263) -/

/-- FARR's counts over every block and die (R259, R263). -/
def State.refreshFarr (s : State) : State :=
  let ecs := s.farr.blocks.map (fun e => e.2.ec)
  let all := s.mdl.dies * s.mdl.dieBlocks
  let t := (s.put FARR_RETIRED_BLOCKS ((s.farr.dies.map (fun e => e.2.retired)).foldl (· + ·) 0)).put FARR_FACTORY_BLOCKS
    (s.farr.blocks.filter (fun e => decide (e.2.bstate = 3))).length
  let u := (t.put FARR_EC_MAX_EC (ecs.foldl max 0)).put FARR_EC_MIN_EC
    (if ecs.length < all then 0 else ecs.foldl min (2 ^ 24 - 1))
  (u.put FARR_WORN_CNT_BLOCKS (s.farr.blocks.filter (fun e => e.2.worn)).length).put FARR_RELOC_LEFT_SKERRIES
    s.farr.relocating.length

/-- FDG_DIE of a die (R262). -/
def State.refreshDie (s : State) (c d : Nat) : State :=
  let x := s.die c d
  let ecs := (s.farr.blocks.filter (fun e => decide (e.1 / 65536 = dieKey c d))).map (fun e => e.2.ec)
  ((s.put (FDG_DIE_STATE c d) x.st).put (FDG_DIE_RETIRED c d) (min x.retired 0xFFF)).put (FDG_DIE_EC_MAX c d)
    (min (ecs.foldl max 0) 0xFFFF)

/-- The block's record after an erase: erased, or retired when the erase failed or retirement waited for it (R240, R250, R254). -/
def BlkRec.afterErase (r : BlkRec) (ok : Bool) : BlkRec :=
  if ok ∧ r.retire = false ∧ r.worn = false then { freshBlock with ec := (r.ec + 1) % 2 ^ 24 }
  else { freshBlock with ec := (r.ec + 1) % 2 ^ 24, bstate := 4 }

/-- Every block of the save array, by key. -/
def State.allBlocks (s : State) : List Nat :=
  (List.range 16).flatMap (fun c => (List.range (s.mdl.diesPerChannel.getD c 0)).flatMap (fun d =>
    (List.range s.mdl.planes).flatMap (fun p => (List.range s.mdl.bpp).map (blockKey c d p))))

/-- A block, by key, after the erase of the whole array: a bad block and one on a failed die are not erased (R211, R242, R359). -/
def State.erasedBlock (s : State) (failed : List Nat) (k : Nat) : BlkRec :=
  let r := Sparse.get (fun _ => freshBlock) s.farr.blocks k
  if 3 ≤ r.bstate ∨ (s.die (k / 1048576) (k / 65536 % 16)).st = 2 then r else r.afterErase (!failed.contains k)

/-- Every block in service is erased; those that fail are retired (R211, R359). -/
def State.eraseBlocks (s : State) (failed : List Nat) : State :=
  s.setFarr { s.farr with
    blocks := (s.allBlocks.map (fun k => (k, s.erasedBlock failed k))).filter (fun e => decide (e.2 ≠ freshBlock)) }

/-- Is the block that serves column `c` of skerry `k` BAD or RETIRED on a plane? -/
def State.columnBad (s : State) (k c : Nat) : Bool :=
  (List.range s.mdl.planes).any (fun p =>
    decide (3 ≤ (s.block c (skerryDie s.mdl.dpc k) p (columnBlock s.farr.substitutes s.mdl.dpc k c)).bstate))

/-- The substitute for column `c` of skerry `k`: the lowest block of the same die that lies in a spare or a whole retired skerry, is ERASED on
every plane and serves nothing else (R199, R254, R255). DESIGN CHOICE, log 80. -/
def State.spareFor (s : State) (k c : Nat) : Option Nat :=
  let d := skerryDie s.mdl.dpc k
  (List.range s.mdl.bpp).find? (fun b =>
    let j := b * s.mdl.dpc + d
    decide (j ≠ k ∧ ((s.sk j).band = 0 ∨ (s.sk j).band = 4) ∧ (s.sk j).next = 0)
      && (List.range s.mdl.planes).all (fun p => decide ((s.block c d p b).bstate = 0))
      && !s.farr.substitutes.any (fun e => decide (e.1 % s.mdl.dpc = d ∧ e.2.1 = c ∧ e.2.2 = b)))

/-- A block is taken as the substitute of column `c` of skerry `k`, with its SUBST entry (R199, R221). -/
def State.substitute (s : State) (k c b : Nat) : State :=
  (s.setFarr { s.farr with substitutes := s.farr.substitutes.filter (fun e => decide (e.1 ≠ k ∨ e.2.1 ≠ c)) ++ [(k, c, b)] }).noteEntry
    (.subst k c b)

/-- The columns of journal, SLC and image skerries that a BAD or RETIRED block serves. -/
def State.badColumns (s : State) : List (Nat × Nat) :=
  ((s.farr.blocks.filter (fun e => decide (3 ≤ e.2.bstate))).map (fun e =>
    (e.1 % 16384 * s.mdl.dpc + e.1 / 65536 % 16, e.1 / 1048576))).filter (fun e =>
      decide ((s.sk e.1).band = 1 ∨ (s.sk e.1).band = 2 ∨ (s.sk e.1).band = 3))

/-- Every such column gets a substitute; `none` when the spare band has too few blocks (R199, R255). -/
def State.substituteAll (s : State) : Option State :=
  s.badColumns.foldl (fun o e => o.bind (fun t =>
    if t.columnBad e.1 e.2 then (t.spareFor e.1 e.2).map (fun b => t.substitute e.1 e.2 b) else some t)) (some s)

/-! ### The anchor and the superblock (R214, R215) -/

/-- The dies that failed, bit 16 × die + channel (R215). -/
def State.failedDies (s : State) : Nat :=
  ((s.farr.dies.filter (fun e => decide (e.2.st = 2))).map (fun e => 2 ^ (16 * (e.1 % 16) + e.1 / 16))).foldl (· + ·) 0

/-- The next superblock version: SB_SEQ one more, with the failed dies, the generations, the ring and its substitutions (R215). -/
def State.nextSb (s : State) : Superblock :=
  { s.media.sb with
      sbSeq := s.media.sb.sbSeq + 1, failedDies := s.failedDies
      genNew := ((s.media.gens.find? (fun g => decide (g.recWseq ≠ 0))).map (·.recWseq)).getD 0
      genOld := (((s.media.gens.filter (fun g => decide (g.recWseq ≠ 0))).drop 1).map (·.recWseq)).headD 0
      jring := s.media.ring.map (·.skerry)
      jsub := (s.farr.substitutes.filter (fun e => s.media.ring.any (fun j => decide (j.skerry = e.1)))).map (fun e =>
        substAux e.2.1 e.2.2 e.1) }

/-- A version is appended to the open anchor block, or to the other one once that is erased (R214). -/
def Anchor.add (cap : Nat) (a : Anchor) (v : Superblock) : Anchor :=
  if a.cur.length < cap then { a with cur := a.cur ++ [v] } else ⟨a.other, a.openBlk, [v], a.cur⟩

/-- A channel without anchors. -/
def noAnchor : Anchor := ⟨0, 0, [], []⟩

/-- Codewords of an anchor block (R197, R214). -/
def ModuleCfg.anchorCap (m : ModuleCfg) : Nat := m.planes * m.ppbSlc * 4

/-- A superblock version is written to every working channel (R214, R257). -/
def State.writeSuperblock (s : State) : State :=
  let v := s.nextSb
  s.setMedia { s.media with
    sb := v
    anchors := (List.range 16).foldl (fun l c =>
      if s.flag (FCH_STAT_DOWN c) then l
      else Sparse.set (fun _ => noAnchor) l c ((Sparse.get (fun _ => noAnchor) l c).add s.mdl.anchorCap v)) s.media.anchors }

/-! ### The journal ring (R217, R218) -/

/-- Positions of a journal skerry (R218). -/
def ModuleCfg.positions (m : ModuleCfg) : Nat := m.rows true * 128

/-- Free positions in the newest journal skerry. -/
def State.journalRoom (s : State) : Nat :=
  match s.media.ring.getLast? with
  | none => 0
  | some j => s.mdl.positions - j.next

/-- The next `n` positions of the newest journal skerry are programmed, mirrored, each taking the next WSEQ (R217, R218). -/
def State.useJournal (s : State) (n : Nat) : State :=
  match s.media.ring.getLast? with
  | none => s
  | some j =>
    let rows := ceilDiv (j.next + n) 128
    let t := s.setMedia { s.media with wseq := s.media.wseq + n, ring := s.media.ring.dropLast ++ [{ j with next := j.next + n }] }
    (t.setSk j.skerry { t.sk j.skerry with next := rows }).rowsProgrammed j.skerry rows

/-- The next erased journal skerry joins the ring: the superblock version that names it is written first, then its header at position 0
(R214, R217). -/
def State.openJournal (s : State) : State :=
  match s.freeFor 1 [] with
  | none => s
  | some k =>
    let t := s.takeRows 1 true 1 k 0
    ((t.setMedia { t.media with ring := t.media.ring ++ [⟨k, t.media.wseq, t.media.sb.sbSeq + 1, 1⟩] }).writeSuperblock).rowsProgrammed
      k 1

/-- `n` codewords are programmed at the next positions, in as many journal skerries as they need. -/
def State.advanceJournal : Nat → Nat → State → State
  | 0, _, s => s
  | f + 1, n, s =>
    if n ≤ s.journalRoom then s.useJournal n
    else State.advanceJournal f (n - s.journalRoom) ((s.useJournal s.journalRoom).openJournal)

/-- A run of `n` codewords is written to the journal band. -/
def State.writeRun (s : State) (n : Nat) (b : JBody) : State :=
  if n = 0 then s
  else
    let t := State.advanceJournal 64 n s
    t.setMedia { t.media with runs := t.media.runs ++ [⟨s.media.wseq, n, b⟩] }

/-- The rest of the page is filled with journal pads, because its codewords must be programmed (R218). -/
def State.padPage (s : State) : State :=
  match s.media.ring.getLast? with
  | none => s
  | some j => s.writeRun ((4 - j.next % 4) % 4) .pad

/-! ### Journal codewords and seals (R219 to R224) -/

/-- Entries in groups of 255, one to a journal codeword (R220). -/
def chunk255 : Nat → List JEntry → List (List JEntry)
  | 0, _ => []
  | n + 1, l => if l = [] then [] else l.take 255 :: chunk255 n (l.drop 255)

/-- The entries of epoch `n` (R220). -/
def State.entriesOf (s : State) (n : Nat) : List JEntry := (s.media.pend.filter (fun e => decide (e.1 = n))).map (·.2)

/-- The journal codewords of epoch `n` are written, numbered from 0 (R220). -/
def State.writeEntries (s : State) (n : Nat) : State :=
  let l := s.entriesOf n
  ((chunk255 l.length l).foldl (fun (a : Nat × State) es => (a.1 + 1, a.2.writeRun 1 (.journal n a.1 es))) (0, s)).2

/-- The data fields of the journal codewords of a list of entries of epoch `n`, in order. -/
def journalFields (n : Nat) (l : List JEntry) : List (List (BitVec 8)) :=
  ((chunk255 l.length l).foldl (fun (a : Nat × List (List (BitVec 8))) es => (a.1 + 1, a.2 ++ [journalBytes n a.1 es])) (0, [])).2

/-- The seal of epoch `n` is programmed at the next position: `again` times a copy of it fails its read-back and it is written at the
position after (R219, R222). -/
def State.writeSeal (head : SealHead) (save : Option (SaveSeal × Nat × Nat)) : Nat → State → State
  | 0, s => (s.writeRun 1 (.sealRec head save false)).padPage
  | k + 1, s => State.writeSeal head save k ((s.writeRun 1 (.sealRec head save true)).padPage)

/-- The tail of epoch `n`: its journal codewords, the unsaved map of a short save, and the seal with its chain (R220, R222, R224). The
first seal of a run carries the void record (R163). -/
def State.sealJournal (s : State) (n typ : Nat) (save : Option SaveSeal) (again : Nat) : State :=
  let l := s.entriesOf n
  let t := s.writeEntries n
  let un := (save.map (·.unsaved)).getD []
  let cw := if un = [] then 0 else unsavedCw s.mdl.hostIslets
  let u := t.writeRun cw (.unsavedMap un)
  let head : SealHead :=
    { epoch := n, jcw := (chunk255 l.length l).length, sealType := typ, chain := chainOf s.media.lastHead.chain (journalFields n l)
      prevSealed := s.media.lastHead.epoch, void := s.arr.voidFrom.map (fun p => (p, s.rstr.firstEpoch - 1))
      groupSealed := if s.flag STRT_STAT_IN_GROUP then s.get64 STRT_GSEALED_LO_EPOCH else n, hours := s.recd.tenths }
  let v := State.writeSeal head (save.map (fun x => (x, if cw = 0 then 0 else t.media.wseq, cw))) again u
  v.setMedia { v.media with lastHead := head, pend := v.media.pend.filter (fun e => decide (e.1 ≠ n)) }

/-- Once the run's first seal carries the void record, the copies, journal and generations of the voided epochs count no more (R162, R163).
DESIGN CHOICE, log 77. -/
def State.dropVoid (s : State) : State :=
  match s.arr.voidFrom with
  | none => s
  | some p =>
    let gone := fun (n : Nat) => decide (p ≤ n ∧ n < s.rstr.firstEpoch)
    let t := s.setMedia { s.media with gens := s.media.gens.filter (fun g => !gone g.cg), runs := s.media.runs.filter (fun r =>
      match r.body with
      | .journal n _ _ => !gone n
      | .sealRec h _ _ => !gone h.epoch
      | .unsavedMap _ => true
      | .checkpoint _ => true
      | .generation _ => true
      | .pad => true) }
    t.setArr { t.arr with voidFrom := none
                          copies := Sparse.mapVals (fun _ => []) (fun l => l.filter (fun c => !gone c.epoch)) t.arr.copies }

/-! ### Entries of copies (R221, R247) -/

/-- The location of a copy or record: its kind, PROV, and the low 27 bits of its data epoch; place and mode only for data (R221). -/
def locOf (kind : CopyKind) (prov slc : Bool) (ep : Nat) (place : Nat × Nat × Nat) : Loc64 :=
  match kind with
  | .data => ⟨2, prov, slc, place.2.2, place.2.1, place.1, ep % 2 ^ 27⟩
  | .zero => ⟨1, prov, false, 0, 0, 0, ep % 2 ^ 27⟩
  | .poison => ⟨3, prov, false, 0, 0, 0, ep % 2 ^ 27⟩

/-- The poisoned lines of codeword `k` of a copy, as the mask of a POISON entry (R221). -/
def poisonMask (lines : List (Nat × Line)) (k : Nat) : Nat :=
  maskOf ((lines.filter (fun e => decide (e.1 / 64 = k) && e.2.poison)).map (fun e => e.1 % 64))

/-- The POISON entries of a copy, just after its own entry (R221, R247). -/
def poisonEntries (islet : Nat) (lines : List (Nat × Line)) : List JEntry :=
  ((List.range 16).filter (fun k => decide (poisonMask lines k ≠ 0))).map (fun k => .poison islet k (BitVec.ofNat 64 (poisonMask lines k)))

/-- A copy's entries join those of an epoch. -/
def State.noteCopy (s : State) (n islet : Nat) (reloc : Bool) (loc : Loc64) (lines : List (Nat × Line)) : State :=
  s.setMedia { s.media with pend := s.media.pend ++
    (((if reloc then JEntry.reloc islet loc else .copy islet loc) :: poisonEntries islet lines).map (fun e => (n, e))) }

/-! ### Generations (R226 to R229) -/

/-- What replay holds of an islet: nothing since format, read as zero (R221). -/
def noLoc : Loc64 := ⟨0, false, false, 0, 0, 0, 0⟩

/-- One entry of the journal is applied to the location table, which notes whether a RELOC entry gave the location (R229). -/
def replayEntry (t : Sparse (Loc64 × Bool)) (e : JEntry) : Sparse (Loc64 × Bool) :=
  let put := fun (i : Nat) (l : Loc64) (reloc : Bool) =>
    let h := Sparse.get (fun _ => (noLoc, false)) t i
    if h.1.kind = 0 ∨ entryReplaces reloc l h.1 h.2 (decide (h.1.kind = 2)) = true then Sparse.set (fun _ => (noLoc, false)) t i (l, reloc) else t
  match e with
  | .copy i l => put i l false
  | .reloc i l => put i l true
  | .poison _ _ _ => t
  | .band _ _ _ => t
  | .subst _ _ _ => t
  | .redirect _ _ _ _ _ _ _ => t
  | .dieFail _ _ => t

/-- Replay: from the locations of a generation, the journal codewords of the epochs after its C_G up to `p`, in WSEQ order, but for
voided epochs (R229). -/
def replay (base : Sparse Loc64) (cg p : Nat) (void : Nat → Bool) (runs : List JRun) : Sparse Loc64 :=
  (runs.foldl (fun t r =>
    match r.body with
    | .journal n _ es => if cg < n ∧ n ≤ p ∧ void n = false then es.foldl replayEntry t else t
    | .sealRec _ _ _ => t
    | .unsavedMap _ => t
    | .checkpoint _ => t
    | .generation _ => t
    | .pad => t) (base.map (fun e => (e.1, (e.2, false))))).map (fun e => (e.1, e.2.1))

/-- The codewords of a checkpoint: ISLET_SLOTS locations, the skerry entries, the substitution table with its end (R226). -/
def State.checkpointCw (s : State) : Nat :=
  ceilDiv (s.mdl.dramGiB * 16384 * 8 + s.mdl.skerries * 4 + s.farr.substitutes.length * 12 + 12) 4096

/-- The newest generation whose record is written. -/
def Media.gen (m : Media) : Option Gen := m.gens.find? (fun g => decide (g.recWseq ≠ 0))

/-- Skerries with their bands and highest erase counts, those that differ from format (R226). -/
def State.skerryEntries (s : State) : Sparse (Nat × Nat) :=
  ((s.media.skerries.map (·.1) ++ s.farr.blocks.map (fun e => s.skerryOf (e.1 / 1048576) (e.1 / 65536 % 16) (e.1 % 16384))).foldl
    insertNat []).map (fun k => (k, ((s.sk k).band, s.highEc k)))

/-- A checkpoint of the state sealed at epoch `cg` is written; its record follows with the next seal (R226, R227). DESIGN CHOICE,
log 76. DESIGN CHOICE, log 76. -/
def State.startGeneration (s : State) (cg : Nat) : State :=
  let base := s.media.gen
  let g : Gen :=
    { no := s.arr.generation + 1, cg := cg, ckpt := s.media.wseq, ckptCw := s.checkpointCw, jrn := 0, recWseq := 0
      chain := s.media.lastHead.chain
      locs := replay ((base.map (·.locs)).getD []) ((base.map (·.cg)).getD 0) cg (fun _ => false) s.media.runs
      skerries := s.skerryEntries, subst := s.farr.substitutes }
  let t := (s.writeRun g.ckptCw (.checkpoint g.no)).padPage
  t.setMedia { t.media with gens := g :: t.media.gens.filter (fun h => decide (h.recWseq ≠ 0)) }

/-- The lowest WSEQ of a journal codeword of an epoch after `cg`; the next WSEQ while there is none (R227). -/
def Media.jrnWseq (m : Media) (cg : Nat) : Nat :=
  ((m.runs.find? (fun r =>
    match r.body with
    | .journal n _ _ => decide (cg < n)
    | .sealRec _ _ _ => false
    | .unsavedMap _ => false
    | .checkpoint _ => false
    | .generation _ => false
    | .pad => false)).map (·.first)).getD m.wseq

/-- The record of a generation whose checkpoint is written follows it, and a superblock version names it (R227). Two generations are
kept (R228). -/
def State.endGeneration (s : State) : State :=
  match s.media.gens with
  | [] => s
  | g :: l =>
    if g.recWseq ≠ 0 then s
    else
      let t := (s.writeRun 1 (.generation g.no)).padPage
      let u := t.setMedia { t.media with
        gens := { g with recWseq := s.media.wseq, jrn := s.media.jrnWseq g.cg } :: l.take 1 }
      (u.setArr { u.arr with generation := g.no, journalPages := 0 }).writeSuperblock

/-- The older of the two generations, or the only one. -/
def Media.olderGen (m : Media) : Option Gen := (m.gens.filter (fun g => decide (g.recWseq ≠ 0))).getLast?

/-- May journal skerry `k` be erased: every WSEQ in it lies below the older generation's CKPT_WSEQ and JRN_WSEQ (R228)? -/
def State.journalDone (s : State) (k : Nat) : Bool :=
  match s.media.ring.find? (fun j => decide (j.skerry = k)) with
  | none => true
  | some j =>
    match s.media.olderGen with
    | none => false
    | some g => decide (j.first + j.next - 2 < g.ckpt ∧ j.first + j.next - 2 < g.jrn)

/-! ### What detection reads (R159, R214, R216, R219, R223, R227) -/

/-- The two anchor blocks of every channel, when each has two (R214): blocks 0 to 7 of die 0 without a factory mark on any plane. -/
def State.anchorsOf (s : State) : Option (List (Nat × Nat)) :=
  (List.range 16).foldr (fun c o =>
    match anchorBlocks (fun b => (List.range s.mdl.planes).any (fun p => decide ((s.block c 0 p b).bstate = 3))), o with
    | some a, some l => some (a :: l)
    | _, _ => none) (some [])

/-- The superblock that image detection takes: the valid version with the highest SB_SEQ found on any channel; none where there is
none or the newest differ (R216). -/
def State.newestSb (s : State) (bad : List Nat) : Option Superblock :=
  let l := (s.media.anchors.filter (fun e => !bad.contains e.1)).filterMap (fun e => e.2.cur.getLast?)
  let top := l.foldl (fun a v => max a v.sbSeq) 0
  match l.filter (fun v => decide (v.sbSeq = top)) with
  | [] => none
  | v :: t => if t.all (fun w => decide (w = v)) then some v else none

/-- Does every codeword of a run read back whole (R219)? -/
def JRun.whole (r : JRun) (bad : List Nat) : Bool := !bad.any (fun w => decide (r.first ≤ w ∧ w < r.first + r.count))

/-- Does a generation validate: its record and every checkpoint codeword read back whole (R227)? -/
def Gen.validates (g : Gen) (bad : List Nat) : Bool :=
  decide (g.recWseq ≠ 0) && !bad.any (fun w => decide (w = g.recWseq ∨ (g.ckpt ≤ w ∧ w < g.ckpt + g.ckptCw)))

/-- The newest generation that validates (R159). -/
def Media.validGen (m : Media) (bad : List Nat) : Option Gen := m.gens.find? (fun g => g.validates bad)

/-- The data fields of epoch `n`'s journal codewords that read back whole. -/
def Media.fieldsOf (m : Media) (bad : List Nat) (n : Nat) : List (List (BitVec 8)) :=
  m.runs.filterMap (fun r =>
    match r.body with
    | .journal e k es => if e = n ∧ r.whole bad = true then some (journalBytes e k es) else none
    | .sealRec _ _ _ => none
    | .unsavedMap _ => none
    | .checkpoint _ => none
    | .generation _ => none
    | .pad => none)

/-- The seals after epoch `cg` in WSEQ order, `none` where one does not read back whole; a seal that was written again because a copy
failed counts once (R219, R223). DESIGN CHOICE, log 77. -/
def Media.sealsAfter (m : Media) (bad : List Nat) (cg : Nat) : List (Option SealHead) :=
  m.runs.filterMap (fun r =>
    match r.body with
    | .sealRec h _ failed => if failed = true ∨ h.epoch ≤ cg then none else if r.whole bad then some (some h) else some none
    | .journal _ _ _ => none
    | .unsavedMap _ => none
    | .checkpoint _ => none
    | .generation _ => none
    | .pad => none)

/-- H: the epoch of the last whole seal, from the sealed epoch and chain of a generation (R159, R223). -/
def Media.lastWhole (m : Media) (bad : List Nat) (epoch chain : Nat) : List (Option SealHead) → Nat
  | [] => epoch
  | none :: _ => epoch
  | some h :: t =>
    if sealWhole ⟨epoch, 0, 0, chain, 0, none, 0, 0⟩ h (m.fieldsOf bad h.epoch) then m.lastWhole bad h.epoch h.chain t else epoch

/-- The highest sealed epoch that detection finds, from a generation (R159, R223). -/
def Media.found (m : Media) (bad : List Nat) (g : Gen) : Nat := m.lastWhole bad g.cg g.chain (m.sealsAfter bad g.cg)

/-- The seal of an epoch that the journal band holds: its head, and what a save seal adds. -/
def Media.sealOf (m : Media) (n : Nat) : Option (SealHead × Option (SaveSeal × Nat × Nat)) :=
  m.runs.reverse.findSome? (fun r =>
    match r.body with
    | .sealRec h x failed => if h.epoch = n ∧ failed = false then some (h, x) else none
    | .journal _ _ _ => none
    | .unsavedMap _ => none
    | .checkpoint _ => none
    | .generation _ => none
    | .pad => none)

/-! ### Copies, and what replay tells of skerries and blocks (R162, R163, R229, R240) -/

/-- Is a copy's epoch void: above the restore point, and below the first epoch of the run, whose first seal will say so (R162, R163)? -/
def State.voided (s : State) (c : ArrCopy) : Bool :=
  match s.arr.voidFrom with
  | none => false
  | some p => decide (p ≤ c.epoch ∧ c.epoch < s.rstr.firstEpoch)

/-- The copies of islet `i` in the save array, but for those of voided epochs. -/
def State.copiesOn (s : State) (i : Nat) : List ArrCopy :=
  (Sparse.get (fun _ => []) s.arr.copies i).filter (fun c => !s.voided c)

/-- The journal entries of epochs after `cg` up to `p`, in WSEQ order (R229). -/
def Media.entriesUpTo (m : Media) (cg p : Nat) : List JEntry :=
  m.runs.flatMap (fun r =>
    match r.body with
    | .journal n _ es => if cg < n ∧ n ≤ p then es else []
    | .sealRec _ _ _ => []
    | .unsavedMap _ => []
    | .checkpoint _ => []
    | .generation _ => []
    | .pad => [])

/-- Band and erase count of skerry `k`: its newest BAND entry, else the checkpoint, else the format (R213, R221, R226, R240). -/
def skerryAfter (m : ModuleCfg) (base : Sparse (Nat × Nat)) (l : List JEntry) (k : Nat) : Nat × Nat :=
  l.foldl (fun a e =>
    match e with
    | .band j b n => if j = k then (b, n) else a
    | .copy _ _ => a
    | .reloc _ _ => a
    | .poison _ _ _ => a
    | .subst _ _ _ => a
    | .redirect _ _ _ _ _ _ _ => a
    | .dieFail _ _ => a) (Sparse.get (fun n => (formatBand m n, 0)) base k)

/-- The substitution table after replay (R199, R226, R229). -/
def substAfter (base : List (Nat × Nat × Nat)) (l : List JEntry) : List (Nat × Nat × Nat) :=
  l.foldl (fun a e =>
    match e with
    | .subst k c b => a.filter (fun x => decide (x.1 ≠ k ∨ x.2.1 ≠ c)) ++ [(k, c, b)]
    | .copy _ _ => a
    | .reloc _ _ => a
    | .poison _ _ _ => a
    | .band _ _ _ => a
    | .redirect _ _ _ _ _ _ _ => a
    | .dieFail _ _ => a) base

/-- FARR's tables at a cold start: bands and substitutions from replay, and the block records, whose erase counts come from their skerry's BAND
entry or checkpoint and whose flags and counts since the last erase are gone (R226, R229, R240). DEDUCED, log 81. -/
def State.replayTables (s : State) (g : Gen) (p : Nat) : State :=
  let l := s.media.entriesUpTo g.cg p
  let after := skerryAfter s.mdl g.skerries l
  let ring := s.media.ring.map (·.skerry)
  let t := s.setMedia { s.media with skerries := s.media.skerries.map (fun e =>
    (e.1, { e.2 with band := if ring.contains e.1 then 1 else (after e.1).1 })) }
  let u := t.setFarr { t.farr with substitutes := substAfter g.subst l }
  u.setFarr { u.farr with
    blocks := u.farr.blocks.map (fun e => (e.1, { e.2 with
      ec := (after (u.skerryOf (e.1 / 1048576) (e.1 / 65536 % 16) (e.1 % 16384))).2, early := 0, worn := false, slow := 0, rebuilds := 0, reads := 0 }))
    dies := u.farr.dies.map (fun e => (e.1, { e.2 with worn := 0 })) }

/-- Was the member of a row on column `col` placed elsewhere by a REDIRECT entry (R146, R257)? -/
def State.redirected (s : State) (k row col : Nat) : Bool :=
  s.media.runs.any (fun r =>
    match r.body with
    | .journal _ _ es => es.any (fun e => match e with
      | .redirect j c _ _ _ _ sr => decide (j = k ∧ c = col ∧ sr = row)
      | .copy _ _ => false
      | .reloc _ _ => false
      | .poison _ _ _ => false
      | .band _ _ _ => false
      | .subst _ _ _ => false
      | .dieFail _ _ => false)
    | .sealRec _ _ _ => false
    | .unsavedMap _ => false
    | .checkpoint _ => false
    | .generation _ => false
    | .pad => false)

/-- The columns of a row whose member lies on a failed die (R182, R257). -/
def State.deadColumns (s : State) (k row : Nat) : List Nat :=
  (List.range 16).filter (fun c => decide ((s.die c (skerryDie s.mdl.dpc k)).st = 2) && !s.redirected k row c)

/-! ### The bytes on the dies (R10, R200 to R208, R217 to R227) -/

/-- The media key in the clear, as the engines hold it (R208, R209). -/
def State.keyOf (s : State) : Nat :=
  match Sparse.get (fun _ => none) s.kept.keys s.arr.keySlot with
  | some k => Config.kekUnwrap k.key
  | none => 0

/-- The copy in stripe column `j` of a row, with its islet (R204). -/
def State.copyAt (s : State) (k row j : Nat) : Option (Nat × ArrCopy) :=
  s.arr.copies.findSome? (fun e => (e.2.find? (fun c =>
    decide (c.loc.kind = 2 ∧ c.loc.skerry = k ∧ c.loc.row = row ∧ c.loc.col = j))).map (fun c => (e.1, c)))

/-- The 4,096 bytes of codeword `k` of an islet. -/
def copyUnit (lines : List (Nat × Line)) (k : Nat) : List (BitVec 8) :=
  (List.range 64).flatMap (fun n => leBytes 64 (Sparse.get (fun _ => zeroLine) lines (64 * k + n)).data.toNat)

/-- Was the copy written by a power-fail save (R202)? -/
def State.bySave (s : State) (c : ArrCopy) : Bool :=
  decide (c.dataEpoch = c.epoch) && (match s.media.sealOf c.epoch with
    | some (_, some _) => true
    | _ => false)

/-- Tag and stored data field of the cell of a slot that is not its parity: a codeword of a copy, encrypted, or a pad of zeros (R202, R204,
R205, R208). -/
def State.dataCell (s : State) (k row slot col : Nat) : CwTag × List (BitVec 8) :=
  match s.copyAt k row ((col + 31 - slot) % 16) with
  | some (i, c) =>
    (CwTag.ofData c.loc c.reloc (s.bySave c) i col c.dataEpoch s.arr.groupTag,
      encryptUnit s.keyOf (leNat (dataTweak i col c.dataEpoch)) (copyUnit c.lines col))
  | none => (CwTag.ofPad (s.sk k).slc k s.arr.groupTag, List.replicate 4096 0)

/-- The 4,588 bytes of a cell of the image or SLC band (R200 to R205, R208). -/
def State.cellBytes (s : State) (k row slot col : Nat) : List (BitVec 8) :=
  if slot = col then
    codewordBytes (CwTag.ofParity slot (s.sk k).slc k s.arr.groupTag)
      ((List.range 4096).map (fun b => parityByte (fun d => ((s.dataCell k row slot d).2).getD b 0) slot))
  else codewordBytes (s.dataCell k row slot col).1 (s.dataCell k row slot col).2

/-- The locations, skerries and substitutions of a generation as its checkpoint streams them (R226). -/
def State.checkpointOf (s : State) (g : Gen) : List (BitVec 8) :=
  checkpointBytes ((List.range (s.mdl.dramGiB * 16384)).map (Sparse.get (fun _ => noLoc) g.locs))
    ((List.range s.mdl.skerries).map (Sparse.get (fun k => (formatBand s.mdl k, 0)) g.skerries)) g.subst

/-- KIND and data field, in the clear, of the codeword of the journal band with a WSEQ (R217 to R227). -/
def State.journalField (s : State) (w : Nat) : Option (CwKind × List (BitVec 8)) :=
  match s.media.runs.find? (fun r => decide (r.first ≤ w ∧ w < r.first + r.count)) with
  | none => none
  | some r =>
    some (match r.body with
    | .journal n k es => (.journal, journalBytes n k es)
    | .sealRec h x _ => (.sealRec, sealBytes h x)
    | .unsavedMap l => (.unsavedMap, (List.range 4096).map (fun b => unsavedByte s.mdl.hostIslets l ((w - r.first) * 4096 + b)))
    | .checkpoint no => (.checkpoint, match s.media.gens.find? (fun g => decide (g.no = no)) with
      | some g => ((s.checkpointOf g).drop ((w - r.first) * 4096)).take 4096
      | none => [])
    | .generation no => (.generation, match s.media.gens.find? (fun g => decide (g.no = no)) with
      | some g => generationBytes g.no g.cg g.ckpt g.ckptCw (crc32c (s.checkpointOf g)).toNat g.jrn (s.mdl.dramGiB * 16384) s.mdl.skerries
      | none => [])
    | .pad => (.journalPad, List.replicate 4096 0))

/-- The 4,588 bytes of either copy of that codeword (R200 to R202, R208, R218). -/
def State.journalCell (s : State) (w : Nat) (mirror : Bool) (skerry : Nat) : Option (List (BitVec 8)) :=
  (s.journalField w).map (fun e =>
    codewordBytes (CwTag.ofMeta e.1 mirror w skerry s.arr.groupTag) (encryptUnit s.keyOf (leNat (metaTweak w)) e.2))

/-! ### What may be erased (R189, R230) -/

/-- The newest epoch up to which superseding entries count: sealed, and in a group sealed by every member (R189, R230). -/
def State.erasureBound (s : State) : Nat :=
  if s.flag STRT_STAT_IN_GROUP then min s.sealedEpoch (s.get64 STRT_GSEALED_LO_EPOCH) else s.sealedEpoch

/-- Is a copy superseded or relocated by an entry of an epoch up to `b` (R189, R230)? -/
def supersededBy (l : List ArrCopy) (c : ArrCopy) (b : Nat) : Bool :=
  l.any (fun d => decide (d ≠ c ∧ d.epoch ≤ b ∧ d.loc ≠ c.loc ∧ (c.dataEpoch < d.dataEpoch ∨ (c.dataEpoch = d.dataEpoch ∧ c.epoch < d.epoch))))

/-- Do the copies in skerry `k` let it be erased (R189, R230)? Copies that are not sealed yet keep it. The older generation's journal
holds every sealed entry after its C_G, so that a copy superseded by one of them is not needed by it. -/
def State.copiesDone (s : State) (k : Nat) : Bool :=
  s.arr.copies.all (fun e => e.2.all (fun c => decide (c.loc.kind ≠ 2 ∨ c.loc.skerry ≠ k) || supersededBy (s.copiesOn e.1) c s.erasureBound))
    && !s.pers.copies.any (fun c => decide (c.loc.kind = 2 ∧ c.loc.skerry = k))
    && !s.farr.stripes.any (fun t => decide (t.skerry = k))

/-- The REDIRECT entries that are journalled or wait to be: skerry of the stripe, die and block that hold the member (R146, R257). -/
def State.redirects (s : State) : List (Nat × Nat × Nat) :=
  (s.media.runs.flatMap (fun r =>
    match r.body with
    | .journal _ _ es => es
    | .sealRec _ _ _ => []
    | .unsavedMap _ => []
    | .checkpoint _ => []
    | .generation _ => []
    | .pad => []) ++ s.media.pend.map (·.2)).filterMap (fun e =>
      match e with
      | .redirect k _ _ d b _ _ => some (k, d, b)
      | .copy _ _ => none
      | .reloc _ _ => none
      | .poison _ _ _ => none
      | .band _ _ _ => none
      | .subst _ _ _ => none
      | .dieFail _ _ => none)

/-- Does a block of skerry `k` hold a redirected member of a stripe whose copies are still needed (R146, R230)? -/
def State.holdsMember (s : State) (k : Nat) : Bool :=
  s.redirects.any (fun e => decide (e.2.2 * s.mdl.dpc + e.2.1 = k) && !s.copiesDone e.1)

/-- May skerry `k` be erased (R189, R228, R230)? The plan's hold concerns erased skerries alone (R124). -/
def State.mayErase (s : State) (k : Nat) : Bool :=
  skerryErasable (s.copiesDone k && !s.holdsMember k) true true (!s.journalDone k)

end Sys2Proof.Machine
end

