-- ==== Sys2Proof/Machine/Shadow.lean ====
section
/-! DEFINITION. The background shadow: eligibility (R62, R63), the cooling queue, return list and sweeps (R97 to R102),
the copy streams (R103 to R108, R112), stripes (R207, R244), the epochs with their tails and seals (R69 to R72, R89,
R90), and folding (R109, R110). -/

namespace Sys2Proof.Machine

/-! ### Eligibility (R62, R63) -/

/-- K of R62 for a cooldown of `ms` shifted right by `shift`, in epochs of `len` passes. -/
def coldEpochs (ms shift len : Nat) : Nat := ceilDiv (ms * 1000 / 2 ^ shift) len

/-- Is a COOLING record eligible by age: cold, or at level 3 and above past the shortened cooldown (R62, R63)? -/
def State.agedOut (s : State) (r : IsletRec) : Bool :=
  let d := dist48 r.stamp s.epoch
  decide (coldEpochs (s.cfg PERS_COOLDOWN_MS) 0 s.pers.epochLen + 1 ≤ d)
    || (decide (3 ≤ s.level)
        && decide (coldEpochs (s.cfg PERS_COOLDOWN_MS) (s.cfg PERS_BOOST_COOL_SHIFT) s.pers.epochLen + 1 ≤ d))

/-- May the shadow start a read on islet `i` (R63, R102)? A host write in the tick's own cycle comes first, and the read does
not start (R65). -/
def State.eligible (s : State) (i : Nat) : Bool :=
  let r := s.recOf i
  s.isRestored i && decide (r.st = .dirty) && !s.pers.hit.contains i &&
    (if r.cooling s.epoch then s.agedOut r || s.covered r.entry else s.covered r.entry)

/-! ### The cooling queue and the return list (R97 to R99) -/

/-- Sweep mode begins (R99): appending stops and the overflow sweep starts from islet 0. -/
def State.enterSweep (s : State) : State :=
  (((s.put PERS_SHD_STAT_SWEEP 1).bump PERS_CQ_OVF_COUNT).setPers
    { s.pers with appendStopped := true, sweepFresh := false, sweepPos := 0 }).raiseInt 0x21 0

/-- Appends an entry to the cooling queue (R97, R99). -/
def State.appendCool (s : State) (e : CoolEntry) : State :=
  if s.pers.appendStopped then s
  else if 8388608 ≤ s.pers.queue.length then s.enterSweep
  else s.setPers { s.pers with queue := s.pers.queue ++ [e] }

/-- An islet that enters COOLING by transition 10 or 12 joins the return list, or the queue when the list is full (R97); the list
takes entries in sweep mode too. DESIGN CHOICE, log 72. -/
def State.appendReturn (s : State) (e : CoolEntry) : State :=
  if s.pers.retq.length < 4096 then s.setPers { s.pers with retq := s.pers.retq ++ [e] } else s.appendCool e

/-- Is an entry stale: its islet no longer COOLING, or its STAMP another (R98)? -/
def State.stale (s : State) (e : CoolEntry) : Bool :=
  !(s.recOf e.islet).cooling s.epoch || decide ((s.recOf e.islet).stamp ≠ low48 e.tag)

/-- Is the head of a list stale? -/
def State.headStale (s : State) (l : List CoolEntry) : Bool :=
  match l with
  | [] => false
  | e :: _ => s.stale e

/-- Discards up to `n` stale entries at the heads of the return list and the queue, counting them (R98). -/
def State.discardStale : Nat → State → State
  | 0, s => s
  | n + 1, s =>
    if s.headStale s.pers.retq then
      State.discardStale n ((s.bump PERS_CQ_STALE_COUNT).setPers { s.pers with retq := s.pers.retq.drop 1 })
    else if s.headStale s.pers.queue then
      State.discardStale n ((s.bump PERS_CQ_STALE_COUNT).setPers { s.pers with queue := s.pers.queue.drop 1 })
    else s

/-! ### The selector (R101) -/

/-- The sources of R101, in their order. -/
inductive Source where
  | barrier | returned | queue | sweep
  deriving DecidableEq, Repr

/-- The islet the barrier sweep offers next; it passes over islets not yet restored (R100, R102), and waits at one that a host
write reaches in the tick's own cycle (R65). DESIGN CHOICE, log 73. -/
def State.barOffer (s : State) : Option Nat :=
  match s.pers.barNs with
  | none => none
  | some ns => (s.pers.islets.find? (fun e => decide (s.pers.barPos ≤ e.1 ∧ e.2.st = .dirty)
      && le48 e.2.entry ns && s.isRestored e.1)).bind (fun e => if s.pers.hit.contains e.1 then none else some e.1)

/-- The head of a list when its islet is eligible. -/
def State.headOffer (s : State) (l : List CoolEntry) : Option Nat :=
  match l with
  | [] => none
  | e :: _ => if s.eligible e.islet && !s.stale e then some e.islet else none

/-- The islet the overflow sweep offers next, in sweep mode (R99). -/
def State.sweepOffer (s : State) : Option Nat :=
  if s.flag PERS_SHD_STAT_SWEEP then
    (s.pers.islets.find? (fun e => decide (s.pers.sweepPos ≤ e.1) && e.2.cooling s.epoch && s.eligible e.1)).map (·.1)
  else none

/-- The next offer, from the first source that yields one (R101). -/
def State.offer (s : State) : Option (Source × Nat) :=
  match s.barOffer with
  | some i => some (.barrier, i)
  | none =>
    match s.headOffer s.pers.retq with
    | some i => some (.returned, i)
    | none =>
      match s.headOffer s.pers.queue with
      | some i => some (.queue, i)
      | none => s.sweepOffer.map (fun i => (.sweep, i))

/-- The offer is taken from its source. -/
def State.takeOffer (s : State) (src : Source) (i : Nat) : State :=
  match src with
  | .barrier => s.setPers { s.pers with barPos := i + 1, barOffered := true }
  | .returned => s.setPers { s.pers with retq := s.pers.retq.drop 1 }
  | .queue => s.setPers { s.pers with queue := s.pers.queue.drop 1 }
  | .sweep => s.setPers { s.pers with sweepPos := i + 1 }

/-! ### Copy streams (R103, R104, R107, R108, R112) -/

/-- Free 64 KiB places in the staging bank of stream `n` (R103). -/
def State.streamRoom (s : State) (n : Nat) : Nat :=
  16 - (s.pers.copies.filter (fun c => c.inStaging && decide (c.stream = n))).length

/-- The stream that takes the next copy: the most free room, the lowest number among equals (R103). -/
def State.pickStream (s : State) : Option Nat :=
  (List.range (s.cfg PERS_SHD_CFG_STREAMS)).foldl (fun best n =>
    if s.streamRoom n = 0 then best
    else match best with
      | none => some n
      | some b => if s.streamRoom b < s.streamRoom n then some n else best) none

/-- Is a start from this source subject to the rate cap (R112)? -/
def State.capped (s : State) (src : Source) : Bool :=
  decide (src ≠ .barrier) && decide (s.level ≤ 1) && decide (s.cfg PERS_SHD_RATE_MBPS ≠ 0)

/-- Would a copy from this source be an SLC burst if there is room (R107)? -/
def State.wantsBurst (s : State) (src : Source) : Bool :=
  s.cfgOn PERS_CTRL_SLC_EN && (decide (2 ≤ s.level) || decide (src = .barrier))

/-- The lowest free 64 KiB place in the staging bank of stream `n` (R103). -/
def State.freePlace (s : State) (n : Nat) : Nat :=
  ((List.range 16).find? (fun p => !s.pers.copies.any (fun c => c.inStaging && decide (c.stream = n ∧ c.place = p)))).getD 0

/-- The read of islet `i` starts on stream `n`: transition 5, or transition 6 for a DIRTY islet (R64, R104, R108). -/
def State.startRead (s : State) (src : Source) (i n : Nat) : State :=
  let r := s.recOf i
  let prov := !r.cooling s.epoch
  let burst := s.wantsBurst src && decide (0 < s.bandRoom)
  let t := s.setRec i { r with st := if prov then .provisional else .inCopy }
  let u := if prov then t.bump PERS_PROV_COUNT else t
  let v := u.setPers { u.pers with
    copies := u.pers.copies ++
      [⟨i, n, s.freePlace n, s.epoch, prov, burst, decide (src = .barrier), s.capped src, .data, .reading, [], s.now, noLoc⟩]
    bandUsed := u.pers.bandUsed + b2n burst
    tokens := if s.capped src then u.pers.tokens - 65536 else u.pers.tokens }
  let w := (v.takeOffer src i).refresh
  if s.wantsBurst src && !burst then (w.put PERS_SHD_STAT_BURST_BLOCKED 1).raiseInt 0x21 1 else w

/-- One copy is started, if an offer, a stream and, under the cap, tokens are there (R101, R103, R112). -/
def State.startOne (s : State) : State :=
  match s.offer with
  | none => s
  | some (src, i) =>
    match s.pickStream with
    | none => s
    | some n =>
      if s.capped src && decide (s.pers.tokens < 65536) then s.put PERS_SHD_STAT_RATE_LIMITED 1
      else s.startRead src i n

/-- Entries of the return list and of the cooling queue. -/
def State.listed (s : State) : Nat := s.pers.retq.length + s.pers.queue.length

/-- Up to `n` copies are started; of the pass's discards `k` are left, and a stale entry that comes to a head is discarded before
the next offer (R98, R101). -/
def State.startCopies : Nat → Nat → State → State
  | 0, k, s => State.discardStale k s
  | n + 1, k, s =>
    let t := State.discardStale k s
    State.startCopies n (k - (s.listed - t.listed)) t.startOne

/-- The tokens rise by MBPS each pass, up to MBPS × 100; they start full after reset (R112). DEDUCED, log 34. -/
def State.addTokens (s : State) : State :=
  let m := s.cfg PERS_SHD_RATE_MBPS
  s.setPers { s.pers with tokens := if s.pers.tokensFilled then min (s.pers.tokens + m) (m * 100) else m * 100
                          tokensFilled := s.pers.tokensFilled || decide (m ≠ 0) }

/-- The shadow's work at a tick for which the environment says how many copies its units let start, and which islets host writes
reach in the tick's cycle (R65, R67, R98, R103). -/
def State.shadowTick (s : State) (starts : Nat) (hit : List Nat) : State :=
  let a := (s.addTokens).put PERS_SHD_STAT_RATE_LIMITED 0
  let t := a.setPers { a.pers with hit := hit }
  (if t.active && t.cfgOn PERS_CTRL_SHADOW_EN && !t.saving then State.startCopies starts 256 t else State.discardStale 256 t).refresh

/-! ### The end of a copy's read (R104, R105, R112) -/

/-- The copy of islet `i` that is being read. -/
def State.readingCopy (s : State) (i : Nat) : Option Copy :=
  s.pers.copies.find? (fun c => decide (c.islet = i ∧ c.phase = .reading))

/-- Replaces the copy of islet `i` that is being read. -/
def State.setReading (s : State) (i : Nat) (c : Copy) : State :=
  s.setPers { s.pers with copies := s.pers.copies.map (fun d => if d.islet = i ∧ d.phase = .reading then c else d) }

/-- An islet becomes DIRTY or COOLING by transition 10 or 12, and joins the return list when COOLING. -/
def State.backToDirty (s : State) (i : Nat) : State :=
  let r := { s.recOf i with st := .dirty }
  let t := s.setRec i r
  if r.cooling s.epoch then t.appendReturn ⟨i, r.stamp⟩ else t

/-- The tokens a zero copy took are given back, up to the ceiling (R112). -/
def State.refund (s : State) (c : Copy) : State :=
  if c.capped then
    s.setPers { s.pers with tokens := min (s.pers.tokens + 65536) (s.cfg PERS_SHD_RATE_MBPS * 100) }
  else s

/-- A 64 KiB slot of staging is filled with the lines of a copy, and its tag set: islet and RD_EPOCH (R278). -/
def State.fillSlot (s : State) (slot islet rd : Nat) (lines : List (Nat × Line)) : State :=
  s.setMov { s.mov with
    stage := lines.foldl (fun l e => Sparse.set (fun _ => zeroLine) l (slot * 1024 + e.1) e.2)
      (s.mov.stage.filter (fun e => decide (e.1 / 1024 ≠ slot)))
    tags := Sparse.set (fun _ => ⟨0, 0, false⟩) s.mov.tags slot ⟨islet, rd, false⟩ }

/-- A copy's lines fill its place in staging bank s, by mover channel s (R103, R278). -/
def State.fillStaging (s : State) (c : Copy) (lines : List (Nat × Line)) : State :=
  s.fillSlot (c.stream * 16 + c.place) c.islet c.r lines

/-- The last line of islet `i`'s copy arrives in staging: transition 8, 9 or 10 (R64, R105). -/
def State.endRead (s : State) (i : Nat) : State :=
  match s.readingCopy i with
  | none => s
  | some c =>
    let t := s.drcIslet i false
    let r := s.recOf i
    if r.st = .inCopy ∧ s.isletZero i = true then
      -- transition 9: a zero record, dropped from staging; its room and tokens return
      let u := (t.setRec i { r with st := .clean }).setReading i
        { c with kind := .zero, slc := false, phase := .journalled s.epoch }
      let v := ((u.bump64 PERS_SHD_ZERO_LO_COUNT).refund c).noteCopy s.epoch i false (locOf .zero c.prov false c.r (0, 0, 0)) []
      (v.setPers { v.pers with bandUsed := v.pers.bandUsed - b2n c.slc }).refresh
    else
      let lines := (s.isletLines i).map (fun e => (e.1, e.2.carried))
      let u := (t.setReading i { c with phase := .staged, lines := lines, stagedAt := s.now }).fillStaging c lines
      -- transition 8, or transition 10 for a provisional copy
      (if r.st = .inCopy then u.setRec i { r with st := .clean } else u.backToDirty i).refresh

/-! ### Stripes (R207, R244, R249) -/

/-- How many copies fill a program: a stripe of 15 in SLC mode, the three rows of a wordline in TLC mode. -/
def stripeFill (slc : Bool) : Nat := if slc then 15 else 45

/-- The staged copies of a mode that no stripe holds, oldest first. -/
def State.unstriped (s : State) (slc : Bool) : List Copy :=
  s.pers.copies.filter (fun c => decide (c.phase = .staged ∧ c.slc = slc)
    && !s.farr.stripes.any (fun t => t.islets.contains (c.islet, c.r) && decide (t.slc = slc)))

/-- The code of the band that copies of a mode go to: the SLC reserve or the image band (R107, R212). -/
def bandFor (slc : Bool) : Nat := if slc then 2 else 3

/-- Rows a program of a mode takes: one, or the three of a TLC wordline (R244). -/
def rowsFor (slc : Bool) : Nat := if slc then 1 else 3

/-- A stripe is formed from the staged copies of a mode: when they fill it, or (`forced`) with pad cells (R207). It takes the next
row, or wordline, of an open skerry of its band, outside the save plan (R124, R204, R244); while the band has none the copies wait. -/
def State.formStripe (s : State) (slc forced : Bool) : State :=
  let l := s.unstriped slc
  if l ≠ [] ∧ (forced = true ∨ stripeFill slc ≤ l.length) then
    match s.rowFor (bandFor slc) slc (rowsFor slc) s.save.plan with
    | none => s
    | some (k, row) =>
      let t := s.takeRows (bandFor slc) slc (rowsFor slc) k row
      t.setFarr { t.farr with
        stripes := t.farr.stripes ++
          [⟨t.farr.nextStripe, k, row, .shadow, slc, (l.take (stripeFill slc)).map (fun c => (c.islet, c.r)), [], 0⟩]
        nextStripe := t.farr.nextStripe + 1 }
  else s

/-- Adds a copy in skerry `k` to that erase unit of the SLC band (R109). -/
def addToBand (units : List BandUnit) (k : Nat) (e : Nat × Nat) (epoch : Nat) : List BandUnit :=
  if units.any (fun u => decide (u.skerry = k ∧ u.left = none)) then
    units.map (fun u => if u.skerry = k ∧ u.left = none then { u with copies := u.copies ++ [e], newest := epoch } else u)
  else units ++ [⟨k, [e], epoch, none, none⟩]

/-- The staged copy `i` (islet and read-start epoch) is programmed at its place (skerry, row, stripe column) and journalled in the
collecting epoch (R70, R221). -/
def State.copyProgrammed (s : State) (slc : Bool) (place : Nat × Nat × Nat) (i : Nat × Nat) : State :=
  match s.pers.copies.find? (fun c => decide (c.islet = i.1 ∧ c.r = i.2 ∧ c.phase = .staged ∧ c.slc = slc)) with
  | none => s
  | some c =>
    let t := s.bump64 PERS_SHD_DATA_LO_COUNT
    let u := if c.slc then t.bump64 PERS_SHD_SLC_LO_COUNT else t
    let loc := locOf c.kind c.prov c.slc c.r place
    (u.setPers { u.pers with
      copies := u.pers.copies.map (fun d => if d = c then { d with phase := .journalled s.epoch, loc := loc } else d)
      band := if c.slc then addToBand u.pers.band place.1 (i.1, c.r) s.epoch else u.pers.band }).noteCopy s.epoch i.1 false loc c.lines

/-- Does this copy take its islet through transition 13, and by its abandonment through transition 12: the islet is CLEAN and this
is the copy that made it so, its newest whole one (R64)? -/
def State.takes13 (s : State) (c : Copy) : Bool :=
  decide ((s.recOf c.islet).st = .clean) && !c.prov
    && !s.pers.copies.any (fun d => decide (d.islet = c.islet ∧ d.prov = false ∧ c.r < d.r))

/-- A copy is abandoned: transition 12 when it made its islet CLEAN; its band room returns (R64, R106, R108). -/
def State.abandonCopy (s : State) (c : Copy) : State :=
  let t := (s.bump PERS_SHD_ABANDON_COUNT).setPers { s.pers with
    copies := s.pers.copies.filter (fun d => decide (d ≠ c))
    bandUsed := s.pers.bandUsed - b2n c.slc }
  if s.takes13 c then t.backToDirty c.islet else t

/-! ### Barrier sweeps (R100) -/

/-- Barriers bound to a closed epoch. -/
def State.closedBars (s : State) : List Barrier := s.pers.barriers.filter (fun b => b.count.isSome)

/-- A barrier sweep starts when a barrier is bound to a closed epoch (R100). -/
def State.startBarSweep (s : State) : State :=
  if s.closedBars = [] then (s.put PERS_SHD_STAT_BAR_SWEEP 0).setPers { s.pers with barNs := none, barWait := false }
  else ((s.put PERS_SHD_STAT_BAR_SWEEP 1).bump PERS_BAR_SWEEPS_COUNT).setPers { s.pers with
    barNs := some (s.closedBars.foldl (fun n b => max n b.nb) 0), barPos := 0, barOffered := false, barWait := false }

/-- A barrier sweep ends (R100). -/
def State.endBarSweep (s : State) : State :=
  if s.pers.barNs = none ∨ s.barOffer.isSome = true then s
  else if s.pers.barOffered then s.startBarSweep
  else (s.put PERS_SHD_STAT_BAR_SWEEP 0).setPers { s.pers with barNs := none, barWait := true }

/-! ### Epochs (R69 to R72, R97) -/

/-- A new run of epochs begins: epoch `e` collects, both planes clear (R73, R166). -/
def State.beginEpochs (s : State) (e : Nat) : State :=
  ((s.put64 PERS_EPOCH_LO_EPOCH e).setPers { s.pers with
    running := true, epochBegan := s.now, epochLen := s.cfg PERS_EPOCH_LEN_PASSES, tail := none, stretched := false
    plane0 := [], plane1 := [] })

/-- Is the close of the collecting epoch due (R69, R74)? -/
def State.closeDue (s : State) : Bool :=
  match s.pers.closeAt with
  | some c => decide (c.1 ≤ s.now)
  | none => !s.flag STRT_STAT_IN_GROUP && decide (s.pers.epochBegan + s.pers.epochLen ≤ s.now)

/-- Appends resume at a close that finds the queue at 4,194,304 entries or fewer (R99). -/
def State.resumeAppends (s : State) : State :=
  if s.pers.appendStopped ∧ s.pers.queue.length ≤ 4194304 then s.setPers { s.pers with appendStopped := false } else s

/-- The number of the epoch that begins when epoch `e` closes: one more than `e`, or in a group than the close number when
that is higher (R69, R378). -/
def State.nextEpoch (s : State) (e : Nat) : Nat :=
  match s.pers.closeAt with
  | some c => max c.2 e + 1
  | none => e + 1

/-- The collecting epoch closes and the next begins: transition 4 by the new collecting epoch, the plane frozen, the
barrier counts set (R64, R69, R71, R88). The new epoch collects in the plane of its number and the other is frozen (R58),
even where a group's close number skips numbers (R378). -/
def State.closeEpoch (s : State) : State :=
  let e := s.epoch
  let n := s.nextEpoch e
  let t := (s.startBarCounts e).put64 PERS_EPOCH_LO_EPOCH n
  let u := t.setPers { (t.pers.setPlane n []).setPlane (n + 1) (s.pers.plane e) with
    tail := some ⟨e, s.now, false, false⟩, epochBegan := s.now, epochLen := s.cfg PERS_EPOCH_LEN_PASSES
    stretched := false, closeAt := none }
  let v := u.resumeAppends
  (if v.pers.barNs = none ∧ v.pers.barWait = false ∧ v.closedBars ≠ [] then v.startBarSweep else v).refresh

/-- A due close whose previous tail is incomplete is deferred one pass, which is counted once (R72). -/
def State.deferClose (s : State) : State :=
  if s.pers.deferredAt = some s.now then s
  else
    let t := (s.bump64 PERS_STRETCH_LO_PASSES).setPers { s.pers with deferredAt := some s.now }
    if s.pers.stretched then t else (t.setPers { t.pers with stretched := true }).raiseInt 0x20 5

/-- A close falls due at this tick; a plane clear that ended in the tick's own pass completes the tail only for the next (R69,
R72). -/
def State.tryClose (s : State) : State :=
  if s.active && s.pers.running && !s.saving && s.closeDue then
    match s.pers.tail with
    | none => if s.pers.clearedAt = some s.now then s.deferClose else s.closeEpoch
    | some _ => s.deferClose
  else s

/-- The walk of the frozen plane: every islet of it that is COOLING with STAMP = N joins the cooling queue (R97). -/
def State.walkPlane (s : State) (n : Nat) : State :=
  ((s.pers.plane (s.epoch + 1)).foldl (fun t i =>
    if (t.recOf i).cooling t.epoch && decide ((t.recOf i).stamp = low48 n) then t.appendCool ⟨i, n⟩ else t) s).refresh

/-- The walk of the tail's plane completes. -/
def State.endWalk (s : State) : State :=
  match s.pers.tail with
  | none => s
  | some t => if t.walked then s else (s.walkPlane t.epoch).setPers
      { (s.walkPlane t.epoch).pers with tail := some { t with walked := true } }

/-! ### Seals (R71, R89, R90) -/

/-- A sealed copy joins the save array's journal. -/
def Arr.addCopy (a : Arr) (i : Nat) (c : ArrCopy) : Arr :=
  { a with copies := Sparse.set (fun _ => []) a.copies i (Sparse.get (fun _ => []) a.copies i ++ [c]) }

/-- One copy is sealed in epoch `n`: transition 13 or the move of ENTRY, with the barrier discharges (R64, R89). -/
def State.sealCopy (n : Nat) (s : State) (c : Copy) : State :=
  let r := s.recOf c.islet
  let t := { s with arr := s.arr.addCopy c.islet ⟨n, c.r, c.kind, c.prov, c.slc, c.lines, c.loc, false⟩
                    rstr := { s.rstr with poisonPending := if c.kind = CopyKind.poison then dropNat s.rstr.poisonPending c.islet
                                                           else s.rstr.poisonPending } }
  if s.takes13 c then
    let u := t.setRec c.islet { r with st := if c.kind = CopyKind.zero then .zero else .durable }
    (u.setPers { u.pers with barriers := dischargeBars r.entry none u.pers.barriers
                             copies := u.pers.copies.filter (fun d => decide (d ≠ c)) }).setRes (u.res - 1)
  else
    let u := t.setRec c.islet { r with entry := max48 r.entry c.r }
    u.setPers { u.pers with barriers := dischargeBars r.entry (some c.r) u.pers.barriers
                            copies := u.pers.copies.filter (fun d => decide (d ≠ c)) }

/-- The copies journalled in epoch `n`. -/
def State.copiesOf (s : State) (n : Nat) : List Copy := s.pers.copies.filter (fun c => decide (c.phase = .journalled n))

/-- The units of the band whose fold is sealed are erased and their room returns (R110, R189). -/
def State.eraseFolded (s : State) (n : Nat) : State :=
  let gone := fun (u : BandUnit) => match u.foldedIn with
    | none => false
    | some f => decide (f ≤ n) && (!s.flag STRT_STAT_IN_GROUP || decide (f ≤ s.get64 STRT_GSEALED_LO_EPOCH))
  s.setPers { s.pers with
    bandUsed := s.pers.bandUsed - ((s.pers.band.filter gone).map (fun u => u.copies.length)).foldl (· + ·) 0
    band := s.pers.band.filter (fun u => !gone u) }

/-- The erased skerries of the SLC reserve band, in the order in which FARR opens them, until they hold `need` islets (R124, R258). -/
def State.planFor (s : State) : Nat → Nat → List Nat → List Nat
  | 0, _, l => l
  | n + 1, need, l =>
    if need ≤ l.length * s.mdl.slcIslets then l
    else
      match s.freeSk 2 l with
      | none => l
      | some k => State.planFor s n need (l ++ [k])

/-- Glen firmware re-arms the save plan: erased blocks of the band on every working die, whole skerries until they hold at least
max(BUDGET, RES) + 16,384 islets, or every one (R124). -/
def State.rearmPlan (s : State) : State :=
  let l := State.planFor s s.mdl.skerries (max (s.cfg PERS_BUDGET_ISLETS) s.res + 16384) []
  (s.put SAVE_PLAN_ISLETS (l.length * s.mdl.slcIslets)).setSave { s.save with planSeals := 0, plan := l }

/-- The array's record of an ordinary seal of epoch `n` (R222). -/
def State.arraySeal (s : State) (n : Nat) : State :=
  { s with arr := { s.arr with highSealed := n, sealKind := .ordinary
                               groupSealed := if s.flag STRT_STAT_IN_GROUP then s.get64 STRT_GSEALED_LO_EPOCH else n } }

/-- Epoch `n` is sealed (R71, R89, R90, R108, R124). -/
def State.sealEpoch (s : State) (n : Nat) (rearmed : Bool) : State :=
  let t := (s.copiesOf n).foldl (State.sealCopy n) s
  let u := State.completeBarriers t.pers.barriers ((t.put64 PERS_SEALED_LO_EPOCH n).arraySeal n)
  let v := u.eraseFolded n
  let w := if rearmed then v.rearmPlan else v.setSave { v.save with planSeals := v.save.planSeals + 1 }
  (if w.pers.barWait ∨ w.closedBars = [] then w.startBarSweep else w).refresh

/-- The clear of the frozen plane completes the tail (R71). -/
def State.clearPlane (s : State) : State :=
  match s.pers.tail with
  | none => s
  | some t =>
    if t.walked ∧ t.sealed then s.setPers { s.pers.setPlane (s.epoch + 1) [] with tail := none } else s

/-! ### Folding (R109, R110) -/

/-- Is a unit of the band due (R109)? -/
def State.foldDue (s : State) (u : BandUnit) : Bool :=
  decide (u.newest + s.cfg PERS_FOLD_CFG_AGE ≤ s.sealedEpoch)
    || decide ((s.mdl.bandIslets - max (s.cfg PERS_BUDGET_ISLETS) s.res) * s.cfg PERS_FOLD_CFG_START_PCT
        ≤ s.pers.bandUsed * 100)

/-- Is the copy of islet `i` with data epoch `r` still the islet's newest sealed copy (R110)? -/
def State.newestCopy (s : State) (i r : Nat) : Bool :=
  !(s.copiesOn i).any (fun c => decide (r < c.dataEpoch))

/-- Does a copy of a unit still wait for the seal of its epoch? -/
def State.bandUnsealed (s : State) (i r : Nat) : Bool := s.pers.copies.any (fun c => decide (c.islet = i ∧ c.r = r) && c.slc)

/-- The place in the image band that the next folded or relocated copy takes: skerry, first row of the wordline being filled, and the
column of its three rows (R204, R244). -/
def State.foldPlace (s : State) : Option (Nat × Nat × Nat) :=
  match s.media.foldAt with
  | some p => some p
  | none => (s.rowFor 3 false 3 []).map (fun p => (p.1, p.2, 0))

/-- The wordline that folds fill is programmed, its unfilled columns as pad cells (R207). -/
def State.closeFold (s : State) : State :=
  match s.media.foldAt with
  | none => s
  | some (k, row, _) => (s.setMedia { s.media with foldAt := none }).rowsProgrammed k (row + 3)

/-- The wordline that folds fill is given up: its rows are not used. -/
def State.dropFold (s : State) : State :=
  match s.media.foldAt with
  | none => s
  | some (k, row, _) => (s.setMedia { s.media with foldAt := none }).setSk k { s.sk k with next := row }

/-- A column of the wordline is taken; the last fills it. -/
def State.takeFold (s : State) (p : Nat × Nat × Nat) : State :=
  let t := if p.2.2 = 0 then s.takeRows 3 false 3 p.1 p.2.1 else s
  let u := t.setMedia { t.media with foldAt := some (p.1, p.2.1, p.2.2 + 1) }
  if 45 ≤ p.2.2 + 1 then u.closeFold else u

/-- The lines of a copy as a read of it carries them: those of a codeword that no step of the ladder recovered are poisoned (R247). -/
def State.carriedLines (s : State) (c : ArrCopy) : List (Nat × Line) :=
  ((List.range 16).filter (fun k => s.farr.lost.contains (c.loc.skerry, c.loc.row, stripeSlot c.loc.col k, k))).foldl
    (fun l k => (List.range 64).foldl (fun m n => Sparse.set (fun _ => zeroLine) m (k * 64 + n) poisonLine) l) c.lines

/-- A copy is rewritten in TLC mode at a place of the image band under its data epoch, its ciphertext and the tag's ISLET, SLOT and
RD_EPOCH kept; a RELOC entry joins the collecting epoch (R110, R230, R247). DESIGN CHOICE, log 78. -/
def State.rewriteCopy (s : State) (i : Nat) (c : ArrCopy) (p : Nat × Nat × Nat) : State :=
  let loc := locOf c.kind c.prov false c.dataEpoch (p.1, p.2.1 + p.2.2 / 15, p.2.2 % 15)
  let lines := s.carriedLines c
  let t := s.takeFold p
  (t.setArr (t.arr.addCopy i { c with epoch := s.epoch, slc := false, lines := lines, loc := loc, reloc := true })).noteCopy s.epoch i true
    loc lines

/-- The copy of islet `i` with data epoch `r` in the SLC band. -/
def State.slcCopy (s : State) (i r : Nat) : Option ArrCopy :=
  (Sparse.get (fun _ => []) s.arr.copies i).find? (fun c => decide (c.dataEpoch = r ∧ c.slc = true ∧ c.kind = .data))

/-- The folded copy is rewritten (R110). -/
def State.foldRewrite (s : State) (i r : Nat) (p : Nat × Nat × Nat) : State :=
  match s.slcCopy i r with
  | none => s
  | some c => s.rewriteCopy i c p

/-- May the rewrite of a copy start: tokens under the rate cap (R112)? -/
def State.foldTokens (s : State) : Bool := decide (s.cfg PERS_SHD_RATE_MBPS = 0) || decide (65536 ≤ s.pers.tokens)

/-- Replaces a unit of the band. -/
def State.setUnit (s : State) (u v : BandUnit) : State :=
  s.setPers { s.pers with band := s.pers.band.map (fun w => if w = u then v else w) }

/-- The unit after its next copy is treated: when none is left, the fold's last entry lies in epoch `e` (R110). -/
def BandUnit.next (u : BandUnit) (t : List (Nat × Nat)) (e : Nat) : BandUnit :=
  if t = [] then { u with left := some [], foldedIn := some e } else { u with left := some t }

/-- The next copy of a folding unit is rewritten in TLC mode, or dropped when it is superseded; one that is not sealed yet is waited
for (R110, R112). -/
def State.foldCopy (s : State) (u : BandUnit) (e : Nat × Nat) (t : List (Nat × Nat)) : State :=
  if s.bandUnsealed e.1 e.2 then s
  else if ¬ s.newestCopy e.1 e.2 then (s.bump64 PERS_FOLD_DROP_LO_COUNT).setUnit u (u.next t s.epoch)
  else if s.foldTokens then
    match s.foldPlace with
    | none => s
    | some p =>
      let v := (s.bump64 PERS_FOLD_LO_COUNT).foldRewrite e.1 e.2 p
      (v.setPers { v.pers with
        tokens := if s.cfg PERS_SHD_RATE_MBPS = 0 then v.pers.tokens else v.pers.tokens - 65536 }).setUnit u (u.next t s.epoch)
  else s.put PERS_SHD_STAT_RATE_LIMITED 1

/-- One step of folding: the next copy of the unit being folded, or the oldest due unit begins (R109, R110). -/
def State.foldOne (s : State) : State :=
  if s.cfgOn PERS_SHD_CFG_FOLD_EN && decide (s.level ≤ 1) && s.active && !s.saving then
    match s.pers.band.find? (fun u => decide (u.left ≠ none ∧ u.left ≠ some [])) with
    | some u =>
      match u.left with
      | some (e :: t) => s.foldCopy u e t
      | _ => s
    | none =>
      match s.pers.band.find? (fun u => decide (u.left = none) && s.foldDue u) with
      | some u => (s.setSk u.skerry { s.sk u.skerry with closed := true }).setUnit u { u with left := some u.copies }
      | none => s
  else s

/-! ### Relocation and wear leveling (R230, R258) -/

/-- A live copy in skerry `k`, which no entry of any epoch supersedes or relocates. -/
def State.liveIn (s : State) (k : Nat) : Option (Nat × ArrCopy) :=
  s.arr.copies.findSome? (fun e => ((s.copiesOn e.1).find? (fun c => decide (c.loc.kind = 2 ∧ c.loc.skerry = k)
    && !supersededBy (s.copiesOn e.1) c s.epoch)).map (fun c => (e.1, c)))

/-- One live copy of a skerry that waits for relocation is rewritten (R230, R248, R254, R257). -/
def State.relocOne (s : State) : State :=
  if s.active && !s.saving then
    match s.farr.relocating.findSome? s.liveIn with
    | none => s
    | some (i, c) =>
      match s.foldPlace with
      | none => s
      | some p => s.rewriteCopy i c p
  else s

/-- Up to `n` copies are relocated. -/
def State.relocSteps : Nat → State → State
  | 0, s => s
  | n + 1, s => State.relocSteps n s.relocOne

/-- Does a skerry hold no copy newer than AGE epochs (R258)? -/
def State.oldSkerry (s : State) (k : Nat) : Bool :=
  s.arr.copies.all (fun e => e.2.all (fun c => decide (c.loc.kind ≠ 2 ∨ c.loc.skerry ≠ k
    ∨ c.dataEpoch + s.cfg PERS_FOLD_CFG_AGE ≤ s.sealedEpoch)))

/-- Static wear leveling: when the highest EC exceeds the lowest by more than SPREAD, the written image-band skerry with the lowest
highest EC and no young copy is relocated, and moves to the spare band; one at a time (R258). DESIGN CHOICE, log 79. -/
def State.wearLevel (s : State) : State :=
  if s.cfgOn FARR_CTRL_WL_EN && s.active && !s.saving && s.media.toSpare.isEmpty
      && decide (s.get FARR_EC_MIN_EC + s.cfg FARR_WL_SPREAD < s.get FARR_EC_MAX_EC) then
    match s.lowestSk (fun k => decide ((s.sk k).band = 3 ∧ 0 < (s.sk k).next) && s.oldSkerry k) with
    | none => s
    | some k =>
      let t := s.setSk k { s.sk k with closed := true }
      (t.setMedia { t.media with toSpare := [k] }).setFarr
        { (t.setMedia { t.media with toSpare := [k] }).farr with relocating := insertNat s.farr.relocating k }
  else s

/-- Up to `n` steps of folding; FOLDING shows whether a unit is being folded (R109). -/
def State.foldSteps : Nat → State → State
  | 0, s => s.put PERS_SHD_STAT_FOLDING (b2n (s.pers.band.any (fun u => decide (u.left ≠ none ∧ u.left ≠ some []))))
  | n + 1, s => State.foldSteps n s.foldOne

end Sys2Proof.Machine
end

