-- ==== Sys2Proof/Machine/MovCore.lean ====
section
/-! DEFINITION. The movers: program words (R279 to R291), address spaces (R276, R277), the lines a MOVE and a SPREAD
move (R281 to R286), the completion collector (R297), and the abort (R295). -/

namespace Sys2Proof.Machine

/-! ### Channels and program memory -/

/-- A channel that has not run. -/
def idleChan : MovChan := ⟨0, none, 0, 0, 0, false, none, none⟩

/-- Channel `c`. -/
def State.chan (s : State) (c : Nat) : MovChan := Sparse.get (fun _ => idleChan) s.mov.chans c

/-- Replaces channel `c`. -/
def State.setChan (s : State) (c : Nat) (x : MovChan) : State :=
  s.setMov { s.mov with chans := Sparse.set (fun _ => idleChan) s.mov.chans c x }

/-- The PC of channel `c` with its register (R299). -/
def State.setPc (s : State) (c n : Nat) : State := (s.setChan c { s.chan c with pc := n }).put (MOV_PC_PC c) n

/-- Word `i` of program memory (R273). -/
def State.pmWord (s : State) (i : Nat) : BitVec 64 := Sparse.get (fun _ => 0) s.mov.pm i

/-- Stores word `i` of program memory. -/
def State.setPm (s : State) (i : Nat) (w : BitVec 64) : State :=
  s.setMov { s.mov with pm := Sparse.set (fun _ => 0) s.mov.pm i w }

/-- Is channel `c` one of management software's (R266)? -/
def mgmtChan (c : Nat) : Bool := decide (28 ≤ c)

/-- The class whose units a channel's bursts are charged to (R269). -/
def State.classOfChan (s : State) (c : Nat) : Nat := if mgmtChan c then 4 else s.cfg (MOV_CFG_CLASS c)

/-- Does channel `c` run: RUN, WAIT or HELD? -/
def State.chanRuns (s : State) (c : Nat) : Bool :=
  decide (s.get (MOV_STAT_STATE c) = 1 ∨ s.get (MOV_STAT_STATE c) = 2 ∨ s.get (MOV_STAT_STATE c) = 3)

/-! ### Program words -/

/-- Bits `lo` to `lo + n - 1` of a program word. -/
def bits64 (w : BitVec 64) (lo n : Nat) : Nat := w.toNat / 2 ^ lo % 2 ^ n

/-- What a program word says. -/
inductive MInstr where
  | halt | move | spread | loop | wait | signal | nop | illegal
  deriving DecidableEq, Repr

/-- Is a MOVE word legal on channel `c` (R281, R283, R291)? -/
def legalMove (c : Nat) (w : BitVec 64) : Bool :=
  decide (bits64 w 54 2 ≠ 3 ∧ bits64 w 44 1 = 0 ∧ bits64 w 8 16 = 0 ∧ bits64 w 56 4 ≤ 4)
    && (!mgmtChan c || decide ((bits64 w 56 4 = 0 ∨ bits64 w 56 4 = 3) ∧ bits64 w 45 1 = 0))

/-- Are the two words of a SPREAD legal on channel `c`, with its first slot `c0` (R285)? -/
def legalSpread (c c0 : Nat) (w v : BitVec 64) : Bool :=
  !mgmtChan c && decide (bits64 w 54 6 = 0 ∧ bits64 w 47 1 = 0 ∧ bits64 w 45 1 = 0 ∧ bits64 w 8 27 = 0
    ∧ bits64 w 40 5 ≤ 15 ∧ 1 ≤ bits64 w 35 5 ∧ c0 + bits64 w 35 5 ≤ 16
    ∧ bits64 v 60 4 = 0xE ∧ bits64 v 40 20 = 0 ∧ 64 ≤ bits64 v 0 20)

/-- Is a LOOP word legal (R287)? -/
def legalLoop (w : BitVec 64) : Bool := decide (bits64 w 58 2 = 0 ∧ bits64 w 16 24 = 0 ∧ bits64 w 0 16 ≠ 0)

/-- Is a WAIT word legal on channel `c` (R288, R291)? -/
def legalWait (c : Nat) (w : BitVec 64) : Bool :=
  decide (bits64 w 32 7 = 0 ∧ bits64 w 0 16 = 0) &&
    (if bits64 w 56 4 = 0 then !mgmtChan c && decide (bits64 w 39 1 = 0)
     else if bits64 w 56 4 = 1 then decide (bits64 w 39 1 = 0 ∧ bits64 w 40 16 ≠ 0)
     else if bits64 w 56 4 = 2 then !mgmtChan c && decide (bits64 w 39 1 = 0 ∧ bits64 w 48 8 = 0)
     else if bits64 w 56 4 = 3 then decide (bits64 w 45 11 = 0) && (!mgmtChan c || decide (24 ≤ bits64 w 40 5))
     else false)

/-- Is a SIGNAL word legal on channel `c` (R290, R291)? -/
def legalSignal (c : Nat) (w : BitVec 64) : Bool :=
  decide (bits64 w 56 4 ≠ 0 ∧ bits64 w 53 3 = 0 ∧ bits64 w 32 8 = 0)
    && (!mgmtChan c || decide (bits64 w 58 1 = 0 ∧ (bits64 w 56 1 = 1 → 24 ≤ bits64 w 48 5)))

/-- Decodes a word with the word behind it on channel `c` (R279); `c0` is the slot a SPREAD would start at. -/
def decodeWord (c c0 : Nat) (w v : BitVec 64) : MInstr :=
  if bits64 w 60 4 = 0 then (if bits64 w 32 28 = 0 then .halt else .illegal)
  else if bits64 w 60 4 = 1 then (if legalMove c w then .move else .illegal)
  else if bits64 w 60 4 = 2 then (if legalSpread c c0 w v then .spread else .illegal)
  else if bits64 w 60 4 = 3 then (if legalLoop w then .loop else .illegal)
  else if bits64 w 60 4 = 4 then (if legalWait c w then .wait else .illegal)
  else if bits64 w 60 4 = 5 then (if legalSignal c w then .signal else .illegal)
  else if bits64 w 60 4 = 0xF then .nop
  else .illegal

/-- Working register `n` of channel `c`. -/
def State.wa (s : State) (c n : Nat) : Nat := s.get64 (MOV_WA_LO_ADDR c n)

/-- May channel `c` fetch word `i` (R280)? -/
def fetchOk (c i : Nat) : Bool := decide (i ≤ 0xFFFF) && (!mgmtChan c || decide (0xF000 ≤ i))

/-- The word channel `c` stands at. -/
def State.curWord (s : State) (c : Nat) : BitVec 64 := s.pmWord (s.chan c).pc

/-- What channel `c` would carry out next; `none` when the fetch is out of range (R279, R280). -/
def State.nextInstr (s : State) (c : Nat) : Option MInstr :=
  if fetchOk c (s.chan c).pc then
    some (decodeWord c (s.wa c (bits64 (s.curWord c) 48 3) / 4096 % 16) (s.curWord c) (s.pmWord ((s.chan c).pc + 1)))
  else none

/-- Is channel `c` free to carry out an instruction: RUN, nothing in progress, not gated? -/
def State.chanReady (s : State) (c : Nat) : Bool :=
  decide (s.get (MOV_STAT_STATE c) = 1) && decide ((s.chan c).cur = none) && decide ((s.chan c).blocked = none)
    && !s.gated (0x30 + c)

/-- Channel `c` stands ready at an instruction of this kind. -/
def State.atInstr (s : State) (c : Nat) (i : MInstr) : Bool :=
  decide (c < 32) && s.chanReady c && decide (s.nextInstr c = some i)

/-! ### Address spaces (R276, R277) -/

/-- Where a line of a transfer lies. -/
inductive Loc where
  | dram (line : Nat)
  | stage (line : Nat)
  | flash (addr : Nat)
  | zero
  | null
  deriving DecidableEq, Repr

/-- Lines of DRAM, and of the reserved region (R15). -/
def ModuleCfg.dramLines (m : ModuleCfg) : Nat := m.dramGiB * 2 ^ 24

/-- Line `k` from the address `a` for channel `c`, as a source or a destination: its place, or the ECAUSE (R284). -/
def State.locate (s : State) (c a k : Nat) (src : Bool) : Loc ⊕ Nat :=
  let line := a % 2 ^ 48 / 64 + k
  if a / 2 ^ 48 % 2 ^ 12 ≠ 0 then .inr 2
  else if a / 2 ^ 60 = 0 then
    if s.mdl.hostLines ≤ line then .inr 2
    else if mgmtChan c && !s.isRestored (line / 1024) then .inr 4
    else .inl (.dram line)
  else if a / 2 ^ 60 = 1 then
    if mgmtChan c then .inr 1
    else if s.mdl.dramLines - s.mdl.hostLines ≤ line then .inr 2
    else .inl (.dram (s.mdl.hostLines + line))
  else if a / 2 ^ 60 = 2 then
    if 2 ^ 18 ≤ line then .inr 2
    else if mgmtChan c && !(decide (line / 2 ^ 14 = 14) && s.flag MVG_STAGE_BANK14_EN) then .inr 1
    else .inl (.stage line)
  else if a / 2 ^ 60 = 3 then
    if mgmtChan c || !src then .inr 1 else .inl (.flash (a % 2 ^ 48 / 64 + k))
  else if a / 2 ^ 60 = 0xE then (if src then .inl .zero else .inr 1)
  else if a / 2 ^ 60 = 0xF then (if src then .inr 1 else .inl .null)
  else .inr 1

/-- A line of staging SRAM. -/
def State.stageLine (s : State) (l : Nat) : Line := Sparse.get (fun _ => zeroLine) s.mov.stage l

/-- Writes a line of staging SRAM. -/
def State.setStage (s : State) (l : Nat) (v : Line) : State :=
  s.setMov { s.mov with stage := Sparse.set (fun _ => zeroLine) s.mov.stage l v }

/-- The tag of the staging slot of a line (R278). -/
def State.tagOf (s : State) (l : Nat) : SlotTag := Sparse.get (fun _ => ⟨0, 0, false⟩) s.mov.tags (l / 1024)

/-- Sets the tag of a staging slot. -/
def State.setTag (s : State) (slot : Nat) (t : SlotTag) : State :=
  s.setMov { s.mov with tags := Sparse.set (fun _ => ⟨0, 0, false⟩) s.mov.tags slot t }

/-- The line at a place; what a read of FLASH space carries is a free value: the spec does not say which column of a
slot it names. -/
def State.readLoc (s : State) (l : Loc) : Line :=
  match l with
  | .dram n => s.dramLine n
  | .stage n => s.stageLine n
  | .flash n => ⟨BitVec.ofNat 512 (Config.freeValue (s.freeCtr + n)), false, false⟩
  | .zero => zeroLine
  | .null => zeroLine

/-- Channel `c` writes a line; a write of channels 28 to 31 to HOST space counts as a host write (R277). -/
def State.writeLoc (s : State) (c hint : Nat) (l : Loc) (v : Line) : State :=
  match l with
  | .dram n =>
    let t := if mgmtChan c then s.touch (n / 1024) else s
    t.storeLine (.share (s.classOfChan c)) n hint v.data (BitVec.allOnes 64) v.poison
  | .stage n => s.setStage n v
  | .flash _ => s
  | .zero => s
  | .null => s

/-- The tweak of the 4,096-byte unit of a staging line: islet, codeword index and RD_EPOCH of its slot's tag (R208, R278). -/
def State.tweak (s : State) (line : Nat) : Nat :=
  leNat (dataTweak (s.tagOf line).islet (line / 64 % 16) (s.tagOf line).rd)

/-- The media key in the AES-256-XTS engines; with none loaded a free value (R210). -/
def State.engineKey (s : State) : Nat := s.save.mediaKey.getD (Config.freeValue s.freeCtr)

/-- The staging line that gives an XTS path its tweak: the source's or the destination's staging address (R278). -/
def stagePart (a b : Loc) : Nat :=
  match a with
  | .stage n => n
  | _ =>
    match b with
    | .stage n => n
    | _ => 0

/-- What a path makes of a line (R208, R283): XTS paths use the media key in the engines, the tweak of the unit and the line's number
in it. -/
def State.pathLine (s : State) (path : Nat) (a b : Loc) (v : Line) : Line :=
  let n := stagePart a b
  if path = 1 then { v with data := Config.xtsEncrypt s.engineKey (s.tweak n) (n % 64) v.data }
  else if path = 2 then { v with data := Config.xtsDecrypt s.engineKey (s.tweak n) (n % 64) v.data }
  else v

/-! ### MOVE (R281 to R284) -/

/-- The place of line `k` of the source and of the destination of a MOVE. -/
def State.moveSrc (s : State) (c : Nat) (w : BitVec 64) (k : Nat) : Loc ⊕ Nat := s.locate c (s.wa c (bits64 w 51 3)) k true

def State.moveDst (s : State) (c : Nat) (w : BitVec 64) (k : Nat) : Loc ⊕ Nat :=
  s.locate c (s.wa c (bits64 w 48 3)) k (decide (bits64 w 56 4 = 3))

/-- The ECAUSE with which line `k` of a MOVE fails, if it does (R284). -/
def State.moveErr (s : State) (c : Nat) (w : BitVec 64) (k : Nat) : Option Nat :=
  match s.moveSrc c w k with
  | .inr e => some e
  | .inl a =>
    match s.moveDst c w k with
    | .inr e => some e
    | .inl b =>
      if ((s.readLoc a).poison || (s.readLoc a).ue) && decide (bits64 w 45 1 = 0) then some 3
      else if bits64 w 56 4 = 3 ∧ (s.readLoc a).data ≠ (s.readLoc b).data then some 7
      else none

/-- Does line `k` of a MOVE begin a burst: the first line, or the start of a 512-byte block of either end (R269)? -/
def State.burstStart (s : State) (c : Nat) (w : BitVec 64) (k : Nat) : Bool :=
  decide (k = 0 ∨ (s.wa c (bits64 w 51 3) / 64 + k) % 8 = 0 ∨ (s.wa c (bits64 w 48 3) / 64 + k) % 8 = 0)

/-- The first line of the burst that holds line `k`. -/
def State.burstOf (s : State) (c : Nat) (w : BitVec 64) : Nat → Nat
  | 0 => 0
  | k + 1 => if s.burstStart c w (k + 1) then k + 1 else s.burstOf c w k

/-- A place that a mover reads: a line of DRAM is read for the channel's class (R266, R309). -/
def State.readFor (s : State) (c hint : Nat) (x : Loc) : State :=
  match x with
  | .dram n => s.drcRead (.share (s.classOfChan c)) n hint
  | _ => s

/-- Line `k` of a MOVE is moved. -/
def State.moveLine (c : Nat) (w : BitVec 64) (s : State) (k : Nat) : State :=
  match s.moveSrc c w k with
  | .inr _ => s
  | .inl a =>
    match s.moveDst c w k with
    | .inr _ => s
    | .inl b =>
      let t := s.readFor c (bits64 w 54 2) a
      if bits64 w 56 4 = 3 then t.readFor c (bits64 w 54 2) b
      else
        let v := s.pathLine (bits64 w 56 4) a b (s.readLoc a)
        t.writeLoc c (bits64 w 54 2) b { v with poison := v.poison || v.ue, ue := false }

/-- ZSCAN sets the zero flag of the destination slot's tag when every line counts as zero (R283). -/
def State.zscan (s : State) (c : Nat) (w : BitVec 64) : State :=
  match s.moveDst c w 0 with
  | .inl (.stage n) =>
    let z := (List.range (bits64 w 24 20)).all (fun k =>
      match s.moveSrc c w k with
      | .inl a => decide ((s.readLoc a).data = 0 ∧ (s.readLoc a).poison = false ∧ (s.readLoc a).ue = false)
      | .inr _ => false)
    if z then s.setTag (n / 1024) { s.tagOf n with zero := true } else s
  | _ => s

/-- The first `n` lines of a MOVE are moved, counting the bursts. -/
def State.moveLines (s : State) (c : Nat) (w : BitVec 64) (n : Nat) : State :=
  ((List.range n).foldl (State.moveLine c w) s).bump64By (MOV_BURSTS_LO_COUNT c)
    ((List.range n).filter (fun k => s.burstStart c w k)).length

/-! ### SPREAD (R285, R286) -/

/-- Slot, column and line of the `k`th line a SPREAD writes: the columns but c in order, then the parity cell. -/
def spreadAt (c0 k : Nat) : Nat × Nat × Nat :=
  let c := c0 + k / 1024
  let p := k / 64 % 16
  (c, if p = 15 then c else if p < c then p else p + 1, k % 64)

/-- The staging line of stripe column `j`, codeword `d`, line `l`. -/
def spreadSrc (base : Nat) (v : BitVec 64) (j d l : Nat) : Nat := base + j * bits64 v 20 20 + d * bits64 v 0 20 + l

/-- A line of the cell (c, d): the islet's codeword d, or zeros for a pad (R204, R286). -/
def State.cellLine (s : State) (base nisl : Nat) (v : BitVec 64) (c d l : Nat) : LineData :=
  if (d + 31 - c) % 16 < nisl then (s.stageLine (spreadSrc base v ((d + 31 - c) % 16) d l)).data else 0

/-- A line of the parity cell of slot c: the XOR of the 15 other cells (R205). -/
def State.parityLine (s : State) (base nisl : Nat) (v : BitVec 64) (c l : Nat) : LineData :=
  ((List.range 16).filter (fun d => decide (d ≠ c))).foldl (fun x d => x ^^^ s.cellLine base nisl v c d l) 0

/-- The key of a line of a cell behind a stripe handle. -/
def cellKey (handle c d l : Nat) : Nat := ((handle * 16 + c) * 16 + d) * 64 + l

/-- The tag that FARR forms for the cell (c, d) behind a stripe handle, from the slot tag of its source and the stripe's row (R202, R278). -/
def State.spreadTag (s : State) (x : Stripe) (base nisl : Nat) (v : BitVec 64) (c d : Nat) : CwTag :=
  let j := (d + 31 - c) % 16
  let g := s.tagOf (spreadSrc base v j d 0)
  if d = c then CwTag.ofParity c x.slc x.skerry s.arr.groupTag
  else if j < nisl then
    let prov := s.pers.copies.any (fun y => decide (y.islet = g.islet ∧ y.r = g.rd) && y.prov)
    CwTag.ofData (locOf .data prov x.slc g.rd (x.skerry, x.row, j)) false false g.islet d g.rd s.arr.groupTag
  else CwTag.ofPad x.slc x.skerry s.arr.groupTag

/-- The 4,588 bytes of the cell (c, d) that a SPREAD writes behind a stripe handle: its data, its tag and its LDPC parity (R201, R278,
R283, R286). -/
def State.spreadCell (s : State) (x : Stripe) (base nisl : Nat) (v : BitVec 64) (c d : Nat) : List (BitVec 8) :=
  codewordBytes (s.spreadTag x base nisl v c d) ((List.range 64).flatMap (fun l =>
    lineBytes (if d = c then s.parityLine base nisl v c l else s.cellLine base nisl v c d l)))

/-- Line `k` of a SPREAD is written. -/
def State.spreadLine (ch : Nat) (w v : BitVec 64) (s : State) (k : Nat) : State :=
  let dst := s.wa ch (bits64 w 48 3)
  let base := s.wa ch (bits64 w 51 3) % 2 ^ 48 / 64
  let at' := spreadAt (dst / 4096 % 16) k
  let x := if at'.2.1 = at'.1 then s.parityLine base (bits64 w 40 5) v at'.1 at'.2.2
    else s.cellLine base (bits64 w 40 5) v at'.1 at'.2.1 at'.2.2
  if dst / 2 ^ 60 = 3 then
    s.setMov { s.mov with cells := Sparse.set (fun _ => 0) s.mov.cells (cellKey (dst / 65536 % 2 ^ 32) at'.1 at'.2.1 at'.2.2) x }
  else s.setStage (dst % 2 ^ 48 / 65536 * 1024 + at'.2.1 * 1024 + at'.1 * 64 + at'.2.2) ⟨x, false, false⟩

/-- Lines a SPREAD writes. -/
def spreadLen (w : BitVec 64) : Nat := bits64 w 35 5 * 1024

/-- The ECAUSE with which line `k` of a SPREAD fails, if it does: a space not allowed, or an address beyond staging. -/
def State.spreadErr (s : State) (ch : Nat) (w v : BitVec 64) (k : Nat) : Option Nat :=
  let dst := s.wa ch (bits64 w 48 3)
  let src := s.wa ch (bits64 w 51 3)
  let at' := spreadAt (dst / 4096 % 16) k
  let d := at'.2.1
  let j := (d + 31 - at'.1) % 16
  if src / 2 ^ 60 ≠ 2 ∨ (dst / 2 ^ 60 ≠ 3 ∧ dst / 2 ^ 60 ≠ 2) then some 1
  else if j < bits64 w 40 5 ∧ 2 ^ 18 ≤ spreadSrc (src % 2 ^ 48 / 64) v j d at'.2.2 then some 2
  else if dst / 2 ^ 60 = 2 ∧ 2 ^ 18 ≤ dst % 2 ^ 48 / 65536 * 1024 + d * 1024 + 1023 then some 2
  else none

/-- The first `n` lines of a SPREAD are written, counting its bursts of eight lines. -/
def State.spreadLines (s : State) (c : Nat) (w v : BitVec 64) (n : Nat) : State :=
  ((List.range n).foldl (State.spreadLine c w v) s).bump64By (MOV_BURSTS_LO_COUNT c) (ceilDiv n 8)

/-! ### The instruction in progress -/

/-- Lines of a MOVE or SPREAD. -/
def xferLen (w : BitVec 64) : Nat := if bits64 w 60 4 = 1 then bits64 w 24 20 else spreadLen w

/-- The first `n` lines of the transfer in progress are carried out. -/
def State.xfer (s : State) (c : Nat) (w v : BitVec 64) (n : Nat) : State :=
  if bits64 w 60 4 = 1 then
    let t := s.moveLines c w n
    if bits64 w 56 4 = 4 ∧ n = bits64 w 24 20 then t.zscan c w else t
  else s.spreadLines c w v n

/-- The ECAUSE with which line `k` of the transfer in progress fails. -/
def State.xferErr (s : State) (c : Nat) (w v : BitVec 64) (k : Nat) : Option Nat :=
  if bits64 w 60 4 = 1 then s.moveErr c w k else s.spreadErr c w v k

/-- The first line of the burst of line `k`. -/
def State.xferBurst (s : State) (c : Nat) (w : BitVec 64) (k : Nat) : Nat :=
  if bits64 w 60 4 = 1 then s.burstOf c w k else k / 8 * 8

/-- Bursts of the transfer of a word (R269, R286). -/
def State.burstCount (s : State) (c : Nat) (w : BitVec 64) : Nat :=
  if bits64 w 60 4 = 1 then ((List.range (bits64 w 24 20)).filter (fun k => s.burstStart c w k)).length else ceilDiv (spreadLen w) 8

/-- The first line of burst `i` of the transfer; its length beyond the last. -/
def State.burstLine (s : State) (c : Nat) (w : BitVec 64) (i : Nat) : Nat :=
  if bits64 w 60 4 = 1 then ((List.range (bits64 w 24 20)).filter (fun k => s.burstStart c w k)).getD i (bits64 w 24 20)
  else min (8 * i) (spreadLen w)

/-- The lines of the bursts that the transfer in progress has issued. -/
def State.issuedLines (s : State) (c : Nat) (w : BitVec 64) : Nat := s.burstLine c w (s.chan c).issued

/-- The first line at which the transfer fails by its own addresses and data, with its ECAUSE. -/
def State.firstErr (s : State) (c : Nat) (w v : BitVec 64) (n : Nat) : Option (Nat × Nat) :=
  (List.range n).findSome? (fun k => (s.xferErr c w v k).map (fun e => (k, e)))

/-! ### The completion collector (R297) -/

/-- Do two records enter the collector in one fabric cycle? -/
def MovRec.meets (r q : MovRec) : Bool := decide (r.pass = q.pass ∧ r.cycle = q.cycle)

/-- The channels whose slot holds a record of the same cycle. -/
def State.meeting (s : State) (r : MovRec) : List Nat :=
  (List.range 32).filter (fun c => match (s.chan c).slot with
    | none => false
    | some q => q.meets r)

/-- A record enters its channel's slot: every record of its cycle carries COINCIDENT, and COMPLETE is raised once for
them (R297, R298). -/
def State.enterSlot (s : State) (r : MovRec) : State :=
  let l := s.meeting r
  let t := l.foldl (fun u c => u.setChan c { u.chan c with slot := (u.chan c).slot.map (fun q => { q with coincident := true }) }) s
  let v := t.setChan r.chan { t.chan r.chan with slot := some { r with coincident := decide (l ≠ []) }, blocked := none }
  if l = [] then v.raiseInt 0xB7 0 else v

/-- A channel produces a record: it enters the slot, or the channel is HELD until the slot drains (R293, R297). -/
def State.produce (s : State) (r : MovRec) : State :=
  match (s.chan r.chan).slot with
  | none => s.enterSlot r
  | some _ => (s.setChan r.chan { s.chan r.chan with blocked := some r }).put (MOV_STAT_STATE r.chan) 3

/-- A completion record of channel `c` now, at a fabric cycle of the pass. -/
def State.movRec (s : State) (c kind cause code cycle : Nat) : MovRec :=
  ⟨c, kind, false, cause, (s.chan c).pc % 2 ^ 16, code, s.pass32, cycle % 3000⟩

/-! ### Abort (R295) -/

/-- A channel frees its group's port (R270). -/
def State.freePort (s : State) (c : Nat) : State :=
  s.setMov { s.mov with holders := s.mov.holders.filter (fun h => decide (h.2 ≠ c)) }

/-- Channel `c` is aborted with a cause after `moved` lines of its transfer in progress: the residue block, the ABORT
record, the ABORTED cause, and IDLE, or SAVE under R268 (R295). -/
def State.abortAfter (s : State) (c cause moved cycle : Nat) : State :=
  let res := match (s.chan c).cur with
    | none => 0
    | some x => (xferLen x.1 - moved) * 64
  let t := match (s.chan c).cur with
    | none => s
    | some x => s.xfer c x.1 x.2 moved
  let u := ((((((t.put (MOV_RES_BYTES_BYTES c) res).put (MOV_RES_BYTES_VALID c) 1).put (MOV_RES_PC_PC c)
    (s.chan c).pc).put (MOV_RES_CAUSE_CAUSE c) cause).put (MOV_STAT_LAST_CAUSE c) cause).bump (MOV_ABORTCNT_COUNT c))
  let v := (u.setChan c { u.chan c with cur := none, starting := false }).produce (u.movRec c 2 cause res cycle)
  ((v.raiseInt (0x30 + c) 0).put (MOV_STAT_STATE c) (if cause = 2 then 4 else 0)).freePort c

/-- How far a transfer in progress has come when the spec does not say: a free number of the lines whose bursts may have been issued, up
to the first that fails. -/
def State.progress (s : State) (c : Nat) : Nat :=
  match (s.chan c).cur with
  | none => 0
  | some x =>
    let n := match s.firstErr c x.1 x.2 (xferLen x.1) with
      | none => xferLen x.1
      | some e => e.1
    s.free % (min n (s.issuedLines c x.1) + 1)

/-- An abort for which nothing says how far the transfer had come. -/
def State.abortChan (s : State) (c cause : Nat) : State :=
  if s.chanRuns c then (s.drawn.drawn).abortAfter c cause (s.progress c) (Config.freeValue (s.freeCtr + 1)) else s

/-- The save fence: every running channel is aborted with cause SAVE, and every channel reads SAVE (R268). -/
def State.moversToSave (s : State) : State :=
  (List.range 32).foldl (fun t c => (t.abortChan c 2).put (MOV_STAT_STATE c) 4) s

/-- A reset of the pages of channel `c` aborts it with cause RESET first (R295). -/
def State.resetChan (s : State) (c : Nat) : State := (s.abortChan c 4).setChan c { (s.abortChan c 4).chan c with cur := none, starting := false }

end Sys2Proof.Machine
end

