-- ==== Sys2Proof/Machine/StrtCore.lean ====
section
/-! DEFINITION. The Strait frame (R369) and its sending (R371, R372), and what a controller knows of its group
(R368, R377). -/

namespace Sys2Proof.Machine

/-- A device nothing is known of. -/
def noPeer : Peer := ⟨none, 3, 0, 0, 0, 0, 0, 0, false, false, none, 0, 0, 0, []⟩

/-- What is known of device `d`. -/
def State.peer (s : State) (d : Nat) : Peer := Sparse.get (fun _ => noPeer) s.strt.peers d

/-- Replaces what is known of device `d`. -/
def State.setPeer (s : State) (d : Nat) (p : Peer) : State :=
  s.setStrt { s.strt with peers := Sparse.set (fun _ => noPeer) s.strt.peers d p }

/-- This controller's device number (R365, R387). -/
def State.devNo (s : State) : Nat := s.get STRT_STAT_DEV_NO

/-- Is the controller inside a cascade (R368)? -/
def State.inGroup (s : State) : Bool := s.flag STRT_STAT_IN_GROUP

/-- Is this device the master of its group? -/
def State.isMaster (s : State) : Bool := s.inGroup && decide (s.get STRT_STAT_MASTER = s.devNo)

/-- The expected set (R368). -/
def State.expected (s : State) : List Nat := (List.range 8).filter (fun d => bitOf (s.get STRT_EXPECT_MASK) d)

/-- The present set: devices heard within the last 50 µs, and the device itself (R377, R387). -/
def State.present (s : State) : List Nat := (List.range 8).filter (fun d => bitOf (s.get STRT_STAT_PRESENT) d)

/-- The other devices of the expected set. -/
def State.otherMembers (s : State) : List Nat := s.expected.filter (fun d => decide (d ≠ s.devNo))

/-! ### Frames (R369) -/

/-- The 32 bytes of a frame: TYPE, ROUTE, HOPS, SEQ, 24 payload bytes, CRC-32C over the first 28. -/
def frameBytes (typ route hops seq : Nat) (payload : List (BitVec 8)) : List (BitVec 8) :=
  let h := [BitVec.ofNat 8 typ, BitVec.ofNat 8 route, BitVec.ofNat 8 hops, BitVec.ofNat 8 seq] ++
    (List.range 24).map (fun k => payload.getD k 0)
  h ++ leBytes 4 (crc32c h).toNat

/-- ROUTE: the sender, and a destination or the broadcast bit. -/
def routeOf (src : Nat) (dst : Option Nat) : Nat :=
  match dst with
  | none => src % 8 + 128
  | some d => src % 8 + d % 8 * 16

/-- Which ports are trained: 0 UP, 1 DOWN. -/
def State.trainedPorts (s : State) : List Nat :=
  (if s.flag STRT_STAT_UP_OK then [0] else []) ++ (if s.flag STRT_STAT_DOWN_OK then [1] else [])

/-- The ports a frame leaves by: both in a ring or for a broadcast, else the one towards its destination (R365, R371). -/
def State.portsFor (s : State) (dst : Option Nat) : List Nat :=
  match dst with
  | none => s.trainedPorts
  | some d =>
    if s.flag STRT_STAT_RING then s.trainedPorts
    else s.trainedPorts.filter (fun p => decide (p = if d < s.devNo then 0 else 1))

/-- May a frame of this type leave: STRT enabled, clocked and not under reset; in the safe state only the save messages
of R152 and R384 (R387, R429)? -/
def State.maySend (s : State) (typ : Nat) : Bool :=
  s.flag (PAGE_CTRL_EN 0x88) && s.cfgOn STRT_CTRL_EN && !s.gated 0x88 && !s.inReset 0x88
    && (!s.flag FLT_SAFE_SAFE || decide (typ = 0x10 ∨ typ = 0x11))

/-- A frame of this device leaves by the given ports, counted once. -/
def State.sendOn (s : State) (ports : List Nat) (typ : Nat) (dst : Option Nat) (payload : List (BitVec 8)) : State :=
  if s.maySend typ && decide (ports ≠ []) then
    let b := frameBytes typ (routeOf s.devNo dst) 0 s.strt.seq payload
    (ports.foldl (fun t p => t.send (.frame p b)) ((s.setStrt { s.strt with seq := (s.strt.seq + 1) % 256 }).bump64
      STRT_TX_LO_COUNT))
  else s

/-- Sends a message to a device of the group, or to all; outside a cascade no message is sent (R368). -/
def State.sendFrame (s : State) (typ : Nat) (dst : Option Nat) (payload : List (BitVec 8)) : State :=
  if s.inGroup then s.sendOn (s.portsFor dst) typ dst payload else s

/-! ### Who is heard (R371, R377, R380) -/

/-- A message of device `d` has arrived: it is heard, and present again with PEER_BACK when it was not (R377). -/
def State.heard (s : State) (d : Nat) : State :=
  let t := s.setPeer d { s.peer d with heard := some s.now }
  if bitOf (s.get STRT_STAT_PRESENT) d then t
  else
    let u := t.put STRT_STAT_PRESENT (s.get STRT_STAT_PRESENT + 2 ^ d)
    if s.inGroup then u.raiseInt 0x88 1 else u

/-! ### Shares (R155, R382, R383) -/

/-- The SAVE_POWER of a member: its latest MEMBER_INFO, or this device's own. -/
def State.powerOf (s : State) (d : Nat) : Nat := if d = s.devNo then s.cfg PERS_SAVE_POWER_MW else (s.peer d).power

/-- The save-set islets this device has still to read (R372). -/
def State.leftToRead (s : State) : Nat :=
  match s.save.run with
  | some r => r.todo.length
  | none => 0

/-- need_k of R383, in mJ. -/
def needOf (power left rate fixed : Nat) : Nat := power * (left * 65536 / max rate 1 + fixed) / 1000000

/-- The need of a member during a save (R383). -/
def State.memberNeed (s : State) (d : Nat) : Nat :=
  if d = s.devNo then
    (if s.save.ended then 0
     else needOf (s.cfg PERS_SAVE_POWER_MW) s.leftToRead (s.cfg PERS_SAVE_RATE_MBPS) (s.cfg PERS_SAVE_FIXED_US))
  else if (s.peer d).saveDone then 0
  else needOf (s.peer d).power (s.peer d).left (s.peer d).rate (s.peer d).fixed

/-- The share of member `d` in an energy of `e` mJ: by power in a run, by need during a save (R382, R383). -/
def State.shareOf (s : State) (e d : Nat) : Nat :=
  if s.saving then e * s.memberNeed d / max 1 ((s.expected.map s.memberNeed).foldl (· + ·) 0)
  else e * s.powerOf d / max 1 ((s.expected.map s.powerOf).foldl (· + ·) 0)

end Sys2Proof.Machine
end

