-- ==== Sys2Proof/Machine/SaveCore.lean ====
section
/-! DEFINITION. The start of a power-fail save, steps 1 and 2 (R118 to R123, R127, R129 to R131, R135, R136, R139), with
what every block does at the fence: R92, R106, R268, R397, R449, R453, R470, R490, R525, R547, R555. -/

namespace Sys2Proof.Machine

/-- May an accepted trigger start a save (R118, R121, R407): none runs, none has ended since the last reset, the safe state was
not entered with SOUND at 0 (R126), and the controller is out of reset? -/
def State.canSave (s : State) : Bool :=
  s.save.run.isNone && !s.save.ended && !s.save.failed && !s.save.barred && decide (s.rst.phase ≠ .off)

/-- The host is fenced and held writes are admitted (R127 step 2, R131). -/
def State.fence (s : State) : State := (s.setHlk { s.hlk with fenced := true }).admitAll

/-- Open barriers are discarded without a report, and their sweep ends (R92, R100). -/
def State.dropBarriers (s : State) : State :=
  (s.setPers { s.pers with barriers := [], barNs := none, barWait := false }).refreshBars
    |>.put PERS_SHD_STAT_BAR_SWEEP 0

/-- Is this an entry of a copy, which is void once its epoch stays unsealed (R135)? -/
def JEntry.ofCopy : JEntry → Bool
  | .copy _ _ => true
  | .reloc _ _ => true
  | .poison _ _ _ => true
  | .band _ _ _ => false
  | .subst _ _ _ => false
  | .redirect _ _ _ _ _ _ _ => false
  | .dieFail _ _ => false

/-- Every unsealed shadow and fold copy is abandoned; its islet is saved by the residual save (R106, R135). -/
def State.abandonUnsealed (s : State) : State :=
  let a := s.pers.copies.foldl State.abandonCopy s
  let t := a.setMedia { a.media with
    pend := (a.media.pend.filter (fun e => !e.2.ofCopy)).map (fun e => (a.epoch, e.2)) } |>.dropFold
  (t.setPers { t.pers with band := t.pers.band.map (fun u => if u.foldedIn = none then { u with left := none }
                                                            else u) }).refresh
    |>.put PERS_SHD_STAT_FOLDING 0

/-- A running erase is suspended. -/
def DieRec.holdErase (d : DieRec) : DieRec :=
  match d.busy with
  | some o => if o.kind = .erase then { d with busy := none, susp := some o } else d
  | none => d

/-- What FCH discards at a save: NORMAL and UPKEEP entries and the stripes behind them, whose skerries take no further rows; an erase is
suspended (R242, R535); program failures are counted from the save on (R145). -/
def State.flashFence (s : State) : State :=
  let t := s.farr.stripes.foldl (fun (t : State) x => t.setSk x.skerry { t.sk x.skerry with closed := true }) s
  t.setFarr { t.farr with
    queues := Sparse.mapVals (fun _ => []) (fun l => l.filter (fun o => decide (o.queue = .demand ∨ o.queue = .save)))
      t.farr.queues
    stripes := []
    dies := Sparse.mapVals (fun _ => noDie) (fun d => { d.holdErase with saveFails := 0 }) t.farr.dies }

/-- An update in hand ends in FAILED with a status: what waits for the array is dropped, and the failure is raised and recorded
(R504, R510, R518). -/
def State.svcFail (s : State) (status : Nat) : State :=
  if 1 ≤ s.get SVC_STAT_STATE ∧ s.get SVC_STAT_STATE ≤ 4 then
    let t := (s.setSvc { s.svc with background := false }).setAtol
      { s.atol with queue := s.atol.queue.filter (fun o => decide (o.src ≠ 3)) }
    let u := ((t.put SVC_STAT_STATE 6).put SVC_STAT_LAST_STATUS status).raiseInt 0x9C 1
    u.recEvent ⟨2, 0x9C, 0x0903, 0, false, false, [BitVec.ofNat 32 status, BitVec.ofNat 32 (s.get SVC_DONE_BYTES)]⟩
  else s

/-- A capacity test ends, recording ABORTED, and CHG_EN is left to the save (R547). -/
def State.abortCapTest (s : State) : State :=
  if s.flag UPK_STAT_CAP_RUN then
    (((s.put UPK_STAT_CAP_RUN 0).put CAP_RATIO_ABORTED 1).put CAP_RATIO_VALID 0)
  else s

/-- Atoll serves REC alone: an erase in progress is suspended as by HALT (R470). -/
def State.atolFence (s : State) : State :=
  match s.atol.erase with
  | none => s
  | some _ =>
    if s.atol.halted then s
    else ((((s.setAtol { s.atol with halted := true, bySave := true }).put ATOL_ARRAY_ERASING 0).put
      ATOL_ARRAY_SUSPENDED 1).bump ATOL_SUSP_COUNT)

/-- Queued management transactions of the local bus end with outcome SAVE; only the gauge entry goes on, and it is polled
next (R490). -/
def State.twlFence (s : State) : State :=
  let t := s.setTwl { s.twl with glen := 0, due := (List.range 16).filter (fun n => decide (s.cfg (TWL_POLL_A_DEST n) = 1)) }
  if t.twl.cur = some .mgmt then
    match t.twl.next with
    | none => t
    | some _ => ((t.setTwl { t.twl with next := none }).put TWL_XSTAT_OUTCOME 5).raiseInt 0x98 0
  else
    match t.twl.mgmt with
    | none => t
    | some _ =>
      (((t.setTwl { t.twl with mgmt := none, next := none }).put TWL_XSTAT_BUSY 0).put TWL_XSTAT_OUTCOME 5).raiseInt 0x98 0

/-- PERS keeps only the fault-ins of not-restored islets with a received write waiting; one not yet under way is requested
(R139). -/
def State.restoreFence (s : State) : State :=
  let wanted := ((s.rstr.heldTable ++ s.hlk.buf).filter (fun r => r.write && !s.isRestored (r.line / 1024))).map
    (fun r => r.line / 1024)
  let t := s.setRstr { s.rstr with
    slots := s.rstr.slots.filter (fun e => wanted.contains e.1)
    faultQ := s.rstr.faultQ.filter (fun e => wanted.contains e.1) }
  (wanted.foldl State.requestFaultIn t).refreshHeld

/-- PWR records a refusal, or an abort, of a request for `target` by a block (R525). -/
def State.pwrRefuse (s : State) (block target : Nat) (aborted : Bool) : State :=
  let t := (((s.put PWR_REFUSE_BLOCK block).put PWR_REFUSE_TARGET target).put PWR_REFUSE_ABORTED (b2n aborted)).put
    PWR_REFUSE_VALID 1
  let u := if aborted then t.bump PWR_ABORT_CNT_COUNT else t.bump PWR_REFUSE_CNT_COUNT
  (u.put PWR_MODE_TARGET (s.get PWR_STAT_STATE)).raiseInt 0x03 2

/-- An entry in progress at a save trigger ends where it stands, counted as an abort with block 0x28. -/
def State.abortEntry (s : State) : State :=
  match s.pwr.entering with
  | none => s
  | some t => s.pwrRefuse 0x28 t true

/-- The PLLs that BASIN stops, all but PLL S, stop (R528). -/
def State.clocksOff (s : State) : State :=
  (s.put CLK_STAT_LOCK (s.get CLK_STAT_LOCK / 32 * 32)).put CLK_STAT_ON_AON (s.get CLK_STAT_ON_AON / 32 * 32)

/-- The PLLs lock again, from REFCLK while it is in range, else from CLK25_IN; PLL H has no other input than REFCLK (R391,
R528, R531). -/
def State.clocksOn (s : State) : State :=
  if s.flag CLK_STAT_REF_OK then (s.put CLK_STAT_LOCK (s.get CLK_STAT_LOCK / 32 * 32 + 31)).put CLK_STAT_ON_AON
    (s.get CLK_STAT_ON_AON / 32 * 32)
  else (s.put CLK_STAT_LOCK (s.get CLK_STAT_LOCK / 32 * 32 + 29)).put CLK_STAT_ON_AON (s.get CLK_STAT_ON_AON / 32 * 32 + 29)

/-- PWR enters SAVE: a pending entry or exit ends, every domain is on; from BASIN DRAM leaves self-refresh (R520, R525, R528, R129). -/
def State.pwrToSave (s : State) : State :=
  let t := if s.get PWR_STAT_STATE = 2 then s.clocksOn.setRst { s.clocksOn.rst with selfRefresh := false } else s.abortEntry
  (((((t.setPwr { t.pwr with entering := none, switching := false, wakeCode := none }).put PWR_STAT_STATE 3).put
    PWR_STAT_ENTERING 0).put PWR_STAT_EXITING 0).put PWR_STAT_WAKE_LATCHED 0).put PWR_STAT_DOM_ON 0x1FF

/-- A quiesce in progress is abandoned and its reset held (R397). -/
def State.quiesceToHeld (s : State) : State :=
  match s.rst.quiesce with
  | none => s
  | some c => (s.setRst { s.rst with quiesce := none, held := some c }).put RST_STAT_HELD 1

/-- Status and pins at the trigger (R118, R121, R127 step 2). -/
def State.saveStatus (s : State) (cause : Nat) : State :=
  let t := s.setSave { s.save with
    holdEn := true, chgEn := false, saveActive := true, saveDone := false, failSeen := s.save.pfailLow || s.save.railLow }
  ((((((((t.put SAVE_STAT_ACTIVE 1).put SAVE_STAT_DONE 0).put SAVE_STAT_SHORT 0).put SAVE_STAT_EMPTY 0).put
    SAVE_STAT_PEER_LOST 0).put SAVE_STAT_CAUSE cause).put SAVE_STAT_CUT_CAUSE 0).put SAVE_STAT_FAILED_CH 0)

/-- N_top: the highest N_b among the open barriers (R136). -/
def State.nTop (s : State) : Option Nat :=
  s.pers.barriers.foldl (fun o b => match o with
    | none => some b.nb
    | some n => some (max n b.nb)) none

/-- The message of step 2: SAVE from the master on its own trigger, SAVE_START from a member (R152, R372, R384). -/
def State.saveMessage (s : State) (cause : Nat) : State :=
  if s.isMaster then s.sendFrame 0x10 none []
  else if cause = 4 then s
  else s.sendFrame 0x11 none [BitVec.ofNat 8 cause]

/-- E_t0: the energy input PERS last used; in a cascade the share the master last assigned, its own share on the master (R141,
R155); before any share the energy input. DEDUCED, log 35. -/
def State.energyAtStart (s : State) : Nat :=
  if s.isMaster then
    match s.pers.own with
    | some g => s.shareOf g.1 s.devNo
    | none => s.get PERS_ENERGY_MJ
  else if s.inGroup ∧ s.strt.shareAt.isSome = true then s.get STRT_SHARE_MJ
  else s.get PERS_ENERGY_MJ

/-- The record of the save that starts now (R119, R135, R141). -/
def State.newRun (s : State) (t0 : Nat) : SaveRun :=
  { t0 := t0, step := .fenced, fromBasin := decide (s.get PWR_STAT_STATE = 2), ef := s.epoch, lastSealed := s.sealedEpoch
    nTop := s.nTop, todo := [], written := [], zeros := [], eT0 := s.energyAtStart, gauge := none
    heard := 2 ^ s.devNo, lost := false, cut := none, startUs := 0, dataUs := 0, stripe := none, placed := [], extra := []
    turn := 0, entries := [], sealedUs := 0 }

/-- An empty save: the host is fenced, nothing is written, and SAVE_DONE rises (R122). -/
def State.endEmpty (s : State) : State :=
  (((((s.setPwr { s.pwr with enteredAt := s.now }).setSave
    { s.save with run := none, ended := true, saveActive := false, saveDone := true }).put SAVE_STAT_ACTIVE 0).put SAVE_STAT_DONE 1).put SAVE_STAT_EMPTY 1).put PWR_STAT_STATE 2

/-- A trigger with a lower code than that of the save that started in this pass: when both were accepted in one fabric cycle,
which is free, the save keeps the lower code and its t0 (R118). DESIGN CHOICE, log 61. -/
def State.tieTrigger (s : State) (cause t0 : Nat) : State :=
  if s.save.startedAt = some s.now ∧ cause < s.get SAVE_STAT_CAUSE then
    if s.free % 2 = 1 then
      (s.drawn.put SAVE_STAT_CAUSE cause).setSave { s.save with run := s.save.run.map (fun r => { r with t0 := t0 }) }
    else s.drawn
  else s

/-- A save starts at a trigger with CAUSE `cause` and time zero `t0` (R118, R119, R127 steps 1 and 2). In test mode the
trigger is recorded and nothing starts (R555). -/
def State.startSave (s : State) (cause t0 : Nat) : State :=
  if s.flag TST_STAT_TEST_MODE then s.put TST_STAT_TRIG_SEEN 1
  else if ¬ s.canSave then s.tieTrigger cause t0
  else
    let run := s.newRun t0
    let a := (((s.saveStatus cause).endFreeze).quiesceToHeld).abortCapTest
    let b := (a.pwrToSave).setSave { a.pwrToSave.save with run := some run, startedAt := some s.now }
    let c := (((b.flush).svcFail 0x0E).atolFence).twlFence
    let d := (((c.fence).dropBarriers).abandonUnsealed).flashFence
    let e := ((d.moversToSave).restoreFence).saveMessage cause
    if e.active then e.refresh else e.endEmpty

end Sys2Proof.Machine
end

