-- ==== Sys2Proof/Machine/Faults.lean ====
section
/-! DEFINITION. What every detector does (R411 to R419, R425, R586), the safe state (R429, R430), and what a reset of a
block returns to its reset value (R29, R393). -/

namespace Sys2Proof.Machine

/-! ### The host link goes away (R43) -/

/-- The holder of semaphore `n`: 0 when it is free (R38). -/
def semHolder (n : Nat) : Fld := ⟨0x4050 + 4 * (n / 16), 2 * (n % 16), 2⟩

/-- Frees semaphore `n`. -/
def State.freeSem (s : State) (n : Nat) : State :=
  { s.put (semHolder n) 0 with leases := Sparse.set (fun _ => ⟨0, 0, false⟩) s.leases n ⟨0, 0, false⟩ }

/-- Every semaphore the host port holds is freed, with an event record for each (R43). DESIGN CHOICE, log 66. -/
def State.freeHostSems (s : State) : State :=
  (List.range 64).foldl (fun t n =>
    if t.get (semHolder n) = 1 then (t.freeSem n).event .semFreed 0x04 [n, 1] else t) s

/-- The link registers with no link up. -/
def State.clearLink (s : State) : State :=
  (((((s.put HLK_LINK_UP 0).put HLK_LINK_RATE 0).put HLK_LINK_WIDTH 0).put HLK_LINK_FLIT256 0).put HLK_LINK_MEM_EN 0).put
    HLK_LINK_LTSSM 0

/-- The host link goes down: nothing more is answered, requests in the receive buffer that wait are gone, the host
port's semaphores are freed (R43, R363). -/
def State.dropLink (s : State) : State :=
  ((s.setHlk { s.hlk with linkUp := false, inL1 := false, inL2 := false, memEnable := false }).clearLink).freeHostSems

/-! ### Messages (R412, R413) -/

/-- No message. -/
def noMsg : FltMsg := ⟨0, 0, 0, 0, 0, false, 0, 0, 0, false, 0⟩

/-- The severity with which source `n` of page `p` fires now: SEQ_INTERNAL is FATAL during a save (R121, R157). -/
def State.severity (s : State) (p n : Nat) : Nat :=
  if p = 0x29 ∧ n = 0 ∧ s.saving = true then 3 else (faultSources p).getD n 0

/-- Is page `p` outside every reset scope: always-on logic, FLT, and SAVE during a save (R426)? -/
def State.neverShadowed (s : State) (p : Nat) : Bool :=
  alwaysOn p || decide (0x90 ≤ p ∧ p < 0x94) || (s.saving && decide (0x28 ≤ p ∧ p < 0x2C))

/-- Does a reset cover page `p` (R425)? -/
def ScopeOf.covers (w : ScopeOf) (p : Nat) : Bool :=
  match w with
  | .block b => decide (blockOf p = b)
  | .domain d => decide (domainOf p = d)
  | .core k => decide (p = 0xD0 + k)

/-- The reset in whose shadow page `p` lies, from its assertion until 2 passes after its release (R425). -/
def State.shadowOf (s : State) (p : Nat) : Option Scope :=
  if s.neverShadowed p then none
  else s.flt.scopes.find? (fun c => decide (c.phase ≠ .waiting) && c.what.covers p)

/-! ### Records (R417 to R419) -/

/-- The status word bits a record sets (R416). -/
def FltRec.statusBits (r : FltRec) : Nat :=
  2 ^ (17 + r.sev) + b2n r.conseq * 2 ^ 22 + b2n r.coincident * 2 ^ 23 + b2n r.inj * 2 ^ 26

/-- Sets status word bits given as a mask (R416). -/
def State.fltStatus (s : State) (m : Nat) : State :=
  s.put FLT_STATUS_LO_STATUS ((BitVec.ofNat 32 (s.get FLT_STATUS_LO_STATUS) ||| BitVec.ofNat 32 m).toNat)

/-- Counts a record by its severity (R436). -/
def State.countRecord (s : State) (r : FltRec) : State :=
  let t := if r.sev = 0 then s.bump FLT_CNT_ADV_COUNT else if r.sev = 1 then s.bump FLT_CNT_CORR_COUNT
    else if r.sev = 2 then s.bump FLT_CNT_CONT_COUNT else s.bump FLT_CNT_FATAL_COUNT
  if r.conseq then t.bump FLT_CNT_CONSEQ_COUNT else t

/-- The block number behind a full source number's page. -/
def pageOfSrc (cluster src : Nat) : Nat :=
  ((List.range 256).find? (fun p => implemented p && decide (clusterOf p = cluster ∧ slotOf p = src / 32))).getD 0x90

/-- The record goes to the event recorder, subject to ADV_TO_REC and CORR_TO_REC; a CONTAINED or FATAL one requests a
flush (R418, R449). -/
def State.recordToRec (s : State) (r : FltRec) : State :=
  if (r.sev = 0 ∧ s.cfgOn FLT_CTRL_ADV_TO_REC = false) ∨ (r.sev = 1 ∧ s.cfgOn FLT_CTRL_CORR_TO_REC = false) then s
  else
    let t := s.recEvent ⟨1, blockOf (pageOfSrc r.cluster r.src), r.cluster * 1024 + r.src, r.sev * 64 + r.kind,
      r.coincident, decide (r.sev = 3), r.words.take 7⟩
    if 2 ≤ r.sev then t.flush else t

/-- The next FSEQ after `n`: 0xFFFF wraps to 0x0001 (R417). -/
def nextFseq (n : Nat) : Nat := if n = 0xFFFF then 1 else n + 1

/-- A record enters the log with the next FSEQ (R417, R418). DEDUCED, log 39. -/
def State.makeRecord (s : State) (r0 : FltRec) : State :=
  let r := { r0 with fseq := s.get FLT_SEQ_NEXT }
  let full := decide (64 ≤ s.flt.log.length)
  let t := (s.setFlt { s.flt with
    log := (if full then s.flt.log.drop 1 else s.flt.log) ++ [r]
    first := match s.flt.first with
      | none => some r
      | some x => some x
    fatal := if r.sev = 3 ∧ s.flt.fatalDue = true then some r else s.flt.fatal
    fatalDue := s.flt.fatalDue && decide (r.sev ≠ 3) }).put FLT_SEQ_NEXT (nextFseq r.fseq)
  let u := (t.countRecord r).fltStatus r.statusBits
  let v := if full then (u.fltStatus (2 ^ 24)).raiseInt 0x90 4 else u
  let w := if r.sev = 3 ∧ s.flt.fatalDue = true then v.put FLT_SAFE_CAUSE_SEQ r.fseq else v
  (w.recordToRec r).raiseInt 0x90 r.sev

/-- A record of FLT's own source RESET_NOTE for a reset that FLT did not start (R425, R586): the first page of the block,
or 0x100 plus the domain's position. It carries the PASS and CYCLE of the hit it stands before, so both are COINCIDENT (R417).
DEDUCED, log 38. -/
def State.resetNote (s : State) (c : Scope) (p cycle : Nat) : State :=
  let addr := match c.what with
    | .block b => b
    | .domain d => 0x100 + d
    | .core k => 0xD0 + k
  let fseq := s.get FLT_SEQ_NEXT
  let t := ((s.bumpSat (ERR_COUNT_COUNT 0x90)).put (ERR_COUNT_LAST_SRC 0x90) 5).fltStatus (2 ^ 16)
  if bitOf (s.get (ERR_MASK_MASK 0x90)) 5 then t
  else
    let u := t.makeRecord ⟨0, 16, 0, true, false, false, false, srcOf 0x90 5, 7, 0, 7, addr, 0, s.pass32, cycle % 3000, 0⟩
    u.setFlt { u.flt with lastTime := some (s.pass32, cycle % 3000), scopes := u.flt.scopes.map (fun d => if d.what = c.what ∧ c.what.covers p then { d with parent := fseq } else d) }

/-! ### The safe state (R429, R430) -/

/-- A save ends without SAVE_DONE: SEQ_INTERNAL, or the supplies (R121, R151). -/
def State.failSave (s : State) : State :=
  if s.saving then
    ((s.setSave { s.save with run := none, failed := true, saveActive := false }).put SAVE_STAT_ACTIVE 0)
  else s

/-- The outputs of the safe state without a save: the host lanes go to electrical idle (R429). -/
def State.safeLanes (s : State) : State := if s.saving then s else s.dropLink

/-- The safe state is entered, once, at a FATAL level; contained reactions that have not started are superseded (R415, R424,
R429, R430). -/
def State.enterSafe (s : State) : State :=
  if s.flag FLT_SAFE_SAFE then s
  else
    let saves := s.flag SAVE_STAT_SOUND && s.cfgOn SAVE_CTRL_FATAL_EN && !s.saving
    let z := (s.put FLT_SAFE_SAFE 1).fltStatus (2 ^ 21)
    let a := z.setFlt { z.flt with fatalDue := true, scopes := z.flt.scopes.filter (fun c => decide (c.phase ≠ .waiting)) }
    let b := (a.setRst { a.rst with aliveRun := false, quiesce := if saves then a.rst.quiesce else none }).setSave
      { a.save with chgEn := false, barred := a.save.barred || !s.flag SAVE_STAT_SOUND }
    let c := (b.endFreeze).flush
    let d := c.setHlk { c.hlk with fenced := true }
    let e := if saves then (d.startSave 3 d.now) else d
    let f := if e.saving || (e.save.ended && !d.save.ended) then e.put FLT_SAFE_SAVED (b2n saves) else e
    (f.setPwr { f.pwr with entering := none, switching := false }).put PWR_STAT_ENTERING 0 |>.safeLanes

/-! ### A detector fires (R412, R413, R415, R416, R425) -/

/-- The message joins its source's pending register: a further hit raises REPEAT, and SEV when it is higher (R413). -/
def FltMsg.merge (old new : FltMsg) : FltMsg :=
  { old with rep := min (old.rep + 1) 0xFFFF, sev := max old.sev new.sev }

/-- Writes or merges a message in its pending register, with the status bit of its cluster (R413, R415, R416). -/
def State.postMsg (s : State) (m : FltMsg) : State :=
  let k := fsrcOf m.page m.src
  let old := Sparse.get (fun _ => noMsg) s.flt.pend k
  let m' := if old = noMsg then m else old.merge m
  let c := clusterOf m.page
  let quiet := !s.flt.pend.any (fun e => decide (clusterOf e.2.page = c))
  let t := s.setFlt { s.flt with pend := Sparse.set (fun _ => noMsg) s.flt.pend k m' }
  if c = 16 then t.fltStatus (2 ^ 16) else if quiet then t.fltStatus (2 ^ c) else t

/-- SEQ_INTERNAL clears SOUND, and during a save ends it without SAVE_DONE (R121, R126). -/
def State.seqInternal (s : State) : State :=
  let t := if s.flag SAVE_STAT_SOUND then (s.put SAVE_STAT_SOUND 0).raiseInt 0x29 2 else s
  (t.refreshArmed).failSave

/-- Is a fault's reaction carried out: it is real, or INJ_DRY is 0 (R428)? -/
def State.reacts (s : State) (inj : Bool) : Bool := !inj || !s.cfgOn FLT_CTRL_INJ_DRY

/-- Source `n` of page `p` fires with a severity at a fabric cycle of this pass (R412). A FATAL level acts at once (R415). -/
def State.raiseFaultSev (s : State) (p n sev kind addr cycle : Nat) (inj : Bool) : State :=
  let last := Sparse.get (fun _ => ((0, 0) : Nat × Nat)) s.flt.lastReal (fsrcOf p n)
  let a := (s.bumpSat (ERR_COUNT_COUNT p)).put (ERR_COUNT_LAST_SRC p) n
  let b := if inj then a else
    a.setFlt { a.flt with lastReal := Sparse.set (fun _ => ((0, 0) : Nat × Nat)) a.flt.lastReal (fsrcOf p n) (kind, addr % 2 ^ 48) }
  let c := match s.shadowOf p with
    | none => b
    | some sc => if sc.parent = 0 ∧ (bitOf (s.get (ERR_MASK_MASK p)) n = false ∨ sev = 3) then b.resetNote sc p cycle else b
  let parent : Option Nat := (c.shadowOf p).map Scope.parent
  let m : FltMsg := ⟨p, n, if inj then last.1 else kind, if inj then last.2 else addr % 2 ^ 48, sev, inj, cycle % 3000,
    s.pass32, 0, parent.isSome, parent.getD 0⟩
  let d := if bitOf (s.get (ERR_MASK_MASK p)) n ∧ sev ≠ 3 then c else c.postMsg m
  let e := if sev = 3 ∧ parent = none ∧ s.reacts inj = true then d.enterSafe else d
  if p = 0x29 ∧ n = 0 then e.seqInternal else e

/-- Source `n` of page `p` fires with the severity its chapter gives it. -/
def State.raiseFaultAt (s : State) (p n kind addr cycle : Nat) (inj : Bool) : State :=
  s.raiseFaultSev p n (s.severity p n) kind addr cycle inj

/-- Source `n` of page `p` fires inside a command that gives no fabric cycle: a free one. DESIGN CHOICE, log 12. -/
def State.raiseFault (s : State) (p n kind addr : Nat) : State :=
  (s.drawn).raiseFaultAt p n kind addr (s.free % 3000) false

/-! ### Abandoned copies (R106) -/

/-- An abandonment outside a save raises COPY_ABANDON (R106). -/
def State.abandonRaised (s : State) (c : Copy) : State := ((s.abandonCopy c).raiseInt 0x21 2).raiseFault 0x21 1 7 0

/-- Abandons the staged copies of a stripe, its list of islets and read-start epochs (R106, R249). -/
def State.abandonStripe (s : State) (slc : Bool) (l : List (Nat × Nat)) : State :=
  ((s.pers.copies.filter (fun c => decide (c.phase = .staged ∧ c.slc = slc) && l.contains (c.islet, c.r))).foldl
    State.abandonRaised s).refresh

/-- The staging bank of a stream that `own` accepts returns an uncorrectable error at islet `i`'s place: its staged copy is
abandoned by `f` (R106). -/
def State.stagingLost (s : State) (f : State → Copy → State) (own : Nat → Bool) (i : Nat) : State :=
  ((s.pers.copies.filter (fun c => decide (c.phase = .staged ∧ c.islet = i) && own c.stream)).foldl f s).refresh

/-! ### A reset returns a block to its reset values (R29, R393) -/

/-- The header offsets that a block's reset returns (R29). -/
def headerReturns (o : Nat) : Bool :=
  decide ((0x0C ≤ o ∧ o ≤ 0x24) ∨ o = 0x2C ∨ o = 0x30 ∨ o = 0x38)

/-- Registers whose reset value is what a start found in Atoll's own blocks: the protection level and the defect counts. -/
def startRegister (a : Nat) : Bool := decide (a = 0x81050 ∨ (0x82040 ≤ a ∧ a < 0x8204C))

/-- Fields whose reset value is the one kept in Atoll, and DSC's failed-device marks, kept with the training results (R78,
R164, R187, R334, R363, R387, R519, R552). -/
def storedFields : List Fld :=
  [PERS_E_FLOOR_MJ, HLK_CFG_X8, STRT_EXCLUDE_MASK, UPK_TL_TL_ADDR, UPK_TL_MW_MW, SVC_CTRL_EN, SVC_CTRL_UPD_EN, SVC_CTRL_PROT_EN
  , RSTR_CTRL_AUTO_FORMAT, RSTR_CASC_WAIT_MS]
  ++ (List.range 64).flatMap (fun k => [DSC_DEVFAIL_VALID (k / 16) (k % 16), DSC_DEVFAIL_DEVICE (k / 16) (k % 16)])

/-- The stored value of a kept field. -/
def State.stored (s : State) (f : Fld) : Nat := getBits (Sparse.get resetWord s.cfgStore f.addr) f.lo f.w

/-- Keeps a field's value in Atoll. -/
def State.store (s : State) (f : Fld) (v : Nat) : State :=
  { s with cfgStore := Sparse.set resetWord s.cfgStore f.addr (putBits (Sparse.get resetWord s.cfgStore f.addr) f.lo f.w v) }

/-- A kept field takes its stored value, in its register and, where it is shadowed, in the shadow. -/
def State.loadField (s : State) (f : Fld) : State :=
  let t := s.put f (s.stored f)
  if isShadowAddr (f.addr + 0x800) then t.put ⟨f.addr + 0x800, f.lo, f.w⟩ (s.stored f) else t

/-- HLK_LINK and HLK_DECn show the link and the decoders, which a block reset of HLK leaves as they are (R364). -/
def linkRegister (a : Nat) : Bool := decide (a = 0x10080 ∨ (0x100A0 ≤ a ∧ a < 0x100B0))

/-- Does a reset of the blocks on the pages that satisfy `covered` return register key `k` to its reset value?
DEDUCED, log 32. -/
def returnsAtReset (covered : Nat → Bool) (k : Nat) : Bool :=
  let a := k % 0x100000
  covered (a / 0x1000) && !startRegister a && !linkRegister a && (decide (0x40 ≤ a % 0x1000) || headerReturns (a % 0x1000))

/-- Entries of the resource table that the covered blocks own become free (R29). -/
def State.releaseBlocks (s : State) (covered : Nat → Bool) : State :=
  (List.range 32).foldl (fun t e =>
    if t.get (RES_ENTRY_OWNER e) ≠ 0xFF ∧ covered (t.get (RES_ENTRY_OWNER e)) = true then t.put (RES_ENTRY_OWNER e) 0xFF
    else t) s

/-- A field of the covered pages whose reset value lies in Atoll takes it, EC_RATED that of the die profile; DRC_CFG keeps
what the start set (R332), and STRT_STAT shows the straps and the device's own bit (R387). -/
def State.reloadStored (old : State) (covered : Nat → Bool) (s : State) : State :=
  let t0 := (storedFields.filter (fun f => covered (f.addr / 0x1000))).foldl State.loadField s
  let t := if covered 0xA0 then t0.put UPK_WEAR_EC_RATED s.mdl.ecRated else t0
  let u := [0x50040, 0x54040].foldl (fun t a =>
    if covered (a / 0x1000) then t.put ⟨a, 0, 13⟩ (old.get ⟨a, 0, 13⟩) else t) t
  if covered 0x88 then
    ((u.put STRT_STAT_DEV_NO (old.get STRT_STAT_DEV_NO)).put STRT_STAT_RING (old.get STRT_STAT_RING)).put STRT_STAT_PRESENT
      (2 ^ old.get STRT_STAT_DEV_NO)
  else u

/-- The registers of the covered pages return to their reset values and their resources are released (R29). -/
def State.resetPages (s : State) (covered : Nat → Bool) : State :=
  let t := s.releaseBlocks covered
  (State.reloadStored s covered
    { t with regs := t.regs.filter (fun e => !returnsAtReset covered e.1)
             late := t.late.filter (fun e => !returnsAtReset covered e.1)
             latch := t.latch.filter (fun e => !covered (e.1 % 0x100000 / 0x1000)) }).settle

/-- The mover channels of the covered pages abort with cause RESET before their registers reset (R295). -/
def State.resetMovers (s : State) (covered : Nat → Bool) : State :=
  ((List.range 32).filter (fun c => covered (0x30 + c))).foldl State.resetChan s

/-- What a reset of DSCR's, Atoll's, FLT's, MVG's or STRT's pages does to the state that their registers show (R29). -/
def State.resetUpkeep (s : State) (covered : Nat → Bool) : State :=
  let t := if covered 0x5C then s.setDscr { s.dscr with acc := 0, due := 0, marks := [] } else s
  let u := if covered 0x80 then t.setAtol { t.atol with seqs := [], queue := [] } else t
  let v := if covered 0x92 then u.setFlt { u.flt with log := [] } else u
  let w := if covered 0xB7 then v.setMov { v.mov with ring := [] } else v
  if covered 0x88 then w.setStrt { w.strt with shareAt := none } else w

/-- A soft or device reset of the covered pages: movers abort first, then every register returns, and what follows other
state is brought up to date (R29, R295, R393). -/
def State.resetBlocks (s : State) (covered : Nat → Bool) : State :=
  (((s.resetMovers covered).resetPages covered).resetUpkeep covered).refreshHlk

end Sys2Proof.Machine
end

