-- ==== Sys2Proof/Machine/Flt.lean ====
section
/-! DEFINITION. FLT's recording and reactions (R417, R420 to R428), the resets it drives (R421 to R425), the pass-tick
watch (R432), the Glen cores' restarts (R433, R434), and the writes of FLT_POP and FLT_FIRST_CLR (R436). -/

namespace Sys2Proof.Machine

/-! ### Which message is recorded next (R417) -/

/-- The order of R417: (PASS, CYCLE) ascending, then severity descending, then FSRC ascending. Within one cluster it is the order in
which the concentrator passes its pending messages on: oldest timestamp, then severity, then the lower SRC (R414). -/
def FltMsg.before (a b : FltMsg) : Bool :=
  if a.pass ≠ b.pass then decide (a.pass < b.pass)
  else if a.cycle ≠ b.cycle then decide (a.cycle < b.cycle)
  else if a.sev ≠ b.sev then decide (b.sev < a.sev)
  else decide (fsrcOf a.page a.src < fsrcOf b.page b.src)

/-- The held message that is recorded next. -/
def firstMsg : List (Nat × FltMsg) → Option FltMsg
  | [] => none
  | e :: t =>
    match firstMsg t with
    | none => some e.2
    | some m => if m.before e.2 then some m else some e.2

/-- Does another message of the same cycle exist, held or just recorded (R417)? -/
def State.coincides (s : State) (m : FltMsg) : Bool :=
  decide (s.flt.lastTime = some (m.pass, m.cycle))
    || s.flt.pend.any (fun e => decide (e.2 ≠ m ∧ e.2.pass = m.pass ∧ e.2.cycle = m.cycle))

/-! ### Reactions (R420, R423, R433) -/

/-- How FLT reacts to a CONTAINED record. -/
inductive Reaction where
  | own (code : Nat)
  | reset (what : ScopeOf)
  deriving DecidableEq, Repr

/-- CONTAINED sources whose chapter names a reaction other than a reset, with its code (R95, R117, R181, R195, R241, R247,
R257, R264, R275, R325, R326, R391, R409, R471, R484, R523, R541). -/
def ownReaction (p n : Nat) : Option Nat :=
  if p = 0x90 ∧ n = 0 then some 3 else if p = 0x20 ∧ (n = 3 ∨ n = 4) then some 1 else if p = 0x21 ∧ n = 0 then some 1
  else if p = 0x2D ∧ n = 1 then some 0 else if p = 0x2D ∧ n = 3 then some 1
  else if 0x60 ≤ p ∧ p < 0x70 ∧ n = 0 then some 1 else if 0x60 ≤ p ∧ p < 0x70 ∧ n = 4 then some 0
  else if p = 0x70 ∧ n = 0 then some 0 else if p = 0x70 ∧ n = 2 then some 1
  else if 0x30 ≤ p ∧ p < 0x50 ∧ n = 0 then some 0
  else if (p = 0x50 ∨ p = 0x54) ∧ n = 2 then some 1
  else if 0xB0 ≤ p ∧ p < 0xB4 ∧ n = 1 then some 1
  else if p = 0x80 ∧ n = 0 then some 0
  else if alwaysOn p ∨ (0x90 ≤ p ∧ p < 0x94) then some (if p = 0x98 ∧ n = 1 ∨ p = 0x01 then 1 else 0)
  else none

/-- How often block `b` was reset within ESC_MS (R423). -/
def State.recentResets (s : State) (b : Nat) : Nat :=
  (s.flt.resets.filter (fun e => decide (e.1 = b ∧ s.now < e.2 + s.cfg FLT_ESC_ESC_MS * 1000))).length

/-- Does core `k`'s crash call for a reset of the whole cluster: its third within 10 s, or all four cores within 1 ms
(R433)? -/
def State.clusterCrash (s : State) (k : Nat) : Bool :=
  decide (3 ≤ (s.flt.crashes.filter (fun e => decide (e.1 = k ∧ s.now < e.2 + 10000000))).length)
    || (List.range 4).all (fun j => s.flt.crashes.any (fun e => decide (e.1 = j ∧ s.now < e.2 + 1000)))

/-- The reaction to a CONTAINED fault of source `n` of page `p` (R420, R423, R433). -/
def State.reaction (s : State) (p n : Nat) : Reaction :=
  if 0xD0 ≤ p ∧ p < 0xD4 then (if s.clusterCrash (p - 0xD0) then .reset (.domain 4) else .reset (.core (p - 0xD0)))
  else
    match ownReaction p n with
    | some c => .own c
    | none =>
      if s.cfg FLT_ESC_ESC_N ≤ s.recentResets (blockOf p) then .reset (.domain (domainOf p)) else .reset (.block (blockOf p))

/-- The code of a reaction (R419). DEDUCED, log 38. -/
def Reaction.code : Reaction → Nat
  | .own c => c
  | .reset (.domain _) => 3
  | .reset _ => 2

/-- A reset that is an escalation of a repeated fault (R423). -/
def escalates (p : Nat) (r : Reaction) : Bool :=
  match r with
  | .reset (.domain _) => !(decide (0xD0 ≤ p ∧ p < 0xD4))
  | _ => false

/-- An escalation is counted and shown (R423). -/
def State.escalated (s : State) : State := (s.fltStatus (2 ^ 25)).bump FLT_CNT_ESC_COUNT

/-- A reset is called for: it is asserted at the next tick, once (R421). -/
def State.callReset (s : State) (what : ScopeOf) (parent : Nat) : State :=
  if s.flt.scopes.any (fun c => decide (c.what = what)) then s
  else s.setFlt { s.flt with scopes := s.flt.scopes ++ [⟨what, parent, .waiting, s.now, s.now⟩] }

/-- The reaction to a record is started. -/
def State.react (s : State) (p : Nat) (r : Reaction) (fseq : Nat) : State :=
  match r with
  | .own _ => s
  | .reset w => if escalates p r then (s.escalated).callReset w fseq else s.callReset w fseq

/-- The REACTION code of a FATAL record: the first brought the safe state, with or without a save (R419, R430). -/
def State.fatalCode (s : State) : Nat := if s.flt.fatalDue then (if s.flag FLT_SAFE_SAVED then 5 else 4) else 0

/-- The REACTION code of a dry FATAL record: the reaction it would have had (R428, R429). -/
def State.dryFatalCode (s : State) : Nat :=
  if s.flag FLT_SAFE_SAFE then 0
  else if s.flag SAVE_STAT_SOUND && s.cfgOn SAVE_CTRL_FATAL_EN && !s.saving && !s.save.ended then 5 else 4

/-- The record of a message with a reaction code and the DRY flag (R419). -/
def FltMsg.record (m : FltMsg) (co dry : Bool) (code : Nat) : FltRec :=
  ⟨0, clusterOf m.page, m.sev, co, m.conseq, m.inj, dry, srcOf m.page m.src, m.kind, m.rep, code, m.addr, m.parent,
    m.pass, m.cycle, 0⟩

/-- FLT records the next held message and reacts to it (R417 to R420, R424, R425, R428). -/
def State.recordNext (s : State) : State :=
  match firstMsg s.flt.pend with
  | none => s
  | some m =>
    let co := s.coincides m
    let t := s.setFlt { s.flt with
      pend := Sparse.set (fun _ => noMsg) s.flt.pend (fsrcOf m.page m.src) noMsg, lastTime := some (m.pass, m.cycle) }
    let fseq := s.get FLT_SEQ_NEXT
    if m.conseq then t.makeRecord (m.record co false 6)
    else if m.sev ≤ 1 then t.makeRecord (m.record co false 0)
    else if ¬ s.reacts m.inj then
      t.makeRecord (m.record co true (if m.sev = 3 then s.dryFatalCode else (s.reaction m.page m.src).code))
    else if m.sev = 3 then t.makeRecord (m.record co false s.fatalCode)
    else if s.flag FLT_SAFE_SAFE then t.makeRecord (m.record co false 0)
    else
      let r := s.reaction m.page m.src
      (t.makeRecord (m.record co false r.code)).react m.page r fseq

/-! ### Asserting and releasing resets (R421 to R425) -/

/-- Does a reset cover page `p` when it is asserted: never always-on logic, FLT, or SAVE during a save (R426)? -/
def State.inScope (s : State) (w : ScopeOf) (p : Nat) : Bool := !s.neverShadowed p && w.covers p

/-- HLK's reset discards the requests whose own entry reads uncorrectable: a read is answered with poison, a write is
dropped and recorded (R364). -/
def State.discardBad (s : State) : State :=
  let bad := s.hlk.buf.filter (fun r => s.hlk.badEntries.contains r.seq)
  bad.foldl (fun t r =>
      if r.write then t.event .droppedWrite 0x10 [r.line * 64 % 2 ^ 32, r.line * 64 / 2 ^ 32]
      else (t.bump HLK_PSN_TX_COUNT).reply r (fun n => .memData n 0 true))
    (s.setHlk { s.hlk with buf := s.hlk.buf.filter (fun r => !s.hlk.badEntries.contains r.seq), badEntries := [] })

/-- A domain reset discards the queues of its domain (R422). -/
def State.discardQueues (s : State) (d : Nat) : State :=
  if d = 3 then
    ((s.setPers { s.pers with hold := [], recWait := [] }).setRstr { s.rstr with heldTable := [] }).refreshHeld
  else if d = 5 then s.setHlk { s.hlk with buf := [] }
  else if d = 6 ∨ d = 7 then
    s.setDrc { s.drc with rows := s.drc.rows.filter (fun e => decide ((e.1 / 1024 = 0) ≠ (d = 6)))
                          queue := s.drc.queue.filter (fun r => decide ((drcOf r.line = 0) ≠ (d = 6))) }
  else if d = 8 then s.setFarr { s.farr with queues := [], stripes := [] }
  else s

/-- A Glen core's reset: it restarts, its work waits, an update in hand ends with ABORTED, and a capacity test ends, its load
switched off by the restarted firmware (R433, R434, R510, R547). -/
def State.coreReset (s : State) (k : Nat) : State :=
  let t := (s.put (GLC_STAT_STATE k) 2).svcFail 0x0D
  if t.flag UPK_STAT_CAP_RUN then
    ((t.abortCapTest).setSave { t.save with chgEn := true }).setTwl { t.twl with glen := t.twl.glen + 1 }
  else t

/-- What a reset that FLT begins does when it is asserted (R421, R295, R364, R433): its movers abort, HLK discards what reads
uncorrectable, a domain's queues are discarded. The blocks' registers come back as they were: the state reload of R422. A block
reset of a DRC leaves its queues as they are: their requests are offered again (R333). -/
def State.assertReset (s : State) (w : ScopeOf) : State :=
  match w with
  | .core k => s.coreReset k
  | .block b => ((if b = 0x10 then s.discardBad else s).resetMovers (fun p => s.inScope w p)).refreshHlk
  | .domain d =>
    let t := (((s.discardQueues d).resetMovers (fun p => s.inScope w p)).refreshHlk)
    if d = 4 then (List.range 4).foldl State.coreReset t else t

/-- At the tick every waiting reset is asserted (R421). -/
def State.assertResets (s : State) : State :=
  let due := s.flt.scopes.filter (fun c => decide (c.phase = .waiting))
  let t := s.setFlt { s.flt with
    scopes := s.flt.scopes.map (fun c => if c.phase = .waiting then { c with phase := .asserted, since := s.now } else c)
    resets := s.flt.resets ++ due.filterMap (fun c => match c.what with
      | .block b => some (b, s.now)
      | _ => none) }
  due.foldl (fun u c => u.assertReset c.what) t

/-- The pages of a block read SOFT_RST 0 again. -/
def State.endSoft (s : State) (w : ScopeOf) : State :=
  match w with
  | .block b => (pagesOf b).foldl (fun t p => if t.flag (PAGE_CTRL_SOFT_RST p) then t.put (PAGE_CTRL_SOFT_RST p) 0 else t) s
  | _ => s

/-- The block or domain reports ready and its reset is released; `late` when it reports in the cycle its limit expires
(R421, R425). -/
def State.releaseReset (s : State) (w : ScopeOf) (late : Bool) : State :=
  if s.flt.scopes.any (fun c => decide (c.what = w ∧ c.phase = .asserted)) then
    let t := s.setFlt { s.flt with scopes := s.flt.scopes.map (fun c =>
      if c.what = w ∧ c.phase = .asserted then { c with phase := .settling, since := s.now } else c) }
    ((if late then t.lateOk 0x90 else t).endSoft w).refreshHlk
  else s

/-- Writes the measured stall into the record that began the reset (R422). -/
def setStall (fseq us : Nat) (r : FltRec) : FltRec := if r.fseq = fseq then { r with stall := us } else r

/-- The stall of a reaction: its record, the longest, and STALL_OVER above 400 µs (R422). -/
def State.recordStall (s : State) (fseq us : Nat) : State :=
  let t := s.setFlt { s.flt with log := s.flt.log.map (setStall fseq us), first := s.flt.first.map (setStall fseq us) }
  let u := t.put FLT_STALL_MAX_US (max (t.get FLT_STALL_MAX_US) (min us 0xFFFF))
  if 400 < us then (((u.fltStatus (2 ^ 27)).raiseInt 0x90 5).raiseFault 0x90 3 7 0) else u

/-- Two passes after its release a reset's scope is shadowed no more; the stall of FLT's reaction is measured then
(R422, R425). -/
def State.endShadow (s : State) (w : ScopeOf) (us : Nat) : State :=
  match s.flt.scopes.find? (fun c => decide (c.what = w ∧ c.phase = .settling)) with
  | none => s
  | some c =>
    if s.now < c.since + 2 then s
    else
      let t := s.setFlt { s.flt with scopes := s.flt.scopes.filter (fun d => decide (d ≠ c)) }
      if c.parent = 0 then t else t.recordStall c.parent us

/-- A block reset passes 200 µs: RESET_OVERRUN, and a reset of the block's power domain (R423). -/
def State.resetOverrun (s : State) (b : Nat) : State :=
  match s.flt.scopes.find? (fun c => decide (c.what = .block b ∧ c.phase = .asserted)) with
  | none => s
  | some c =>
    if s.now < c.since + 200 then s
    else
      let t := s.raiseFault 0x90 0 0x0B b
      let u := t.setFlt { t.flt with scopes := t.flt.scopes.filter (fun d => decide (d ≠ c)) }
      (u.escalated).callReset (.domain (domainOf b)) c.parent

/-- A domain reset passes 300 µs: RESET_STUCK, which is FATAL (R423). -/
def State.resetStuck (s : State) (d : Nat) : State :=
  match s.flt.scopes.find? (fun c => decide (c.what = .domain d ∧ c.phase = .asserted)) with
  | none => s
  | some c =>
    if s.now < c.since + 300 then s
    else ((s.escalated).raiseFault 0x90 1 0x0B (((List.range 256).find? (fun p => implemented p && decide (domainOf p = d))).getD 0))

/-! ### The pass tick is watched (R432) -/

/-- No tick for 100 µs in RUN, TERRACE, SAVE or RESTORE: TICK_STALL; the check is off in BASIN, and outside these states. -/
def State.tickStall (s : State) : State :=
  if s.get PWR_STAT_STATE = 2 ∨ s.rst.phase = .off ∨ s.rst.phase = .recovery then s else s.raiseFault 0x90 6 5 0

/-! ### Glen cores (R433) -/

/-- Core `k` crashes with source `n` of its page (R433, R437). -/
def State.coreCrash (s : State) (k n : Nat) : State :=
  let t := s.setFlt { s.flt with crashes := s.flt.crashes ++ [(k, s.now)] }
  (t.put (GLC_STAT_LAST_CAUSE k) n).bump (GLC_CRASH_COUNT k)

/-- A restarted core runs again (R433). -/
def State.coreBack (s : State) (k us : Nat) : State :=
  if s.get (GLC_STAT_STATE k) = 2 then (s.put (GLC_STAT_STATE k) 1).put (GLC_RESTART_US_US k) us else s

/-! ### FLT_POP and FLT_FIRST_CLR (R436) -/

/-- A write to FLT_POP removes the oldest record. -/
def State.fltPop (s : State) : State := s.setFlt { s.flt with log := s.flt.log.drop 1 }

/-- A write to FLT_FIRST_CLR clears FLT_FIRST. -/
def State.fltFirstClr (s : State) : State := s.setFlt { s.flt with first := none }

end Sys2Proof.Machine
end

