-- ==== Sys2Proof/Machine/Atol.lean ====
section
/-! DEFINITION. Atoll (R455 to R480): its code words, the operations of the array with suspends and arbitration, the
command sequences of the window, reads with their corrected-bit report, retirement, the boot selector, the protection
level and its wipe, and what a reset or a loss of power leaves. -/

namespace Sys2Proof.Machine

/-! ### Code words and blocks -/

/-- An erased code word (R464). -/
def erasedWord : CodeWord := ⟨BitVec.allOnes 256, false, false⟩

/-- The block record of a block that nothing has happened to. -/
def freshBlk : AtolBlk := ⟨0, false, 0, false, false⟩

/-- Code word `cw`: window offsets `32 * cw` to `32 * cw + 31` (R455). -/
def State.cell (s : State) (cw : Nat) : CodeWord := Sparse.get (fun _ => erasedWord) s.atol.cells cw

/-- Stores a code word. -/
def State.setCell (s : State) (cw : Nat) (c : CodeWord) : State :=
  s.setAtol { s.atol with cells := Sparse.set (fun _ => erasedWord) s.atol.cells cw c }

/-- The record of logical block `b`. -/
def State.atolBlk (s : State) (b : Nat) : AtolBlk := Sparse.get (fun _ => freshBlk) s.atol.blocks b

/-- Stores a block record. -/
def State.setAtolBlk (s : State) (b : Nat) (x : AtolBlk) : State :=
  s.setAtol { s.atol with blocks := Sparse.set (fun _ => freshBlk) s.atol.blocks b x }

/-- The logical block of a code word: 2,048 code words of 32 bytes. -/
def blkOfCw (cw : Nat) : Nat := cw / 2048

/-- The code of a port as a source of Atoll operations (R480). -/
def sourceOf (p : Port) : Nat :=
  match p with
  | .host => 4
  | .sideband => 5
  | .glen => 1
  | .tst => 6

/-- The port behind a source code, if it has a window (R459). -/
def portOfSource (n : Nat) : Option Port :=
  if n = 4 then some .host else if n = 5 then some .sideband else if n = 1 then some .glen
  else if n = 6 then some .tst else none

/-- Sets a bit of the source's ATOL_PSTAT. -/
def State.setErr (s : State) (p : Port) (f : Fld) : State := s.put (f.at p) 1

/-- Sets a bit of the ATOL_PSTAT behind a source code; a source without a window has none. -/
def State.srcErr (s : State) (n : Nat) (f : Fld) : State :=
  match portOfSource n with
  | some p => s.setErr p f
  | none => s

/-! ### The array (R463, R466, R470) -/

/-- Has the source an operation pending or running (R463)? -/
def State.srcBusy (s : State) (n : Nat) : Bool :=
  s.atol.queue.any (fun o => decide (o.src = n))
    || (match s.atol.running with
        | some o => decide (o.src = n)
        | none => false)
    || (match s.atol.erase with
        | some o => decide (o.src = n)
        | none => false)

/-- The source's ATOL_PSTAT.BUSY follows its operations. -/
def State.refreshBusy (s : State) (n : Nat) : State :=
  match portOfSource n with
  | some p => s.put (ATOL_PSTAT_BUSY.at p) (b2n (s.srcBusy n))
  | none => s

/-- An operation has ended: BUSY falls, and OP_DONE is raised for a management port (R463, R480). -/
def State.opEnded (s : State) (n : Nat) : State :=
  let t := s.refreshBusy n
  if n = 4 ∨ n = 5 then t.raiseInt 0x80 0 else t

/-- The place of a source in the order of programs and erases (R470). -/
def sourceRank (n : Nat) : Nat :=
  if n = 2 then 0 else if n = 0 then 1 else if n = 1 then 2 else if n = 3 then 3 else if n = 6 then 4
  else if n = 5 then 5 else 6

/-- Is this operation an erase? -/
def AtolOp.isErase (o : AtolOp) : Bool :=
  match o.kind with
  | .erase _ => true
  | _ => false

/-- May the operation start now: one at a time, REC alone during a save, a program under an erase only when that erase
is suspended by HALT or by a save (R466, R468, R470)? -/
def State.opStarts (s : State) (o : AtolOp) : Bool :=
  s.atol.running.isNone && (!s.saving || decide (o.src = 2)) &&
    (if o.isErase then s.atol.erase.isNone else s.atol.erase.isNone || s.atol.halted)

/-- The operation of the queue that goes next, by the source order of R470. -/
def firstOp (startable : AtolOp → Bool) : List AtolOp → Option AtolOp
  | [] => none
  | o :: t =>
    match firstOp startable t with
    | none => if startable o then some o else none
    | some p => if startable o && decide (sourceRank o.src ≤ sourceRank p.src) then some o else some p

/-- Is a code word erased in the sense of R464; for an undefined one the outcome is open (R472). -/
def State.wordErased (s : State) (cw : Nat) : Bool :=
  if (s.cell cw).undef || s.atol.undefBlocks.contains (blkOfCw cw) then decide (s.free % 2 = 1)
  else decide (s.cell cw = erasedWord)

/-- The operation starts in the array; a program of a word that is not erased is not carried out (R464). -/
def State.startOp (s : State) (o : AtolOp) : State :=
  match o.kind with
  | .erase b =>
    (((s.setAtol { s.atol with erase := some o, halted := false }).put ATOL_ARRAY_ERASING 1).put ATOL_ARRAY_SOURCE o.src).put
      ATOL_ARRAY_ERASE_BLOCK b
  | .program cw _ =>
    if s.wordErased cw then
      (((s.drawn).setAtol { s.atol with running := some o }).put ATOL_ARRAY_PROGRAMMING 1).put ATOL_ARRAY_SOURCE o.src
    else ((((s.drawn).srcErr o.src ATOL_PSTAT_ERR_NOTERASED).bump ATOL_NOTERASED_COUNT).opEnded o.src)
  | _ => ((s.setAtol { s.atol with running := some o }).put ATOL_ARRAY_PROGRAMMING 1).put ATOL_ARRAY_SOURCE o.src

/-- The array takes up what may start: at most an erase and the program behind it. -/
def State.runArray : Nat → State → State
  | 0, s => s
  | n + 1, s =>
    match firstOp s.opStarts s.atol.queue with
    | none => s
    | some o => State.runArray n ((s.setAtol { s.atol with queue := s.atol.queue.filter (fun q => decide (q ≠ o)) }).startOp o)

/-- A completed command joins the operations of its source (R463). -/
def State.enqueueOp (s : State) (o : AtolOp) : State :=
  ((State.runArray 8 (s.setAtol { s.atol with queue := s.atol.queue ++ [o] })).refreshBusy o.src)

/-! ### Protection (R475) -/

/-- The protection level in force. -/
def State.protLevel (s : State) : Nat := s.get ATOL_PROT_LEVEL

/-- May a port read logical block `b` at the level in force (R475)? Glen firmware has its private path. -/
def State.mayRead (s : State) (p : Port) (b : Nat) : Bool :=
  decide (p = .glen) || decide (448 ≤ b)
    || (if b = 68 ∨ b = 69 then false
        else if p = .tst then decide (s.protLevel = 0)
        else if b < 4 ∨ (70 ≤ b ∧ b < 126) then decide (s.protLevel < 2)
        else decide (s.protLevel = 0))

/-- May a port program or erase logical block `b` (R475)? -/
def mayChange (p : Port) (b : Nat) : Bool := decide (p = .glen) || decide (448 ≤ b ∧ b < 480)

/-! ### Sequences (R461, R462) -/

/-- The command offset C. -/
def atolC : Nat := 0xFFE0

/-- A command word of R461. -/
def cmdWord (op arg : Nat) : Nat := 0xA7000000 + arg * 0x10000 + (0xFF - op) * 0x100 + op

/-- The sequence of a source, if one is in progress. -/
def State.seqOf (s : State) (p : Port) : Option AtolSeq := Sparse.get (fun _ => none) s.atol.seqs (sourceOf p)

/-- Sets or ends the sequence of a source. -/
def State.setSeq (s : State) (p : Port) (q : Option AtolSeq) : State :=
  (s.setAtol { s.atol with seqs := Sparse.set (fun _ => none) s.atol.seqs (sourceOf p) q }).put (ATOL_PSTAT_MODE.at p)
    (b2n q.isSome)

/-- A sequence is abandoned: ERR_SEQ, and read mode (R462). -/
def State.abandonSeq (s : State) (p : Port) : State :=
  ((s.setSeq p none).setErr p ATOL_PSTAT_ERR_SEQ).bump ATOL_SEQERR_COUNT

/-- A program or an erase of block `b` by a port: refused under R475, R463, R469 or R477, or queued. DEDUCED, log 44. -/
def State.changeBlock (s : State) (p : Port) (b : Nat) (k : AtolKind) : State :=
  if ¬ mayChange p b then s.setErr p ATOL_PSTAT_ERR_PROTECT
  else if s.srcBusy (sourceOf p) then s.setErr p ATOL_PSTAT_ERR_BUSY
  else
    let under := match s.atol.erase with
      | some o => decide (o.kind = AtolKind.erase b)
      | none => false
    match k with
    | .program _ _ =>
      if under then s.setErr p ATOL_PSTAT_ERR_ERASING
      else if (s.atolBlk b).bad then s.setErr p ATOL_PSTAT_ERR_BAD
      else s.enqueueOp ⟨sourceOf p, k⟩
    | _ => s.enqueueOp ⟨sourceOf p, k⟩

/-- A boot swap, refused for every source but the ROM and the service port path, and while an operation on an Isle is
pending or running (R474). -/
def State.isleBusy (s : State) : Bool :=
  let isle := fun (o : AtolOp) => match o.kind with
    | .erase b => decide (4 ≤ b ∧ b < 68)
    | .program cw _ => decide (4 ≤ blkOfCw cw ∧ blkOfCw cw < 68)
    | _ => false
  s.atol.queue.any isle || (match s.atol.running with
      | some o => isle o
      | none => false)
    || (match s.atol.erase with
      | some o => isle o
      | none => false)

/-- The protection command of a source, confirmed (R476): it raises the level, does nothing, or begins a wipe. -/
def State.protect (s : State) (src level : Nat) : State :=
  if level = s.protLevel then s
  else if s.srcBusy src then s.srcErr src ATOL_PSTAT_ERR_BUSY
  else if s.protLevel < level then s.enqueueOp ⟨src, .protect level⟩
  else if s.saving then s.srcErr src ATOL_PSTAT_ERR_BUSY
  else (s.put ATOL_PROT_WIPING 1).enqueueOp ⟨src, .protect level⟩

/-- The command word of a source at C begins a command (R461). -/
def State.beginCmd (s : State) (p : Port) (op level : Nat) : State :=
  let r := s.put (ATOL_PSTAT_MODE.at p) 0
  if op = 0x33 then
    if s.atol.erase.isSome ∧ s.atol.halted = false ∧ s.atol.running = none then
      (((r.setAtol { r.atol with halted := true, bySave := false }).put ATOL_ARRAY_ERASING 0).put
        ATOL_ARRAY_SUSPENDED 1).bump ATOL_SUSP_COUNT |> State.runArray 8
    else r.setErr p ATOL_PSTAT_ERR_NOSUSP
  else if op = 0x34 then
    if s.atol.erase.isSome ∧ s.atol.halted = true ∧ s.atol.bySave = false then
      ((r.setAtol { r.atol with halted := false }).put ATOL_ARRAY_ERASING 1).put ATOL_ARRAY_SUSPENDED 0
    else r.setErr p ATOL_PSTAT_ERR_SEQ
  else if op = 0x44 then s.put (ATOL_PSTAT_MODE.at p) 2
  else if op = 0x55 then
    if p = .tst ∧ s.flag TST_STAT_TEST_MODE = true then s.put (ATOL_PSTAT_MODE.at p) 3
    else r.setErr p ATOL_PSTAT_ERR_MODE
  else if op = 0x7E then r
  else s.setSeq p (some ⟨op, level, [], 0, s.now⟩)

/-- The second cycle of ERASE, FLIP or PROTECT completes the command (R461, R474, R476). -/
def State.completeCmd (s : State) (p : Port) (q : AtolSeq) (w : Nat) : State :=
  let t := s.setSeq p none
  if q.op = 0x22 then t.changeBlock p (w / 0x10000) (.erase (w / 0x10000))
  else if q.op = 0x66 then t.setErr p ATOL_PSTAT_ERR_PROTECT
  else if p = .host ∨ p = .sideband then t.protect (sourceOf p) q.level
  else t.setErr p ATOL_PSTAT_ERR_PROTECT

/-- A data cycle of PROGRAM; the eighth starts the program (R461, R464). -/
def State.programCycle (s : State) (p : Port) (q : AtolSeq) (w : Nat) (data : Word) : State :=
  if (q.words = [] ∧ w % 32 = 0) ∨ (q.words ≠ [] ∧ w = q.first + 4 * q.words.length) then
    let ws := q.words ++ [data]
    let first := if q.words = [] then w else q.first
    if ws.length = 8 then
      (s.setSeq p none).changeBlock p (first / 0x10000)
        (.program (first / 32) (BitVec.ofNat 256 (leNat (wordBytes ws))))
    else s.setSeq p (some { q with words := ws, first := first, since := s.now })
  else s.abandonSeq p

/-- Is `data` a command word, and which: OP and level (R461)? -/
def cmdOf (data : Nat) : Option (Nat × Nat) :=
  let op := data % 256
  let arg := data / 0x10000 % 256
  if data = cmdWord op arg ∧
      ((op = 0x77 ∧ arg ≤ 2) ∨
        (arg = 0 ∧ (op = 0x11 ∨ op = 0x22 ∨ op = 0x33 ∨ op = 0x34 ∨ op = 0x44 ∨ op = 0x55 ∨ op = 0x66 ∨ op = 0x7E)))
  then some (op, arg) else none

/-- A write of a source at window offset `w` (R458, R461, R462). -/
def State.winWrite (s : State) (p : Port) (w : Nat) (data : Word) : State :=
  if 480 ≤ w / 0x10000 then
    (if (s.seqOf p).isSome then s.abandonSeq p else s).setErr p ATOL_PSTAT_ERR_RANGE
  else
    match s.seqOf p with
    | some q =>
      if w = atolC ∧ data.toNat = cmdWord 0x7E 0 then s.setSeq p none
      else if q.op = 0x11 then s.programCycle p q w data
      else if q.op = 0x22 then
        if data.toNat = cmdWord 0x22 0 then s.completeCmd p q w else s.abandonSeq p
      else if q.op = 0x66 then
        if w = atolC ∧ data.toNat = cmdWord 0x66 0 then s.completeCmd p q w else s.abandonSeq p
      else if w = atolC ∧ data.toNat = 0x4C560000 + q.level then s.completeCmd p q w
      else s.abandonSeq p
    | none =>
      if w = atolC then
        match cmdOf data.toNat with
        | some c => s.beginCmd p c.1 c.2
        | none => s.setErr p ATOL_PSTAT_ERR_SEQ
      else s.setErr p ATOL_PSTAT_ERR_SEQ

/-- SEQ_TMO_US passes between two cycles of a sequence (R462). -/
def State.seqTimeout (s : State) (p : Port) : State :=
  match s.seqOf p with
  | none => s
  | some q => if s.now < q.since + s.cfg ATOL_CFG_SEQ_TMO_US then s else s.abandonSeq p

/-! ### Reads (R458, R468, R469, R471, R475, R479) -/

/-- The record in slot `n` of the Atoll ring, whose oldest record lies in the slot after the newest's round the ring (R448). -/
def State.ringSlot (s : State) (n : Nat) : Option RecRec :=
  let first := s.recd.slotAge - s.recd.atoll.length
  s.recd.atoll[(n + 16384 - first % 16384) % 16384]?

/-- Word `w / 4` of the array's data: a selector record, a record of the event ring, or a code word; `none` when what is there is
undefined (R472), or is a structure of the firmware's own, whose form the spec does not state. DESIGN CHOICE, log 86. -/
def State.arrayWord (s : State) (w : Nat) : Option Word :=
  let b := w / 0x10000
  if (s.atolBlk b).bad then some 0xFFFFFFFF
  else if s.atol.undefBlocks.contains b || (s.cell (w / 32)).undef then none
  else if b < 2 then
    some ((Sparse.get (fun _ => none) s.atol.selLog (w / 32)).elim 0xFFFFFFFF (fun x => x.words.getD (w / 4 % 8) 0))
  else if 94 ≤ b ∧ b < 126 then
    match s.ringSlot ((w - 94 * 0x10000) / 128) with
    | some r => if r.good then some (r.words.getD (w / 4 % 32) 0) else none
    | none => some 0xFFFFFFFF
  else if b < 4 ∨ (68 ≤ b ∧ b < 448) then none
  else some ((s.cell (w / 32)).data.extractLsb' (32 * (w / 4 % 8)) 32)

/-- The report of a code-word read: CBITS, EARLY and UE, their counts, causes and faults (R471, R478). -/
def State.readReport (s : State) (p : Port) (w cbits : Nat) (ue : Bool) : State :=
  let b := w / 0x10000
  let early := decide (s.cfg ATOL_CFG_EARLY_TH < cbits)
  let t := ((s.put (ATOL_RD_STAT_CBITS.at p) (min cbits 12)).put (ATOL_RD_STAT_EARLY.at p) (b2n early)).put
    (ATOL_RD_STAT_UE.at p) (b2n ue)
  let u := if early || ue then t.bump ATOL_EARLY_CNT_COUNT else t
  let v := if early && !(s.atolBlk b).early then
      (((u.setAtolBlk b { s.atolBlk b with early := true }).raiseInt 0x80 1).raiseFault 0x80 5 7 (w / 32 * 32))
    else u
  if ue then v.raiseFault 0x80 0 7 (w / 32 * 32) else v

/-- A read of array data by a port; a running erase of another block is auto-suspended for it (R468). -/
def State.arrayRead (s : State) (p : Port) (w cbits : Nat) (ue : Bool) : State × Word :=
  let b := w / 0x10000
  let under := match s.atol.erase with
    | some o => decide (o.kind = AtolKind.erase b)
    | none => false
  if ¬ s.mayRead p b then (s.setErr p ATOL_PSTAT_ERR_PROTECT, 0)
  else if under then ((s.put (ATOL_RD_STAT_UE.at p) 1).setErr p ATOL_PSTAT_ERR_ERASING, 0xFFFFFFFF)
  else
    let t := if s.atol.erase.isSome ∧ s.atol.halted = false then s.bump ATOL_SUSP_COUNT else s
    match t.arrayWord w with
    | some x => (t.readReport p w cbits ue, x)
    | none => ((t.drawn).readReport p w cbits ue, BitVec.ofNat 32 t.free)

/-- A read of a source at window offset `w`; `cbits` and `ue` are what the decoder found (R458, R461, R462, R471, R479). -/
def State.winRead (s : State) (p : Port) (w cbits : Nat) (ue : Bool) : State × Word :=
  let t := if (s.seqOf p).isSome then s.abandonSeq p else s
  if s.get (ATOL_PSTAT_MODE.at p) = 2 then (s.put (ATOL_PSTAT_MODE.at p) 0, s.word (perKey p 0x81044))
  else if 480 ≤ w / 0x10000 then (t.setErr p ATOL_PSTAT_ERR_RANGE, 0)
  else if s.get (ATOL_PSTAT_MODE.at p) = 3 then
    (s, if w % 0x10000 < 4 then BitVec.ofNat 32 (s.atolBlk (w / 0x10000)).ec else 0)
  else t.arrayRead p w cbits ue

/-- The window offset behind page offset `o` for a source (R458). -/
def State.winOffset (s : State) (p : Port) (o : Nat) : Nat := s.get (ATOL_WIN_BASE.at p) * 0x800 + (o - 0x40)

/-! ### The end of operations (R465, R467, R474, R476, R477) -/

/-- A block is marked for retirement (R477, R478). -/
def State.markWorn (s : State) (b : Nat) : State :=
  if (s.atolBlk b).marked then s
  else (s.setAtolBlk b { s.atolBlk b with marked := true }).bumpSat ATOL_WORN_BLOCKS

/-- A program ends after `pulses` pulses, verified or not (R465, R477). -/
def State.programEnded (s : State) (src cw : Nat) (data : BitVec 256) (pulses : Nat) (ok : Bool) : State :=
  let b := blkOfCw cw
  let t := s.bump64 ATOL_PROGS_LO_COUNT
  if ok then
    let u := t.setCell cw ⟨data, true, false⟩
    let slow := if s.cfg ATOL_CFG_PULSE_WARN < pulses then (s.atolBlk b).slow + 1 else 0
    let v := u.setAtolBlk b { u.atolBlk b with slow := slow }
    if 3 ≤ slow then v.markWorn b else v
  else
    ((((t.setCell cw { s.cell cw with used := true, undef := true }).markWorn b).srcErr src ATOL_PSTAT_ERR_PROG_FAIL).raiseFault
      0x80 1 7 (cw * 32))

/-- The words of block `b` are erased and its count rises (R467). -/
def State.clearBlock (s : State) (b : Nat) : State :=
  let t := s.setAtol { s.atol with
    cells := s.atol.cells.filter (fun e => decide (blkOfCw e.1 ≠ b))
    selLog := s.atol.selLog.filter (fun e => decide (blkOfCw e.1 ≠ b)), undefBlocks := dropNat s.atol.undefBlocks b }
  (t.setAtolBlk b { t.atolBlk b with ec := (t.atolBlk b).ec + 1, early := false, slow := 0 }).bump ATOL_ERASES_COUNT

/-- The code word of the selector pair that the next selector record takes (R473). -/
def Atol.nextSel (a : Atol) : Nat := a.selAt % 4096

/-- The block of the pair that a selector record opens is erased first, when the open block is full (R473). -/
def State.openSelector (s : State) : State :=
  if s.atol.nextSel % 2048 = 0 then s.clearBlock (s.atol.nextSel / 2048) else s

/-- A new boot selector record is programmed, and is in force (R473). -/
def State.setSelector (s : State) (y : Selector) : State :=
  let t := s.openSelector
  let x := { y with seq := t.atol.sel.seq + 1 }
  ((t.setAtol { t.atol with sel := x, selLog := Sparse.set (fun _ => none) t.atol.selLog t.atol.nextSel (some x), selAt := t.atol.selAt + 1 }).bump64
    ATOL_PROGS_LO_COUNT).put ATOL_PROT_LEVEL x.prot

/-- A boot swap by a source: the ROM's leaves UPD_PEND 0, the service port path's sets it (R474). -/
def State.bootSwap (s : State) (src : Nat) : State :=
  s.setSelector { s.atol.sel with active := 1 - s.atol.sel.active, updPend := decide (src = 3) }

/-- The running program, swap or protection record ends (R465, R474, R476). -/
def State.progDone (s : State) (pulses : Nat) (ok : Bool) : State :=
  match s.atol.running with
  | none => s
  | some o =>
    let t := (s.setAtol { s.atol with running := none }).put ATOL_ARRAY_PROGRAMMING 0
    let u := match o.kind with
      | .program cw data => t.programEnded o.src cw data pulses ok
      | .swap => t.bootSwap o.src
      | .protect l =>
        if s.protLevel < l then t.setSelector { t.atol.sel with prot := l }
        else (t.setSelector { t.atol.sel with wipePend := true }).setAtol
          { (t.setSelector { t.atol.sel with wipePend := true }).atol with wipeTo := l }
      | .erase _ => t
    State.runArray 8 (u.opEnded o.src)

/-- A spare takes the place of a block, or, with none left, the block goes on, BAD when its verify failed (R477). -/
def State.retire (s : State) (b : Nat) (failed : Bool) : State :=
  match s.atol.spares with
  | [] => if failed then s.setAtolBlk b { s.atolBlk b with bad := true } else s
  | e :: t =>
    let u := ((s.setAtol { s.atol with spares := t }).setAtolBlk b ⟨e, false, 0, false, false⟩).put ATOL_SPARE_FREE t.length
    let v := u.bumpSat ATOL_GROWN_BLOCKS
    let w := if (s.atolBlk b).marked then v.put ATOL_WORN_BLOCKS (v.get ATOL_WORN_BLOCKS - 1) else v
    if t = [] then (w.raiseInt 0x80 2).raiseFault 0x80 3 7 (b * 0x10000) else w

/-- The running erase ends, its block verified or not (R467, R477). -/
def State.eraseDone (s : State) (ok : Bool) : State :=
  match s.atol.erase with
  | none => s
  | some o =>
    match o.kind with
    | .erase b =>
      if s.atol.halted then s
      else
        let t := ((s.setAtol { s.atol with erase := none }).put ATOL_ARRAY_ERASING 0).clearBlock b
        let u := if ok then t else t.raiseFault 0x80 2 7 (b * 0x10000)
        let v := if ok = false ∨ (s.atolBlk b).marked = true then u.retire b (!ok) else u
        State.runArray 8 (v.opEnded o.src)
    | _ => s

/-- An erase that a save suspended resumes (R470). -/
def State.atolResume (s : State) : State :=
  if s.atol.bySave then
    State.runArray 8 (((s.setAtol { s.atol with halted := false, bySave := false }).put ATOL_ARRAY_ERASING 1).put
      ATOL_ARRAY_SUSPENDED 0)
  else State.runArray 8 s

/-! ### Resets, loss of power, and the wipe (R472, R476) -/

/-- A program or erase is cut off: its code word, or its whole block, is undefined; the previous selector record stays in force (R472,
R474). -/
def State.cutOp (s : State) (o : AtolOp) : State :=
  match o.kind with
  | .program cw _ => s.setCell cw { s.cell cw with undef := true }
  | .erase b => s.setAtol { s.atol with undefBlocks := insertNat s.atol.undefBlocks b }
  | _ =>
    let t := s.openSelector
    (t.setCell t.atol.nextSel { t.cell t.atol.nextSel with undef := true }).setAtol
      { (t.setCell t.atol.nextSel { t.cell t.atol.nextSel with undef := true }).atol with selAt := t.atol.selAt + 1 }

/-- Every operation in progress is cut off, and what waits is gone (R472). -/
def State.atolCut (s : State) : State :=
  let t := match s.atol.running with
    | some o => s.cutOp o
    | none => s
  let u := match s.atol.erase with
    | some o => t.cutOp o
    | none => t
  u.setAtol { u.atol with running := none, erase := none, halted := false, bySave := false, queue := [], seqs := [] }

/-- ATOL_INTERNAL resets the controller as a block: operations in progress end with ERR_ABORT (R472). -/
def State.atolAbort (s : State) : State :=
  let srcs := (s.atol.running.toList ++ s.atol.erase.toList).map (fun o => o.src)
  let t := (((s.atolCut).put ATOL_ARRAY_ERASING 0).put ATOL_ARRAY_SUSPENDED 0).put ATOL_ARRAY_PROGRAMMING 0
  srcs.foldl (fun u n => (u.srcErr n ATOL_PSTAT_ERR_ABORT).opEnded n) t

/-- The wipe of the array is complete: every block is erased, the selector pair holds one record with the new level, and
what Atoll kept, the event ring among it, is gone (R476). -/
def State.wiped (s : State) : State :=
  let t := (List.range 480).foldl (fun u b =>
    u.setAtolBlk b { u.atolBlk b with ec := (u.atolBlk b).ec + 1, early := false, slow := 0 }) s
  let u := t.setAtol { t.atol with
    cells := [], selLog := [(0, some ⟨1, 0, false, false, s.atol.wipeTo⟩)], undefBlocks := []
    sel := ⟨1, 0, false, false, s.atol.wipeTo⟩, selAt := 1, queue := [], running := none
    erase := none }
  (({ u with cfgStore := [] }).setKept Kept.init).put ATOL_PROT_WIPING 0
    |>.put ATOL_PROT_LEVEL s.atol.wipeTo |>.setRecd { s.recd with atoll := [], slotAge := 0 }

end Sys2Proof.Machine
end

