-- ==== Sys2Proof/Machine/Rst.lean ====
section
/-! DEFINITION. The device reset (R393 to R398): its request and its holds, the quiesce, what it returns and keeps, and
the start it leads into (R396, R405 to R407). -/

namespace Sys2Proof.Machine

/-! ### Power good (R148, R397) -/

/-- PFAIL_IN# is high and VDD_3V3_HOLD is at or above V_TRIP. -/
def State.powerGood (s : State) : Bool := !s.save.pfailLow && !s.save.railLow

/-- Both have held together without a break for RET_MS. -/
def State.goodLong (s : State) : Bool :=
  s.powerGood && (match s.save.goodSince with
    | none => false
    | some t => decide (t + s.cfg SAVE_DETECT_RET_MS * 1000 ≤ s.now))

/-! ### What a device reset keeps (R393) -/

/-- Registers a device reset leaves as they are: the fuse shadow, page 0x002, FLT_SEQ, REC's ring, hours and power cycles,
what Atoll keeps, the register the TAP owns (R560), and the registers of the image page, whose values RSTR sets again at each detection.
DEDUCED, log 31. -/
def keptRegister (a : Nat) : Bool :=
  decide (a / 0x1000 = 2 ∨ (0x40 ≤ a ∧ a < 0x5C) ∨ a = 0x90050 ∨ (0x94048 ≤ a ∧ a < 0x94064) ∨ a = 0xA8080 ∨ a = 0xA8084
    ∨ (0x2E040 ≤ a ∧ a < 0x2F000)) || startRegister a

/-- Every register returns to its reset value but those kept; a stored value is reloaded from Atoll, DRC_CFG keeps what
the start set, TWS_STAT its strap (R491), AON_OK what the ring oscillator left (R392), and the scrub position is kept for a warm start (R536). -/
def State.resetAll (s : State) (warm : Bool) : State :=
  let t := State.reloadStored s (fun _ => true)
    { s with regs := s.regs.filter (fun e => keptRegister (e.1 % 0x100000)), late := [], latch := [], leases := [] }
  let u := ((t.put CLK_STAT_AON_OK (s.get CLK_STAT_AON_OK)).put RSTR_DSC_COUNT s.kept.dsc).put TWS_STAT_ADDR (s.get TWS_STAT_ADDR)
  if warm then (u.put64 DSCR_POS_LO_ADDR (s.get64 DSCR_POS_LO_ADDR)).put DSCR_ROUND_COUNT (s.get DSCR_ROUND_COUNT) else u

/-- The array's physical side after a reset: rows that were taken and not programmed on every column are not used, a copy or wordline
that waited in staging is gone, and so are skerries on their way to the spare band (R207, R243, R244, R258). -/
def Media.afterReset (m : Media) (l : List Stripe) : Media :=
  { m with
      foldAt := none, toSpare := []
      skerries := m.skerries.map (fun e =>
        (e.1, match m.foldAt with
          | some (k, row, _) => if k = e.1 then { e.2 with next := row } else { e.2 with closed := e.2.closed || l.any (fun t => decide (t.skerry = e.1)) }
          | none => { e.2 with closed := e.2.closed || l.any (fun t => decide (t.skerry = e.1)) })) }

/-- A die after a reset: a warm start resumes the erase that a save suspended (R243); at a cold start every die is found again (R233). -/
def DieRec.afterReset (d : DieRec) (warm : Bool) : DieRec :=
  { d with st := if warm then d.st else 0, resumedAt := none, resetTried := false, susp := none
           busy := if warm then (match d.susp with
             | some o => if o.kind = .erase then some o else none
             | none => none) else none }

/-- The flash operations in progress are gone; blocks, dies and their counts are the array's own. -/
def Farr.afterReset (f : Farr) (warm : Bool) : Farr :=
  { f with queues := [], stripes := [], levels := [], relocating := [], lookup := none, trainFails := [], served := []
           missing := if warm then f.missing else [], profiles := if warm then f.profiles else []
           dies := Sparse.mapVals (fun _ => noDie) (fun d => d.afterReset warm) f.dies
           media := f.media.afterReset f.stripes }

/-- The recorder after a device reset: its SRAM ring, its Atoll ring and its hours survive (R442, R447). -/
def Recorder.afterReset (r : Recorder) : Recorder :=
  { r with afterFreeze := r.afterFreeze || r.frozen, frozen := false, frozenEvents := 0, reads := [], setGen := [0, 0, 0, 0]
           setDirty := [] }

/-- A device reset is asserted (R393, R407): everything outside always-on logic returns to reset, and what is not kept in
it; SAVE_DONE falls and the host link is down; at a warm start a young gauge reading stays (R79). Islet records wait in the reserved region for a warm start (R191). -/
def State.assertDevice (s : State) (warm : Bool) : State :=
  let t := (s.atolCut).resetAll warm
  { t with
      mgp := Mgp.init
      flt := { Flt.init with fatal := s.flt.fatal }
      recd := s.recd.afterReset
      pers := { Pers.init with gauge := if warm && t.fresh s.pers.own then s.pers.own else none
                               own := if warm && t.fresh s.pers.own then s.pers.own else none
                               islets := s.pers.islets, band := s.pers.band.map (fun u => { u with left := none })
                               bandUsed := ((s.pers.band.map (fun u => u.copies.length)).foldl (· + ·) 0) }
      save := { Save.init with pfailLow := s.save.pfailLow, pfailFell := s.save.pfailFell, railLow := s.save.railLow
                               railClosed := s.save.railClosed, goodSince := s.save.goodSince, holdEn := s.save.holdEn
                               chgEn := s.save.chgEn, keyLoaded := warm && s.save.keyLoaded }
      farr := s.farr.afterReset warm
      mov := { Mov.init with stage := s.mov.stage, tags := s.mov.tags }
      rstr := Rstr.init
      hlk := { Hlk.init with perst := s.hlk.perst }
      drc := { Drc.init with fgr := s.drc.fgr, refSb := s.drc.refSb }
      mbox := { Mbox.init with poison := if warm then s.mbox.poison else [] }
      svc := Svc.init
      strt := { Strt.init with everMaster := s.strt.everMaster }
      twl := Twl.init
      dscr := if warm then { Dscr.init with acc := s.dscr.acc, roundBegan := s.dscr.roundBegan, roundOpen := s.dscr.roundOpen } else Dscr.init
      upk := { s.upk with due := [], dqDue := [], scan := [], disturb := [], telRd := 0, telWr := 0, telShadow := 0, telPages := 0
                          resMax := 0, capRefused := false, tb := none }
      pwr := Pwr.init
      rst := { s.rst with keys := [], quiesce := none, held := none, rcvRequest := false, rcvSampled := false
                          volatile := decide (s.get RSTR_STAT_PHASE = 5), volCause := s.get RSTR_STAT_VOL_CAUSE
                          afterSave := s.save.ended && !s.flag SAVE_STAT_EMPTY
                          alive := false, aliveRun := false, stalled := [] } }

/-! ### The start (R396, R405 to R407) -/

/-- The set-at-start fields of page 0x002 (R410): START, SRC and the flags of a start that has just begun. -/
def State.startFields (s : State) (start src : Nat) : State :=
  let t := ((((s.put RST_STAT_START start).put RST_STAT_SRC src).put RST_STAT_WARM_FAIL 0).put RST_STAT_UPD_PEND
    (b2n s.atol.sel.updPend)).put RST_STAT_ISLE s.atol.sel.active
  let u := ((((t.put RST_STAT_ISLE_FALLBACK 0).put RST_STAT_RCV_CAUSE 0).put RST_T_PLL_US_US 0).put RST_T_FW_US_US 0).put
    RST_T_TRAIN_US_US 0
  ((u.put RST_CTRL_FORCE_COLD 0).put RST_CTRL_RECOVERY 0).put RST_STAT_HELD 0

/-- A recovery start: only the ROM, the always-on pages and the service port run (R405, R407). -/
def State.recoveryStart (s : State) (cause : Nat) : State :=
  let t := ((s.put RST_STAT_START 2).put RST_STAT_RCV_CAUSE cause).bump RST_RCV_CNT_COUNT
  ((t.setRst { t.rst with phase := .recovery, aliveRun := !t.flag FLT_SAFE_SAFE }).setSave { t.save with chgEn := false }).put PWR_STAT_DOM_ON 1

/-- A cold start begins (R400, R407). DEDUCED, log 55. -/
def State.coldStart (s : State) : State :=
  let t := (s.put RST_STAT_START 0).bump RST_COLD_CNT_COUNT
  { t with
      rst := { t.rst with phase := .booting, aliveRun := t.rst.fuseOk }, save := { t.save with chgEn := false }, dram := []
      farr := { t.farr with blocks := t.farr.blocks.map (fun e => (e.1, { e.2 with reads := 0 })) }
      upk := { t.upk with retFirst := true } }

/-- A warm start begins (R406, R407). -/
def State.warmStart (s : State) : State :=
  let t := (s.put RST_STAT_START 1).bump RST_WARM_CNT_COUNT
  (t.setRst { t.rst with phase := .booting }).setSave { t.save with chgEn := true }

/-- A wipe that a loss of power cut off goes on before anything else (R476). -/
def State.resumeWipe (s : State) : State := if s.atol.sel.wipePend then s.put ATOL_PROT_WIPING 1 else s

/-- The device reset is released and a start begins: recovery, warm with the retention flag, else cold (R396, R401, R405). -/
def State.startAfterReset (s : State) (src : Nat) (warm recovery : Bool) : State :=
  let t := ((s.startFields 0 src).setRst { s.rst with startedAt := s.now }).resumeWipe
  if recovery then t.recoveryStart 1
  else if warm then t.warmStart
  else if ¬ s.rst.fuseOk then t.recoveryStart 3
  else t.coldStart

/-- Is the retention flag set at step 4 of the quiesce (R395)? In recovery it survives (R405). DEDUCED, log 55. -/
def State.retains (s : State) : Bool :=
  if s.rst.phase = .recovery then s.flag RST_STAT_RETAIN && !s.flag RST_CTRL_FORCE_COLD
  else
    s.rst.selfRefresh && s.rst.settingsKept && s.rst.checkWord && !s.flag RST_CTRL_FORCE_COLD
      && decide (s.get RSTR_STAT_PHASE = 4 ∨ s.get RSTR_STAT_PHASE = 5)
      && (!s.flag FLT_SAFE_SAFE || s.flag FLT_SAFE_SAVED)

/-- Steps 4 and 5 of the quiesce: the retention flag is written, reset is asserted and released (R394, R395). HOLD_EN falls
when the reset is released while power is good (R149). DEDUCED, log 41. -/
def State.deviceReset (s : State) (src : Nat) : State :=
  let warm := s.retains
  let recovery := s.flag RST_CTRL_RECOVERY
  let t := ((s.put RST_STAT_RETAIN (b2n warm)).assertDevice warm).startAfterReset src warm recovery
  t.setSave { t.save with holdEn := t.save.holdEn && !t.powerGood }

/-! ### The request and its holds (R394, R397) -/

/-- Among requests of one pass the lowest source code is recorded; a later one joins the reset under way (R397). -/
def joinSrc (s : State) (old new : Nat) : Nat := if s.rst.quiesceAt = s.now then min old new else old

/-- Is a device reset requested now held (R121, R149, R397)? DEDUCED, log 41. -/
def State.holdsReset (s : State) : Bool :=
  s.saving || !s.powerGood || ((s.save.ended || s.save.failed) && !s.goodLong)

/-- The quiesce begins (R394): from BASIN at step 4, else with the fence, the barriers and the movers. -/
def State.beginQuiesce (s : State) (src : Nat) : State :=
  let t := s.setRst { s.rst with quiesce := some src, quiesceAt := s.now, held := none }
  let u := t.put RST_STAT_HELD 0
  if s.get PWR_STAT_STATE = 2 ∨ s.rst.phase = .recovery then u
  else (((u.fence).dropBarriers).resetMovers (fun _ => true)).dropLink

/-- A device reset is requested with source code `src` (R394, R397). -/
def State.requestReset (s : State) (src : Nat) : State :=
  if s.rst.phase = .off then s
  else
    match s.rst.held, s.rst.quiesce with
    | some h, _ => s.setRst { s.rst with held := some (joinSrc s h src) }
    | none, some q => s.setRst { s.rst with quiesce := some (joinSrc s q src) }
    | none, none =>
      if s.holdsReset then (s.setRst { s.rst with held := some src, quiesceAt := s.now }).put RST_STAT_HELD 1
      else s.beginQuiesce src

/-- The quiesce completes: whether every rank entered self-refresh, and whether the training settings and the check word
reached the retention store, are the environment's (R394, R395). -/
def State.quiesceDone (s : State) (refreshed stored : Bool) : State :=
  match s.rst.quiesce with
  | none => s
  | some src =>
    let t := if s.get PWR_STAT_STATE = 2 ∨ s.rst.phase = .recovery then s else s.setRst { s.rst with selfRefresh := refreshed }
    (t.setRst { t.rst with settingsKept := stored, checkWord := stored }).deviceReset src

/-- A held device reset is released once SAVE_DONE has risen, or no save runs, and power has been good for RET_MS (R397). -/
def State.releaseHeld (s : State) : State :=
  match s.rst.held with
  | none => s
  | some src =>
    if s.saving || !s.goodLong then s
    else if s.save.ended || s.save.failed then s.deviceReset src
    else s.beginQuiesce src

/-- Main power has returned after a save during which it was seen to fail: with AUTO_WARM, a warm start (R148). -/
def State.powerReturn (s : State) : State :=
  if s.save.ended ∧ s.save.failSeen = true ∧ s.goodLong = true then
    if s.cfgOn SAVE_CTRL_AUTO_WARM then s.deviceReset (match s.rst.held with
      | some h => min h 6
      | none => 6)
    else s
  else if s.save.holdEn ∧ s.saving = false ∧ s.save.ended = false ∧ s.goodLong = true then
    s.setSave { s.save with holdEn := false }
  else s

end Sys2Proof.Machine
end

