-- ==== Sys2Proof/Machine/Save.lean ====
section
/-! DEFINITION. The save sequencer (R118 to R158): its triggers, the save set and its classes, the energy account, the
close-out, the seal, and what follows SAVE_DONE. -/

namespace Sys2Proof.Machine

/-! ### Triggers and pins (R118 to R120, R142, R148, R149) -/

/-- PFAIL_IN# falls: the debounce begins, and time zero of a save it starts is now (R118, R119). -/
def State.pfailFall (s : State) : State :=
  s.setSave { s.save with pfailLow := true, pfailFell := s.now, goodSince := none, failSeen := s.save.failSeen || s.saving }

/-- PFAIL_IN# stayed low through its debounce (R118). DESIGN CHOICE, log 3. -/
def State.pfailTrigger (s : State) : State := if s.save.pfailLow then s.startSave 1 s.save.pfailFell else s

/-- Power is good again when neither condition is left (R148). -/
def State.goodNow (s : State) : State :=
  s.setSave { s.save with goodSince := if s.powerGood then some s.now else none }

/-- A low pulse of `n` samples ends before the debounce completes: it is counted and raised (R120, R576, R586). -/
def State.pfailGlitch (s : State) (n : Nat) : State :=
  if s.save.pfailLow then
    let t := (s.setSave { s.save with pfailLow := false }).goodNow
    ((t.bumpSat SAVE_GLITCH_COUNT).raiseInt 0x29 1).raiseFault 0x29 2 9 (n % 256 * 256)
  else s

/-- PFAIL_IN# rises (R121, R148). -/
def State.pfailRise (s : State) : State :=
  if s.save.pfailLow then (s.setSave { s.save with pfailLow := false }).goodNow else s

/-- VDD_3V3_HOLD is below V_TRIP on two edges: a trigger with MON_EN (R118). -/
def State.railTrip (s : State) : State :=
  let t := s.setSave { s.save with railLow := true, goodSince := none, failSeen := s.save.failSeen || s.saving }
  if t.cfgOn SAVE_CTRL_MON_EN then t.startSave 2 s.now else t

/-- VDD_3V3_HOLD is back at V_TRIP or above (R148). -/
def State.railReturn (s : State) : State :=
  if s.save.railLow then (s.setSave { s.save with railLow := false, railClosed := false }).goodNow else s

/-! ### Steps 3 to 6 -/

/-- Replaces the record of the running save. -/
def State.setRun (s : State) (r : SaveRun) : State := s.setSave { s.save with run := some r }

/-- Islets of a list in ascending order of index, each once. -/
def ascending (l : List Nat) : List Nat := l.foldl insertNat []

/-- Is an islet in class 0: ENTRY at or before N_top (R136)? -/
def State.class0 (s : State) (top : Option Nat) (i : Nat) : Bool :=
  match top with
  | none => false
  | some n => le48 (s.recOf i).entry n

/-- The save set: residual, restored, host-visible islets; class 0 in ascending index, then class 1 (R135, R136, R139). -/
def State.saveSet (s : State) (top : Option Nat) : List Nat :=
  let l := ((s.pers.islets.filter (fun e => e.2.st.residual && s.isRestored e.1)).map (·.1))
  l.filter (fun i => s.class0 top i) ++ l.filter (fun i => !s.class0 top i)

/-! ### Where the save puts its copies (R124, R138, R145, R146) -/

/-- The row after the stripe being filled: the next of its skerry, else the first of the next erased skerry of the plan, of the rest of
the SLC reserve band, or of the image band (R124). -/
def State.nextSaveRow (s : State) (r : SaveRun) : Option (Nat × Nat) :=
  let fresh := match s.save.plan.find? (fun k => decide ((s.sk k).next = 0)) with
    | some k => some (k, 0)
    | none =>
      match s.freeSk 2 s.save.plan with
      | some k => some (k, 0)
      | none => (s.freeSk 3 []).map (fun k => (k, 0))
  match r.stripe with
  | some (k, row, _) => if row + 1 < s.mdl.rows true then some (k, row + 1) else fresh
  | none => fresh

/-- Does die `d` of channel `c` work? -/
def State.dieWorks (s : State) (c d : Nat) : Bool := decide ((s.die c d).st = 1)

/-- The first working die of channel `c` in ascending number that is not in the stripe (R146). -/
def State.otherDie (s : State) (c : Nat) (used : List (Nat × Nat)) : Option Nat :=
  (List.range 16).find? (fun d => s.dieWorks c d && !used.contains (c, d))

/-- The next erased block of a die that takes redirected members: one that already takes them, else a block of the SLC reserve band,
else of the image band (R124, R145, R146). -/
def State.extraBlock (s : State) (r : SaveRun) (c d : Nat) : Option (Nat × Nat) :=
  match r.extra.find? (fun e => decide (e.1 = c ∧ e.2.1 = d ∧ e.2.2.2 < s.mdl.rows true)) with
  | some e => some (e.2.2.1, e.2.2.2)
  | none =>
    let ok := fun (band b : Nat) => decide ((s.sk (b * s.mdl.dpc + d)).band = band ∧ (s.sk (b * s.mdl.dpc + d)).next = 0)
      && (List.range s.mdl.planes).all (fun p => decide ((s.block c d p b).bstate = 0))
      && !r.extra.any (fun e => decide (e.1 = c ∧ e.2.1 = d ∧ e.2.2.1 = b))
    match (List.range s.mdl.bpp).find? (ok 2) with
    | some b => some (b, 0)
    | none => ((List.range s.mdl.bpp).find? (ok 3)).map (fun b => (b, 0))

/-- The record of a block that takes redirected members, its rows up to `rows` programmed. -/
def State.extraProgrammed (s : State) (c d b rows : Nat) : State :=
  (List.range s.mdl.planes).foldl (fun t p => t.programKey true rows (blockKey c d p b)) s

/-- The member of column `col` is programmed on die `d` of channel `c`; a REDIRECT entry says so (R146, R221). -/
def State.placeMember (s : State) (r : SaveRun) (k row col c d : Nat) : State × SaveRun :=
  match s.extraBlock r c d with
  | none => (s, r)
  | some (b, n) =>
    (s.extraProgrammed c d b (n + 1),
      { r with extra := (c, d, b, n + 1) :: r.extra.filter (fun e => !decide (e.1 = c ∧ e.2.1 = d ∧ e.2.2.1 = b))
               entries := r.entries ++ [.redirect k col c d b n row] })

/-- The working channel whose turn it is, from channel `turn` on in ascending number with wrap, that has a die not in the stripe
(R146). -/
def State.turnChannel (s : State) (turn : Nat) (used : List (Nat × Nat)) : Option (Nat × Nat) :=
  ((List.range 16).map (fun n => (turn + n) % 16)).findSome? (fun c => (s.otherDie c used).map (fun d => (c, d)))

/-- The member of column `c`, bound for a die that failed, is placed: on the channel's first working die that is not in the stripe; with
the whole channel failed on the working channels in rotation; else it is not written, an erasure of its stripe (R146). -/
def State.redirectMember (k row : Nat) (a : (State × SaveRun) × List (Nat × Nat)) (c : Nat) : (State × SaveRun) × List (Nat × Nat) :=
  let s := a.1.1
  let r := a.1.2
  if (s.die c (skerryDie s.mdl.dpc k)).st ≠ 2 then a
  else
    match s.otherDie c a.2 with
    | some d => (s.placeMember r k row c c d, (c, d) :: a.2)
    | none =>
      if (List.range 16).any (fun d => s.dieWorks c d) then a
      else
        match s.turnChannel r.turn a.2 with
        | none => a
        | some (e, d) => (s.placeMember { r with turn := (e + 1) % 16 } k row c e d, (e, d) :: a.2)

/-- A stripe of the save is programmed: its row on every working column, its other members where R146 places them (R138, R146). -/
def State.saveStripe (s : State) (r : SaveRun) (k row : Nat) : State :=
  let d := skerryDie s.mdl.dpc k
  let t := s.rowsProgrammed k (row + 1)
  let x := (List.range 16).foldl (State.redirectMember k row) ((t, r), ((List.range 16).filter (fun c => s.dieWorks c d)).map (fun c => (c, d)))
  x.1.1.setRun x.1.2

/-- The stripe being filled is programmed with pad cells in its empty columns (R207). -/
def State.closeStripe (s : State) : State :=
  match s.save.run with
  | none => s
  | some r =>
    match r.stripe with
    | none => s
    | some (k, row, col) => if 0 < col ∧ col < 15 then s.saveStripe { r with stripe := some (k, row, 15) } k row else s

/-- Column `col` of the save's row is islet `i`'s; the fifteenth fills the stripe (R137, R204). -/
def State.putSaved (s : State) (r : SaveRun) (i k row col : Nat) : State :=
  let q : SaveRun := { r with stripe := some (k, row, col + 1), placed := r.placed ++ [(i, locOf .data false true r.ef (k, row, col))] }
  if 15 ≤ col + 1 then s.saveStripe q k row else s.setRun q

/-- The column that the save's open stripe gives next. -/
def SaveRun.nextColumn (r : SaveRun) : Option (Nat × Nat × Nat) :=
  match r.stripe with
  | some (k, row, col) => if col < 15 then some (k, row, col) else none
  | none => none

/-- A data copy takes the next column of the save's stripe; the fifteenth fills it (R137, R138, R204, R207). -/
def State.placeSaved (s : State) (i : Nat) : State :=
  match s.save.run with
  | none => s
  | some r =>
    match r.nextColumn with
    | some (k, row, col) => s.putSaved r i k row col
    | none =>
      match s.nextSaveRow r with
      | none => s
      | some (k, row) => (s.takeRows (s.sk k).band true 1 k row).putSaved r i k row 0

/-- The sequencer reads its next islet: a data copy, or a zero record (R137). -/
def State.saveOne (s : State) : State :=
  match s.save.run with
  | none => s
  | some r =>
    match r.step, r.todo with
    | .data, i :: t =>
      let u := s.drcIslet i false
      let r' := if s.isletZero i then { r with todo := t, zeros := r.zeros ++ [i] }
                else { r with todo := t, written := r.written ++ [i] }
      let v := (u.setRun r').put SAVE_PROGRESS_ISLETS t.length
      if s.isletZero i then v else v.placeSaved i
    | _, _ => s

/-- The islets the sequencer reads in a pass. -/
def State.saveIslets : Nat → State → State
  | 0, s => s
  | n + 1, s => State.saveIslets n s.saveOne

/-- The close-out begins: islets whose reads have started, the first `started` of those left, still count as saved; the
rest are unsaved (R143, R144). One that falls due in steps 2 and 3 begins as soon as the save set is fixed (R142). -/
def State.closeOut (s : State) (cause started : Nat) : State :=
  match s.save.run with
  | none => s
  | some r =>
    if r.step = .data then
      let t := State.saveIslets started s
      match t.save.run with
      | none => t
      | some q =>
        ((t.setRun { q with step := .closeOut, dataUs := s.now - r.t0 }).put SAVE_STAT_CUT_CAUSE cause).put SAVE_STAT_SHORT
          1
    else if r.step = .fenced then s.setRun { r with cut := some (r.cut.getD cause) }
    else s

/-- Every received write is in DRAM: the save set is fixed and the first reads are issued (R127 steps 3 and 4, R132). -/
def State.writesApplied (s : State) : State :=
  match s.save.run with
  | none => s
  | some r =>
    if r.step = .fenced then
      let l := s.saveSet r.nTop
      let t := ((s.setRun { r with step := .data, todo := l, startUs := s.now - r.t0 }).put SAVE_PROGRESS_ISLETS l.length).dropLink
      match r.cut with
      | some c => t.closeOut c 0
      | none => t
    else s

/-- An islet whose fault-in ends during a save joins the save set in its class order; once the close-out has begun it is left unsaved
(R139, R143, R144). -/
def State.joinSave (s : State) (i : Nat) : State :=
  match s.save.run with
  | none => s
  | some r =>
    if (r.step = .data ∨ r.step = .fenced ∨ r.step = .closeOut) ∧ s.residual i = true
        ∧ ¬ (r.todo ++ r.written ++ r.zeros).contains i then
      let c0 := r.todo.filter (fun j => s.class0 r.nTop j)
      let c1 := r.todo.filter (fun j => !s.class0 r.nTop j)
      let l := if r.step = .fenced then [] else if s.class0 r.nTop i then insertNat c0 i ++ c1 else c0 ++ insertNat c1 i
      (s.setRun { r with todo := l }).put SAVE_PROGRESS_ISLETS l.length
    else s

/-- The last residual stripe is programmed, once the fault-ins that the fence kept have ended (R127 step 5, R139). -/
def State.dataDone (s : State) : State :=
  match s.save.run with
  | none => s
  | some r =>
    if ((r.step = .data ∧ r.todo = []) ∨ r.step = .closeOut) ∧ s.rstr.slots = [] ∧ s.rstr.faultQ = [] then
      (s.setRun { r with step := .metadata, dataUs := if r.step = .data then s.now - r.t0 else r.dataUs }).closeStripe
    else s

/-! ### The energy account and the close-out (R141 to R144) -/

/-- The time account in 10^-6 mJ: E_t0 less SAVE_POWER times the time since t0. -/
def State.timeAccount (s : State) (r : SaveRun) : Int :=
  (r.eT0 : Int) * 1000000 - (s.cfg PERS_SAVE_POWER_MW : Int) * ((s.now : Int) - r.t0)

/-- The account from the latest gauge reading of the save, if there is one (R141). -/
def State.gaugeAccount (s : State) (r : SaveRun) : Option Int :=
  r.gauge.map (fun g => (g.1 : Int) * 1000000 - (s.cfg PERS_SAVE_POWER_MW : Int) * ((s.now : Int) - g.2))

/-- CUT_CAUSE when E_est has reached the close-out threshold: 0b001 for the time account, 0b010 for the reading (R142).
DEDUCED, log 35. -/
def State.cutCause (s : State) (r : SaveRun) : Option Nat :=
  let limit : Int := (s.cfg PERS_E_RESERVE_MJ : Int) * 1000000 + (s.cfg PERS_SAVE_POWER_MW : Int) * s.cfg SAVE_CUT_CLOSE_US
  match s.gaugeAccount r with
  | none => if s.timeAccount r ≤ limit then some 1 else none
  | some g =>
    if s.timeAccount r ≤ g then (if s.timeAccount r ≤ limit then some 1 else none)
    else if g ≤ limit then some 2 else none

/-- The energy account reaches the threshold with CUT_EN at 1 (R142). -/
def State.energyCutoff (s : State) (started : Nat) : State :=
  match s.save.run with
  | none => s
  | some r =>
    if s.cfgOn SAVE_CTRL_CUT_EN then
      match s.cutCause r with
      | some c => s.closeOut c started
      | none => s
    else s

/-- VDD_3V3_HOLD is below V_CLOSE on two edges: the close-out of a running save, or HOLD_EN falls after it (R142, R149). -/
def State.railClose (s : State) (started : Nat) : State :=
  let t := s.setSave { s.save with railClosed := true }
  if s.saving then t.closeOut 3 started
  else if s.save.ended ∨ s.save.failed then t.setSave { t.save with holdEn := false }
  else t

/-! ### The seal (R140, R144, R153, R156, R193, R222) -/

/-- The save seal's program completes and its read-back begins (R127 step 6). -/
def State.sealProgrammed (s : State) : State :=
  match s.save.run with
  | none => s
  | some r => if r.step = .metadata then s.setRun { r with step := .sealProgrammed, sealedUs := s.now - r.t0 } else s

/-- The unsaved map: the save's own unsaved islets, and the restored image's whose poison records are not sealed (R193). -/
def State.unsavedOf (s : State) (r : SaveRun) : List Nat :=
  ascending (r.todo ++ s.rstr.poisonPending ++ s.rstr.unsaved.filter (fun i => !s.isRestored i))

/-- Was a member of the expected set not heard during the save, or lost in it (R156)? -/
def State.missedPeers (s : State) (r : SaveRun) : Bool :=
  s.inGroup && (r.lost || s.otherMembers.any (fun d => !bitOf r.heard d))

/-- SAVE_NO of the save that seals now: one more, never 0 (R153). DEDUCED, log 35. -/
def nextSaveNo (n : Nat) : Nat := if n + 1 = 2 ^ 32 then 1 else n + 1

/-- The save seal of the running save (R140, R222). DEDUCED, log 35. -/
def State.sealOf (s : State) (r : SaveRun) : SaveSeal :=
  { cutTag := s.arr.groupTag, cutNo := nextSaveNo s.arr.saveNo, ef := r.ef, lastSealed := r.lastSealed
    cause := s.get SAVE_STAT_CAUSE, short := decide (s.unsavedOf r ≠ []) || s.flag SAVE_STAT_SHORT
    cutCause := s.get SAVE_STAT_CUT_CAUSE, peerLost := s.missedPeers r, failedCh := s.get SAVE_STAT_FAILED_CH
    heard := r.heard, written := r.written.length, zeros := r.zeros.length, unsaved := s.unsavedOf r
    startUs := r.startUs, dataUs := r.dataUs, doneUs := r.sealedUs + 4000, eT0 := r.eT0 }

/-- Where the save put the data copy of islet `i`. -/
def SaveRun.placeOf (r : SaveRun) (i : Nat) : Loc64 := ((r.placed.find? (fun e => decide (e.1 = i))).map (·.2)).getD noLoc

/-- The lines of islet `i` as the save carries them: a line that reads uncorrectable is saved poisoned (R64, R137). -/
def State.savedLines (s : State) (i : Nat) : List (Nat × Line) := (s.isletLines i).map (fun e => (e.1, e.2.carried))

/-- The journal tail of the save: an entry for each data copy and zero record, and the redirects (R127 step 6, R135, R146). -/
def State.saveEntries (s : State) (r : SaveRun) : State :=
  let t := r.written.foldl (fun (t : State) i => t.noteCopy r.ef i false (r.placeOf i) (s.savedLines i)) s
  let u := r.zeros.foldl (fun (t : State) i => t.noteCopy r.ef i false (locOf .zero false false r.ef (0, 0, 0)) []) t
  u.setMedia { u.media with pend := u.media.pend ++ r.entries.map (fun e => (r.ef, e)) }

/-- The saved islets join the array under epoch E_f, and the copies of epochs that stay unsealed leave it (R124, R135). -/
def State.sealSaved (s : State) (r : SaveRun) : State :=
  let inBand := r.written.filter (fun i => decide ((r.placeOf i).kind = 2 ∧ (s.sk (r.placeOf i).skerry).band = 2))
  let old : Arr := { s.arr with copies := Sparse.mapVals (fun _ => []) (fun l => l.filter (fun c => decide (c.epoch ≤ r.lastSealed))) s.arr.copies }
  let a := r.written.foldl (fun (a : Arr) i => a.addCopy i
    ⟨r.ef, r.ef, .data, false, true, s.savedLines i, r.placeOf i, false⟩) old
  let b := r.zeros.foldl (fun (a : Arr) i => a.addCopy i ⟨r.ef, r.ef, .zero, false, false, [], locOf .zero false false r.ef (0, 0, 0), false⟩) a
  (s.setArr { b with saveNo := nextSaveNo s.arr.saveNo, highSealed := r.ef, sealKind := .save (s.sealOf r), voidFrom := none
                     groupSealed := if s.inGroup then s.get64 STRT_GSEALED_LO_EPOCH else r.ef
                     unsavedMap := s.unsavedOf r }).setPers
    { s.pers with bandUsed := s.pers.bandUsed + inBand.length
                  band := inBand.foldl (fun u i => addToBand u (r.placeOf i).skerry (i, r.ef) r.ef) s.pers.band }

/-- The report of a save's end to the group (R383, R384). -/
def State.saveEnd (s : State) (x : SaveSeal) : State :=
  s.sendFrame 0x12 none (BitVec.ofNat 8 x.outcome :: leBytes 4 x.unsaved.length)

/-- The save seal reads back good: SAVE_DONE rises and SAVE_ACTIVE falls in the same cycle (R127 steps 7 and 8, R128). -/
def State.saveDone (s : State) : State :=
  match s.save.run with
  | none => s
  | some r =>
    if r.step = .sealProgrammed then
      let x := s.sealOf r
      let w := ((s.saveEntries r).sealJournal r.ef 2 (some x) 0).dropVoid
      let t := (w.sealSaved r).put64 PERS_SEALED_LO_EPOCH r.ef
      let u := (t.setSave { t.save with run := none, ended := true, saveActive := false, saveDone := true }).setPwr
        { t.pwr with enteredAt := s.now }
      let v := (((u.put SAVE_STAT_ACTIVE 0).put SAVE_STAT_DONE 1).put SAVE_STAT_PEER_LOST (b2n x.peerLost)).put
        PWR_STAT_STATE 2
      (((v.saveEnd x).put PWR_STAT_DOM_ON (s.get PWR_STAT_DOM_ON % 2 ^ 5 + s.get PWR_STAT_DOM_ON / 2 ^ 6 * 2 ^ 6)).atolResume)
    else s

/-- A save that wrote nothing, or one with its seal, is followed by BASIN: DRAM in self-refresh, the host link off, the
domains at their BASIN settings (R127 step 9, R528). -/
def State.saveBasin (s : State) (refreshed : Bool) : State :=
  if s.save.ended ∧ s.get PWR_STAT_STATE = 2 then
    (((s.setRst { s.rst with selfRefresh := refreshed, settingsKept := true, checkWord := true }).dropLink).clocksOff).put
      PWR_STAT_DOM_ON 0b000000111
  else s

/-! ### The self-test, and supplies that fail (R126, R151) -/

/-- The sequencer's self-test ends (R126). -/
def State.selfTest (s : State) (pass : Bool) : State :=
  if pass ∧ s.saving = false ∧ s.save.failed = false ∧ s.flag FLT_SAFE_SAFE = false ∧ s.rst.phase ≠ .off then
    (s.put SAVE_STAT_SOUND 1).refreshArmed
  else s

/-- What is gone when the controller's supplies fail: every register and every volatile memory; the save array, Atoll and
the module stay, and operations in progress are cut off (R151, R393, R472). -/
def State.suppliesGone (s : State) : State :=
  let t := s.atolCut
  { t with
      regs := [], late := [], latch := [], leases := [], dram := [], mgp := Mgp.init, flt := Flt.init
      recd := { Recorder.init with atoll := s.recd.atoll, slotAge := s.recd.slotAge }
      pers := { Pers.init with band := s.pers.band.map (fun u => { u with left := none })
                               bandUsed := ((s.pers.band.map (fun u => u.copies.length)).foldl (· + ·) 0) }
      save := Save.init, farr := s.farr.afterReset false, mov := Mov.init, rstr := Rstr.init
      hlk := { Hlk.init with perst := s.hlk.perst }, drc := Drc.init, strt := Strt.init, twl := Twl.init
      dscr := Dscr.init, mbox := Mbox.init, svc := Svc.init, tst := Tst.init
      pwr := Pwr.init, rst := Rst.init
      upk := { s.upk with due := [], dqDue := [], scan := [], disturb := [], telRd := 0, telWr := 0, telShadow := 0, telPages := 0
                          resMax := 0, capRefused := false, tb := none } }

/-- A record program that a loss of power cuts off leaves a slot with a bad CRC (R472, and the meetings of chapter 15). -/
def State.tearRecord (s : State) : State :=
  match s.recd.flushing, s.recd.ring with
  | true, r :: _ => s.setRecd { s.recd with atoll := s.recd.atoll ++ [{ r with good := false }], slotAge := s.recd.slotAge + 1 }
  | _, _ => s

/-- The controller's own supplies fail; `torn` when a record program is cut off (R151, R393). -/
def State.powerLoss (s : State) (torn : Bool) : State := if torn then (s.tearRecord).suppliesGone else s.suppliesGone

/-- The DRAM rail leaves its tolerance: the retention flag falls (R395). -/
def State.dramRailFault (s : State) : State :=
  (s.setRst { s.rst with selfRefresh := false, settingsKept := false, checkWord := false }).put RST_STAT_RETAIN 0

/-! ### GPF (R133) -/

/-- Phase 1 is acknowledged at once. -/
def State.gpfPhase1 (s : State) : State := s.answer (.link 1 0)

/-- Phase 2 is received and waits until the writes before it are in DRAM. -/
def State.gpfPhase2 (s : State) : State := s.setSave { s.save with gpf := some s.hlk.nextReq }

/-- Does a write received before request `n` still wait to reach DRAM? -/
def State.writesWait (s : State) (n : Nat) : Bool :=
  (s.hlk.buf ++ s.rstr.heldTable ++ (s.pers.hold ++ s.pers.recWait).map (·.req)).any (fun r => r.write && decide (r.seq < n))

/-- Phase 2 completes once every write received before it is in DRAM. -/
def State.gpfDone (s : State) : State :=
  match s.save.gpf with
  | none => s
  | some n => if s.writesWait n then s else (s.setSave { s.save with gpf := none }).answer (.link 2 0)

end Sys2Proof.Machine
end

