-- ==== Sys2Proof/Machine/Restore.lean ====
section
/-! DEFINITION. RSTR (R159 to R195): image detection with its classes, the dirty-shutdown count, the metadata load and
memory active, the restore of islets with its order and states, and the warm start's check. -/

namespace Sys2Proof.Machine

/-! ### Image detection (R159 to R165) -/

/-- The array reads blank: never formatted, or erased by a sanitize or format that a start completes (R160, R211, R359). -/
def State.arrayBlank (s : State) : Bool := s.arr.blank || s.kept.sanitize || s.kept.format

/-- Does the key slot that the superblock names hold the key of its KEY_ID, and does the key's wrap pass (R209)? -/
def State.keyUnwraps (s : State) (b : Superblock) (f : Found) : Bool :=
  match Sparse.get (fun _ => none) s.kept.keys b.keySlot with
  | some k => decide (k.keyId = b.keyId) && f.keyOk
  | none => false

/-- VOL_CAUSE: the lowest cause that holds, 0 when none does; a format that cannot be made has its own (R161, R213, R214, R233). -/
def State.volCause (s : State) (f : Found) : Nat :=
  if s.mdl.diesPerChannel.length ≠ 16 ∨ s.mdl.diesPerChannel.any (fun d => decide (d = 0 ∨ d ≠ s.mdl.diesPerChannel.headD 0))
      ∨ s.farr.missing ≠ []
  then 1
  else if s.mdl.dies * s.mdl.dieGiB * 2 < s.mdl.dramGiB * 5 then 2
  else if s.mdl.mixedDies ∨ s.farr.profiles.any (fun e => s.farr.profiles.any (fun d => decide (d.2 ≠ e.2))) then 3
  else if s.arrayBlank then
    if ¬ s.flag RSTR_CTRL_AUTO_FORMAT ∧ s.kept.format = false then 4
    else if s.anchorsOf.isNone then 1
    else if s.mdl.formatFits = false ∨ s.substituteAll.isNone = true then 2
    else 0
  else
    match s.newestSb f.badAnchors with
    | none => 6
    | some b =>
      if s.keyUnwraps b f = false then 5
      else if (s.media.validGen f.badWseqs).isNone then 6
      else if b.isletSlots ≠ s.mdl.dramGiB * 16384 ∨ b.hostIslets ≠ s.mdl.hostIslets then 7
      else 0

/-- H: the highest sealed epoch found (R159, R223). -/
def State.foundH (s : State) (f : Found) : Nat :=
  match s.media.validGen f.badWseqs with
  | none => 0
  | some g => s.media.found f.badWseqs g

/-- The save seal that seals an epoch, if one does (R159, R223). -/
def State.sealAt (s : State) (h : Nat) : Option SaveSeal :=
  match s.media.sealOf h with
  | some (_, some x) => some x.1
  | _ => none

/-- The outcome class of a detection (R160): class 3 when the newest generation does not validate, or a seal beyond H is not whole. -/
def State.classOf (s : State) (f : Found) : Nat :=
  if s.volCause f ≠ 0 then 6
  else if s.arrayBlank then 5
  else if s.media.validGen f.badWseqs ≠ s.media.gen ∨ s.foundH f < s.arr.highSealed then 3
  else
    match s.sealAt (s.foundH f) with
    | some x => if x.short then 1 else 0
    | none => 2

/-- The first free key slot; with all eight taken, any (the spec names none). DEDUCED, log 36. -/
def State.freeKeySlot (s : State) : Nat :=
  ((List.range 8).find? (fun n => (Sparse.get (fun _ => none) s.kept.keys n).isNone)).getD (s.free % 8)

/-- At the first format the factory marks are read, and their blocks are BAD from then on (R253). -/
def State.readMarks (s : State) (f : Found) : State :=
  if s.arrayBlank ∧ s.farr.marked = false ∧ (s.flag RSTR_CTRL_AUTO_FORMAT = true ∨ s.kept.format = true) then
    s.setFarr { s.farr with
      marked := true
      blocks := f.factory.foldl (fun l k => Sparse.set (fun _ => freshBlock) l k { Sparse.get (fun _ => freshBlock) l k with bstate := 3 })
        s.farr.blocks }
  else s

/-- The fields of the superblock that a format sets (R213, R215). -/
def State.formatSb (s : State) (tag keyId slot size : Nat) : Superblock :=
  { sbSeq := 0, groupTag := tag, keyId := keyId, keySlot := slot, devNo := s.mdl.cascId % 8, groupSize := size
    isletSlots := s.mdl.dramGiB * 16384, hostIslets := s.mdl.hostIslets, dpc := s.mdl.dpc, planes := s.mdl.planes
    ppbTlc := s.mdl.ppbTlc, ppbSlc := s.mdl.ppbSlc, bpp := s.mdl.bpp, dieId := (s.farr.profiles.headD (0, 0)).2
    bands := [s.mdl.journalBand, s.mdl.slcBand, s.mdl.spareBand, s.mdl.imageBand], failedDies := 0, genNew := 0, genOld := 0
    jring := [], jsub := [] }

/-- The anchors of every channel, empty (R214). -/
def State.emptyAnchors (s : State) : Sparse Anchor :=
  ((s.anchorsOf.getD []).zipIdx).map (fun e => (e.2, ⟨e.1.1, e.1.2, [], []⟩))

/-- The bands, anchors and journal of a new array: substitutes for bad blocks, the first journal skerry, the format seal of epoch 0, and
generation 1 at C_G 0 (R199, R213 to R217, R222, R226, R227). -/
def State.startArray (s : State) (b : Superblock) : State :=
  let t := s.setMedia { Media.init with sb := b, anchors := s.emptyAnchors }
  let u := t.setFarr { t.farr with
    substitutes := [], relocating := [], lost := []
    dies := t.farr.dies.map (fun e => (e.1, { e.2 with slcTimes := [], tlcTimes := [] })) }
  let v := u.substituteAll.getD u
  (((v.openJournal).sealJournal 0 3 none 0).startGeneration 0).endGeneration

/-- The array is formatted: every islet ZERO, a fresh media key, GROUP_TAG not zero (R153, R160, R209, R213). -/
def State.formatArray (s : State) : State :=
  let n := s.freeKeySlot
  let t := s.drawn
  let u := t.drawn
  let v := u.drawn
  let tag := if s.kept.format ∧ s.kept.formatTag ≠ 0 then s.kept.formatTag else v.free % (2 ^ 32 - 1) + 1
  let size := if s.kept.format then s.kept.formatSize else max 1 s.expected.length
  let id := t.free % 2 ^ 32
  let w := (((v.drawn).setKept { s.kept with
      sanitize := false, format := false, formatTag := 0, formatSize := 0
      keys := Sparse.set (fun _ => none) s.kept.keys n (some ⟨id, Config.kekWrap (u.free % 2 ^ 512)⟩) }).setArr
    { Arr.init with blank := false, groupTag := tag, groupSize := size, dramGiB := s.mdl.dramGiB
                    islets := s.mdl.hostIslets, keySlot := n }).setPers
    { s.pers with band := [], bandUsed := 0 }
  w.startArray (s.formatSb tag id n size)

/-- Page 0x02A is loaded from the save seal of the image; without one it reads 0 (R158). -/
def State.loadLast (s : State) (o : Option SaveSeal) : State :=
  match o with
  | none => { s with regs := s.regs.filter (fun e => decide (e.1 / 0x1000 ≠ 0x2A ∨ e.1 % 0x1000 < 0x40)) }
  | some x =>
    let t := s.setWord 0x2A040 (BitVec.ofNat 32 (b2n x.short * 2 ^ 4 + b2n x.peerLost * 2 ^ 6 + x.cause * 2 ^ 8
      + x.cutCause * 2 ^ 12 + x.failedCh * 2 ^ 16))
    let u := (((t.put SAVE_LAST_CUT_LO_CUT x.cutNo).put SAVE_LAST_CUT_HI_CUT x.cutTag).put SAVE_LAST_START_US_US
      x.startUs).put SAVE_LAST_DATA_US_US x.dataUs
    let v := (((u.put SAVE_LAST_DONE_US_US x.doneUs).put SAVE_LAST_WRITTEN_ISLETS x.written).put SAVE_LAST_ZERO_ISLETS
      x.zeros).put SAVE_LAST_UNSAVED_ISLETS x.unsaved.length
    (v.put SAVE_LAST_E_T0_MJ x.eT0).put64 SAVE_LAST_EPOCH_LO_EPOCH x.ef

/-- The dirty-shutdown count rises by one at a start of class 1 to 4, once for an image (R164, R165). -/
def State.raiseDsc (s : State) (h : Nat) : State :=
  let c := s.get RSTR_IMG_CLASS_CLASS
  let t := s.put RSTR_DSC_COUNT s.kept.dsc
  if 1 ≤ c ∧ c ≤ 4 ∧ s.kept.dscAt ≠ some (s.arr.groupTag, h) then
    ((t.setKept { s.kept with dsc := (s.kept.dsc + 1) % 2 ^ 32, dscAt := some (s.arr.groupTag, h) }).put RSTR_DSC_COUNT
      (s.kept.dsc + 1)).put RSTR_STAT_DSC_RAISED 1
  else t

/-- The cut identifier of a save seal (R153). -/
def SaveSeal.cut (x : SaveSeal) : Nat := x.cutNo + 2 ^ 32 * x.cutTag

/-- The unsaved islets that apply at a restore point: those of the save seal there, when it is short (R162). -/
def State.unsavedAt (s : State) (p : Nat) : List Nat :=
  match s.sealAt p with
  | some x => if x.short then x.unsaved else []
  | none => []

/-- The class and restore point are final: the image page, the count and the causes, the engines take the media key, and the metadata
load begins (R160 to R165, R210). DEDUCED, log 36. -/
def State.settleClass (s : State) (cls p h : Nat) : State :=
  let t := (s.put RSTR_IMG_CLASS_CLASS cls).put64 RSTR_IMG_P_LO_EPOCH p
  let u := (t.setRstr { t.rstr with cls := cls, point := p, unsaved := t.unsavedAt p }).put RSTR_IMG_UNSAVED_ISLETS
    (t.unsavedAt p).length
  let v := (u.raiseDsc h).put RSTR_STAT_PHASE 2
  let w := if cls = 3 ∨ cls = 4 then v.raiseInt 0x2D 3 else v
  let w1 := if (1 ≤ cls ∧ cls ≤ 4) ∨ cls = 6 then w.cxlEvent .startClass 0 else w
  let x := if cls = 3 then w1.raiseFault 0x2D 2 7 0 else w1
  if cls = 6 then x.raiseInt 0x2D 2
  else x.setSave { x.save with keyLoaded := true, mediaKey := some x.keyOf }

/-- Is detection still to end: PHASE 1? -/
def State.detecting (s : State) : Bool := decide (s.get RSTR_STAT_PHASE = 1)

/-- The image page takes what detection found (R194). -/
def State.imagePage (s : State) (f : Found) : State :=
  let c := s.classOf f
  let h := if 5 ≤ c then 0 else s.foundH f
  let cut := match (if 5 ≤ c then none else s.sealAt h) with
    | some x => x.cut
    | none => 0
  (((s.put RSTR_STAT_VOL_CAUSE (s.volCause f)).put RSTR_IMG_CLASS_CLASS c).put64 RSTR_IMG_H_LO_EPOCH h).put64
    RSTR_IMG_CUT_LO_CUT cut

/-- A block that was open is read forward to its first erased page; one with a page that is only partly programmed becomes CLOSED
(R243). -/
def State.readForward (s : State) (e : Nat × Nat × Bool) : State :=
  let r := Sparse.get (fun _ => freshBlock) s.farr.blocks e.1
  if r.bstate = 1 then
    s.setFarr { s.farr with
      blocks := Sparse.set (fun _ => freshBlock) s.farr.blocks e.1 (if e.2.2 then { r with bstate := 2 } else { r with wp := e.2.1 }) }
  else s

/-- Image detection ends (R160): the class found, a format when the array is blank, the generations that validate, and the last save's
page. -/
def State.detect (s : State) (f : Found) : State :=
  let m := s.readMarks f
  let t := m.imagePage f
  let c := m.classOf f
  let u := if c = 5 then t.formatArray else if c < 5 then f.forward.foldl State.readForward t else t
  ((u.loadLast (if c < 5 then m.sealAt (m.foundH f) else none)).setRstr { u.rstr with
    cls := c, gens := (u.media.gens.filter (fun g => g.validates (if c < 5 then f.badWseqs else []))).map (·.no) }).refreshFarr

/-! ### The metadata load and memory active (R163, R166 to R168) -/

/-- Replay up to the restore point: the islet location table, and FARR's tables (R162, R166, R229, R240). -/
def State.loadTables (s : State) : State :=
  match s.media.gens.find? (fun g => s.rstr.gens.contains g.no && decide (g.cg ≤ s.rstr.point)) with
  | none => s
  | some g =>
    ((s.replayTables g s.rstr.point).setRstr { s.rstr with
      table := replay g.locs g.cg s.rstr.point (fun _ => false) s.media.runs }).refreshFarr

/-- What was journalled and not sealed before the start is gone, and epochs above the restore point are void until the first seal says so:
the journal goes on from the seal at that point (R162, R163). -/
def State.cutJournal (s : State) : State :=
  let t := s.setArr { s.arr with
    copies := Sparse.mapVals (fun _ => []) (fun l => l.filter (fun c => decide (c.epoch ≤ s.arr.highSealed))) s.arr.copies
    voidFrom := if s.rstr.point < s.arr.highSealed then some (s.rstr.point + 1) else none }
  t.setMedia { t.media with pend := [], lastHead := match t.media.sealOf s.rstr.point with
    | some (h, _) => h
    | none => t.media.lastHead }

/-- PERS sets ACTIVE and the first epoch of the new run begins, one above the highest sealed epoch anywhere (R73, R163, R166). -/
def State.activate (s : State) : State :=
  let e := s.arr.highSealed + 1
  let t := (s.put PERS_CTRL_ACTIVE 1).put64 PERS_SEALED_LO_EPOCH s.arr.highSealed
  (t.setRstr { t.rstr with firstEpoch := e }).beginEpochs e

/-- Memory_Active is set and HLK grants credits (R167). -/
def State.memoryActive (s : State) : State :=
  ((((s.put RSTR_STAT_MEM_ACTIVE 1).put RSTR_T_META_US_US (s.now - s.rst.startedAt)).setRst
    { s.rst with phase := .active }).raiseInt 0x2D 0).refreshHlk

/-- RSTR takes staging banks 14 and 15 (R48, R166). -/
def State.claimBanks (s : State) : State :=
  let t := (s.preempt 3).preempt 4
  t.setRstr { t.rstr with banks := true }

/-- The metadata load completes: the tables, ACTIVE outside volatile mode, every islet not restored, staging banks 14 and 15, and
Memory_Active (R166 to R169). -/
def State.metadataLoaded (s : State) : State :=
  if s.get RSTR_STAT_PHASE ≠ 2 ∨ s.saving = true ∨ s.save.ended = true then s
  else
    let vol := decide (s.rstr.cls = 6)
    let t := s.setPers { s.pers with islets := [], plane0 := [], plane1 := [] }
    let u := if vol then t else ((t.loadTables).cutJournal).activate
    let v := u.setRstr { u.rstr with interlock := true, restored := [], poisonPending := [], bgStep := 0, zeroStep := 0 }
    let w := ((v.put RSTR_LEFT_ISLETS v.mdl.hostIslets).put RSTR_STAT_PHASE (if vol then 5 else 3)).put PWR_STAT_STATE
      (if vol then 0 else 4)
    ((((w.setRes 0).claimBanks).memoryActive).grantSlots)

/-- Once restore is complete RSTR gives staging banks 14 and 15 back at the next tick, and Glen firmware sets BURST_EN again (R48, R180,
R451). -/
def State.rstrTick (s : State) : State :=
  if !s.rstr.interlock && s.rstr.banks then
    (((s.release 3 0x2C).release 4 0x2C).setRstr { s.rstr with banks := false }).enableFeature ⟨REC_CTRL_BURST_EN, 4, 0x94⟩ true
  else s

/-! ### Restoring an islet (R173, R178, R181, R183 to R185) -/

/-- The newest copy or record of islet `i` in the array. -/
def State.newest (s : State) (i : Nat) : Option ArrCopy :=
  (s.copiesOn i).foldl (fun o c => match o with
    | none => some c
    | some d => if d.dataEpoch ≤ c.dataEpoch then some c else some d) none

/-- The copy or record of islet `i` that the location table names, where it was last written (R166, R173). -/
def State.toRestore (s : State) (i : Nat) : Option ArrCopy :=
  let l := Sparse.get (fun _ => noLoc) s.rstr.table i
  (s.copiesOn i).reverse.find? (fun c => decide (c.loc.kind = l.kind ∧ c.loc.ep27 = l.ep27 ∧ l.kind ≠ 0))

/-- Does the restore of islet `i` read flash: its newest record is a data copy, and it is not unsaved (R173)? -/
def State.readsFlash (s : State) (i : Nat) : Bool :=
  !s.rstr.unsaved.contains i && decide (s.rstr.cls ≠ 6) &&
    (match s.toRestore i with
     | some c => decide (c.kind = .data)
     | none => false)

/-- Does the image-data stream restore islet `i`: its newest record is no zero record, or it is unsaved (R177)? -/
def State.fromImage (s : State) (i : Nat) : Bool :=
  decide (s.rstr.cls ≠ 6) && (s.rstr.unsaved.contains i ||
    (match s.toRestore i with
     | some c => decide (c.kind ≠ .zero)
     | none => false))

/-- The lines of a copy that cannot be rebuilt: those of every codeword on a failed die when the row has lost two members (R181, R182,
R205), and those of codewords found unrecoverable before (R247). -/
def State.lostLines (s : State) (c : ArrCopy) : List Nat :=
  let dead := s.deadColumns c.loc.skerry c.loc.row
  ((List.range 16).filter (fun k => (decide (2 ≤ dead.length) && dead.contains k)
    || s.farr.lost.contains (c.loc.skerry, c.loc.row, stripeSlot c.loc.col k, k))).flatMap (fun k => (List.range 64).map (· + k * 64))

/-- The codewords of a copy that lie on a failed die and are rebuilt from parity (R182). -/
def State.deadWords (s : State) (c : ArrCopy) : Nat :=
  let dead := s.deadColumns c.loc.skerry c.loc.row
  if dead.length = 1 then 1 else 0

/-- A start sets islet `i` DIRTY: STAMP and ENTRY the first epoch of the run, its bit set in that epoch's plane while it
collects, else its place on the return list, and RES (R183, R184). -/
def State.startDirty (s : State) (i : Nat) : State :=
  let e := s.rstr.firstEpoch
  let t := s.setRec i ⟨.dirty, low48 e, low48 e⟩
  let u := if s.epoch = e then t.setBit i else t.appendReturn ⟨i, e⟩
  if s.residual i then u.refresh else u.setRes (u.res + 1)

/-- An unsaved islet, or one whose newest record is a poison record, comes back poisoned; an unsaved one is CLEAN until the
epoch with its poison record is sealed (R178, R184). -/
def State.restoreUnsaved (s : State) (i : Nat) : State :=
  let e := s.rstr.firstEpoch
  let t := (s.poisonIslet i).setRec i ⟨.clean, low48 e, low48 e⟩
  let loc := locOf .poison false false e (0, 0, 0)
  let u := t.setPers { t.pers with copies := t.pers.copies ++
    [⟨i, 0, 0, e, false, false, false, false, .poison, .journalled s.epoch, [], s.now, loc⟩] }
  let v := (u.noteCopy s.epoch i false loc []).setRstr { t.rstr with poisonPending := insertNat t.rstr.poisonPending i }
  v.setRes (v.res + 1)

/-- Lines of an islet that parity cannot rebuild are written poisoned, counted and raised (R181). -/
def State.mediaPoison (s : State) (i : Nat) (lost : List Nat) : State :=
  if lost = [] then s
  else
    let t := lost.foldl (fun t o => t.setLine (i * 1024 + o % 1024) poisonLine) s
    let u := (t.markPoison (lost.map (fun o => i * 1024 + o % 1024)) 1).cxlEvent .restoredPoison (i * 65536)
    ((u.bumpBy RSTR_MEDIA_POISON_LINES lost.length).raiseInt 0x2D 4).raiseFault 0x2D 1 7 0

/-- Islet `i`'s lines are written and its state is set (R173, R178, R183, R184); `rebuilt` codewords came from parity and the lines
`lost` could not be rebuilt, beside those on failed dies (R182). DESIGN CHOICE, log 67. -/
def State.bringBack (s : State) (i rebuilt : Nat) (lost : List Nat) : State :=
  let words := match s.toRestore i with
    | some c => max rebuilt (s.deadWords c)
    | none => 0
  let t := (s.drcIslet i true).bumpBy RSTR_REBUILD_COUNT (if s.readsFlash i then words else 0)
  if s.rstr.cls = 6 then t.setIslet i []
  else if s.rstr.unsaved.contains i then t.restoreUnsaved i
  else
    match s.toRestore i with
    | none => t.setIslet i []
    | some c =>
      match c.kind with
      | .zero => (t.setIslet i []).setRec i ⟨.zero, 0, 0⟩
      | .poison => (t.poisonIslet i).setRec i ⟨.durable, low48 c.dataEpoch, low48 c.dataEpoch⟩
      | .data =>
        let u := t.setIslet i c.lines
        if words ≠ 0 ∨ lost ++ s.lostLines c ≠ [] then (u.mediaPoison i (lost ++ s.lostLines c)).startDirty i
        else u.setRec i ⟨.durable, low48 c.dataEpoch, low48 c.dataEpoch⟩

/-- Every host-visible islet is restored: PHASE 4, RESTORE_DONE, and the interlock is bypassed (R180). -/
def State.restoreDone (s : State) : State :=
  if s.rstr.restored.length < s.mdl.hostIslets then s
  else
    let t := (s.setRstr { s.rstr with interlock := false }).put RSTR_T_DONE_MS_MS ((s.now - s.rst.startedAt) / 1000)
    let u := if s.get RSTR_STAT_PHASE = 3 then t.put RSTR_STAT_PHASE 4 else t
    let v := if s.get PWR_STAT_STATE = 4 then u.put PWR_STAT_STATE 0 else u
    v.raiseInt 0x2D 1

/-- Islet `i`'s bit becomes 1: its held requests are released as new arrivals, and restore may be complete (R169 to R171,
R180). -/
def State.setRestored (s : State) (i : Nat) : State :=
  let t := s.setRstr { s.rstr with
    restored := insertNat s.rstr.restored i
    slots := s.rstr.slots.filter (fun e => decide (e.1 ≠ i))
    faultQ := s.rstr.faultQ.filter (fun e => decide (e.1 ≠ i)) }
  let u := (t.put RSTR_LEFT_ISLETS (t.mdl.hostIslets - t.rstr.restored.length)).grantSlots
  (u.restoreDone).serve

/-- The slot in which islet `i`'s fault-in runs, in staging banks 14 and 15, takes the copy's lines and tag (R172, R278).
DEDUCED, log 88. -/
def State.fillFaultIn (s : State) (i : Nat) : State :=
  match s.toRestore i with
  | some c => if c.kind = .data then s.fillSlot (14 * 16 + (s.rstr.slots.map (·.1)).idxOf i) i c.dataEpoch c.lines else s
  | none => s

/-- A fault-in ends (R172): counted, with its latency; `late` when its data came in the cycle its bound expired. -/
def State.faultInDone (s : State) (i us rebuilt : Nat) (lost : List Nat) (late : Bool) : State :=
  if s.rstr.slots.any (fun e => decide (e.1 = i)) ∧ s.isRestored i = false then
    let t := ((s.fillFaultIn i).bringBack i rebuilt lost).bump64 RSTR_FI_LO_COUNT
    let u := if t.cfg RSTR_FI_SLOW_US < us then t.bump RSTR_FI_SLOWCNT_COUNT else t
    let v := u.put RSTR_FI_MAX_US (max (u.get RSTR_FI_MAX_US) (min us (2 ^ 22 - 1)))
    ((if late then v.lateOk 0x2C else v).setRestored i).joinSave i
  else s

/-! ### Background restore (R177) -/

/-- The first number from `i` on that is not excluded, among the next `n`. -/
def firstFree (excluded : Nat → Bool) : Nat → Nat → Nat
  | 0, i => i
  | n + 1, i => if excluded i then firstFree excluded n (i + 1) else i

/-- Does background restore pass over islet `i`: restored, or being fetched on demand (R172, R177)? -/
def State.passedOver (s : State) (i : Nat) : Bool :=
  s.rstr.restored.contains i || s.rstr.slots.any (fun e => decide (e.1 = i))

/-- The first islet of `base` to `base + count - 1` that the zero-fill stream takes. -/
def State.zeroIn (s : State) (base count : Nat) : Option Nat :=
  let n := s.rstr.restored.length + s.rstr.slots.length + s.arr.copies.length + s.rstr.unsaved.length
  let i := firstFree (fun i => s.passedOver i || s.fromImage i) n base
  if i < base + count ∧ i < s.mdl.hostIslets then some i else none

/-- The lowest number of a list. -/
def lowest (l : List Nat) : Option Nat :=
  l.foldl (fun o i => match o with
    | none => some i
    | some j => some (min i j)) none

/-- The first islet of `base` to `base + count - 1` that the image-data stream takes. -/
def State.dataIn (s : State) (base count : Nat) : Option Nat :=
  lowest ((s.arr.copies.map (·.1) ++ s.rstr.unsaved).filter (fun i => decide (base ≤ i ∧ i < base + count ∧ i < s.mdl.hostIslets)
    && s.fromImage i && !s.passedOver i))

/-- The next islet of a stream in a step of R177's order: 0 the hint ranges, 1 the unsaved islets, 2 the rest. -/
def State.inStep (s : State) (zero : Bool) (step : Nat) : Option Nat :=
  let pick := fun (base count : Nat) => if zero then s.zeroIn base count else s.dataIn base count
  if step = 0 then
    (List.range 8).findSome? (fun n =>
      if s.cfg (RSTR_HINT_COUNT_ISLETS n) = 0 then none
      else pick (s.cfg (RSTR_HINT_BASE_ISLET n)) (s.cfg (RSTR_HINT_COUNT_ISLETS n)))
  else if step = 1 then (if zero then none else lowest (s.rstr.unsaved.filter (fun i => !s.passedOver i)))
  else pick 0 s.mdl.hostIslets

/-- The step a stream is in (R177, R194). -/
def Rstr.step (r : Rstr) (zero : Bool) : Nat := if zero then r.zeroStep else r.bgStep

/-- The next islet of a stream, with the step it is taken in: a step that is done is not taken up again (R177, R194). -/
def State.nextRestore (s : State) (zero : Bool) : Option (Nat × Nat) :=
  ([0, 1, 2].filter (fun k => decide (s.rstr.step zero ≤ k))).findSome? (fun k => (s.inStep zero k).map (fun i => (k, i)))

/-- A stream is in a step. -/
def State.setStep (s : State) (zero : Bool) (k : Nat) : State :=
  s.setRstr (if zero then { s.rstr with zeroStep := k } else { s.rstr with bgStep := k })

/-- Background restore or the zero-fill stream completes its next islet (R169, R177, R178). DEDUCED, log 36. -/
def State.restoreNext (s : State) (zero : Bool) (rebuilt : Nat) (lost : List Nat) : State :=
  if s.rstr.interlock ∧ s.cfgOn RSTR_CTRL_BG_EN = true ∧ s.saving = false ∧ s.save.ended = false then
    match s.nextRestore zero with
    | none => s
    | some (k, i) => (((s.setStep zero k).bringBack i rebuilt lost).setRestored i)
  else s

/-! ### The warm start (R184, R190, R191) -/

/-- Was islet `i` saved by the save that ended the run before? -/
def State.wasSaved (s : State) (i : Nat) : Option CopyKind :=
  if s.rst.afterSave then
    match s.sealAt s.arr.highSealed with
    | none => none
    | some x => ((Sparse.get (fun _ => []) s.arr.copies i).find? (fun c => decide (c.epoch = x.ef ∧ c.dataEpoch = x.ef))).map
        ArrCopy.kind
  else none

/-- The state a warm start gives a retained record (R184). -/
def State.warmRec (s : State) (e i : Nat) (r : IsletRec) : IsletRec :=
  if r.st.residual then
    match s.wasSaved i with
    | some .zero => ⟨.zero, r.stamp, r.entry⟩
    | some _ => ⟨.durable, r.stamp, r.entry⟩
    | none => ⟨.dirty, low48 e, low48 e⟩
  else r

/-- Copies that were not sealed are gone; what else waited for a journal codeword joins the first epoch of the new run. -/
def State.cutWarm (s : State) : State :=
  let t := s.setArr { s.arr with
    copies := Sparse.mapVals (fun _ => []) (fun l => l.filter (fun c => decide (c.epoch ≤ s.arr.highSealed))) s.arr.copies }
  t.setMedia { t.media with pend := (t.media.pend.filter (fun e => !e.2.ofCopy)).map (fun e => (t.arr.highSealed + 1, e.2)) }

/-- PERS sets the islet states from the retained records: those it sets DIRTY have their bits set and count (R184, R191). -/
def State.warmStates (s : State) : State :=
  let t := (s.cutWarm).activate
  let e := t.epoch
  let l := (s.pers.islets.map (fun r => (r.1, s.warmRec e r.1 r.2))).filter (fun r => decide (r.2 ≠ freshRec))
  let d := (l.filter (fun r => decide (r.2.st = .dirty))).map (·.1)
  ((t.setPers { (t.pers.setPlane e d) with islets := l }).setRes d.length)

/-- The check word is verified at a warm start, or the start continues cold from image detection (R190, R191, R396). -/
def State.warmCheck (s : State) (ok : Bool) : State :=
  if s.rst.phase ≠ .configured ∨ s.get RST_STAT_START ≠ 1 ∨ s.flag RST_STAT_WARM_FAIL = true then s
  else if ok then
    let t := (s.loadLast (s.sealAt s.arr.highSealed)).put RSTR_STAT_WARM 1
    let u := if s.rst.volatile then (t.put RSTR_STAT_PHASE 5).put RSTR_STAT_VOL_CAUSE s.rst.volCause else (t.put RSTR_STAT_PHASE 4).warmStates
    (u.setSave { u.save with keyLoaded := !s.rst.volatile, mediaKey := if s.rst.volatile then none else some s.keyOf }).memoryActive
  else
    let t := ((s.put RST_STAT_WARM_FAIL 1).raiseInt 0x02 1).setRst { s.rst with phase := .trained }
    ((t.put RSTR_STAT_PHASE 1).put RSTR_T_DETECT_US_US (s.now - s.rst.startedAt)).put PWR_STAT_STATE 4

end Sys2Proof.Machine
end

