-- ==== Sys2Proof/Machine/Flash.lean ====
section
/-! DEFINITION. The flash channel sequencers and the flash array manager (R231 to R265): queues, suspends, block records
and PAGE_NOT_FREE, the retry ladder with its early warnings, programs with redirects, erases with retirement, failed
dies and channels, and the block query. -/

namespace Sys2Proof.Machine

/-! ### Status registers -/

/-- FCH_QDEPTH of a channel. -/
def State.refreshQ (s : State) (c : Nat) : State :=
  let l := Sparse.get (fun _ => []) s.farr.queues c
  let n := fun (q : FQueue) => (l.filter (fun (o : FOp) => decide (o.queue = q))).length
  (((s.put (FCH_QDEPTH_DEMAND c) (n .demand)).put (FCH_QDEPTH_SAVE c) (n .save)).put (FCH_QDEPTH_NORMAL c)
    (n .normal)).put (FCH_QDEPTH_UPKEEP c) (n .upkeep)

/-- FCH_FILL and its FULL flag with its two levels (R239). -/
def State.setFill (s : State) (c n : Nat) : State :=
  let t := s.put (FCH_FILL_BURSTS c) n
  if s.cfg (FCH_PACE_HIGH c) ≤ n then t.put (FCH_FILL_FULL c) 1
  else if n ≤ s.cfg (FCH_PACE_LOW c) then t.put (FCH_FILL_FULL c) 0 else t

/-- Bursts leave the write buffer of a channel for a die (R239). -/
def State.drainFill (s : State) (c n : Nat) : State := s.setFill c (s.get (FCH_FILL_BURSTS c) - n)

/-! ### Failed dies and channels (R145, R256, R257) -/

/-- The rate of a mode of a flash channel in MT/s: the rows of the SEG table (R235, R261). -/
def modeRate (iface rate : Nat) : Nat :=
  (if iface = 2 then [400, 667, 800, 1200] else [1600, 2400, 3200, 3600]).getD rate 3600

/-- What the working dies write together: each die counts by its channel's rate over 3,600 MT/s, up to 128 dies (R17, R232). -/
def State.dieRates (s : State) : Nat :=
  min (((s.farr.dies.filter (fun e => decide (e.2.st = 1))).map (fun e => Sparse.get (fun _ => 3600) s.farr.rates (e.1 / 16))).foldl (· + ·) 0)
    (128 * 3600)

/-- PERS_SAVE_RATE is written by Glen firmware for the dies that work (R17, R76, R147, R232, R257). -/
def State.rewriteRate (s : State) : State :=
  let r := 44000 * s.dieRates / (128 * 3600)
  (s.put PERS_SAVE_RATE_MBPS r).put ⟨PERS_SAVE_RATE_MBPS.addr + 0x800, PERS_SAVE_RATE_MBPS.lo, PERS_SAVE_RATE_MBPS.w⟩ r

/-- The coded address of flash media (R412). -/
def mediaAddr (c d p b page : Nat) : Nat := c + d * 2 ^ 4 + p * 2 ^ 8 + b * 2 ^ 10 + page * 2 ^ 24

/-- A die is marked failed: no operation is issued to it any more (R257 step 2). -/
def State.markFailed (s : State) (c d : Nat) : State :=
  let x := s.die c d
  let t := s.setDie c d { x with st := 2, busy := none, susp := none }
  let bit := d * 16 + c
  let u := (t.put (FCH_STAT_DIE_FAILED c) (maskOf ((List.range 16).filter (fun n => decide ((t.die c n).st = 2))))).put
    (FARR_FAILED_DIES (bit / 32)) (maskOf ((List.range 32).filter (fun n =>
      decide ((t.die ((bit / 32 * 32 + n) % 16) ((bit / 32 * 32 + n) / 16)).st = 2))))
  let left := (Sparse.get (fun _ => []) u.farr.queues c).filter (fun o => decide (o.die ≠ d))
  let v := u.setFarr { u.farr with queues := Sparse.set (fun _ => []) u.farr.queues c left }
  (v.refreshQ c).refreshDie c d

/-- Every written skerry with a column on the die waits for relocation (R257 step 4). -/
def State.queueReloc (s : State) (c d : Nat) : State :=
  let l := ((s.farr.blocks.filter (fun e => decide (e.1 / 65536 = dieKey c d ∧ (e.2.bstate = 1 ∨ e.2.bstate = 2)))).map
    (fun e => s.skerryOf c d (e.1 % 16384)))
  s.setFarr { s.farr with relocating := l.foldl insertNat s.farr.relocating }

/-- A DIE_FAIL entry, which a running save carries in its own journal tail, and a superblock version with the die's bit (R257 step 1). -/
def State.dieFailed (s : State) (c d : Nat) : State :=
  let t := match s.save.run with
    | some r => s.setRun { r with entries := r.entries ++ [.dieFail d c] }
    | none => s.noteEntry (.dieFail d c)
  if s.active then t.writeSuperblock else t

/-! ### Stripes and members (R146, R207, R244, R249, R257) -/

/-- The columns of a stripe whose die works. -/
def State.liveColumns (s : State) (t : Stripe) : List Nat :=
  (List.range 16).filter (fun c => decide ((s.die c (skerryDie s.mdl.dpc t.skerry)).st ≠ 2))

/-- The members of a stripe bound for failed dies are placed as in a save, each with a REDIRECT entry (R146, R257 step 3). -/
def State.placeLost (s : State) (t : Stripe) : State :=
  let d := skerryDie s.mdl.dpc t.skerry
  let r : SaveRun := { s.newRun s.now with extra := s.farr.extra, turn := s.farr.turn }
  let used := ((List.range 16).filter (fun c => s.dieWorks c d)).map (fun c => (c, d))
  let x := (List.range (rowsFor t.slc)).foldl (fun (a : State × SaveRun) n =>
    ((List.range 16).foldl (State.redirectMember t.skerry (t.row + n)) (a, used)).1) (s, r)
  x.2.entries.foldl State.noteEntry (x.1.setFarr { x.1.farr with extra := x.2.extra, turn := x.2.turn })

/-- Every member of a stripe is programmed: its copies are journalled at their places (R70, R207). -/
def State.stripeDone (s : State) (t : Stripe) : State :=
  let u := (s.setFarr { s.farr with stripes := s.farr.stripes.filter (fun u => decide (u.id ≠ t.id)) }).placeLost t
  ((t.islets.zipIdx.foldl (fun u e => u.copyProgrammed t.slc (t.skerry, t.row + e.2 / 15, e.2 % 15) e.1)
    (u.setUpk { u.upk with telShadow := u.upk.telShadow + t.islets.length }))).refresh

/-- A stripe is complete once every column whose die works is programmed. -/
def State.tryStripe (s : State) (t : Stripe) : State :=
  if (s.liveColumns t).all (fun c => t.done.contains c) then s.stripeDone t else s

/-- A column of a stripe is programmed (R207). -/
def State.stripeColumn (s : State) (id c : Nat) : State :=
  match s.farr.stripes.find? (fun t => decide (t.id = id)) with
  | none => s
  | some t =>
    let u : Stripe := { t with done := insertNat t.done c }
    (s.setFarr { s.farr with stripes := s.farr.stripes.map (fun v => if v.id = id then u else v) }).tryStripe u

/-- The stripes on a die that failed go on without it (R249, R257). -/
def State.stripesOn (s : State) (d : Nat) : State :=
  (s.farr.stripes.filter (fun t => decide (skerryDie s.mdl.dpc t.skerry = d))).foldl State.tryStripe s

/-- The queued operations of a stripe leave the queues. -/
def State.dropStripeOps (s : State) (id : Nat) : State :=
  s.setFarr { s.farr with queues := Sparse.mapVals (fun _ => []) (fun l => l.filter (fun o => decide (o.stripe ≠ id))) s.farr.queues }

/-- A stripe is programmed again, from staging, in the next free row of another open skerry of its band; with none its copies are
abandoned (R249). -/
def State.moveStripe (s : State) (t : Stripe) (again : Nat) : State :=
  let b := bandFor t.slc
  let u := s.dropStripeOps t.id
  match u.rowFor b t.slc (rowsFor t.slc) (t.skerry :: s.save.plan) with
  | none => (u.setFarr { u.farr with stripes := u.farr.stripes.filter (fun v => decide (v.id ≠ t.id)) }).abandonStripe t.slc t.islets
  | some (k, row) =>
    let v := u.takeRows b t.slc (rowsFor t.slc) k row
    v.setFarr { v.farr with stripes := v.farr.stripes.map (fun w =>
      if w.id = t.id then { w with skerry := k, row := row, done := [], redirects := w.redirects + again } else w) }

/-- A member program failed outside a save: the skerry is closed to further rows and the stripe is programmed again elsewhere, at most
twice (R249). -/
def State.redirectStripe (s : State) (id : Nat) : State :=
  match s.farr.stripes.find? (fun t => decide (t.id = id)) with
  | none => s
  | some t =>
    let u := s.setSk t.skerry { s.sk t.skerry with closed := true }
    if 2 ≤ t.redirects then
      ((u.dropStripeOps id).setFarr { (u.dropStripeOps id).farr with
        stripes := s.farr.stripes.filter (fun v => decide (v.id ≠ id)) }).abandonStripe t.slc t.islets
    else (u.moveStripe t 1).bump FARR_REDIRECT_COUNT

/-- The sequencer's member is programmed again on the next erased block of the same die (R124, R145, R241). -/
def State.memberAgain (s : State) (c : Nat) (o : FOp) : State :=
  match s.save.run with
  | none => s
  | some r =>
    let x := s.placeMember r (s.skerryOf c o.die o.block) (if s.mdl.planes = 2 then o.page / 2 else o.page) c c o.die
    x.1.setRun x.2

/-- During a save, a failed die or channel raises SAVE_MEDIA and shows in FAILED_CH (R145, R586). -/
def State.saveMedia (s : State) (c addr : Nat) : State :=
  (s.put SAVE_STAT_FAILED_CH (maskOf ((List.range 16).filter (fun n => bitOf (s.get SAVE_STAT_FAILED_CH) n || decide (n = c))))).raiseFault
    0x29 3 4 addr

/-- A channel is down: every die on it is failed (R256). -/
def State.channelDown (s : State) (c : Nat) : State :=
  if s.flag (FCH_STAT_DOWN c) then s
  else
    let t := ((((s.put (FCH_STAT_UP c) 0).put (FCH_STAT_DOWN c) 1).put (FCH_STAT_TRAINING c) 0).raiseInt (0x60 + c) 0).raiseFault
      (0x60 + c) 4 7 0
    let l := (List.range 16).filter (fun d => decide ((t.die c d).st = 1))
    let u := l.foldl (fun u d => ((u.markFailed c d).queueReloc c d).dieFailed c d) t
    if s.saving then u.saveMedia c (c + 0xF0)
    else (l.foldl (fun u d => (((u.degraded).raiseInt 0x70 1).raiseFault 0x70 1 7 0).stripesOn d) u).rewriteRate.refreshFarr

/-- A die fails (R145, R256, R257); with its channel's last die the channel is down. -/
def State.dieFails (s : State) (c d addr : Nat) : State :=
  if (s.die c d).st ≠ 1 then s
  else
    let t := (((s.markFailed c d).queueReloc c d).dieFailed c d).raiseInt (0x60 + c) 1
    let u := if s.saving then t.saveMedia c addr
             else ((((t.degraded).raiseInt 0x70 1).raiseFault 0x70 1 7 0).stripesOn d).rewriteRate.refreshFarr
    if (List.range 16).any (fun n => decide ((u.die c n).st = 1)) then u else u.channelDown c

/-- The dies that the superblock records as failed, and the registers that name failed dies, at a cold start (R215, R261, R263). -/
def State.knownFailures (s : State) : State :=
  let bad := s.mdl.diesPerChannel.zipIdx.flatMap (fun e => ((List.range e.1).filter (fun d =>
    bitOf s.media.sb.failedDies (16 * d + e.2))).map (fun d => (e.2, d)))
  (bad.foldl (fun t e => t.markFailed e.1 e.2) s).rewriteRate

/-! ### Queues (R234, R236 to R238, R241) -/

/-- Is the program admitted: the page is the block's next, in the block's mode, on every plane (R241)? -/
def State.admits (s : State) (c : Nat) (o : FOp) : Bool :=
  o.planes.all (fun p =>
    let r := s.block c o.die p o.block
    (decide (r.bstate = 0 ∧ o.page = 0) || decide (r.bstate = 1 ∧ r.wp = o.page ∧ r.slc = o.slc)))

/-- Is the erase one that FARR issues: the conditions of R189 and R230 hold for the skerry, and no block is BAD or RETIRED (R242)? -/
def State.erasable (s : State) (c : Nat) (o : FOp) : Bool :=
  s.mayErase (s.skerryOf c o.die o.block) && o.planes.all (fun p => decide ((s.block c o.die p o.block).bstate < 3))

/-- Pages a member program takes on a plane: one in SLC mode and three in TLC mode on four planes, twice that on two (R197,
R244). -/
def State.programPages (s : State) (slc : Bool) : Nat := (if slc then 1 else 3) * (if s.mdl.planes = 2 then 2 else 1)

/-- Is the operation one that its queue is fed with, on planes that the dies have (R231, R234, R242)? The program of a stripe goes to the
stripe's place (R204); the mode is that of the block's band, but for a save's overflow (R244). -/
def State.issued (s : State) (c : Nat) (o : FOp) : Bool :=
  let k := s.skerryOf c o.die o.block
  let stripe := match s.farr.stripes.find? (fun t => decide (t.id = o.stripe)) with
    | some t => decide (o.block = columnBlock s.farr.substitutes s.mdl.dpc t.skerry c ∧ o.die = skerryDie s.mdl.dpc t.skerry
        ∧ o.page = t.row * (if s.mdl.planes = 2 then 2 else 1) ∧ o.slc = t.slc)
    | none => decide (o.stripe = 0)
  o.planes.all (fun p => decide (p < s.mdl.planes)) && decide (o.planes ≠ []) &&
    (match o.queue, o.kind with
     | .demand, .read => true
     | .save, .program => o.slc
     | .save, .read => true
     | .normal, .read => true
     | .normal, .program => decide (o.planes.length = s.mdl.planes ∧ o.slc = decide ((s.sk k).band ≠ 3)) && stripe
     | .normal, .erase => true
     | .normal, .control _ => true
     | .upkeep, .read => true
     | .upkeep, .control _ => true
     | _, _ => false)

/-- May the operation start on an idle die: NORMAL and UPKEEP wait under QUIESCE (R261)? -/
def State.fopReady (s : State) (c d : Nat) (o : FOp) : Bool :=
  decide (o.die = d) && (decide (o.queue = .demand ∨ o.queue = .save) || !s.cfgOn (FCH_CTRL_QUIESCE c))

/-- Removes an operation from its queue. -/
def State.dropFop (s : State) (c : Nat) (o : FOp) : State :=
  let left := (Sparse.get (fun _ => []) s.farr.queues c).erase o
  (s.setFarr { s.farr with queues := Sparse.set (fun _ => []) s.farr.queues c left }).refreshQ c

/-- A program is refused because its page is not free: FCH counts and reports it, the save sequencer takes the next erased block, and FARR
issues its own stripe again on another block (R241). -/
def State.notFree (s : State) (c : Nat) (o : FOp) : State :=
  let t := ((s.bump (FCH_NOTFREE_COUNT c)).raiseInt (0x60 + c) 2).raiseFault (0x60 + c) 0 7 0
  if o.queue = .save then t.memberAgain c o
  else
    match t.farr.stripes.find? (fun x => decide (x.id = o.stripe)) with
    | some x => t.moveStripe x 0
    | none => t

/-- The die takes the oldest operation of queue `q` for it that can start; while an operation is suspended only DEMAND reads start (R237,
R238, R241, R242). -/
def State.startDie : Nat → Nat → Nat → FQueue → State → State
  | 0, _, _, _, s => s
  | n + 1, c, d, q, s =>
    if (s.die c d).busy.isSome ∨ (s.die c d).st ≠ 1 ∨ ((s.die c d).susp.isSome ∧ q ≠ .demand) then s
    else
      match (Sparse.get (fun _ => []) s.farr.queues c).find? (fun o => decide (o.queue = q) && s.fopReady c d o) with
      | none => s
      | some o =>
        let t := s.dropFop c o
        if o.kind = .program ∧ s.admits c o = false then State.startDie n c d q (t.notFree c o)
        else if o.kind = .erase ∧ s.erasable c o = false then State.startDie n c d q t
        else t.setDie c d { t.die c d with busy := some o }

/-- May the die's operation be suspended: a program or erase outside its resume window (R238)? -/
def State.suspendable (s : State) (c d : Nat) : Bool :=
  (match (s.die c d).busy with
   | some o => decide (o.kind = .program ∨ o.kind = .erase)
   | none => false)
  && decide ((s.die c d).susp = none)
  && (match (s.die c d).resumedAt with
      | some t => decide (t + s.cfg (FCH_SUSP_RESUME_MIN c) ≤ s.now)
      | none => true)

/-- Does a DEMAND read wait for the die? -/
def State.demandWaits (s : State) (c d : Nat) : Bool :=
  (Sparse.get (fun _ => []) s.farr.queues c).any (fun o => decide (o.queue = .demand ∧ o.kind = .read ∧ o.die = d))

/-- A waiting DEMAND read suspends the die's program or erase and is served (R238). -/
def State.suspendFor (s : State) (c d : Nat) : State :=
  if s.demandWaits c d && s.suspendable c d then
    let x := s.die c d
    State.startDie 8 c d .demand ((s.setDie c d { x with busy := none, susp := x.busy, resumedAt := none }).bump (FCH_SUSPCNT_COUNT c))
  else s

/-- The dies of a channel in rotating order, starting after die `d` (R237). -/
def rotation (d : Nat) : List Nat := (List.range 16).map (fun n => (d + 1 + n) % 16)

/-- The die that a queue of a channel served last. -/
def State.lastServed (s : State) (c : Nat) (q : FQueue) : Nat :=
  (((Sparse.get (fun _ => []) s.farr.served c).find? (fun e => decide (e.1 = q))).map (·.2)).getD 15

/-- A queue of a channel serves a die: the last one served is noted (R237). -/
def State.noteServed (s : State) (c : Nat) (q : FQueue) (d : Nat) : State :=
  let l := Sparse.get (fun _ => []) s.farr.served c
  s.setFarr { s.farr with served := Sparse.set (fun _ => []) s.farr.served c ((q, d) :: l.filter (fun e => decide (e.1 ≠ q))) }

/-- A queue of a channel gives die `d` its next operation; a DEMAND read first suspends what the die is busy with (R237, R238). -/
def State.serveDie (s : State) (c : Nat) (q : FQueue) (d : Nat) : State :=
  let t := State.startDie 8 c d q (if q = .demand then s.suspendFor c d else s)
  if (t.die c d).busy ≠ (s.die c d).busy then t.noteServed c q d else t

/-- At a tick FCH takes up the work of a channel: the queues in priority order, within each the dies in rotating order (R234, R236,
R237). DESIGN CHOICE, log 83. -/
def State.serveChannel (s : State) (c : Nat) : State :=
  [FQueue.demand, .save, .normal, .upkeep].foldl (fun t q =>
    (rotation (s.lastServed c q)).foldl (fun u d => u.serveDie c q d) t) s

/-- An operation enters a queue of a channel, 64 entries to a queue (R234); it starts at a tick (R236). -/
def State.enqueueFop (s : State) (c : Nat) (o : FOp) : State :=
  let l := Sparse.get (fun _ => []) s.farr.queues c
  if (s.die c o.die).st ≠ 1 ∨ 64 ≤ (l.filter (fun q => decide (q.queue = o.queue))).length
      ∨ (s.saving = true ∧ (o.queue = .normal ∨ o.queue = .upkeep)) ∨ (s.saving = false ∧ o.queue = .save)
      ∨ s.issued c o = false then s
  else (s.setFarr { s.farr with queues := Sparse.set (fun _ => []) s.farr.queues c (l ++ [o]) }).refreshQ c

/-- A die's operation ends: once no DEMAND read waits for it, the suspended operation goes on (R238). -/
def State.dieIdle (s : State) (c d : Nat) : State :=
  let x := s.die c d
  let t := s.setDie c d { x with busy := none, resetTried := false, resumedAt := none }
  if t.demandWaits c d then t
  else
    match x.susp with
    | some o => t.setDie c d { t.die c d with busy := some o, susp := none, resumedAt := some s.now }
    | none => t

/-- What a control operation does when it ends, at the tick after it began: a training trains the channel again (R231, R256, R261). -/
def State.controlEnds (s : State) (c d : Nat) : State :=
  match (s.die c d).busy with
  | some o =>
    match o.kind with
    | .control .training => (s.dieIdle c d).put (FCH_STAT_TRAINING c) 1
    | .control _ => s.dieIdle c d
    | _ => s
  | none => s

/-- The flash channels at a tick: control operations end, and the queues are served (R236, R237), while PLL N is locked (R409). -/
def State.flashTick (s : State) : State :=
  if s.rst.stalled.contains 4 then s
  else
  let t := (s.farr.dies.filter (fun e => match e.2.busy with
    | some o => (match o.kind with
      | .control _ => true
      | _ => false)
    | none => false)).foldl (fun (u : State) e => u.controlEnds (e.1 / 16) (e.1 % 16)) s
  ((t.farr.queues.filter (fun e => decide (e.2 ≠ []))).map (·.1)).foldl State.serveChannel t

/-- RESUME_MIN has run since the die's operation resumed: it may be suspended again (R238). -/
def State.resumeExpired (s : State) (c d : Nat) : State := s.suspendFor c d

/-! ### Wear (R248, R252, R254, R260) -/

/-- EARLY_WEAR at every multiple of WEAR_EVT_PCT percent of a die's blocks (R260). -/
def State.wearEvent (s : State) (c d : Nat) : State :=
  let x := s.die c d
  let n := (x.retired + x.worn) * 100 / max 1 (s.mdl.dieBlocks * s.cfg FARR_WORN_WEAR_EVT_PCT)
  if x.wearEvents < n then
    (((s.setDie c d { x with wearEvents := n }).wearLog).raiseInt 0x70 0).raiseFault 0x70 3 7 0
  else s

/-- A skerry is refreshed: its live copies are to be relocated (R248, R542). -/
def State.refreshSkerry (s : State) (k : Nat) : State :=
  if s.farr.relocating.contains k then s
  else ((s.setFarr { s.farr with relocating := insertNat s.farr.relocating k }).bump FARR_REFRESH_COUNT).refreshFarr

/-- Does a read set the early-warning flag (R248)? -/
def State.earlyRead (s : State) (slc : Bool) (step bits iters : Nat) : Bool :=
  decide (s.cfg (if slc then FARR_WARN_BITS_SLC else FARR_WARN_BITS_TLC) < bits)
    || decide (s.cfg FARR_WARN_ITER_WARN < iters) || decide (1 ≤ step)

/-- How a codeword read ends: the step of the ladder that gave the good result (4: none), the retry level of step 1, the corrected bits and
the iterations of the try that ended it (R245, R246). -/
structure ReadResult where
  step : Nat
  level : Nat
  bits : Nat
  iters : Nat
  deriving DecidableEq, Repr

/-- Is a try good: it decodes within the iterations allowed, to a codeword that is good at its position (R203, R245)? -/
def ReadTry.good (t : ReadTry) (limit : Nat) (kinds : List CwKind) (skerry groupTag : Nat) : Bool :=
  codewordGood t.tag kinds skerry groupTag && decide (t.iters ≤ limit)

/-- The retry ladder (R246): step 0 at the group's offset, step 1 over the levels, step 2 with soft input, step 3 from the 15 other cells; for
a DEMAND read step 3 starts together with step 1, and the first good result ends the ladder. -/
def ReadEnd.climb (r : ReadEnd) (demand others : Bool) (retryMax : Nat) (good soft : ReadTry → Bool) : ReadResult :=
  if good r.first then ⟨0, 0, r.first.bits, r.first.iters⟩
  else if demand ∧ others = true ∧ r.sooner = true then ⟨3, 0, 0, 0⟩
  else
    match ((r.levels.take retryMax).zipIdx).find? (fun e => good e.1) with
    | some (t, n) => ⟨1, n + 1, t.bits, t.iters⟩
    | none =>
      if demand ∧ others = true then ⟨3, 0, 0, 0⟩
      else
        match r.soft with
        | some t => if soft t then ⟨2, 0, t.bits, t.iters⟩ else ⟨if others then 3 else 4, 0, 0, 0⟩
        | none => ⟨if others then 3 else 4, 0, 0, 0⟩

/-- Skerry, row, slot and the column of a codeword of a page (R197, R198). -/
def State.cellOf (s : State) (c d p b : Nat) (r : ReadEnd) : Nat × Nat × Nat × Nat :=
  let x := rowSlot s.mdl.planes p r.page r.cw
  (s.skerryOf c d b, x.1, x.2, c)

/-- The ladder of a codeword read on block `b` of a die (R203, R205, R245, R246): step 3 cannot succeed while another column of the row
is lost. -/
def State.readResult (s : State) (c d p b : Nat) (r : ReadEnd) (demand : Bool) : ReadResult :=
  let x := s.cellOf c d p b r
  let kinds := kindsAt (s.sk x.1).band x.2.2.1 c (journalPos x.2.1 x.2.2.1 c)
  let others := r.others && !(s.deadColumns x.1 x.2.1).any (fun e => decide (e ≠ c)) && decide ((s.sk x.1).band = 2 ∨ (s.sk x.1).band = 3)
  r.climb demand others (s.cfg FARR_RETRY_RETRY_MAX) (fun t => t.good (s.cfg FARR_RETRY_ITER_MAX) kinds x.1 s.arr.groupTag)
    (fun t => t.good (s.cfg FARR_RETRY_SOFT_ITER) kinds x.1 s.arr.groupTag)

/-- The counters of a codeword read (R246, R247). -/
def State.countRead (s : State) (c : Nat) (r : ReadResult) : State :=
  let t := s.bump64 (FCH_RD_LO_COUNT c)
  if r.step = 1 then t.bump FARR_LADDER1_COUNT
  else if r.step = 2 then t.bump FARR_LADDER2_COUNT
  else if r.step = 3 then t.bump FARR_REBUILD_COUNT
  else if 4 ≤ r.step then ((t.bump FARR_STRIPE_LOSS_COUNT).raiseInt 0x70 2).raiseFault 0x70 0 7 0
  else t

/-- The block's record after a read: its read count, its EARLY count and its rebuilds; twice rebuilt, it is to be retired
(R248, R254, R541). -/
def BlkRec.afterRead (r : BlkRec) (early rebuilt : Bool) (limit : Nat) : BlkRec :=
  { r with
      reads := if r.reads + 1 < limit then r.reads + 1 else 0
      early := if early then min (r.early + 1) 255 else r.early
      rebuilds := if rebuilt then r.rebuilds + 1 else r.rebuilds
      retire := r.retire || (rebuilt && decide (2 ≤ r.rebuilds + 1)) }

/-- Takes the first entry `n` off a list. -/
def takeOne : List Nat → Nat → List Nat
  | [], _ => []
  | m :: t, n => if m = n then t else m :: takeOne t n

/-- A read of block `k`: a scan's read is one the retention round, or else a read-disturb scan, has made; the round ends with
its last read. At the read limit the block's first, middle and last rows are to be scanned (R540, R541, R552). -/
def State.scanRead (s : State) (k : Nat) (scan full : Bool) : State :=
  let t := if scan then
      if s.upk.scan.contains k then s.setUpk { s.upk with scan := takeOne s.upk.scan k }
      else s.setUpk { s.upk with disturb := takeOne s.upk.disturb k }
    else s
  let u := if scan && t.upk.scan.isEmpty then t.put UPK_STAT_RET_RUN 0 else t
  if full then u.setUpk { u.upk with disturb := u.upk.disturb ++ [k, k, k] } else u

/-- The key of a read offset: a group of 16 consecutive blocks of a plane, per mode (R246). -/
def levelKey (c d p group : Nat) (slc : Bool) : Nat := blockKey c d p group * 2 + b2n slc

/-- A codeword that no step recovered is noted, for the copies that are carried forward (R247). -/
def State.noteLost (s : State) (r : ReadResult) (x : Nat × Nat × Nat × Nat) : State :=
  if 4 ≤ r.step ∧ ¬ s.farr.lost.contains x then s.setFarr { s.farr with lost := s.farr.lost ++ [x] } else s

/-- A block is marked for retirement: the live copies of its skerry are to be relocated (R254 step 1). -/
def State.markRetire (s : State) (k : Nat) : State :=
  if s.farr.relocating.contains k then s
  else (s.setFarr { s.farr with relocating := insertNat s.farr.relocating k }).refreshFarr

/-- A codeword read of a die ends (R245 to R248, R254); `last` ends the operation. A scan's read that needs step 3 has the skerry refreshed
(R542), as has one that no step recovers (R247). -/
def State.readEnds (s : State) (c d p b : Nat) (r : ReadEnd) (last scan : Bool) : State :=
  let x := s.block c d p b
  let demand := match (s.die c d).busy with
    | some o => decide (o.queue = .demand)
    | none => false
  let e := s.readResult c d p b r demand
  let early := s.earlyRead x.slc e.step e.bits e.iters
  let y := x.afterRead early (decide (e.step = 3)) (s.cfg UPK_SCAN_RD_LIMIT * 1000)
  let t := (s.countRead c e).noteLost e (s.cellOf c d p b r)
  let u := (t.setBlock c d p b y).scanRead (blockKey c d p b) scan (decide (s.cfg UPK_SCAN_RD_LIMIT * 1000 ≤ x.reads + 1))
  let v := if early then u.bump64 FARR_EARLY_LO_COUNT else u
  let w := if e.step = 1 then
      v.setFarr { v.farr with levels := Sparse.set (fun _ => 0) v.farr.levels (levelKey c d p (b / 16) x.slc) e.level }
    else v
  let k := s.skerryOf c d b
  let z := if y.retire && !x.retire then w.markRetire k
    else if s.cfgOn FARR_CTRL_REFRESH_EN &&
      ((early && decide (s.cfg FARR_WORN_EARLY_REFRESH ≤ min (x.early + 1) 255)) || (scan && decide (3 ≤ e.step)))
    then w.refreshSkerry k else w
  if last then z.dieIdle c d else z

/-! ### Programs (R240, R249, R251, R252) -/

/-- The median of a list of times. -/
def median (l : List Nat) : Nat := (l.foldl (fun a x => a.takeWhile (· ≤ x) ++ x :: a.dropWhile (· ≤ x)) []).getD (l.length / 2) 0

/-- The baseline of a die in a mode: the median of the first 64 programs after format, once they are there (R251). -/
def DieRec.baseline (x : DieRec) (slc : Bool) : Option Nat :=
  let l := if slc then x.slcTimes else x.tlcTimes
  if l.length = 64 then some (median l) else none

/-- A program's time joins the first 64 of its mode. -/
def DieRec.sample (x : DieRec) (slc : Bool) (us : Nat) : DieRec :=
  if slc then { x with slcTimes := if x.slcTimes.length < 64 then x.slcTimes ++ [us] else x.slcTimes }
  else { x with tlcTimes := if x.tlcTimes.length < 64 then x.tlcTimes ++ [us] else x.tlcTimes }

/-- Is a program time above PROG_WARN percent of the baseline (R252)? -/
def State.slowProgram (s : State) (c d : Nat) (slc : Bool) (us : Nat) : Bool :=
  match (s.die c d).baseline slc with
  | none => false
  | some b => decide (b * s.cfg FARR_WORN_PROG_WARN < us * 100)

/-- The block's record after a program (R240, R252). -/
def State.blockProgrammed (s : State) (o : FOp) (slow ok : Bool) (r : BlkRec) : BlkRec :=
  let wp := o.page + s.programPages o.slc
  let n := if slow then r.slow + 1 else 0
  { r with bstate := if s.mdl.ppb o.slc ≤ wp ∨ ok = false then 2 else 1
           slc := o.slc, wp := wp, slow := n, worn := r.worn || decide (3 ≤ n), retire := r.retire || !ok }

/-- A member program is counted: in FCH's counter, and by its pages for the telemetry (R550). -/
def State.programCounted (s : State) (c : Nat) (slc : Bool) : State :=
  (s.setUpk { s.upk with telPages := s.upk.telPages + s.programPages slc * s.mdl.planes }).bump64 (FCH_PG_LO_COUNT c)

/-- The skerry of a block whose program failed takes no further rows, and its live copies are to be relocated (R249, R254). -/
def State.closeFailed (s : State) (k : Nat) : State := (s.setSk k { s.sk k with closed := true }).markRetire k

/-- A member program ends, passed or failed, after `us` µs (R145, R249, R251, R252). -/
def State.programEnds (s : State) (c d : Nat) (ok : Bool) (us : Nat) : State :=
  match (s.die c d).busy with
  | none => s
  | some o =>
    if o.kind ≠ .program then s
    else
      let slow := s.slowProgram c d o.slc us
      let t := o.planes.foldl (fun t p => t.setBlock c d p o.block (s.blockProgrammed o slow ok (s.block c d p o.block)))
        (s.programCounted c o.slc)
      let worn := (o.planes.filter (fun p => (t.block c d p o.block).worn && !(s.block c d p o.block).worn)).length
      let x := (t.die c d).sample o.slc us
      let u := (t.setDie c d { x with worn := x.worn + worn }).wearEvent c d
      let v := u.refreshFarr.dieIdle c d
      if ok then (if o.stripe = 0 then v else v.stripeColumn o.stripe c)
      else
        let w := (v.closeFailed (s.skerryOf c d o.block)).raiseFault (0x60 + c) 2 7 0
        if s.saving then
          if (s.die c d).saveFails = 0 then (w.setDie c d { w.die c d with saveFails := 1 }).memberAgain c o
          else w.dieFails c d (mediaAddr c d (o.planes.headD 0) o.block o.page)
        else if o.stripe = 0 then w else w.redirectStripe o.stripe

/-! ### Erases and retirement (R250, R254, R255) -/

/-- Blocks of a die were retired: its count, the spare band and the die's own limit (R255, R256, R260). -/
def State.retired (s : State) (c d n : Nat) : State :=
  if n = 0 then s
  else
    let x := s.die c d
    let t := (s.setDie c d { x with retired := x.retired + n }).wearEvent c d
    let u := if s.mdl.spareBlocks < x.retired + n then ((t.wearLog).raiseInt 0x70 3).raiseFault 0x70 4 7 0 else t
    if s.mdl.dieBlocks * s.cfg FARR_WORN_DIE_RETIRE_PCT < (x.retired + n) * 100 then u.dieFails c d 0 else u

/-- The blocks of a skerry that are marked for retirement are RETIRED once no live copy is left in it: they join the grown-defect table
(R254 step 2). -/
def State.retireBlocks (s : State) (k : Nat) : State :=
  if (s.liveIn k).isSome then s
  else
    (s.farr.blocks.filter (fun e => e.2.retire && decide (e.2.bstate = 1 ∨ e.2.bstate = 2)
        && decide (s.skerryOf (e.1 / 1048576) (e.1 / 65536 % 16) (e.1 % 16384) = k))).foldl (fun (t : State) e =>
      ((t.setFarr { t.farr with blocks := Sparse.set (fun _ => freshBlock) t.farr.blocks e.1 { e.2 with bstate := 4 } }).retired
        (e.1 / 1048576) (e.1 / 65536 % 16) 1).refreshDie (e.1 / 1048576) (e.1 / 65536 % 16)) s

/-- Relocation of the skerries that wait for it has gone as far as it can in a pass: blocks marked for retirement in those without a
live copy are RETIRED (R254). -/
def State.retireAll (s : State) : State := (s.farr.relocating.foldl State.retireBlocks s).refreshFarr

/-- A column of an erased skerry whose block is BAD or RETIRED is served by a substitute; with none on that die the whole skerry is
retired and SPARE_LOW is raised (R199, R254 step 3, R255). -/
def State.serveColumn (k : Nat) (s : State) (c : Nat) : State :=
  if s.columnBad k c = false ∨ (s.sk k).band = 4 then s
  else
    match s.spareFor k c with
    | some b => s.substitute k c b
    | none => ((((s.moveBand k 4).wearLog).raiseInt 0x70 3).raiseFault 0x70 4 7 0)

/-- The journal skerry that is erased leaves the ring, with the codewords it held (R217, R228). -/
def State.leaveRing (s : State) (k : Nat) : State :=
  if s.media.ring.any (fun j => decide (j.skerry = k)) then
    let l := s.media.ring.filter (fun j => decide (j.skerry ≠ k))
    let first := (l.head?.map (·.first)).getD s.media.wseq
    s.setMedia { s.media with ring := l, runs := s.media.runs.filter (fun r => decide (first < r.first + r.count)) }
  else s

/-- The band of a skerry after its erase: one that was relieved for wear leveling, or erased 64 times in the SLC reserve band, returns to
the spare band (R258). -/
def State.bandAfterErase (s : State) (k : Nat) : State :=
  let n := (s.sk k).slcErases + b2n (decide ((s.sk k).band = 2))
  if s.media.toSpare.contains k then
    (s.setMedia { s.media with toSpare := s.media.toSpare.filter (fun j => decide (j ≠ k)) }).moveBand k 0
  else if 64 ≤ n then s.moveBand k 0
  else s.setSk k { s.sk k with slcErases := n }

/-- Every block of a skerry is ERASED, or bad: it holds nothing any more and may be opened again (R198, R199, R240, R254, R258). -/
def State.skerryErased (s : State) (k : Nat) : State :=
  let t := s.setArr { s.arr with copies := Sparse.mapVals (fun _ => []) (fun l =>
    l.filter (fun c => decide (c.loc.kind ≠ 2 ∨ c.loc.skerry ≠ k))) s.arr.copies }
  let u := (t.setFarr { t.farr with
    lost := t.farr.lost.filter (fun x => decide (x.1 ≠ k)), relocating := dropNat t.farr.relocating k }).leaveRing k
  let v := (u.setSk k { u.sk k with next := 0, closed := false, slc := false }).bandAfterErase k
  (List.range 16).foldl (State.serveColumn k) v

/-- A block erase ends after `us` µs, passed or failed (R250, R251, R252, R254); the last column's erases the skerry. -/
def State.eraseEnds (s : State) (c d : Nat) (ok : Bool) (us : Nat) : State :=
  match (s.die c d).busy with
  | none => s
  | some o =>
    if o.kind ≠ .erase then s
    else
      let k := s.skerryOf c d o.block
      let t := o.planes.foldl (fun t p => t.setBlock c d p o.block ((s.block c d p o.block).afterErase ok))
        (s.bump (FCH_ER_COUNT c))
      let n := (o.planes.filter (fun p => decide ((t.block c d p o.block).bstate = 4))).length
      let worn := (o.planes.filter (fun p => (s.block c d p o.block).worn)).length
      let x := t.die c d
      let u := t.setDie c d { x with worn := x.worn - worn, eraseUs := us }
      let v := if ok then u else u.raiseFault (0x60 + c) 3 7 0
      let w := ((v.dieIdle c d).retired c d n).refreshDie c d
      (if (w.blocksOf k).all (fun key => decide ((Sparse.get (fun _ => freshBlock) w.farr.blocks key).bstate = 0
          ∨ 3 ≤ (Sparse.get (fun _ => freshBlock) w.farr.blocks key).bstate)) then w.skerryErased k else w).refreshFarr

/-- The whole array is erased (R211, R359): every anchor block, then every other, with what they held; those that fail to erase are
retired. -/
def State.eraseArray (s : State) (failed : List Nat) : State :=
  let f := s.eraseBlocks failed
  let g := ((f.farr.blocks.filter (fun e => decide (e.2.bstate = 4) &&
      decide ((Sparse.get (fun _ => freshBlock) s.farr.blocks e.1).bstate < 3))).map (·.1)).foldl (fun (t : State) k =>
    (t.retired (k / 1048576) (k / 65536 % 16) 1).refreshDie (k / 1048576) (k / 65536 % 16)) f
  (((g.setMedia Media.init).setArr Arr.init).setPers { s.pers with band := [], bandUsed := 0 }).setFarr
    { (g.setMedia Media.init).farr with substitutes := [], relocating := [], lost := [], extra := [] } |>.refreshFarr

/-- A start that finds a sanitize or format unfinished completes the erase before image detection, and clears the flag of the
sanitize (R211, R359). -/
def State.finishErase (s : State) (failed : List Nat) : State :=
  if s.kept.sanitize ∨ s.kept.format = true then
    (s.eraseArray failed).setKept { (s.eraseArray failed).kept with sanitize := false }
  else s

/-! ### Timeouts and training (R182, R233, R243, R256) -/

/-- A die is not ready within 10 ms: a RESET is tried once, except during a save or a restore (R145, R182, R256). -/
def State.dieTimeout (s : State) (c d : Nat) (late : Bool) : State :=
  if (s.die c d).busy = none then s
  else if late then s.lateOk (0x60 + c)
  else
    let t := (s.bump (FCH_TMO_COUNT c)).raiseFault (0x60 + c) 1 7 0
    if s.saving ∨ s.rstr.interlock = true ∨ (s.die c d).resetTried = true then t.dieFails c d (mediaAddr c d 0 0 0)
    else t.setDie c d { t.die c d with resetTried := true }

/-- A write of RETRAIN: the channel trains again at the next idle bus (R261). -/
def State.retrainChannel (s : State) (c : Nat) : State := s.put (FCH_STAT_TRAINING c) 1

/-- What the parameter page of a die tells: absent without a valid one, without a profile, or with a shape the controller does not accept;
else it works, with its profile (R196, R233). -/
def State.dieFound (s : State) (c d : Nat) (o : Option DieFound) : State :=
  match o with
  | some x =>
    match x.profile with
    | some n =>
      if dieAccepted x.planes x.mainArea x.page then
        (if (s.die c d).st = 0 then s.setDie c d { s.die c d with st := 1 } else s).setFarr
          { (if (s.die c d).st = 0 then s.setDie c d { s.die c d with st := 1 } else s).farr with
              missing := dropNat s.farr.missing (dieKey c d), profiles := Sparse.set (fun _ => 0) s.farr.profiles (dieKey c d) n }
      else s.setFarr { s.farr with missing := insertNat s.farr.missing (dieKey c d) }
    | none => s.setFarr { s.farr with missing := insertNat s.farr.missing (dieKey c d) }
  | none => s.setFarr { s.farr with missing := insertNat s.farr.missing (dieKey c d) }

/-- Training of a channel ends: it is up, in its mode and with the dies that a cold start finds on it, or after two failures in a row it is
down; Glen firmware writes the save rate (R17, R76, R233, R256, R261). -/
def State.channelTrained (s : State) (c : Nat) (ok : Bool) (found : List (Option DieFound)) : State :=
  if ok then
    let t := ((s.put (FCH_STAT_TRAINING c) 0).put (FCH_STAT_UP c) 1).put (FCH_STAT_DOWN c) 0
    let u := t.setFarr { t.farr with
      trainFails := Sparse.set (fun _ => 0) t.farr.trainFails c 0
      rates := Sparse.set (fun _ => 3600) t.farr.rates c (modeRate (s.cfg (FCH_MODE_IFACE c)) (s.cfg (FCH_MODE_RATE c))) }
    let v := if s.get RST_STAT_START = 0 ∧ s.rst.phase ≠ .active then
        (List.range (s.mdl.diesPerChannel.getD c 0)).foldl (fun (v : State) d => v.dieFound c d (found.getD d none)) u
      else u
    (((List.range 16).foldl (fun w d => w.refreshDie c d) v).rewriteRate).refreshFarr
  else
    let n := Sparse.get (fun _ => 0) s.farr.trainFails c + 1
    let t := s.setFarr { s.farr with trainFails := Sparse.set (fun _ => 0) s.farr.trainFails c n }
    if 2 ≤ n then t.channelDown c else t

/-! ### The block query (R265) -/

/-- A write of FARR_Q_BLOCK clears VALID and starts a lookup. -/
def State.queryBlock (s : State) (v : Nat) : State :=
  (s.put FARR_Q_REC_VALID 0).setFarr { s.farr with lookup := some v }

/-- The lookup completes: the record, or BSTATE 4 beyond the geometry and on an absent die. -/
def State.blockFound (s : State) : State :=
  match s.farr.lookup with
  | none => s
  | some v =>
    let c := v % 16
    let d := v / 16 % 16
    let p := v / 256 % 4
    let b := v / 4096 % 16384
    let r := if (s.die c d).st = 0 ∨ s.mdl.planes ≤ p ∨ s.mdl.bpp ≤ b then { freshBlock with bstate := 4 }
             else s.block c d p b
    let t := (s.setFarr { s.farr with lookup := none }).put FARR_Q_REC_VALID 1
    let u := ((t.put FARR_Q_REC_BSTATE r.bstate).put FARR_Q_REC_MODE (b2n r.slc)).put FARR_Q_REC_WORN (b2n r.worn)
    ((u.put FARR_Q_REC_EARLY r.early).put FARR_Q_WP_PAGE r.wp).put FARR_Q_EC_EC r.ec

end Sys2Proof.Machine
end

