-- ==== Sys2Proof/Machine/Mov.lean ====
section
/-! DEFINITION. The movers' steps (R266 to R300): starts and aborts, what each program word does, the end of a transfer,
waits, the completion collector, and the program-memory window. -/

namespace Sys2Proof.Machine

/-! ### Starting and aborting (R267, R292, R295) -/

/-- A write of MOV_CMD.START: channels 24 to 27 never run, a running channel refuses (R266, R268, R292). -/
def State.movStart (s : State) (c : Nat) : State :=
  if (24 ≤ c ∧ c < 28) ∨ s.get (MOV_STAT_STATE c) = 4 then s
  else if s.chanRuns c then s.put (MOV_STAT_START_REFUSED c) 1
  else s.setChan c { s.chan c with starting := true }

/-- A write of MOV_CMD: START and ABORT together act as ABORT alone (R292). -/
def State.movCmd (s : State) (c data : Nat) : State :=
  if bitOf data 1 then s.abortChan c 1 else if bitOf data 0 then s.movStart c else s

/-- A channel starts at the tick: PC, working registers and counters are loaded (R276, R292). -/
def State.startChan (s : State) (c : Nat) : State :=
  let x := s.chan c
  let t := s.setChan c { x with starting := false }
  if s.get (MOV_STAT_STATE c) ≠ 0 ∨ s.flag (PAGE_CTRL_EN (0x30 + c)) = false then t
  else
    let u := (List.range 8).foldl (fun (u : State) n => u.put64 (MOV_WA_LO_ADDR c n) (u.get64 (MOV_A_LO_ADDR c n))) t
    let v := ((((u.put (MOV_CTR01_CTR0 c) 0).put (MOV_CTR01_CTR1 c) 0).put (MOV_CTR23_CTR2 c) 0).put (MOV_CTR23_CTR3 c)
      0).put (MOV_STAT_STATE c) 1
    let w := v.setChan c { v.chan c with cur := none, waitAt := s.now, startNo := s.mov.starts }
    (w.setMov { w.mov with starts := w.mov.starts + 1 }).setPc c (s.get (MOV_CFG_START_PC c))

/-- The starts that apply at this tick, the lowest channel first (R270, R292). -/
def State.startChans (s : State) : State :=
  ((List.range 32).filter (fun c => (s.chan c).starting)).foldl State.startChan s

/-! ### Group ports (R270 to R272) -/

/-- The group of a channel. -/
def groupOf (c : Nat) : Nat := c / 8

/-- The channel that holds, or was last served by, the port of group `g`. -/
def State.holderOf (s : State) (g : Nat) : Option Nat := (s.mov.holders.find? (fun h => decide (h.1 = g))).map (·.2)

/-- Of two channels the one started first. -/
def State.earlier (s : State) (a b : Nat) : Nat := if (s.chan b).startNo < (s.chan a).startNo then b else a

/-- The running channel of group `g` that was started first (R270). -/
def State.firstStarted (s : State) (g : Nat) : Option Nat :=
  match (List.range 8).filterMap (fun k => if s.chanRuns (8 * g + k) then some (8 * g + k) else none) with
  | [] => none
  | c :: t => some (t.foldl s.earlier c)

/-- Has channel `c` its group's port: always in burst-interleave mode; in run-to-completion mode when it is the holder, or
was started first when there is none (R270, R271). -/
def State.hasPort (s : State) (c : Nat) : Bool :=
  s.cfgOn (MVG_MODE_MODE (groupOf c)) || (match s.holderOf (groupOf c) with
    | some h => decide (h = c)
    | none => decide (s.firstStarted (groupOf c) = some c))

/-- Channel `c` is served: it holds the port, or was the last to. -/
def State.serveChan (s : State) (c : Nat) : State :=
  s.setMov { s.mov with holders := (groupOf c, c) :: s.mov.holders.filter (fun h => decide (h.1 ≠ groupOf c)) }

/-- Channel `c` stands ready, with its port, at an instruction of this kind. -/
def State.canRun (s : State) (c : Nat) (i : MInstr) : Bool := s.atInstr c i && s.hasPort c

/-- Channel `c` goes on to the word `n` behind its present one. -/
def State.skip (s : State) (c n : Nat) : State := s.setPc c ((s.chan c).pc + n)

/-! ### MOVE and SPREAD (R206, R269, R277, R282, R286, R293, R294) -/

/-- A MOVE or SPREAD is fetched and its bursts begin. -/
def State.beginXfer (s : State) (c : Nat) (i : MInstr) : State :=
  if s.canRun c i then
    let t := s.serveChan c
    t.setChan c { t.chan c with cur := some (s.curWord c, s.pmWord ((s.chan c).pc + 1)), issued := 0 }
  else s

/-- Is a line of burst `i` of the transfer a HOST write that the budget holds (R277)? -/
def State.xferHeld (s : State) (c : Nat) (w : BitVec 64) (i : Nat) : Bool :=
  mgmtChan c && s.holding && decide (bits64 w 60 4 = 1 ∧ bits64 w 56 4 ≠ 3) &&
    (List.range (s.burstLine c w (i + 1) - s.burstLine c w i)).any (fun k =>
      match s.moveDst c w (s.burstLine c w i + k) with
      | .inl (.dram n) => s.newResidual (n / 1024)
      | _ => false)

/-- The FCH channel that burst `i` of a SPREAD to FLASH goes to: the column of its cell (R239, R286). -/
def State.burstColumn (s : State) (c : Nat) (w : BitVec 64) (i : Nat) : Option Nat :=
  let dst := s.wa c (bits64 w 48 3)
  if bits64 w 60 4 = 2 ∧ dst / 2 ^ 60 = 3 then some (spreadAt (dst / 4096 % 16) (8 * i)).2.1 else none

/-- Does the next burst of a transfer wait: for room in the buffer of its FCH channel, or as a held HOST write (R239, R277, R293)? -/
def State.burstHeld (s : State) (c : Nat) (w : BitVec 64) : Bool :=
  s.xferHeld c w (s.chan c).issued ||
    (match s.burstColumn c w (s.chan c).issued with
     | some d => decide (256 ≤ s.get (FCH_FILL_BURSTS d))
     | none => false)

/-- Has channel `c` a burst of a MOVE or SPREAD still to issue, on a clocked page? -/
def State.hasBurst (s : State) (c : Nat) : Bool :=
  match (s.chan c).cur with
  | none => false
  | some x => s.chanRuns c && decide ((s.chan c).blocked = none ∧ (s.chan c).issued < s.burstCount c x.1) && !s.gated (0x30 + c)

/-- Bursts that class `k` may issue in this pass: ⌊u × 1,500 / 64⌋ (R269). -/
def State.classBursts (s : State) (k : Nat) : Nat := s.pers.allot.getD (15 + k) 0 * 1500 / 64

/-- Is channel `c` ready for an issue slot, with the classes' bursts `spent` in the pass (R271)? -/
def State.burstReady (s : State) (spent : List Nat) (c : Nat) : Bool :=
  s.hasBurst c && decide ((spent.filter (fun k => decide (k = s.classOfChan c))).length < s.classBursts (s.classOfChan c)) &&
    (match (s.chan c).cur with
     | some x => !s.burstHeld c x.1
     | none => false)

/-- The channel that a group's port served last at a priority level. -/
def State.lastTurn (s : State) (g level : Nat) : Nat :=
  ((s.mov.turns.find? (fun e => decide (e.1 = g ∧ e.2.1 = level))).map (·.2.2)).getD (8 * g + 7)

/-- The channel that takes an issue slot of a group's port: in run-to-completion mode the holder; in burst-interleave mode the highest
priority level with a ready channel, and within it the next in rotating order (R270, R271). -/
def State.pickBurst (s : State) (spent : List Nat) (g : Nat) : Option Nat :=
  if s.cfgOn (MVG_MODE_MODE g) then
    [0, 1, 2, 3].findSome? (fun level =>
      ((List.range 8).map (fun k => 8 * g + (s.lastTurn g level + 1 + k) % 8)).find? (fun c =>
        decide (s.cfg (MOV_CFG_PRIO c) = level) && s.burstReady spent c))
  else ((List.range 8).map (8 * g + ·)).find? (fun c => s.hasPort c && s.burstReady spent c)

/-- An issue slot of a group's port: a channel issues its next burst, which an FCH channel's buffer takes when it goes there (R239, R269 to
R271). -/
def State.issueSlot (a : State × List Nat) (g : Nat) : State × List Nat :=
  let s := a.1
  match s.pickBurst a.2 g with
  | none => a
  | some c =>
    match (s.chan c).cur with
    | none => a
    | some x =>
      let t := match s.burstColumn c x.1 (s.chan c).issued with
        | some d => s.setFill d (s.get (FCH_FILL_BURSTS d) + 1)
        | none => s
      let u := t.setChan c { t.chan c with issued := (t.chan c).issued + 1 }
      let level := s.cfg (MOV_CFG_PRIO c)
      let v := u.serveChan c
      (v.setMov { v.mov with turns := (g, level, c) :: v.mov.turns.filter (fun e => !decide (e.1 = g ∧ e.2.1 = level)) },
        s.classOfChan c :: a.2)

/-- Up to `n` issue slots of the four ports, as long as a burst can be issued. -/
def State.issueSlots : Nat → State × List Nat → State × List Nat
  | 0, a => a
  | n + 1, a =>
    let b := [0, 1, 2, 3].foldl State.issueSlot a
    if b.2.length = a.2.length then a else State.issueSlots n b

/-- A channel whose next burst waits is HELD, until the cause clears (R293). -/
def State.markHeld (s : State) (c : Nat) : State :=
  match (s.chan c).cur with
  | none => s
  | some x => if s.hasBurst c then s.put (MOV_STAT_STATE c) (if s.burstHeld c x.1 then 3 else 1) else s

/-- The bursts of a pass: up to 375 of each port, one every 8 fabric cycles (R269, R271). DESIGN CHOICE, log 84. -/
def State.moverTick (s : State) : State :=
  if s.mov.chans.any (fun e => e.2.cur.isSome) then
    (s.mov.chans.map (·.1)).foldl State.markHeld (State.issueSlots 375 (s, [])).1
  else s

/-- The increments at the end of a MOVE or SPREAD, whole or at a bus error (R281, R282, R285). -/
def State.increments (s : State) (c : Nat) (w : BitVec 64) : State :=
  let src := bits64 w 51 3
  let dst := bits64 w 48 3
  if bits64 w 60 4 = 1 then
    let by' := bits64 w 24 20 * 64
    let t := if bits64 w 47 1 = 1 then s.put64 (MOV_WA_LO_ADDR c src) ((s.wa c src + by') % 2 ^ 64) else s
    if bits64 w 46 1 = 1 then t.put64 (MOV_WA_LO_ADDR c dst) ((t.wa c dst + by') % 2 ^ 64) else t
  else if bits64 w 46 1 = 1 then
    let a := s.wa c dst
    s.put64 (MOV_WA_LO_ADDR c dst) (a / 65536 * 65536 + (a / 4096 % 16 + bits64 w 35 5) % 16 * 4096 + a % 4096)
  else s

/-- The address of a failing burst: its source for a source line or a miscompare, else the end that fails (R294). -/
def State.failAddr (s : State) (c : Nat) (w : BitVec 64) (k : Nat) : Nat :=
  let src := s.wa c (bits64 w 51 3)
  let dst := s.wa c (bits64 w 48 3)
  if bits64 w 60 4 = 1 then
    match s.locate c src k true, s.locate c dst k (decide (bits64 w 56 4 = 3)) with
    | .inl _, .inr _ => (dst / 64 + k) * 64
    | _, _ => (src / 64 + k) * 64
  else dst / 64 * 64

/-- STATUS of word `pc` takes BAD and an ECAUSE; of two channels that write it in one cycle the lower-numbered one's stays: a free bit says
whether a write of this pass by another channel lay in the same cycle (R284). DESIGN CHOICE, log 61. -/
def State.setStatus (s : State) (c pc e : Nat) : State :=
  let word := BitVec.ofNat 64 ((s.pmWord pc).toNat / 256 * 256 + 128 + e % 16)
  let t := s.setMov { s.mov with statusBy := (pc, c) :: (if s.mov.statusAt = s.now then s.mov.statusBy else []), statusAt := s.now }
  match if s.mov.statusAt = s.now then s.mov.statusBy.find? (fun x => decide (x.1 = pc ∧ x.2 < c)) else none with
  | none => t.setPm pc word
  | some _ => if s.free % 2 = 1 then s.drawn else t.drawn.setPm pc word

/-- A bus error at line `k` with an ECAUSE: STATUS, MOV_BERR, the count, the cause and the fault (R284, R294). -/
def State.busError (s : State) (c : Nat) (w : BitVec 64) (k e : Nat) : State :=
  let pc := (s.chan c).pc
  let a := s.failAddr c w (s.xferBurst c w k)
  let t := s.setStatus c pc e
  let u := ((((t.put (MOV_BERR_PC c) pc).put (MOV_BERR_ECAUSE c) e).put (MOV_BERR_VALID c) 1).put64 (MOV_BERR_ADDR_LO_ADDR c)
    a).bump (MOV_BERRCNT_COUNT c)
  (u.raiseInt (0x30 + c) 2).raiseFault (0x30 + c) 1 7 0

/-- The transfer in progress ends, once its bursts have been issued: whole, or at the first line at which its addresses and data, or the
environment's engines (`err`: the line and ECAUSE 0x5, 0x6 or 0x8), fail (R282 to R286, R294). -/
def State.transferDone (s : State) (c : Nat) (err : Option (Nat × Nat)) : State :=
  match (s.chan c).cur with
  | none => s
  | some x =>
    let (w, v) := x
    let n := xferLen w
    if s.gated (0x30 + c) then s
    else
      let own := s.firstErr c w v n
      let first : Option (Nat × Nat) := match own, err with
        | none, e => if (e.map (·.1)).getD n < n then e else none
        | o, none => o
        | some a, some b => if b.1 < a.1 then some b else some a
      let last := match first with
        | none => n
        | some e => e.1 + 1
      let t := match first with
        | none => s.xfer c w v n
        | some e => (s.xfer c w v (s.xferBurst c w e.1)).busError c w e.1 e.2
      let u := t.increments c w
      let words := if bits64 w 60 4 = 1 then 1 else 2
      if s.issuedLines c w < last then s
      else ((u.setChan c { u.chan c with cur := none, issued := 0 }).put (MOV_STAT_STATE c) 1).skip c words

/-! ### LOOP, SIGNAL, HALT, NOP (R279, R280, R287, R290) -/

/-- Loop counter `n` of a channel. -/
def ctrOf (c n : Nat) : Fld :=
  if n = 0 then MOV_CTR01_CTR0 c else if n = 1 then MOV_CTR01_CTR1 c else if n = 2 then MOV_CTR23_CTR2 c else MOV_CTR23_CTR3 c

/-- LOOP: COUNT 0 means 65,536; a branch to before word 0 lies outside program memory (R280, R287). -/
def State.movLoop (s : State) (c : Nat) : State :=
  if s.canRun c .loop then
    let w := s.curWord c
    let f := ctrOf c (bits64 w 56 2)
    let old := s.get f
    let new := if old = 0 then (bits64 w 40 16 + 65535) % 65536 else old - 1
    let pc := (s.chan c).pc
    let disp := bits64 w 0 16
    let t := s.put f new
    if new ≠ 0 then t.setPc c (if disp ≤ pc then pc - disp else 0x10000 + (pc + 0x10000 - disp)) else t.setPc c (pc + 1)
  else s

/-- A Strait event reaches the channels that wait for it (R288, R373). -/
def State.strtEvent (s : State) (n : Nat) : State :=
  let l := (List.range 32).filter (fun c => decide (s.get (MOV_STAT_STATE c) = 2) && decide (bits64 (s.curWord c) 56 4 = 2)
    && decide (bits64 (s.curWord c) 40 8 = n))
  s.setMov { s.mov with events := s.mov.events ++ l.map (fun c => (c, n)) }

/-- SIGNAL: the four acts in their order (R290). -/
def State.movSignal (s : State) (c cycle : Nat) : State :=
  if s.canRun c .signal then
    let w := s.curWord c
    let code := bits64 w 0 32
    let a := if bits64 w 56 1 = 1 then
        s.put MVG_FLAGS_FLAGS (BitVec.ofNat 32 (s.get MVG_FLAGS_FLAGS) ||| BitVec.ofNat 32 (2 ^ bits64 w 48 5)).toNat else s
    let b := if bits64 w 57 1 = 1 then (a.put (MOV_SIGCODE_CODE c) code).raiseInt (0x30 + c) 1 else a
    let d := if bits64 w 58 1 = 1 then (b.sendFrame 0x40 none [BitVec.ofNat 8 (bits64 w 40 8)]).strtEvent (bits64 w 40 8) else b
    let e := if bits64 w 59 1 = 1 then d.produce (d.movRec c 1 0 code cycle) else d
    e.skip c 1
  else s

/-- HALT: the record, and IDLE once it is accepted (R280). -/
def State.movHalt (s : State) (c cycle : Nat) : State :=
  if s.canRun c .halt then
    let t := s.produce (s.movRec c 0 0 (bits64 (s.curWord c) 0 32) cycle)
    if (t.chan c).blocked.isSome then t else (t.put (MOV_STAT_STATE c) 0).freePort c
  else s

/-- NOP: the channel goes on (R279). -/
def State.movNop (s : State) (c : Nat) : State := if s.canRun c .nop then s.skip c 1 else s

/-! ### Words that abort (R275, R279, R280) -/

/-- An illegal word, or a breach of the restrictions of channels 28 to 31 (R279, R291). -/
def State.movIllegal (s : State) (c cycle : Nat) : State :=
  if s.canRun c .illegal then (s.abortAfter c 5 0 cycle).raiseFault (0x30 + c) 2 7 0 else s

/-- A fetch out of range (R280). -/
def State.movPcRange (s : State) (c cycle : Nat) : State :=
  if decide (c < 32) && s.chanReady c && decide (s.nextInstr c = none) && s.hasPort c then s.abortAfter c 6 0 cycle else s

/-- A fetch that meets an uncorrectable error (R275). -/
def State.movPmUe (s : State) (c cycle : Nat) : State :=
  if decide (c < 32) && s.chanReady c && s.hasPort c then
    (s.abortAfter c 8 0 cycle).raiseFaultAt (0x30 + c) 0 7 0 cycle false
  else s

/-! ### WAIT (R288, R289) -/

/-- WAIT is fetched; what it waits for counts from now. -/
def State.movWait (s : State) (c : Nat) : State :=
  if s.canRun c .wait then
    let t := (s.setChan c { s.chan c with waitAt := s.now }).put (MOV_STAT_STATE c) 2
    t.setMov { t.mov with events := t.mov.events.filter (fun e => decide (e.1 ≠ c)) }
  else s

/-- FULL of channel `n` as the movers see it: the clamp of a switched-off ONFI domain holds it at 1 (R239, R529). -/
def State.seesFull (s : State) (n : Nat) : Bool := s.flag (FCH_FILL_FULL n) || !s.powered (0x60 + n)

/-- Does the condition of the WAIT in progress hold (R288)? -/
def State.waitHolds (s : State) (c : Nat) : Bool :=
  let w := s.curWord c
  if bits64 w 56 4 = 0 then (List.range 16).all (fun n => !bitOf (bits64 w 40 16) n || !s.seesFull n)
  else if bits64 w 56 4 = 1 then decide ((s.chan c).waitAt + bits64 w 40 16 ≤ s.now)
  else if bits64 w 56 4 = 2 then s.mov.events.any (fun e => decide (e.1 = c ∧ e.2 = bits64 w 40 8))
  else bitOf (s.get MVG_FLAGS_FLAGS) (bits64 w 40 5)

/-- Has the WAIT's timeout run (R289)? -/
def State.waitExpired (s : State) (c : Nat) : Bool :=
  decide (bits64 (s.curWord c) 16 16 ≠ 0 ∧ (s.chan c).waitAt + bits64 (s.curWord c) 16 16 ≤ s.now)

/-- Does channel `c` wait, on a clocked page? -/
def State.waits (s : State) (c : Nat) : Bool := decide (c < 32 ∧ s.get (MOV_STAT_STATE c) = 2) && !s.gated (0x30 + c)

/-- The WAIT ends: a FLAG wait with CLR clears its flag; an end in the cycle of the timeout counts in LATE_OK (R289). -/
def State.waitEnd (s : State) (c : Nat) : State :=
  if s.waits c && s.waitHolds c then
    let w := s.curWord c
    let t := if bits64 w 56 4 = 3 ∧ bits64 w 39 1 = 1 then
        s.put MVG_FLAGS_FLAGS (s.get MVG_FLAGS_FLAGS - 2 ^ bits64 w 40 5) else s
    let u := if s.waitExpired c then t.lateOk (0x30 + c) else t
    let v := u.setMov { u.mov with events := u.mov.events.filter (fun e => decide (e.1 ≠ c)) }
    (v.put (MOV_STAT_STATE c) 1).skip c 1
  else s

/-- TMO passes without the condition (R289). -/
def State.waitTimeout (s : State) (c cycle : Nat) : State :=
  if s.waits c && s.waitExpired c && !s.waitHolds c then s.abortAfter c 7 0 cycle else s

/-! ### The collector (R297, R298, R300) -/

/-- Has the record's destination room: Glen firmware takes every record, the management ring holds 16 (R298)? -/
def State.drains (s : State) (c : Nat) : Bool := (s.chan c).slot.isSome && (!mgmtChan c || decide (s.mov.ring.length < 16))

/-- The next slot to drain, in rotating order after the channel drained last. -/
def State.nextDrain (s : State) : Option Nat :=
  ((List.range 32).map (fun k => (s.mov.drained + 1 + k) % 32)).find? s.drains

/-- The record that waited for a slot enters it, at this cycle (R293, R297). -/
def State.unblock (s : State) (c cycle : Nat) : State :=
  match (s.chan c).blocked with
  | none => s
  | some r =>
    let t := s.enterSlot { r with pass := s.pass32, cycle := cycle % 3000 }
    if s.get (MOV_STAT_STATE c) ≠ 3 then t
    else if r.kind = 0 then (t.put (MOV_STAT_STATE c) 0).freePort c
    else t.put (MOV_STAT_STATE c) 1

/-- The collector drains one slot (R298). -/
def State.collect (s : State) (cycle : Nat) : State :=
  match s.nextDrain with
  | none => s
  | some c =>
    match (s.chan c).slot with
    | none => s
    | some r =>
      let t := (s.setChan c { s.chan c with slot := none }).setMov
        { (s.setChan c { s.chan c with slot := none }).mov with drained := c }
      let u := if mgmtChan c then
          let v := t.setMov { t.mov with ring := t.mov.ring ++ [r] }
          if v.mov.ring.length = 16 then v.raiseInt 0xB7 1 else v
        else t.send (.moverRecord r.words)
      u.unblock c cycle

/-- Any write of MVG_CPOP removes the head record of the ring (R300). -/
def State.ringPop (s : State) : State := s.setMov { s.mov with ring := s.mov.ring.drop 1 }

/-! ### Program memory through the window (R273, R274) -/

/-- May this port write word `i`; may it read it as stored (R273)? -/
def pmAllowed (p : Port) (i : Nat) : Bool := decide (p = .glen) || decide (0xF000 ≤ i)

/-- MVG_PM_ADDR moves on; the spec does not say what follows word 0xFFFF, so the register's 16 bits wrap. -/
def State.pmNext (s : State) : State := s.put MVG_PM_ADDR_WORD ((s.get MVG_PM_ADDR_WORD + 1) % 65536)

/-- What a read of the window's word returns to a port. -/
def State.pmSeen (s : State) (p : Port) : Nat :=
  if pmAllowed p (s.get MVG_PM_ADDR_WORD) then (s.pmWord (s.get MVG_PM_ADDR_WORD)).toNat else 0

/-- A stored write of MVG_PM_DATA_HI by a port that may write the word. -/
def State.pmStore (s : State) (hi : Nat) : State :=
  (s.setPm (s.get MVG_PM_ADDR_WORD) (BitVec.ofNat 64 (hi * 2 ^ 32 + s.get MVG_PM_DATA_LO_LO))).pmNext

/-! ### Pre-emption of bank 14 (R296) -/

/-- Channels 28 to 31 with a STAGE address in a working register abort when RSTR takes bank 14 (R296). -/
def State.preemptMovers (s : State) : State :=
  ((List.range 4).map (28 + ·)).foldl (fun (t : State) c =>
    if t.chanRuns c && (List.range 8).any (fun n => decide (t.wa c n / 2 ^ 60 = 2)) then t.abortChan c 3 else t) s

end Sys2Proof.Machine
end

