-- ==== Sys2Proof/Machine/Dramc.lean ====
section
/-! DEFINITION. The DRAM controllers' steps (R305 to R335): what a read's outcome does by requester, repairs, refresh,
power-down, idle rows, CA alerts and in-place retrains, training, and the training pattern engine DTRN. -/

namespace Sys2Proof.Machine

/-! ### Read outcomes (R320 to R325) -/

/-- The device marked failed for the logical rank of a line, whose symbols the decoder treats as erasures (R322). -/
def State.erasedDevice (s : State) (line : Nat) : Option Nat :=
  let l := dramLoc s.mdl.lrb line
  if s.flag (DSC_DEVFAIL_VALID l.sc l.lrank) then some (s.get (DSC_DEVFAIL_DEVICE l.sc l.lrank)) else none

/-- What the read of a line gives: one found UE reads UE until it is written; errors beyond the code read UE, and a line stored poisoned
reads POISON where its symbols are within it (R320 to R322, R325). -/
def State.outcomeOf (s : State) (line : Nat) (o : ReadOutcome) : ReadOutcome :=
  if (s.dramLine line).ue then .ue
  else
    match o with
    | .ue => .ue
    | .corrected l w =>
      if correctable (s.erasedDevice line) l then (if (s.dramLine line).poison then .poison else .corrected l w) else .ue
    | _ => if (s.dramLine line).poison then .poison else .clean

/-- The key of a device's corrections in a logical rank of a subchannel. -/
def devKey (sc lrank device : Nat) : Nat := (sc * 16 + lrank) * 10 + device

/-- A device reaches DEV_FAIL_CNT within a scrub round: it is marked failed for the rank (R322). -/
def State.devFailed (s : State) (sc lrank device : Nat) : State :=
  let n := Sparse.get (fun _ => 0) s.drc.devCorr (devKey sc lrank device)
  if s.cfgOn (DSC_CFG_ERASE_EN sc) && decide (s.cfg (DSC_CFG_DEV_FAIL_CNT sc) ≤ n) && !s.flag (DSC_DEVFAIL_VALID sc lrank) then
    let t := (s.put (DSC_DEVFAIL_VALID sc lrank) 1).put (DSC_DEVFAIL_DEVICE sc lrank) device
    let u := (t.store (DSC_DEVFAIL_VALID sc lrank) 1).store (DSC_DEVFAIL_DEVICE sc lrank) device
    (((u.needsCare).cxlEvent .deviceFailed 0).raiseInt (0xB0 + sc) 1).raiseFault (0xB0 + sc) 2 7 0
  else s

/-- Counts a correction on one device (R322, R334). -/
def State.countDevice (s : State) (line device : Nat) : State :=
  let sc := dscOf line
  let k := devKey sc (dramLoc s.mdl.lrb line).lrank device
  let t := s.bump (DSC_DEVCE_COUNT sc device)
  (t.setDrc { t.drc with devCorr := Sparse.set (fun _ => 0) t.drc.devCorr k (Sparse.get (fun _ => 0) t.drc.devCorr k + 1) }).devFailed
    sc (dramLoc s.mdl.lrb line).lrank device

/-- A line reads CORRECTED: counted, recorded, and written back unless a write has been accepted since (R320, R322, R324). -/
def State.readCorrected (s : State) (line : Nat) (r : Requester) (syms : List Nat) (written : Bool) : State :=
  let sc := dscOf line
  let device := oneDevice syms
  let t := ((s.bump64 (DSC_CE_LO_COUNT sc)).dscErr line r false false (device.getD 0xF) syms.length).raiseFault (0xB0 + sc) 0 7 0
  let u := match device with
    | none => t
    | some d => t.countDevice line d
  if written then u else u.drcWrite .free line 2

/-- An islet with a UE line found by the scrub joins the marked-islet list (R538). -/
def State.markIslet (s : State) (i : Nat) : State :=
  if s.dscr.marks.length < 256 then (s.setDscr { s.dscr with marks := s.dscr.marks ++ [i] }).raiseInt 0x5C 2
  else s.bump DSCR_MOVF_COUNT

/-- A repair is requested for a UE line of an islet that is DURABLE or ZERO (R325). -/
def State.requestRepair (s : State) (line : Nat) : State :=
  let st := (s.recOf (line / 1024)).st
  if line < s.mdl.hostLines ∧ (st = .durable ∨ st = .zero) ∧ ¬ s.drc.repairs.contains line then
    s.setDrc { s.drc with repairs := s.drc.repairs ++ [line] }
  else s

/-- A line reads UE (R323, R361): the fault and its cause for every requester but the scrub, which rewrites the line
poisoned and marks its islet; an event for the host path and for movers (R294). -/
def State.readUe (s : State) (line : Nat) (r : Requester) (record : Nat) : State :=
  let sc := dscOf line
  let l := s.dramLine line
  let t := ((s.setLine line { l with ue := true }).bump (DSC_UE_COUNT sc)).dscErr line r true false 0xF 0
  let ev := fun (u : State) => u.event .dramRead 0xB0 [line * 64 % 2 ^ 32, line * 64 / 2 ^ 32, r.code, 3]
  let raise' := fun (u : State) => (u.raiseInt (0xB0 + sc) 0).raiseFault (0xB0 + sc) 1 7 0
  match r with
  | .host => ((raise' (ev t)).cxlEvent .dramUe (line * 64)).requestRepair line
  | .mover => raise' (ev t)
  | .dscr =>
    (((((t.setLine line ⟨l.data, true, false⟩).drcWrite .free line 2).markPoison [line] 1).markIslet (line / 1024)).cxlEvent .dramUe
      (line * 64)).requestRepair line
  | .pers => (raise' t).recordLost record
  | .dtrn => s
  | _ => raise' t

/-- A DRAM line read ends (R320, R323); `record` is the islet whose record a PERS read was for (R95). -/
def State.dramReadDone (s : State) (line : Nat) (r : Requester) (o : ReadOutcome) (record : Nat) : State :=
  if r = .dtrn then s
  else
    match s.outcomeOf line o with
    | .clean => s
    | .corrected l w => s.readCorrected line r l w
    | .poison => if r = .pers then (s.readPoison line r).recordLost record else s.readPoison line r
    | .ue => s.readUe line r record

/-- The line a repair writes: zeros for ZERO, the line of the newest sealed copy for DURABLE (R325). -/
def State.repairLine (s : State) (line : Nat) : Line :=
  if (s.recOf (line / 1024)).st = .zero then zeroLine
  else
    match s.newest (line / 1024) with
    | none => zeroLine
    | some c =>
      match c.kind with
      | .zero => zeroLine
      | .poison => poisonLine
      | .data => ((c.lines.find? (fun e => decide (e.1 = line % 1024))).map (·.2)).getD zeroLine

/-- Glen firmware's repair of a line is accepted, or dropped when the islet is no longer DURABLE or ZERO (R325). -/
def State.repairWrite (s : State) (line : Nat) : State :=
  if s.drc.repairs.contains line then
    let t := s.setDrc { s.drc with repairs := dropNat s.drc.repairs line }
    let st := (s.recOf (line / 1024)).st
    if st = .durable ∨ st = .zero then
      ((t.drcWrite .free line 2).setLine line (s.repairLine line)).bump (DSC_REPAIR_DONE (dscOf line))
    else t.bump (DSC_REPAIR_DROPPED (dscOf line))
  else s

/-! ### Refresh and power-down (R314 to R317) -/

/-- The key of a logical rank of a subchannel. -/
def rankKey (sc lrank : Nat) : Nat := sc * 16 + lrank

/-- Refreshes a logical rank owes (R315). -/
def State.owedBy (s : State) (sc lrank : Nat) : Nat := Sparse.get (fun _ => 0) s.drc.owed (rankKey sc lrank)

/-- Sets what a logical rank owes. -/
def State.setOwed (s : State) (sc lrank n : Nat) : State :=
  s.setDrc { s.drc with owed := Sparse.set (fun _ => 0) s.drc.owed (rankKey sc lrank) n }

/-- Every row of a logical rank closes, as a refresh or power-down closes it (R309). -/
def State.closeRank (s : State) (sc lrank : Nat) : State :=
  s.setDrc { s.drc with rows := s.drc.rows.filter (fun e => decide (e.1 / 32 ≠ rankKey sc lrank)) }

/-- The refreshes a rank may owe: 4 in normal mode, 8 in FGR mode (R315). -/
def State.oweLimit (s : State) (d : Nat) : Nat := if s.drc.fgr.contains d then 8 else 4

/-- Has a logical rank a request in its bank queues (R305, R315)? -/
def State.rankQueued (s : State) (sc lrank : Nat) : Bool :=
  s.drc.queue.any (fun x => decide ((dramLoc s.mdl.lrb x.line).sc = sc ∧ (dramLoc s.mdl.lrb x.line).lrank = lrank))

/-- Everything a logical rank owes is refreshed, which closes its rows and adjusts its write delays when they are due (R309, R315, R543). -/
def State.payRank (s : State) (sc lrank : Nat) : State :=
  ((s.setOwed sc lrank 0).closeRank sc lrank).setUpk { s.upk with dqDue := dropNat s.upk.dqDue (rankKey sc lrank) }

/-- A rank's tREFI elapses: the refresh is postponed while requests are queued for it, forced at the limit, or issued with
everything owed (R314, R315). A subchannel stopped by a CA alert issues none and owes it; in a retrain the ranks refresh themselves
(R326, R327). -/
def State.refreshDue (s : State) (sc lrank : Nat) (held : Bool) : State :=
  let d := sc / 2
  let n := s.owedBy sc lrank + 1
  let queued := held || s.rankQueued sc lrank
  if s.drc.retraining.contains sc then s
  else if s.drc.stopped.contains sc then s.setOwed sc lrank n
  else if queued && s.cfgOn (DRC_REF_POSTPONE_EN d) && decide (n ≤ s.oweLimit d) then
    let t := (s.setOwed sc lrank n).bump (DRC_REF_PP_COUNT d)
    t.put (DRC_STAT_DEBT_MAX d) (max (t.get (DRC_STAT_DEBT_MAX d)) n)
  else
    let t := s.payRank sc lrank
    if queued && s.cfgOn (DRC_REF_POSTPONE_EN d) then t.bump (DRC_REF_FORCED_COUNT d) else t

/-- MR4 of every logical rank of a DRC is read: whether some rank reports a doubled refresh rate (R314). -/
def State.mr4Poll (s : State) (d : Nat) (doubled : Bool) : State := s.put (DRC_STAT_RATE2X d) (b2n doubled)

/-- The logical ranks of physical rank `r` of a DRC, over its subchannels. -/
def State.ranksOf (s : State) (d r : Nat) : List (Nat × Nat) :=
  [2 * d, 2 * d + 1].flatMap (fun sc => ((List.range 16).filter (fun l =>
    decide ((if s.mdl.rank2 then l / 2 ^ s.mdl.height else 0) = r))).map (fun l => (sc, l)))

/-- PDTIME passes idle: the rank enters power-down, unless a request arrives in that cycle (R316, R317). -/
def State.powerDown (s : State) (d r : Nat) (late : Bool) : State :=
  if s.cfgOn (DRC_PD_EN d) && !s.saving && decide (r < 2) && !bitOf (s.get (DRC_STAT_PD_RANKS d)) r
      && (s.ranksOf d r).all (fun e => decide (s.owedBy e.1 e.2 = 0) && !s.rankQueued e.1 e.2) then
    if late then s.lateOk (0x50 + 4 * d)
    else
      ((s.ranksOf d r).foldl (fun (t : State) e => t.closeRank e.1 e.2)
        (s.put (DRC_STAT_PD_RANKS d) (s.get (DRC_STAT_PD_RANKS d) + 2 ^ r))).bump (DRC_PD_ENTRY_COUNT d)
  else s

/-! ### The command slots of a subchannel (R306 to R308) -/

/-- Are the units of a request's class spent, so that it is skipped until the next tick (R308)? DESIGN CHOICE, log 85. -/
def State.classSpent (s : State) (c : DramClass) : Bool :=
  match c with
  | .share k => decide (s.pers.allot.getD k 0 = 0)
  | _ => false

/-- The command of the next command slot of a subchannel (R306). -/
def State.nextSlot (s : State) (sc : Nat) : Option SlotCmd :=
  let ranks := List.range (2 ^ s.mdl.lrb)
  let limit := if s.cfgOn (DRC_REF_POSTPONE_EN (sc / 2)) then s.oweLimit (sc / 2) else 0
  slotPick (fun l => decide (Sparse.get (fun _ => 0) s.drc.rows l.bank = l.row + 1)) (Sparse.get (fun _ => 0) s.drc.lastBg sc)
    (ranks.filter (fun r => decide (limit < s.owedBy sc r))) (ranks.filter (fun r => decide (0 < s.owedBy sc r))) s.classSpent
    ((s.drc.queue.map (fun x => (x, dramLoc s.mdl.lrb x.line))).filter (fun e => decide (e.2.sc = sc)))

/-- A command slot of a subchannel is used. -/
def State.useSlot (s : State) (sc : Nat) (c : SlotCmd) : State :=
  match c with
  | .refresh r => s.payRank sc r
  | .activate x => (s.wakeRank x.line).openRow x.line
  | .serve x => (s.setDrc { s.drc with queue := s.drc.queue.erase x }).serveReq x

/-- Up to `n` command slots of a subchannel, as long as there is something to issue. -/
def State.runSlots (sc : Nat) : Nat → State → State
  | 0, s => s
  | n + 1, s =>
    match s.nextSlot sc with
    | none => s
    | some c => State.runSlots sc n (s.useSlot sc c)

/-- The queued requests of a subchannel proceed, when it is not halted (R306, R327). -/
def State.drainQueue (s : State) (sc : Nat) : State :=
  if s.halted sc || s.drc.queue.all (fun x => decide (dscOf x.line ≠ sc)) then s
  else State.runSlots sc (3 * s.drc.queue.length + 16) s

/-! ### CA alerts and in-place retrains (R326, R327) -/

/-- An RCD reports a CA parity error: the subchannel stops issuing; the third in one pass is a storm (R326). -/
def State.caAlert (s : State) (sc : Nat) : State :=
  let d := sc / 2
  let l := (s.drc.alerts.filter (fun e => decide (e.2 = s.now))) ++ [(sc, s.now)]
  let n := (l.filter (fun e => decide (e.1 = sc))).length
  let t := s.setDrc { s.drc with alerts := l, stopped := insertNat s.drc.stopped sc }
  let u := (t.raiseInt (0x50 + 4 * d) 0).raiseFault (0x50 + 4 * d) 1 7 0
  if n = 3 then (u.setDrc { u.drc with storm := insertNat u.drc.storm sc }).raiseFault (0x50 + 4 * d) 2 7 0 else u

/-- The RCD clears its alert: the commands are issued again, or a storm retrains the subchannel, though never during a save
(R326, R327). -/
def State.caClear (s : State) (sc : Nat) : State :=
  if s.drc.stopped.contains sc then
    let t := s.setDrc { s.drc with stopped := dropNat s.drc.stopped sc }
    if t.drc.storm.contains sc && !t.saving then
      let u := (List.range 16).foldl (fun (u : State) l => (u.setOwed sc l 0).closeRank sc l) t
      u.setDrc { u.drc with storm := dropNat u.drc.storm sc, retraining := insertNat u.drc.retraining sc }
    else t.drainQueue sc
  else s

/-- An in-place retrain completes, with its margin check (R327). -/
def State.retrainDone (s : State) (sc : Nat) (margin : Bool) : State :=
  if s.drc.retraining.contains sc then
    let t := s.setDrc { s.drc with retraining := dropNat s.drc.retraining sc }
    if margin then t.drainQueue sc else (t.drainQueue sc).raiseInt (0x50 + 4 * (sc / 2)) 1
  else s

/-! ### DTRN (R331, R335) -/

/-- Does DTRN refuse its target: no line, or a logical rank beyond the module's (R331, R335)? -/
def State.dtrnRefused (s : State) : Bool :=
  decide (s.get DTRN_TGT_LINES = 0 ∨ 128 < s.get DTRN_TGT_LINES ∨ 2 ^ s.mdl.lrb ≤ s.get DTRN_TGT_LRANK)

/-- A write of DTRN_CMD.GO (R331, R335). -/
def State.dtrnGo (s : State) : State :=
  if s.flag DTRN_STAT_BUSY then s
  else if s.dtrnRefused then s.put DTRN_STAT_AREA_REFUSED 1
  else
    ((((s.setDrc { s.drc with dtrnStop := false }).put DTRN_STAT_BUSY 1).put DTRN_LANE0_ERR 0).put DTRN_LANE1_ERR 0).put
      DTRN_BITERR_COUNT 0

/-- A write of DTRN_CMD.STOP: the operation stops after the current line (R335). DESIGN CHOICE, log 27. -/
def State.dtrnHalt (s : State) : State :=
  if s.flag DTRN_STAT_BUSY then s.setDrc { s.drc with dtrnStop := true } else s

/-- An operation ends: the lanes that miscompared and the bit mismatches are the DRAM's own; a write compares nothing
(R335). -/
def State.dtrnDone (s : State) (lanes bits : Nat) : State :=
  if s.flag DTRN_STAT_BUSY then
    let t := ((s.put DTRN_STAT_BUSY 0).put DTRN_STAT_DONE 1).setDrc { s.drc with dtrnStop := false }
    let u := if s.get DTRN_CMD_OP = 0 then t
      else ((t.put DTRN_LANE0_ERR (lanes % 2 ^ 32)).put DTRN_LANE1_ERR (lanes / 2 ^ 32 % 256)).put DTRN_BITERR_COUNT
        (min bits (2 ^ 32 - 1))
    u.raiseInt 0x58 0
  else s

end Sys2Proof.Machine
end

