-- ==== Sys2Proof/Machine/Start.lean ====
section
/-! DEFINITION. Clocks and the steps of a start (R389 to R407, R328, R329, R438, R442, R513, R514, R517). -/

namespace Sys2Proof.Machine

/-- A TYPE 0x02 event whose block and number a chapter assigns (R438, R518). -/
def State.eventNo (s : State) (block code : Nat) (detail : List Nat) : State :=
  s.recEvent ⟨2, block, code, 0, false, false, detail.map (BitVec.ofNat 32)⟩

/-- Microseconds since tp or tw, in the 24 bits of the start-time registers (R410). -/
def State.sinceStart (s : State) : Nat := (s.now - s.rst.startedAt) % 2 ^ 24

/-- Does the start in progress go on: no save has stopped it, and no wipe runs before it (R122, R476)? -/
def State.startsOn (s : State) : Bool :=
  !s.saving && !s.save.ended && !s.save.failed && !s.flag ATOL_PROT_WIPING

/-! ### Clocks (R389 to R392, R408, R409) -/

/-- The clock domains (R389). -/
inductive ClockDomain where
  | fabric | glen | regBus | alwaysOn | reference | hostLane (n : Nat) | hostCore | ddrController (sc : Nat) | ddrStrobe (sc group : Nat)
  | onfi (channel : Nat) | localBus | sideband | service | jtag | straitTx | straitRx
  deriving DecidableEq, Repr

/-- The 60 clock domains, and no others (R389). -/
def clockDomains : List ClockDomain :=
  [.fabric, .glen, .regBus, .alwaysOn, .reference, .hostCore, .localBus, .sideband, .service, .jtag, .straitTx, .straitRx]
  ++ (List.range 16).map .hostLane ++ (List.range 4).map .ddrController
  ++ (List.range 4).flatMap (fun sc => (List.range 3).map (.ddrStrobe sc)) ++ (List.range 16).map .onfi

/-- The PLL a domain's clock comes from: 0 F, 1 H, 2 D0, 3 D1, 4 N, 5 S; the others are inputs or recovered clocks (R389, R390). -/
def ClockDomain.pll : ClockDomain → Option Nat
  | .fabric => some 0
  | .glen => some 0
  | .regBus => some 0
  | .hostCore => some 1
  | .ddrController sc => some (2 + sc / 2)
  | .onfi _ => some 4
  | .straitTx => some 5
  | _ => none

/-- The time in µs in which a PLL locks, from its input and its enable (R390). -/
def pllLockUs (k : Nat) : Nat := if k = 1 ∨ k = 5 then 200 else 100

/-- A mask of six PLL bits with bit `k` set or cleared: 0 F, 1 H, 2 D0, 3 D1, 4 N, 5 S. -/
def setBitTo (m k : Nat) (on : Bool) : Nat :=
  if bitOf m k then (if on then m else m - 2 ^ k) else (if on then m + 2 ^ k else m)

/-- Is PLL `k` locked? -/
def State.locked (s : State) (k : Nat) : Bool := bitOf (s.get CLK_STAT_LOCK) k

/-- The link counts and reports a link down (R363), and everything that goes with it (R43). -/
def State.linkLost (s : State) : State :=
  if s.hlk.linkUp then ((s.dropLink).bump HLK_LINKDN_COUNT).raiseInt 0x10 1 else s

/-- A PLL that was lost has relocked: its block's work resumes (R409). -/
def State.unstall (s : State) (k : Nat) : State :=
  if s.rst.stalled.contains k then
    let t := s.setRst { s.rst with stalled := dropNat s.rst.stalled k }
    if k = 2 then (t.drainQueue 0).drainQueue 1 else if k = 3 then (t.drainQueue 2).drainQueue 3 else t
  else s

/-- PLL `k` locks: from REFCLK while REF_OK is 1, else from CLK25_IN; PLL H has no other input than REFCLK. The lock of
PLL F ends step 3 of a cold start and step 2 of a warm one (R390, R391, R400, R406). -/
def State.pllLock (s : State) (k : Nat) : State :=
  if s.rst.phase = .off ∨ 6 ≤ k ∨ s.locked k = true ∨ (k = 1 ∧ s.flag CLK_STAT_REF_OK = false) then s
  else
    let l := (s.put CLK_STAT_LOCK (setBitTo (s.get CLK_STAT_LOCK) k true)).put CLK_STAT_ON_AON
      (setBitTo (s.get CLK_STAT_ON_AON) k (!s.flag CLK_STAT_REF_OK))
    let t := l.unstall k
    if k = 0 ∧ s.rst.phase ≠ .active then
      (t.put RST_T_PLL_US_US t.sinceStart).setRst { t.rst with aliveRun := t.rst.aliveRun || (decide (t.get RST_STAT_START = 1) && !t.flag FLT_SAFE_SAFE) }
    else t

/-- REFCLK shows no edge for 1 µs: REF_OK falls, the PLLs move to CLK25_IN, and PLL H stops, so that the link is down
(R391). -/
def State.refLoss (s : State) : State :=
  if s.flag CLK_STAT_REF_OK then
    let lock := setBitTo (s.get CLK_STAT_LOCK) 1 false
    let t := (((s.put CLK_STAT_REF_OK 0).bump CLK_REF_LOSS_COUNT).put CLK_STAT_LOCK lock).put CLK_STAT_ON_AON lock
    ((t.linkLost).raiseInt 0x01 0).raiseFault 0x01 0 7 0
  else s

/-- REFCLK has stayed in range for 1 ms: REF_OK rises and the PLLs move back (R391). -/
def State.refBack (s : State) (ppm : Nat) : State :=
  if s.rst.phase = .off ∨ s.flag CLK_STAT_REF_OK = true then s
  else (((s.put CLK_STAT_REF_OK 1).put CLK_REF_PPM_PPM (ppm % 65536)).put CLK_STAT_ON_AON 0).raiseInt 0x01 1

/-- CLK25_IN shows no edge for 1 µs: the ring oscillator takes over, and the fault is FATAL (R392). -/
def State.aonLoss (s : State) : State :=
  if s.rst.phase = .off ∨ s.flag CLK_STAT_AON_OK = false then s
  else (s.put CLK_STAT_AON_OK 0).raiseFault 0x01 3 7 0

/-- PLL `k` loses lock: PLL F's is FATAL, PLL H's retrains the host link, another's stalls its block until it relocks
(R409). -/
def State.pllUnlock (s : State) (k : Nat) : State :=
  if s.locked k then
    let t := (((s.put CLK_STAT_LOCK (setBitTo (s.get CLK_STAT_LOCK) k false)).put CLK_STAT_ON_AON
      (setBitTo (s.get CLK_STAT_ON_AON) k false)).bump CLK_UNLOCK_COUNT).raiseInt 0x01 2
    if k = 0 then t.raiseFault 0x01 1 7 0 else if k = 1 then (t.linkLost).raiseFault 0x01 2 7 0
    else (t.setRst { t.rst with stalled := insertNat t.rst.stalled k }).raiseFault 0x01 2 7 0
  else s

/-! ### The bounds on a start (R330, R404) -/

/-- Training on the full or the fast path, in ms, for a number of logical ranks (R330). -/
def trainMs (lr : Nat) (full : Bool) : Nat := if full then 40 + 120 * lr else 40 + 70 * lr

/-- T_train of R404: a fast path that falls back adds a full one, and a full path tried again at a lower rate another. -/
def startTrainMs (lr : Nat) (fast fellBack retried : Bool) : Nat :=
  trainMs lr (!fast) + (if fast && fellBack then trainMs lr true else 0) + (if retried then trainMs lr true else 0)

/-- The bound on Memory_Active after a cold start, in ms from tp (R404); `casc` is WAIT_MS in a cascade group and 0 otherwise. -/
def ModuleCfg.coldBoundMs (m : ModuleCfg) (fast fellBack retried : Bool) (casc : Nat) : Nat :=
  40 + startTrainMs (2 ^ m.lrb) fast fellBack retried + 60 + (80 + 20 * (m.dramGiB / 64)) + casc

/-- The bound on Memory_Active after a warm start, in ms from tw (R404). -/
def ModuleCfg.warmBoundMs (m : ModuleCfg) : Nat := 15 + 30 * m.dramGiB / 256

/-! ### Power-on reset (R393, R399 to R402) -/

/-- The highest value of `f` in the records of the Atoll ring that read good, 0 in an empty ring. -/
def highest (f : RecRec → Nat) (l : List RecRec) : Nat := (l.filter (fun r => r.good)).foldl (fun n r => max n (f r)) 0

/-- The registers that name the range of records held (R454). -/
def State.recRange (s : State) : State :=
  let l := (s.recd.atoll ++ s.recd.ring).filter (fun r => r.good)
  (((s.put REC_OLDEST_RSEQ (match l.head? with
    | some r => r.rseq
    | none => 0)).put REC_NEWEST_RSEQ (highest RecRec.rseq l)).put REC_FLUSHED_RSEQ (highest RecRec.rseq s.recd.atoll)).put REC_STAT_UNFLUSHED s.recd.ring.length

/-- REC_HOURS follows the operating time (R442, R454). -/
def State.refreshHours (s : State) : State :=
  (s.put REC_HOURS_LO_HOURS (s.recd.tenths % 2 ^ 32)).put REC_HOURS_HI_HOURS (s.recd.tenths / 2 ^ 32 % 2 ^ 16)

/-- REC finds its Atoll ring: sequence, hours and power cycles go on from the highest found, records with a bad CRC raise
RING_SCAN, and the POWER_ON note is flushed at once (R441, R442). -/
def State.recPowerOn (s : State) : State :=
  let l := s.recd.atoll
  let cycles := highest RecRec.cycles l
  let t := (s.setRecd { Recorder.init with
    atoll := l, slotAge := s.recd.slotAge, nextSeq := highest RecRec.rseq l + 1, tenths := highest RecRec.hours l
    lastRecordTenths := highest RecRec.hours l }).put REC_CYCLES_COUNT (cycles + 1)
  let u := (t.recRange).refreshHours
  let v := if l.any (fun r => !r.good) then u.raiseFault 0x94 2 7 0 else u
  (v.note 1 cycles).flush

/-- The fuses as last read into the always-on shadow, with the outcome of the CRC check (R401, R561).
DESIGN CHOICE, log 7. -/
def State.loadFuses (s : State) (retries : Option Nat) : State :=
  let t := (List.range 5).foldl (fun (u : State) k => u.setWord (0x40 + 4 * k) (s.mdl.fuse.getD k 0)) s
  ((t.put SYS_ID6_FUSE_OK (b2n retries.isSome)).put SYS_ID6_RETRIES (retries.getD 3)).setRst
    { t.rst with fuseOk := retries.isSome }

/-- The straps are sampled (R366, R387, R491, R571). -/
def State.sampleStraps (s : State) : State :=
  (((s.put STRT_STAT_DEV_NO s.mdl.cascId).put STRT_STAT_RING (b2n s.mdl.cascRing)).put STRT_STAT_PRESENT
    (2 ^ (s.mdl.cascId % 8))).put TWS_STAT_ADDR (0x40 + s.mdl.sbAddr % 64)

/-- The fields Atoll keeps take their stored values. -/
def State.loadStored (s : State) : State := State.reloadStored s (fun _ => true) (s.put RSTR_DSC_COUNT s.kept.dsc)

/-- The internal power-on reset releases at tp and a cold start begins; `retries` is how many further reads the fuses
took, `none` when their CRC failed to the last (R399 to R401, R405, R442, R476). -/
def State.powerOn (s : State) (retries : Option Nat) : State :=
  if s.rst.phase ≠ .off ∨ s.flag TST_STAT_TEST_MODE = true then s
  else
    let t := ((((s.sampleStraps).loadFuses retries).loadStored).put ATOL_PROT_LEVEL s.atol.sel.prot).put ATOL_SPARE_FREE
      s.atol.spares.length
    let u := ((t.startFields 0 1).setRst { t.rst with startedAt := s.now }).resumeWipe
    let v := if retries.isSome then u.coldStart else (u.raiseFault 0x02 0 7 0).recoveryStart 3
    v.recPowerOn

/-! ### Boot image and configuration (R400, R402, R405, R514, R517, R518) -/

/-- Window offset of Isle `k` (R456). -/
def isleBase (k : Nat) : Nat := if k = 0 then 0x40000 else 0x240000

/-- A word of the image in Isle `k`; where the array is undefined, a free value (R472). -/
def State.isleWord (s : State) (k o : Nat) : Nat :=
  match s.arrayWord (isleBase k + o) with
  | some w => w.toNat
  | none => s.free % 2 ^ 32

/-- An Isle fails verification at a stage: 1 signature, 2 MIN_ROM, 3 CRC (R402, R518). -/
def State.verifyFailed (s : State) (isle stage : Nat) : State :=
  (s.eventNo 0x02 0x0201 [isle, stage]).raiseFault 0x02 1 7 0

/-- Verification of the active Isle ends, and of the other when it fails: each outcome is 0 for a pass, else the stage
that failed. A warm start verifies only while an update is pending (R402, R405, R406, R513). -/
def State.bootVerified (s : State) (active other : Nat) : State :=
  let sel := s.atol.sel
  if s.rst.phase ≠ .booting ∨ s.startsOn = false ∨ (s.get RST_STAT_START = 1 ∧ sel.updPend = false) then s
  else if active = 0 then
    let t := if sel.updPend then (s.setSelector { sel with updPend := false }).eventNo 0x02 0x0203
      [sel.active, s.isleWord sel.active 4] else s
    (t.put RST_STAT_ISLE sel.active).setRst { t.rst with phase := .verified }
  else if other = 0 then
    let t := ((s.verifyFailed sel.active active).bootSwap 0).put RST_STAT_ISLE_FALLBACK 1
    let u := (t.put RST_STAT_ISLE t.atol.sel.active).eventNo 0x02 0x0202 [t.atol.sel.active]
    (u.raiseInt 0x02 0).setRst { (u.raiseInt 0x02 0).rst with phase := .verified }
  else ((s.verifyFailed sel.active active).verifyFailed (1 - sel.active) other).recoveryStart 2

/-- The version of the stored configuration that an image of version `ver` uses, with the store it names, the versions
kept beside it, and what is recorded: 0 nothing, 1 migrated, 2 defaulted (R517). -/
def pickConfig (ver : Nat) (cur : Nat × Sparse Word) (older : List (Nat × Sparse Word)) :
    Sparse Word × List (Nat × Sparse Word) × Nat :=
  let all := cur :: older
  if cur.1 = ver ∧ older.all (fun e => decide (e.1 ≤ ver)) then (cur.2, older, 0)
  else
    let top := all.foldl (fun a e => if a.1 < e.1 then e else a) cur
    if top.1 < ver then (top.2, [top], 1)
    else
      let low := (all.filter (fun e => decide (e.1 ≤ ver))).foldl (fun (a : Option (Nat × Sparse Word)) e => match a with
        | none => some e
        | some b => if b.1 < e.1 then some e else some b) none
      match low with
      | some b => (b.2, all.filter (fun e => decide (e.1 ≠ b.1)), 0)
      | none => ([], all, 2)

/-- The configuration store is read by an image of version `ver` (R517, R518); `kinds` are the record kinds migrated. -/
def State.readConfig (s : State) (ver kinds : Nat) : State :=
  match s.kept.cfgVer with
  | none =>
    ({ s with cfgStore := [] }.setKept { s.kept with cfgVer := some ver, older := [] }).eventNo 0x9C 0x0908 [0, ver]
  | some v =>
    let c := pickConfig ver (v, s.cfgStore) s.kept.older
    let t := { s with cfgStore := c.1 }.setKept { s.kept with cfgVer := some ver, older := c.2.1 }
    if c.2.2 = 1 then
      t.eventNo 0x9C 0x0907 [((v, s.cfgStore) :: s.kept.older).foldl (fun n e => max n e.1) 0, ver, kinds]
    else if c.2.2 = 2 then t.eventNo 0x9C 0x0908 [v, ver]
    else t

/-- DRC_CFG takes what the module is, and the rate it was set to before, or the module's own (R302, R332). -/
def State.dramConfig (s : State) (d : Nat) : State :=
  let t := (((s.put (DRC_CFG_DENSITY d) s.mdl.density).put (DRC_CFG_RANK2 d) (b2n s.mdl.rank2)).put (DRC_CFG_HEIGHT d)
    s.mdl.height).put (DRC_CFG_RCD d) (b2n s.mdl.rcd)
  if s.get RST_STAT_SRC = 1 then t.put (DRC_CFG_RATE d) s.mdl.rate else t

/-- A feature whose enable bit reads 1 claims its entry (R47, R489, R451). -/
def State.claimFeature (s : State) (f : Feature) : State := if s.flag f.enable then s.enableFeature f true else s

/-- Glen firmware's own start: its cores run, rank-idle power-down is enabled, and the features enabled at reset claim
their resources (R47, R316, R400). -/
def State.firmwareUp (s : State) : State :=
  let t := (List.range 4).foldl (fun (u : State) k => u.put (GLC_STAT_STATE k) 1) s
  let u := features.foldl State.claimFeature t
  (u.enableFeature ⟨DRC_PD_EN 0, 1, 0x50⟩ true).enableFeature ⟨DRC_PD_EN 1, 2, 0x54⟩ true

/-- Glen firmware arms the gauge poll entry: the one with DEST 1, or the first that is off takes the module's gauge (R79, R487).
DESIGN CHOICE, log 87. -/
def State.armGauge (s : State) : State :=
  match (List.range 16).find? (fun n => decide (s.cfg (TWL_POLL_A_DEST n) = 1)) with
  | some n => s.setTwl { s.twl with due := insertNat s.twl.due n }
  | none =>
    match s.mdl.gauge, (List.range 16).find? (fun n => decide (s.cfg (TWL_POLL_A_DEST n) = 0)) with
    | some g, some n =>
      let t := ((((((((s.put (TWL_POLL_A_ADDR n) g.addr).put (TWL_POLL_A_CMD n) g.cmd).put (TWL_POLL_A_PROTO n) g.proto).put
        (TWL_POLL_A_PEC n) (b2n g.pec)).put (TWL_POLL_A_DEST n) 1).put (TWL_POLL_B_INTERVAL_MS n) g.intervalMs).put
        (TWL_POLL_C_MULT n) g.mult).put (TWL_POLL_C_SHIFT n) g.shift)
      t.setTwl { t.twl with due := insertNat t.twl.due n }
    | _, _ => s

/-- Glen firmware has started and read the configuration store: step 5 of a cold start, step 3 of a warm one (R400, R406,
R517). -/
def State.configured (s : State) (ver kinds : Nat) : State :=
  if s.startsOn = false ∨ (s.rst.phase ≠ .verified ∧ ¬ (s.rst.phase = .booting ∧ s.get RST_STAT_START = 1 ∧ s.atol.sel.updPend = false))
  then s
  else
    let t := (s.readConfig ver kinds).loadStored
    let u := (((t.dramConfig 0).dramConfig 1).firmwareUp).armGauge
    let v := u.setHlk { u.hlk with x8 := u.flag HLK_CFG_X8 }
    ((v.put RST_T_FW_US_US v.sinceStart).setRst { v.rst with phase := .configured }).setSave { v.save with chgEn := true }

/-- 100 µs after a reset release the ROM has sampled the service pins twice: with SVC_SEL# low and SVC_DI high both times,
a recovery start (R405, R514). -/
def State.recoverySample (s : State) (first second : Bool) : State :=
  if s.rst.phase ≠ .booting ∨ s.rst.rcvSampled = true ∨ s.startsOn = false then s
  else
    let t := s.setRst { s.rst with rcvSampled := true, rcvRequest := first && second }
    if first && second then t.recoveryStart 4 else t

/-! ### DRAM training (R328, R329) -/

/-- The failed-device marks of a subchannel, kept with its training results, are dropped by its full training (R322). -/
def State.clearDevFail (s : State) (sc : Nat) : State :=
  (List.range 16).foldl (fun (t : State) k =>
    ((t.put (DSC_DEVFAIL_VALID sc k) 0).put (DSC_DEVFAIL_DEVICE sc k) 0 |>.store (DSC_DEVFAIL_VALID sc k) 0).store
      (DSC_DEVFAIL_DEVICE sc k) 0) s

/-- Training ends on DRC `d`: its path, and what each of its subchannels that fell back, or failed, raises. -/
def State.drcTrained (full failed : List Nat) (fell : List Nat) (s : State) (d : Nat) : State :=
  let mine := fun (l : List Nat) => l.any (fun sc => decide (sc / 2 = d))
  let t := s.put (DRC_STAT_PATH d) (if mine full then 1 else 2)
  let u := if mine fell then t.raiseInt (0x50 + 4 * d) 1 else t
  if mine failed then (((u.raiseInt (0x50 + 4 * d) 2).cxlEvent .linkOrTraining 0)).raiseFault (0x50 + 4 * d) 3 7 0
  else u.put (DRC_STAT_TRAINED d) 1

/-- What the stored training results must match beside the module's own DRAM: the data rate and the FGR setting of each DRC (R329). -/
def State.trainId (s : State) : List (Nat × Nat) := [0, 1].map (fun d => (s.get (DRC_CFG_RATE d), s.get (DRC_CFG_FGR d)))

/-- DRAM training ends at a cold start: the subchannels that fell back from the fast path, whether a full path was tried
again at the next lower rate, and the subchannels that failed even so (R328, R329). -/
def State.trainingDone (s : State) (fell : List Nat) (lowered : Bool) (failed : List Nat) : State :=
  if s.rst.phase ≠ .configured ∨ s.get RST_STAT_START = 1 ∨ s.startsOn = false then s
  else
    let stored := decide (s.kept.trained = some s.trainId)
    let fellBack := if stored then fell.filter (fun sc => decide (sc < 4)) else []
    let full := if stored then fellBack else [0, 1, 2, 3]
    let bad := failed.filter (fun sc => decide (sc < 4))
    let t := if lowered then [0, 1].foldl (fun (u : State) d => u.put (DRC_CFG_RATE d) (s.get (DRC_CFG_RATE d) - 1)) s else s
    let u := [0, 1].foldl (State.drcTrained full bad fellBack) t
    if bad.isEmpty then
      let v := full.foldl State.clearDevFail u
      let w := ((v.setKept { v.kept with trained := some v.trainId }).put RST_T_TRAIN_US_US v.sinceStart).setDrc { v.drc with
        fgr := [0, 1].filter (fun d => v.flag (DRC_CFG_FGR d)), refSb := [0, 1].filter (fun d => v.flag (DRC_CFG_REF_SB d)) }
      (((w.setRst { w.rst with phase := .trained }).put RSTR_STAT_PHASE 1).put RSTR_T_DETECT_US_US v.sinceStart).put PWR_STAT_STATE 4
    else u.setHlk { u.hlk with fenced := true }

end Sys2Proof.Machine
end

