-- ==== Sys2Proof/Machine/Link.lean ====
section
/-! DEFINITION. The host link (R336 to R348, R363, R364, R393, R403, R522, R526): training, link power states, resets,
decoders, configuration requests, and the CXL.mem requests it receives. -/

namespace Sys2Proof.Machine

/-! ### The function's memory (R34, R338) -/

/-- What an offset of a memory BAR of function 0 reaches: CXL component registers, CXL device registers, the MSI-X table or its pending-bit
array, or a register page by its address (R338). -/
inductive BarTarget where
  | component (offset : Nat)
  | device (offset : Nat)
  | msixTable (offset : Nat)
  | pendingBits (offset : Nat)
  | page (addr : Nat)
  deriving DecidableEq, Repr

/-- The layout of BAR0, 128 KiB, and of BAR2, 1 MiB (R34, R338). -/
def barTarget (bar o : Nat) : Option BarTarget :=
  if bar = 0 then
    if o < 0x10000 then some (.component o) else if o < 0x18000 then some (.device (o - 0x10000))
    else if o < 0x19000 then some (.msixTable (o - 0x18000)) else if o < 0x20000 then some (.pendingBits (o - 0x19000)) else none
  else if bar = 2 ∧ o < 0x100000 then some (.page o) else none

/-! ### Training and link states -/

/-- May the link train: PERST# released, PLL H locked, the HOST domain on, nothing holding it (R337, R391, R403, R405)? -/
def State.mayTrain (s : State) : Bool :=
  !s.hlk.linkUp && !s.hlk.perst && !s.hlk.held && !s.hlk.fenced && s.locked 1 && s.powered 0x10
    && decide (s.rst.phase ≠ .off ∧ s.rst.phase ≠ .recovery)

/-- Lanes the link is configured for: 8 with X8 in force since the start, else 16 (R336). -/
def State.fullWidth (s : State) : Nat := if s.hlk.x8 then 8 else 16

/-- The lane registers after a training. -/
def State.setLanes (s : State) (lanes : List LaneEnd) : State :=
  let t := (List.range 16).foldl (fun (u : State) n => u.put (HLK_LANE_ACTIVE n) 0) s
  lanes.foldl (fun (u : State) l => ((u.put (HLK_LANE_ACTIVE (l.lane % 16)) 1).put (HLK_LANE_PRESET (l.lane % 16)) l.preset).put
    (HLK_LANE_MARGIN (l.lane % 16)) l.margin) t

/-- Rate, width, flit and lanes take what training found; a width below the configured one raises LINK_DEGRADED (R337,
R361, R585). -/
def State.linkTrained (s : State) (rate : Nat) (flit256 : Bool) (lanes : List LaneEnd) : State :=
  let t := ((((s.put HLK_LINK_RATE rate).put HLK_LINK_WIDTH lanes.length).put HLK_LINK_FLIT256 (b2n flit256)).put
    HLK_LINK_LTSSM 0x13).setLanes lanes
  if lanes.length < s.fullWidth then (t.raiseInt 0x10 2).cxlEvent .linkOrTraining 0 else t

/-- Can a training end so: a supported rate up to MAX_RATE, 1 to the configured lanes, the 68-byte flit only where F68_EN
allows it and never at 64 GT/s (R336)? -/
def State.trainable (s : State) (rate : Nat) (flit256 : Bool) (lanes : List LaneEnd) : Bool :=
  decide (rate ≤ s.get HLK_CFG_MAX_RATE ∧ rate ≤ 2) && [1, 2, 4, 8, 16].contains lanes.length
    && decide (lanes.length ≤ s.fullWidth) && lanes.all (fun l => decide (l.lane < s.fullWidth)) && (flit256 || (s.flag HLK_CFG_F68_EN && decide (rate < 2)))

/-- The link reaches L0 (R403). -/
def State.linkUp (s : State) (rate : Nat) (flit256 : Bool) (lanes : List LaneEnd) : State :=
  if s.mayTrain && s.trainable rate flit256 lanes then
    let t := (s.setHlk { s.hlk with linkUp := true, inL1 := false, inL2 := false }).put HLK_LINK_UP 1
    (t.linkTrained rate flit256 lanes).raiseInt 0x10 0
  else s

/-- No rate trains within three attempts: the link is held until the next PERST# release (R337). -/
def State.linkFail (s : State) : State :=
  if s.mayTrain then
    let t := (s.setHlk { s.hlk with held := true }).put HLK_LINK_LTSSM 0
    (t.raiseInt 0x10 6).raiseFault 0x10 4 7 0
  else s

/-- Requests already received are applied, but their answers are discarded: reads have no other effect (R363). -/
def State.discardAnswers (s : State) : State :=
  let f := fun (l : List MemReq) => (l.filter (fun r => r.write)).map (fun r => { r with tag := none })
  let g := fun (l : List HeldWrite) => l.map (fun h => { h with req := { h.req with tag := none } })
  ((s.setHlk { s.hlk with buf := f s.hlk.buf }).setRstr { s.rstr with heldTable := f s.rstr.heldTable }).setPers
    { s.pers with hold := g s.pers.hold, recWait := g s.pers.recWait }

/-- The function is reset: decoders are uncommitted, CXL.mem and MSI-X are disabled (R363). -/
def State.functionReset (s : State) : State :=
  let t := (s.discardAnswers).setHlk { s.discardAnswers.hlk with decs := [], memEnable := false }
  let u := (List.range 4).foldl (fun (u : State) n => u.setWord (0x100A0 + 4 * n) 0) (t.put HLK_LINK_MEM_EN 0)
  { u with mgp := { u.mgp with msixEn := false, fnMasked := false, masked := [] } }

/-- PERST# is asserted: a device reset in BASIN after SAVE_DONE, held until then during a save (R121); else a link reset, which returns HLK and the host PHY
(R363, R393). -/
def State.perstAssert (s : State) : State :=
  let t := s.setHlk { s.hlk with perst := true }
  if s.rst.phase = .off then t
  else if s.saving ∨ (s.save.ended = true ∧ s.get PWR_STAT_STATE = 2) then t.requestReset 5
  else
    let u := (t.linkLost).functionReset
    ((u.resetPages (fun p => decide (0x10 ≤ p ∧ p < 0x20))).refreshHlk).refreshHeld

/-- PERST# is released: training may start, and it wakes the controller from BASIN (R337, R403, R526). -/
def State.perstRelease (s : State) : State :=
  if s.hlk.perst then
    let t := s.setHlk { s.hlk with perst := false, held := false }
    if t.get PWR_STAT_STATE = 2 ∨ t.flag PWR_STAT_ENTERING = true then t.wake 2 else t
  else s

/-- An in-band hot reset clears Mem_Enable and resets the link (R363). -/
def State.hotReset (s : State) : State :=
  if s.hlk.linkUp then ((s.linkLost).functionReset).refreshHlk else s

/-- The link enters L1 by ASPM; TERRACE_IDLE_US counts from here (R522, R585). -/
def State.l1Entry (s : State) : State :=
  if s.hlk.linkUp ∧ s.hlk.inL1 = false ∧ s.hlk.inL2 = false then
    ((s.setHlk { s.hlk with inL1 := true }).put HLK_LINK_LTSSM 0x15).setPwr { s.pwr with l1Since := some s.now }
  else s

/-- The link leaves L1, which wakes the controller from TERRACE (R526). -/
def State.l1Exit (s : State) : State :=
  if s.hlk.inL1 then
    (((s.setHlk { s.hlk with inL1 := false }).put HLK_LINK_LTSSM 0x13).setPwr { s.pwr with l1Since := none }).wake 1
  else s

/-- The link enters Recovery on lane errors, given by lane and count, and may come back narrower or slower (R337, R363). -/
def State.linkRecovery (s : State) (errors : List (Nat × Nat)) (down : Option (Nat × List LaneEnd)) : State :=
  if s.hlk.linkUp ∧ s.hlk.inL2 = false then
    let t := errors.foldl (fun (u : State) e => u.put (HLK_LANE_ERRORS (e.1 % 16))
      (min (u.get (HLK_LANE_ERRORS (e.1 % 16)) + e.2) 0xFFFF)) (s.bump HLK_RECOV_COUNT)
    let u := match down with
      | none => t
      | some (rate, lanes) =>
        if t.trainable rate (t.flag HLK_LINK_FLIT256) lanes && decide (lanes.length ≤ t.get HLK_LINK_WIDTH)
        then t.linkTrained rate (t.flag HLK_LINK_FLIT256) lanes else t
    u.raiseFault 0x10 1 7 0
  else s

/-! ### Configuration, decoders and CXL.mem (R51, R167, R341, R344, R403) -/

/-- Is step 5 of the start complete, so that configuration requests are served and Glen firmware runs (R400, R403)? -/
def State.served (s : State) : Bool :=
  decide (s.rst.phase = .configured ∨ s.rst.phase = .trained ∨ s.rst.phase = .active)

/-- What a read of the status of DVSEC range 1 answers: its size in bytes, with Memory_Info_Valid in bit 0, Memory_Active in bit 1 and the
Memory_Active_Timeout 0b010 in bits 15 to 13 (R167, R340). PRESUMED, log 82. -/
def State.rangeStatus (s : State) : Nat :=
  s.mdl.hostIslets * 65536 + 2 * 2 ^ 13 + b2n (s.flag RSTR_STAT_MEM_ACTIVE) * 2 + 1

/-- A configuration request is answered; before step 5 with Request Retry Status, and with no effect (R403). -/
def State.configRequest (s : State) (q : CfgReq) : State :=
  if s.hlk.linkUp = false ∨ s.hlk.fenced = true then s
  else if ¬ s.served then s.send (.link 4 0)
  else
    let t := match q with
      | .read => s
      | .rangeStatus => s.send (.link 5 s.rangeStatus)
      | .gpfDvsec => (s.send (.link 6 10)).send (.link 7 14200)
      | .other => s
      | .msix e m => { s with mgp := { s.mgp with msixEn := e, fnMasked := m } }
      | .vectorMask v on => { s with mgp := { s.mgp with
          masked := if on then insertNat s.mgp.masked (v % 32) else dropNat s.mgp.masked (v % 32) } }
    t.send (.link 4 1)

/-- The host sets Mem_Enable (R167, R363). -/
def State.memEnable (s : State) : State :=
  if s.hlk.linkUp ∧ s.hlk.fenced = false ∧ s.served = true then
    (s.setHlk { s.hlk with memEnable := true }).put HLK_LINK_MEM_EN 1
  else s

/-- A decoder commit: it succeeds when the ways and granularity are supported and its DPA span lies within range 1, else
Commit Error is set; while CXL.mem is enabled it decodes from the next tick (R339 to R341, R363). -/
def State.commitDecoder (s : State) (n base size dpa iw ig : Nat) : State :=
  if s.hlk.linkUp = false ∨ s.hlk.fenced = true ∨ s.served = false ∨ 4 ≤ n then s
  else if iw < 4 ∧ ig < 7 ∧ dpa + size / 2 ^ iw ≤ s.mdl.hostLines * 64 then
    let d : HdmDecoder := ⟨base, size, dpa, 2 ^ iw, if s.hlk.memEnable then s.now + 1 else s.now⟩
    ((((s.setHlk { s.hlk with decs := Sparse.set (fun _ => none) s.hlk.decs n (some d) }).put (HLK_DEC_COMMITTED n) 1).put
      (HLK_DEC_COMMIT_ERR n) 0).put (HLK_DEC_IW n) iw).put (HLK_DEC_IG n) ig
  else
    (((s.setHlk { s.hlk with decs := Sparse.set (fun _ => none) s.hlk.decs n none }).put (HLK_DEC_COMMITTED n) 0).put
      (HLK_DEC_COMMIT_ERR n) 1).raiseInt 0x10 5

/-- The device physical address that a decoder with granularity code `ig` makes of a host physical address in its range: the granules of this
device, one of every `ways`, laid end to end from its DPA base (R339, R341). -/
def HdmDecoder.dpaOf (d : HdmDecoder) (ig hpa : Nat) : Nat :=
  let g := 256 * 2 ^ ig
  d.dpa + (hpa - d.base) / (g * d.ways) * g + (hpa - d.base) % g

/-- Does decoder `n` translate to this line now (R341)? -/
def State.decodes (s : State) (n line : Nat) : Bool :=
  match Sparse.get (fun _ => none) s.hlk.decs n with
  | none => false
  | some d => decide (d.since ≤ s.now ∧ d.dpa ≤ line * 64 ∧ line * 64 < d.dpa + d.size / d.ways)

/-- Can a CXL.mem request that decoder `n` translates be received: link in L0, CXL.mem enabled, Memory_Active, no fence,
credits left (R130, R167, R343)? -/
def State.receives (s : State) (n line : Nat) (write : Bool) : Bool :=
  s.hlk.linkUp && !s.hlk.inL1 && !s.hlk.inL2 && s.hlk.memEnable && !s.hlk.fenced && s.flag RSTR_STAT_MEM_ACTIVE
    && s.decodes n line && decide (if write then s.rwdWaiting < 128 else s.reqWaiting < 128)

/-- A CXL.mem request arrives (R53, R60, R82, R170, R343). -/
def State.memRequest (s : State) (n : Nat) (r : MemReq) : State :=
  if s.receives n r.line r.write then
    let q := { r with seq := s.hlk.nextReq, hint := s.cfg (HLK_HINT_HINT n) }
    ((s.setHlk { s.hlk with nextReq := s.hlk.nextReq + 1 }).countReq q).arrive q
  else s

/-- A credit-return stop has lasted 1 ms (R344). -/
def State.creditStall (s : State) : State :=
  if (s.flag HLK_CREDIT_REQ_STOP || s.flag HLK_CREDIT_RWD_STOP) && decide (s.now = s.hlk.stopSince + 1000)
  then s.raiseFault 0x10 3 5 0x10088 else s

end Sys2Proof.Machine
end

