-- ==== Sys2Proof/Machine/Strt.lean ====
section
/-! DEFINITION. Strait, the cascade between controllers (R152 to R156, R186 to R189, R365 to R388): training, census,
mastership, the message set, alignment, closes across the group, shares, and the group restore point. -/

namespace Sys2Proof.Machine

/-! ### Ports, census, mastership (R21, R366 to R368, R379, R380) -/

/-- Is a partner the one the wiring rules require at a port: k − 1 on UP, k + 1 on DOWN, and the ring's closing link (R365)? -/
def State.rightPartner (s : State) (port partner : Nat) (ring : Bool) : Bool :=
  decide (ring = s.flag STRT_STAT_RING) &&
    (if port = 0 then decide (partner + 1 = s.devNo) || (ring && decide (s.devNo = 0 ∧ partner ≠ 0))
     else decide (partner = s.devNo + 1) || (ring && decide (partner = 0 ∧ s.devNo ≠ 0)))

/-- UP_OK or DOWN_OK. -/
def portOk (port : Nat) : Fld := if port = 0 then STRT_STAT_UP_OK else STRT_STAT_DOWN_OK

/-- Does STRT run: enabled, clocked, its page on, the start past step 5 (R387, R400)? -/
def State.strtRuns (s : State) : Bool :=
  s.flag (PAGE_CTRL_EN 0x88) && s.cfgOn STRT_CTRL_EN && !s.gated 0x88 && !s.inReset 0x88
    && decide (s.rst.phase = .configured ∨ s.rst.phase = .trained ∨ s.rst.phase = .active)

/-- A port has exchanged straps with its partner: it is trained, or held down with WIRING (R367). -/
def State.portTrained (s : State) (port partner : Nat) (ring : Bool) : State :=
  if ¬ s.strtRuns ∨ 2 ≤ port ∨ s.flag (portOk port) = true then s
  else if s.rightPartner port partner ring then
    let t := (s.put (portOk port) 1).setStrt { s.strt with trainedAt := if s.strt.censusDone then s.strt.trainedAt else some s.now }
    t.sendOn [port] 0x02 (some partner) []
  else (s.raiseInt 0x88 5).raiseFault 0x88 2 7 0

/-- A trained port loses training (R19). -/
def State.portDown (s : State) (port : Nat) : State :=
  if port < 2 ∧ s.flag (portOk port) = true then (s.put (portOk port) 0).raiseFault 0x88 0 7 0 else s

/-- A write of RETRAIN retrains both ports (R387). -/
def State.strtRetrain (s : State) : State := (s.put STRT_STAT_UP_OK 0).put STRT_STAT_DOWN_OK 0

/-- GROUP_SIZE of the superblock; 1 with no array formatted (R368). -/
def State.groupSize (s : State) : Nat := if s.arr.blank then 1 else max 1 s.arr.groupSize

/-- The expected set follows SIZE, GROUP_SIZE and, on the master alone, STRT_EXCLUDE, and IN_GROUP with it (R368, R386). -/
def State.refreshExpected (s : State) : State :=
  let n := max (s.get STRT_STAT_SIZE) s.groupSize
  let excluded := if s.get STRT_STAT_MASTER = s.devNo then s.cfg STRT_EXCLUDE_MASK else 0
  let m := maskOf ((List.range (min n 8)).filter (fun d => !bitOf excluded d))
  (s.put STRT_EXPECT_MASK m).put STRT_STAT_IN_GROUP (b2n (decide (1 < n)))

/-- The census ends 10 ms after training: it fixes SIZE and the expected set (R368). -/
def State.censusEnds (s : State) : State :=
  let ready := match s.strt.trainedAt with
    | none => true
    | some t => decide (t + 10000 ≤ s.now)
  if ¬ s.strtRuns ∨ s.strt.censusDone = true ∨ ready = false then s
  else
    let top := s.strt.census.foldl max s.devNo
    (((s.setStrt { s.strt with censusDone := true }).put STRT_STAT_SIZE (top + 1)).refreshExpected)

/-- No master was heard within 10 ms of training: the whole group has been reset, and device 0 is master (R21, R380).
DEDUCED, log 43. -/
def State.electMaster (s : State) : State :=
  if s.inGroup ∧ s.strt.censusDone = true ∧ s.strt.masterHeard = false then
    ((s.put STRT_STAT_MASTER 0).setStrt { s.strt with masterHeard := true, everMaster := decide (s.devNo = 0) }).refreshExpected
  else s

/-- A new master is known: MASTER_CHANGE (R379). -/
def State.newMaster (s : State) (d : Nat) : State :=
  (((s.put STRT_STAT_MASTER d).setStrt { s.strt with masterHeard := true }).refreshExpected).raiseInt 0x88 2

/-- Has device `d` been silent for `us` µs? -/
def State.silentFor (s : State) (d us : Nat) : Bool :=
  match (s.peer d).heard with
  | none => true
  | some t => decide (t + us ≤ s.now)

/-- TICK_SYNC from this device's own ticks (R372). -/
def State.sendTickSync (s : State) : State := s.sendFrame 0x04 none (leBytes 4 s.pass32 ++ leBytes 4 0)

/-! ### Seals and shares (R189, R378, R382, R383) -/

/-- The group-sealed epoch: the lowest of the expected members' highest reports (R378). -/
def State.groupSealed (s : State) : Nat :=
  let own := s.sealedEpoch
  s.otherMembers.foldl (fun n d => min n (s.peer d).sealed) own

/-- The group-sealed epoch takes a value; a change restarts the GS_WARN count (R378). -/
def State.setGroupSealed (s : State) (e : Nat) : State :=
  if s.get64 STRT_GSEALED_LO_EPOCH = e then s
  else (s.put64 STRT_GSEALED_LO_EPOCH e).setStrt { s.strt with gsAt := s.epoch, gsHeld := false }

/-- The master computes the group-sealed epoch and sends it when it changes (R372, R378). -/
def State.sendGroupSealed (s : State) : State :=
  if s.isMaster ∧ s.groupSealed ≠ s.get64 STRT_GSEALED_LO_EPOCH then
    (s.setGroupSealed s.groupSealed).sendFrame 0x0A none (leBytes 8 s.groupSealed)
  else s

/-- GS_HELD: the group-sealed epoch has not advanced for GS_WARN epochs (R378). -/
def State.checkGroupSealed (s : State) : State :=
  if s.inGroup ∧ s.strt.gsHeld = false ∧ s.strt.gsAt + s.cfg STRT_CFG_GS_WARN ≤ s.epoch then
    (s.setStrt { s.strt with gsHeld := true }).raiseInt 0x88 4
  else s

/-- A share reaches this device: E_mJ in a run, where GAUGE_STALE ends unless the share is as old as STALE_MS, and the gauge reading
of R141 during a save (R78, R155, R382). -/
def State.takeShare (s : State) (mj age : Nat) : State :=
  let t := (s.put STRT_SHARE_MJ mj).setStrt { s.strt with shareAt := some (s.now - age * 10000) }
  match t.save.run with
  | some r => t.setSave { t.save with run := some { r with gauge := some (mj, t.now) } }
  | none =>
    let u := t.setPers { t.pers with gauge := some (mj, t.now - age * 10000) }
    if u.fresh u.pers.gauge then u.put PERS_STAT_GAUGE_STALE 0 else u

/-- The master sends each member its share of its gauge reading; during a save its own share replaces its reading (R379,
R382, R383). -/
def State.sendShares (s : State) : State :=
  match s.isMaster, s.pers.own with
  | true, some g =>
    let age := s.energyAge
    let t := s.otherMembers.foldl (fun (u : State) d =>
      u.sendFrame 0x06 (some d) (leBytes 4 (s.shareOf g.1 d) ++ leBytes 2 age ++ [BitVec.ofNat 8 (b2n s.saving)])) s
    match t.save.run with
    | some r => t.setSave { t.save with run := some { r with gauge := some (s.shareOf g.1 s.devNo, t.now) } }
    | none => t
  | _, _ => s

/-- Device k takes mastership once every lower-numbered device has been silent for k × 50 µs, and the present master, whatever its
number, for 50 µs (R21, R156, R188, R379); its energy input is then its own gauge reading, if it has one (R78).
`late` marks a message that arrived in the expiry cycle (R380). DESIGN CHOICE, log 62. -/
def State.takeMastership (s : State) (late : Bool) : State :=
  let k := s.devNo
  let m := s.get STRT_STAT_MASTER
  if s.inGroup = false ∨ k = 0 ∨ m = k ∨ s.strt.everMaster = true ∨ s.strtRuns = false
      ∨ (List.range k).any (fun d => !s.silentFor d (k * 50)) = true ∨ s.silentFor m 50 = false then s
  else if late then s.lateOk 0x88
  else
    let t := (((s.newMaster k).put STRT_STAT_TOOK 1).setStrt { s.strt with masterHeard := true, everMaster := true })
    let u := (t.sendFrame 0x30 none (leBytes 1 m)).sendTickSync
    let v := if s.get RSTR_STAT_PHASE = 1 then u.setRstr { u.rstr with waitFrom := u.now } else u
    let w := v.setPers { v.pers with gauge := v.pers.own }
    w.sendGroupSealed

/-- A device unheard for 50 µs leaves the present set, lost to a save that runs (R156, R377); `late` as above. -/
def State.peerSilent (s : State) (d : Nat) (late : Bool) : State :=
  if d = s.devNo ∨ 8 ≤ d ∨ bitOf (s.get STRT_STAT_PRESENT) d = false ∨ s.silentFor d 50 = false then s
  else if late then s.lateOk 0x88
  else
    let a := s.put STRT_STAT_PRESENT (s.get STRT_STAT_PRESENT - 2 ^ d)
    let t := if a.inGroup && a.expected.contains d then
        a.setSave { a.save with run := a.save.run.map (fun r => { r with lost := true }) } else a
    if s.inGroup then (t.bump STRT_LOST_COUNT).raiseInt 0x88 0 else t

/-! ### Sending (R372) -/

/-- The state byte of HEARTBEAT. -/
def State.beatState (s : State) : Nat :=
  match s.get PWR_STAT_STATE with
  | 0 => 0
  | 1 => 0
  | 3 => 1
  | 4 => 2
  | _ => 3

/-- The master as this device sees it, as HEARTBEAT carries it: 0xFF while it knows none. DEDUCED, log 43. -/
def State.beatMaster (s : State) : Nat := if s.strt.masterHeard then s.get STRT_STAT_MASTER else 0xFF

/-- MEMBER_INFO. -/
def State.sendInfo (s : State) : State :=
  s.sendFrame 0x05 none (leBytes 4 (s.cfg PERS_SAVE_POWER_MW) ++ leBytes 4 (s.cfg PERS_SAVE_RATE_MBPS)
    ++ leBytes 4 (s.cfg PERS_SAVE_FIXED_US) ++ leBytes 4 s.res ++ leBytes 4 s.leftToRead
    ++ [BitVec.ofNat 8 (b2n s.saving + 2 * b2n s.save.saveDone)])

/-- A periodic count expires and its message is sent; HEARTBEAT and PROBE before the census too (R368, R372, R374). -/
def State.sendPeriodic (s : State) (k : Periodic) : State :=
  if ¬ s.strtRuns then s
  else
    match k with
    | .heartbeat =>
      if s.inGroup || !s.strt.censusDone then
        s.sendOn s.trainedPorts 0x01 none (leBytes 1 s.beatState ++ leBytes 1 s.beatMaster)
      else s
    | .probe => s.trainedPorts.foldl (fun (t : State) p => t.sendOn [p] 0x02 none []) s
    | .tickSync => if s.isMaster then s.sendTickSync else s
    | .memberInfo => s.sendInfo

/-- A message was sent: a tail completed (R377). -/
def State.sendTailDone (s : State) (e : Nat) : State := s.sendFrame 0x07 none (leBytes 8 e ++ leBytes 8 s.epoch)

/-- An epoch was sealed: the report, and the group-sealed epoch on the master (R378). -/
def State.sendSealed (s : State) (e : Nat) : State := (s.sendFrame 0x09 none (leBytes 8 e)).sendGroupSealed

/-! ### Receiving (R370, R371) -/

/-- A frame that fails its CRC is discarded at the receiver; at its sender (`mine`) it is replayed (R370). -/
def State.frameBad (s : State) (mine : Bool) : State :=
  if ¬ s.strtRuns then s else if mine then s.bump STRT_REPLAY_COUNT else s.bump STRT_CRC_COUNT

/-- Is the frame a copy already taken (R371)? -/
def State.frameSeen (s : State) (h : FrameHdr) : Bool := (s.peer h.src).seen.contains (h.seq % 256)

/-- The frame is taken: its sender is heard, its sequence number kept, and during the census or a save its sender noted
(R156, R368, R371, R377). DEDUCED, log 43. -/
def State.noteFrame (s : State) (h : FrameHdr) : State :=
  let t := s.heard h.src
  let u := t.setPeer h.src { t.peer h.src with seen := ((h.seq % 256) :: (t.peer h.src).seen).take 64 }
  let v := if u.strt.censusDone then u else u.setStrt { u.strt with census := insertNat u.strt.census h.src }
  match v.save.run with
  | none => v
  | some r => v.setSave { v.save with run := some { r with heard := if bitOf r.heard h.src then r.heard else r.heard + 2 ^ h.src } }

/-- A frame not addressed to this device alone leaves by the other port, one hop further (R371). -/
def State.forwardFrame (s : State) (h : FrameHdr) (typ : Nat) (payload : List (BitVec 8)) : State :=
  if h.dst = some s.devNo ∨ s.flag (portOk (1 - h.port)) = false then s
  else s.send (.frame (1 - h.port) (frameBytes typ (routeOf h.src h.dst) (h.hops + 1) h.seq payload))

/-- A frame of type `typ` arrives: discarded after seven hops, from itself, or as a later copy; else forwarded, and consumed
by `f` when it is addressed to this device or to all; `relay` is the payload as it is forwarded (R371, R526). -/
def State.receive (s : State) (h : FrameHdr) (typ : Nat) (relay : List (BitVec 8)) (f : State → State) : State :=
  if ¬ s.strtRuns ∨ 2 ≤ h.port ∨ s.flag (portOk h.port) = false then s
  else if 7 ≤ h.hops ∨ h.src = s.devNo ∨ 8 ≤ h.src then s.bump STRT_DROP_COUNT
  else if s.frameSeen h then s
  else
    let t := (s.noteFrame h).forwardFrame h typ relay
    if h.dst = none ∨ h.dst = some s.devNo then
      let u := f (t.bump64 STRT_RX_LO_COUNT)
      if typ ≠ 1 ∧ typ ≠ 2 ∧ typ ≠ 3 ∧ typ ≠ 4 ∧ u.saving = false then u.wake 5 else u
    else t

/-- Bytes `o` to `o + n - 1` of a payload. -/
def payAt (p : List (BitVec 8)) (o n : Nat) : Nat := leNat ((p.drop o).take n)

/-- A frame of a type not listed is discarded and counted (R372). -/
def State.frameUnlisted (s : State) (h : FrameHdr) : State :=
  if s.strtRuns ∧ h.port < 2 ∧ s.flag (portOk h.port) = true then s.bump STRT_DROP_COUNT else s

/-- HEARTBEAT: its sender's state and master; a device that knows no master joins the one named (R372, R380). -/
def State.onHeartbeat (s : State) (h : FrameHdr) (p : List (BitVec 8)) : State :=
  s.receive h 0x01 p (fun t =>
    let u := t.setPeer h.src { t.peer h.src with state := payAt p 0 1, master := payAt p 1 1 }
    if u.strt.masterHeard = false ∧ payAt p 1 1 < 8 ∧ payAt p 1 1 ≠ u.devNo then
      ((u.put STRT_STAT_MASTER (payAt p 1 1)).setStrt { u.strt with masterHeard := true }).refreshExpected
    else u)

/-- PROBE is answered with ECHO on its port, `turn` ps after its arrival (R374). -/
def State.onProbe (s : State) (h : FrameHdr) (turn : Nat) : State :=
  s.receive { h with dst := some s.devNo } 0x02 [] (fun t => t.sendOn [h.port] 0x03 (some h.src) (leBytes 4 turn))

/-- ECHO yields the port's one-way delay from the round trip in ps (R374). -/
def State.onEcho (s : State) (h : FrameHdr) (p : List (BitVec 8)) (trip : Nat) : State :=
  s.receive { h with dst := some s.devNo } 0x03 p (fun t =>
    t.put (if h.port = 0 then STRT_DELAY_UP_PS else STRT_DELAY_DOWN_PS) (min ((trip - payAt p 0 4) / 2) 0xFFFF))

/-- A signed offset in ps as STRT_OFFSET holds it. -/
def offsetBits (ps : Int) : Nat := (ps % (2 ^ 32 : Int)).toNat

/-- STRT_OFFSET as a signed number. -/
def State.offsetPs (s : State) : Int :=
  if s.get STRT_OFFSET_PS < 2 ^ 31 then (s.get STRT_OFFSET_PS : Int) else (s.get STRT_OFFSET_PS : Int) - 2 ^ 32

/-- The offset takes a value, and ALIGNED with it (R375). -/
def State.setOffset (s : State) (ps : Int) : State :=
  (s.put STRT_OFFSET_PS (offsetBits ps)).put STRT_STAT_ALIGNED (b2n (decide (ps.natAbs ≤ 20000)))

/-- The master's tick is `offset` ps ahead of this device's, and its pass number `pass` now (R375). DEDUCED, log 43. -/
def State.tickSync (s : State) (offset : Int) (pass : Nat) : State :=
  let bad := if offset.natAbs ≤ 20000 then 0 else s.strt.badSyncs + 1
  let t := (s.setOffset offset).setStrt { s.strt with badSyncs := if bad = 3 then 0 else bad }
  let u := if bad = 3 then (t.raiseInt 0x88 3).raiseFault 0x88 1 7 0 else t
  if 1000000 < offset.natAbs ∨ pass % 2 ^ 32 ≠ s.pass32 then u.setStrt { u.strt with step := some (pass % 2 ^ 32, s.pass32) } else u

/-- TICK_SYNC of the master: `arrival` is the frame's arrival in ps from this device's own tick, the master's tick lies the accumulated
delay before it, `lag` the passes since the departure tick, `resid` the frame's residence time here in ps (R374, R375). -/
def State.onTickSync (s : State) (h : FrameHdr) (p : List (BitVec 8)) (arrival : Int) (lag resid : Nat) : State :=
  let delay := s.get (if h.port = 0 then STRT_DELAY_UP_PS else STRT_DELAY_DOWN_PS)
  s.receive h 0x04 (p.take 4 ++ leBytes 4 (payAt p 4 4 + delay + resid)) (fun t =>
    if t.inGroup ∧ t.isMaster = false ∧ h.src = t.get STRT_STAT_MASTER then t.tickSync (arrival - (payAt p 4 4 : Int)) (payAt p 0 4 + lag) else t)

/-- At a tick: a step sets the pass counter to the master's; else the offset moves by one fabric cycle (R375). -/
def State.alignTick (s : State) : State :=
  match s.strt.step with
  | some (pass, own) =>
    let d := (pass + 2 ^ 32 - own) % 2 ^ 32
    let n := (s.pass32 + d) % 2 ^ 32
    let t := ((s.setStrt { s.strt with step := none }).put SYS_PASS_LO_COUNT n).bump STRT_STEP_COUNT
    t.setOffset 0
  | none =>
    let o := s.offsetPs
    if s.inGroup = false ∨ s.isMaster = true ∨ o.natAbs ≤ 333 then s
    else s.setOffset (if 0 < o then o - 333 else o + 333)

/-- MEMBER_INFO (R372). -/
def State.onInfo (s : State) (h : FrameHdr) (p : List (BitVec 8)) : State :=
  s.receive h 0x05 p (fun t => t.setPeer h.src { t.peer h.src with
    power := payAt p 0 4, rate := payAt p 4 4, fixed := payAt p 8 4, res := payAt p 12 4, left := payAt p 16 4
    saving := bitOf (payAt p 20 1) 0, saveDone := bitOf (payAt p 20 1) 1 })

/-- SHARE of the master (R155, R382, R383). -/
def State.onShare (s : State) (h : FrameHdr) (p : List (BitVec 8)) : State :=
  s.receive h 0x06 p (fun t =>
    if t.inGroup ∧ t.isMaster = false ∧ h.src = t.get STRT_STAT_MASTER then t.takeShare (payAt p 0 4 % 2 ^ 20) (payAt p 4 2) else t)

/-- TAIL_DONE (R377). -/
def State.onTailDone (s : State) (h : FrameHdr) (p : List (BitVec 8)) : State :=
  s.receive h 0x07 p (fun t => t.setPeer h.src { t.peer h.src with tailDone := some (payAt p 0 8), collecting := payAt p 8 8 })

/-- Does member `d` let the master close: its tail of the epoch before is done, or it is in BASIN (R377, R531)? -/
def State.tailOk (s : State) (d : Nat) : Bool :=
  (s.peer d).state = 3 || (match (s.peer d).tailDone with
    | some e => decide ((s.peer d).collecting ≤ e + 1)
    | none => decide ((s.peer d).collecting = 0))

/-- The close number: the master's own collecting epoch, every one reported, and after a restore H + XSEAL + 1 (R378). -/
def State.closeNumber (s : State) : Nat :=
  let a := s.otherMembers.foldl (fun n d => max n (s.peer d).collecting) s.epoch
  s.rstr.statuses.foldl (fun n m => max n (m.h + (s.peer m.member).xseal + 1)) a

/-- CLOSE_LEAD passes before the planned close the master sends CLOSE, or defers it by a pass (R74, R377). -/
def State.issueClose (s : State) : State :=
  let lead := s.cfg STRT_CFG_CLOSE_LEAD
  let planned := s.pers.epochBegan + s.pers.epochLen
  if s.isMaster = false ∨ s.active = false ∨ s.pers.running = false ∨ s.saving = true ∨ s.pers.closeAt.isSome = true
      ∨ s.now + lead < planned then s
  else
    let members := s.otherMembers.filter (fun d => s.present.contains d)
    if s.pers.tail.isNone && members.all s.tailOk then
      let t := max planned (s.now + lead)
      let n := s.closeNumber
      (s.setPers { s.pers with closeAt := some (t, n) }).sendFrame 0x08 none
        (leBytes 8 n ++ leBytes 4 ((s.pass32 + (t - s.now)) % 2 ^ 32))
    else s.deferClose

/-- A close at pass `t` with number `n` is set; the passes beyond the planned length count as deferred (R72, R377). -/
def State.setClose (s : State) (t n : Nat) : State :=
  let planned := s.pers.epochBegan + s.pers.epochLen
  let u := s.setPers { s.pers with closeAt := some (t, n) }
  if planned < t then
    let v := u.bump64By PERS_STRETCH_LO_PASSES (t - planned)
    if s.pers.stretched then v else (v.setPers { v.pers with stretched := true }).raiseInt 0x20 5
  else u

/-- CLOSE of the master: a tick that has passed is applied at the next, and counted (R378). -/
def State.onClose (s : State) (h : FrameHdr) (p : List (BitVec 8)) : State :=
  s.receive h 0x08 p (fun t =>
    if t.inGroup = false ∨ t.isMaster = true ∨ h.src ≠ t.get STRT_STAT_MASTER ∨ t.active = false then t
    else
      let ahead := (payAt p 8 4 + 2 ^ 32 - t.pass32) % 2 ^ 32
      if 0 < ahead ∧ ahead < 2 ^ 31 then t.setClose (t.now + ahead) (payAt p 0 8)
      else (t.setClose (t.now + 1) (payAt p 0 8)).bump STRT_CLOSE_LATE_COUNT)

/-- SEALED (R378). -/
def State.onSealed (s : State) (h : FrameHdr) (p : List (BitVec 8)) : State :=
  s.receive h 0x09 p (fun t =>
    (t.setPeer h.src { t.peer h.src with sealed := max (t.peer h.src).sealed (payAt p 0 8) }).sendGroupSealed)

/-- GROUP_SEALED of the master (R189, R378). -/
def State.onGroupSealed (s : State) (h : FrameHdr) (p : List (BitVec 8)) : State :=
  s.receive h 0x0A p (fun t => if t.inGroup ∧ h.src = t.get STRT_STAT_MASTER then t.setGroupSealed (payAt p 0 8) else t)

/-- SAVE of the master starts a save with CAUSE 0b100 (R118, R152, R384). -/
def State.onSave (s : State) (h : FrameHdr) : State :=
  s.receive h 0x10 [] (fun t => if t.inGroup ∧ h.src = t.get STRT_STAT_MASTER then t.startSave 4 t.now else t)

/-- SAVE_START: the member saves, and the master's own save does not start (R384). -/
def State.onSaveStart (s : State) (h : FrameHdr) (p : List (BitVec 8)) : State :=
  s.receive h 0x11 p (fun t => t.setPeer h.src { t.peer h.src with saving := true })

/-- SAVE_END: the member's need is 0 (R383). -/
def State.onSaveEnd (s : State) (h : FrameHdr) (p : List (BitVec 8)) : State :=
  s.receive h 0x12 p (fun t => t.setPeer h.src { t.peer h.src with saving := false, saveDone := true, left := 0 })

/-- MASTER_CLAIM: another device is master; one that was master loses it for good (R21, R379). -/
def State.onClaim (s : State) (h : FrameHdr) (p : List (BitVec 8)) : State :=
  s.receive h 0x30 p (fun t => if t.inGroup then t.newMaster h.src else t)

/-- EVENT ends the WAITs of type STRAIT on its number (R288, R373). -/
def State.onEvent (s : State) (h : FrameHdr) (p : List (BitVec 8)) : State :=
  s.receive h 0x40 p (fun t => t.strtEvent (payAt p 0 1))

/-- A saving member has received no share for 3 × POLL_MS: it goes on with its time account alone (R155). -/
def State.shareTimeout (s : State) : State :=
  match s.save.run, s.inGroup && !s.isMaster with
  | some r, true =>
    let since := match r.gauge with
      | some g => g.2
      | none => r.t0
    if since + 3 * s.cfg SAVE_CUT_POLL_MS * 1000 ≤ s.now then s.setSave { s.save with run := some { r with gauge := none } } else s
  | _, _ => s

/-! ### The group restore point (R186 to R188, R384 to R386) -/

/-- This device's own image status, once its detection has ended. -/
def State.ownStatus (s : State) : Option MemberImage := s.rstr.statuses.find? (fun m => decide (m.member = s.devNo))

/-- Restore point and class under a group point: with a common cut the member keeps its own, else it falls back to G, or
to volatile mode with H below G (R186, R187). -/
def State.takePoint (s : State) : State :=
  match s.rstr.settled, s.ownStatus with
  | some (cut, g), some m =>
    if s.get RSTR_STAT_PHASE ≠ 1 then s
    else if 5 ≤ m.cls ∧ (m.cls = 6 ∨ g = 0) then s.settleClass m.cls 0 m.h
    else if cut ≠ 0 ∧ m.cut = cut then s.settleClass m.cls m.h m.h
    else if g < m.h then s.settleClass 4 g m.h
    else if m.h = g then s.settleClass (if m.cls = 0 ∨ m.cls = 1 then 4 else m.cls) g m.h
    else ((s.put RSTR_STAT_VOL_CAUSE 6).event .lateMember 0x2C [m.member]).settleClass 6 0 m.h
  | _, _ => s

/-- The frame of the group point. -/
def State.sendPoint (s : State) (dst : Option Nat) : State :=
  match s.rstr.settled with
  | some (cut, g) =>
    s.sendFrame 0x21 dst (leBytes 8 g ++ leBytes 1 s.rstr.heardMask ++ leBytes 1 (s.get RSTR_STAT_CASC_PARTIAL) ++ leBytes 8 cut)
  | none => s

/-- The master settles G from the statuses of the expected members that reported, and tells every member (R186, R187, R386). -/
def State.settlePoint (s : State) : State :=
  let l := s.rstr.statuses.filter (fun m => s.expected.contains m.member)
  let everyone := s.expected.all (fun d => l.any (fun m => decide (m.member = d)))
  let cut := (l.head?.map MemberImage.cut).getD 0
  let one := everyone && decide (cut ≠ 0) && l.all (fun m => decide (m.cut = cut ∧ m.groupTag = (l.head?.map MemberImage.groupTag).getD 0))
  let hs := l.map MemberImage.h
  let g := if one then hs.foldl max 0 else hs.foldl min (hs.headD 0)
  let t := (s.setRstr { s.rstr with settled := some (if one then cut else 0, g), heardMask := maskOf (l.map MemberImage.member) }).put
    RSTR_STAT_CASC_PARTIAL (b2n (!everyone))
  (t.sendPoint none).takePoint

/-- A status joins those held. -/
def State.addStatus (s : State) (m : MemberImage) : State :=
  s.setRstr { s.rstr with statuses := s.rstr.statuses.filter (fun x => decide (x.member ≠ m.member)) ++ [m] }

/-- The master settles once every expected member has reported and its own detection has ended (R186). -/
def State.trySettle (s : State) : State :=
  if s.isMaster ∧ s.rstr.settled = none ∧ s.ownStatus.isSome = true
      ∧ s.expected.all (fun d => s.rstr.statuses.any (fun m => decide (m.member = d))) = true
  then s.settlePoint else s

/-- This device's detection has ended: outside a group its class is final; in one it reports, and waits for the group point
(R160, R186, R187). -/
def State.reportImage (s : State) : State :=
  if ¬ s.inGroup then
    let h := s.get64 RSTR_IMG_H_LO_EPOCH
    let c := s.rstr.cls
    s.settleClass c (if 5 ≤ c then 0 else h) h
  else
    let m : MemberImage := ⟨s.devNo, s.arr.groupTag, s.get64 RSTR_IMG_H_LO_EPOCH, s.get64 RSTR_IMG_CUT_LO_CUT, s.rstr.cls⟩
    let x := s.arr.highSealed - m.h
    let t := ((s.addStatus m).setPeer s.devNo { s.peer s.devNo with xseal := x }).sendFrame 0x20 none
      (leBytes 8 m.h ++ leBytes 8 m.cut ++ leBytes 4 m.groupTag ++ leBytes 3 x ++ leBytes 1 m.cls)
    ((t.setRstr { t.rstr with waitFrom := if t.rstr.waitFrom = 0 then t.now else t.rstr.waitFrom }).trySettle).takePoint

/-- IMAGE_STATUS: the master settles once it has every status; after that a late member gets the point already sent, and a
late member that must turn volatile is recorded everywhere (R186, R187). -/
def State.onStatus (s : State) (h : FrameHdr) (p : List (BitVec 8)) : State :=
  s.receive h 0x20 p (fun t =>
    let m : MemberImage := ⟨h.src, payAt p 16 4, payAt p 0 8, payAt p 8 8, payAt p 23 1⟩
    let u := (t.addStatus m).setPeer h.src { t.peer h.src with xseal := payAt p 20 3 }
    match u.rstr.settled with
    | none => u.trySettle
    | some (cut, g) =>
      let v := if m.h < g ∧ ¬ (cut ≠ 0 ∧ m.cut = cut) then u.event .lateMember 0x2C [h.src] else u
      if v.isMaster then v.sendPoint (some h.src) else v)

/-- WAIT_MS passes without every status: the master settles G from those heard (R187). -/
def State.cascadeWaitExpired (s : State) : State :=
  if s.isMaster ∧ s.rstr.settled = none ∧ s.ownStatus.isSome = true
      ∧ s.rstr.waitFrom + s.cfg RSTR_CASC_WAIT_MS * 1000 ≤ s.now then s.settlePoint else s

/-- GROUP_POINT of the master (R186, R187). -/
def State.onPoint (s : State) (h : FrameHdr) (p : List (BitVec 8)) : State :=
  s.receive h 0x21 p (fun t =>
    if t.inGroup = false ∨ h.src ≠ t.get STRT_STAT_MASTER then t
    else
      let u := t.setRstr { t.rstr with settled := some (payAt p 10 8, payAt p 0 8), heardMask := payAt p 8 1 }
      (u.put RSTR_STAT_CASC_PARTIAL (payAt p 9 1 % 2)).takePoint)

end Sys2Proof.Machine
end

