-- ==== Sys2Proof/Machine/Pwr.lean ====
section
/-! DEFINITION. The power states (R520 to R531): requests with their refusals, entries, wakes and exits. -/

namespace Sys2Proof.Machine

/-! ### Refusals (R524, R525) -/

/-- Is DRAM training or retraining on DRC `d`? -/
def State.drcTraining (s : State) (d : Nat) : Bool :=
  s.drc.retraining.any (fun sc => decide (sc / 2 = d))
    || (decide (s.rst.phase = .configured ∧ s.get RST_STAT_START ≠ 1) && !s.flag (DRC_STAT_TRAINED d))

/-- The first of channels 28 to 31 that is running. -/
def State.mgmtRunning (s : State) : Option Nat := [28, 29, 30, 31].find? s.chanRuns

/-- The block that refuses a request for `target`: the first row of R524 that holds, a save before all others; and a request
that meets another entry (0x03). DEDUCED, log 42. -/
def State.refuser (s : State) (target : Nat) : Option Nat :=
  let phase := s.get RSTR_STAT_PHASE
  let inL1 := s.hlk.linkUp && s.hlk.inL1
  if s.saving ∨ s.save.ended ∨ s.save.failed then some 0x28
  else if s.flag FLT_SAFE_SAFE then some 0x90
  else if target ≠ 0 ∧ 1 ≤ phase ∧ phase ≤ 3 then some 0x2C
  else if target = 2 ∧ 1 ≤ s.get SVC_STAT_STATE ∧ s.get SVC_STAT_STATE ≤ 4 then some 0x9C
  else if target = 2 ∧ s.flag ATOL_PROT_WIPING = true then some 0x80
  else if target ≠ 0 ∧ s.drcTraining 0 = true then some 0x50
  else if target ≠ 0 ∧ s.drcTraining 1 = true then some 0x54
  else if target = 1 ∧ inL1 = false then some 0x10
  else if target = 2 ∧ s.hlk.linkUp = true ∧ s.hlk.inL2 = false ∧ s.hlk.memEnable = true then some 0x10
  else if target = 2 ∧ s.mgmtRunning.isSome = true then some (0x30 + s.mgmtRunning.getD 0)
  else if target = 2 ∧ s.active = true ∧ s.flag SAVE_STAT_ARMED = false then some 0x28
  else if s.pwr.entering.isSome then some 0x03
  else none

/-! ### Requests (R521 to R523, R526) -/

/-- An entry to `target` begins; Glen firmware goes to its stop point (R523 steps 1 and 2). -/
def State.beginEntry (s : State) (target : Nat) : State :=
  (s.setPwr { s.pwr with entering := some target, leftState := s.get PWR_STAT_STATE, since := s.now, switching := false }).put
    PWR_MODE_TARGET target

/-- RUN is requested: in TERRACE and BASIN, and while an entry switches, it is a wake; where RUN is in force it does nothing
(R526, R527). -/
def State.requestRun (s : State) : State :=
  if s.flag PWR_STAT_ENTERING ∧ s.saving = false then s.wake 3
  else if s.get PWR_STAT_STATE = 0 then s
  else
    match s.refuser 0 with
    | some b => s.pwrRefuse b 0 false
    | none => s.wake 3

/-- A state is requested through PWR_MODE.TARGET, or by Glen firmware: 3 stands for the state in force, and a request that
names it does nothing (R521, R523, R524). -/
def State.requestState (s : State) (target : Nat) : State :=
  if target = 3 then s.put PWR_MODE_TARGET (s.get PWR_STAT_STATE)
  else if target = 0 then s.requestRun
  else if target = s.get PWR_STAT_STATE then s
  else
    match s.refuser target with
    | some b => s.pwrRefuse b target false
    | none => s.beginEntry target

/-- The link has been in L1 for TERRACE_IDLE_US with AUTO_TERRACE at 1: Glen firmware requests TERRACE, once in that stay;
`leaves` when the link leaves L1 in that cycle (R522, R524). -/
def State.autoTerrace (s : State) (leaves : Bool) : State :=
  match s.pwr.l1Since with
  | none => s
  | some t =>
    if s.served && s.cfgOn PWR_MODE_AUTO_TERRACE && decide (t + s.cfg PWR_CFG_TERRACE_IDLE_US ≤ s.now ∧ s.get PWR_STAT_STATE = 0)
    then
      let u := s.setPwr { s.pwr with l1Since := none }
      if leaves then (u.l1Exit).requestState 1 else u.requestState 1
    else s

/-- After PME_Turn_Off the link enters L2, and Glen firmware requests BASIN (R336, R522). -/
def State.l2Entry (s : State) : State :=
  if s.hlk.linkUp ∧ s.hlk.inL2 = false then
    let t := (s.setHlk { s.hlk with inL1 := false, inL2 := true }).put HLK_LINK_LTSSM 0x16
    let u := t.setPwr { t.pwr with l1Since := none }
    if u.served then u.requestState 2 else u
  else s

/-! ### Entries (R523, R527, R528) -/

/-- Has Glen firmware reached its stop point: for BASIN no copy in the staging banks, the last tail complete, channels 0 to 23
halted (R523 step 2)? -/
def State.atStopPoint (s : State) (target : Nat) : Bool :=
  decide (target ≠ 2) || (!s.pers.copies.any Copy.inStaging && s.pers.tail.isNone
    && (List.range 24).all (fun c => !s.chanRuns c))

/-- Every running core is in WAIT: ENTERING, and PWR switches the domains (R523 steps 3 and 4). -/
def State.stopPoint (s : State) : State :=
  match s.pwr.entering with
  | none => s
  | some target =>
    if s.served && !s.pwr.switching && s.atStopPoint target then
      let t := (s.setPwr { s.pwr with switching := true }).put PWR_STAT_ENTERING 1
      if target = 2 then t.switchScopes else t
    else s

/-- The scopes of a switch that is over: their shadow ends two passes from now (R425). -/
def State.settleScopes (s : State) : State :=
  s.setFlt { s.flt with scopes := s.flt.scopes.map (fun c => if c.parent = 0 ∧ c.phase = .settling then { c with since := s.now } else c) }

/-- What BASIN turns off: the clocks, DRAM in self-refresh, HOST with its link, the Glen cores (R520, R528). -/
def State.toBasin (s : State) : State :=
  let t := (((s.dropLink).clocksOff).put PWR_STAT_DOM_ON 0b000000111).settleScopes
  let u := t.setRst { t.rst with selfRefresh := true }
  ((List.range 4).foldl (fun (v : State) k => v.put (GLC_STAT_STATE k) 0) u).setDrc { u.drc with rows := [], owed := [] }

/-- TERRACE throttles the Glen cores (R520, R528). -/
def State.toTerrace (s : State) : State := (List.range 4).foldl (fun (t : State) k => t.put (GLC_STAT_STATE k) 3) s

/-- A wake latched during the entry is replayed: the exit starts (R527). -/
def State.replayWake (s : State) : State :=
  if s.flag PWR_STAT_WAKE_LATCHED then
    let t := ((s.put PWR_STAT_WAKE_LATCHED 0).bump PWR_WAKE_REPLAY_COUNT).raiseInt 0x03 3
    (t.setPwr { t.pwr with wakeCode := none }).wake (s.pwr.wakeCode.getD 0)
  else s

/-- The last domain reports ready: STATE takes the target and ENTERED is raised; a wake latched meanwhile is replayed (R523
step 5, R527). -/
def State.domainReady (s : State) : State :=
  match s.pwr.entering, s.pwr.switching with
  | some target, true =>
    let t := (s.setPwr { s.pwr with entering := none, switching := false, enteredAt := s.now }).put PWR_STAT_ENTERING 0
    let u := if target = 2 then t.toBasin else t.toTerrace
    let v := ((u.put PWR_STAT_STATE target).put PWR_T_ENTRY_US_US (s.now - s.pwr.since)).raiseInt 0x03 0
    v.replayWake
  | _, _ => s

/-- The first page of power domain `d` (R525). -/
def firstPage (d : Nat) : Nat := ((List.range 256).find? (fun p => implemented p && decide (domainOf p = d))).getD 0

/-- Domain `d` does not report ready within 1 ms: the entry is aborted, and a wake latched in it is gone with it; `late` when
it reports in that cycle (R523, R525). -/
def State.domainTimeout (s : State) (d : Nat) (late : Bool) : State :=
  match s.pwr.entering, s.pwr.switching with
  | some target, true =>
    if late then s.lateOk 0x03
    else
      let t := (s.setPwr { s.pwr with entering := none, switching := false, wakeCode := none }).settleScopes
      let u := (t.put PWR_STAT_ENTERING 0).put PWR_STAT_WAKE_LATCHED 0
      (u.raiseFault 0x03 0 7 0).pwrRefuse (firstPage d) target true
  | _, _ => s

/-! ### Exits (R526, R531) -/

/-- BASIN is left: clocks, domains, DRAM and the Glen cores are back, and a deferred flush is made (R449, R528, R531). -/
def State.fromBasin (s : State) : State :=
  let t := (((s.clocksOn).put PWR_STAT_DOM_ON 0x1FF).settleScopes).setRst { s.rst with selfRefresh := false }
  if 128 ≤ t.recd.ring.length then t.flush else t

/-- An exit to RUN completes (R531). -/
def State.exitDone (s : State) : State :=
  if s.flag PWR_STAT_EXITING then
    let t := if s.get PWR_STAT_STATE = 2 then s.fromBasin else s
    let u := (List.range 4).foldl (fun (v : State) k => v.put (GLC_STAT_STATE k) 1) t
    let v := (u.put PWR_STAT_EXITING 0).put PWR_STAT_STATE 0
    (v.put PWR_T_EXIT_US_US (s.now - s.pwr.since)).raiseInt 0x03 1
  else s

/-- Time spent in TERRACE and BASIN, in milliseconds (R533). -/
def State.countStay (s : State) : State :=
  if s.now ≤ s.pwr.enteredAt ∨ (s.now - s.pwr.enteredAt) % 1000 ≠ 0 then s
  else if s.get PWR_STAT_STATE = 1 then s.bump64 PWR_TERRACE_MS_LO_MS
  else if s.get PWR_STAT_STATE = 2 then s.bump64 PWR_BASIN_MS_LO_MS
  else s

end Sys2Proof.Machine
end

