-- ==== Sys2Proof/Machine/Rec.lean ====
section
/-! DEFINITION. The event recorder's own steps (R438, R442, R445, R447 to R454): hours, freezes, flushes to the Atoll ring with
the erase ahead, and reads of records. What makes a record is in Flags. -/

namespace Sys2Proof.Machine

/-! ### Hours and freezes (R438, R442, R453) -/

/-- A tenth of a second of operating time passes (R442). -/
def State.countTenth (s : State) : State := (s.setRecd { s.recd with tenths := s.recd.tenths + 1 }).refreshHours

/-- An hour of operating time has passed without another record: the HOURS note, subject to EN and a freeze (R438, R453). -/
def State.hoursNote (s : State) : State :=
  if s.recd.tenths < s.recd.lastRecordTenths + 36000 then s
  else if ¬ s.cfgOn REC_CTRL_EN then s.bump REC_FROZEN_CNT_COUNT
  else if s.recd.frozen then
    (s.bump REC_FROZEN_CNT_COUNT).setRecd { s.recd with frozenEvents := s.recd.frozenEvents + 1 }
  else s.note 2 0

/-- REC_CTRL.FREEZE reads 1 or 0 after a write: the freeze begins or ends in that cycle (R453). -/
def State.freezeWritten (s : State) : State :=
  if s.flag REC_CTRL_FREEZE then
    if s.recd.frozen then s
    else (s.setRecd { s.recd with frozen := true, frozenEvents := 0, frozenAt := s.now }).put REC_STAT_FROZEN 1
  else s.endFreeze

/-- FREEZE_S seconds pass (R453). -/
def State.freezeTimeout (s : State) : State :=
  if s.recd.frozen ∧ s.recd.frozenAt + s.cfg REC_CFG_FREEZE_S * 1000000 ≤ s.now then s.endFreeze else s

/-- A write to REC_TRIGn or to a REC_SNAPn_k applies at the next tick, which raises SET_GEN of set `n` (R445). -/
def State.setTouched (s : State) (n : Nat) : State := s.setRecd { s.recd with setDirty := insertNat s.recd.setDirty n }

/-- At a tick SET_GEN of the sets written rises (R445). -/
def State.raiseSetGen (s : State) : State :=
  s.setRecd { s.recd with
    setGen := (List.range 4).map (fun n => if s.recd.setDirty.contains n then (s.recd.setGen.getD n 0 + 1) % 65536 else s.recd.setGen.getD n 0)
    setDirty := [] }

/-! ### The Atoll ring (R448 to R450, R453) -/

/-- The erase ahead: the block behind the open one is erased, so that at most 30 whole blocks and the open one hold records;
not in a freeze (R448, R453). -/
def State.eraseAhead (s : State) : State :=
  if s.recd.frozen then s
  else
    let keep := 15360 + (if s.recd.slotAge = 0 then 0 else (s.recd.slotAge - 1) % 512 + 1)
    if s.recd.atoll.length ≤ keep then s
    else
      let t := s.clearBlock (94 + (s.recd.slotAge - s.recd.atoll.length) % 16384 / 512)
      (t.setRecd { t.recd with atoll := t.recd.atoll.drop (t.recd.atoll.length - keep) }).recRange

/-- Is the next slot erased: its block was erased ahead, when it is the first of its block (R448, R453)? -/
def State.slotFree (s : State) : Bool := decide (s.recd.slotAge % 512 ≠ 0 ∨ s.recd.atoll.length ≤ 15872)

/-- A record takes the next slot of the Atoll ring, four code words; one that failed to program marks its block (R448, R465). -/
def State.putSlot (s : State) (r : RecRec) : State :=
  let b := 94 + s.recd.slotAge % 16384 / 512
  let t := (s.setRecd { s.recd with atoll := s.recd.atoll ++ [r], slotAge := s.recd.slotAge + 1 }).bump64By ATOL_PROGS_LO_COUNT 4
  (if r.good then t else t.markWorn b).eraseAhead

/-- The oldest record of the SRAM ring is programmed; a first program that failed leaves a slot with a bad CRC (R447, R448). -/
def State.flushRecord (failed : List Nat) (s : State) (r : RecRec) : State :=
  if ¬ s.slotFree then s.put REC_STAT_STALLED 1
  else
    let t := if failed.contains r.rseq then (s.putSlot { r with good := false }).raiseFault 0x94 1 7 0 else s
    if ¬ t.slotFree then t.put REC_STAT_STALLED 1
    else (t.putSlot r).setRecd { (t.putSlot r).recd with ring := t.recd.ring.filter (fun q => decide (q.rseq ≠ r.rseq)) }

/-- A flush programs the records it was asked for, in the order of RSEQ; `failed` names those whose first program failed. It
ends with FLUSH_DONE, or waits, STALLED, for an erased slot (R448 to R450, R453). -/
def State.flushDone (s : State) (failed : List Nat) : State :=
  if s.recd.flushing then
    let l := s.recd.ring.filter (fun r => decide (r.rseq < s.recd.flushTo % 2 ^ 32))
    let t := (l.foldl (State.flushRecord failed) (s.put REC_STAT_STALLED 0)).recRange
    if t.flag REC_STAT_STALLED then t
    else ((t.setRecd { t.recd with flushing := false }).put REC_STAT_FLUSHING 0).raiseInt 0x94 3
  else s

/-! ### Reading records (R452) -/

/-- REC_RD_SEQ was written: DONE clears, and the read begins. -/
def State.beginRecRead (s : State) (p : Port) : State :=
  (s.put (REC_RD_STAT_DONE.at p) 0).setRecd { s.recd with
    reads := s.recd.reads.filter (fun r => decide (r.reader ≠ p)) ++ [⟨p, s.get (REC_RD_SEQ_RSEQ.at p)⟩] }

/-- The words of a reader's window. -/
def State.setRecWords (s : State) (p : Port) (ws : List Word) : State :=
  (List.range 32).foldl (fun (t : State) k => t.setWord (perKey p (0x94280 + 4 * k)) (ws.getD k 0)) s

/-- The record with a sequence number, from whichever ring holds it, and whether it lies in Atoll. -/
def State.recordAt (s : State) (n : Nat) : Option (RecRec × Bool) :=
  match s.recd.ring.find? (fun r => decide (r.rseq = n)) with
  | some r => some (r, false)
  | none => (s.recd.atoll.find? (fun r => decide (r.rseq = n) && r.good)).map (fun r => (r, true))

/-- 32 free words: what a record with a bad CRC reads as is open. -/
def State.freeWords (s : State) : List Word := (List.range 32).map (fun k => BitVec.ofNat 32 (Config.freeValue (s.freeCtr + k)))

/-- A window read ends: OK, BAD or GONE; `bad` and `early` are what the read of Atoll found (R452, R454). -/
def State.recReadDone (s : State) (p : Port) (bad early : Bool) : State :=
  match s.recd.reads.find? (fun r => decide (r.reader = p)) with
  | none => s
  | some r =>
    let t := s.setRecd { s.recd with reads := s.recd.reads.filter (fun q => decide (q.reader ≠ p)) }
    let fin := fun (u : State) (outcome : Nat) (e : Bool) =>
      ((u.put (REC_RD_STAT_OUTCOME.at p) outcome).put (REC_RD_STAT_EARLY.at p) (b2n e)).put (REC_RD_STAT_DONE.at p) 1
    if r.rseq < s.get REC_OLDEST_RSEQ ∨ s.get REC_NEWEST_RSEQ < r.rseq then fin t 2 false
    else
      match s.recordAt r.rseq with
      | some (x, far) =>
        if far && bad then fin { t.setRecWords p t.freeWords with freeCtr := t.freeCtr + 32 } 1 early
        else fin (t.setRecWords p x.words) 0 (far && early)
      | none => fin { t.setRecWords p t.freeWords with freeCtr := t.freeCtr + 32 } 1 false

/-- RING_UE: a record of the SRAM ring is discarded and counted as lost (R454). -/
def State.ringUe (s : State) (k : Nat) : State :=
  match s.recd.ring[k]? with
  | none => s
  | some r => ((s.setRecd { s.recd with ring := s.recd.ring.filter (fun q => decide (q.rseq ≠ r.rseq)) }).bump REC_LOST_COUNT).recRange

/-- REC at a tick: the mode of a flush that runs, the erase ahead after a freeze, and SET_GEN (R445, R448, R450). -/
def State.recTick (s : State) : State :=
  let t := if s.recd.flushing then s.put REC_STAT_DIRECT (b2n s.directMode) else s
  (t.eraseAhead).raiseSetGen

end Sys2Proof.Machine
end

