-- ==== Sys2Proof/Machine/Epoch.lean ====
section
/-! DEFINITION. PERS's timed steps: the pass scheduler's allotment (R66 to R68, R535), budget computations and stale gauges (R76
to R79), paced and late admissions (R83, R84), the levels' releases (R114), seals with generations and the plan (R71, R124,
R228), and the ends of sweeps (R99, R100). -/

namespace Sys2Proof.Machine

/-! ### The pass scheduler (R66 to R68) -/

/-- The minimum share of class `c` in force: the shadow's is raised at level 1 and above (R67). -/
def State.minShare (s : State) (c : Nat) : Nat :=
  if c = 0 ∧ 1 ≤ s.level then max (s.cfg (PERS_SHARE_MIN 0)) (s.cfg PERS_BOOST_SHADOW_BOOST) else s.cfg (PERS_SHARE_MIN c)

/-- The maximum share of class `c` in force: in TERRACE the shadow's is TERRACE_SHARE, and upkeep runs at its minimum (R520,
R533, R535). -/
def State.maxShare (s : State) (c : Nat) : Nat :=
  if s.get PWR_STAT_STATE = 1 then
    if c = 0 then min (s.cfg (PERS_SHARE_MAX 0)) (s.cfg PWR_CFG_TERRACE_SHARE) else s.cfg (PERS_SHARE_MIN c)
  else s.cfg (PERS_SHARE_MAX c)

/-- Step 3 of R67: what is left goes to the classes with pending work in the table's order, each up to its maximum. -/
def giveOut : Nat → List (Nat × Nat) → List Nat
  | _, [] => []
  | left, (minimum, maximum) :: t =>
    let extra := min left (maximum - minimum)
    (minimum + extra) :: giveOut (left - extra) t

/-- The allotment of one resource: `used` units went to the foreground in the pass before, and the classes in the mask
`pending` have work (R67). -/
def State.allotOne (s : State) (used pending : Nat) : List Nat :=
  let l := (List.range 5).map (fun c => if bitOf pending c then (s.minShare c, max (s.minShare c) (s.maxShare c)) else ((0, 0) : Nat × Nat))
  let aside := (l.map (·.1)).foldl (· + ·) 0
  giveOut (64 - aside - min used (64 - aside)) l

/-- The allotment of the four resources at a tick: DRAM command slots, flash channel slots, staging bandwidth, mover bursts. -/
def State.allotAll (s : State) (used : List Nat) (pending : Nat) : State :=
  s.setPers { s.pers with allot := (List.range 4).flatMap (fun r => s.allotOne (used.getD r 0) pending) }

/-- The units of an item of class `c` that is still running are charged to its class in this pass (R68). -/
def chargeUnits (allot : List Nat) (c units : Nat) : List Nat :=
  (List.range allot.length).map (fun k => if k % 5 = c then allot.getD k 0 - units else allot.getD k 0)

/-- An item is still running at the tick: class and units (R68). -/
def State.passOverrun (s : State) (e : Nat × Nat) : State :=
  ((s.setPers { s.pers with allot := chargeUnits s.pers.allot e.1 e.2 }).bump PERS_OVERRUN_COUNT).raiseFault 0x20 0 7 0

/-- The units a class has left of DRAM command slots in this pass (R67, R103). -/
def State.unitsOf (s : State) (c : Nat) : Nat := s.pers.allot.getD c 0

/-! ### The budget (R76 to R81, R83, R84, R114) -/

/-- Does PERS run: clocked, enabled, past the start's configuration, no save? -/
def State.persRuns (s : State) : Bool :=
  s.served && s.flag (PAGE_CTRL_EN 0x20) && !s.gated 0x20 && !s.inReset 0x20 && !s.saving && decide (s.get PWR_STAT_STATE ≠ 2)

/-- Every 100 passes the budget is computed; the master sends shares of its reading (R76, R382). DESIGN CHOICE, log 4. -/
def State.budgetDue (s : State) (tj : Int) : State :=
  if s.persRuns then (s.computeBudget tj).sendShares else s

/-- No good reading is younger than STALE_MS: GAUGE_STALE (R78, R586); `late` when one completes in that cycle (R488). -/
def State.gaugeStale (s : State) (late : Bool) : State :=
  match s.pers.gauge with
  | none => s
  | some _ =>
    if s.fresh s.pers.gauge ∨ s.flag PERS_STAT_GAUGE_STALE = true ∨ s.persRuns = false then s
    else if late then s.lateOk 0x20
    else ((s.put PERS_STAT_GAUGE_STALE 1).raiseInt 0x20 2).raiseFault 0x20 2 5 0x200CC

/-- A good reading of the gauge, taken `ago` passes before now (R78, R79). -/
def State.goodReading (s : State) (mj ago : Nat) : State :=
  (s.setPers { s.pers with gauge := some (mj, s.now - ago), own := some (mj, s.now - ago) }).put PERS_STAT_GAUGE_STALE 0

/-- At level 4 the head of the hold queue is admitted once SPACING passes have gone by (R83). -/
def State.paceAdmit (s : State) : State :=
  if s.level = 4 ∧ s.holding = true ∧ s.pers.lastAdmit + s.cfg PERS_BP_SPACING ≤ s.now then s.admitHead else s

/-- At level 5 a write that has waited HOLD_MAX is admitted, counted, raised and recorded (R84, R586).
DEDUCED, log 34. DEDUCED, log 56. -/
def State.holdMaxAdmit (s : State) : State :=
  match s.pers.hold with
  | [] => s
  | h :: _ =>
    if s.level = 5 ∧ s.holding = true ∧ h.since + s.cfg PERS_BP_HOLD_MAX ≤ s.now then
      let i := h.req.line / 1024
      let t := ((s.bump PERS_BP_OVR_COUNT).raiseInt 0x20 4).raiseFault 0x20 1 0x0A i
      (t.event .budgetOverride 0x20 [i]).admitHead
    else s

/-- The level at the tick; when nothing is to be held any more, every held write is admitted in order (R80, R86, R114). -/
def State.levelTick (s : State) : State :=
  let t := s.evalLevel
  if ¬ t.holding ∧ (t.pers.hold ≠ [] ∨ t.pers.recWait ≠ []) then t.admitAll else t.refreshHlk

/-! ### Seals and tails (R71, R97, R124, R228, R377, R378) -/

/-- The journal band's capacity in codewords (R213, R218): its skerries by 128 mirrored positions a row. -/
def ModuleCfg.journalCw (m : ModuleCfg) : Nat := m.journalBand * m.positions

/-- Does a new generation start: the journal has grown beyond a quarter of the band since the last one, or none is left, and none is
being written (R228)? -/
def State.generationDue (s : State) : Bool :=
  decide (s.mdl.journalCw < 4 * s.arr.journalPages ∨ s.media.gens = []) && s.media.gens.all (fun g => decide (g.recWseq ≠ 0))

/-- The journal of the tail's epoch `n`, closed by its seal: what was written in it is in place, the generation whose checkpoint is
written gets its record, and another starts when it is due (R71, R207, R219 to R228). -/
def State.journalEpoch (s : State) (n again : Nat) : State :=
  let t := (((s.closeFold).sealJournal n 1 none again).dropVoid).endGeneration
  let u := t.setArr { t.arr with
    journalPages := (if t.arr.generation = s.arr.generation then s.arr.journalPages else 0) + (t.media.wseq - s.media.wseq) }
  if u.generationDue then u.startGeneration n else u

/-- The plan has not been re-armed for 100 seals (R124). -/
def State.planStale (s : State) : State := if s.save.planSeals = 100 then s.raiseFault 0x29 1 7 0 else s

/-- The seal of the tail's epoch reads back good, after `again` failed copies of it (R71, R89, R219, R378); Glen firmware re-arms the plan or
not (R124). -/
def State.sealRead (s : State) (rearmed : Bool) (again : Nat) : State :=
  match s.pers.tail with
  | none => s
  | some t =>
    if t.sealed ∨ s.saving ∨ s.save.ended ∨ s.save.failed then s
    else
      let j := (s.journalEpoch t.epoch again).sealEpoch t.epoch rearmed
      let u := j.setPers { j.pers with tail := some { t with sealed := true } }
      let v := if rearmed then u else u.planStale
      (v.sendSealed t.epoch).checkGroupSealed

/-- The walk of the frozen plane completes (R97). -/
def State.walkDone (s : State) : State := if s.saving then s else s.endWalk

/-- The clear of the frozen plane completes the tail, which is reported to the master (R71, R377). -/
def State.planeCleared (s : State) : State :=
  match s.pers.tail with
  | none => s
  | some t =>
    if t.walked ∧ t.sealed ∧ s.saving = false then
      ((s.setPers { s.pers with clearedAt := some s.now }).clearPlane).sendTailDone t.epoch
    else s

/-! ### Sweeps (R99, R100) -/

/-- An overflow sweep round completes, every eligible COOLING islet offered: sweep mode ends when the round began after appends resumed, else another begins (R99). -/
def State.sweepRoundDone (s : State) : State :=
  if s.flag PERS_SHD_STAT_SWEEP = false ∨ s.saving = true ∨ s.sweepOffer.isSome = true then s
  else if s.pers.sweepFresh then (s.put PERS_SHD_STAT_SWEEP 0).setPers { s.pers with sweepFresh := false, sweepPos := 0 }
  else s.setPers { s.pers with sweepFresh := !s.pers.appendStopped, sweepPos := 0 }

/-- A barrier sweep completes (R100). -/
def State.barSweepDone (s : State) : State := if s.saving then s else s.endBarSweep

/-! ### Copies and stripes (R104, R207) -/

/-- The last line of islet `i`'s copy arrives; full stripes are programmed (R104, R207). DESIGN CHOICE, log 3. -/
def State.readEnded (s : State) (i : Nat) : State :=
  if s.saving then s else ((s.endRead i).formStripe false false).formStripe true false

/-- The oldest staged copy of a mode has waited 200 passes: its stripe is programmed with pad cells (R207). -/
def State.stripeAge (s : State) (slc : Bool) : State :=
  if ¬ s.saving ∧ (s.unstriped slc).any (fun c => decide (c.stagedAt + 200 ≤ s.now)) = true then s.formStripe slc true else s

end Sys2Proof.Machine
end

