-- ==== Sys2Proof/Machine/Upk.lean ====
section
/-! DEFINITION. Background upkeep and telemetry (R534 to R552): the patrol scrub's due lines, the retention round, the
calibrations, the capacity test, WEAR_HORIZON, and the telemetry sample. -/

namespace Sys2Proof.Machine

/-- Does the block on page `p` do upkeep now: Glen firmware runs, the page is enabled, clocked and out of reset, no save runs
or has ended, and the state is not BASIN (R535)? DEDUCED, log 45. -/
def State.upkeepRuns (s : State) (p : Nat) : Bool :=
  s.served && s.flag (PAGE_CTRL_EN p) && !s.gated p && !s.inReset p && !s.saving && !s.save.ended
    && decide (s.get PWR_STAT_STATE ≠ 2)

/-! ### The patrol scrub (R536 to R539) -/

/-- Lines of a scrub round: DRAM without its training area (R303, R536). -/
def ModuleCfg.scrubLines (m : ModuleCfg) : Nat := m.dramGiB * 2 ^ 24 - 2 ^ m.lrb * 16384

/-- RATE of R536, in 1/65,536 line per pass. -/
def State.scrubRate (s : State) : Nat := ceilDiv (s.mdl.scrubLines * 65536) (s.cfg DSCR_CFG_ROUND_H * 3600000000)

/-- At the tick the accumulator takes RATE, and every whole 65,536 makes a line fall due; a round begins with the accumulator
at 0 (R536). -/
def State.scrubTick (s : State) : State :=
  if s.upkeepRuns 0x5C && s.cfgOn DSCR_CTRL_EN && decide (s.rst.phase ≠ .configured) then
    let t := if s.dscr.roundOpen then s else
      s.setDscr { s.dscr with roundOpen := true, roundBegan := s.now, acc := 0, due := 0, lateRaised := false }
    let a := t.dscr.acc + s.scrubRate
    (t.setDscr { t.dscr with acc := a % 65536, due := t.dscr.due + a / 65536 }).put DSCR_RATE_RATE s.scrubRate
  else s

/-- A value for a field of `w` bits; where it does not fit, or the spec states no result, the `k`th free value from here. -/
def State.fitOrFree (s : State) (k w : Nat) (v : Option Nat) : Nat :=
  match v with
  | some n => if n < 2 ^ w then n else Config.freeValue (s.freeCtr + k) % 2 ^ w
  | none => Config.freeValue (s.freeCtr + k) % 2 ^ w

/-- The next `n` free values count as drawn. -/
def State.drawnBy (s : State) (n : Nat) : State := { s with freeCtr := s.freeCtr + n }

/-- The round has read its last line (R322, R536, R551). -/
def State.endRound (s : State) : State :=
  let t := (s.setDscr { s.dscr with roundOpen := false, acc := 0, due := 0 }).setDrc { s.drc with devCorr := [] }
  let u := (t.put64 DSCR_POS_LO_ADDR 0).bump DSCR_ROUND_COUNT
  ((u.drawnBy 1).put DSCR_ROUND_T_MIN (u.fitOrFree 0 24 (some ((s.now - s.dscr.roundBegan) / 60000000)))).raiseInt 0x5C 0

/-- The next due line of the scrub issues: it is read with hint CLOSE, or skipped while its islet is not restored (R174, R309,
R536, R538). -/
def State.scrubLine (s : State) : State :=
  if s.upkeepRuns 0x5C = false ∨ s.dscr.due = 0 then s
  else
    let line := s.get64 DSCR_POS_LO_ADDR / 64
    let t := s.setDscr { s.dscr with due := s.dscr.due - 1 }
    let u := if line < s.mdl.hostLines ∧ s.isRestored (line / 1024) = false then t.bump DSCR_SKIP_COUNT else t.drcRead (.share 2) line 2
    if s.mdl.scrubLines ≤ line + 1 then u.endRound else u.put64 DSCR_POS_LO_ADDR ((line + 1) * 64)

/-- A round takes more than one-eighth beyond ROUND_H: ROUND_LATE, once in a round (R537). -/
def State.roundLate (s : State) : State :=
  if s.dscr.roundOpen ∧ s.dscr.lateRaised = false ∧ s.gated 0x5C = false
      ∧ s.cfg DSCR_CFG_ROUND_H * 3600000000 * 9 / 8 < s.now - s.dscr.roundBegan then
    (((s.setDscr { s.dscr with lateRaised := true }).raiseInt 0x5C 1).raiseFault 0x5C 0 7 0)
  else s

/-- A write to DSCR_MPOP removes the head of the marked-islet list (R551). -/
def State.markPop (s : State) : State := s.setDscr { s.dscr with marks := s.dscr.marks.drop 1 }

/-! ### Flash scans (R540 to R542) -/

/-- A day of operating time in µs. -/
def dayUs : Nat := 86400000000

/-- A retention round begins: RET_DAYS after the last one began, or at RESTORE_DONE of a cold start. It reads three rows of
every written block of the skerries that hold a live copy (R540). -/
def State.retentionDue (s : State) (restored : Bool) : State :=
  let first := s.upk.retFirst && decide (s.get RSTR_STAT_PHASE = 4)
  let due := decide (s.upk.retAt + s.cfg UPK_SCAN_RET_DAYS * dayUs ≤ s.now)
  if s.upkeepRuns 0xA0 && !s.flag UPK_STAT_RET_RUN && (if restored then first else due) then
    let l := ((s.farr.blocks.filter (fun e => decide (e.2.bstate = 1 ∨ e.2.bstate = 2) &&
      (s.liveIn (s.skerryOf (e.1 / 1048576) (e.1 / 65536 % 16) (e.1 % 16384))).isSome)).map (·.1)).flatMap (fun k => [k, k, k])
    let t := s.setUpk { s.upk with scan := l, retAt := s.now, retFirst := false }
    (t.put UPK_STAT_SCAN_LATE 0).put UPK_STAT_RET_RUN (b2n (decide (l ≠ [])))
  else s

/-- A retention round runs longer than its interval (R542). -/
def State.scanLate (s : State) : State :=
  if s.flag UPK_STAT_RET_RUN ∧ s.flag UPK_STAT_SCAN_LATE = false ∧ s.gated 0xA0 = false
      ∧ s.upk.retAt + s.cfg UPK_SCAN_RET_DAYS * dayUs < s.now then
    ((s.put UPK_STAT_SCAN_LATE 1).raiseInt 0xA0 3).raiseFault 0xA0 1 7 0
  else s

/-! ### Calibrations (R543, R544) -/

/-- The keys of the calibrations: ZQ and the DQS oscillator of a logical rank, ONFI ZQ of a channel, the read-offset sweep of
a 16-block group. -/
def zqKey (sc lrank : Nat) : Nat := rankKey sc lrank
def oscKey (sc lrank : Nat) : Nat := 64 + rankKey sc lrank
def onfiKey (c : Nat) : Nat := 128 + c
def fcalKey (c d p group : Nat) : Nat := 256 + blockKey c d p group

/-- When calibration `k` last ran. -/
def State.lastRun (s : State) (k : Nat) : Option (Nat × Int) := Sparse.get (fun _ => none) s.upk.ran k

/-- A sensor moved by TEMP_STEP or more since the last run of a calibration that has a key from `lo` to below `hi`: it falls
due (R543). -/
def State.tempTrigger (s : State) (lo hi : Nat) (temp : Int) : State :=
  let moved := s.upk.ran.filter (fun e => decide (lo ≤ e.1 ∧ e.1 < hi) && (match e.2 with
    | some r => decide ((s.cfg UPK_CAL2_TEMP_STEP : Int) ≤ temp - r.2 ∨ (s.cfg UPK_CAL2_TEMP_STEP : Int) ≤ r.2 - temp)
    | none => false))
  s.setUpk { s.upk with due := (moved.map (·.1)).foldl insertNat s.upk.due }

/-- Is calibration `k` due: by its interval in µs, or by a temperature? DESIGN CHOICE, log 4. -/
def State.calDue (s : State) (k interval : Nat) : Bool :=
  s.upkeepRuns 0xA0 && (s.upk.due.contains k || (match s.lastRun k with
    | some r => decide (r.1 + interval ≤ s.now)
    | none => decide (s.rst.startedAt + interval ≤ s.now)))

/-- Calibration `k` runs at a temperature. -/
def State.calRun (s : State) (k : Nat) (temp : Int) : State :=
  s.setUpk { s.upk with ran := Sparse.set (fun _ => none) s.upk.ran k (some (s.now, temp)), due := dropNat s.upk.due k }

/-- A rank leaves power-down for its calibration, as for a request (R316, R544). -/
def State.wakeLogical (s : State) (sc lrank : Nat) : State :=
  let r := if s.mdl.rank2 then lrank / 2 ^ s.mdl.height else 0
  let m := s.get (DRC_STAT_PD_RANKS (sc / 2))
  if bitOf m r then s.put (DRC_STAT_PD_RANKS (sc / 2)) (m - 2 ^ r) else s

/-- Does the module have this logical rank, trained and not being retrained? -/
def State.hasRank (s : State) (sc lrank : Nat) : Bool :=
  decide (sc < 4 ∧ lrank < 2 ^ s.mdl.lrb) && s.flag (DRC_STAT_TRAINED (sc / 2)) && !s.drc.retraining.contains sc

/-- ZQ calibration of a logical rank (R543, R544). -/
def State.zqDue (s : State) (sc lrank : Nat) : State :=
  if s.hasRank sc lrank && s.calDue (zqKey sc lrank) (s.cfg UPK_CAL_ZQ_MS * 1000) then
    (s.wakeLogical sc lrank).calRun (zqKey sc lrank) s.pers.tj
  else s

/-- The DQS oscillator of a logical rank is read: a drift above DRIFT_PS adjusts its write delays at the next refresh (R543). -/
def State.oscDue (s : State) (sc lrank drift : Nat) : State :=
  if s.hasRank sc lrank && s.calDue (oscKey sc lrank) (s.cfg UPK_CAL_OSC_MS * 1000) then
    let t := (s.wakeLogical sc lrank).calRun (oscKey sc lrank) s.pers.tj
    if s.cfg UPK_CAL2_DRIFT_PS < drift then t.setUpk { t.upk with dqDue := insertNat t.upk.dqDue (rankKey sc lrank) } else t
  else s

/-- The retry level with the fewest corrected bits of those one below, at, and one above the group's own (R543).
DEDUCED, log 45. -/
def bestLevel (level below at' above : Nat) : Nat :=
  if 0 < level ∧ below < at' ∧ below ≤ above then level - 1 else if above < at' then level + 1 else level

/-- The read offset of a 16-block group is swept in the mode of its first block, one codeword read a level (R246, R543). DEDUCED, log 45. -/
def State.fcalDue (s : State) (c d p group below at' above : Nat) : State :=
  if decide (c < 16) && decide ((s.die c d).st = 1) && s.calDue (fcalKey c d p group) (s.cfg UPK_CAL2_FCAL_H * 3600000000) then
    let k := levelKey c d p group (s.block c d p (group * 16)).slc
    let level := Sparse.get (fun _ => 0) s.farr.levels k
    let t := (s.calRun (fcalKey c d p group) s.pers.tj).bump64By (FCH_RD_LO_COUNT c) (if level = 0 then 2 else 3)
    t.setFarr { t.farr with levels := Sparse.set (fun _ => 0) t.farr.levels k (bestLevel level below at' above) }
  else s

/-- The NAND temperature behind the Tn trigger; 0 before any reading. -/
def State.tn (s : State) : Int := (s.pers.tn.map (·.1)).getD 0

/-- ONFI ZQ and DCC of a channel, while its dies are idle (R543). -/
def State.onfiDue (s : State) (c : Nat) : State :=
  let idle := (List.range 16).all (fun d => (s.die c d).busy.isNone)
  if decide (c < 16) && idle && s.calDue (onfiKey c) dayUs then s.calRun (onfiKey c) s.tn else s

/-! ### The capacity test (R545 to R547) -/

/-- Is a capacity test refused (R546)? -/
def State.capRefused (s : State) : Bool :=
  let e := (s.pers.gauge.map (·.1)).getD 0
  let b := bEnergy (e - s.cfg UPK_CAP2_CAP_DROP_MJ) (s.cfg PERS_E_RESERVE_MJ) (s.cfg PERS_MARGIN_M16)
    (s.cfg PERS_SAVE_POWER_MW) (s.cfg PERS_SAVE_FIXED_US) (s.cfg PERS_SAVE_RATE_MBPS) (min (s.kJ s.pers.tj) s.kN)
  decide (s.cfg UPK_TL_TL_ADDR = 0 ∨ s.cfg UPK_TL_MW_MW = 0 ∨ s.get PWR_STAT_STATE ≠ 0 ∨ s.level ≠ 0)
    || !s.fresh s.pers.gauge || decide (b < s.cfg PERS_BUDGET_ISLETS)

/-- A transaction of Glen firmware waits for the local bus (R483). -/
def State.glenTransaction (s : State) : State := s.setTwl { s.twl with glen := s.twl.glen + 1 }

/-- A capacity test begins: charging stops, firmware switches the load on, and the reading is E_a; or it is refused (R545
step 1, R546). -/
def State.capBegin (s : State) : State :=
  if s.flag UPK_STAT_CAP_RUN ∨ s.upkeepRuns 0xA0 = false then s
  else if s.capRefused then (s.put CAP_RATIO_VALID 0).put CAP_RATIO_ABORTED 0
  else
    let e := (s.pers.gauge.map (·.1)).getD 0
    let t := s.setUpk { s.upk with capStart := s.now, capEa := e, capLast := e }
    (((t.setSave { t.save with chgEn := false }).put UPK_STAT_CAP_RUN 1).glenTransaction)

/-- CAP_DAYS have passed, or an hour since a refused test: the test begins, or is refused and tried again (R545, R546). -/
def State.capDue (s : State) : State :=
  let wait := if s.upk.capRefused then 3600000000 else s.cfg UPK_CAP_CAP_DAYS * dayUs
  if s.cfg UPK_CAP_CAP_DAYS = 0 ∨ s.now < s.upk.capAt + wait ∨ s.flag UPK_STAT_CAP_RUN = true ∨ s.upkeepRuns 0xA0 = false then s
  else (s.setUpk { s.upk with capAt := s.now, capRefused := s.capRefused }).capBegin

/-- The test ends: the load is switched off, charging goes on, and the results of R545 are formed. -/
def State.capFinish (s : State) : State :=
  let ms := (s.now - s.upk.capStart) / 1000
  let drop := if s.upk.capLast ≤ s.upk.capEa then some (s.upk.capEa - s.upk.capLast) else none
  let expect := s.cfg UPK_TL_MW_MW * ms / 1000
  let ratio := match drop with
    | some n => if expect = 0 then none else some (n * 256 / expect)
    | none => none
  let r := ratio.getD (s.fitOrFree 2 16 none)
  let suspect := decide (r < 256 - s.cfg UPK_CAP2_TOL)
  let t := ((((((s.drawnBy 3).put CAP_RESULT_DROP_MJ (s.fitOrFree 0 20 drop)).put CAP_EXPECT_MJ (s.fitOrFree 1 20 (some expect))).put
    CAP_RATIO_RATIO (s.fitOrFree 2 16 (some r))).put CAP_RATIO_SUSPECT (b2n suspect)).put CAP_RATIO_ABORTED 0).put CAP_RATIO_VALID 1
  let u := ((t.put CAP_HOURS_LO_HOURS (s.recd.tenths % 2 ^ 32)).put CAP_HOURS_HI_HOURS (s.recd.tenths / 2 ^ 32 % 2 ^ 16)).put
    UPK_STAT_CAP_RUN 0
  let v := (((u.setSave { u.save with chgEn := true }).glenTransaction).raiseInt 0xA0 0)
  if suspect then ((v.raiseInt 0xA0 1).raiseFault 0xA0 0 7 0).event .capSuspect 0xA0 [r] else v

/-- A gauge reading in a test: at or below E_a − CAP_DROP_MJ it ends the wait (R545 step 2). -/
def State.capReading (s : State) (mj : Nat) : State :=
  if s.flag UPK_STAT_CAP_RUN then
    let t := s.setUpk { s.upk with capLast := mj }
    if mj + s.cfg UPK_CAP2_CAP_DROP_MJ ≤ s.upk.capEa then t.capFinish else t
  else s

/-- CAP_MAX_S has passed; a reading that completes in that cycle is used (R545). -/
def State.capExpired (s : State) (late : Option Nat) : State :=
  if s.flag UPK_STAT_CAP_RUN ∧ s.upk.capStart + s.cfg UPK_CAP2_CAP_MAX_S * 1000000 ≤ s.now then
    match late with
    | some mj => ((s.lateOk 0xA0).setUpk { (s.lateOk 0xA0).upk with capLast := mj }).capFinish
    | none => s.capFinish
  else s

/-! ### WEAR_HORIZON (R548, R549) -/

/-- u_ec and u_sp of a die (R548). -/
def State.lifeOf (s : State) (c d : Nat) : Nat × Nat :=
  let x := s.die c d
  let bs := (s.farr.blocks.filter (fun e => decide (e.1 / 65536 = dieKey c d))).map (·.2)
  let out := (bs.filter (fun b => decide (b.bstate = 3 ∨ b.bstate = 4))).length
  let ecs := ((bs.filter (fun b => decide (b.bstate ≠ 3 ∧ b.bstate ≠ 4))).map (fun b => b.ec)).foldl (· + ·) 0
  (ecs * 256 / max 1 (s.mdl.dieBlocks - out) * 256 / s.cfg UPK_WEAR_EC_RATED, (x.retired + x.worn) * 65536 / max 1 s.mdl.spareBlocks)

/-- U of a die. -/
def lifeU (u : Nat × Nat) : Nat := min 65536 (max u.1 u.2)

/-- The working die with the highest U, the lowest number first: its key and its life fractions. DEDUCED, log 45. -/
def limiting (l : List (Nat × Nat × Nat)) : Option (Nat × Nat × Nat) :=
  l.foldl (fun o e => match o with
    | none => some e
    | some b => if lifeU b.2 < lifeU e.2 then some e else some b) none

/-- DAYS of R548: the days until U reaches 65,536, from U now and seven days ago. -/
def wearDays (u : Nat) (u7 : Option Nat) : Nat :=
  match u7 with
  | none => 0xFFFF
  | some v => if u ≤ v then 0xFFFF else min ((65536 - u) * 7 / (u - v)) 0xFFFE

/-- The warnings of R549. -/
def State.horizonWarn (s : State) (pct days : Nat) : State :=
  let byPct := decide (s.cfg UPK_WEAR_HZ_WARN_PCT ≤ pct) && !s.upk.pctWarned
  let below := decide (days < s.cfg UPK_WEAR2_HZ_WARN_DAYS)
  let t := s.setUpk { s.upk with pctWarned := s.upk.pctWarned || byPct, daysBelow := below }
  let raise' := fun (u : State) => (u.raiseInt 0xA0 2).event .horizon 0xA0 [pct, days]
  let u := if byPct then raise' t else t
  if below && !s.upk.daysBelow then raise' u else u

/-- Once a day UPK forms the life fraction of every working die and the projection (R548, R549). -/
def State.wearUpdate (s : State) : State :=
  if s.upkeepRuns 0xA0 = false ∨ s.now < s.upk.wearAt + dayUs then s
  else
    let l := (s.farr.dies.filter (fun e => decide (e.2.st = 1))).map (fun e => (e.1, s.lifeOf (e.1 / 16) (e.1 % 16)))
    let wear := l.foldl (fun m e => Sparse.set (fun _ => []) m e.1 ((lifeU e.2 :: Sparse.get (fun _ => []) m e.1).take 8)) s.upk.wear
    let t := s.setUpk { s.upk with wearAt := s.now, wear := wear }
    match limiting l with
    | none => t
    | some e =>
      let u := lifeU e.2
      let days := wearDays u ((Sparse.get (fun _ => []) wear e.1)[7]?)
      let pct := u * 100 / 65536
      let v := (((t.put WEAR_HORIZON_PCT pct).put WEAR_HORIZON_DAYS days).put WEAR_U_U u).put WEAR_U_DIE
        (16 * (e.1 % 16) + e.1 / 16)
      (v.put WEAR_U_SPARE_LIMITED (b2n (decide (e.2.1 < e.2.2)))).horizonWarn pct days

/-! ### Telemetry (R550) -/

/-- A temperature as an 8-bit two's complement field. -/
def temp8 (t : Int) : Nat := (t % 256).toNat

/-- A temperature field as a number of °C. -/
def tempOf (n : Nat) : Int := if n < 128 then (n : Int) else (n : Int) - 256

/-- TEL_MS has passed: a sample is taken, with the hottest on-die sensor and the power estimate of that moment (R550, R552). -/
def State.telemetry (s : State) (tj : Int) (mw : Nat) : State :=
  if s.upkeepRuns 0xA1 = false ∨ s.now < s.upk.telAt + s.cfg TEL_CFG_TEL_MS * 1000 then s
  else
    let us := max 1 (s.now - s.upk.telAt)
    let t := ((s.put TEL_TEMP_TJ (temp8 tj)).put TEL_TEMP_TN (temp8 s.tn)).put TEL_TEMP_TB (temp8 ((s.upk.tb.map (·.1)).getD 0))
    let u := if tempOf (s.get TEL_TJ_MAX_C) < tj then t.put TEL_TJ_MAX_C (temp8 tj) else t
    let v := (((u.drawnBy 5).put TEL_POWER_MW (s.fitOrFree 0 16 (some mw))).put TEL_HOST_RD_MBPS
      (s.fitOrFree 1 16 (some (s.upk.telRd * 64 / us)))).put TEL_HOST_WR_MBPS (s.fitOrFree 2 16 (some (s.upk.telWr * 64 / us)))
    let w := ((v.put TEL_FLASH_SHADOW_MBPS (s.fitOrFree 3 16 (some (s.upk.telShadow * 65536 / us)))).put TEL_FLASH_PROG_MBPS
      (s.fitOrFree 4 16 (some (s.upk.telPages * 18352 / us)))).put TEL_RES_ISLETS (max s.upk.resMax s.res)
    (w.put64 TEL_PASS_LO_PASS s.passCount).setUpk { w.upk with
      telAt := s.now, telRd := 0, telWr := 0, telShadow := 0, telPages := 0, resMax := s.res }

/-- The budget is computed with the hottest on-die sensor, which may make a DRAM calibration fall due (R76, R543). -/
def State.budgetCompute (s : State) (tj : Int) : State := (s.budgetDue tj).tempTrigger 0 128 tj

end Sys2Proof.Machine
end

