-- ==== Sys2Proof/Machine/Twl.lean ====
section
/-! DEFINITION. The local two-wire bus (R481 to R490, R497): its work in order, arbitration, polls with their readings, local
alerts, Host Notify, and management transactions. -/

namespace Sys2Proof.Machine

/-! ### Poll entries (R487, R488, R490) -/

/-- The interval of a poll entry in µs: POLL_MS for the gauge entry during a save (R490). -/
def State.pollInterval (s : State) (n : Nat) : Nat :=
  if s.saving ∧ s.cfg (TWL_POLL_A_DEST n) = 1 then s.cfg SAVE_CUT_POLL_MS * 1000 else s.cfg (TWL_POLL_B_INTERVAL_MS n) * 1000

/-- May poll entry `n` run now: only the gauge entry does in a save and in BASIN (R490)? -/
def State.pollAllowed (s : State) (n : Nat) : Bool :=
  decide (n < 16) && s.cfgOn TWL_CTRL_EN && s.cfgOn TWL_CTRL_POLL_EN && decide (s.cfg (TWL_POLL_A_DEST n) ≠ 0)
    && (decide (s.cfg (TWL_POLL_A_DEST n) = 1) || (!s.saving && decide (s.get PWR_STAT_STATE ≠ 2)))

/-- An entry's interval has passed since its last completion: it is due (R487). -/
def State.pollDue (s : State) (n : Nat) : State :=
  if s.pollAllowed n && decide (Sparse.get (fun _ => 0) s.twl.doneAt n + s.pollInterval n ≤ s.now) then
    s.setTwl { s.twl with due := insertNat s.twl.due n }
  else s

/-- A 16-bit raw value as a number, sign-extended or not. -/
def rawValue (raw : Nat) (signed : Bool) : Int :=
  if signed && decide (2 ^ 15 ≤ raw) then (raw : Int) - 2 ^ 16 else (raw : Int)

/-- VALUE of R487; a signed result outside the 20 bits of the field is open. DEDUCED, log 45. -/
def State.pollValue (s : State) (n raw : Nat) : Nat :=
  let v := rawValue (raw % 2 ^ 16) (s.cfgOn (TWL_POLL_C_SIGNED n)) * s.cfg (TWL_POLL_C_MULT n) / (2 ^ s.cfg (TWL_POLL_C_SHIFT n) : Int)
  if s.cfgOn (TWL_POLL_C_SIGNED n) then
    if -(2 ^ 19 : Int) ≤ v ∧ v < 2 ^ 19 then (v % 2 ^ 20).toNat else s.free % 2 ^ 20
  else min v.toNat 0xFFFFF

/-- The result of an entry as a number. -/
def State.pollNumber (s : State) (n : Nat) : Int :=
  let v := s.get (TWL_RES_VALUE n)
  if s.cfgOn (TWL_POLL_C_SIGNED n) && decide (2 ^ 19 ≤ v) then (v : Int) - 2 ^ 20 else (v : Int)

/-- The last good reading of an entry with its time. -/
def State.pollReading (s : State) (n : Nat) : Option (Int × Nat) :=
  (Sparse.get (fun _ => none) s.twl.goodAt n).map (fun t => (s.pollNumber n, t))

/-- Tn: the hottest good NAND temperature that is not stale (R77, R487). -/
def State.hottest (s : State) : Option (Int × Nat) :=
  (List.range 16).foldl (fun o n =>
    if s.cfg (TWL_POLL_A_DEST n) = 2 ∧ s.notOlder (s.pollReading n) = true then
      (match o, s.pollReading n with
       | none, r => r
       | some b, some r => if b.1 < r.1 then some (r.1, max b.2 r.2) else some (b.1, max b.2 r.2)
       | some b, none => some b)
    else o) none

/-- A good gauge reading: the energy input of R78, or during a save the reading of R141 and the master's shares (R155, R383);
a member that is not the master works from its shares (R382, R490). -/
def State.gaugeRead (s : State) (mj : Nat) : State :=
  if s.inGroup && !s.isMaster then s.setPers { s.pers with own := some (mj, s.now) }
  else
    match s.save.run with
    | some r =>
      ((s.setPers { s.pers with gauge := some (mj, s.now), own := some (mj, s.now) }).setSave
        { s.save with run := some { r with gauge := some (mj, s.now) } }).sendShares
    | none => (s.goodReading mj 0).capReading mj

/-- What a good reading is for (R487, R543). -/
def State.useReading (s : State) (n : Nat) : State :=
  let d := s.cfg (TWL_POLL_A_DEST n)
  if d = 1 then s.gaugeRead (s.get (TWL_RES_VALUE n))
  else if d = 2 then
    let t := s.setPers { s.pers with tn := s.hottest }
    t.tempTrigger 128 144 t.tn
  else if d = 3 then s.setUpk { s.upk with tb := s.pollReading n }
  else s

/-- A good reading of entry `n` (R487, R488). -/
def State.pollGood (s : State) (n : Nat) (bytes : List (BitVec 8)) : State :=
  let raw := leNat (bytes.take (if s.cfg (TWL_POLL_A_PROTO n) = 0 then 1 else 2))
  let t := (((s.drawn).put (TWL_RES_VALUE n) (s.pollValue n raw)).put (TWL_RSTAT_OUTCOME n) 0).put (TWL_RSTAT_FAILS n) 0
  (t.setTwl { t.twl with
    doneAt := Sparse.set (fun _ => 0) t.twl.doneAt n s.now
    goodAt := Sparse.set (fun _ => none) t.twl.goodAt n (some s.now) }).useReading n

/-- A reading that is not good: its outcome, and POLL_FAIL at the third in a row (R488, R497). -/
def State.pollBad (s : State) (n outcome : Nat) : State :=
  let t := (s.put (TWL_RSTAT_OUTCOME n) outcome).bumpSat (TWL_RSTAT_FAILS n)
  let u := t.setTwl { t.twl with doneAt := Sparse.set (fun _ => 0) t.twl.doneAt n s.now }
  if s.get (TWL_RSTAT_FAILS n) = 2 then u.raiseInt 0x98 4 else u

/-! ### Management transactions (R483, R490, R497) -/

/-- The registers of a management transaction: its command word and its data. -/
def State.twlSnapshot (s : State) : Word × List Word :=
  (s.word 0x98060, (List.range 8).map (fun k => s.word (0x98100 + 4 * k)))

/-- TWL_XCMD.GO is written: the transaction is queued, behind one that is queued or runs; during a save it ends with outcome
SAVE. -/
def State.twlGo (s : State) : State :=
  if s.saving then
    if s.twl.mgmt.isSome then (s.put TWL_XSTAT_OUTCOME 5).raiseInt 0x98 0
    else ((s.put TWL_XSTAT_BUSY 0).put TWL_XSTAT_OUTCOME 5).raiseInt 0x98 0
  else if s.twl.mgmt.isSome then s.setTwl { s.twl with next := some s.twlSnapshot }
  else (s.setTwl { s.twl with mgmt := some s.twlSnapshot }).put TWL_XSTAT_BUSY 1

/-- Stores read bytes in TWL_XDATA (R497). -/
def State.putXdata (s : State) (bytes : List (BitVec 8)) : State :=
  (List.range bytes.length).foldl (fun (t : State) k =>
    t.put ⟨0x98100 + k / 4 * 4, 8 * (k % 4), 8⟩ (bytes.getD k 0).toNat) s

/-- The management transaction ends with an outcome and the bytes it read; one that waits follows. -/
def State.mgmtEnds (s : State) (outcome : Nat) (bytes : List (BitVec 8)) : State :=
  let b := bytes.take 32
  let t := s.setTwl { s.twl with mgmt := s.twl.next, next := none }
  let u := ((t.put TWL_XSTAT_BUSY (b2n s.twl.next.isSome)).put TWL_XSTAT_OUTCOME outcome).put TWL_XSTAT_RCOUNT b.length
  (u.putXdata b).raiseInt 0x98 0

/-! ### Transactions (R483 to R485, R489) -/

/-- Is an ARA read due: LOC_ALERT# low with ALERT_EN at 1, no back-off, and a millisecond since the last (R489)? -/
def State.araDue (s : State) : Bool :=
  s.cfgOn TWL_CTRL_ALERT_EN && s.twl.alertLow && !s.twl.araBackoff && (match s.twl.araAt with
    | some t => decide (t + 1000 ≤ s.now)
    | none => true)

/-- The first due item (R483): the gauge poll alone in a save and in BASIN (R490); an ARA read while LOC_ALERT# is low, at most
once per millisecond; poll entries in ascending order; firmware's transactions; a management transaction. -/
def State.twlChoice (s : State) : Option TwlWork :=
  match s.twl.due.find? s.pollAllowed with
  | some n =>
    if s.saving ∨ s.get PWR_STAT_STATE = 2 then some (.poll n)
    else if s.araDue then some .ara else some (.poll n)
  | none =>
    if s.saving ∨ s.get PWR_STAT_STATE = 2 then none
    else if s.araDue then some .ara
    else if 0 < s.twl.glen then some .glen
    else if s.twl.mgmt.isSome then some .mgmt
    else none

/-- The bus is free: TWL starts the transaction that lost arbitration again, or else the first due item (R483, R485). -/
def State.twlStart (s : State) : State :=
  if ¬ s.cfgOn TWL_CTRL_EN ∨ s.flag TWL_STAT_STUCK = true ∨ s.rst.phase = .off then s
  else
    match s.twl.cur with
    | some _ => if s.twl.lost then ((s.setTwl { s.twl with lost := false }).put TWL_STAT_TARGET 0).put TWL_STAT_BUSY 1 else s
    | none =>
      match s.twlChoice with
      | none => s
      | some w =>
        let x := { s.twl with cur := some w, retries := 0, lost := false }
        let y := match w with
          | .poll n => { x with due := dropNat x.due n }
          | .ara => { x with araAt := some s.now }
          | .glen => { x with glen := x.glen - 1 }
          | .mgmt => x
        ((s.setTwl y).put TWL_STAT_TARGET 0).put TWL_STAT_BUSY 1

/-- An ARA read is answered: the address is recorded, ALERT raised, and poll entries of that address are due at once (R489). -/
def State.araAnswered (s : State) (addr : Nat) : State :=
  let l := (List.range 16).filter (fun n => decide (s.cfg (TWL_POLL_A_DEST n) ≠ 0 ∧ s.cfg (TWL_POLL_A_ADDR n) = addr % 128))
  (((s.put TWL_ALERT_ADDR addr).setTwl { s.twl with due := l.foldl insertNat s.twl.due }).raiseInt 0x98 2)

/-- No device answers an ARA read: it is spurious, and TWL waits 10 ms (R489). -/
def State.araSpurious (s : State) : State := (s.bump TWL_SPURIOUS_COUNT).setTwl { s.twl with araBackoff := true }

/-- The transaction in hand leaves the bus. -/
def State.twlIdle (s : State) : State := (s.setTwl { s.twl with cur := none, lost := false }).put TWL_STAT_BUSY 0

/-- The transaction in hand ends without its data, with an outcome: 1 NACK, 2 PEC, 3 ARB, 4 TIMEOUT. -/
def State.twlFailed (s : State) (w : TwlWork) (outcome : Nat) : State :=
  match w with
  | .poll n => s.twlIdle.pollBad n outcome
  | .ara => if outcome = 1 then s.twlIdle.araSpurious else s.twlIdle
  | .glen => s.twlIdle
  | .mgmt => s.twlIdle.mgmtEnds outcome []

/-- The transaction in hand ends with its data. -/
def State.twlGood (s : State) (w : TwlWork) (bytes : List (BitVec 8)) : State :=
  match w with
  | .poll n => s.twlIdle.pollGood n bytes
  | .ara => s.twlIdle.araAnswered ((bytes.headD 0).toNat / 2)
  | .glen => s.twlIdle
  | .mgmt => s.twlIdle.mgmtEnds 0 bytes

/-- Arbitration is lost: recorded; TWL serves a winner that addresses 0x08, and the transaction is tried again up to RETRY_MAX
times, after which it ends with outcome ARB and XFER_FAIL (R485). -/
def State.twlLost (s : State) (w : TwlWork) (bit : Nat) (inAddr winner08 : Bool) : State :=
  let asTarget := inAddr && winner08 && s.cfgOn TWL_CTRL_TARGET_EN
  let t := ((((s.put TWL_ARB_BIT bit).put TWL_ARB_IN_ADDR (b2n inAddr)).put TWL_ARB_TO_TARGET (b2n asTarget)).put TWL_ARB_VALID 1).bump
    TWL_ARBCNT_COUNT
  let u := (t.put TWL_STAT_BUSY 0).put TWL_STAT_TARGET (b2n asTarget)
  if s.twl.retries < s.cfg TWL_CFG_RETRY_MAX then u.setTwl { u.twl with retries := u.twl.retries + 1, lost := true }
  else (u.twlFailed w 3).raiseFault 0x98 0 7 0

/-- A transaction of the local bus ends (R485, R488, R489). -/
def State.twlDone (s : State) (e : TwlEnd) : State :=
  match s.twl.cur with
  | none => s
  | some w =>
    if s.twl.lost then s
    else
      match e with
      | .data b => s.twlGood w b
      | .nack => s.twlFailed w 1
      | .pec => s.twlFailed w 2
      | .arb bit a h => s.twlLost w bit a h

/-- A target holds the bus for tTIMEOUT: the transaction ends with outcome TIMEOUT; when the pulses do not free the bus, it is
stuck and every poll entry reports TIMEOUT (R484). -/
def State.twlTimeout (s : State) (stuck : Bool) : State :=
  match s.twl.cur with
  | none => s
  | some w =>
    let t := s.twlFailed w 4
    if stuck then
      let u := (List.range 16).foldl (fun (u : State) n =>
        if u.cfg (TWL_POLL_A_DEST n) ≠ 0 then u.put (TWL_RSTAT_OUTCOME n) 4 else u) (t.put TWL_STAT_STUCK 1)
      (u.raiseInt 0x98 3).raiseFault 0x98 1 7 0
    else t

/-- A stuck bus is tried again (R484). -/
def State.busRetry (s : State) (freed : Bool) : State := if freed then s.put TWL_STAT_STUCK 0 else s

/-- A Host Notify is committed: it enters the FIFO, or is dropped when that is full; one from the gauge makes its entry due at
once (R486). -/
def State.hostNotify (s : State) (addr status : Nat) : State :=
  if s.cfgOn TWL_CTRL_EN && s.cfgOn TWL_CTRL_TARGET_EN then
    let l := (List.range 16).filter (fun n => decide (s.cfg (TWL_POLL_A_DEST n) = 1 ∧ s.cfg (TWL_POLL_A_ADDR n) = addr % 128))
    let t := (s.setTwl { s.twl with due := l.foldl insertNat s.twl.due }).put TWL_STAT_TARGET 0
    if t.twl.notifies.length < 8 then
      (t.setTwl { t.twl with notifies := t.twl.notifies ++ [(addr % 128, status % 2 ^ 16)] }).raiseInt 0x98 1
    else t.bump TWL_NDROP_COUNT
  else s

/-- A write to TWL_NPOP removes the head of the FIFO (R497). -/
def State.notifyPop (s : State) : State := s.setTwl { s.twl with notifies := s.twl.notifies.drop 1 }

/-- LOC_ALERT# changes (R489). -/
def State.locAlert (s : State) (low : Bool) : State := s.setTwl { s.twl with alertLow := low }

/-- 10 ms after a spurious ARA read the next may be made (R489). -/
def State.araReady (s : State) : State :=
  match s.twl.araAt with
  | some t => if s.twl.araBackoff ∧ t + 10000 ≤ s.now then s.setTwl { s.twl with araBackoff := false } else s
  | none => s

end Sys2Proof.Machine
end

