-- ==== Sys2Proof/Machine/Svc.lean ====
section
/-! DEFINITION. The service port and firmware update (R499 to R519): frames with their answers, the package and its delta
operations, the download into the target Isle, its checks and the boot swap, recovery downloads, and EC_READ. -/

namespace Sys2Proof.Machine

/-! ### Frames (R501 to R504) -/

/-- A response: its status and payload; one other than OK and ACCEPTED is counted (R504, R519). -/
def State.svcAnswer (s : State) (status : Nat) (payload : List (BitVec 8)) : State :=
  (if 2 ≤ status then s.bump SVC_REFUSED_COUNT else s).send (.service status payload)

/-- The request's CRC does not match: BAD_FRAME, and FRAME_CRC is raised (R502). -/
def State.badFrame (s : State) : State :=
  ((((s.bump SVC_CRC_ERR_COUNT).raiseInt 0x9C 3).raiseFault 0x9C 0 7 0).svcAnswer 3 [])

/-- A request frame has come in: with a matching CRC it is carried out and its TAG kept (R502); before tp the port is in
reset. -/
def State.svcFrame (s : State) (tag : Nat) (good : Bool) (f : State → State) : State :=
  if s.rst.phase = .off then s
  else if ¬ good then s.badFrame
  else
    let t := f (s.bump SVC_FRAMES_COUNT)
    t.setSvc { t.svc with lastTag := tag % 2 ^ 16 }

/-- Why a command other than IDENT and STATUS is not served: SAVE, BUSY, MODE, or BUSY under a background command (R503, R504,
R519); `inRun` and `inRcv` are the modes it is served in. DEDUCED, log 46. -/
def State.svcRefusal (s : State) (inRun inRcv isAbort : Bool) : Option Nat :=
  let m := s.svcMode
  if m = 3 then some 0x0E
  else if m = 2 ∨ m = 4 then some 0x02
  else if (m = 0 ∧ (inRun = false ∨ s.cfgOn SVC_CTRL_EN = false)) ∨ (m = 1 ∧ inRcv = false) then some 0x07
  else if s.svc.background ∧ isAbort = false then some 0x02
  else none

/-- A command that is not always served: refused, or carried out. -/
def State.svcCommand (s : State) (tag : Nat) (good inRun inRcv isAbort : Bool) (f : State → State) : State :=
  s.svcFrame tag good (fun t => match t.svcRefusal inRun inRcv isAbort with
    | some st => t.svcAnswer st []
    | none => f t)

/-- A request cut short by SVC_SEL# is discarded and counted (R502). -/
def State.svcShort (s : State) : State := if s.rst.phase = .off then s else s.bump SVC_SHORT_COUNT

/-- The unit's identity block: SYS_ID0 to SYS_ID7 (R561). -/
def State.identity (s : State) : List (BitVec 8) :=
  wordBytes ((List.range 8).map (fun k => s.word (0x40 + 4 * k)))

/-- The highest CFG_VER in the configuration store; none is stated for an empty store: a free value. -/
def State.cfgStored (s : State) : Nat :=
  match s.kept.cfgVer with
  | some v => s.kept.older.foldl (fun n e => max n e.1) v
  | none => s.free

/-- The IDENT payload (R503). -/
def State.identPayload (s : State) : List (BitVec 8) :=
  [ BitVec.ofNat 8 s.svcMode, BitVec.ofNat 8 (s.get RST_STAT_ISLE), BitVec.ofNat 8 s.atol.sel.active
  , BitVec.ofNat 8 (b2n s.atol.sel.updPend + s.get RST_STAT_ISLE_FALLBACK * 2 + s.protLevel % 4 * 4 + s.cfg SVC_CTRL_UPD_EN * 16
      + s.cfg SVC_CTRL_PROT_EN * 32) ]
  ++ leBytes 2 s.mdl.romVer ++ [BitVec.ofNat 8 (s.get RST_STAT_RCV_CAUSE), 0]
  ++ leBytes 4 (s.isleWord 0 4) ++ leBytes 4 (s.isleWord 1 4) ++ leBytes 2 s.cfgStored ++ List.replicate 14 0 ++ s.identity

/-- IDENT (R503). -/
def State.svcIdent (s : State) : State := (s.drawn).svcAnswer 0 s.identPayload

/-- STATUS (R503). DEDUCED, log 57. -/
def State.svcStatus (s : State) : State :=
  s.svcAnswer 0 ([BitVec.ofNat 8 (s.get SVC_STAT_STATE), BitVec.ofNat 8 (s.get SVC_STAT_LAST_STATUS)] ++ leBytes 2 s.svc.lastTag
    ++ leBytes 4 (s.get SVC_DONE_BYTES) ++ leBytes 4 (s.get SVC_TOTAL_BYTES) ++ leBytes 4 s.svc.body.length)

/-! ### Packages (R505 to R508) -/

/-- Bytes `o` to `o + n - 1` of a payload as a value. -/
def field (l : List (BitVec 8)) (o n : Nat) : Nat := leNat ((l.drop o).take n)

/-- The header of an update package (R506). -/
def packageOf (h : List (BitVec 8)) : Package :=
  { baseDigest := field h 0x08 48, baseLen := field h 0x38 4, targetLen := field h 0x3C 4, targetDigest := field h 0x40 48
    targetVer := field h 0x70 4, cfgVer := field h 0x74 2, minRom := field h 0x76 2, bodyLen := field h 0x78 4
    bodyCrc := field h 0x7C 4 }

/-- Is the header as R506 has it, with TARGET_LEN in the range of IMG_LEN, for a ROM of this version (R508)? -/
def headerValid (h : List (BitVec 8)) (romVer : Nat) : Bool :=
  let p := packageOf h
  decide (field h 0 4 = 0x4253424D ∧ field h 4 2 = 0x0100 ∧ field h 6 1 = 1 ∧ field h 7 1 = 0 ∧ field h 0x80 0x7C = 0
    ∧ field h 0xFC 4 = (crc32c (h.take 0xFC)).toNat ∧ 4096 ≤ p.targetLen ∧ p.targetLen ≤ 2097152 ∧ p.minRom ≤ romVer)

/-- The first `n` bytes of Isle `k`. -/
def State.isleBytes (s : State) (k n : Nat) : List (BitVec 8) :=
  ((List.range (ceilDiv n 4)).flatMap (fun i => leBytes 4 (s.isleWord k (4 * i)))).take n

/-- How far the delta operations of a body go: more bytes are wanted, END has ended the body, or it is malformed (R507). -/
inductive BodyEnd where
  | more | ended | bad
  deriving DecidableEq, Repr

/-- The target bytes the delta operations of the body received so far append; `room` is what the body still holds from here,
and literal bytes count as they arrive (R507). -/
def applyBody (base : List (BitVec 8)) (targetLen : Nat) :
    Nat → Nat → List (BitVec 8) → List (BitVec 8) → List (BitVec 8) × BodyEnd
  | 0, _, _, out => (out, .more)
  | _ + 1, _, [], out => (out, .more)
  | n + 1, room, c :: t, out =>
    if c = 0 then (out, if out.length = targetLen ∧ room = 1 then .ended else .bad)
    else if c = 1 then
      if room < 9 then (out, .bad)
      else if t.length < 8 then (out, .more)
      else
        let src := field t 0 4
        let len := field t 4 4
        if base.length < src + len ∨ targetLen < out.length + len then (out, .bad)
        else applyBody base targetLen n (room - 9) (t.drop 8) (out ++ (base.drop src).take len)
    else if c = 2 then
      if room < 5 then (out, .bad)
      else if t.length < 4 then (out, .more)
      else
        let len := field t 0 4
        if room < 5 + len ∨ targetLen < out.length + len then (out, .bad)
        else if t.length < 4 + len then (out ++ t.drop 4, .more)
        else applyBody base targetLen n (room - 5 - len) (t.drop (4 + len)) (out ++ (t.drop 4).take len)
    else if c = 3 then
      if room < 6 then (out, .bad)
      else if t.length < 5 then (out, .more)
      else
        let len := field t 0 4
        if targetLen < out.length + len then (out, .bad)
        else applyBody base targetLen n (room - 6) (t.drop 5) (out ++ List.replicate len (t.getD 4 0))
    else (out, .bad)

/-- The target bytes of the first `n` bytes received, and how the body stands; a recovery image is its own target (R507,
R515). -/
def State.svcTarget (s : State) (n : Nat) : List (BitVec 8) × BodyEnd :=
  let b := s.svc.body.take n
  if s.svc.rcv then (b, .more)
  else applyBody (s.isleBytes (s.get RST_STAT_ISLE) s.svc.pkg.baseLen) s.svc.pkg.targetLen (b.length + 1) s.svc.pkg.bodyLen b []

/-! ### Programming the target (R511) -/

/-- The buffers whose target bytes are not yet programmed. -/
def State.releaseBuffers (s : State) : State :=
  let done := s.get SVC_DONE_BYTES
  s.setSvc { s.svc with waiting := s.svc.waiting.filter (fun e =>
    decide (done < s.get SVC_TOTAL_BYTES ∧ done < (s.svcTarget e).1.length / 32 * 32)) }

/-- The next whole code word of target bytes, or the padded last one, goes to the array; a malformed body, or a block that
cannot be programmed, ends the update (R504, R511). -/
def State.svcFeed (s : State) : State :=
  let st := s.get SVC_STAT_STATE
  if (st ≠ 3 ∧ st ≠ 4) ∨ s.srcBusy 3 = true then s
  else
    let t := s.svcTarget s.svc.body.length
    let done := s.get SVC_DONE_BYTES
    let total := s.get SVC_TOTAL_BYTES
    let w := (t.1.drop done).take 32
    let cw := isleBase s.svc.target / 32 + done / 32
    if t.2 = .bad then s.svcFail 0x0A
    else if done < total ∧ (w.length = 32 ∨ t.1.length = total) then
      if (s.atolBlk (blkOfCw cw)).bad then s.svcFail 0x0C
      else
        let u := s.enqueueOp ⟨3, .program cw (BitVec.ofNat 256 (leNat (w ++ List.replicate (32 - w.length) 0xFF)))⟩
        if u.srcBusy 3 then u else u.svcFail 0x0C
    else s

/-- An Atoll program ends: a word of an update in hand counts as done and the next follows, or its failure ends the update
(R465, R511). -/
def State.atolProgramDone (s : State) (pulses : Nat) (ok : Bool) : State :=
  match s.atol.running with
  | none => s
  | some o =>
    let t := s.progDone pulses ok
    match o.src, o.kind with
    | 3, .program _ _ =>
      if ok then
        ((t.put SVC_DONE_BYTES (min (t.get SVC_DONE_BYTES + 32) (t.get SVC_TOTAL_BYTES))).releaseBuffers).svcFeed
      else t.svcFail 0x0C
    | _, _ => t

/-- An Atoll erase ends; a block of the target Isle that goes BAD ends the update (R467, R511). -/
def State.atolEraseDone (s : State) (ok : Bool) : State :=
  match s.atol.erase with
  | some ⟨3, .erase b⟩ => let t := s.eraseDone ok; if (t.atolBlk b).bad then t.svcFail 0x0C else t
  | _ => s.eraseDone ok

/-! ### The update in hand (R503, R508 to R515, R518) -/

/-- May a download begin: nothing is in hand, or what was has failed (R510)? -/
def State.svcFree (s : State) : Bool := decide (s.get SVC_STAT_STATE = 0 ∨ s.get SVC_STAT_STATE = 6)

/-- A download begins in a state, for a target of `total` bytes (R509, R510). -/
def State.svcBegin (s : State) (state total : Nat) (x : Svc) : State :=
  (((s.setSvc { x with background := true, target := 1 - s.atol.sel.active, body := [], waiting := [] }).put SVC_STAT_STATE
    state).put SVC_DONE_BYTES 0).put SVC_TOTAL_BYTES total

/-- PKG_BEGIN (R506, R508, R509). -/
def State.pkgBegin (s : State) (h : List (BitVec 8)) : State :=
  let p := packageOf h
  if ¬ s.cfgOn SVC_CTRL_UPD_EN then s.svcAnswer 7 []
  else if h.length ≠ 256 then s.svcAnswer 5 []
  else if s.svcFree = false ∨ s.atol.sel.updPend = true ∨ s.get RST_STAT_ISLE ≠ s.atol.sel.active then s.svcAnswer 6 []
  else if ¬ headerValid h s.mdl.romVer then s.svcAnswer 0x0A []
  else if 2097152 < p.baseLen then s.svcAnswer 8 []
  else ((s.svcBegin 1 p.targetLen { s.svc with rcv := false, pkg := p }).put SVC_TARGET_VER_VER p.targetVer).svcAnswer 1 []

/-- The erases of the target Isle's 32 blocks go to the array (R510). -/
def State.eraseTarget (s : State) : State :=
  (List.range 32).foldl (fun (t : State) k => t.enqueueOp ⟨3, .erase ((if s.svc.target = 0 then 4 else 36) + k)⟩) (s.put SVC_STAT_STATE 2)

/-- The base has been hashed: the Isle erase begins, or BASE_MISMATCH (R508, R510, R518). -/
def State.hashDone (s : State) : State :=
  if s.get SVC_STAT_STATE ≠ 1 then s
  else if Config.sha384 (s.isleBytes (s.get RST_STAT_ISLE) s.svc.pkg.baseLen) = s.svc.pkg.baseDigest then
    (s.eventNo 0x9C 0x0901 [s.svc.pkg.targetVer, s.svc.target]).eraseTarget
  else s.svcFail 8

/-- Every block of the target Isle is erased: RECEIVING (R510). -/
def State.updErased (s : State) : State :=
  if s.get SVC_STAT_STATE = 2 ∧ s.srcBusy 3 = false then
    ((s.setSvc { s.svc with background := false }).put SVC_STAT_STATE 3).put SVC_STAT_LAST_STATUS 0
  else s

/-- PKG_DATA or RCV_DATA: an offset and up to 4,092 bytes (R510, R511). -/
def State.svcData (s : State) (rcv : Bool) (payload : List (BitVec 8)) : State :=
  let d := payload.drop 4
  let size := if rcv then s.get SVC_TOTAL_BYTES else s.svc.pkg.bodyLen
  if payload.length < 5 ∨ 4096 < payload.length then s.svcAnswer 5 []
  else if s.get SVC_STAT_STATE ≠ 3 ∨ s.svc.rcv ≠ rcv then s.svcAnswer 6 []
  else if field payload 0 4 ≠ s.svc.body.length then s.svcAnswer 9 []
  else if size < s.svc.body.length + d.length then s.svcAnswer 5 []
  else if 2 ≤ s.svc.waiting.length then s.svcAnswer 2 []
  else
    let body := s.svc.body ++ d
    (((s.setSvc { s.svc with body := body, waiting := s.svc.waiting ++ [body.length] }).svcFeed).releaseBuffers).svcAnswer 0 []

/-- PKG_END or RCV_END: the check begins (R510, R512, R515). -/
def State.svcEnd (s : State) (rcv : Bool) : State :=
  if s.get SVC_STAT_STATE ≠ 3 ∨ s.svc.rcv ≠ rcv then s.svcAnswer 6 []
  else if s.svc.body.length ≠ (if rcv then s.get SVC_TOTAL_BYTES else s.svc.pkg.bodyLen) then
    s.svcAnswer (if rcv then 9 else 0x0A) []
  else
    ((s.setSvc { s.svc with background := true }).put SVC_STAT_STATE 4).svcAnswer 1
      (if rcv then [BitVec.ofNat 8 s.svc.target] else [])

/-- Is everything received programmed, so that the check can end? -/
def State.svcSettled (s : State) : Bool :=
  decide (s.get SVC_STAT_STATE = 4) && !s.srcBusy 3 &&
    (decide (s.get SVC_DONE_BYTES = s.get SVC_TOTAL_BYTES) || decide ((s.svcTarget s.svc.body.length).1.length < s.get SVC_TOTAL_BYTES))

/-- The check of a package ends (R512, R518). -/
def State.updChecked (s : State) : State :=
  if s.svcSettled = false ∨ s.svc.rcv = true then s
  else if (s.svcTarget s.svc.body.length).2 ≠ .ended ∨ (crc32c s.svc.body).toNat ≠ s.svc.pkg.bodyCrc then s.svcFail 0x0A
  else if Config.sha384 (s.isleBytes s.svc.target s.svc.pkg.targetLen) ≠ s.svc.pkg.targetDigest then s.svcFail 0x0B
  else
    let t := ((s.setSvc { s.svc with background := false }).put SVC_STAT_STATE 5).put SVC_STAT_LAST_STATUS 0
    (t.raiseInt 0x9C 0).eventNo 0x9C 0x0902 [s.svc.pkg.targetVer, s.svc.pkg.targetLen]

/-- ACTIVATE: the boot swap through the service port path (R474, R512). -/
def State.svcActivate (s : State) : State :=
  if s.get SVC_STAT_STATE ≠ 5 then s.svcAnswer 6 []
  else if s.isleBusy then s.svcAnswer 0x0C []
  else
    let t := (s.bootSwap 3).put SVC_STAT_STATE 7
    ((t.raiseInt 0x9C 2).eventNo 0x9C 0x0904 [t.atol.sel.active, 1]).svcAnswer 0 [BitVec.ofNat 8 t.atol.sel.active]

/-- ABORT ends the update in hand (R510). -/
def State.svcAbort (s : State) : State :=
  if 1 ≤ s.get SVC_STAT_STATE ∧ s.get SVC_STAT_STATE ≤ 4 then (s.svcFail 0x0D).svcAnswer 0 [] else s.svcAnswer 6 []

/-- RCV_BEGIN (R515). -/
def State.rcvBegin (s : State) (p : List (BitVec 8)) : State :=
  if p.length ≠ 8 ∨ field p 0 4 < 4096 ∨ 2097152 < field p 0 4 then s.svcAnswer 5 []
  else if ¬ s.svcFree then s.svcAnswer 6 []
  else ((s.svcBegin 2 (field p 0 4) { s.svc with rcv := true, imgCrc := field p 4 4 }).eraseTarget).svcAnswer 1 []

/-- The check of a recovery image ends (R515, R518). -/
def State.rcvChecked (s : State) : State :=
  if s.svcSettled = false ∨ s.svc.rcv = false then s
  else if (crc32c (s.isleBytes s.svc.target (s.get SVC_TOTAL_BYTES))).toNat ≠ s.svc.imgCrc then s.svcFail 0x0B
  else
    let t := (((s.bootSwap 3).setSvc { s.svc with background := false }).put SVC_STAT_STATE 7).put SVC_STAT_LAST_STATUS 0
    (t.raiseInt 0x9C 2).eventNo 0x9C 0x0905 [s.isleWord s.svc.target 4, s.get SVC_TOTAL_BYTES]

/-- PROT_SET: the protection command from the service port (R476, R503, R518). -/
def State.protSet (s : State) (p : List (BitVec 8)) : State :=
  let w := field p 0 4
  let l := w % 256
  if s.svcMode = 0 ∧ s.cfgOn SVC_CTRL_PROT_EN = false then s.svcAnswer 7 []
  else if p.length ≠ 4 ∨ w / 256 ≠ 0x4C5600 ∨ 2 < l then s.svcAnswer 5 []
  else if l = s.protLevel then s.svcAnswer 0 []
  else if l < s.protLevel ∧ s.svcFree = false ∧ s.get SVC_STAT_STATE ≠ 7 then s.svcAnswer 2 []
  else if s.srcBusy 3 then s.svcAnswer 0x0C []
  else ((s.eventNo 0x9C 0x0906 [s.protLevel, l]).protect 3 l).svcAnswer 0 []

/-- EC_READ: erase counts of logical blocks (R479, R503). -/
def State.svcEc (s : State) (p : List (BitVec 8)) : State :=
  let first := field p 0 2
  let n := field p 2 2
  if p.length ≠ 4 ∨ n = 0 ∨ 480 < first + n then s.svcAnswer 5 []
  else s.svcAnswer 0 ((List.range n).flatMap (fun k => leBytes 4 (s.atolBlk (first + k)).ec))

end Sys2Proof.Machine
end

