-- ==== Sys2Proof/Machine/Tst.lean ====
section
/-! DEFINITION. The JTAG port (R553 to R564): instructions, test mode with its reset, the boundary register, identification,
and the Atoll accesses. -/

namespace Sys2Proof.Machine

/-- A lot character of its 6-bit code: 0 to 9, then A to Z (R561). -/
def lotChar (c : Nat) : Char := if c < 10 then Char.ofNat (48 + c) else Char.ofNat (55 + c)

/-- The lot printed on the part, its seven characters as SYS_ID0 and SYS_ID1 hold them (R561). -/
def lotOf (id0 id1 : Nat) : List Char :=
  (List.range 5).map (fun k => lotChar (id0 / 64 ^ k % 64)) ++ (List.range 2).map (fun k => lotChar (id1 / 64 ^ k % 64))

/-- Does the instruction of this code take the pins (R554)? -/
def takesPins (code : Nat) : Bool := decide (code = 0x00 ∨ code = 0x04 ∨ code = 0x05 ∨ code = 0x08 ∨ code = 0x09)

/-- Test mode begins: the rest of the controller is held in device reset without a quiesce, the retention flag is cleared and
ALIVE stops (R555). -/
def State.enterTest (s : State) : State :=
  if s.flag TST_STAT_TEST_MODE then s
  else
    let t := (s.put RST_STAT_RETAIN 0).assertDevice false
    ((t.setRst { t.rst with phase := .off, aliveRun := false }).put TST_STAT_TEST_MODE 1).bump TST_ENTRIES_COUNT

/-- Test mode ends: the device reset is released with SRC 0x7, the start is cold, and shows that test mode was seen (R396,
R555, R564). -/
def State.leaveTest (s : State) : State :=
  if s.flag TST_STAT_TEST_MODE then
    let t := (s.put TST_STAT_TEST_MODE 0).startAfterReset 7 false false
    (t.setSave { t.save with holdEn := t.save.holdEn && !t.powerGood }).raiseInt 0xA8 0
  else s

/-- Update-IR of an instruction: one that takes the pins enters test mode, at SAVE_DONE when a save runs; any other ends it
(R555, R556). DEDUCED, log 47. -/
def State.loadIr (s : State) (code : Nat) : State :=
  let t := s.put TST_STAT_IR code
  if takesPins code then
    if s.saving then (t.setTst { t.tst with waiting := some code }).put TST_STAT_HELD 1 else t.enterTest
  else ((t.setTst { t.tst with waiting := none }).put TST_STAT_HELD 0).leaveTest

/-- An instruction held during a save takes effect at SAVE_DONE (R556). -/
def State.heldTest (s : State) : State :=
  match s.tst.waiting with
  | none => s
  | some _ =>
    if s.saving then s else ((s.setTst { s.tst with waiting := none }).put TST_STAT_HELD 0).enterTest

/-- A TAP reset: IDCODE is in force, every cell holds its safe value, and test mode ends (R553, R555, R559). -/
def State.tapReset (s : State) : State :=
  let t := s.setTst { s.tst with cells := 0, waiting := none }
  ((t.put TST_STAT_IR 0x03).put TST_STAT_HELD 0).leaveTest

/-- A scan of the boundary register, 1,912 bits: what the pins show is shifted out, and under an instruction that is not held
the update stage takes what was shifted in (R555, R556, R558). -/
def State.boundary (s : State) (pins : Nat) (shifted : Option Nat) : State :=
  let t := s.send (.jtag (pins % 2 ^ 1912))
  match shifted with
  | some v => if s.flag TST_STAT_HELD then t else t.setTst { t.tst with cells := v % 2 ^ 1912 }
  | none => t

/-- A value captured for JTAG. -/
def State.jtagOut (s : State) (v : Nat) : State := s.send (.jtag v)

/-- TST_RESET requests a device reset with SRC 0x7 (R557). -/
def State.tstReset (s : State) : State := (s.loadIr 0x21).requestReset 7

/-- ATOL_READ: the word at a window offset, with its report; a capture before the read completes, or during a save, shows
NOT_READY (R470, R562). -/
def State.tstRead (s : State) (w cbits : Nat) (ue ready : Bool) : State :=
  let t := s.loadIr 0x22
  let o := w % 2 ^ 25 / 4 * 4
  if t.saving then t.jtagOut (2 ^ 39)
  else if 480 ≤ o / 0x10000 then (t.setErr .tst ATOL_PSTAT_ERR_RANGE).jtagOut 0
  else if ¬ t.mayRead .tst (o / 0x10000) then (t.setErr .tst ATOL_PSTAT_ERR_PROTECT).jtagOut (2 ^ 38)
  else
    let r := ((t.put (ATOL_RD_STAT_CBITS.at .tst) 0).put (ATOL_RD_STAT_EARLY.at .tst) 0).arrayRead .tst o cbits ue
    let u := r.1
    let v := r.2.toNat + u.get (ATOL_RD_STAT_CBITS.at .tst) * 2 ^ 32 + u.get (ATOL_RD_STAT_EARLY.at .tst) * 2 ^ 36
      + u.get (ATOL_RD_STAT_UE.at .tst) * 2 ^ 37
    (u.setTst { u.tst with atol := v }).jtagOut (if ready then v else 2 ^ 39)

/-- ATOL_EC: the erase count of a logical block's physical block, when it is loaded in test mode (R563). -/
def State.tstEc (s : State) (block : Nat) : State :=
  let v := if s.flag TST_STAT_TEST_MODE then (s.atolBlk (block % 512)).ec % 2 ^ 24 else 2 ^ 38
  let t := s.setTst { s.tst with atol := v }
  (t.loadIr 0x23).jtagOut v

end Sys2Proof.Machine
end

