-- ==== Sys2Proof/Machine/Detect.lean ====
section
/-! DEFINITION. What a detector that fires does beyond its message (R412): the entry, word or record it found bad is discarded
or rebuilt as the owning chapter says; and the rails that leave their bands (R570). -/

namespace Sys2Proof.Machine

/-- A word of the frozen plane reads uncorrectable: it is rewritten all ones, for the walk that has not passed it (R95). -/
def State.frozenWordLost (s : State) (word : Nat) : State :=
  match s.pers.tail with
  | none => s
  | some t =>
    if t.walked then s
    else s.setPers (s.pers.setPlane t.epoch
      ((((List.range 64).map (· + word * 64)).filter (fun i => decide (i < s.mdl.hostIslets))).foldl insertNat (s.pers.plane t.epoch)))

/-- An entry of the cooling queue, or of the return list, reads uncorrectable: it is discarded and sweep mode begins (R117). -/
def State.coolEntryLost (s : State) (k : Nat) (fromReturn : Bool) : State :=
  let t := if fromReturn then s.setPers { s.pers with retq := s.pers.retq.eraseIdx k }
    else s.setPers { s.pers with queue := s.pers.queue.eraseIdx k }
  (t.enterSweep).refreshQueues

/-- The receive-buffer entry at place `k` reads uncorrectable: HLK's reset discards its request (R364). DEDUCED, log 40. -/
def State.rxEntryBad (s : State) (k : Nat) : State :=
  match s.hlk.buf[k]? with
  | none => s
  | some r => s.setHlk { s.hlk with badEntries := insertNat s.hlk.badEntries r.seq }

/-- FARR's block record under a key reads uncorrectable: what it counted of EARLY reads is gone (R264). -/
def State.blockRecordLost (s : State) (k : Nat) : State :=
  let r := Sparse.get (fun _ => freshBlock) s.farr.blocks k
  s.setFarr { s.farr with blocks := Sparse.set (fun _ => freshBlock) s.farr.blocks k { r with early := 0 } }

/-- What a real fault of source `n` of page `p` finds bad at `place`; `alt` tells the frozen plane from the collecting one, and the
return list from the cooling queue (R95, R106, R117, R264, R364, R433, R454, R504). -/
def State.faultEffect (s : State) (p n place : Nat) (alt : Bool) : State :=
  if p = 0x20 ∧ n = 3 then (if place < s.mdl.hostIslets then s.recordLost place else s)
  else if p = 0x20 ∧ n = 4 then (if alt then s.frozenWordLost place else s.mapWordLost place)
  else if p = 0x21 ∧ n = 0 then s.coolEntryLost place alt
  else if p = 0x21 ∧ n = 1 then s.stagingLost State.abandonCopy (fun _ => true) place
  else if 0x30 ≤ p ∧ p < 0x38 ∧ n = 3 then s.stagingLost State.abandonRaised (fun k => decide (k = p - 0x30)) place
  else if p = 0x10 ∧ n = 0 then s.rxEntryBad place
  else if p = 0x94 ∧ n = 0 then s.ringUe place
  else if p = 0x70 ∧ n = 2 then s.blockRecordLost place
  else if p = 0x9C ∧ n = 1 then s.svcFail 0x0D
  else s

/-- What a real fault finds bad is repaired whatever ERR_MASK holds: a mask only keeps the report from FLT, and with it a Glen core's
restart, FLT's reaction (R28, R95, R117, R433). DEDUCED, log 39. -/
def State.faultFound (s : State) (p n place : Nat) (alt : Bool) : State :=
  let t := s.faultEffect p n place alt
  if 0xD0 ≤ p ∧ p < 0xD4 ∧ bitOf (s.get (ERR_MASK_MASK p)) n = false then t.coreCrash (p - 0xD0) n else t

/-- What an injected fault whose reaction is carried out does beyond its record (R427, R428). -/
def State.injectedEffect (s : State) (p n : Nat) : State :=
  if p = 0x9C ∧ n = 1 then s.svcFail 0x0D
  else if 0xD0 ≤ p ∧ p < 0xD4 then s.coreCrash (p - 0xD0) n
  else s

/-- Can a detector of page `p` fire: its block has power and a clock, and the controller is out of device reset (R36, R393)? -/
def State.detects (s : State) (p n : Nat) : Bool :=
  decide (n < (faultSources p).length) && !s.gated p && decide (s.rst.phase ≠ .off)

/-- A detector fires (R412). A BITMAP_UE whose copy in the reserved region is also uncorrectable (`alt`) is FATAL (R194). -/
def State.detectFault (s : State) (p n kind addr cycle place : Nat) (alt : Bool) : State :=
  if s.detects p n then
    (s.raiseFaultSev p n (if p = 0x2D ∧ n = 3 ∧ alt = true then 3 else s.severity p n) kind addr cycle false).faultFound p n place alt
  else s

/-- ERR_FORCE fires a source at the tick (R427). -/
def State.injectFault (s : State) (p n : Nat) : State :=
  let t := s.raiseFaultAt p n 7 0 0 true
  if bitOf (s.get (ERR_MASK_MASK p)) n ∨ s.reacts true = false then t else t.injectedEffect p n

/-- At the tick the set bits of every ERR_FORCE fire their sources and clear (R427). -/
def State.injectAll (s : State) : State :=
  let pages := (s.regs.filter (fun e => decide (e.1 < 0x100000 ∧ e.1 % 0x1000 = 0x1C))).map (fun e => e.1 / 0x1000)
  pages.foldl (fun (t : State) p =>
    ((List.range (faultSources p).length).filter (fun n => bitOf (s.get (ERR_FORCE_FORCE p)) n)).foldl
      (fun (u : State) n => u.injectFault p n) (t.setWord (p * 0x1000 + 0x1C) 0)) s

/-- A rail leaves its band: outside a save RAIL_FAULT, which is FATAL; during a save the save ends (R568, R570).
DEDUCED, log 51. -/
def State.railOut (s : State) (rail : Nat) : State :=
  if s.saving then s.failSave
  else if s.rst.phase = .off then s
  else s.raiseFault 0x03 2 9 rail

end Sys2Proof.Machine
end

