-- ==== Sys2Proof/Machine/Bus.lean ====
section
/-! DEFINITION. The register bus (R30 to R52): which accesses a port can make, the drop records, SYS_ACCOFF, the semaphores,
what a write stores and what it brings about, and what a read returns and clears. -/

namespace Sys2Proof.Machine

/-! ### The requesters (R33, R34, R407, R437) -/

/-- Does the sideband target acknowledge its address (R407, R491)? -/
def State.sbListens (s : State) : Bool :=
  decide (s.rst.phase ≠ .off) && !decide (s.rst.phase = .booting ∧ s.get RST_STAT_START = 0)
    && !decide (s.get RST_STAT_START = 1 ∧ s.now < s.rst.startedAt + 1000)

/-- Can requester `p` reach the register bus: the host over a link that is up and not fenced, the sideband port in the phases of
R407, Glen firmware while it runs; the test port has no register access (R33, R407, R429). -/
def State.portOpen (s : State) (p : Port) : Bool :=
  match p with
  | .host => s.hlk.linkUp && !s.hlk.fenced && decide (s.rst.phase ≠ .off)
  | .sideband => s.sbListens
  | .glen => decide (s.rst.phase = .configured ∨ s.rst.phase = .trained ∨ s.rst.phase = .active)
      && decide (s.get PWR_STAT_STATE ≠ 2)
  | .tst => false

/-! ### Records of refused accesses (R35, R36) -/

/-- The page index of a port's drop record; Glen firmware keeps its own. -/
def dropRecord (p : Port) : Option Nat :=
  match p with
  | .host => some 0
  | .sideband => some 1
  | .glen => none
  | .tst => none

/-- A dropped write is counted, the first since COUNT was read with its cause and address (R35). -/
def State.noteDrop (s : State) (p : Port) (a cause : Nat) : State :=
  match dropRecord p with
  | none => s
  | some k =>
    let t := if s.get (MGP_DROP_COUNT k) = 0 then (s.put (MGP_DROP_CAUSE k) cause).put (MGP_DROP_ADDR k) a else s
    t.bumpSat (MGP_DROP_COUNT k)

/-- SYS_ACCOFF records an access that R36 refuses. -/
def State.noteOff (s : State) (p : Port) (a : Nat) (wr : Bool) : State :=
  let t := if s.flag SYS_ACCOFF_VALID then s else
    ((((s.put SYS_ACCOFF_VALID 1).put SYS_ACCOFF_COUNT 0).put SYS_ACCOFF_PORT (portCode p)).put SYS_ACCOFF_WR (b2n wr)).put SYS_ACCOFF_PAGE
      (a / 0x1000) |>.put SYS_ACCOFF_OFFSET (a % 0x1000)
  t.bumpSat SYS_ACCOFF_COUNT

/-- PAGE_SEQ counts an accepted write, wrapping (R27). -/
def State.countWrite (s : State) (p : Nat) : State := s.put (PAGE_SEQ_COUNT p) ((s.get (PAGE_SEQ_COUNT p) + 1) % 2 ^ 32)

/-! ### Semaphores (R37 to R42) -/

/-- The lease of semaphore `n`. -/
def State.lease (s : State) (n : Nat) : Lease := Sparse.get (fun _ => ⟨0, 0, false⟩) s.leases n

/-- Sets a lease. -/
def State.setLease (s : State) (n : Nat) (l : Lease) : State :=
  { s with leases := Sparse.set (fun _ => ⟨0, 0, false⟩) s.leases n l }

/-- Semaphore `n` is granted to `p`, or its holder claims it again: the lease starts (R39, R41). -/
def State.grantSem (s : State) (n : Nat) (p : Port) : State :=
  (s.put (semHolder n) (portCode p)).setLease n ⟨s.get SEM_LEASE_LEASE_MS, s.now, false⟩

/-- One reader's claim (R39); the answer is the holder's code after it. -/
def State.claimOne (s : State) (n : Nat) (p : Port) : State :=
  let t := if s.get (semHolder n) = 0 ∨ s.get (semHolder n) = portCode p then s.grantSem n p else s
  t.send (.regData p (0x4100 + 4 * n) (BitVec.ofNat 32 (t.get (semHolder n))))

/-- Which bit of SEM_TIEk belongs to semaphore `n`. -/
def semTie (n : Nat) : Fld := ⟨0x4060 + 4 * (n / 32), n % 32, 1⟩

/-- Of the readers that claim a free semaphore in one cycle, the one that is granted it, and the tie record after: between the
ports the one that lost the last tie, Glen firmware only against nobody (R42). DEDUCED, log 21. -/
def State.decideTie (s : State) (n : Nat) (readers : List Port) : State :=
  if readers.contains .host && readers.contains .sideband then
    if s.flag (semTie n) then (s.put (semTie n) 0).grantSem n .host else (s.put (semTie n) 1).grantSem n .sideband
  else if readers.contains .host then s.grantSem n .host
  else if readers.contains .sideband then s.grantSem n .sideband
  else s.grantSem n .glen

/-- Reads of SEM_CLAIMn in one register-bus cycle (R39, R42). -/
def State.semClaim (s : State) (n : Nat) (readers : List Port) : State :=
  let l := readers.filter s.portOpen
  if 64 ≤ n ∨ l = [] then s
  else if s.get (semHolder n) = 0 ∧ 1 < l.length then
    let t := s.decideTie n l
    l.foldl (fun (u : State) p => u.send (.regData p (0x4100 + 4 * n) (BitVec.ofNat 32 (t.get (semHolder n))))) t
  else l.foldl (fun (t : State) p => t.claimOne n p) s

/-- A write of SEM_CLAIMn: a release by its holder, a break after the lease, else dropped with cause 4 (R40, R41).
DESIGN CHOICE, log 66. -/
def State.semWrite (s : State) (p : Port) (n : Nat) (data : Word) : State :=
  let own := getBits data 0 2
  let h := s.get (semHolder n)
  if bitOf data.toNat 31 then
    if own = portCode p ∧ h ≠ 0 ∧ h ≠ portCode p ∧ (s.lease n).out = true then
      (((s.freeSem n).bumpSat SEM_BROKEN_COUNT).event .semBroken 0x04 [n, h, portCode p]).countWrite 4
    else s.noteDrop p (0x4100 + 4 * n) 4
  else if own = portCode p ∧ h = portCode p ∧ h ≠ 0 then (s.freeSem n).countWrite 4
  else s.noteDrop p (0x4100 + 4 * n) 4

/-- The lease of a held semaphore runs out (R41). -/
def State.leaseExpired (s : State) (n : Nat) : State :=
  if n < 64 ∧ s.get (semHolder n) ≠ 0 ∧ (s.lease n).since + (s.lease n).ms * 1000 ≤ s.now then
    s.setLease n { s.lease n with out := true }
  else s

/-- Does `p` hold the semaphore that guards page `pg`, if one does (R37)? -/
def State.holdsSem (s : State) (p : Port) (pg : Nat) : Bool :=
  match semOf pg with
  | none => true
  | some n => decide (s.get (semHolder n) = portCode p)

/-! ### What a write stores (R7, R44, R94) -/

/-- A value outside a field's stated range is stored as the nearest limit (R94). DEDUCED, log 23. -/
def FSpec.limit (f : FSpec) (v : Nat) : Nat := if f.mx = 0 then v else max f.mn (min v f.mx)

/-- Limits that name another field, judged against its active value, and values that are stored as another (R94, R261, R263, R363,
R487, R497); PWR_MODE.TARGET keeps its value, since what a request stores is R521's. DEDUCED, log 24. -/
def State.adjusted (s : State) (a lo v : Nat) (data : Word) : Nat :=
  let pg := a / 0x1000
  let o := a % 0x1000
  if 0x60 ≤ pg ∧ pg < 0x70 ∧ o = 0x048 then
    (if lo = 0 then max (s.cfg (FCH_PACE_LOW (pg - 0x60)) + 1) v else min (s.cfg (FCH_PACE_HIGH (pg - 0x60)) - 1) v)
  else if a = 0x70044 ∧ lo = 16 then min (s.cfg FARR_RETRY_ITER_MAX) v
  else if 0x10044 ≤ a ∧ a < 0x10054 then (if v = 3 then 0 else v)
  else if a = 0x98060 ∧ lo = 16 then (if 9 < v then 0 else v)
  else if pg = 0x98 ∧ 0x200 ≤ o ∧ o < 0x300 ∧ o % 16 = 0 ∧ lo = 20 then
    (if getBits data 0 7 = 0x08 ∨ getBits data 0 7 = 0x0C then 0
     else if v = 1 ∧ (List.range 16).any (fun n => decide (n ≠ (o - 0x200) / 16 ∧ s.get (TWL_POLL_A_DEST n) = 1)) = true then 4
     else v)
  else if a = 0x3040 ∧ lo = 0 then s.get PWR_MODE_TARGET
  else v

/-- One field of a written register (R7); the one W1S register, MVG_FLAG_SET, sets bits of MVG_FLAGS. -/
def State.fieldWrite (s : State) (a : Nat) (data w : Word) (f : FSpec) : Word :=
  match f.acc with
  | .rw => putBits w f.lo f.w (s.adjusted a f.lo (f.limit (getBits data f.lo f.w)) data)
  | .rws => putBits w f.lo f.w (s.adjusted a f.lo (f.limit (getBits data f.lo f.w)) data)
  | .w1c => putBits w f.lo f.w (getBits w f.lo f.w - getBits (w &&& data) f.lo f.w)
  | .w1s => w
  | .ro => w
  | .wo => w
  | .rc => w

/-- Pages whose chapters say that a write takes effect at the next tick (R261, R263, R300, R332, R363, R387, R454, R480, R497,
R519, R533, R551, R552). DEDUCED, log 17. -/
def tickPage (p : Nat) : Bool :=
  decide (p = 0x03 ∨ (0x10 ≤ p ∧ p < 0x20) ∨ (0x50 ≤ p ∧ p < 0x58) ∨ (0x5C ≤ p ∧ p < 0x74) ∨ (0x80 ≤ p ∧ p < 0x84)
    ∨ (0x88 ≤ p ∧ p < 0x8C) ∨ p = 0x94 ∨ p = 0x98 ∨ p = 0x9C ∨ (0xA0 ≤ p ∧ p < 0xA4) ∨ (0xB4 ≤ p ∧ p < 0xB8))

/-- Does a write of register `a` take effect at the next tick: a block register of such a page with a stored field, but for
PWR_MODE and ATOL_WIN, which act in the cycle of the write (R480, R533)? DEDUCED, log 17. -/
def actsAtTick (a : Nat) (r : Row) : Bool :=
  tickPage (a / 0x1000) && decide (0x40 ≤ a % 0x1000 ∧ a ≠ 0x3040 ∧ a ≠ 0x81040)
    && r.flds.any (fun f => decide (f.acc = .rw ∨ f.acc = .rws))

/-- Keeps the value in force of a register written since the last tick. DESIGN CHOICE, log 16. -/
def keepLate : Sparse Word → Nat → Word → Sparse Word
  | [], k, w => [(k, w)]
  | e :: t, k, w => if k < e.1 then (k, w) :: e :: t else if k = e.1 then e :: t else e :: keepLate t k w

/-- Where a write to register `a` lands: the shadow of a shadowed register, the writer's own copy, or the register (R44, R480). -/
def writeKey (p : Port) (a : Nat) (r : Row) : Nat := if r.shadow then a + 0x800 else if r.perReader then perKey p a else a

/-- Stores a write's fields (R7, R44, R94). -/
def State.storeFields (s : State) (p : Port) (a : Nat) (r : Row) (data : Word) : State :=
  let k := writeKey p a r
  let w := r.flds.foldl (State.fieldWrite s a data) (s.word k)
  let t := s.setWord k w
  if actsAtTick a r && decide (w ≠ s.word k) then { t with late := keepLate s.late k (s.word k) } else t

/-! ### What a write brings about -/

/-- SOFT_RST is written 1: during a save nothing is carried out, and SOFT_RST reads 1 until the device reset that ends the stay
in BASIN (R121); else the block's registers reset, but for its pages in always-on logic (R584), and the reset runs until the block
reports ready (R29, R425); Atoll's operation is abandoned (R472). DEDUCED, log 30. -/
def State.softReset (s : State) (b : Nat) : State :=
  if s.saving then s
  else
    let t := s.resetBlocks (fun p => decide (blockOf p = b) && !alwaysOn p)
    let u := if b = 0x80 then t.atolAbort else t
    if u.flt.scopes.any (fun c => decide (c.what = .block b ∧ c.phase = .asserted)) then u
    else u.setFlt { u.flt with scopes := (u.flt.scopes.filter (fun c => decide (c.what ≠ .block b ∨ c.phase = .waiting)))
      ++ [⟨.block b, 0, .asserted, u.now, u.now⟩] }

/-- PAGE_CTRL of page `pg` was written: a soft reset that runs reads 1, EN at 0 aborts a running mover channel (R27, R29, R295). -/
def State.pageCtrlWritten (s old : State) (pg : Nat) (data : Word) : State :=
  if alwaysOn pg then s
  else
    let t := if 0x30 ≤ pg ∧ pg < 0x50 ∧ bitOf data.toNat 0 = false then s.abortChan (pg - 0x30) 1 else s
    let u := t.put (PAGE_CTRL_SOFT_RST pg) (b2n (old.flag (PAGE_CTRL_SOFT_RST pg) || bitOf data.toNat 2))
    if bitOf data.toNat 2 then u.softReset (blockOf pg) else u

/-- DISCARD copies every active register of page `pg` back into its shadow (R27). -/
def State.discardShadows (s : State) (pg : Nat) : State :=
  if shadowedPage pg then
    { s with regs := (List.range 512).foldl (fun m k =>
        let a := pg * 0x1000 + 4 * k
        if isShadowAddr (a + 0x800) then Sparse.set resetWord m (a + 0x800) (s.word a) else m) s.regs }
  else s

/-- MGP_EOI: the vector's message is sent again while it is pending, unless it is held (R51). -/
def State.eoi (s : State) (v : Nat) : State :=
  if s.vectors.contains v && !s.mgp.held.contains v then s.vectorUp v else s

/-- Held messages are sent once the function can send again, those no longer pending are gone (R51). -/
def State.sendHeld (s : State) : State :=
  let ready := s.mgp.held.filter s.canSend
  let t := s.setMgp { s.mgp with held := s.mgp.held.filter (fun v => !s.canSend v) }
  (ready.filter s.vectors.contains).foldl (fun (u : State) v => u.send (.msix v)) t

/-- Has `p` written the key to RST_KEY within the previous 1 ms (R410)? -/
def State.keyed (s : State) (p : Port) : Bool := s.rst.keys.any (fun e => decide (e.1 = p ∧ s.now ≤ e.2 + 1000))

/-- DEV_RST after the key by the same port within 1 ms requests a device reset; any other is dropped (R394, R410).
DEDUCED, log 29. -/
def State.devRst (s : State) (p : Port) : State :=
  if s.keyed p then
    s.requestReset (match p with
      | .host => 2
      | .sideband => 3
      | .glen => 4
      | .tst => 7)
  else s.noteDrop p 0x2040 1

/-- The claim of another requester, made in this pass for a higher block number, that a claim of `p` for `f` may share its
register-bus cycle with (R33, R47). -/
def State.tieWith (s : State) (p : Port) (f : Feature) : Option Claim :=
  s.mgp.claims.find? (fun c => decide (c.entry = f.entry ∧ c.tick = s.now ∧ c.port ≠ p ∧ f.block < c.block
    ∧ s.get (RES_ENTRY_OWNER f.entry) = c.block))

/-- The claim is noted, as the last to its entry. -/
def State.noteClaim (s : State) (p : Port) (f : Feature) : State :=
  s.setMgp { s.mgp with claims := (s.mgp.claims.filter (fun c => decide (c.entry ≠ f.entry)))
    ++ [⟨f.entry, f.block, f.enable.addr, f.enable.lo, p, s.now⟩] }

/-- Requester `p` writes 1 to the enable bit of `f`. Of two claims to a free entry in one register-bus cycle the lower block
number becomes owner and the other is refused; whether two claims of one pass share a cycle is free (R47).
DESIGN CHOICE, log 61. -/
def State.claimBy (s : State) (p : Port) (f : Feature) : State :=
  match s.tieWith p f with
  | some c =>
    if s.free % 2 = 1 then
      let t := ((s.drawn.put ⟨c.addr, c.lo, 1⟩ 0).put (RES_ENTRY_OWNER f.entry) f.block).claim f.entry c.block (c.addr / 0x1000)
      (t.put f.enable 1).noteClaim p f
    else s.drawn.enableFeature f true
  | none =>
    if s.get (RES_ENTRY_OWNER f.entry) = 0xFF then (s.enableFeature f true).noteClaim p f else s.enableFeature f true

/-- The feature enables that share a written register are claimed or released (R47). -/
def State.enableFeatures (s : State) (p : Port) (a : Nat) (data : Word) : State :=
  (features.filter (fun f => decide (f.enable.addr = a))).foldl
    (fun (t : State) f => if bitOf data.toNat f.enable.lo then t.claimBy p f else t.enableFeature f false) s

/-- The mover flags a requester may affect: the ports bits 24 to 31 (R300). -/
def flagMask (p : Port) (data : Word) : Word := if p = .glen then data else data &&& 0xFF000000

/-- What a stored write of register `a` brings about in the same cycle; `old` is the state before it. -/
def State.written (s old : State) (p : Port) (a : Nat) (data : Word) : State :=
  let pg := a / 0x1000
  let o := a % 0x1000
  let d := data.toNat
  let s := s.enableFeatures p a data
  if o = 0x008 then s.pageCtrlWritten old pg data
  else if o = 0x010 ∨ o = 0x014 then s.settle
  else if o = 0x018 then s.raiseMask pg d
  else if o = 0x02C then (if bitOf d 1 then s.discardShadows pg else s)
  else if a = 0x60 then (if bitOf d 31 then s.setWord 0x60 0 else s)
  else if pg = 0x0A ∧ 0x40 ≤ o ∧ o < 0x440 then s.settle
  else if a = 0xB080 then s.eoi (getBits data 0 5)
  else if a = 0x2040 then (if bitOf d 0 then s.devRst p else s)
  else if a = 0x2044 then
    (if d = 0x52535430 then
      s.setRst { s.rst with keys := (s.rst.keys.filter (fun e => decide (e.1 ≠ p))) ++ [(p, s.now)] }
    else s)
  else if a = 0x3040 then s.requestState (getBits data 0 2)
  else if a = 0x22040 then s.postBarrier d
  else if a = 0x23040 then (s.put PERS_Q_STATE_VALID 0).setPers { s.pers with lookup := some (getBits data 0 25) }
  else if a = 0x71040 then s.queryBlock d
  else if 0x60 ≤ pg ∧ pg < 0x70 ∧ o = 0x044 then (if bitOf d 0 then s.retrainChannel (pg - 0x60) else s)
  else if 0x30 ≤ pg ∧ pg < 0x50 ∧ o = 0x040 then s.movCmd (pg - 0x30) d
  else if a = 0xB4048 then
    s.put MVG_FLAGS_FLAGS ((BitVec.ofNat 32 (s.get MVG_FLAGS_FLAGS) ||| data).toNat)
  else if a = 0xB4088 then s.pmStore d
  else if a = 0xB7050 then s.ringPop
  else if a = 0x58040 then
    let t := if bitOf d 0 then s.dtrnGo else s
    if bitOf d 1 then t.dtrnHalt else t
  else if a = 0x88040 then (if bitOf d 8 then s.strtRetrain else s)
  else if a = 0x92060 then s.fltPop
  else if a = 0x93060 then s.fltFirstClr
  else if a = 0x94040 then
    let t := s.freezeWritten
    if bitOf d 8 then t.flush else t
  else if 0x94080 ≤ a ∧ a < 0x94090 then s.setTouched ((o - 0x80) / 4)
  else if 0x940C0 ≤ a ∧ a < 0x941C0 then s.setTouched ((o - 0xC0) / 64)
  else if a = 0x94200 then s.beginRecRead p
  else if a = 0x98060 then (if bitOf d 31 then s.twlGo else s)
  else if a = 0x98094 then s.notifyPop
  else if a = 0x5C0C4 then s.markPop
  else if a = 0xA004C then (if bitOf d 8 then s.capBegin else s)
  else s

/-! ### Writes (R31, R33 to R37) -/

/-- Must the writer hold the page's semaphore: a register with an RW/S field, MOV_CMD, FLT_POP and FLT_FIRST_CLR (R37, R299,
R436)? -/
def needsSem (a : Nat) (r : Row) : Bool :=
  r.flds.any (fun f => decide (f.acc = .rws)) || decide (0x30 ≤ a / 0x1000 ∧ a / 0x1000 < 0x50 ∧ a % 0x1000 = 0x40)
    || decide (a = 0x92060 ∨ a = 0x93060)

/-- Writes of the management ports to channels and group modes they do not own (R267). -/
def notOwned (p : Port) (a : Nat) (r : Row) : Bool :=
  decide (p = .host ∨ p = .sideband) &&
    (decide ((a / 0x1000 = 0xB4 ∨ a / 0x1000 = 0xB5 ∨ a / 0x1000 = 0xB6) ∧ a % 0x1000 = 0x40)
      || (decide (0x30 ≤ a / 0x1000 ∧ a / 0x1000 < 0x4C) && r.flds.any (fun f => decide (f.acc = .rws ∨ f.acc = .wo))))

/-- A full write of register `a` that its page accepts to decode: semaphore, ownership, the key of DEV_RST, the program-memory
window, then the store and what follows (R37, R267, R274, R410). -/
def State.storeWord (s : State) (p : Port) (a : Nat) (r : Row) (data : Word) : State :=
  let pg := a / 0x1000
  if (needsSem a r && !s.holdsSem p pg) || notOwned p a r || (decide (a = 0x2040) && bitOf data.toNat 0 && !s.keyed p) then
    s.noteDrop p a 1
  else if a = 0xB4088 ∧ pmAllowed p (s.get MVG_PM_ADDR_WORD) = false then (s.put MVG_PM_STAT_DENIED 1).noteDrop p a 1
  else
    let x := if a = 0xB4044 ∨ a = 0xB4048 then flagMask p data else data
    (((s.storeFields p a r x).countWrite pg).written s p a x).refreshArmed

/-- A full 32-bit write on the register bus (R30, R35 to R37). DEDUCED, log 18. DESIGN CHOICE, log 63. -/
def State.busWrite (s : State) (p : Port) (a : Nat) (data : Word) : State :=
  let pg := a / 0x1000
  if ¬ implemented pg then s
  else if s.gated pg then (s.noteOff p a true).noteDrop p a 2
  else if pg = 0x80 ∧ 0x40 ≤ a % 0x1000 then (s.winWrite p (s.winOffset p (a % 0x1000)) data).countWrite pg
  else if 0x4100 ≤ a ∧ a < 0x4200 then s.semWrite p ((a - 0x4100) / 4) data
  else
    match regRow a with
    | none => s.countWrite pg
    | some r => s.storeWord p a r data

/-- A write with byte enables: a partial one is dropped with cause 3 (R31, R36). -/
def State.portWrite (s : State) (p : Port) (addr mask : Nat) (data : Word) : State :=
  let a := addr % 0x100000 / 4 * 4
  if ¬ s.portOpen p then s
  else if mask % 16 = 15 ∧ addr % 4 = 0 then s.busWrite p a data
  else if ¬ implemented (a / 0x1000) then s
  else if s.gated (a / 0x1000) then (s.noteOff p a true).noteDrop p a 2
  else s.noteDrop p a 3

/-- A full write by a port. -/
def State.portWord (s : State) (p : Port) (a : Nat) (data : Word) : State :=
  if s.portOpen p then s.busWrite p a data else s

/-- A port writes a register with one field changed and the others as they read. -/
def State.portBits (s : State) (p : Port) (a lo w v : Nat) : State :=
  s.portWord p a (putBits (s.peek p a) lo w v)

/-! ### Reads (R31, R32, R35, R36, R39, R274) -/

/-- What a read clears: the RC fields, both halves of an RC pair read through its low half (R7, R32). -/
def State.clearRead (s : State) (a : Nat) (r : Row) : State :=
  let t := (r.flds.filter (fun f => decide (f.acc = .rc))).foldl (fun (t : State) f => t.put ⟨a, f.lo, f.w⟩ 0) s
  if r.kind = .lo ∧ r.flds.any (fun f => decide (f.acc = .rc)) = true then t.setWord (a + 4) 0 else t

/-- The word a read of register `a` returns and the state it leaves. -/
def State.readWord (s : State) (p : Port) (a : Nat) : State × Word :=
  if a = 0xB4084 then
    ({ s with latch := Sparse.set (fun _ => 0) s.latch (perKey p 0xB4088) (BitVec.ofNat 32 (s.pmSeen p / 2 ^ 32)) },
      BitVec.ofNat 32 (s.pmSeen p))
  else if a = 0xB4088 then (s.pmNext, Sparse.get (fun _ => 0) s.latch (perKey p 0xB4088))
  else
    match regRow a with
    | none => (s, s.peek p a)
    | some r =>
      match r.kind with
      | .lo => (({ s with latch := Sparse.set (fun _ => 0) s.latch (perKey p (a + 4)) (s.word (a + 4)) }).clearRead a r, s.peek p a)
      | .hi => (s, Sparse.get (fun _ => 0) s.latch (perKey p a))
      | .plain => (s.clearRead a r, s.peek p a)

/-- The answer of the Atoll window when nothing says how the array read: its corrected bits are free.
DESIGN CHOICE, log 20. -/
def State.windowAny (s : State) (p : Port) (o : Nat) : State × Word :=
  (s.drawn).winRead p (s.winOffset p o) (s.free % 16) (bitOf s.free 4)

/-- A read on the register bus: the state it leaves, and the word, `none` where it is not acknowledged (R30 to R36). -/
def State.busRead (s : State) (p : Port) (a : Nat) : State × Option Word :=
  let pg := a / 0x1000
  if ¬ implemented pg then (s, some (s.peek p a))
  else if s.gated pg && decide (a % 0x1000 ≠ 0) then
    (s.noteOff p a false, if p = .sideband then none else some 0xFFFFFFFF)
  else if pg = 0x80 ∧ 0x40 ≤ a % 0x1000 then ((s.windowAny p (a % 0x1000)).1, some (s.windowAny p (a % 0x1000)).2)
  else if 0x4100 ≤ a ∧ a < 0x4200 then
    let n := (a - 0x4100) / 4
    let t := if s.get (semHolder n) = 0 ∨ s.get (semHolder n) = portCode p then s.grantSem n p else s
    (t, some (BitVec.ofNat 32 (t.get (semHolder n))))
  else ((s.readWord p a).1, some (s.readWord p a).2)

/-- A read by a port, answered (R30, R36). -/
def State.portRead (s : State) (p : Port) (addr : Nat) : State :=
  let a := addr % 0x100000 / 4 * 4
  if ¬ s.portOpen p then s
  else
    match (s.busRead p a).2 with
    | some w => (s.busRead p a).1.send (.regData p a w)
    | none => (s.busRead p a).1.send (.regNack p a)

/-! ### The Atoll window (R461, R462, R471) -/

/-- A window write carries a cycle of a sequence; `late` when it arrives in the cycle in which SEQ_TMO_US expires (R461, R462). -/
def State.windowData (s : State) (p : Port) (offset : Nat) (data : Word) (late : Bool) : State :=
  let o := 0x40 + offset % 0xFC0 / 4 * 4
  let t := s.portWord p (0x80000 + o) data
  if late && s.portOpen p && !s.gated 0x80 && (s.seqOf p).isSome then t.lateOk 0x80 else t

/-- A window read, with the bits the array corrected or that it could not (R461, R471). -/
def State.windowRead (s : State) (p : Port) (offset cbits : Nat) (ue : Bool) : State :=
  let o := 0x40 + offset % 0xFC0 / 4 * 4
  if ¬ s.portOpen p then s
  else if s.gated 0x80 then
    let t := s.noteOff p (0x80000 + o) false
    t.send (if p = .sideband then .regNack p (0x80000 + o) else .regData p (0x80000 + o) 0xFFFFFFFF)
  else
    let r := s.winRead p (s.winOffset p o) cbits ue
    r.1.send (.regData p (0x80000 + o) r.2)

end Sys2Proof.Machine
end

