-- ==== Sys2Proof/Machine/Tws.lean ====
section
/-! DEFINITION. The sideband target (R491 to R498): its commands with their refusals, the alert-response answer, and the
transactions it abandons. -/

namespace Sys2Proof.Machine

/-- The register address of three address bytes (R492). -/
def sbAddr (a0 a1 a2 : BitVec 8) : Nat := a0.toNat + a1.toNat * 0x100 + a2.toNat % 16 * 0x10000

/-- A transaction is refused (R495): counted, with its cause and the register address, when one was received. -/
def State.sbNack (s : State) (cause addr : Nat) : State :=
  (((s.put TWS_LAST_CAUSE cause).put TWS_LAST_ADDR addr).put TWS_LAST_VALID 1).bump TWS_NACK_COUNT

/-- A PEC mismatch refuses the transaction and is counted and raised (R495, R498). -/
def State.sbPecError (s : State) (addr : Nat) : State :=
  ((((s.sbNack 6 addr).bump TWS_PEC_ERR_COUNT).raiseInt 0x99 0)).raiseFault 0x99 1 7 0

/-- An access to a page outside always-on logic wakes the controller from BASIN (R526). -/
def State.sbWake (s : State) (pg : Nat) : State := if implemented pg && !alwaysOn pg then s.wake 6 else s

/-- Is page `pg` implemented and gated or off (R36)? -/
def State.sbGated (s : State) (pg : Nat) : Bool := implemented pg && s.gated pg

/-- Words written in ascending order from address `a` (R30, R492). -/
def State.writeWords (p : Port) : State → Nat → List Word → State
  | s, _, [] => s
  | s, a, w :: t => State.writeWords p (s.busWrite p a w) (a + 4) t

/-- REG_WRITE (R492, R493, R495): byte count, address bytes, data words, and whether the PEC sent matches.
DESIGN CHOICE, log 65. -/
def State.sbWrite (s : State) (count : Nat) (a0 a1 a2 : BitVec 8) (words : List Word) (pecOk : Bool) : State :=
  let a := sbAddr a0 a1 a2 / 4 * 4
  let k := (count - 3) / 4
  let pg := a / 0x1000
  if ¬ s.sbListens then s
  else if count < 7 ∨ 35 < count ∨ (count - 3) % 4 ≠ 0 then s.sbNack 2 0
  else if 16 ≤ a2.toNat ∨ 0x1000 < a % 0x1000 + 4 * k then s.sbNack 3 (sbAddr a0 a1 a2)
  else if s.sbGated pg then
    (((s.noteOff .sideband a true).noteDrop .sideband a 2).sbNack 5 (sbAddr a0 a1 a2)).sbWake pg
  else if s.cfgOn TWS_CFG_PEC_REQ ∧ pecOk = false then s.sbPecError (sbAddr a0 a1 a2)
  else ((State.writeWords .sideband s a (words.take k)).bump TWS_XACT_COUNT).sbWake pg

/-- `k` words read in ascending order from address `a` (R30, R494). -/
def State.readWords (p : Port) : Nat → State → Nat → State × List Word
  | 0, s, _ => (s, [])
  | k + 1, s, a =>
    let r := s.busRead p a
    let t := State.readWords p k r.1 (a + 4)
    (t.1, r.2.getD 0xFFFFFFFF :: t.2)

/-- What the target answers after a read, with the PEC of the whole transaction when PEC_REQ is 1 (R494). -/
def State.sbAnswer (s : State) (sent data : List (BitVec 8)) : State :=
  s.send (.smbus (data ++ (if s.cfgOn TWS_CFG_PEC_REQ then [pec (sent ++ data)] else [])))

/-- REG_READ (R492, R494, R495): the write count, the address bytes, and k. DESIGN CHOICE, log 65. -/
def State.sbRead (s : State) (count : Nat) (a0 a1 a2 : BitVec 8) (k : Nat) : State :=
  let a := sbAddr a0 a1 a2 / 4 * 4
  let pg := a / 0x1000
  let own := s.get TWS_STAT_ADDR
  if ¬ s.sbListens then s
  else if count ≠ 4 then s.sbNack 2 0
  else if 16 ≤ a2.toNat then s.sbNack 3 (sbAddr a0 a1 a2)
  else if k = 0 ∨ 8 < k then s.sbNack 4 (sbAddr a0 a1 a2)
  else if 0x1000 < a % 0x1000 + 4 * k then s.sbNack 3 (sbAddr a0 a1 a2)
  else if s.sbGated pg ∧ (a % 0x1000 ≠ 0 ∨ k ≠ 1) then
    ((s.noteOff .sideband a false).sbNack 5 (sbAddr a0 a1 a2)).sbWake pg
  else
    let r := State.readWords .sideband k s a
    let sent := [BitVec.ofNat 8 (2 * own), 0x02, 4, a0, a1, a2, BitVec.ofNat 8 k, BitVec.ofNat 8 (2 * own + 1)]
    ((r.1.bump TWS_XACT_COUNT).sbAnswer sent (BitVec.ofNat 8 (4 * k) :: wordBytes r.2)).sbWake pg

/-- RESET requests a device reset with SRC 0x3 (R493, R495). -/
def State.sbReset (s : State) (count : Nat) (bytes : List (BitVec 8)) (pecOk : Bool) : State :=
  if ¬ s.sbListens then s
  else if count ≠ 4 then s.sbNack 2 0
  else if bytes ≠ [0x30, 0x54, 0x53, 0x52] then s.sbNack 7 0
  else if s.cfgOn TWS_CFG_PEC_REQ ∧ pecOk = false then s.sbPecError 0
  else (s.bump TWS_XACT_COUNT).requestReset 3

/-- The alert-response address: answered while SB_ALERT# is asserted, with the target's address (R491). -/
def State.sbAra (s : State) : State :=
  if s.sbListens ∧ s.flag TWS_STAT_ALERT = true ∧ s.cfgOn TWS_CFG_ARA_EN = true then
    s.sbAnswer [0x19] [BitVec.ofNat 8 (2 * s.get TWS_STAT_ADDR)]
  else s

/-- SB_SCL stays low for tTIMEOUT: the transaction is abandoned (R496). -/
def State.sbTimeout (s : State) : State := if s.sbListens then s.bump TWS_TMO_COUNT else s

/-- A misplaced repeated start abandons the transaction (R496). -/
def State.sbAbandon (s : State) : State :=
  if s.sbListens then ((s.bump TWS_PROTO_COUNT).raiseInt 0x99 1).raiseFault 0x99 0 7 0 else s

/-- A command code other than 0x01, 0x02 and 0x0F is refused (R495). DEDUCED, log 48. -/
def State.sbRefused (s : State) (code : Nat) : State :=
  if s.sbListens ∧ code ≠ 1 ∧ code ≠ 2 ∧ code ≠ 0x0F then s.sbNack 1 0 else s

end Sys2Proof.Machine
end

