-- ==== Sys2Proof/Machine/Tick.lean ====
section
/-! DEFINITION. What the pass tick does (R5): the copies of R45, writes that take effect, injected faults, resets that are
asserted, the levels, the scheduler's work, and the counts of time; and ALIVE (R20). -/

namespace Sys2Proof.Machine

/-- ALIVE toggles while the controller runs normally (R20). -/
def State.aliveEdge (s : State) : State := if s.rst.aliveRun then s.setRst { s.rst with alive := !s.rst.alive } else s

/-- Does a pass tick occur: PLL F runs, outside device reset and BASIN (R390, R432, R520)? DEDUCED, log 26. -/
def State.ticks (s : State) : Bool := s.locked 0 && decide (s.rst.phase ≠ .off ∧ s.get PWR_STAT_STATE ≠ 2)

/-! ### Shadows and writes that take effect (R45, R94, R157) -/

/-- Kept fields of register `a` are kept in Atoll with the value they now have (R78, R164, R187, R363, R387, R519, R552). -/
def State.storeKept (s : State) (a : Nat) : State :=
  (storedFields.filter (fun f => decide (f.addr = a))).foldl (fun (t : State) f => t.store f (t.get f)) s

/-- The pairs that are judged as a commit leaves them: MAX not below MIN of a share, V_CLOSE below V_TRIP (R94, R157). -/
def State.judgePairs (s : State) (pg : Nat) : State :=
  if pg = 0x21 then
    (List.range 5).foldl (fun (t : State) c =>
      if t.get (PERS_SHARE_MAX c) < t.get (PERS_SHARE_MIN c) then
        let v := t.get (PERS_SHARE_MIN c)
        (t.put (PERS_SHARE_MAX c) v).put ⟨(PERS_SHARE_MAX c).addr + 0x800, (PERS_SHARE_MAX c).lo, (PERS_SHARE_MAX c).w⟩ v
      else t) s
  else if pg = 0x28 ∧ s.get SAVE_DETECT_V_TRIP ≤ s.get SAVE_DETECT_V_CLOSE then
    let v := s.get SAVE_DETECT_V_TRIP - 5
    (s.put SAVE_DETECT_V_CLOSE v).put ⟨SAVE_DETECT_V_CLOSE.addr + 0x800, SAVE_DETECT_V_CLOSE.lo, SAVE_DETECT_V_CLOSE.w⟩ v
  else s

/-- The active registers of page `pg` take the values of its shadows; fields that are not writable stay (R44, R45). -/
def State.copyShadows (s : State) (pg : Nat) : State :=
  if shadowedPage pg then
    (List.range 512).foldl (fun (t : State) k =>
      let a := pg * 0x1000 + 4 * k
      if isShadowAddr (a + 0x800) then
        match rowOf a with
        | some r => (r.flds.foldl (fun (u : State) f =>
            if f.acc = .rws ∨ f.acc = .rw then u.put ⟨a, f.lo, f.w⟩ (s.get ⟨a + 0x800, f.lo, f.w⟩) else u) t).storeKept a
        | none => t
      else t) s
  else s

/-- A page whose ARM reads 1 is copied; ARM clears and COMMIT_SEQ takes the pass (R45). DEDUCED, log 22. -/
def State.commitPage (s : State) (pg : Nat) : State :=
  (((s.copyShadows pg).judgePairs pg).put (SHADOW_CTRL_ARM pg) 0).put (COMMIT_SEQ_TICK pg) s.pass32

/-- Every page armed for this tick (R45). -/
def State.commitAll (s : State) : State :=
  (s.regs.filter (fun e => decide (e.1 < 0x100000 ∧ e.1 % 0x1000 = 0x2C ∧ getBits e.2 0 1 = 1))).foldl
    (fun (t : State) e => t.commitPage (e.1 / 0x1000)) s

/-- TERRACE_SHARE is never below the active minimum of the shadow's share (R94). -/
def State.judgeTerrace (s : State) : State :=
  if s.get PWR_CFG_TERRACE_SHARE < s.get (PERS_SHARE_MIN 0) then s.put PWR_CFG_TERRACE_SHARE (s.get (PERS_SHARE_MIN 0)) else s

/-- Writes since the last tick take effect: kept fields go to Atoll, an exclusion changes the expected set, buffer limits move
the FULL flags (R239, R368, R387). -/
def State.takeWrites (s : State) : State :=
  let l := s.late.map (·.1)
  let t := l.foldl State.storeKept { s with late := [] }
  let u := if l.contains STRT_EXCLUDE_MASK.addr then t.refreshExpected else t
  ((List.range 16).filter (fun c => l.contains (FCH_PACE_HIGH c).addr)).foldl
    (fun (v : State) c => v.setFill c (v.get (FCH_FILL_BURSTS c))) u

/-! ### The work of a pass -/

/-- RSTR's banks: a bank taken from the movers aborts the channels that use it (R48, R296). -/
def State.takeBanks (s : State) : State :=
  let t := s.rstrTick
  if t.rstr.banks && !s.rstr.banks then t.preemptMovers else t

/-- The resets due at this tick; one of Atoll's block or domain abandons its operation, and an update that it served (R421, R472,
R510). -/
def State.resetsDue (s : State) : State :=
  let atol := s.flt.scopes.any (fun c => decide (c.phase = .waiting ∧ (c.what = .block 0x80 ∨ c.what = .domain 1)))
  let t := s.assertResets
  if atol then
    let u := t.atolAbort
    if (t.atol.running.map (·.src)) = some 3 ∨ (t.atol.erase.map (·.src)) = some 3 then u.svcFail 0x0C else u
  else t

/-- What a DRC reports of the pass (R305, R307). -/
def State.countDrc (s : State) (e : Nat × Nat × Nat) : State :=
  if e.1 < 2 then (s.bumpBy (DRC_QFULL_COUNT e.1) e.2.1).bumpBy (DRC_STARVE_COUNT e.1) e.2.2 else s

/-- Passes with credit return stopped (R344, R363). -/
def State.countStalls (s : State) : State :=
  let t := if s.reqStopped then s.bump HLK_STALL_REQ_PASSES else s
  if s.rwdStopped then t.bump HLK_STALL_RWD_PASSES else t

/-- Has class `c` an item that can be issued at this tick: a copy or fold, a restore item, a due scrub line, a due scan or
calibration, a telemetry sample whose period has ended, or a burst of a mover channel that is charged to it (R67, R269)?
DESIGN CHOICE, log 84. -/
def State.classPending (s : State) (c : Nat) : Bool :=
  (s.mov.chans.any (fun e => s.hasBurst e.1 && decide (s.classOfChan e.1 = c))) ||
  match c with
  | 0 => s.offer.isSome || (s.cfgOn PERS_SHD_CFG_FOLD_EN && decide (s.level ≤ 1)
      && s.pers.band.any (fun u => match u.left with
        | none => s.foldDue u
        | some l => !l.isEmpty))
  | 1 => (s.nextRestore false).isSome || (s.nextRestore true).isSome
  | 2 => decide (0 < s.dscr.due)
  | 3 => !(s.upk.due ++ s.upk.dqDue ++ s.upk.scan ++ s.upk.disturb).isEmpty
  | _ => decide (s.upk.telAt + s.cfg TEL_CFG_TEL_MS * 1000 ≤ s.now)

/-- The scheduled work of the pass: in a save the sequencer's, else the scheduler's classes; the level is decided first, so that a
change acts at its own tick (R66 to R68, R80, R81, R104, R109). A copy, a fold or a relocation starts only while the shadow class has
units left: each takes one at least (R230, R254, R258). DEDUCED, log 74. -/
def State.classWork (s : State) (w : TickWork) : State :=
  if s.saving then State.saveIslets w.saved s
  else if s.persRuns then
    let l := s.levelTick
    let t := w.overrun.foldl State.passOverrun (l.allotAll w.used (maskOf ((List.range 5).filter l.classPending)))
    let n := min w.starts (t.unitsOf 0)
    let u := t.shadowTick n w.hit
    let left := t.unitsOf 0 - (u.pers.copies.length - t.pers.copies.length)
    let v := State.foldSteps (min w.folds left) u
    ((State.relocSteps (min w.relocs (left - min w.folds left)) v).retireAll).wearLevel
  else s

/-- The pass counter, the copies and writes that take effect, and everything scheduled for the pass. DEDUCED, log 25. -/
def State.passWork (s : State) (w : TickWork) : State :=
  let a := (s.bump64 SYS_PASS_LO_COUNT).alignTick
  let b := (((a.commitAll).takeWrites).judgeTerrace).refreshArmed
  let c := ((b.takeBanks).injectAll).resetsDue
  let d := [0, 1, 2, 3].foldl State.drainQueue ((((c.classWork w).startChans).moverTick).scrubTick).flashTick
  let e := w.sent.foldl (fun (t : State) x => if x.1 < 16 then t.drainFill x.1 x.2 else t) d
  (((w.drcEvents.foldl State.countDrc e).countStalls).recTick).refreshHlk

/-- The counts of time: tenths of a second of operation, and the stay in a power state (R442, R533). -/
def State.countTime (s : State) : State :=
  let t := if s.now % 100000 = 0 then s.countTenth else s
  t.countStay

/-- PASS_TICK: a microsecond has gone by; while the fabric runs it is a pass tick (R5, R583). DESIGN CHOICE, log 70. -/
def State.passTick (s : State) (w : TickWork) : State :=
  let t := { s with now := s.now + 1 }
  (if t.ticks then t.passWork w else t).countTime

end Sys2Proof.Machine
end

