-- ==== Sys2Proof/Machine/Outcomes.lean ====
section
/-! DEFINITION. The ends of work that several blocks share: a watchdog of a Glen core, an event of a block, the islet lookup, image
detection, and the wipe of Atoll. -/

namespace Sys2Proof.Machine

/-- A running core's watchdog runs out: WDOG, which is CONTAINED (R433). -/
def State.glenWdog (s : State) (k cycle : Nat) : State :=
  if k < 4 ∧ (s.get (GLC_STAT_STATE k) = 1 ∨ s.get (GLC_STAT_STATE k) = 3) then s.detectFault (0xD0 + k) 0 7 0 cycle 0 false
  else s

/-- An event that a block reports reaches REC: TYPE 0x02 with the block's own number and up to seven DETAIL words (R438, R439). -/
def State.blockEvent (s : State) (b code : Nat) (coincident : Bool) (detail : List Word) : State :=
  if implemented b && decide (s.rst.phase ≠ .off) then s.recEvent ⟨2, blockOf b, code % 2 ^ 16, 0, coincident, false, detail.take 7⟩
  else s

/-- The islet lookup completes (R96). -/
def State.lookupDone (s : State) : State :=
  match s.pers.lookup with
  | none => s
  | some i => if s.gated 0x23 then s else s.endLookup i

/-- Image detection ends, after an erase that was left unfinished, and this device's outcome is settled or reported (R160, R186, R211,
R359); a save that has begun first leaves it undone (R182). -/
def State.imageDetected (s : State) (f : Found) : State :=
  if s.detecting ∧ s.saving = false ∧ s.save.ended = false then
    let t := (s.finishErase f.unerased).detect f
    (if t.rstr.cls < 5 then t.knownFailures else t).reportImage
  else s

/-- The metadata load ends; RSTR's claim of the staging banks takes them from the movers that use them (R48, R166, R296). -/
def State.loadEnded (s : State) : State :=
  let t := s.metadataLoaded
  if t.rstr.banks && !s.rstr.banks then t.preemptMovers else t

/-- Blocks whose retirement only Atoll's grown-defect table told are no longer known to be bad once it is gone, and the baselines kept with it
are gone too (R251, R254, R476). -/
def State.forgetDefects (s : State) : State :=
  s.setFarr { s.farr with
    blocks := Sparse.mapVals (fun _ => freshBlock) (fun b => if 3 ≤ b.bstate then { b with bstate := 2 } else b) s.farr.blocks
    dies := s.farr.dies.map (fun e => (e.1, { e.2 with slcTimes := [], tlcTimes := [], retired := 0 }))
    substitutes := [] }

/-- The wipe that a lowering of the protection level began is complete: a device reset follows, with a source code that the spec
does not state (R476). DEDUCED, log 52. DESIGN CHOICE, log 53. -/
def State.wipeDone (s : State) : State :=
  if s.flag ATOL_PROT_WIPING ∧ s.saving = false then
    ((((s.wiped).recRange).forgetDefects).drawn).deviceReset (s.free % 16)
  else s

end Sys2Proof.Machine
end

