-- ==== Sys2Proof/Machine/CmdAtol.lean ====
section
/-! DEFINITION. What each command of Atoll flash (R455 to R480) does: one meaning for each row of the table, over the shared operations. -/

namespace Sys2Proof.Machine

/-- ATOL_PROGRAM (R464): The PROGRAM command word begins a sequence of eight data words. -/
def execAtolProgram (p : Port) (s : State) : Host.Outcome State Fault Refusal := .next (s.portWord p 0x80820 0xA700EE11)

/-- ATOL_ERASE (R467): The ERASE command word begins a sequence that erases a block on its second cycle. -/
def execAtolErase (p : Port) (s : State) : Host.Outcome State Fault Refusal := .next (s.portWord p 0x80820 0xA700DD22)

/-- ATOL_HALT (R468): The HALT command word suspends the running erase. -/
def execAtolHalt (p : Port) (s : State) : Host.Outcome State Fault Refusal := .next (s.portWord p 0x80820 0xA700CC33)

/-- ATOL_CONTINUE (R468): The CONTINUE command word resumes an erase suspended by HALT. -/
def execAtolContinue (p : Port) (s : State) : Host.Outcome State Fault Refusal := .next (s.portWord p 0x80820 0xA700CB34)

/-- ATOL_STATUS (R461): The STATUS command word makes the next window read return ATOL_PSTAT. -/
def execAtolStatus (p : Port) (s : State) : Host.Outcome State Fault Refusal := .next (s.portWord p 0x80820 0xA700BB44)

/-- ATOL_COUNTS (R479): The COUNTS command word enters erase-counter mode where allowed. TST gives the word to its own window
(R458, R459): it has no register port. DEDUCED, log 47. -/
def execAtolCounts (p : Port) (s : State) : Host.Outcome State Fault Refusal :=
  .next (if p = .tst then s.beginCmd p 0x55 0 else s.portWord p 0x80820 0xA700AA55)

/-- ATOL_FLIP (R474): The FLIP command word, repeated, performs a boot swap. -/
def execAtolFlip (p : Port) (s : State) : Host.Outcome State Fault Refusal := .next (s.portWord p 0x80820 0xA7009966)

/-- ATOL_PROTECT (R476): The PROTECT command word with its confirming word raises the level, or lowers it with a wipe. -/
def execAtolProtect (p : Port) (lvl : Nat) (s : State) : Host.Outcome State Fault Refusal :=
  .next (s.portWord p 0x80820 (BitVec.ofNat 32 (cmdWord 0x77 (lvl % 256))))

/-- ATOL_IDLE (R461): The IDLE command word returns the source to read mode. -/
def execAtolIdle (p : Port) (s : State) : Host.Outcome State Fault Refusal := .next (s.portWord p 0x80820 0xA700817E)

/-- ATOL_WINDOW_DATA (R461): A window write carries the next cycle of a sequence, starting the program on the eighth data word. -/
def execAtolWindowData (p : Port) (offset : Nat) (data : Word) (late : Bool) (s : State) : Host.Outcome State Fault Refusal :=
  .next (s.windowData p offset data late)

/-- ATOL_WINDOW_READ (R471): A window read returns array data with its corrected-bit report, auto-suspending an erase. -/
def execAtolWindowRead (p : Port) (offset : Nat) (cbits : Nat) (ue : Bool) (s : State) : Host.Outcome State Fault Refusal :=
  .next (s.windowRead p offset cbits ue)

/-- ATOL_SEQ_TIMEOUT (R462): SEQ_TMO_US passes between cycles and the sequence is abandoned with ERR_SEQ. -/
def execAtolSeqTimeout (p : Port) (s : State) : Host.Outcome State Fault Refusal := .next (s.seqTimeout p)

/-- ATOL_PROGRAM_DONE (R465): An Atoll code-word program verifies or ends with ERR_PROG_FAIL. -/
def execAtolProgramDone (pulses : Nat) (good : Bool) (s : State) : Host.Outcome State Fault Refusal :=
  .next (s.atolProgramDone pulses good)

/-- ATOL_ERASE_DONE (R467): An Atoll block erase ends, its count rises, or a failed verify retires the block. -/
def execAtolEraseDone (good : Bool) (s : State) : Host.Outcome State Fault Refusal := .next (s.atolEraseDone good)

/-- WIPE_DONE (R476): The protection-lowering wipe completes and a device reset follows. -/
def execWipeDone (s : State) : Host.Outcome State Fault Refusal := .next s.wipeDone

end Sys2Proof.Machine
end

