-- ==== Sys2Proof/Machine/CmdBus.lean ====
section
/-! DEFINITION. What each command of the register bus: writes, reads, semaphores, page controls and interrupts (R24 to R52) does: one meaning for each row of the table, over the shared operations. -/

namespace Sys2Proof.Machine

/-- REGISTER_WRITE (R37): A write to a register without a row of its own is stored or dropped under the access code, semaphore and gating rules. -/
def execRegisterWrite (p : Port) (addr : Nat) (mask : Nat) (data : Word) (s : State) : Host.Outcome State Fault Refusal :=
  .next (s.portWrite p addr mask data)

/-- COUNTER_LO_READ (R32): A read of a counter pair's _LO returns the low half and loads the reader's latch with the high half, clearing an RC pair. -/
def execCounterLoRead (p : Port) (addr : Nat) (s : State) : Host.Outcome State Fault Refusal := .next (s.portRead p addr)

/-- RC_READ (R7): A read of an RC register returns its value and clears it to 0. -/
def execRcRead (p : Port) (addr : Nat) (s : State) : Host.Outcome State Fault Refusal := .next (s.portRead p addr)

/-- SEM_CLAIM (R39): A read of SEM_CLAIMn grants a free semaphore, restarts the holder's lease, or returns the other holder's code. -/
def execSemClaim (n : Nat) (readers : List Port) (s : State) : Host.Outcome State Fault Refusal :=
  .next (s.semClaim n readers)

/-- SEM_RELEASE (R40): The holder writing its own code with bit 31 at 0 frees the semaphore; other such writes are dropped with cause 0x4. -/
def execSemRelease (p : Port) (n : Nat) (owner : Nat) (s : State) : Host.Outcome State Fault Refusal :=
  .next (s.portWord p (0x4100 + 4 * (n % 64)) (BitVec.ofNat 32 (owner % 4)))

/-- SEM_BREAK (R41): A write with bit 31 at 1 after the lease has run out frees the semaphore, counts SEM_BROKEN and records an event; otherwise it is refused. -/
def execSemBreak (p : Port) (n : Nat) (owner : Nat) (s : State) : Host.Outcome State Fault Refusal :=
  .next (s.portWord p (0x4100 + 4 * (n % 64)) (BitVec.ofNat 32 (owner % 4 + 2 ^ 31)))

/-- SEM_LEASE_EXPIRY (R41): A held semaphore's lease runs out, after which another port may break it. -/
def execSemLeaseExpiry (n : Nat) (s : State) : Host.Outcome State Fault Refusal := .next (s.leaseExpired n)

/-- SHADOW_ARM (R45): Writing SHADOW_CTRL.ARM to 1 requests a shadow-to-active copy at the next tick. -/
def execShadowArm (p : Port) (page : Nat) (s : State) : Host.Outcome State Fault Refusal :=
  .next (s.portBits p (page % 256 * 0x1000 + 0x02C) 0 1 1)

/-- SHADOW_DISCARD (R27): Writing SHADOW_CTRL.DISCARD copies every active register back into its shadow. -/
def execShadowDiscard (p : Port) (page : Nat) (s : State) : Host.Outcome State Fault Refusal :=
  .next (s.portBits p (page % 256 * 0x1000 + 0x02C) 1 1 1)

/-- SOFT_RST (R29): Writing PAGE_CTRL.SOFT_RST resets the block's registers and releases its resources. -/
def execSoftRst (p : Port) (page : Nat) (s : State) : Host.Outcome State Fault Refusal :=
  .next (s.portBits p (page % 256 * 0x1000 + 0x008) 2 1 1)

/-- CLK_GATE (R36): Writing PAGE_CTRL.CLK_GATE gates or ungates the block's clock. -/
def execClkGate (p : Port) (page : Nat) (on : Bool) (s : State) : Host.Outcome State Fault Refusal :=
  .next (s.portBits p (page % 256 * 0x1000 + 0x008) 1 1 (b2n on))

/-- PAGE_EN (R27): Writing PAGE_CTRL.EN enables or disables the block; a 0 on a running mover aborts it with cause MGMT. -/
def execPageEn (p : Port) (page : Nat) (on : Bool) (s : State) : Host.Outcome State Fault Refusal :=
  .next (s.portBits p (page % 256 * 0x1000 + 0x008) 0 1 (b2n on))

/-- INT_FORCE (R27): Writing INT_FORCE sets the matching INT_STAT bits, which may raise an interrupt request. -/
def execIntForce (p : Port) (page : Nat) (causes : Word) (s : State) : Host.Outcome State Fault Refusal :=
  .next (s.portWord p (page % 256 * 0x1000 + 0x018) causes)

/-- ERR_FORCE (R427): Writing ERR_FORCE arms injection of one fault per set bit at the next tick. -/
def execErrForce (p : Port) (page : Nat) (sources : Word) (s : State) : Host.Outcome State Fault Refusal :=
  .next (s.portWord p (page % 256 * 0x1000 + 0x01C) sources)

/-- MGP_EOI (R51): Writing a vector number to MGP_EOI sends another MSI-X message when that vector is still pending. -/
def execMgpEoi (p : Port) (v : Nat) (s : State) : Host.Outcome State Fault Refusal :=
  .next (s.portWord p 0xB080 (BitVec.ofNat 32 v))

/-- MSIX_HELD_SEND (R51): A message held while the function could not send is sent once it can, provided the vector is still pending. -/
def execMsixHeldSend (s : State) : Host.Outcome State Fault Refusal := .next s.sendHeld

end Sys2Proof.Machine
end

