-- ==== Sys2Proof/Machine/CmdDram.lean ====
section
/-! DEFINITION. What each command of the DRAM controllers and the training unit (R301 to R335) does: one meaning for each row of the table, over the shared operations. -/

namespace Sys2Proof.Machine

/-- DRAM_READ_DONE (R320): A DRAM line read decodes to CLEAN, CORRECTED, POISON or UE and is handled by requester. -/
def execDramReadDone (line : Nat) (r : Requester) (o : ReadOutcome) (record : Nat) (s : State) : Host.Outcome State Fault Refusal :=
  .next (s.dramReadDone line r o record)

/-- REPAIR_WRITE (R325): Glen firmware's repair of a UE line is accepted or dropped by PERS's state check. -/
def execRepairWrite (line : Nat) (s : State) : Host.Outcome State Fault Refusal := .next (s.repairWrite line)

/-- REFRESH_DUE (R314): A rank's tREFI elapses and its refresh is issued, postponed or forced. -/
def execRefreshDue (sc : Nat) (lrank : Nat) (queued : Bool) (s : State) : Host.Outcome State Fault Refusal :=
  .next (s.refreshDue sc lrank queued)

/-- MR4_POLL (R314): Every 16 ms MR4 of each rank is read for the refresh rate. -/
def execMr4Poll (d : Nat) (doubled : Bool) (s : State) : Host.Outcome State Fault Refusal := .next (s.mr4Poll d doubled)

/-- RANK_POWER_DOWN (R316): PDTIME passes idle and the rank enters power-down. -/
def execRankPowerDown (d : Nat) (r : Nat) (late : Bool) (s : State) : Host.Outcome State Fault Refusal :=
  .next (s.powerDown d r late)

/-- ROW_IDLE_CLOSE (R309): An open row passes OPEN_MAX or AUTO_IDLE without access and is closed. -/
def execRowIdleClose (bank : Nat) (s : State) : Host.Outcome State Fault Refusal := .next (if s.bankHit bank then s else s.closeBank bank)

/-- CA_PARITY_ALERT (R326): An RCD reports a CA parity error and the subchannel stops issuing. -/
def execCaParityAlert (sc : Nat) (s : State) : Host.Outcome State Fault Refusal := .next (s.caAlert sc)

/-- CA_ALERT_CLEAR (R326): The RCD clears its alert and uncompleted commands are reissued, or a storm retrains. -/
def execCaAlertClear (sc : Nat) (s : State) : Host.Outcome State Fault Refusal := .next (s.caClear sc)

/-- IN_PLACE_RETRAIN_DONE (R327): An in-place retrain completes and queued requests proceed. -/
def execInPlaceRetrainDone (sc : Nat) (margin : Bool) (s : State) : Host.Outcome State Fault Refusal :=
  .next (s.retrainDone sc margin)

/-- DTRN_GO (R335): Writing DTRN_CMD.GO starts a training pattern operation in the training area. -/
def execDtrnGo (p : Port) (s : State) : Host.Outcome State Fault Refusal := .next (s.portBits p 0x58040 0 1 1)

/-- DTRN_STOP (R335): Writing DTRN_CMD.STOP stops the operation after the current line. -/
def execDtrnStop (p : Port) (s : State) : Host.Outcome State Fault Refusal := .next (s.portBits p 0x58040 1 1 1)

/-- DTRN_DONE (R335): A DTRN operation ends and DONE is set. -/
def execDtrnDone (lanes : Nat) (mismatches : Nat) (s : State) : Host.Outcome State Fault Refusal :=
  .next (s.dtrnDone lanes mismatches)

end Sys2Proof.Machine
end

