-- ==== Sys2Proof/Machine/CmdFlash.lean ====
section
/-! DEFINITION. What each command of the flash channels and the array manager (R232 to R265) does: one meaning for each row of the table, over the shared operations. -/

namespace Sys2Proof.Machine

/-- FLASH_OP_ENQUEUE (R234): A READ, PROGRAM, ERASE or control request enters an FCH queue. -/
def execFlashOpEnqueue (c : Nat) (o : FOp) (s : State) : Host.Outcome State Fault Refusal := .next (s.enqueueFop c o)

/-- RESUME_WINDOW_EXPIRY (R238): A resumed operation has run RESUME_MIN µs and may be suspended again. -/
def execResumeWindowExpiry (c : Nat) (d : Nat) (s : State) : Host.Outcome State Fault Refusal :=
  .next (s.resumeExpired c d)

/-- FLASH_READ_DONE (R246): A codeword read completes and climbs the retry ladder when its decode fails. -/
def execFlashReadDone (c : Nat) (d : Nat) (plane : Nat) (b : Nat) (r : ReadEnd) (last : Bool) (scan : Bool) (s : State) : Host.Outcome State Fault Refusal :=
  .next (s.readEnds c d plane b r last scan)

/-- FLASH_PROGRAM_DONE (R249): A member program completes with pass or FAIL. -/
def execFlashProgramDone (c : Nat) (d : Nat) (good : Bool) (us : Nat) (s : State) : Host.Outcome State Fault Refusal :=
  .next (s.programEnds c d good us)

/-- FLASH_ERASE_DONE (R250): A block erase completes, retiring the block on FAIL. -/
def execFlashEraseDone (c : Nat) (d : Nat) (e : EraseEnd) (s : State) : Host.Outcome State Fault Refusal :=
  .next (s.eraseEnds c d e.good e.us)

/-- DIE_READY_TIMEOUT (R256): A die is not ready within 10 ms of an operation or of its RESET. -/
def execDieReadyTimeout (c : Nat) (d : Nat) (late : Bool) (s : State) : Host.Outcome State Fault Refusal :=
  .next (s.dieTimeout c d late)

/-- FCH_RETRAIN (R261): Writing FCH_CTRL.RETRAIN retrains the channel at the next idle bus. -/
def execFchRetrain (p : Port) (c : Nat) (s : State) : Host.Outcome State Fault Refusal :=
  .next (s.portBits p (0x60044 + c % 16 * 0x1000) 0 1 1)

/-- FLASH_CHANNEL_TRAINED (R256): ONFI channel training ends, the channel going up or down after two failures. -/
def execFlashChannelTrained (c : Nat) (good : Bool) (found : List (Option DieFound)) (s : State) : Host.Outcome State Fault Refusal :=
  .next (s.channelTrained c good found)

/-- FARR_Q_BLOCK (R265): Writing FARR_Q_BLOCK.BLOCK clears VALID and starts a block-record lookup. -/
def execFarrQBlock (p : Port) (query : Word) (s : State) : Host.Outcome State Fault Refusal :=
  .next (s.portWord p 0x71040 query)

/-- BLOCK_LOOKUP_DONE (R265): The block lookup completes and its record is shown with VALID set. -/
def execBlockLookupDone (s : State) : Host.Outcome State Fault Refusal := .next s.blockFound

end Sys2Proof.Machine
end

