-- ==== Sys2Proof/Machine/CmdFlt.lean ====
section
/-! DEFINITION. What each command of fault collection and reaction (R411 to R437) does: one meaning for each row of the table, over the shared operations. -/

namespace Sys2Proof.Machine

/-- FAULT_DETECT (R412): A detector fires, counts in ERR_COUNT and writes or merges its coded message. -/
def execFaultDetect (page : Nat) (src : Nat) (kind : Nat) (addr : Nat) (cycle : Nat) (place : Nat) (alt : Bool) (s : State) : Host.Outcome State Fault Refusal :=
  .next (s.detectFault page src kind addr cycle place alt)

/-- FAULT_RECORD (R417): After its 64-cycle hold a fault message is recorded with the next FSEQ and reacted to by severity. -/
def execFaultRecord (s : State) : Host.Outcome State Fault Refusal := .next s.recordNext

/-- BLOCK_RESET_DONE (R421): A block or domain under reset reports ready and the reset is released. -/
def execBlockResetDone (w : ScopeOf) (late : Bool) (s : State) : Host.Outcome State Fault Refusal :=
  .next (s.releaseReset w late)

/-- RESET_OVERRUN (R423): A block reset passes 200 µs and is escalated to a domain reset. -/
def execResetOverrun (b : Nat) (s : State) : Host.Outcome State Fault Refusal := .next (s.resetOverrun b)

/-- RESET_STUCK (R423): A domain reset passes 300 µs and RESET_STUCK is raised as FATAL. -/
def execResetStuck (d : Nat) (s : State) : Host.Outcome State Fault Refusal := .next (s.resetStuck d)

/-- RESET_SHADOW_END (R425): 2 passes after a reset's release its scope stops being shadowed. -/
def execResetShadowEnd (w : ScopeOf) (us : Nat) (s : State) : Host.Outcome State Fault Refusal := .next (s.endShadow w us)

/-- TICK_STALL (R432): No pass tick arrives for 100 µs outside BASIN and TICK_STALL is FATAL. -/
def execTickStall (s : State) : Host.Outcome State Fault Refusal := .next s.tickStall

/-- GLEN_WDOG (R433): A Glen core's watchdog runs out and the core is reset alone or the cluster as a domain. -/
def execGlenWdog (k : Nat) (cycle : Nat) (s : State) : Host.Outcome State Fault Refusal := .next (s.glenWdog k cycle)

/-- GLEN_RESTART_DONE (R433): A restarted Glen core or cluster runs again and redoes its tasks. -/
def execGlenRestartDone (k : Nat) (us : Nat) (s : State) : Host.Outcome State Fault Refusal := .next (s.coreBack k us)

/-- FLT_POP (R436): A write to FLT_POP with semaphore 51 removes the oldest fault-log record. -/
def execFltPop (p : Port) (s : State) : Host.Outcome State Fault Refusal := .next (s.portWord p 0x92060 0)

/-- FLT_FIRST_CLR (R436): A write to FLT_FIRST_CLR with semaphore 51 clears FLT_FIRST. -/
def execFltFirstClr (p : Port) (s : State) : Host.Outcome State Fault Refusal := .next (s.portWord p 0x93060 0)

end Sys2Proof.Machine
end

