-- ==== Sys2Proof/Machine/CmdLink.lean ====
section
/-! DEFINITION. What each command of the host link (R336 to R364) does: one meaning for each row of the table, over the shared operations. -/

namespace Sys2Proof.Machine

/-- PERST_ASSERT (R393): PERST# is asserted: a link reset, or a device reset in BASIN after SAVE_DONE. -/
def execPerstAssert (s : State) : Host.Outcome State Fault Refusal := .next s.perstAssert

/-- PERST_RELEASE (R403): PERST# is released and link training starts once PLL H is locked. -/
def execPerstRelease (s : State) : Host.Outcome State Fault Refusal := .next s.perstRelease

/-- LINK_UP (R403): The host link reaches L0. -/
def execLinkUp (rate : Nat) (flit256 : Bool) (lanes : List LaneEnd) (s : State) : Host.Outcome State Fault Refusal :=
  .next (s.linkUp rate flit256 lanes)

/-- LINK_DOWN (R43): The host link goes down, freeing host-port semaphores. -/
def execLinkDown (s : State) : Host.Outcome State Fault Refusal := .next s.linkLost

/-- LINK_FAIL (R337): No rate of 16 GT/s or above trains within three attempts and the link is held in Detect. -/
def execLinkFail (s : State) : Host.Outcome State Fault Refusal := .next s.linkFail

/-- L1_EXIT (R526): The host link leaves L1, waking the controller from TERRACE. -/
def execL1Exit (s : State) : Host.Outcome State Fault Refusal := .next s.l1Exit

/-- CONFIG_REQUEST (R403): A PCIe configuration request is answered, with Request Retry Status before step 5. -/
def execConfigRequest (q : CfgReq) (s : State) : Host.Outcome State Fault Refusal := .next (s.configRequest q)

/-- CREDIT_STALL (R344): A credit-return stop lasts 1 ms and CREDIT_STALL is raised. -/
def execCreditStall (s : State) : Host.Outcome State Fault Refusal := .next s.creditStall

/-- DECODER_COMMIT (R341): An HDM decoder commit succeeds, or sets Commit Error when its span lies outside range 1. -/
def execDecoderCommit (n : Nat) (base : Nat) (size : Nat) (dpa : Nat) (iw : Nat) (ig : Nat) (s : State) : Host.Outcome State Fault Refusal :=
  .next (s.commitDecoder n base size dpa iw ig)

/-- MEM_ENABLE (R167): The host sets Mem_Enable, allowing memory use once Memory_Active is set. -/
def execMemEnable (s : State) : Host.Outcome State Fault Refusal := .next s.memEnable

/-- LINK_RECOVERY (R363): The host link enters Recovery on lane errors, counting HLK_RECOV and raising LINK_RECOVERY, possibly downtraining. -/
def execLinkRecovery (errors : List (Nat × Nat)) (down : Option (Nat × List LaneEnd)) (s : State) : Host.Outcome State Fault Refusal :=
  .next (s.linkRecovery errors down)

/-- L1_ENTRY (R522): The host link enters L1 by ASPM, starting the TERRACE_IDLE_US wait and making TERRACE requests admissible. -/
def execL1Entry (s : State) : Host.Outcome State Fault Refusal := .next s.l1Entry

/-- HOT_RESET (R363): An in-band hot reset on the host link clears Mem_Enable and resets the link. -/
def execHotReset (s : State) : Host.Outcome State Fault Refusal := .next s.hotReset

end Sys2Proof.Machine
end

