-- ==== Sys2Proof/Machine/Mailbox.lean ====
section
/-! DEFINITION. The CXL mailbox (R349 to R362, R587). The payload layouts of CXL's own commands are CXL's; those of the
controller's own commands are R354 to R360. -/

namespace Sys2Proof.Machine

/-! ### Serving a command (R352, R353, R587) -/

/-- A command's effect, with its return code and payload. -/
abbrev Reply := State × Nat × List (BitVec 8)

/-- A command that is refused with a return code. -/
def State.refuse (s : State) (code : Nat) : Reply := (s, code, [])

/-- A command that succeeds with a payload. -/
def State.success (s : State) (payload : List (BitVec 8)) : Reply := (s, 0, payload)

/-- Can a mailbox command reach Glen firmware: link up, step 5 complete, no fence (R132, R352, R403, R587)? -/
def State.mailboxOpen (s : State) : Bool :=
  s.hlk.linkUp && !s.hlk.fenced && s.served && !s.saving && !s.save.ended && !s.save.failed

/-- Serves a command: its completion is sent, with vector 0's message; one that meets a Glen restart completes with
Internal Error and no effect (R353, R362). -/
def State.mailbox (s : State) (f : State → Reply) : State :=
  if ¬ s.mailboxOpen then s
  else if (List.range 4).any (fun k => decide (s.get (GLC_STAT_STATE k) = 2)) then (s.send (.mailbox 4 [])).vector0
  else (((f s).1).send (.mailbox (f s).2.1 (f s).2.2)).vector0

/-- A byte of a payload. -/
def byte (n : Nat) : List (BitVec 8) := leBytes 1 n

/-- Bytes a payload does not define. -/
def pad (n : Nat) : List (BitVec 8) := List.replicate n 0

/-! ### Event records and interrupts (R361, R362) -/

/-- The UUID of a record's kind, least significant byte of the printed form first. -/
def eventUuid (what : Nat) : List (BitVec 8) :=
  if what = 1 ∨ what = 2 then [0xfb, 0xcd, 0x0a, 0x77, 0xc2, 0x60, 0x41, 0x7f, 0x85, 0xa9, 0x08, 0x8b, 0x16, 0x21, 0xeb, 0xa6]
  else if what = 3 then [0x60, 0x1d, 0xcb, 0xb3, 0x9c, 0x06, 0x4e, 0xab, 0xb8, 0xaf, 0x4e, 0x9b, 0xfb, 0x5c, 0x96, 0x24]
  else [0xfe, 0x92, 0x74, 0x75, 0xdd, 0x59, 0x43, 0x39, 0xa5, 0x86, 0x79, 0xba, 0xb1, 0x13, 0xb7, 0x74]

/-- A record of 128 bytes: the common header, the DPA where the event has one, and bytes the spec leaves open. -/
def CxlEvent.bytes (e : CxlEvent) (free : Nat) : List (BitVec 8) :=
  eventUuid e.what ++ byte 128 ++ pad 3 ++ leBytes 2 e.handle ++ pad 2 ++ leBytes 8 e.stamp ++ pad 16
    ++ (if e.what ≤ 3 then leBytes 8 e.dpa else leBytes 8 free) ++ leBytes 72 (free / 2 ^ 64)

/-- Get Event Records of log `l`: as many records as the 4 KiB payload holds. -/
def State.getEvents (s : State) (l : Nat) : Reply :=
  if 4 ≤ l then s.refuse 2
  else
    let all := s.cxlLog l
    let o := Sparse.get (fun _ => ((0, 0, 0) : Nat × Nat × Nat)) s.mbox.overflow l
    (s.drawn).success (byte (b2n (decide (0 < o.1)) + 2 * b2n (decide (31 < all.length))) ++ pad 1 ++ leBytes 2 (min o.1 0xFFFF)
      ++ leBytes 8 o.2.1 ++ leBytes 8 o.2.2 ++ leBytes 2 (min all.length 31) ++ pad 10
      ++ (all.take 31).flatMap (fun e => e.bytes s.free))

/-- Log `l` keeps the records `left`; room made ends its overflow. -/
def State.keepEvents (s : State) (l : Nat) (left : List CxlEvent) : State :=
  s.setMbox { s.mbox with
    logs := Sparse.set (fun _ => []) s.mbox.logs l left
    overflow := Sparse.set (fun _ => ((0, 0, 0) : Nat × Nat × Nat)) s.mbox.overflow l (0, 0, 0) }

/-- Clear Event Records of log `l`: all of an overflowed log, or the named records, which must be the oldest in order. -/
def State.clearEvents (s : State) (l : Nat) (every : Bool) (handles : List Nat) : Reply :=
  let all := s.cxlLog l
  let o := Sparse.get (fun _ => ((0, 0, 0) : Nat × Nat × Nat)) s.mbox.overflow l
  if 4 ≤ l then s.refuse 2
  else if every then (if o.1 = 0 then s.refuse 2 else (s.keepEvents l []).success [])
  else if handles ≠ [] ∧ (all.take handles.length).map (fun e => e.handle % 65536) = handles then
    (s.keepEvents l (all.drop handles.length)).success []
  else s.refuse 2

/-- Get Event Interrupt Policy: one byte for each log, on vector 0. -/
def State.getPolicy (s : State) : Reply := s.success (s.mbox.policy.map (BitVec.ofNat 8))

/-- Set Event Interrupt Policy: no interrupt or MSI-X for each log. -/
def State.setPolicy (s : State) (modes : List Nat) : Reply :=
  if modes.length = 4 ∧ modes.all (fun m => decide (m < 2)) = true then (s.setMbox { s.mbox with policy := modes }).success []
  else s.refuse 2

/-- Get Timestamp. -/
def State.getStamp (s : State) : Reply := s.success (leBytes 8 s.stamp)

/-- Set Timestamp: the base of the records logged from now on. -/
def State.setStamp (s : State) (ns : Nat) : Reply :=
  (s.setMbox { s.mbox with stampBase := ns % 2 ^ 64, stampAt := s.now }).success []

/-! ### Firmware, logs, identity and health (R341, R342, R351, R353) -/

/-- Get FW Info: Isle A and Isle B as slots 1 and 2, with the image versions their headers hold. DESIGN CHOICE, log 54. -/
def State.fwInfo (s : State) : Reply :=
  let run := s.get RST_STAT_ISLE
  let staged := if s.atol.sel.active = run then 0 else s.atol.sel.active + 1
  (s.drawn).success (byte 2 ++ byte (run + 1 + staged * 8) ++ byte 0 ++ pad 13 ++ leBytes 4 (s.isleWord 0 4) ++ leBytes 12 s.free
    ++ leBytes 4 (s.isleWord 1 4) ++ leBytes 12 s.free ++ pad 32)

/-- The opcodes listed in R353 with their effects in the Command Effects Log: CXL's effect bits. -/
def commandEffects : List (Nat × Nat) :=
  [ (0x0100, 0), (0x0101, 0x10), (0x0102, 0), (0x0103, 0x08), (0x0200, 0), (0x0300, 0), (0x0301, 0x08), (0x0400, 0)
  , (0x0401, 0), (0x4000, 0), (0x4200, 0), (0x4201, 0), (0x4202, 0x08), (0x4203, 0), (0x4204, 0x08), (0x4300, 0)
  , (0x4301, 0x04), (0x4302, 0x04), (0x4400, 0x74), (0xC000, 0), (0xC001, 0), (0xC002, 0), (0xC003, 0), (0xC004, 0)
  , (0xC010, 0x41), (0xC020, 0x20), (0xC021, 0x20), (0xC022, 0x20) ]

/-- The Command Effects Log. -/
def effectsLog : List (BitVec 8) := commandEffects.flatMap (fun e => leBytes 2 e.1 ++ leBytes 2 e.2)

/-- The UUID of the Command Effects Log. -/
def effectsUuid : List (BitVec 8) :=
  [0x0d, 0xa9, 0xc0, 0xb5, 0xbf, 0x41, 0x4b, 0x78, 0x8f, 0x79, 0x96, 0xb1, 0x62, 0x3b, 0x3f, 0x17]

/-- Get Supported Logs lists the Command Effects Log alone. -/
def State.supportedLogs (s : State) : Reply :=
  s.success (leBytes 2 1 ++ pad 6 ++ effectsUuid ++ leBytes 4 effectsLog.length)

/-- Get Log returns bytes of the Command Effects Log. -/
def State.getLog (s : State) (uuid : List (BitVec 8)) (offset length : Nat) : Reply :=
  if uuid = effectsUuid ∧ offset + length ≤ effectsLog.length ∧ length ≤ 4096 then
    s.success ((effectsLog.drop offset).take length)
  else s.refuse 2

/-- An opcode not listed in R353, or Transfer or Activate FW. -/
def State.unsupported (s : State) : Reply := s.refuse 3

/-- Identify Memory Device: range 1 as persistent or volatile capacity; Busy until detection has ended (R340, R342).
DEDUCED, log 37. -/
def State.identify (s : State) : Reply :=
  if s.get RSTR_STAT_PHASE < 2 then s.refuse 6
  else
    let units := s.mdl.hostIslets / 4096
    let on := s.flag PERS_CTRL_ACTIVE
    let vol := decide (s.get RSTR_STAT_PHASE = 5)
    (s.drawn).success (leBytes 4 (s.isleWord (s.get RST_STAT_ISLE) 4) ++ leBytes 12 s.free ++ leBytes 8 units
      ++ leBytes 8 (if vol then units else 0) ++ leBytes 8 (if on ∨ vol = false then units else 0) ++ leBytes 8 0
      ++ leBytes 2 64 ++ leBytes 2 64 ++ leBytes 2 64 ++ leBytes 2 64 ++ leBytes 4 0 ++ leBytes 3 4096 ++ leBytes 2 0
      ++ byte (s.free / 2 ^ 96) ++ byte 0)

/-- The corrected lines of the four subchannels (R353). -/
def State.correctedLines (s : State) : Nat :=
  (List.range 4).foldl (fun n c => n + s.get64 (DSC_CE_LO_COUNT c)) 0

/-- Media status: 3 all data lost, 1 not ready, 2 write persistency lost, 0 normal (R353). -/
def State.mediaStatus (s : State) : Nat :=
  if s.mbox.mediaOff then 3 else if s.get RSTR_STAT_PHASE < 3 then 1 else if s.get RSTR_STAT_PHASE = 5 then 2 else 0

/-- Get Health Info (R353). DESIGN CHOICE, log 54. -/
def State.health (s : State) : Reply :=
  (s.drawn).success (byte (b2n s.mbox.maintenance + 2 * b2n s.mbox.degraded) ++ byte s.mediaStatus ++ byte s.free
    ++ byte (s.get WEAR_HORIZON_PCT) ++ leBytes 2 (if s.get TEL_TEMP_TJ < 128 then s.get TEL_TEMP_TJ else s.get TEL_TEMP_TJ + 0xFF00) ++ leBytes 4 s.kept.dsc
    ++ leBytes 4 (min s.correctedLines 0xFFFFFFFF) ++ leBytes 4 (s.get FARR_REBUILD_COUNT))

/-- Get Alert Config returns the configuration last set. -/
def State.getAlert (s : State) : Reply := s.success s.mbox.alert

/-- Set Alert Config: CXL's 12 bytes. -/
def State.setAlert (s : State) (cfg : List (BitVec 8)) : Reply :=
  if cfg.length = 12 then (s.setMbox { s.mbox with alert := cfg }).success [] else s.refuse 2

/-- Get Shutdown State returns the stored flag (R351). -/
def State.getShutdown (s : State) : Reply := s.success (byte s.kept.shutdown)

/-- Set Shutdown State stores the host's flag in Atoll (R351). -/
def State.setShutdown (s : State) (v : Nat) : Reply := (s.setKept { s.kept with shutdown := v % 256 }).success []

/-! ### Poison (R349) -/

/-- The records of the list within a span of bytes. -/
def State.poisonIn (s : State) (dpa len : Nat) : List (Nat × Nat × Nat) :=
  s.poisonList.filter (fun r => decide (dpa < (r.1 + r.2.1) * 64 ∧ r.1 * 64 < dpa + len))

/-- Get Poison List: up to 256 records, of the 4,096 the list holds, with the more-records flag. -/
def State.getPoison (s : State) (dpa len : Nat) : Reply :=
  if s.mbox.mediaOff then s.refuse 7
  else if dpa % 64 ≠ 0 ∨ s.mdl.hostLines * 64 < dpa + len then s.refuse 2
  else
    let rest := ((s.poisonIn dpa len).take 4096).drop s.mbox.poisonAt
    let more := decide (256 < rest.length)
    let t := s.setMbox { s.mbox with poisonAt := if more then s.mbox.poisonAt + 256 else 0 }
    t.success (byte (b2n more + 2 * b2n s.mbox.poisonOverflow.isSome) ++ pad 1 ++ leBytes 8 (s.mbox.poisonOverflow.getD 0)
      ++ leBytes 2 (min rest.length 256) ++ pad 20
      ++ (rest.take 256).flatMap (fun r => leBytes 8 (r.1 * 64 + r.2.2 + 1) ++ leBytes 4 r.2.1 ++ pad 4))

/-- A line of the controller's own writing that acts as a host write (R349). -/
def State.ownWrite (s : State) (line : Nat) (data : LineData) (poison : Bool) : State :=
  (s.setHlk { s.hlk with nextReq := s.hlk.nextReq + 1 }).arrive
    ⟨true, s.hlk.nextReq, none, line, 0, true, data, BitVec.allOnes 64, poison⟩

/-- May a poison command name this address: memory active, a line of range 1? -/
def State.poisonAddr (s : State) (dpa : Nat) : Bool :=
  decide (dpa % 64 = 0 ∧ dpa / 64 < s.mdl.hostLines) && s.flag RSTR_STAT_MEM_ACTIVE

/-- Inject Poison writes the line poisoned as a host write; its data is open. -/
def State.injectPoison (s : State) (dpa : Nat) : Reply :=
  if s.mbox.mediaOff then s.refuse 7
  else if ¬ s.poisonAddr dpa then s.refuse 2
  else ((s.drawn).ownWrite (dpa / 64) (BitVec.ofNat 512 s.free) true).success []

/-- Clear Poison writes the 64 bytes it supplies as a host write. -/
def State.clearPoison (s : State) (dpa : Nat) (data : LineData) : Reply :=
  if s.mbox.mediaOff then s.refuse 7
  else if ¬ s.poisonAddr dpa then s.refuse 2
  else (s.ownWrite (dpa / 64) data false).success []

/-! ### Sanitize and format (R211, R359) -/

/-- Sanitize starts: the pending flag is stored, the media key's slot is erased, and the media is disabled until the next
start (R211, R353). -/
def State.sanitize (s : State) : Reply :=
  if s.mbox.background.isSome then s.refuse 6
  else
    let t := s.setKept { s.kept with sanitize := true, keys := Sparse.set (fun _ => none) s.kept.keys s.arr.keySlot none }
    (t.setMbox { t.mbox with background := some 0x4400, mediaOff := true }, 1, [])

/-- A background command ends: its outcome goes to the background status, with vector 0's message (R362). -/
def State.backgroundEnds (s : State) : State := (s.setMbox { s.mbox with background := none }).vector0

/-- The whole array is erased, where which blocks fail to erase is a free value (R211, R359). DESIGN CHOICE, log 89. -/
def State.arrayErased (s : State) : State := (s.eraseArray (Config.unerased s.freeCtr)).drawn

/-- The sanitize erase completes, the blocks that failed to erase are retired, and its flag is cleared (R211). -/
def State.sanitizeDone (s : State) : State :=
  if s.mbox.background = some 0x4400 then
    (s.arrayErased.setKept { s.arrayErased.kept with sanitize := false }).backgroundEnds
  else s

/-- Format Array: accepted only in volatile mode with VOL_CAUSE 4 to 7; the tag, the size and the pending flag are stored
before any erase (R359). -/
def State.format (s : State) (confirm flags tag size : Nat) : Reply :=
  if s.get RSTR_STAT_PHASE ≠ 5 ∨ s.get RSTR_STAT_VOL_CAUSE < 4 ∨ 7 < s.get RSTR_STAT_VOL_CAUSE then s.refuse 2
  else if confirm ≠ 0x5A464D54 ∨ 1 < flags ∨ size = 0 ∨ 8 < size ∨ (flags = 0 ∧ tag % 2 ^ 32 = 0) then s.refuse 2
  else if s.mbox.background.isSome then s.refuse 6
  else
    let t := s.setKept { s.kept with format := true, formatTag := if flags = 1 then 0 else tag % 2 ^ 32, formatSize := size }
    (t.setMbox { t.mbox with background := some 0xC010 }, 1, [])

/-- The format erase completes: the array is blank, and the flag waits for the next start (R359). -/
def State.formatDone (s : State) : State :=
  if s.mbox.background = some 0xC010 then s.arrayErased.backgroundEnds else s

/-! ### The controller's own queries (R354 to R358) -/

/-- Barrier Post: the post of R87, refused in the order of R91 (R354). -/
def State.barrierPost (s : State) (tag : Nat) : Reply :=
  if s.mbox.mediaOff then s.refuse 7
  else
    match s.barRefusal with
    | some c => (s.postBarrier (tag % 2 ^ 32)).refuse c
    | none =>
      let t := s.postBarrier (tag % 2 ^ 32)
      t.success (leBytes 2 s.pers.nextSeq ++ byte t.pers.barriers.length ++ pad 5 ++ leBytes 8 s.epoch)

/-- Barrier Status of the barrier with a sequence number, 0 for the oldest open one (R355). -/
def State.barrierStatus (s : State) (seq : Nat) : Reply :=
  let n := if seq = 0 then (s.pers.barriers.head?.map Barrier.seq).getD 0 else seq
  let opn := s.pers.barriers.find? (fun b => decide (b.seq = n))
  let post := s.pers.posts.find? (fun b => decide (b.seq = n))
  let st := match opn, post with
    | some _, _ => 0
    | none, some p => if p.done then 1 else 2
    | none, none => 2
  let left := match opn with
    | some b => b.count.getD s.res
    | none => 0
  let tag := match opn, post with
    | some b, _ => b.tag
    | none, some p => p.tag
    | none, none => 0
  s.success (leBytes 2 n ++ byte st ++ byte s.pers.barriers.length ++ leBytes 2 (s.get PERS_BAR_STAT_LAST_DONE) ++ pad 2
    ++ leBytes 4 left ++ leBytes 4 tag)

/-- Budget Query (R356). -/
def State.budgetQuery (s : State) : Reply :=
  let flags := s.get PERS_STAT_GAUGE_STALE + 2 * s.get PERS_STAT_ENERGY_BOUND + 4 * s.get PERS_STAT_OVER
    + 8 * s.get PERS_CTRL_BP_EN + 16 * s.get PERS_CTRL_SLC_EN + 32 * s.get PERS_SHD_STAT_BURST_BLOCKED
  s.success (leBytes 4 s.res ++ leBytes 4 (s.get PERS_BEFF_ISLETS) ++ leBytes 4 (s.get PERS_BUDGET_ISLETS) ++ byte s.level
    ++ byte flags ++ leBytes 2 (s.get PERS_STAT_K) ++ leBytes 4 (s.get PERS_ENERGY_MJ) ++ leBytes 2 s.energyAge ++ pad 2
    ++ leBytes 4 s.bandRoom ++ leBytes 4 s.tMin)

/-- G, the group restore epoch; P outside a cascade (R357). -/
def State.groupEpoch (s : State) : Nat :=
  match s.rstr.settled with
  | some (_, g) => if s.inGroup then g else s.get64 RSTR_IMG_P_LO_EPOCH
  | none => s.get64 RSTR_IMG_P_LO_EPOCH

/-- Image Status (R357). -/
def State.imageStatus (s : State) : Reply :=
  let flags := s.get RSTR_STAT_WARM + 2 * s.get RSTR_STAT_CASC_PARTIAL + 4 * s.get RSTR_STAT_DSC_RAISED
    + 8 * s.get RSTR_STAT_MEM_ACTIVE
  let me := 2 ^ s.devNo
  let heard := if bitOf s.rstr.heardMask s.devNo then s.rstr.heardMask else s.rstr.heardMask + me
  s.success (byte (s.get RSTR_IMG_CLASS_CLASS) ++ byte (s.get RSTR_STAT_PHASE) ++ byte (s.get RSTR_STAT_VOL_CAUSE) ++ byte flags
    ++ leBytes 4 (s.get RSTR_IMG_UNSAVED_ISLETS) ++ leBytes 8 (s.get64 RSTR_IMG_H_LO_EPOCH) ++ leBytes 8 (s.get64 RSTR_IMG_P_LO_EPOCH)
    ++ leBytes 8 s.groupEpoch ++ leBytes 8 (s.get64 RSTR_IMG_CUT_LO_CUT) ++ leBytes 4 (s.get RSTR_LEFT_ISLETS)
    ++ leBytes 4 s.kept.dsc ++ byte (if s.inGroup then heard else 1) ++ pad 3 ++ leBytes 4 (s.get RSTR_T_META_US_US)
    ++ leBytes 4 (s.get RSTR_T_DONE_MS_MS))

/-- Cascade Status (R358). -/
def State.cascadeStatus (s : State) : Reply :=
  let flags := s.get STRT_STAT_RING + 2 * s.get STRT_STAT_TOOK + 4 * s.get STRT_STAT_UP_OK + 8 * s.get STRT_STAT_DOWN_OK
  let head := if s.inGroup then byte s.devNo ++ byte (s.get STRT_STAT_MASTER) ++ byte (s.get STRT_STAT_SIZE) ++ byte flags
      ++ byte (s.get STRT_STAT_PRESENT)
    else byte 0 ++ byte 0 ++ byte 1 ++ byte flags ++ byte 1
  s.success (head ++ pad 3 ++ leBytes 8 (s.get64 STRT_GSEALED_LO_EPOCH) ++ leBytes 4 (s.get STRT_OFFSET_PS)
    ++ leBytes 4 (s.get STRT_SHARE_MJ) ++ leBytes 4 s.arr.groupTag)

/-! ### Keys (R360) -/

/-- Key Import Begin opens a session with a fresh key pair; an open session ends. -/
def State.keyBegin (s : State) : Reply :=
  (s.setMbox { s.mbox with session := some s.mbox.sessions, sessions := s.mbox.sessions + 1 }).success
    (leBytes 97 (Config.sessionPublicKey s.mbox.sessions))

/-- Key Export unwraps the key of a slot and wraps it for the receiver's public key (R209, R360). -/
def State.keyExport (s : State) (slot receiver : Nat) : Reply :=
  if s.protLevel = 2 then s.refuse 3
  else
    match Sparse.get (fun _ => none) s.kept.keys slot with
    | none => s.refuse 2
    | some k =>
      if 8 ≤ slot then s.refuse 2
      else
        (s.setMbox { s.mbox with sessions := s.mbox.sessions + 1 }).success (leBytes 97 (Config.sessionPublicKey s.mbox.sessions)
          ++ leBytes 4 k.keyId ++ leBytes 72 (Config.wrapKey (Config.kekUnwrap k.key) receiver))

/-- Key Import unwraps a key and stores it in the first free slot, wrapped under this controller's own key-encryption key (R210); the session
ends. -/
def State.keyImport (s : State) (sender keyId wrapped : Nat) : Reply :=
  match s.mbox.session with
  | none => s.refuse 2
  | some n =>
    let t := s.setMbox { s.mbox with session := none }
    match Config.unwrapKey n sender wrapped with
    | none => t.refuse 2
    | some k =>
      match (List.range 8).find? (fun i => (Sparse.get (fun _ => none) s.kept.keys i).isNone) with
      | none => t.refuse 6
      | some i =>
        (t.setKept { t.kept with keys := Sparse.set (fun _ => none) t.kept.keys i (some ⟨keyId % 2 ^ 32, Config.kekWrap k⟩) }).success
          (byte i ++ leBytes 4 keyId)

end Sys2Proof.Machine
end

