-- ==== Sys2Proof/Machine/CmdMailbox.lean ====
section
/-! DEFINITION. What each command of the CXL mailbox (R349 to R362) does: one meaning for each row of the table, over the shared operations. -/

namespace Sys2Proof.Machine

/-- GET_EVENT_RECORDS (R361): Mailbox Get Event Records returns records of an event log. -/
def execGetEventRecords (log : Nat) (s : State) : Host.Outcome State Fault Refusal :=
  .next (s.mailbox (fun t => t.getEvents log))

/-- CLEAR_EVENT_RECORDS (R361): Mailbox Clear Event Records clears records of an event log. -/
def execClearEventRecords (log : Nat) (every : Bool) (handles : List Nat) (s : State) : Host.Outcome State Fault Refusal :=
  .next (s.mailbox (fun t => t.clearEvents log every handles))

/-- GET_EVENT_INTERRUPT_POLICY (R362): Mailbox Get Event Interrupt Policy returns the event interrupt policy. -/
def execGetEventInterruptPolicy (s : State) : Host.Outcome State Fault Refusal := .next (s.mailbox State.getPolicy)

/-- SET_EVENT_INTERRUPT_POLICY (R362): Mailbox Set Event Interrupt Policy sets the event interrupt policy on vector 0. -/
def execSetEventInterruptPolicy (modes : List Nat) (s : State) : Host.Outcome State Fault Refusal :=
  .next (s.mailbox (fun t => t.setPolicy modes))

/-- GET_FW_INFO (R353): Mailbox Get FW Info reports Isle A and Isle B as slots 1 and 2. -/
def execGetFwInfo (s : State) : Host.Outcome State Fault Refusal := .next (s.mailbox State.fwInfo)

/-- UNSUPPORTED_COMMAND (R353): A mailbox opcode not listed, or Transfer or Activate FW, returns Unsupported. -/
def execUnsupportedCommand (s : State) : Host.Outcome State Fault Refusal := .next (s.mailbox State.unsupported)

/-- GET_TIMESTAMP (R361): Mailbox Get Timestamp returns the device timestamp. -/
def execGetTimestamp (s : State) : Host.Outcome State Fault Refusal := .next (s.mailbox State.getStamp)

/-- SET_TIMESTAMP (R361): Mailbox Set Timestamp sets the base of record timestamps. -/
def execSetTimestamp (ns : Nat) (s : State) : Host.Outcome State Fault Refusal :=
  .next (s.mailbox (fun t => t.setStamp ns))

/-- GET_SUPPORTED_LOGS (R353): Mailbox Get Supported Logs lists the Command Effects Log. -/
def execGetSupportedLogs (s : State) : Host.Outcome State Fault Refusal := .next (s.mailbox State.supportedLogs)

/-- GET_LOG (R353): Mailbox Get Log returns the Command Effects Log. -/
def execGetLog (uuid : List (BitVec 8)) (offset : Nat) (length : Nat) (s : State) : Host.Outcome State Fault Refusal :=
  .next (s.mailbox (fun t => t.getLog uuid offset length))

/-- IDENTIFY_MEMORY_DEVICE (R342): Mailbox Identify Memory Device reports capacity as persistent or volatile, or Busy before detection ends. -/
def execIdentifyMemoryDevice (s : State) : Host.Outcome State Fault Refusal := .next (s.mailbox State.identify)

/-- GET_HEALTH_INFO (R353): Mailbox Get Health Info reports health, media status, life used, temperature and the dirty-shutdown count. -/
def execGetHealthInfo (s : State) : Host.Outcome State Fault Refusal := .next (s.mailbox State.health)

/-- GET_ALERT_CONFIG (R353): Mailbox Get Alert Config returns the alert configuration. -/
def execGetAlertConfig (s : State) : Host.Outcome State Fault Refusal := .next (s.mailbox State.getAlert)

/-- SET_ALERT_CONFIG (R353): Mailbox Set Alert Config sets the alert configuration. -/
def execSetAlertConfig (config : List (BitVec 8)) (s : State) : Host.Outcome State Fault Refusal :=
  .next (s.mailbox (fun t => t.setAlert config))

/-- GET_SHUTDOWN_STATE (R351): Mailbox Get Shutdown State returns the stored host flag. -/
def execGetShutdownState (s : State) : Host.Outcome State Fault Refusal := .next (s.mailbox State.getShutdown)

/-- SET_SHUTDOWN_STATE (R351): Mailbox Set Shutdown State stores the host's flag in Atoll. -/
def execSetShutdownState (v : Nat) (s : State) : Host.Outcome State Fault Refusal :=
  .next (s.mailbox (fun t => t.setShutdown v))

/-- GET_POISON_LIST (R349): Mailbox Get Poison List returns up to 256 poisoned-line records with their sources. -/
def execGetPoisonList (dpa : Nat) (length : Nat) (s : State) : Host.Outcome State Fault Refusal :=
  .next (s.mailbox (fun t => t.getPoison dpa length))

/-- INJECT_POISON (R349): Mailbox Inject Poison writes one line poisoned as a host write through PERS. -/
def execInjectPoison (dpa : Nat) (s : State) : Host.Outcome State Fault Refusal :=
  .next (s.mailbox (fun t => t.injectPoison dpa))

/-- CLEAR_POISON (R349): Mailbox Clear Poison writes the supplied data to one line as a host write. -/
def execClearPoison (dpa : Nat) (data : LineData) (s : State) : Host.Outcome State Fault Refusal :=
  .next (s.mailbox (fun t => t.clearPoison dpa data))

/-- SANITIZE (R211): Mailbox Sanitize starts erasing the key slot, anchors and save array as a background command. -/
def execSanitize (s : State) : Host.Outcome State Fault Refusal := .next (s.mailbox State.sanitize)

/-- SANITIZE_DONE (R211): The sanitize erase completes and its pending flag is cleared. -/
def execSanitizeDone (s : State) : Host.Outcome State Fault Refusal := .next s.sanitizeDone

/-- BARRIER_POST (R354): Mailbox Barrier Post posts a barrier and returns its sequence number, or a refusal code. -/
def execBarrierPost (tag : Nat) (s : State) : Host.Outcome State Fault Refusal :=
  .next (s.mailbox (fun t => t.barrierPost tag))

/-- BARRIER_STATUS (R355): Mailbox Barrier Status returns the state and count of a barrier. -/
def execBarrierStatus (seq : Nat) (s : State) : Host.Outcome State Fault Refusal :=
  .next (s.mailbox (fun t => t.barrierStatus seq))

/-- BUDGET_QUERY (R356): Mailbox Budget Query returns RES, B_eff, the level and related values. -/
def execBudgetQuery (s : State) : Host.Outcome State Fault Refusal := .next (s.mailbox State.budgetQuery)

/-- IMAGE_STATUS (R357): Mailbox Image Status returns the image class, restore point and cascade outcome. -/
def execImageStatus (s : State) : Host.Outcome State Fault Refusal := .next (s.mailbox State.imageStatus)

/-- CASCADE_STATUS (R358): Mailbox Cascade Status returns the device's cascade membership and share. -/
def execCascadeStatus (s : State) : Host.Outcome State Fault Refusal := .next (s.mailbox State.cascadeStatus)

/-- FORMAT_ARRAY (R359): Mailbox Format Array, accepted only in volatile mode with cause 0x4 to 0x7, stores a pending flag and erases the array. -/
def execFormatArray (confirm : Nat) (flags : Nat) (tag : Nat) (size : Nat) (s : State) : Host.Outcome State Fault Refusal :=
  .next (s.mailbox (fun t => t.format confirm flags tag size))

/-- FORMAT_ARRAY_DONE (R359): The format erase completes, leaving the array blank for class 5 at the next start. -/
def execFormatArrayDone (s : State) : Host.Outcome State Fault Refusal := .next s.formatDone

/-- KEY_IMPORT_BEGIN (R360): Mailbox Key Import Begin returns a fresh session public key. -/
def execKeyImportBegin (s : State) : Host.Outcome State Fault Refusal := .next (s.mailbox State.keyBegin)

/-- KEY_EXPORT (R360): Mailbox Key Export wraps a slot's media key for the receiver's public key. -/
def execKeyExport (slot : Nat) (receiver : Nat) (s : State) : Host.Outcome State Fault Refusal :=
  .next (s.mailbox (fun t => t.keyExport slot receiver))

/-- KEY_IMPORT (R360): Mailbox Key Import unwraps an exported key into a free slot and re-wraps it. -/
def execKeyImport (sender : Nat) (keyId : Nat) (wrapped : Nat) (s : State) : Host.Outcome State Fault Refusal :=
  .next (s.mailbox (fun t => t.keyImport sender keyId wrapped))

end Sys2Proof.Machine
end

