-- ==== Sys2Proof/Machine/CmdMov.lean ====
section
/-! DEFINITION. What each command of the movers (R266 to R300) does: one meaning for each row of the table, over the shared operations. -/

namespace Sys2Proof.Machine

/-- MOV_START (R292): Writing MOV_CMD.START requests a channel start at a tick, or sets START_REFUSED on a running channel. -/
def execMovStart (p : Port) (c : Nat) (s : State) : Host.Outcome State Fault Refusal :=
  .next (s.portWord p (0x30040 + c % 32 * 0x1000) 1)

/-- MOV_ABORT (R295): Writing MOV_CMD.ABORT aborts the channel, writing its residue and an ABORT record. -/
def execMovAbort (p : Port) (c : Nat) (s : State) : Host.Outcome State Fault Refusal :=
  .next (s.portWord p (0x30040 + c % 32 * 0x1000) 2)

/-- MOVE (R282): A MOVE instruction transfers LEN lines through its path in bursts. -/
def execMove (c : Nat) (s : State) : Host.Outcome State Fault Refusal := .next (s.beginXfer c .move)

/-- SPREAD (R286): A SPREAD instruction places slots of a stripe with their parity cells. -/
def execSpread (c : Nat) (s : State) : Host.Outcome State Fault Refusal := .next (s.beginXfer c .spread)

/-- LOOP (R287): A LOOP instruction loads or decrements its counter and branches back while it is not 0. -/
def execLoop (c : Nat) (s : State) : Host.Outcome State Fault Refusal := .next (s.movLoop c)

/-- WAIT (R288): A WAIT instruction holds the channel until its FILL, TICK, STRAIT or FLAG condition holds. -/
def execWait (c : Nat) (s : State) : Host.Outcome State Fault Refusal := .next (s.movWait c)

/-- SIGNAL (R290): A SIGNAL instruction sets a flag, raises an interrupt, sends a Strait event or queues a record. -/
def execSignal (c : Nat) (cycle : Nat) (s : State) : Host.Outcome State Fault Refusal := .next (s.movSignal c cycle)

/-- HALT (R280): A HALT instruction ends the program with a HALT completion record. -/
def execHalt (c : Nat) (cycle : Nat) (s : State) : Host.Outcome State Fault Refusal := .next (s.movHalt c cycle)

/-- NOP (R279): A NOP instruction does nothing and the channel goes on. -/
def execNop (c : Nat) (s : State) : Host.Outcome State Fault Refusal := .next (s.movNop c)

/-- ILLEGAL (R279): An illegal word or a breach of the channel restrictions aborts the channel with cause ILLEGAL. -/
def execIllegal (c : Nat) (cycle : Nat) (s : State) : Host.Outcome State Fault Refusal := .next (s.movIllegal c cycle)

/-- PC_RANGE (R280): A fetch past word 0xFFFF or outside the management region aborts the channel with cause PC_RANGE. -/
def execPcRange (c : Nat) (cycle : Nat) (s : State) : Host.Outcome State Fault Refusal := .next (s.movPcRange c cycle)

/-- PM_UE (R275): An uncorrectable program-memory fetch raises PM_UE and aborts the channel. -/
def execPmUe (c : Nat) (cycle : Nat) (s : State) : Host.Outcome State Fault Refusal := .next (s.movPmUe c cycle)

/-- MOVER_TRANSFER_DONE (R282): A MOVE or SPREAD ends, whole or at a bus error, and its increments apply. -/
def execMoverTransferDone (c : Nat) (hit : Option Nat) (why : Nat) (s : State) : Host.Outcome State Fault Refusal :=
  .next (s.transferDone c (hit.map (fun b => (b, why))))

/-- WAIT_END (R288): A WAIT's condition holds and the channel goes on to the next word. -/
def execWaitEnd (c : Nat) (s : State) : Host.Outcome State Fault Refusal := .next (s.waitEnd c)

/-- WAIT_TIMEOUT (R289): TMO passes without the WAIT condition and the channel aborts with cause WAIT_TIMEOUT. -/
def execWaitTimeout (c : Nat) (cycle : Nat) (s : State) : Host.Outcome State Fault Refusal :=
  .next (s.waitTimeout c cycle)

/-- PM_DATA_HI_WRITE (R274): Writing MVG_PM_DATA_HI stores the program word and increments MVG_PM_ADDR, or is denied outside the management region. -/
def execPmDataHiWrite (p : Port) (hi : Word) (s : State) : Host.Outcome State Fault Refusal :=
  .next (s.portWord p 0xB4088 hi)

/-- PM_DATA_LO_READ (R274): Reading MVG_PM_DATA_LO returns the low half and latches the high half. -/
def execPmDataLoRead (p : Port) (s : State) : Host.Outcome State Fault Refusal := .next (s.portRead p 0xB4084)

/-- PM_DATA_HI_READ (R274): Reading MVG_PM_DATA_HI returns the latch and increments MVG_PM_ADDR. -/
def execPmDataHiRead (p : Port) (s : State) : Host.Outcome State Fault Refusal := .next (s.portRead p 0xB4088)

/-- COLLECTOR_DRAIN (R298): The collector drains one slot per cycle to Glen firmware or the management ring. -/
def execCollectorDrain (cycle : Nat) (s : State) : Host.Outcome State Fault Refusal := .next (s.collect cycle)

/-- MVG_CPOP (R300): Any write to MVG_CPOP removes the head record of the management ring. -/
def execMvgCpop (p : Port) (s : State) : Host.Outcome State Fault Refusal := .next (s.portWord p 0xB7050 0)

end Sys2Proof.Machine
end

