-- ==== Sys2Proof/Machine/CmdPass.lean ====
section
/-! DEFINITION. What each command of the pass tick and ALIVE does: one meaning for each row of the table, over the shared operations. -/

namespace Sys2Proof.Machine

/-- PASS_TICK (R5): Every 3,000 fabric cycles a pass tick occurs, and the work scheduled for that pass is issued. -/
def execPassTick (w : TickWork) (s : State) : Host.Outcome State Fault Refusal := .next (s.passTick w)

/-- ALIVE_EDGE (R20): Every 0.5 ms of normal running the ALIVE output toggles. -/
def execAliveEdge (s : State) : Host.Outcome State Fault Refusal := .next s.aliveEdge

end Sys2Proof.Machine
end

