-- ==== Sys2Proof/Machine/CmdPers.lean ====
section
/-! DEFINITION. What each command of host memory requests, the epochs, the budget and barriers (R53 to R117) does: one meaning for each row of the table, over the shared operations. -/

namespace Sys2Proof.Machine

/-- CXL_MEM_WRITE (R60): A received CXL.mem write passes the interlock check, sets its islet's collecting-plane bit and is written to DRAM.
DESIGN CHOICE, log 58. -/
def execCxlMemWrite (n : Nat) (line : Nat) (tag : Nat) (data : LineData) (be : BitVec 64) (poison : Bool) (s : State) : Host.Outcome State Fault Refusal :=
  if s.mdl.hostLines ≤ line then .fault .lineOutsideMemory
  else .next (s.memRequest n ⟨false, 0, some tag, line, 0, true, data, be, poison⟩)

/-- CXL_MEM_READ (R53): A received CXL.mem read passes the interlock check and returns the last accepted write's data, or poison.
DESIGN CHOICE, log 58. -/
def execCxlMemRead (n : Nat) (line : Nat) (tag : Nat) (s : State) : Host.Outcome State Fault Refusal :=
  if s.mdl.hostLines ≤ line then .fault .lineOutsideMemory
  else .next (s.memRequest n ⟨false, 0, some tag, line, 0, false, 0, 0, false⟩)

/-- ISLET_RECORD_READ_DONE (R82): PERS finishes reading a held write's islet record, releasing it at once or placing it in the hold queue. -/
def execIsletRecordReadDone (s : State) : Host.Outcome State Fault Refusal := .next s.recordRead

/-- PACE_ADMIT (R83): At level 4 every SPACING passes the head of the hold queue is admitted. -/
def execPaceAdmit (s : State) : Host.Outcome State Fault Refusal := .next s.paceAdmit

/-- HOLD_MAX_ADMIT (R84): A held write that has waited HOLD_MAX is admitted anyway. -/
def execHoldMaxAdmit (s : State) : Host.Outcome State Fault Refusal := .next s.holdMaxAdmit

/-- BUDGET_COMPUTE (R76): Every 100 passes PERS computes B_energy and B_eff from the energy input and derating. -/
def execBudgetCompute (tj : Int) (s : State) : Host.Outcome State Fault Refusal := .next (s.budgetCompute tj)

/-- GAUGE_STALE (R78): No good gauge reading younger than STALE_MS: the floor rule applies, GAUGE_STALE is set and raised. -/
def execGaugeStale (late : Bool) (s : State) : Host.Outcome State Fault Refusal := .next (s.gaugeStale late)

/-- EPOCH_CLOSE (R69): L passes after an epoch began it closes, its plane freezes, its tail begins and the next epoch collects. -/
def execEpochClose (s : State) : Host.Outcome State Fault Refusal := .next s.tryClose

/-- COOLING_WALK_DONE (R97): The walk of the frozen plane completes, having appended cooling islets, and the plane clear may begin. -/
def execCoolingWalkDone (s : State) : Host.Outcome State Fault Refusal := .next s.walkDone

/-- EPOCH_SEAL (R71): An epoch's seal record reads back good on both copies and the epoch is sealed. -/
def execEpochSeal (rearmed : Bool) (again : Nat) (s : State) : Host.Outcome State Fault Refusal :=
  .next (s.sealRead rearmed again)

/-- PLANE_CLEAR_DONE (R71): The clear of the frozen plane completes, completing the tail. -/
def execPlaneClearDone (s : State) : Host.Outcome State Fault Refusal := .next s.planeCleared

/-- PERS_BAR_POST (R87): Writing a tag to PERS_BAR_POST posts a barrier bound to the collecting epoch. -/
def execPersBarPost (p : Port) (tag : Word) (s : State) : Host.Outcome State Fault Refusal :=
  .next (s.portWord p 0x22040 tag)

/-- PERS_Q_ISLET (R96): Writing PERS_Q_ISLET clears VALID and starts a lookup of the islet record. -/
def execPersQIslet (p : Port) (islet : Nat) (s : State) : Host.Outcome State Fault Refusal :=
  .next (s.portWord p 0x23040 (BitVec.ofNat 32 islet))

/-- ISLET_LOOKUP_DONE (R96): The islet lookup completes and the query registers hold the record with VALID set. -/
def execIsletLookupDone (s : State) : Host.Outcome State Fault Refusal := .next s.lookupDone

/-- SHADOW_READ_END (R104): The last line of a shadow copy arrives in staging and the islet takes transition 8, 9 or 10. -/
def execShadowReadEnd (islet : Nat) (s : State) : Host.Outcome State Fault Refusal := .next (s.readEnded islet)

/-- STRIPE_AGE_EXPIRY (R207): A stripe's oldest staged copy has waited 200 passes and the stripe is programmed with pad cells. -/
def execStripeAgeExpiry (slc : Bool) (s : State) : Host.Outcome State Fault Refusal := .next (s.stripeAge slc)

/-- SWEEP_ROUND_DONE (R99): An overflow sweep round completes, ending sweep mode when appends have resumed. -/
def execSweepRoundDone (s : State) : Host.Outcome State Fault Refusal := .next s.sweepRoundDone

/-- BARRIER_SWEEP_DONE (R100): A barrier sweep completes and another follows at once or after the next seal. -/
def execBarrierSweepDone (s : State) : Host.Outcome State Fault Refusal := .next s.barSweepDone

end Sys2Proof.Machine
end

