-- ==== Sys2Proof/Machine/CmdPwr.lean ====
section
/-! DEFINITION. What each command of the power states (R520 to R535) does: one meaning for each row of the table, over the shared operations. -/

namespace Sys2Proof.Machine

/-- REQUEST_TERRACE (R523): PWR_MODE.TARGET written to TERRACE starts an entry or is refused. -/
def execRequestTerrace (p : Port) (s : State) : Host.Outcome State Fault Refusal := .next (s.portBits p 0x3040 0 2 1)

/-- REQUEST_BASIN (R523): PWR_MODE.TARGET written to BASIN starts an entry or is refused. -/
def execRequestBasin (p : Port) (s : State) : Host.Outcome State Fault Refusal := .next (s.portBits p 0x3040 0 2 2)

/-- REQUEST_RUN (R526): PWR_MODE.TARGET written to RUN wakes from TERRACE or BASIN. -/
def execRequestRun (p : Port) (s : State) : Host.Outcome State Fault Refusal := .next (s.portBits p 0x3040 0 2 0)

/-- AUTO_TERRACE (R522): The link has been in L1 for TERRACE_IDLE_US and Glen firmware requests TERRACE. -/
def execAutoTerrace (leaves : Bool) (s : State) : Host.Outcome State Fault Refusal := .next (s.autoTerrace leaves)

/-- L2_ENTRY (R522): After PME_Turn_Off the link enters L2 and Glen firmware requests BASIN. -/
def execL2Entry (s : State) : Host.Outcome State Fault Refusal := .next s.l2Entry

/-- STOP_POINT_REACHED (R523): Glen work reaches its stop point, every core is in WAIT, and PWR switches the domains. -/
def execStopPointReached (s : State) : Host.Outcome State Fault Refusal := .next s.stopPoint

/-- DOMAIN_READY (R523): The last domain reports ready, STATE takes the target and ENTERED is raised. -/
def execDomainReady (s : State) : Host.Outcome State Fault Refusal := .next s.domainReady

/-- DOMAIN_TIMEOUT (R523): A domain does not report ready within 1 ms and the entry is aborted. -/
def execDomainTimeout (d : Nat) (late : Bool) (s : State) : Host.Outcome State Fault Refusal :=
  .next (s.domainTimeout d late)

/-- EXIT_DONE (R531): An exit to RUN completes and EXITED is raised. -/
def execExitDone (s : State) : Host.Outcome State Fault Refusal := .next s.exitDone

end Sys2Proof.Machine
end

