-- ==== Sys2Proof/Machine/CmdRec.lean ====
section
/-! DEFINITION. What each command of the event recorder (R438 to R454) does: one meaning for each row of the table, over the shared operations. -/

namespace Sys2Proof.Machine

/-- REC_EVENT (R439): An event enters REC and becomes a record or is refused when the ring is full. -/
def execRecEvent (b : Nat) (code : Nat) (coincident : Bool) (detail : List Word) (s : State) : Host.Outcome State Fault Refusal :=
  .next (s.blockEvent b code coincident detail)

/-- HOURS_NOTE (R438): An hour of operating time passes without another record and an HOURS note is written. -/
def execHoursNote (s : State) : Host.Outcome State Fault Refusal := .next s.hoursNote

/-- FLUSH (R449): Writing REC_CTRL.FLUSH requests a flush of unflushed records to Atoll. -/
def execFlush (p : Port) (s : State) : Host.Outcome State Fault Refusal := .next (s.portBits p 0x94040 8 1 1)

/-- FLUSH_DONE (R450): A flush programs its last record and FLUSH_DONE is raised. -/
def execFlushDone (failed : List Nat) (s : State) : Host.Outcome State Fault Refusal := .next (s.flushDone failed)

/-- FREEZE (R453): Writing REC_CTRL.FREEZE starts or ends a freeze of recording and erasing. -/
def execFreeze (p : Port) (on : Bool) (s : State) : Host.Outcome State Fault Refusal :=
  .next (s.portBits p 0x94040 1 1 (b2n on))

/-- FREEZE_TIMEOUT (R453): FREEZE_S seconds pass and the freeze ends with a FREEZE_END note. -/
def execFreezeTimeout (s : State) : Host.Outcome State Fault Refusal := .next s.freezeTimeout

/-- REC_RD_SEQ (R452): Writing REC_RD_SEQ starts a read of that record into the reader's window. -/
def execRecRdSeq (p : Port) (rseq : Word) (s : State) : Host.Outcome State Fault Refusal :=
  .next (s.portWord p 0x94200 rseq)

/-- REC_READ_DONE (R452): A window read ends with OK, BAD or GONE and DONE set. -/
def execRecReadDone (p : Port) (bad : Bool) (early : Bool) (s : State) : Host.Outcome State Fault Refusal :=
  .next (s.recReadDone p bad early)

end Sys2Proof.Machine
end

