-- ==== Sys2Proof/Machine/CmdRestore.lean ====
section
/-! DEFINITION. What each command of the start of memory, image detection and restore (R159 to R195, R328) does: one meaning for each row of the table, over the shared operations. -/

namespace Sys2Proof.Machine

/-- DRAM_TRAINING_DONE (R329): DRAM training ends, falling back or retrying at a lower rate, or failing with TRAIN_FAIL. -/
def execDramTrainingDone (fell : List Nat) (lowered : Bool) (failed : List Nat) (s : State) : Host.Outcome State Fault Refusal :=
  .next (s.trainingDone fell lowered failed)

/-- IMAGE_DETECT_DONE (R160): Image detection ends in an outcome class held in RSTR_IMG_CLASS. -/
def execImageDetectDone (found : Found) (s : State) : Host.Outcome State Fault Refusal := .next (s.imageDetected found)

/-- METADATA_LOAD_DONE (R166): The metadata load completes, ACTIVE is set and staging banks 14 and 15 are claimed. -/
def execMetadataLoadDone (s : State) : Host.Outcome State Fault Refusal := .next s.loadEnded

/-- FAULT_IN_DONE (R172): A fault-in's last line is accepted in DRAM and the islet's bitmap bit becomes 1. -/
def execFaultInDone (islet : Nat) (us : Nat) (rebuilt : Nat) (lost : List Nat) (late : Bool) (s : State) : Host.Outcome State Fault Refusal :=
  .next (s.faultInDone islet us rebuilt lost late)

/-- RESTORE_ISLET_DONE (R169): Background restore or zero fill completes an islet and its bitmap bit becomes 1. -/
def execRestoreIsletDone (zero : Bool) (rebuilt : Nat) (lost : List Nat) (s : State) : Host.Outcome State Fault Refusal :=
  .next (s.restoreNext zero rebuilt lost)

/-- WARM_CHECK_DONE (R190): The reserved-region check word is verified at a warm start, or the start continues cold. -/
def execWarmCheckDone (good : Bool) (s : State) : Host.Outcome State Fault Refusal := .next (s.warmCheck good)

/-- CASCADE_WAIT_EXPIRY (R187): WAIT_MS passes without every strapped member's status and the master settles G from those heard. -/
def execCascadeWaitExpiry (s : State) : Host.Outcome State Fault Refusal := .next s.cascadeWaitExpired

end Sys2Proof.Machine
end

