-- ==== Sys2Proof/Machine/CmdSave.lean ====
section
/-! DEFINITION. What each command of the power-fail save and the module pins (R118 to R158, R569) does: one meaning for each row of the table, over the shared operations. -/

namespace Sys2Proof.Machine

/-- PFAIL_IN_FALL (R118): PFAIL_IN# falls and the debounce of PFAIL_DEB + 1 samples begins. -/
def execPfailInFall (s : State) : Host.Outcome State Fault Refusal := .next s.pfailFall

/-- PFAIL_DEBOUNCE_DONE (R118): PFAIL_IN# stays low through its debounce and a save starts with CAUSE 0b001. -/
def execPfailDebounceDone (s : State) : Host.Outcome State Fault Refusal := .next s.pfailTrigger

/-- PFAIL_GLITCH (R120): A low pulse on PFAIL_IN# ends before the debounce completes and is counted as a glitch. -/
def execPfailGlitch (samples : Nat) (s : State) : Host.Outcome State Fault Refusal := .next (s.pfailGlitch samples)

/-- PFAIL_IN_RISE (R148): PFAIL_IN# rises after a save has begun, starting the wait for power to be good for RET_MS. -/
def execPfailInRise (s : State) : Host.Outcome State Fault Refusal := .next s.pfailRise

/-- HOLD_RAIL_TRIP (R118): VDD_3V3_HOLD is found below V_TRIP and, with MON_EN, a save starts with CAUSE 0b010. -/
def execHoldRailTrip (s : State) : Host.Outcome State Fault Refusal := .next s.railTrip

/-- HOLD_RAIL_CLOSE (R142): VDD_3V3_HOLD is found below V_CLOSE, starting the close-out or letting HOLD_EN fall after SAVE_DONE. -/
def execHoldRailClose (started : Nat) (s : State) : Host.Outcome State Fault Refusal := .next (s.railClose started)

/-- SAVE_WRITES_APPLIED (R127): Every received write is in DRAM with its islet bit set, fixing the save set. -/
def execSaveWritesApplied (s : State) : Host.Outcome State Fault Refusal := .next s.writesApplied

/-- SAVE_DATA_DONE (R127): The last residual stripe is programmed and the journal tail, unsaved map and save seal are programmed. -/
def execSaveDataDone (s : State) : Host.Outcome State Fault Refusal := .next s.dataDone

/-- ENERGY_CUTOFF (R142): E_est reaches the close-out threshold with CUT_EN at 1. -/
def execEnergyCutoff (started : Nat) (s : State) : Host.Outcome State Fault Refusal := .next (s.energyCutoff started)

/-- SAVE_SEAL_PROGRAMMED (R127): The save seal program completes and its read-back begins. -/
def execSaveSealProgrammed (s : State) : Host.Outcome State Fault Refusal := .next s.sealProgrammed

/-- SAVE_SEAL_READBACK (R127): The save seal reads back good. -/
def execSaveSealReadback (s : State) : Host.Outcome State Fault Refusal := .next s.saveDone.heldTest

/-- SAVE_BASIN_ENTRY (R127): After SAVE_DONE, DRAM enters self-refresh and the controller enters BASIN with the host link off. -/
def execSaveBasinEntry (refreshed : Bool) (s : State) : Host.Outcome State Fault Refusal := .next (s.saveBasin refreshed)

/-- SELF_TEST_DONE (R126): The save sequencer's self-test ends and SOUND is set when it passes. -/
def execSelfTestDone (pass : Bool) (s : State) : Host.Outcome State Fault Refusal := .next (s.selfTest pass)

/-- POWER_RETURN (R148): PFAIL_IN# high and VDD_3V3_HOLD at or above V_TRIP have held for RET_MS after a power-fail save, giving a warm start with AUTO_WARM. -/
def execPowerReturn (s : State) : Host.Outcome State Fault Refusal := .next s.powerReturn

/-- POWER_LOSS (R151): The controller's own supplies fail, ending any save without a seal. -/
def execPowerLoss (torn : Bool) (s : State) : Host.Outcome State Fault Refusal := .next (s.powerLoss torn)

/-- RAIL_OUT_OF_BAND (R570): A supply rail leaves its band, raising RAIL_FAULT outside a save or ending a save without SAVE_DONE. -/
def execRailOutOfBand (rail : Nat) (s : State) : Host.Outcome State Fault Refusal := .next (s.railOut rail)

/-- DRAM_RAIL_FAULT (R395): The DRAM supply monitor sees the DRAM rail fall out of tolerance and clears the retention flag. -/
def execDramRailFault (s : State) : Host.Outcome State Fault Refusal := .next s.dramRailFault

/-- GPF_PHASE1 (R133): A GPF phase 1 request is acknowledged at once without a save. -/
def execGpfPhase1 (s : State) : Host.Outcome State Fault Refusal := .next s.gpfPhase1

/-- GPF_PHASE2 (R133): A GPF phase 2 request is received and waits for prior writes to reach DRAM. -/
def execGpfPhase2 (s : State) : Host.Outcome State Fault Refusal := .next s.gpfPhase2

/-- GPF_PHASE2_DONE (R133): Every write received before phase 2 is in DRAM and phase 2 completes. -/
def execGpfPhase2Done (s : State) : Host.Outcome State Fault Refusal := .next s.gpfDone

/-- HOLD_RAIL_RETURN (R148): VDD_3V3_HOLD rises back to V_TRIP or above, starting the RET_MS wait for warm start or reset release. -/
def execHoldRailReturn (s : State) : Host.Outcome State Fault Refusal := .next s.railReturn

end Sys2Proof.Machine
end

