-- ==== Sys2Proof/Machine/CmdStart.lean ====
section
/-! DEFINITION. What each command of clocks, reset and start (R389 to R410) does: one meaning for each row of the table, over the shared operations. -/

namespace Sys2Proof.Machine

/-- REF_LOSS (R391): REFCLK shows no edge for 1 µs: REF_OK falls and PLLs move to CLK25_IN. -/
def execRefLoss (s : State) : Host.Outcome State Fault Refusal := .next s.refLoss

/-- REF_BACK (R391): REFCLK stays in range for 1 ms: REF_OK rises and PLLs move back. -/
def execRefBack (ppm : Nat) (s : State) : Host.Outcome State Fault Refusal := .next (s.refBack ppm)

/-- AON_CLK_LOSS (R392): CLK25_IN shows no edge for 1 µs: the ring oscillator takes over and AON_CLK_LOSS is FATAL. -/
def execAonClkLoss (s : State) : Host.Outcome State Fault Refusal := .next s.aonLoss

/-- PLL_LOCK (R390): A PLL locks. -/
def execPllLock (k : Nat) (s : State) : Host.Outcome State Fault Refusal := .next (s.pllLock k)

/-- PLL_UNLOCK (R409): A PLL loses lock, stalling its block or retraining the host link. -/
def execPllUnlock (k : Nat) (s : State) : Host.Outcome State Fault Refusal := .next (s.pllUnlock k)

/-- POWER_ON_RESET (R399): The internal power-on reset releases at tp and a cold start begins. -/
def execPowerOnReset (retries : Option Nat) (s : State) : Host.Outcome State Fault Refusal := .next (s.powerOn retries)

/-- BOOT_IMAGE_VERIFIED (R402): Verification of the active Isle ends, booting it, falling back, or entering recovery. -/
def execBootImageVerified (active : Nat) (other : Nat) (s : State) : Host.Outcome State Fault Refusal :=
  .next (s.bootVerified active other)

/-- CONFIGURATION_DONE (R400): Glen firmware has started and read the configuration store, and DRAM, flash and Strait start. -/
def execConfigurationDone (ver : Nat) (kinds : Nat) (s : State) : Host.Outcome State Fault Refusal :=
  .next (s.configured ver kinds)

/-- RST_KEY (R410): Writing the key to RST_KEY arms DEV_RST for the writing port for 1 ms. -/
def execRstKey (p : Port) (key : Word) (s : State) : Host.Outcome State Fault Refusal := .next (s.portWord p 0x2044 key)

/-- DEV_RST (R394): Writing DEV_RST after the key requests a device reset and starts the quiesce. -/
def execDevRst (p : Port) (s : State) : Host.Outcome State Fault Refusal := .next (s.portBits p 0x2040 0 1 1)

/-- QUIESCE_DONE (R394): The quiesce completes, the retention store and flag are written and reset is asserted. -/
def execQuiesceDone (refreshed : Bool) (stored : Bool) (s : State) : Host.Outcome State Fault Refusal :=
  .next (s.quiesceDone refreshed stored)

/-- RESET_HOLD_RELEASE (R397): A held device reset is released once SAVE_DONE has risen and power has been good for RET_MS. -/
def execResetHoldRelease (s : State) : Host.Outcome State Fault Refusal := .next s.releaseHeld

/-- RECOVERY_SAMPLE (R514): 100 µs after reset release the ROM samples the service pins again to confirm a recovery request. -/
def execRecoverySample (first : Bool) (second : Bool) (s : State) : Host.Outcome State Fault Refusal :=
  .next (s.recoverySample first second)

end Sys2Proof.Machine
end

