-- ==== Sys2Proof/Machine/CmdStrt.lean ====
section
/-! DEFINITION. What each command of the Strait cascade (R365 to R388) does: one meaning for each row of the table, over the shared operations. -/

namespace Sys2Proof.Machine

/-- MASTERSHIP_TAKEOVER (R21): When all lower-numbered devices have been silent k × 50 µs, device k takes mastership and sends MASTER_CLAIM. -/
def execMastershipTakeover (late : Bool) (s : State) : Host.Outcome State Fault Refusal := .next (s.takeMastership late)

/-- STRAIT_PORT_TRAINED (R367): A Strait port trains and its partner's straps are checked, holding the port down on WIRING. -/
def execStraitPortTrained (port : Nat) (partner : Nat) (ring : Bool) (s : State) : Host.Outcome State Fault Refusal :=
  .next (s.portTrained port partner ring)

/-- CENSUS_DONE (R368): 10 ms after port training the census fixes SIZE and the expected set. -/
def execCensusDone (s : State) : Host.Outcome State Fault Refusal := .next s.censusEnds

/-- MASTER_ELECTION (R380): No master is heard within 10 ms of training, so device 0 becomes master. -/
def execMasterElection (s : State) : Host.Outcome State Fault Refusal := .next s.electMaster

/-- STRAIT_PERIODIC_SEND (R372): A periodic count expires and HEARTBEAT, PROBE, TICK_SYNC or MEMBER_INFO is sent. -/
def execStraitPeriodicSend (k : Periodic) (s : State) : Host.Outcome State Fault Refusal := .next (s.sendPeriodic k)

/-- STRAIT_FRAME_BAD (R370): A frame failing its CRC is discarded and replayed by its sender. -/
def execStraitFrameBad (mine : Bool) (s : State) : Host.Outcome State Fault Refusal := .next (s.frameBad mine)

/-- HEARTBEAT (R372): A HEARTBEAT frame marks its sender present with its state and master. -/
def execHeartbeat (h : FrameHdr) (payload : List (BitVec 8)) (s : State) : Host.Outcome State Fault Refusal :=
  .next (s.onHeartbeat h payload)

/-- PROBE (R374): A PROBE frame is answered with ECHO. -/
def execProbe (h : FrameHdr) (turn : Nat) (s : State) : Host.Outcome State Fault Refusal := .next (s.onProbe h turn)

/-- ECHO (R374): An ECHO frame yields the port's one-way delay. -/
def execEcho (h : FrameHdr) (payload : List (BitVec 8)) (trip : Nat) (s : State) : Host.Outcome State Fault Refusal :=
  .next (s.onEcho h payload trip)

/-- TICK_SYNC (R375): A TICK_SYNC frame sets the tick offset, which is corrected or stepped. -/
def execTickSync (h : FrameHdr) (payload : List (BitVec 8)) (offset : Int) (lag : Nat) (residence : Nat) (s : State) : Host.Outcome State Fault Refusal :=
  .next (s.onTickSync h payload offset lag residence)

/-- MEMBER_INFO (R372): A MEMBER_INFO frame updates a member's save power, rate, RES and LEFT. -/
def execMemberInfo (h : FrameHdr) (payload : List (BitVec 8)) (s : State) : Host.Outcome State Fault Refusal :=
  .next (s.onInfo h payload)

/-- SHARE (R382): A SHARE frame gives the member its energy share as E_mJ. -/
def execShare (h : FrameHdr) (payload : List (BitVec 8)) (s : State) : Host.Outcome State Fault Refusal :=
  .next (s.onShare h payload)

/-- TAIL_DONE (R377): A TAIL_DONE frame reports a completed tail to the master. -/
def execTailDone (h : FrameHdr) (payload : List (BitVec 8)) (s : State) : Host.Outcome State Fault Refusal :=
  .next (s.onTailDone h payload)

/-- CLOSE_ISSUE (R377): At T − CLOSE_LEAD the master sends CLOSE when every present member's tail is done, else retries. -/
def execCloseIssue (s : State) : Host.Outcome State Fault Refusal := .next s.issueClose

/-- CLOSE (R378): A CLOSE frame sets the close tick and number of the collecting epoch. -/
def execClose (h : FrameHdr) (payload : List (BitVec 8)) (s : State) : Host.Outcome State Fault Refusal :=
  .next (s.onClose h payload)

/-- SEALED (R378): A SEALED frame reports a member's seal for the group-sealed epoch. -/
def execSealedFrame (h : FrameHdr) (payload : List (BitVec 8)) (s : State) : Host.Outcome State Fault Refusal :=
  .next (s.onSealed h payload)

/-- GROUP_SEALED (R378): A GROUP_SEALED frame sets the group-sealed epoch used by R189. -/
def execGroupSealed (h : FrameHdr) (payload : List (BitVec 8)) (s : State) : Host.Outcome State Fault Refusal :=
  .next (s.onGroupSealed h payload)

/-- STRAIT_SAVE (R152): A SAVE frame from the master starts the member's save with CAUSE 0b100. -/
def execStraitSave (h : FrameHdr) (s : State) : Host.Outcome State Fault Refusal := .next (s.onSave h)

/-- SAVE_START (R384): A SAVE_START frame records a member's own-trigger save at the master. -/
def execSaveStart (h : FrameHdr) (payload : List (BitVec 8)) (s : State) : Host.Outcome State Fault Refusal :=
  .next (s.onSaveStart h payload)

/-- SAVE_END (R383): A SAVE_END frame reports a member's SAVE_DONE, setting its need to 0. -/
def execSaveEnd (h : FrameHdr) (payload : List (BitVec 8)) (s : State) : Host.Outcome State Fault Refusal :=
  .next (s.onSaveEnd h payload)

/-- IMAGE_STATUS_FRAME (R186): An IMAGE_STATUS frame reports a member's H, cut identifier and class to the master. -/
def execImageStatusFrame (h : FrameHdr) (payload : List (BitVec 8)) (s : State) : Host.Outcome State Fault Refusal :=
  .next (s.onStatus h payload)

/-- GROUP_POINT (R186): A GROUP_POINT frame gives the group restore point and lets the metadata load begin. -/
def execGroupPoint (h : FrameHdr) (payload : List (BitVec 8)) (s : State) : Host.Outcome State Fault Refusal :=
  .next (s.onPoint h payload)

/-- MASTER_CLAIM (R379): A MASTER_CLAIM frame announces a new master and raises MASTER_CHANGE. -/
def execMasterClaim (h : FrameHdr) (payload : List (BitVec 8)) (s : State) : Host.Outcome State Fault Refusal :=
  .next (s.onClaim h payload)

/-- EVENT (R373): An EVENT frame ends WAITs of type STRAIT on its number. -/
def execEventFrame (h : FrameHdr) (payload : List (BitVec 8)) (s : State) : Host.Outcome State Fault Refusal :=
  .next (s.onEvent h payload)

/-- PEER_SILENT (R377): A device unheard for 50 µs leaves the present set and PEER_LOST is raised. -/
def execPeerSilent (d : Nat) (late : Bool) (s : State) : Host.Outcome State Fault Refusal := .next (s.peerSilent d late)

/-- STRT_RETRAIN (R387): Writing STRT_CTRL.RETRAIN retrains both Strait ports. -/
def execStrtRetrain (p : Port) (s : State) : Host.Outcome State Fault Refusal := .next (s.portBits p 0x88040 8 1 1)

/-- PORT_DOWN (R19): A trained Strait port loses training, raising PORT_DOWN and leaving frames to the other path or to silence. -/
def execPortDown (port : Nat) (s : State) : Host.Outcome State Fault Refusal := .next (s.portDown port)

/-- SHARE_TIMEOUT (R155): A saving member receives no SHARE update for 3 × POLL_MS and continues on its time account alone. -/
def execShareTimeout (s : State) : Host.Outcome State Fault Refusal := .next s.shareTimeout

/-- UNLISTED_FRAME_TYPE (R372): A Strait frame of a type not listed is discarded and counted in STRT_DROP. -/
def execUnlistedFrameType (h : FrameHdr) (s : State) : Host.Outcome State Fault Refusal := .next (s.frameUnlisted h)

end Sys2Proof.Machine
end

