-- ==== Sys2Proof/Machine/CmdSvc.lean ====
section
/-! DEFINITION. What each command of the service port (R499 to R519) does: one meaning for each row of the table, over the shared operations. -/

namespace Sys2Proof.Machine

/-- IDENT (R503): Service IDENT returns the identity payload. -/
def execIdent (tag : Nat) (good : Bool) (s : State) : Host.Outcome State Fault Refusal :=
  .next (s.svcFrame tag good State.svcIdent)

/-- SVC_FRAME_SHORT (R502): SVC_SEL# rises before the request CRC completes and the request is discarded. -/
def execSvcFrameShort (s : State) : Host.Outcome State Fault Refusal := .next s.svcShort

/-- STATUS (R503): Service STATUS returns the update state and progress. -/
def execStatus (tag : Nat) (good : Bool) (s : State) : Host.Outcome State Fault Refusal :=
  .next (s.svcFrame tag good State.svcStatus)

/-- PKG_BEGIN (R508): PKG_BEGIN checks the package header and starts hashing the base. -/
def execPkgBegin (tag : Nat) (good : Bool) (payload : List (BitVec 8)) (s : State) : Host.Outcome State Fault Refusal :=
  .next (s.svcCommand tag good (s.cfgOn SVC_CTRL_UPD_EN) false false (fun t => t.pkgBegin payload))

/-- UPD_HASH_DONE (R508): The base digest check ends, starting the Isle erase or failing with BASE_MISMATCH. -/
def execUpdHashDone (s : State) : Host.Outcome State Fault Refusal := .next s.hashDone

/-- UPD_ERASE_DONE (R510): The target Isle's 32 blocks are erased and the update enters RECEIVING. -/
def execUpdEraseDone (s : State) : Host.Outcome State Fault Refusal := .next s.updErased

/-- PKG_DATA (R511): PKG_DATA buffers body bytes at the expected offset. -/
def execPkgData (tag : Nat) (good : Bool) (payload : List (BitVec 8)) (s : State) : Host.Outcome State Fault Refusal :=
  .next (s.svcCommand tag good true false false (fun t => t.svcData false payload))

/-- PKG_END (R512): PKG_END starts checking the body and the target digest. -/
def execPkgEnd (tag : Nat) (good : Bool) (s : State) : Host.Outcome State Fault Refusal :=
  .next (s.svcCommand tag good true false false (fun t => t.svcEnd false))

/-- UPD_CHECK_DONE (R512): The package check ends in APPLIED or FAILED. -/
def execUpdCheckDone (s : State) : Host.Outcome State Fault Refusal := .next s.updChecked

/-- ACTIVATE (R512): ACTIVATE writes a boot swap making the new Isle active with UPD_PEND. -/
def execActivate (tag : Nat) (good : Bool) (s : State) : Host.Outcome State Fault Refusal :=
  .next (s.svcCommand tag good true false false State.svcActivate)

/-- ABORT (R510): ABORT ends the update in hand with ABORTED. -/
def execAbort (tag : Nat) (good : Bool) (s : State) : Host.Outcome State Fault Refusal :=
  .next (s.svcCommand tag good true true true State.svcAbort)

/-- RCV_BEGIN (R515): RCV_BEGIN checks IMG_LEN and erases the inactive Isle in recovery. -/
def execRcvBegin (tag : Nat) (good : Bool) (payload : List (BitVec 8)) (s : State) : Host.Outcome State Fault Refusal :=
  .next (s.svcCommand tag good false true false (fun t => t.rcvBegin payload))

/-- RCV_DATA (R511): RCV_DATA buffers image bytes at the expected offset. -/
def execRcvData (tag : Nat) (good : Bool) (payload : List (BitVec 8)) (s : State) : Host.Outcome State Fault Refusal :=
  .next (s.svcCommand tag good false true false (fun t => t.svcData true payload))

/-- RCV_END (R515): RCV_END starts the read-back CRC check of the image. -/
def execRcvEnd (tag : Nat) (good : Bool) (s : State) : Host.Outcome State Fault Refusal :=
  .next (s.svcCommand tag good false true false (fun t => t.svcEnd true))

/-- RCV_CHECK_DONE (R515): The recovery image check ends with a boot swap or FAILED with DIGEST. -/
def execRcvCheckDone (s : State) : Host.Outcome State Fault Refusal := .next s.rcvChecked

/-- PROT_SET (R476): PROT_SET runs the protection command from the service port. -/
def execProtSet (tag : Nat) (good : Bool) (payload : List (BitVec 8)) (s : State) : Host.Outcome State Fault Refusal :=
  .next (s.svcCommand tag good (s.cfgOn SVC_CTRL_PROT_EN) true false (fun t => t.protSet payload))

/-- EC_READ (R479): EC_READ returns erase counts of Atoll blocks in recovery. -/
def execEcRead (tag : Nat) (good : Bool) (payload : List (BitVec 8)) (s : State) : Host.Outcome State Fault Refusal :=
  .next (s.svcCommand tag good false true false (fun t => t.svcEc payload))

/-- BAD_OP (R504): A service-port request with an OP not listed is answered BAD_OP. -/
def execBadOp (tag : Nat) (good : Bool) (s : State) : Host.Outcome State Fault Refusal :=
  .next (s.svcFrame tag good (fun t => t.svcAnswer 0x04 []))

end Sys2Proof.Machine
end

