-- ==== Sys2Proof/Machine/CmdTst.lean ====
section
/-! DEFINITION. What each command of the test port (R553 to R564) does: one meaning for each row of the table, over the shared operations. -/

namespace Sys2Proof.Machine

/-- TAP_RESET (R553): TRST# low or five TMS-high edges reset the TAP and end test mode. -/
def execTapReset (s : State) : Host.Outcome State Fault Refusal := .next s.tapReset

/-- EXTEST (R555): EXTEST takes the pins and enters test mode. -/
def execExtest (pins : Nat) (shifted : Option Nat) (s : State) : Host.Outcome State Fault Refusal :=
  .next ((s.loadIr 0x00).boundary pins shifted)

/-- SAMPLE (R554): SAMPLE captures the pins in the boundary register. -/
def execSample (pins : Nat) (s : State) : Host.Outcome State Fault Refusal := .next ((s.loadIr 0x01).boundary pins none)

/-- PRELOAD (R554): PRELOAD loads the boundary register's update stage. -/
def execPreload (pins : Nat) (shifted : Option Nat) (s : State) : Host.Outcome State Fault Refusal :=
  .next ((s.loadIr 0x02).boundary pins shifted)

/-- IDCODE (R560): IDCODE selects the 32-bit identification register. -/
def execIdcode (s : State) : Host.Outcome State Fault Refusal := .next ((s.loadIr 0x03).jtagOut 0x1816094F)

/-- CLAMP (R554): CLAMP holds the pins and selects bypass, entering test mode. -/
def execClamp (s : State) : Host.Outcome State Fault Refusal := .next ((s.loadIr 0x04).jtagOut 0)

/-- HIGHZ (R554): HIGHZ floats the pins and selects bypass, entering test mode. -/
def execHighz (s : State) : Host.Outcome State Fault Refusal := .next ((s.loadIr 0x05).jtagOut 0)

/-- EXTEST_PULSE (R559): EXTEST_PULSE drives the AC-coupled lanes under IEEE 1149.6. -/
def execExtestPulse (pins : Nat) (shifted : Option Nat) (s : State) : Host.Outcome State Fault Refusal :=
  .next ((s.loadIr 0x08).boundary pins shifted)

/-- EXTEST_TRAIN (R559): EXTEST_TRAIN toggles the AC-coupled lanes under IEEE 1149.6. -/
def execExtestTrain (pins : Nat) (shifted : Option Nat) (s : State) : Host.Outcome State Fault Refusal :=
  .next ((s.loadIr 0x09).boundary pins shifted)

/-- SYS_ID (R561): SYS_ID selects the 256-bit identity register. -/
def execSysId (s : State) : Host.Outcome State Fault Refusal := .next ((s.loadIr 0x20).jtagOut (leNat s.identity))

/-- TST_RESET (R557): TST_RESET requests a device reset with SRC 0x7 through the quiesce. -/
def execTstReset (s : State) : Host.Outcome State Fault Refusal := .next s.tstReset

/-- ATOL_READ (R562): ATOL_READ reads an Atoll word through TST's window at Update-DR. -/
def execAtolRead (word : Nat) (cbits : Nat) (ue : Bool) (ready : Bool) (s : State) : Host.Outcome State Fault Refusal :=
  .next (s.tstRead word cbits ue ready)

/-- ATOL_EC (R563): ATOL_EC returns an Atoll block's erase count in test mode. -/
def execAtolEc (b : Nat) (s : State) : Host.Outcome State Fault Refusal := .next (s.tstEc b)

/-- BYPASS (R554): BYPASS, or any unlisted code, selects the bypass register. -/
def execBypass (code : Nat) (s : State) : Host.Outcome State Fault Refusal :=
  .next ((s.loadIr (if [0x00, 0x01, 0x02, 0x03, 0x04, 0x05, 0x08, 0x09, 0x20, 0x21, 0x22, 0x23].contains code then 0xFF else code % 256)).jtagOut 0)

end Sys2Proof.Machine
end

