-- ==== Sys2Proof/Machine/CmdTwl.lean ====
section
/-! DEFINITION. What each command of the local two-wire bus (R481 to R490) does: one meaning for each row of the table, over the shared operations. -/

namespace Sys2Proof.Machine

/-- POLL_DUE (R487): A poll entry's interval passes and the entry becomes due. -/
def execPollDue (n : Nat) (s : State) : Host.Outcome State Fault Refusal := .next (s.pollDue n)

/-- TWL_TRANSACTION_START (R483): The local bus is free and TWL starts the first due item. -/
def execTwlTransactionStart (s : State) : Host.Outcome State Fault Refusal := .next s.twlStart

/-- TWL_TRANSACTION_DONE (R488): A local-bus transaction ends and its reading or outcome is recorded. -/
def execTwlTransactionDone (e : TwlEnd) (s : State) : Host.Outcome State Fault Refusal := .next (s.twlDone e)

/-- TWL_TIMEOUT (R484): A target holds the bus for tTIMEOUT; TWL ends the transaction and pulses SCL. -/
def execTwlTimeout (stuck : Bool) (s : State) : Host.Outcome State Fault Refusal := .next (s.twlTimeout stuck)

/-- BUS_STUCK_RETRY (R484): Every 100 ms a stuck local bus is tried again. -/
def execBusStuckRetry (freed : Bool) (s : State) : Host.Outcome State Fault Refusal := .next (s.busRetry freed)

/-- HOST_NOTIFY (R486): A Host Notify to 0x08 is committed into the FIFO and NOTIFY raised. -/
def execHostNotify (addr : Nat) (status : Nat) (s : State) : Host.Outcome State Fault Refusal :=
  .next (s.hostNotify addr status)

/-- TWL_NPOP (R497): Any write to TWL_NPOP removes the head of the Host Notify FIFO. -/
def execTwlNpop (p : Port) (s : State) : Host.Outcome State Fault Refusal := .next (s.portWord p 0x98094 0)

/-- LOC_ALERT (R489): LOC_ALERT# low causes an ARA read and records the alerting address. -/
def execLocAlert (low : Bool) (s : State) : Host.Outcome State Fault Refusal := .next (s.locAlert low)

/-- ARA_BACKOFF (R489): 10 ms after a spurious ARA the next ARA may be read. -/
def execAraBackoff (s : State) : Host.Outcome State Fault Refusal := .next s.araReady

/-- TWL_XCMD_GO (R483): Writing TWL_XCMD.GO queues a management transaction. -/
def execTwlXcmdGo (p : Port) (s : State) : Host.Outcome State Fault Refusal := .next (s.portBits p 0x98060 31 1 1)

end Sys2Proof.Machine
end

