-- ==== Sys2Proof/Machine/CmdTws.lean ====
section
/-! DEFINITION. What each command of the sideband target (R491 to R498) does: one meaning for each row of the table, over the shared operations. -/

namespace Sys2Proof.Machine

/-- REG_WRITE (R493): A sideband REG_WRITE commits up to 8 register writes on one page. -/
def execRegWrite (count : Nat) (a0 : BitVec 8) (a1 : BitVec 8) (a2 : BitVec 8) (words : List Word) (pecOk : Bool) (s : State) : Host.Outcome State Fault Refusal :=
  .next (s.sbWrite count a0 a1 a2 words pecOk)

/-- REG_READ (R494): A sideband REG_READ returns up to 8 register words. -/
def execRegRead (count : Nat) (a0 : BitVec 8) (a1 : BitVec 8) (a2 : BitVec 8) (k : Nat) (s : State) : Host.Outcome State Fault Refusal :=
  .next (s.sbRead count a0 a1 a2 k)

/-- RESET (R493): A sideband RESET requests a device reset with SRC 0x3. -/
def execReset (count : Nat) (bytes : List (BitVec 8)) (pecOk : Bool) (s : State) : Host.Outcome State Fault Refusal :=
  .next (s.sbReset count bytes pecOk)

/-- SB_ARA (R491): While SB_ALERT# is asserted the target answers ARA with its address. -/
def execSbAra (s : State) : Host.Outcome State Fault Refusal := .next s.sbAra

/-- SB_TIMEOUT (R496): SB_SCL stays low for tTIMEOUT and the transaction is abandoned. -/
def execSbTimeout (s : State) : Host.Outcome State Fault Refusal := .next s.sbTimeout

/-- SB_PROTOCOL_ABANDON (R496): A misplaced repeated start abandons the sideband transaction. -/
def execSbProtocolAbandon (s : State) : Host.Outcome State Fault Refusal := .next s.sbAbandon

/-- GATED_PAGE_READ (R36): A read of a gated or powered-off page returns 0xFFFF_FFFF or is not acknowledged and is recorded in SYS_ACCOFF. -/
def execGatedPageRead (p : Port) (addr : Nat) (s : State) : Host.Outcome State Fault Refusal := .next (s.portRead p addr)

/-- SB_COMMAND_REFUSED (R495): A sideband transaction with a command code other than 0x01, 0x02 or 0x0F is not acknowledged at its command byte and recorded in TWS_LAST. -/
def execSbCommandRefused (code : Nat) (s : State) : Host.Outcome State Fault Refusal := .next (s.sbRefused code)

end Sys2Proof.Machine
end

