-- ==== Sys2Proof/Machine/CmdUpk.lean ====
section
/-! DEFINITION. What each command of background upkeep (R536 to R552) does: one meaning for each row of the table, over the shared operations. -/

namespace Sys2Proof.Machine

/-- SCRUB_LINE_DUE (R536): The scrub accumulator passes a multiple of 65,536 and a line falls due. -/
def execScrubLineDue (s : State) : Host.Outcome State Fault Refusal := .next s.scrubLine

/-- ROUND_LATE (R537): A scrub round runs one-eighth beyond ROUND_H and ROUND_LATE is raised. -/
def execRoundLate (s : State) : Host.Outcome State Fault Refusal := .next s.roundLate

/-- RETENTION_SCAN_DUE (R540): RET_DAYS pass, or RESTORE_DONE arrives at a cold start, and a retention round begins. -/
def execRetentionScanDue (restored : Bool) (s : State) : Host.Outcome State Fault Refusal := .next (s.retentionDue restored)

/-- SCAN_LATE (R542): A scan round runs longer than its interval and SCAN_LATE is raised. -/
def execScanLate (s : State) : Host.Outcome State Fault Refusal := .next s.scanLate

/-- ZQ_DUE (R543): ZQ_MS passes for a rank and DRAM ZQ calibration runs. -/
def execZqDue (sc : Nat) (lrank : Nat) (s : State) : Host.Outcome State Fault Refusal := .next (s.zqDue sc lrank)

/-- OSC_DUE (R543): OSC_MS passes for a rank and the DQS oscillator is read and the delays adjusted. -/
def execOscDue (sc : Nat) (lrank : Nat) (drift : Nat) (s : State) : Host.Outcome State Fault Refusal :=
  .next (s.oscDue sc lrank drift)

/-- FCAL_DUE (R543): FCAL_H passes and a block group's read offset is swept. -/
def execFcalDue (c : Nat) (d : Nat) (plane : Nat) (group : Nat) (below : Nat) (present : Nat) (above : Nat) (s : State) : Host.Outcome State Fault Refusal :=
  .next (s.fcalDue c d plane group below present above)

/-- ONFI_ZQ_DUE (R543): 24 h pass for a channel and ONFI ZQ and DCC are recalibrated. -/
def execOnfiZqDue (c : Nat) (s : State) : Host.Outcome State Fault Refusal := .next (s.onfiDue c)

/-- CAP_TEST_DUE (R545): CAP_DAYS pass, or an hour after a refused test, and the capacity test starts or is refused. -/
def execCapTestDue (s : State) : Host.Outcome State Fault Refusal := .next s.capDue

/-- CAP_GO (R545): Writing UPK_CAP.CAP_GO starts a capacity test. -/
def execCapGo (p : Port) (s : State) : Host.Outcome State Fault Refusal := .next (s.portBits p 0xA004C 8 1 1)

/-- CAP_MAX_EXPIRY (R545): CAP_MAX_S passes in a capacity test and the test finishes with the last reading. -/
def execCapMaxExpiry (late : Option Nat) (s : State) : Host.Outcome State Fault Refusal := .next (s.capExpired late)

/-- WEAR_HORIZON_UPDATE (R548): Once a day UPK computes the life fraction and WEAR_HORIZON. -/
def execWearHorizonUpdate (s : State) : Host.Outcome State Fault Refusal := .next s.wearUpdate

/-- TELEMETRY_SAMPLE (R550): TEL_MS passes and UPK samples the telemetry values. -/
def execTelemetrySample (tj : Int) (mw : Nat) (s : State) : Host.Outcome State Fault Refusal := .next (s.telemetry tj mw)

/-- DSCR_MPOP (R551): Any write to DSCR_MPOP removes the head of the marked-islet list. -/
def execDscrMpop (p : Port) (s : State) : Host.Outcome State Fault Refusal := .next (s.portWord p 0x5C0C4 0)

end Sys2Proof.Machine
end

