-- ==== Sys2Proof/Machine/Dispatch.lean ====
section
/-! DEFINITION. The meaning of each command: one arm per constructor, one call per arm. -/

namespace Sys2Proof.Machine

/-- The effect of a command on everything but the queue. -/
def exec (i : Instr) (s : State) : Host.Outcome State Fault Refusal :=
  match i with
  | .passTick w => Sys2Proof.Machine.execPassTick w s
  | .aliveEdge => Sys2Proof.Machine.execAliveEdge s
  | .mastershipTakeover late => Sys2Proof.Machine.execMastershipTakeover late s
  | .registerWrite p addr mask data => Sys2Proof.Machine.execRegisterWrite p addr mask data s
  | .counterLoRead p addr => Sys2Proof.Machine.execCounterLoRead p addr s
  | .rcRead p addr => Sys2Proof.Machine.execRcRead p addr s
  | .semClaim n readers => Sys2Proof.Machine.execSemClaim n readers s
  | .semRelease p n owner => Sys2Proof.Machine.execSemRelease p n owner s
  | .semBreak p n owner => Sys2Proof.Machine.execSemBreak p n owner s
  | .semLeaseExpiry n => Sys2Proof.Machine.execSemLeaseExpiry n s
  | .shadowArm p page => Sys2Proof.Machine.execShadowArm p page s
  | .shadowDiscard p page => Sys2Proof.Machine.execShadowDiscard p page s
  | .softRst p page => Sys2Proof.Machine.execSoftRst p page s
  | .clkGate p page on => Sys2Proof.Machine.execClkGate p page on s
  | .pageEn p page on => Sys2Proof.Machine.execPageEn p page on s
  | .intForce p page causes => Sys2Proof.Machine.execIntForce p page causes s
  | .errForce p page sources => Sys2Proof.Machine.execErrForce p page sources s
  | .mgpEoi p v => Sys2Proof.Machine.execMgpEoi p v s
  | .msixHeldSend => Sys2Proof.Machine.execMsixHeldSend s
  | .cxlMemWrite n line tag data be poison => Sys2Proof.Machine.execCxlMemWrite n line tag data be poison s
  | .cxlMemRead n line tag => Sys2Proof.Machine.execCxlMemRead n line tag s
  | .isletRecordReadDone => Sys2Proof.Machine.execIsletRecordReadDone s
  | .paceAdmit => Sys2Proof.Machine.execPaceAdmit s
  | .holdMaxAdmit => Sys2Proof.Machine.execHoldMaxAdmit s
  | .budgetCompute tj => Sys2Proof.Machine.execBudgetCompute tj s
  | .gaugeStale late => Sys2Proof.Machine.execGaugeStale late s
  | .epochClose => Sys2Proof.Machine.execEpochClose s
  | .coolingWalkDone => Sys2Proof.Machine.execCoolingWalkDone s
  | .epochSeal rearmed again => Sys2Proof.Machine.execEpochSeal rearmed again s
  | .planeClearDone => Sys2Proof.Machine.execPlaneClearDone s
  | .persBarPost p tag => Sys2Proof.Machine.execPersBarPost p tag s
  | .persQIslet p islet => Sys2Proof.Machine.execPersQIslet p islet s
  | .isletLookupDone => Sys2Proof.Machine.execIsletLookupDone s
  | .shadowReadEnd islet => Sys2Proof.Machine.execShadowReadEnd islet s
  | .stripeAgeExpiry slc => Sys2Proof.Machine.execStripeAgeExpiry slc s
  | .sweepRoundDone => Sys2Proof.Machine.execSweepRoundDone s
  | .barrierSweepDone => Sys2Proof.Machine.execBarrierSweepDone s
  | .pfailInFall => Sys2Proof.Machine.execPfailInFall s
  | .pfailDebounceDone => Sys2Proof.Machine.execPfailDebounceDone s
  | .pfailGlitch samples => Sys2Proof.Machine.execPfailGlitch samples s
  | .pfailInRise => Sys2Proof.Machine.execPfailInRise s
  | .holdRailTrip => Sys2Proof.Machine.execHoldRailTrip s
  | .holdRailClose started => Sys2Proof.Machine.execHoldRailClose started s
  | .saveWritesApplied => Sys2Proof.Machine.execSaveWritesApplied s
  | .saveDataDone => Sys2Proof.Machine.execSaveDataDone s
  | .energyCutoff started => Sys2Proof.Machine.execEnergyCutoff started s
  | .saveSealProgrammed => Sys2Proof.Machine.execSaveSealProgrammed s
  | .saveSealReadback => Sys2Proof.Machine.execSaveSealReadback s
  | .saveBasinEntry refreshed => Sys2Proof.Machine.execSaveBasinEntry refreshed s
  | .selfTestDone pass => Sys2Proof.Machine.execSelfTestDone pass s
  | .powerReturn => Sys2Proof.Machine.execPowerReturn s
  | .powerLoss torn => Sys2Proof.Machine.execPowerLoss torn s
  | .railOutOfBand rail => Sys2Proof.Machine.execRailOutOfBand rail s
  | .dramRailFault => Sys2Proof.Machine.execDramRailFault s
  | .gpfPhase1 => Sys2Proof.Machine.execGpfPhase1 s
  | .gpfPhase2 => Sys2Proof.Machine.execGpfPhase2 s
  | .gpfPhase2Done => Sys2Proof.Machine.execGpfPhase2Done s
  | .dramTrainingDone fell lowered failed => Sys2Proof.Machine.execDramTrainingDone fell lowered failed s
  | .imageDetectDone found => Sys2Proof.Machine.execImageDetectDone found s
  | .metadataLoadDone => Sys2Proof.Machine.execMetadataLoadDone s
  | .faultInDone islet us rebuilt lost late => Sys2Proof.Machine.execFaultInDone islet us rebuilt lost late s
  | .restoreIsletDone zero rebuilt lost => Sys2Proof.Machine.execRestoreIsletDone zero rebuilt lost s
  | .warmCheckDone good => Sys2Proof.Machine.execWarmCheckDone good s
  | .cascadeWaitExpiry => Sys2Proof.Machine.execCascadeWaitExpiry s
  | .flashOpEnqueue c o => Sys2Proof.Machine.execFlashOpEnqueue c o s
  | .resumeWindowExpiry c d => Sys2Proof.Machine.execResumeWindowExpiry c d s
  | .flashReadDone c d plane b r last scan => Sys2Proof.Machine.execFlashReadDone c d plane b r last scan s
  | .flashProgramDone c d good us => Sys2Proof.Machine.execFlashProgramDone c d good us s
  | .flashEraseDone c d e => Sys2Proof.Machine.execFlashEraseDone c d e s
  | .dieReadyTimeout c d late => Sys2Proof.Machine.execDieReadyTimeout c d late s
  | .fchRetrain p c => Sys2Proof.Machine.execFchRetrain p c s
  | .flashChannelTrained c good found => Sys2Proof.Machine.execFlashChannelTrained c good found s
  | .farrQBlock p query => Sys2Proof.Machine.execFarrQBlock p query s
  | .blockLookupDone => Sys2Proof.Machine.execBlockLookupDone s
  | .movStart p c => Sys2Proof.Machine.execMovStart p c s
  | .movAbort p c => Sys2Proof.Machine.execMovAbort p c s
  | .move c => Sys2Proof.Machine.execMove c s
  | .spread c => Sys2Proof.Machine.execSpread c s
  | .loop c => Sys2Proof.Machine.execLoop c s
  | .wait c => Sys2Proof.Machine.execWait c s
  | .signal c cycle => Sys2Proof.Machine.execSignal c cycle s
  | .halt c cycle => Sys2Proof.Machine.execHalt c cycle s
  | .nop c => Sys2Proof.Machine.execNop c s
  | .illegal c cycle => Sys2Proof.Machine.execIllegal c cycle s
  | .pcRange c cycle => Sys2Proof.Machine.execPcRange c cycle s
  | .pmUe c cycle => Sys2Proof.Machine.execPmUe c cycle s
  | .moverTransferDone c hit why => Sys2Proof.Machine.execMoverTransferDone c hit why s
  | .waitEnd c => Sys2Proof.Machine.execWaitEnd c s
  | .waitTimeout c cycle => Sys2Proof.Machine.execWaitTimeout c cycle s
  | .pmDataHiWrite p hi => Sys2Proof.Machine.execPmDataHiWrite p hi s
  | .pmDataLoRead p => Sys2Proof.Machine.execPmDataLoRead p s
  | .pmDataHiRead p => Sys2Proof.Machine.execPmDataHiRead p s
  | .collectorDrain cycle => Sys2Proof.Machine.execCollectorDrain cycle s
  | .mvgCpop p => Sys2Proof.Machine.execMvgCpop p s
  | .dramReadDone line r o record => Sys2Proof.Machine.execDramReadDone line r o record s
  | .repairWrite line => Sys2Proof.Machine.execRepairWrite line s
  | .refreshDue sc lrank queued => Sys2Proof.Machine.execRefreshDue sc lrank queued s
  | .mr4Poll d doubled => Sys2Proof.Machine.execMr4Poll d doubled s
  | .rankPowerDown d r late => Sys2Proof.Machine.execRankPowerDown d r late s
  | .rowIdleClose bank => Sys2Proof.Machine.execRowIdleClose bank s
  | .caParityAlert sc => Sys2Proof.Machine.execCaParityAlert sc s
  | .caAlertClear sc => Sys2Proof.Machine.execCaAlertClear sc s
  | .inPlaceRetrainDone sc margin => Sys2Proof.Machine.execInPlaceRetrainDone sc margin s
  | .dtrnGo p => Sys2Proof.Machine.execDtrnGo p s
  | .dtrnStop p => Sys2Proof.Machine.execDtrnStop p s
  | .dtrnDone lanes mismatches => Sys2Proof.Machine.execDtrnDone lanes mismatches s
  | .perstAssert => Sys2Proof.Machine.execPerstAssert s
  | .perstRelease => Sys2Proof.Machine.execPerstRelease s
  | .linkUp rate flit256 lanes => Sys2Proof.Machine.execLinkUp rate flit256 lanes s
  | .linkDown => Sys2Proof.Machine.execLinkDown s
  | .linkFail => Sys2Proof.Machine.execLinkFail s
  | .l1Exit => Sys2Proof.Machine.execL1Exit s
  | .configRequest q => Sys2Proof.Machine.execConfigRequest q s
  | .creditStall => Sys2Proof.Machine.execCreditStall s
  | .decoderCommit n base size dpa iw ig => Sys2Proof.Machine.execDecoderCommit n base size dpa iw ig s
  | .memEnable => Sys2Proof.Machine.execMemEnable s
  | .getEventRecords log => Sys2Proof.Machine.execGetEventRecords log s
  | .clearEventRecords log every handles => Sys2Proof.Machine.execClearEventRecords log every handles s
  | .getEventInterruptPolicy => Sys2Proof.Machine.execGetEventInterruptPolicy s
  | .setEventInterruptPolicy modes => Sys2Proof.Machine.execSetEventInterruptPolicy modes s
  | .getFwInfo => Sys2Proof.Machine.execGetFwInfo s
  | .unsupportedCommand => Sys2Proof.Machine.execUnsupportedCommand s
  | .getTimestamp => Sys2Proof.Machine.execGetTimestamp s
  | .setTimestamp ns => Sys2Proof.Machine.execSetTimestamp ns s
  | .getSupportedLogs => Sys2Proof.Machine.execGetSupportedLogs s
  | .getLog uuid offset length => Sys2Proof.Machine.execGetLog uuid offset length s
  | .identifyMemoryDevice => Sys2Proof.Machine.execIdentifyMemoryDevice s
  | .getHealthInfo => Sys2Proof.Machine.execGetHealthInfo s
  | .getAlertConfig => Sys2Proof.Machine.execGetAlertConfig s
  | .setAlertConfig config => Sys2Proof.Machine.execSetAlertConfig config s
  | .getShutdownState => Sys2Proof.Machine.execGetShutdownState s
  | .setShutdownState v => Sys2Proof.Machine.execSetShutdownState v s
  | .getPoisonList dpa length => Sys2Proof.Machine.execGetPoisonList dpa length s
  | .injectPoison dpa => Sys2Proof.Machine.execInjectPoison dpa s
  | .clearPoison dpa data => Sys2Proof.Machine.execClearPoison dpa data s
  | .sanitize => Sys2Proof.Machine.execSanitize s
  | .sanitizeDone => Sys2Proof.Machine.execSanitizeDone s
  | .barrierPost tag => Sys2Proof.Machine.execBarrierPost tag s
  | .barrierStatus seq => Sys2Proof.Machine.execBarrierStatus seq s
  | .budgetQuery => Sys2Proof.Machine.execBudgetQuery s
  | .imageStatus => Sys2Proof.Machine.execImageStatus s
  | .cascadeStatus => Sys2Proof.Machine.execCascadeStatus s
  | .formatArray confirm flags tag size => Sys2Proof.Machine.execFormatArray confirm flags tag size s
  | .formatArrayDone => Sys2Proof.Machine.execFormatArrayDone s
  | .keyImportBegin => Sys2Proof.Machine.execKeyImportBegin s
  | .keyExport slot receiver => Sys2Proof.Machine.execKeyExport slot receiver s
  | .keyImport sender keyId wrapped => Sys2Proof.Machine.execKeyImport sender keyId wrapped s
  | .straitPortTrained port partner ring => Sys2Proof.Machine.execStraitPortTrained port partner ring s
  | .censusDone => Sys2Proof.Machine.execCensusDone s
  | .masterElection => Sys2Proof.Machine.execMasterElection s
  | .straitPeriodicSend k => Sys2Proof.Machine.execStraitPeriodicSend k s
  | .straitFrameBad mine => Sys2Proof.Machine.execStraitFrameBad mine s
  | .heartbeat h payload => Sys2Proof.Machine.execHeartbeat h payload s
  | .probe h turn => Sys2Proof.Machine.execProbe h turn s
  | .echo h payload trip => Sys2Proof.Machine.execEcho h payload trip s
  | .tickSync h payload offset lag residence => Sys2Proof.Machine.execTickSync h payload offset lag residence s
  | .memberInfo h payload => Sys2Proof.Machine.execMemberInfo h payload s
  | .share h payload => Sys2Proof.Machine.execShare h payload s
  | .tailDone h payload => Sys2Proof.Machine.execTailDone h payload s
  | .closeIssue => Sys2Proof.Machine.execCloseIssue s
  | .close h payload => Sys2Proof.Machine.execClose h payload s
  | .sealedFrame h payload => Sys2Proof.Machine.execSealedFrame h payload s
  | .groupSealed h payload => Sys2Proof.Machine.execGroupSealed h payload s
  | .straitSave h => Sys2Proof.Machine.execStraitSave h s
  | .saveStart h payload => Sys2Proof.Machine.execSaveStart h payload s
  | .saveEnd h payload => Sys2Proof.Machine.execSaveEnd h payload s
  | .imageStatusFrame h payload => Sys2Proof.Machine.execImageStatusFrame h payload s
  | .groupPoint h payload => Sys2Proof.Machine.execGroupPoint h payload s
  | .masterClaim h payload => Sys2Proof.Machine.execMasterClaim h payload s
  | .eventFrame h payload => Sys2Proof.Machine.execEventFrame h payload s
  | .peerSilent d late => Sys2Proof.Machine.execPeerSilent d late s
  | .strtRetrain p => Sys2Proof.Machine.execStrtRetrain p s
  | .refLoss => Sys2Proof.Machine.execRefLoss s
  | .refBack ppm => Sys2Proof.Machine.execRefBack ppm s
  | .aonClkLoss => Sys2Proof.Machine.execAonClkLoss s
  | .pllLock k => Sys2Proof.Machine.execPllLock k s
  | .pllUnlock k => Sys2Proof.Machine.execPllUnlock k s
  | .powerOnReset retries => Sys2Proof.Machine.execPowerOnReset retries s
  | .bootImageVerified active other => Sys2Proof.Machine.execBootImageVerified active other s
  | .configurationDone ver kinds => Sys2Proof.Machine.execConfigurationDone ver kinds s
  | .rstKey p key => Sys2Proof.Machine.execRstKey p key s
  | .devRst p => Sys2Proof.Machine.execDevRst p s
  | .quiesceDone refreshed stored => Sys2Proof.Machine.execQuiesceDone refreshed stored s
  | .resetHoldRelease => Sys2Proof.Machine.execResetHoldRelease s
  | .recoverySample first second => Sys2Proof.Machine.execRecoverySample first second s
  | .faultDetect page src kind addr cycle place alt => Sys2Proof.Machine.execFaultDetect page src kind addr cycle place alt s
  | .faultRecord => Sys2Proof.Machine.execFaultRecord s
  | .blockResetDone w late => Sys2Proof.Machine.execBlockResetDone w late s
  | .resetOverrun b => Sys2Proof.Machine.execResetOverrun b s
  | .resetStuck d => Sys2Proof.Machine.execResetStuck d s
  | .resetShadowEnd w us => Sys2Proof.Machine.execResetShadowEnd w us s
  | .tickStall => Sys2Proof.Machine.execTickStall s
  | .glenWdog k cycle => Sys2Proof.Machine.execGlenWdog k cycle s
  | .glenRestartDone k us => Sys2Proof.Machine.execGlenRestartDone k us s
  | .fltPop p => Sys2Proof.Machine.execFltPop p s
  | .fltFirstClr p => Sys2Proof.Machine.execFltFirstClr p s
  | .recEvent b code coincident detail => Sys2Proof.Machine.execRecEvent b code coincident detail s
  | .hoursNote => Sys2Proof.Machine.execHoursNote s
  | .flush p => Sys2Proof.Machine.execFlush p s
  | .flushDone failed => Sys2Proof.Machine.execFlushDone failed s
  | .freeze p on => Sys2Proof.Machine.execFreeze p on s
  | .freezeTimeout => Sys2Proof.Machine.execFreezeTimeout s
  | .recRdSeq p rseq => Sys2Proof.Machine.execRecRdSeq p rseq s
  | .recReadDone p bad early => Sys2Proof.Machine.execRecReadDone p bad early s
  | .atolProgram p => Sys2Proof.Machine.execAtolProgram p s
  | .atolErase p => Sys2Proof.Machine.execAtolErase p s
  | .atolHalt p => Sys2Proof.Machine.execAtolHalt p s
  | .atolContinue p => Sys2Proof.Machine.execAtolContinue p s
  | .atolStatus p => Sys2Proof.Machine.execAtolStatus p s
  | .atolCounts p => Sys2Proof.Machine.execAtolCounts p s
  | .atolFlip p => Sys2Proof.Machine.execAtolFlip p s
  | .atolProtect p lvl => Sys2Proof.Machine.execAtolProtect p lvl s
  | .atolIdle p => Sys2Proof.Machine.execAtolIdle p s
  | .atolWindowData p offset data late => Sys2Proof.Machine.execAtolWindowData p offset data late s
  | .atolWindowRead p offset cbits ue => Sys2Proof.Machine.execAtolWindowRead p offset cbits ue s
  | .atolSeqTimeout p => Sys2Proof.Machine.execAtolSeqTimeout p s
  | .atolProgramDone pulses good => Sys2Proof.Machine.execAtolProgramDone pulses good s
  | .atolEraseDone good => Sys2Proof.Machine.execAtolEraseDone good s
  | .wipeDone => Sys2Proof.Machine.execWipeDone s
  | .pollDue n => Sys2Proof.Machine.execPollDue n s
  | .twlTransactionStart => Sys2Proof.Machine.execTwlTransactionStart s
  | .twlTransactionDone e => Sys2Proof.Machine.execTwlTransactionDone e s
  | .twlTimeout stuck => Sys2Proof.Machine.execTwlTimeout stuck s
  | .busStuckRetry freed => Sys2Proof.Machine.execBusStuckRetry freed s
  | .hostNotify addr status => Sys2Proof.Machine.execHostNotify addr status s
  | .twlNpop p => Sys2Proof.Machine.execTwlNpop p s
  | .locAlert low => Sys2Proof.Machine.execLocAlert low s
  | .araBackoff => Sys2Proof.Machine.execAraBackoff s
  | .twlXcmdGo p => Sys2Proof.Machine.execTwlXcmdGo p s
  | .regWrite count a0 a1 a2 words pecOk => Sys2Proof.Machine.execRegWrite count a0 a1 a2 words pecOk s
  | .regRead count a0 a1 a2 k => Sys2Proof.Machine.execRegRead count a0 a1 a2 k s
  | .reset count bytes pecOk => Sys2Proof.Machine.execReset count bytes pecOk s
  | .sbAra => Sys2Proof.Machine.execSbAra s
  | .sbTimeout => Sys2Proof.Machine.execSbTimeout s
  | .sbProtocolAbandon => Sys2Proof.Machine.execSbProtocolAbandon s
  | .ident tag good => Sys2Proof.Machine.execIdent tag good s
  | .svcFrameShort => Sys2Proof.Machine.execSvcFrameShort s
  | .status tag good => Sys2Proof.Machine.execStatus tag good s
  | .pkgBegin tag good payload => Sys2Proof.Machine.execPkgBegin tag good payload s
  | .updHashDone => Sys2Proof.Machine.execUpdHashDone s
  | .updEraseDone => Sys2Proof.Machine.execUpdEraseDone s
  | .pkgData tag good payload => Sys2Proof.Machine.execPkgData tag good payload s
  | .pkgEnd tag good => Sys2Proof.Machine.execPkgEnd tag good s
  | .updCheckDone => Sys2Proof.Machine.execUpdCheckDone s
  | .activate tag good => Sys2Proof.Machine.execActivate tag good s
  | .abort tag good => Sys2Proof.Machine.execAbort tag good s
  | .rcvBegin tag good payload => Sys2Proof.Machine.execRcvBegin tag good payload s
  | .rcvData tag good payload => Sys2Proof.Machine.execRcvData tag good payload s
  | .rcvEnd tag good => Sys2Proof.Machine.execRcvEnd tag good s
  | .rcvCheckDone => Sys2Proof.Machine.execRcvCheckDone s
  | .protSet tag good payload => Sys2Proof.Machine.execProtSet tag good payload s
  | .ecRead tag good payload => Sys2Proof.Machine.execEcRead tag good payload s
  | .requestTerrace p => Sys2Proof.Machine.execRequestTerrace p s
  | .requestBasin p => Sys2Proof.Machine.execRequestBasin p s
  | .requestRun p => Sys2Proof.Machine.execRequestRun p s
  | .autoTerrace leaves => Sys2Proof.Machine.execAutoTerrace leaves s
  | .l2Entry => Sys2Proof.Machine.execL2Entry s
  | .stopPointReached => Sys2Proof.Machine.execStopPointReached s
  | .domainReady => Sys2Proof.Machine.execDomainReady s
  | .domainTimeout d late => Sys2Proof.Machine.execDomainTimeout d late s
  | .exitDone => Sys2Proof.Machine.execExitDone s
  | .scrubLineDue => Sys2Proof.Machine.execScrubLineDue s
  | .roundLate => Sys2Proof.Machine.execRoundLate s
  | .retentionScanDue restored => Sys2Proof.Machine.execRetentionScanDue restored s
  | .scanLate => Sys2Proof.Machine.execScanLate s
  | .zqDue sc lrank => Sys2Proof.Machine.execZqDue sc lrank s
  | .oscDue sc lrank drift => Sys2Proof.Machine.execOscDue sc lrank drift s
  | .fcalDue c d plane group below present above => Sys2Proof.Machine.execFcalDue c d plane group below present above s
  | .onfiZqDue c => Sys2Proof.Machine.execOnfiZqDue c s
  | .capTestDue => Sys2Proof.Machine.execCapTestDue s
  | .capGo p => Sys2Proof.Machine.execCapGo p s
  | .capMaxExpiry late => Sys2Proof.Machine.execCapMaxExpiry late s
  | .wearHorizonUpdate => Sys2Proof.Machine.execWearHorizonUpdate s
  | .telemetrySample tj mw => Sys2Proof.Machine.execTelemetrySample tj mw s
  | .dscrMpop p => Sys2Proof.Machine.execDscrMpop p s
  | .tapReset => Sys2Proof.Machine.execTapReset s
  | .extest pins shifted => Sys2Proof.Machine.execExtest pins shifted s
  | .sample pins => Sys2Proof.Machine.execSample pins s
  | .preload pins shifted => Sys2Proof.Machine.execPreload pins shifted s
  | .idcode => Sys2Proof.Machine.execIdcode s
  | .clamp => Sys2Proof.Machine.execClamp s
  | .highz => Sys2Proof.Machine.execHighz s
  | .extestPulse pins shifted => Sys2Proof.Machine.execExtestPulse pins shifted s
  | .extestTrain pins shifted => Sys2Proof.Machine.execExtestTrain pins shifted s
  | .sysId => Sys2Proof.Machine.execSysId s
  | .tstReset => Sys2Proof.Machine.execTstReset s
  | .atolRead word cbits ue ready => Sys2Proof.Machine.execAtolRead word cbits ue ready s
  | .atolEc b => Sys2Proof.Machine.execAtolEc b s
  | .bypass code => Sys2Proof.Machine.execBypass code s
  | .portDown port => Sys2Proof.Machine.execPortDown port s
  | .linkRecovery errors down => Sys2Proof.Machine.execLinkRecovery errors down s
  | .l1Entry => Sys2Proof.Machine.execL1Entry s
  | .hotReset => Sys2Proof.Machine.execHotReset s
  | .holdRailReturn => Sys2Proof.Machine.execHoldRailReturn s
  | .shareTimeout => Sys2Proof.Machine.execShareTimeout s
  | .gatedPageRead p addr => Sys2Proof.Machine.execGatedPageRead p addr s
  | .unlistedFrameType h => Sys2Proof.Machine.execUnlistedFrameType h s
  | .badOp tag good => Sys2Proof.Machine.execBadOp tag good s
  | .sbCommandRefused code => Sys2Proof.Machine.execSbCommandRefused code s

end Sys2Proof.Machine
end

