-- ==== Sys2Proof/Machine/Pins.lean ====
section
/-! DEFINITION. The pins: how each group behaves in a reset (R567), how long a low pulse on PFAIL_IN# starts a save (R576),
the supply rails by their codes (R568), and the electrical limits of the package (R529, R530, R532, R565 to R582). The discrete
outputs a run changes are fields of the state; this file says what the reset phases drive and which conditions the limits of R2
hold in. -/

namespace Sys2Proof.Machine

/-- The pin groups of R567. -/
inductive PinGroup where
  | hostTx | hostRx | perst | strait | ddrResetN | ddrOther | onfiSelect | onfiLatch | locBus | sbBus | gpio3 | svcIn | svcDo
  | jtagIn | tdo | pfailIn | saveOut | alive | holdChg | clk25 | holdSense | straps
  deriving DecidableEq, Repr

/-- What a pin does in a reset (R567). -/
inductive PinAct where
  | electricalIdle | receiverOff | ignored | actedOn | low | high | heldHigh | selfRefreshLevels | released | highImpedance
  | sampled | tapActive | hiZOutsideShift | unchanged | asLeft | used | monitored | sampledAtEnd | sampledIfCold
  deriving DecidableEq, Repr

/-- The pin table: the power-on reset, which runs until tp, and the asserted phase of a device reset (R567). -/
def pinAct (powerOn : Bool) : PinGroup → PinAct
  | .hostTx => .electricalIdle
  | .hostRx => .receiverOff
  | .perst => if powerOn then .ignored else .actedOn
  | .strait => if powerOn then .electricalIdle else .asLeft
  | .ddrResetN => if powerOn then .low else .heldHigh
  | .ddrOther => if powerOn then .low else .selfRefreshLevels
  | .onfiSelect => .high
  | .onfiLatch => .low
  | .locBus => .released
  | .sbBus => .released
  | .gpio3 => .highImpedance
  | .svcIn => .sampled
  | .svcDo => .highImpedance
  | .jtagIn => .tapActive
  | .tdo => .hiZOutsideShift
  | .pfailIn => if powerOn then .ignored else .sampled
  | .saveOut => .low
  | .alive => .low
  | .holdChg => if powerOn then .low else .unchanged
  | .clk25 => .used
  | .holdSense => .monitored
  | .straps => if powerOn then .sampledAtEnd else .sampledIfCold

/-- Do the discrete outputs of a state stand at the levels that R567 gives the reset? -/
def State.outputsAtReset (s : State) (powerOn : Bool) : Bool :=
  !s.rst.alive && !s.save.saveActive && !s.save.saveDone && (!powerOn || (!s.save.holdEn && !s.save.chgEn))

/-- Is a flash channel's WP# low: until the channel is trained, in recovery, and in the safe state but for what a save still programs (R407,
R429)? -/
def State.wpAsserted (s : State) (c : Nat) : Bool :=
  !s.flag (FCH_STAT_UP c) || decide (s.rst.phase = .recovery) || (s.flag FLT_SAFE_SAFE && !s.saving)

/-- Is DRAM's RESET_n asserted: off, and through a cold start until training begins (R407)? -/
def State.dramReset (s : State) : Bool :=
  decide (s.rst.phase = .off ∨ (s.get RST_STAT_START = 0 ∧ (s.rst.phase = .booting ∨ s.rst.phase = .verified)))

/-- Are the host lanes in electrical idle: off, in recovery, or with PERST# low (R403, R407)? -/
def State.hostLanesIdle (s : State) : Bool :=
  decide (s.rst.phase = .off ∨ s.rst.phase = .recovery) || s.hlk.perst || s.hlk.fenced

/-- Who drives GPIO3: the owner of resource entry 0 (R49, R567). -/
def State.gpio3Owner (s : State) : Nat := s.get (RES_ENTRY_OWNER 0)

/-- What a low pulse of `ns` nanoseconds on PFAIL_IN# may do: it always starts a save, never does, or may do either
(`none`); the pin is sampled every 40 ns (R576). -/
def State.pfailStarts (s : State) (ns : Nat) : Option Bool :=
  if (s.get SAVE_DETECT_PFAIL_DEB + 1) * 40 ≤ ns then some true
  else if ns ≤ s.get SAVE_DETECT_PFAIL_DEB * 40 then some false
  else none

/-- Nominal voltage and band of a rail in millivolts, by its code; code 0x0C is sensed only (R568). -/
def railBand : Nat → Option (Nat × Nat × Nat)
  | 0x01 => some (750, 728, 773)
  | 0x02 => some (850, 825, 876)
  | 0x03 => some (1200, 1164, 1236)
  | 0x04 => some (1100, 1067, 1133)
  | 0x05 => some (850, 825, 876)
  | 0x06 => some (1200, 1164, 1236)
  | 0x07 => some (850, 825, 876)
  | 0x08 => some (850, 825, 876)
  | 0x09 => some (1200, 1164, 1236)
  | 0x0A => some (800, 760, 840)
  | 0x0B => some (3300, 3135, 3465)
  | _ => none

/-- Balls and maximum power in milliwatts of a rail, by its code (R568). -/
def railLoad : Nat → Option (Nat × Nat)
  | 0x01 => some (96, 3900)
  | 0x02 => some (36, 3200)
  | 0x03 => some (12, 900)
  | 0x04 => some (48, 2600)
  | 0x05 => some (24, 1500)
  | 0x06 => some (32, 1000)
  | 0x07 => some (16, 400)
  | 0x08 => some (6, 300)
  | 0x09 => some (6, 200)
  | 0x0A => some (4, 50)
  | 0x0B => some (4, 150)
  | _ => none

/-- Is a rail with code `code` inside its band at `mv` millivolts (R568)? -/
def inBand (code mv : Nat) : Bool :=
  match railBand code with
  | some (_, low, high) => decide (low ≤ mv ∧ mv ≤ high)
  | none => true

/-- May the module drop its rails at a power-down: once VDD_3V3_HOLD, at `holdMv` millivolts, is below V_CLOSE or SAVE_DONE has
risen (R569, R570)? -/
def State.railsMayFall (s : State) (holdMv : Nat) : Bool := s.save.saveDone || decide (holdMv < 2800 + 10 * s.get SAVE_DETECT_V_CLOSE)

/-- What the isolation cells of a domain that is off drive at its pins (R529). -/
def clampAct : PinGroup → Option PinAct
  | .hostTx => some .electricalIdle
  | .strait => some .electricalIdle
  | .ddrResetN => some .heldHigh
  | .ddrOther => some .selfRefreshLevels
  | .onfiSelect => some .high
  | .onfiLatch => some .low
  | _ => none

/-- Reverse body bias of domain `d` (3 CORE, 4 GLEN) in millivolts in a state of PWR_STAT (R530). -/
def bodyBias (d st : Nat) : Nat :=
  if d = 3 then (if st = 2 then 300 else 0)
  else if d = 4 then (if st = 2 then 300 else if st = 1 ∨ st = 3 then 150 else 0)
  else 0

/-- Does the SRAM of CORE and GLEN stand at its 0.55 V retention supply, with read and write assist off (R530)? -/
def sramRetained (st : Nat) : Bool := decide (st = 2)

/-- The controller's maximum power in milliwatts in a state of PWR_STAT, alone or in a cascade (R14, R532). -/
def maxPower (st : Nat) (cascade : Bool) : Nat :=
  if st = 1 then 6000 else if st = 2 then (if cascade then 180 else 160) else if st = 3 then 11500 else 14200

/-- Ball groups of the package (R566). -/
inductive BallGroup where
  | hostLink | strait | ddr0 | ddr1 | onfi | twoWire | service | jtag | discrete | straps | clockSense | reserved | supplies | ground
  deriving DecidableEq, Repr

/-- Balls of each group, of the 39 × 39 of the array (R565, R566). -/
def ballsOf : BallGroup → Nat
  | .hostLink => 67
  | .strait => 8
  | .ddr0 => 159
  | .ddr1 => 159
  | .onfi => 386
  | .twoWire => 6
  | .service => 4
  | .jtag => 5
  | .discrete => 6
  | .straps => 7
  | .clockSense => 2
  | .reserved => 8
  | .supplies => 284
  | .ground => 420

/-- The letters of the rows of balls, A to BA without I, O, Q, R, S, X and Z (R565): row `r` of 39. -/
def ballRow (r : Nat) : String :=
  let one := "ABCDEFGHJKLMNPTUVWY".toList
  if r < 19 then String.singleton (one.getD r 'A') else if r < 38 then "A" ++ String.singleton (one.getD (r - 19) 'A') else "BA"

/-- The resistors the module fits, in ohms, and whether they pull up (R500, R572). -/
def modulePull : PinGroup → Option (Nat × Bool)
  | .saveOut => some (10000, false)
  | .holdChg => some (10000, false)
  | _ => none

/-- The level a 3.3 V LVCMOS input reads at `mv` millivolts; none between VIL and VIH (R573). -/
def lvcmosReads (mv : Nat) : Option Bool := if mv ≤ 800 then some false else if 2000 ≤ mv then some true else none

/-- The level a two-wire pin reads at `mv` millivolts; none between VIL and VIH (R574). -/
def twoWireReads (mv : Nat) : Option Bool := if mv ≤ 800 then some false else if 1350 ≤ mv then some true else none

/-- Is a Strait AC-coupling capacitor, in nanofarads, within the 100 nF ± 20 % that its receiver needs (R575)? -/
def straitCoupling (nf : Nat) : Bool := decide (80 ≤ nf ∧ nf ≤ 120)

/-- May ALIVE have a period of `us` microseconds: 1.000 ms within 1 % (R577)? -/
def alivePeriodOk (us : Nat) : Bool := decide (990 ≤ us ∧ us ≤ 1010)

/-- The width in nanoseconds of a STRAIT_SYNC_OUT pulse from each local tick, while the Strait owns GPIO3 (R376, R577). -/
def State.syncPulse (s : State) : Option Nat := if s.gpio3Owner = 0x88 then some 10 else none

/-- Does a service-port clock of a period of `ns` nanoseconds, high for `high`, keep the limits of R578? -/
def svcClockOk (ns high : Nat) : Bool := decide (20 ≤ ns ∧ 9 ≤ high ∧ high + 9 ≤ ns)

/-- Does a JTAG clock of a period of `ns` nanoseconds, high for `high`, keep the limits of R579? -/
def tckOk (ns high : Nat) : Bool := decide (40 ≤ ns ∧ 18 ≤ high ∧ high + 18 ≤ ns)

/-- How long the sideband target may stretch SCL, in microseconds: in a REG_READ only (R494, R580). -/
def sclStretch (regRead : Bool) : Nat := if regRead then 50 else 0

/-- The absolute maximum of a rail in millivolts, by its code (R581). -/
def railAbsMax (code : Nat) : Nat :=
  if code = 0x01 ∨ code = 0x0A then 950 else if code = 0x02 ∨ code = 0x05 ∨ code = 0x07 ∨ code = 0x08 then 1000
  else if code = 0x03 ∨ code = 0x04 ∨ code = 0x06 ∨ code = 0x09 then 1400 else 4000

/-- Is a junction temperature, in degrees Celsius, one at which the limits of this manual hold (R582)? -/
def junctionOk (t : Int) : Bool := decide (0 ≤ t ∧ t ≤ 105)

/-- The junction temperature in hundredths of a degree: the air at `air`, `mw` milliwatts, a heat sink of `sink` hundredths of a
degree per watt to the lid, and 0.06 °C/W from the junction to the lid (R582). -/
def junctionTemp (air mw sink : Nat) : Nat := air * 100 + mw * (6 + sink) / 1000

/-- The pin group of a cell of the boundary register (R558). -/
def boundaryGroup (cell : Nat) : Option BallGroup :=
  if cell < 48 then some .hostLink else if cell < 54 then some .strait else if cell < 510 then some .ddr0
  else if cell < 966 then some .ddr1 else if cell < 1862 then some .onfi else if cell < 1912 then some .discrete else none

end Sys2Proof.Machine
end

