-- ==== Sys2Proof/Safety.lean ====
section
/-! DEFINITION. The terms the statements use: the canonical form of the sparse data of a state, the parts a state is made
of, and what a command leaves alone. -/

namespace Sys2Proof.Machine

/-- The canonical form: the registers, the lines of DRAM and the stored configurations are listed by rising key, and no
entry equals what its key reads as unlisted, so that equal contents are equal data. -/
structure State.Canon (s : State) : Prop where
  regs : Sparse.wf resetWord s.regs = true
  dram : Sparse.wf (fun _ => zeroLine) s.dram = true
  cfgStore : Sparse.wf resetWord s.cfgStore = true
  older : ∀ e ∈ s.kept.older, Sparse.wf resetWord e.2 = true

/-- The parts of a state, by the names of its fields. -/
inductive Part where
  | mdl | regs | late | latch | now | freeCtr | dram | cfgStore | kept | leases | mgp | flt | recd | rst | pwr | pers | save
  | arr | farr | mov | rstr | hlk | drc | strt | atol | twl | mbox | svc | tst | dscr | upk | out | pending
  deriving DecidableEq, Repr

/-- The place of a part in a mask. -/
def Part.bit : Part → Nat
  | .mdl => 0
  | .regs => 1
  | .late => 2
  | .latch => 3
  | .now => 4
  | .freeCtr => 5
  | .dram => 6
  | .cfgStore => 7
  | .kept => 8
  | .leases => 9
  | .mgp => 10
  | .flt => 11
  | .recd => 12
  | .rst => 13
  | .pwr => 14
  | .pers => 15
  | .save => 16
  | .arr => 17
  | .farr => 18
  | .mov => 19
  | .rstr => 20
  | .hlk => 21
  | .drc => 22
  | .strt => 23
  | .atol => 24
  | .twl => 25
  | .mbox => 26
  | .svc => 27
  | .tst => 28
  | .dscr => 29
  | .upk => 30
  | .out => 31
  | .pending => 32

/-- `t` has this part of `s`. -/
def Part.same (p : Part) (s t : State) : Prop :=
  match p with
  | .mdl => t.mdl = s.mdl
  | .regs => t.regs = s.regs
  | .late => t.late = s.late
  | .latch => t.latch = s.latch
  | .now => t.now = s.now
  | .freeCtr => t.freeCtr = s.freeCtr
  | .dram => t.dram = s.dram
  | .cfgStore => t.cfgStore = s.cfgStore
  | .kept => t.kept = s.kept
  | .leases => t.leases = s.leases
  | .mgp => t.mgp = s.mgp
  | .flt => t.flt = s.flt
  | .recd => t.recd = s.recd
  | .rst => t.rst = s.rst
  | .pwr => t.pwr = s.pwr
  | .pers => t.pers = s.pers
  | .save => t.save = s.save
  | .arr => t.arr = s.arr
  | .farr => t.farr = s.farr
  | .mov => t.mov = s.mov
  | .rstr => t.rstr = s.rstr
  | .hlk => t.hlk = s.hlk
  | .drc => t.drc = s.drc
  | .strt => t.strt = s.strt
  | .atol => t.atol = s.atol
  | .twl => t.twl = s.twl
  | .mbox => t.mbox = s.mbox
  | .svc => t.svc = s.svc
  | .tst => t.tst = s.tst
  | .dscr => t.dscr = s.dscr
  | .upk => t.upk = s.upk
  | .out => t.out = s.out
  | .pending => t.pending = s.pending

/-- The mask of a list of parts. -/
def partMask (l : List Part) : Nat := l.foldl (fun m p => m ||| 2 ^ p.bit) 0

/-- Going from `s` to `t` touches no part outside the mask `m`, and keeps the canonical form. -/
structure Touches (m : Nat) (s t : State) : Prop where
  frame : ∀ p : Part, m.testBit p.bit = false → p.same s t
  canon : s.Canon → t.Canon

/-- What a fault can touch: its message and record, the interrupt and the event record it raises, and the reaction it calls
for, up to a device reset (R412 to R424). -/
def faultParts : List Part :=
  [.regs, .freeCtr, .dram, .leases, .mgp, .flt, .recd, .rst, .pwr, .pers, .save, .farr, .mov, .rstr, .hlk, .drc, .strt, .atol,
   .twl, .mbox, .svc, .upk, .out]

/-- What a register write of a port can touch: the register, the drop records, what the write brings about at once, and an
access to the window of Atoll (R30 to R37, R458). -/
def busParts : List Part :=
  [.regs, .late, .latch, .freeCtr, .dram, .leases, .mgp, .flt, .recd, .rst, .pwr, .pers, .save, .farr, .mov, .rstr, .hlk, .drc,
   .strt, .atol, .twl, .mbox, .dscr, .upk, .out]

/-- The parts of the state a command can touch; every other part is as before. -/
def footprint : Instr → List Part
  | .passTick _ => faultParts ++ [.late, .now, .cfgStore, .arr, .dscr]
  | .aliveEdge => [.rst]
  | .mastershipTakeover _ => [.regs, .mgp, .flt, .pwr, .pers, .rstr, .strt, .out]
  | .registerWrite _ _ _ _ => busParts
  | .counterLoRead _ _ => faultParts ++ [.latch]
  | .rcRead _ _ => faultParts ++ [.latch]
  | .semClaim _ _ => [.regs, .leases, .out]
  | .semRelease _ _ _ => busParts
  | .semBreak _ _ _ => busParts
  | .semLeaseExpiry _ => [.leases]
  | .shadowArm _ _ => busParts
  | .shadowDiscard _ _ => busParts
  | .softRst _ _ => busParts
  | .clkGate _ _ _ => busParts
  | .pageEn _ _ _ => busParts
  | .intForce _ _ _ => busParts
  | .errForce _ _ _ => busParts
  | .mgpEoi _ _ => busParts
  | .msixHeldSend => [.mgp, .out]
  | .cxlMemWrite _ _ _ _ _ _ => [.regs, .freeCtr, .dram, .mgp, .flt, .pwr, .pers, .rstr, .hlk, .drc, .mbox, .upk, .out]
  | .cxlMemRead _ _ _ => [.regs, .freeCtr, .dram, .mgp, .flt, .pwr, .pers, .rstr, .hlk, .drc, .mbox, .upk, .out]
  | .isletRecordReadDone => [.regs, .freeCtr, .dram, .mgp, .flt, .pwr, .pers, .rstr, .hlk, .drc, .mbox, .upk, .out]
  | .paceAdmit => [.regs, .freeCtr, .dram, .mgp, .flt, .pwr, .pers, .rstr, .hlk, .drc, .mbox, .upk, .out]
  | .holdMaxAdmit => faultParts
  | .budgetCompute _ => [.regs, .mgp, .flt, .pwr, .pers, .save, .strt, .upk, .out]
  | .gaugeStale _ => faultParts
  | .epochClose => [.regs, .freeCtr, .mgp, .flt, .pwr, .pers, .out]
  | .coolingWalkDone => [.regs, .freeCtr, .mgp, .flt, .pwr, .pers, .out]
  | .epochSeal _ _ => faultParts ++ [.arr]
  | .planeClearDone => [.regs, .pers, .strt, .out]
  | .persBarPost _ _ => busParts
  | .persQIslet _ _ => busParts
  | .isletLookupDone => [.regs, .pers]
  | .shadowReadEnd _ => [.regs, .freeCtr, .mgp, .flt, .pwr, .pers, .farr, .mov, .drc, .out]
  | .stripeAgeExpiry _ => [.farr]
  | .sweepRoundDone => [.regs, .pers]
  | .barrierSweepDone => [.regs, .freeCtr, .pers]
  | .pfailInFall => [.save]
  | .pfailDebounceDone => [.regs, .freeCtr, .dram, .mgp, .flt, .recd, .rst, .pwr, .pers, .save, .farr, .mov, .rstr, .hlk, .drc,
      .strt, .atol, .twl, .mbox, .svc, .upk, .out]
  | .pfailGlitch _ => faultParts
  | .pfailInRise => [.save]
  | .holdRailTrip => [.regs, .freeCtr, .dram, .mgp, .flt, .recd, .rst, .pwr, .pers, .save, .farr, .mov, .rstr, .hlk, .drc,
      .strt, .atol, .twl, .mbox, .svc, .upk, .out]
  | .holdRailClose _ => [.regs, .save, .farr, .drc]
  | .saveWritesApplied => [.regs, .freeCtr, .leases, .mgp, .flt, .recd, .pwr, .save, .farr, .hlk, .drc, .out]
  | .saveDataDone => [.save, .farr]
  | .energyCutoff _ => [.regs, .save, .farr, .drc]
  | .saveSealProgrammed => [.save]
  | .saveSealReadback => [.regs, .late, .latch, .freeCtr, .leases, .mgp, .flt, .recd, .rst, .pwr, .pers, .save, .arr, .farr,
      .mov, .rstr, .hlk, .drc, .strt, .atol, .twl, .mbox, .svc, .tst, .dscr, .upk, .out]
  | .saveBasinEntry _ => [.regs, .freeCtr, .leases, .mgp, .flt, .recd, .rst, .pwr, .hlk, .out]
  | .selfTestDone _ => [.regs, .mgp, .flt, .pwr, .out]
  | .powerReturn => [.regs, .late, .latch, .freeCtr, .dram, .leases, .mgp, .flt, .recd, .rst, .pwr, .pers, .save, .farr, .mov,
      .rstr, .hlk, .drc, .strt, .atol, .twl, .mbox, .svc, .dscr, .upk]
  | .powerLoss _ => [.regs, .late, .latch, .freeCtr, .dram, .leases, .mgp, .flt, .recd, .rst, .pwr, .pers, .save, .farr, .mov,
      .rstr, .hlk, .drc, .strt, .atol, .twl, .mbox, .svc, .tst, .dscr, .upk]
  | .railOutOfBand _ => faultParts
  | .dramRailFault => [.regs, .rst]
  | .gpfPhase1 => [.out]
  | .gpfPhase2 => [.save]
  | .gpfPhase2Done => [.save, .out]
  | .dramTrainingDone _ _ _ => faultParts ++ [.cfgStore, .kept]
  | .imageDetectDone _ => faultParts ++ [.kept, .arr]
  | .metadataLoadDone => [.regs, .freeCtr, .dram, .mgp, .flt, .rst, .pwr, .pers, .arr, .farr, .mov, .rstr, .hlk, .drc, .upk,
      .out]
  | .faultInDone _ _ _ _ _ => faultParts
  | .restoreIsletDone _ _ _ => faultParts
  | .warmCheckDone _ => [.regs, .mgp, .flt, .rst, .pwr, .pers, .save, .arr, .farr, .rstr, .hlk, .upk, .out]
  | .cascadeWaitExpiry => faultParts ++ [.kept]
  | .flashOpEnqueue _ _ => [.regs, .farr]
  | .resumeWindowExpiry _ _ => faultParts
  | .flashReadDone _ _ _ _ _ _ _ => faultParts
  | .flashProgramDone _ _ _ _ => faultParts
  | .flashEraseDone _ _ _ => faultParts ++ [.arr]
  | .dieReadyTimeout _ _ _ => faultParts
  | .fchRetrain _ _ => busParts
  | .flashChannelTrained _ _ _ => faultParts
  | .farrQBlock _ _ => busParts
  | .blockLookupDone => [.regs, .farr]
  | .movStart _ _ => busParts
  | .movAbort _ _ => busParts
  | .move _ => [.mov]
  | .spread _ => [.mov]
  | .loop _ => [.regs, .mov]
  | .wait _ => [.regs, .mov]
  | .signal _ _ => [.regs, .mgp, .flt, .pwr, .mov, .strt, .out]
  | .halt _ _ => [.regs, .mgp, .flt, .pwr, .mov, .out]
  | .nop _ => [.regs, .mov]
  | .illegal _ _ => faultParts
  | .pcRange _ _ => [.regs, .freeCtr, .dram, .mgp, .flt, .pwr, .pers, .mov, .drc, .upk, .out]
  | .pmUe _ _ => faultParts
  | .moverTransferDone _ _ _ => faultParts
  | .waitEnd _ => [.regs, .mov]
  | .waitTimeout _ _ => [.regs, .freeCtr, .dram, .mgp, .flt, .pwr, .pers, .mov, .drc, .upk, .out]
  | .pmDataHiWrite _ _ => busParts
  | .pmDataLoRead _ => faultParts ++ [.latch]
  | .pmDataHiRead _ => faultParts ++ [.latch]
  | .collectorDrain _ => [.regs, .mgp, .flt, .pwr, .mov, .out]
  | .mvgCpop _ => busParts
  | .dramReadDone _ _ _ _ => faultParts ++ [.cfgStore, .dscr]
  | .repairWrite _ => [.regs, .freeCtr, .dram, .drc]
  | .refreshDue _ _ _ => [.regs, .freeCtr, .drc, .upk]
  | .mr4Poll _ _ => [.regs]
  | .rankPowerDown _ _ _ => [.regs, .freeCtr, .drc]
  | .rowIdleClose _ => [.drc]
  | .caParityAlert _ => faultParts
  | .caAlertClear _ => [.regs, .freeCtr, .drc, .upk]
  | .inPlaceRetrainDone _ _ => [.regs, .freeCtr, .mgp, .flt, .pwr, .drc, .upk, .out]
  | .dtrnGo _ => busParts
  | .dtrnStop _ => busParts
  | .dtrnDone _ _ => [.regs, .mgp, .flt, .pwr, .drc, .out]
  | .perstAssert => [.regs, .late, .latch, .freeCtr, .dram, .leases, .mgp, .flt, .recd, .rst, .pwr, .pers, .mov, .rstr, .hlk,
      .drc, .mbox, .upk, .out]
  | .perstRelease => [.regs, .flt, .pwr, .hlk]
  | .linkUp _ _ _ => [.regs, .mgp, .flt, .pwr, .hlk, .mbox, .out]
  | .linkDown => [.regs, .freeCtr, .leases, .mgp, .flt, .recd, .pwr, .hlk, .out]
  | .linkFail => faultParts
  | .l1Exit => [.regs, .flt, .pwr, .hlk]
  | .configRequest _ => [.mgp, .out]
  | .creditStall => faultParts
  | .decoderCommit _ _ _ _ _ _ => [.regs, .mgp, .flt, .pwr, .hlk, .out]
  | .memEnable => [.regs, .hlk]
  | .getEventRecords _ => [.freeCtr, .out]
  | .clearEventRecords _ _ _ => [.mbox, .out]
  | .getEventInterruptPolicy => [.out]
  | .setEventInterruptPolicy _ => [.mbox, .out]
  | .getFwInfo => [.freeCtr, .out]
  | .unsupportedCommand => [.out]
  | .getTimestamp => [.out]
  | .setTimestamp _ => [.mbox, .out]
  | .getSupportedLogs => [.out]
  | .getLog _ _ _ => [.out]
  | .identifyMemoryDevice => [.freeCtr, .out]
  | .getHealthInfo => [.freeCtr, .out]
  | .getAlertConfig => [.out]
  | .setAlertConfig _ => [.mbox, .out]
  | .getShutdownState => [.out]
  | .setShutdownState _ => [.kept, .out]
  | .getPoisonList _ _ => [.mbox, .out]
  | .injectPoison _ => [.regs, .freeCtr, .dram, .mgp, .flt, .pwr, .pers, .rstr, .hlk, .drc, .mbox, .upk, .out]
  | .clearPoison _ _ => [.regs, .freeCtr, .dram, .mgp, .flt, .pwr, .pers, .rstr, .hlk, .drc, .mbox, .upk, .out]
  | .sanitize => [.kept, .mbox, .out]
  | .sanitizeDone => faultParts ++ [.kept, .arr]
  | .barrierPost _ => [.regs, .mgp, .flt, .pwr, .pers, .out]
  | .barrierStatus _ => [.out]
  | .budgetQuery => [.out]
  | .imageStatus => [.out]
  | .cascadeStatus => [.out]
  | .formatArray _ _ _ _ => [.kept, .mbox, .out]
  | .formatArrayDone => faultParts ++ [.arr]
  | .keyImportBegin => [.mbox, .out]
  | .keyExport _ _ => [.mbox, .out]
  | .keyImport _ _ _ => [.kept, .mbox, .out]
  | .straitPortTrained _ _ _ => faultParts
  | .censusDone => [.regs, .strt]
  | .masterElection => [.regs, .strt]
  | .straitPeriodicSend _ => [.regs, .strt, .out]
  | .straitFrameBad _ => [.regs, .freeCtr]
  | .heartbeat _ _ => [.regs, .freeCtr, .mgp, .flt, .pwr, .save, .strt, .out]
  | .probe _ _ => [.regs, .freeCtr, .mgp, .flt, .pwr, .save, .strt, .out]
  | .echo _ _ _ => [.regs, .freeCtr, .mgp, .flt, .pwr, .save, .strt, .out]
  | .tickSync _ _ _ _ _ => faultParts
  | .memberInfo _ _ => [.regs, .freeCtr, .mgp, .flt, .pwr, .save, .strt, .out]
  | .share _ _ => [.regs, .freeCtr, .mgp, .flt, .pwr, .pers, .save, .strt, .out]
  | .tailDone _ _ => [.regs, .freeCtr, .mgp, .flt, .pwr, .save, .strt, .out]
  | .closeIssue => [.regs, .mgp, .flt, .pwr, .pers, .strt, .out]
  | .close _ _ => [.regs, .freeCtr, .mgp, .flt, .pwr, .pers, .save, .strt, .out]
  | .sealedFrame _ _ => [.regs, .freeCtr, .mgp, .flt, .pwr, .save, .strt, .out]
  | .groupSealed _ _ => [.regs, .freeCtr, .mgp, .flt, .pwr, .save, .strt, .out]
  | .straitSave _ => [.regs, .freeCtr, .dram, .mgp, .flt, .recd, .rst, .pwr, .pers, .save, .farr, .mov, .rstr, .hlk, .drc,
      .strt, .atol, .twl, .mbox, .svc, .upk, .out]
  | .saveStart _ _ => [.regs, .freeCtr, .mgp, .flt, .pwr, .save, .strt, .out]
  | .saveEnd _ _ => [.regs, .freeCtr, .mgp, .flt, .pwr, .save, .strt, .out]
  | .imageStatusFrame _ _ => faultParts ++ [.kept]
  | .groupPoint _ _ => faultParts ++ [.kept]
  | .masterClaim _ _ => [.regs, .freeCtr, .mgp, .flt, .pwr, .save, .strt, .out]
  | .eventFrame _ _ => [.regs, .freeCtr, .mgp, .flt, .pwr, .save, .mov, .strt, .out]
  | .peerSilent _ _ => [.regs, .freeCtr, .mgp, .flt, .pwr, .save, .out]
  | .strtRetrain _ => busParts
  | .refLoss => faultParts
  | .refBack _ => [.regs, .mgp, .flt, .pwr, .out]
  | .aonClkLoss => faultParts
  | .pllLock _ => [.regs, .freeCtr, .rst, .drc, .upk]
  | .pllUnlock _ => faultParts
  | .powerOnReset _ => faultParts
  | .bootImageVerified _ _ => faultParts
  | .configurationDone _ _ => [.regs, .freeCtr, .cfgStore, .kept, .mgp, .flt, .recd, .rst, .pwr, .save, .hlk, .twl, .out]
  | .rstKey _ _ => busParts
  | .devRst _ => busParts
  | .quiesceDone _ _ => [.regs, .late, .latch, .freeCtr, .dram, .leases, .mgp, .flt, .recd, .rst, .pwr, .pers, .save, .farr,
      .mov, .rstr, .hlk, .drc, .strt, .atol, .twl, .mbox, .svc, .dscr, .upk]
  | .resetHoldRelease => faultParts ++ busParts
  | .recoverySample _ _ => [.regs, .freeCtr, .rst, .save]
  | .faultDetect _ _ _ _ _ _ _ => faultParts
  | .faultRecord => [.regs, .freeCtr, .mgp, .flt, .recd, .pwr, .out]
  | .blockResetDone _ _ => [.regs, .mgp, .flt, .pwr, .hlk, .out]
  | .resetOverrun _ => faultParts
  | .resetStuck _ => faultParts
  | .resetShadowEnd _ _ => faultParts
  | .tickStall => faultParts
  | .glenWdog _ _ => faultParts
  | .glenRestartDone _ _ => [.regs]
  | .fltPop _ => busParts
  | .fltFirstClr _ => busParts
  | .recEvent _ _ _ _ => [.regs, .freeCtr, .mgp, .flt, .recd, .pwr, .out]
  | .hoursNote => [.regs, .freeCtr, .mgp, .flt, .recd, .pwr, .out]
  | .flush _ => busParts
  | .flushDone _ => faultParts
  | .freeze _ _ => busParts
  | .freezeTimeout => [.regs, .freeCtr, .mgp, .flt, .recd, .pwr, .out]
  | .recRdSeq _ _ => busParts
  | .recReadDone _ _ _ => [.regs, .freeCtr, .recd]
  | .atolProgram _ => busParts
  | .atolErase _ => busParts
  | .atolHalt _ => busParts
  | .atolContinue _ => busParts
  | .atolStatus _ => busParts
  | .atolCounts _ => busParts
  | .atolFlip _ => busParts
  | .atolProtect _ _ => busParts
  | .atolIdle _ => busParts
  | .atolWindowData _ _ _ _ => busParts
  | .atolWindowRead _ _ _ _ => faultParts
  | .atolSeqTimeout _ => [.regs, .freeCtr, .atol]
  | .atolProgramDone _ _ => faultParts
  | .atolEraseDone _ => faultParts
  | .wipeDone => [.regs, .late, .latch, .freeCtr, .dram, .cfgStore, .kept, .leases, .mgp, .flt, .recd, .rst, .pwr, .pers, .save,
      .farr, .mov, .rstr, .hlk, .drc, .strt, .atol, .twl, .mbox, .svc, .dscr, .upk]
  | .pollDue _ => [.twl]
  | .twlTransactionStart => [.regs, .twl]
  | .twlTransactionDone _ => faultParts
  | .twlTimeout _ => faultParts
  | .busStuckRetry _ => [.regs]
  | .hostNotify _ _ => [.regs, .freeCtr, .mgp, .flt, .pwr, .twl, .out]
  | .twlNpop _ => busParts
  | .locAlert _ => [.twl]
  | .araBackoff => [.twl]
  | .twlXcmdGo _ => busParts
  | .regWrite _ _ _ _ _ _ => faultParts ++ busParts
  | .regRead _ _ _ _ _ => faultParts ++ [.latch]
  | .reset _ _ _ => faultParts
  | .sbAra => [.out]
  | .sbTimeout => [.regs, .freeCtr]
  | .sbProtocolAbandon => faultParts
  | .ident _ _ => faultParts
  | .svcFrameShort => [.regs, .freeCtr]
  | .status _ _ => faultParts
  | .pkgBegin _ _ _ => faultParts
  | .updHashDone => [.regs, .freeCtr, .mgp, .flt, .recd, .pwr, .atol, .svc, .out]
  | .updEraseDone => [.regs, .svc]
  | .pkgData _ _ _ => faultParts
  | .pkgEnd _ _ => faultParts
  | .updCheckDone => [.regs, .freeCtr, .mgp, .flt, .recd, .pwr, .atol, .svc, .out]
  | .activate _ _ => faultParts
  | .abort _ _ => faultParts
  | .rcvBegin _ _ _ => faultParts
  | .rcvData _ _ _ => faultParts
  | .rcvEnd _ _ => faultParts
  | .rcvCheckDone => [.regs, .freeCtr, .mgp, .flt, .recd, .pwr, .atol, .svc, .out]
  | .protSet _ _ _ => faultParts
  | .ecRead _ _ _ => faultParts
  | .requestTerrace _ => busParts
  | .requestBasin _ => busParts
  | .requestRun _ => busParts
  | .autoTerrace _ => [.regs, .freeCtr, .mgp, .flt, .pwr, .hlk, .out]
  | .l2Entry => [.regs, .freeCtr, .mgp, .flt, .pwr, .hlk, .out]
  | .stopPointReached => [.regs, .flt, .pwr]
  | .domainReady => [.regs, .freeCtr, .leases, .mgp, .flt, .recd, .rst, .pwr, .hlk, .drc, .out]
  | .domainTimeout _ _ => faultParts
  | .exitDone => [.regs, .freeCtr, .mgp, .flt, .recd, .rst, .pwr, .out]
  | .scrubLineDue => [.regs, .freeCtr, .mgp, .flt, .pwr, .drc, .dscr, .out]
  | .roundLate => faultParts ++ [.dscr]
  | .retentionScanDue _ => [.regs, .upk]
  | .scanLate => faultParts
  | .zqDue _ _ => [.regs, .upk]
  | .oscDue _ _ _ => [.regs, .upk]
  | .fcalDue _ _ _ _ _ _ _ => [.regs, .farr, .upk]
  | .onfiZqDue _ => [.upk]
  | .capTestDue => [.regs, .save, .twl, .upk]
  | .capGo _ => busParts
  | .capMaxExpiry _ => faultParts
  | .wearHorizonUpdate => [.regs, .freeCtr, .mgp, .flt, .recd, .pwr, .upk, .out]
  | .telemetrySample _ _ => [.regs, .freeCtr, .upk]
  | .dscrMpop _ => busParts
  | .tapReset => [.regs, .freeCtr, .dram, .mgp, .flt, .rst, .pwr, .save, .farr, .tst, .upk, .out]
  | .extest _ _ => faultParts ++ busParts ++ [.tst]
  | .sample _ => faultParts ++ busParts ++ [.tst]
  | .preload _ _ => faultParts ++ busParts ++ [.tst]
  | .idcode => faultParts ++ busParts ++ [.tst]
  | .clamp => faultParts ++ busParts ++ [.tst]
  | .highz => faultParts ++ busParts ++ [.tst]
  | .extestPulse _ _ => faultParts ++ busParts ++ [.tst]
  | .extestTrain _ _ => faultParts ++ busParts ++ [.tst]
  | .sysId => faultParts ++ busParts ++ [.tst]
  | .tstReset => faultParts ++ busParts ++ [.tst]
  | .atolRead _ _ _ _ => faultParts ++ busParts ++ [.tst]
  | .atolEc _ => faultParts ++ busParts ++ [.tst]
  | .bypass _ => faultParts ++ busParts ++ [.tst]
  | .portDown _ => faultParts
  | .linkRecovery _ _ => faultParts
  | .l1Entry => [.regs, .pwr, .hlk]
  | .hotReset => [.regs, .freeCtr, .leases, .mgp, .flt, .recd, .pwr, .pers, .rstr, .hlk, .out]
  | .holdRailReturn => [.save]
  | .shareTimeout => [.save]
  | .gatedPageRead _ _ => faultParts ++ [.latch]
  | .unlistedFrameType _ => [.regs, .freeCtr]
  | .badOp _ _ => faultParts
  | .sbCommandRefused _ => [.regs, .freeCtr]

/-- The tables of waiting work within their sizes: 256 writes in the budget hold queue (R343), 512 requests in the held-request
table (R171), 16 open barriers (R91) and 64 kept posts (R355). -/
structure State.Fits (s : State) : Prop where
  hold : s.pers.hold.length ≤ 256
  held : s.rstr.heldTable.length ≤ 512
  barriers : s.pers.barriers.length ≤ 16
  posts : s.pers.posts.length ≤ 64

/-- Byte `k` of a line of DRAM. -/
def lineByte (d : LineData) (k : Nat) : BitVec 8 := d.extractLsb' (8 * k) 8

/-- The state after a full write of register `a` by port `p` is stored and counted, where R30 to R37 let it land; `none`
where the port cannot reach the bus, or the write is dropped. What the write brings about follows. -/
def State.accepted (s : State) (p : Port) (a : Nat) (data : Word) : Option State :=
  if s.portOpen p && implemented (a / 0x1000) && !s.gated (a / 0x1000) then
    match regRow a with
    | none => none
    | some r =>
      if (needsSem a r && !s.holdsSem p (a / 0x1000)) || notOwned p a r
          || (decide (a = 0x2040) && bitOf data.toNat 0 && !s.keyed p) then none
      else some ((s.storeFields p a r data).countWrite (a / 0x1000))
  else none

/-- Is a CXL.mem request to `line` through decoder `n` disposed of as it arrives: received, behind no request to its line,
its islet restored, and, for a write, not one whose islet record is read first (R82, R170, R343)? -/
def State.servesAtOnce (s : State) (n line : Nat) (write : Bool) : Bool :=
  s.receives n line write && !s.hlk.buf.any (fun q => decide (q.line = line)) && s.isRestored (line / 1024)
    && !s.lineHeld line && (!write || !(s.holding && s.active && !s.collects (line / 1024)))

/-- Does the controller take a frame with this header and act on it: STRT runs, the frame came over a trained port from
another device with hops left, it has not been taken before, and it is for this device (R369 to R371)? -/
def State.takesFrame (s : State) (h : FrameHdr) : Bool :=
  s.strtRuns && decide (h.port < 2) && s.flag (portOk h.port) && decide (h.hops < 7 ∧ h.src ≠ s.devNo ∧ h.src < 8)
    && !s.frameSeen h && decide (h.dst = none ∨ h.dst = some s.devNo)

/-- The state in which a frame that is taken acts: noted, passed on with `relay` as its payload, and counted. -/
def State.frameTaken (s : State) (h : FrameHdr) (typ : Nat) (relay : List (BitVec 8)) : State :=
  ((s.noteFrame h).forwardFrame h typ relay).bump64 STRT_RX_LO_COUNT

end Sys2Proof.Machine
end

