-- ==== Sys2Proof/Certificates/Slice0/Obligations.lean ====
section
/-! DEFINITION. The statements about the machine: one proposition each. A statement whose text says that it is the
model's choice names the entry of the assumption log; no clause assumes a run from reset. -/

open Sys2Proof Sys2Proof.Machine

/-- For every command and state, a step with the command at the front of the queue is exec of that command on the state
with the queue's rest. -/
def Obligations.StepTakesFront : Prop :=
  ∀ (c : Instr) (l : List Instr) (s : State), Machine.step { s with pending := c :: l } = Machine.exec c { s with pending := l }

/-- With no command waiting a step answers the same state. This is the choice of the model (assumption log 2): time passes
by PASS_TICK alone. -/
def Obligations.StepIdles : Prop := ∀ s : State, s.pending = [] → Machine.step s = .next s

/-- At reset the controller is held in power-on reset, every register reads its reset value (the values the register
tables give; where they give none the model's, assumption log 5), no memory is active, the link is down, no semaphore
is held, no barrier is open, nothing is held back, no save runs and no command waits; and the state is in canonical
form with its tables within their sizes. -/
def Obligations.ResetMachine : Prop :=
  State.reset.rst.phase = .off ∧ (∀ k, State.reset.word k = resetWord k) ∧ State.reset.flag RSTR_STAT_MEM_ACTIVE = false ∧
  State.reset.hlk.linkUp = false ∧ (∀ n, n < 64 → State.reset.get (semHolder n) = 0) ∧ State.reset.pers.barriers = [] ∧
  State.reset.pers.hold = [] ∧ State.reset.rstr.heldTable = [] ∧ State.reset.saving = false ∧ State.reset.pending = [] ∧
  State.reset.Canon ∧ State.reset.Fits

/-- From every state in canonical form (registers, DRAM lines and stored configurations listed by rising key, no entry
equal to what its key reads as unlisted), a step that answers a next state answers one in canonical form, so that
equal contents stay equal data. -/
def Obligations.StepKeepsCanon : Prop := ∀ s t : State, s.Canon → Machine.step s = .next t → t.Canon

/-- From every state in which the budget hold queue holds at most 256 writes, the held-request table at most 512 requests,
at most 16 barriers are open and at most 64 posts are kept, a step that answers a next state answers one of which the
same holds. -/
def Obligations.StepKeepsTables : Prop := ∀ s t : State, s.Fits → Machine.step s = .next t → t.Fits

/-- Where exec of a command answers a next state, every part of the state outside the command's footprint is as before:
the registers, DRAM (every line of it), the stored configuration, the save array's record, what Atoll keeps, the
semaphore leases, the clock, and the state of each block. The footprint of each command is listed in Safety.lean. -/
def Obligations.Footprints : Prop :=
  ∀ (c : Instr) (s t : State), Machine.exec c s = .next t → ∀ p : Part, p ∉ footprint c → p.same s t

/-- Only the seal of an epoch, the seal of a save, a formatted or sanitized array, a detected or loaded image, a warm
start, the erase of a block and the pass change the record of the save array; only the pass advances the clock, by one
pass; nothing changes the module or the queue. -/
def Obligations.LastingState : Prop :=
  ∀ (c : Instr) (s t : State), Machine.exec c s = .next t →
    t.mdl = s.mdl ∧ t.pending = s.pending ∧
    (t.now = s.now ∨ ∃ w, c = .passTick w ∧ t.now = s.now + 1) ∧
    (t.arr = s.arr ∨ (∃ w, c = .passTick w) ∨ (∃ b k, c = .epochSeal b k) ∨ c = .saveSealReadback ∨
      c = .formatArrayDone ∨ c = .sanitizeDone ∨ (∃ f, c = .imageDetectDone f) ∨ c = .metadataLoadDone ∨
      (∃ g, c = .warmCheckDone g) ∨ ∃ k d e, c = .flashEraseDone k d e)

/-- A step on a queue that begins with a command leaves the rest of the queue, leaves the module as it is, and advances
the clock by one pass exactly when the command is PASS_TICK. -/
def Obligations.StepConsumesOne : Prop :=
  ∀ (c : Instr) (l : List Instr) (s t : State), s.pending = c :: l → Machine.step s = .next t →
    t.pending = l ∧ t.mdl = s.mdl ∧ ((∃ w, c = .passTick w) ∧ t.now = s.now + 1 ∨ (¬ ∃ w, c = .passTick w) ∧ t.now = s.now)

/-- Every command answers a next state in every state, but a CXL.mem request to a line outside the host-visible memory,
which no decoder produces: it faults. -/
def Obligations.StopsOnlyOutsideMemory : Prop :=
  ∀ (c : Instr) (s : State), (∃ t, Machine.exec c s = .next t) ∨
    (Machine.exec c s = .fault .lineOutsideMemory ∧
      ((∃ n line tag data be poison, c = .cxlMemWrite n line tag data be poison ∧ s.mdl.hostLines ≤ line) ∨
       (∃ n line tag, c = .cxlMemRead n line tag ∧ s.mdl.hostLines ≤ line)))

/-- A CXL.mem write that nothing holds up stores, byte by byte, the bytes it enables into its line and keeps the others;
the line reads as poison where the write carries poison, or where a partial write merges into a line that reads as
poison or uncorrectable; it is correctable after; every other line of DRAM is as before. -/
def Obligations.CxlWriteMemory : Prop :=
  ∀ (s : State) (n line tag : Nat) (data : LineData) (be : BitVec 64) (poison : Bool), s.Canon →
    line < s.mdl.hostLines → s.servesAtOnce n line true = true →
    ∃ t, Machine.exec (.cxlMemWrite n line tag data be poison) s = .next t ∧
      (∀ l, l ≠ line → t.dramLine l = s.dramLine l) ∧
      (∀ k, k < 64 → lineByte (t.dramLine line).data k =
        if be.getLsbD k then lineByte data k else lineByte (s.dramLine line).data k) ∧
      (t.dramLine line).ue = false ∧
      (t.dramLine line).poison =
        (poison || (decide (be ≠ BitVec.allOnes 64) && ((s.dramLine line).poison || (s.dramLine line).ue)))

/-- A CXL.mem read that nothing holds up, while the link gives answers, answers the data its line holds, with poison where
the line is poisoned or uncorrectable, and leaves every line of DRAM as it was. -/
def Obligations.CxlReadMemory : Prop :=
  ∀ (s : State) (n line tag : Nat), line < s.mdl.hostLines → s.servesAtOnce n line false = true → s.answering = true →
    ∃ t, Machine.exec (.cxlMemRead n line tag) s = .next t ∧ (∀ l, t.dramLine l = s.dramLine l) ∧
      .memData tag (s.dramLine line).data ((s.dramLine line).poison || (s.dramLine line).ue) ∈ t.out

/-- After a CXL.mem write of a whole line that nothing holds up, a CXL.mem read of the line that nothing holds up answers
the data written, poisoned exactly where the write was. -/
def Obligations.CxlReadReturnsWrite : Prop :=
  ∀ (s : State) (n line tag : Nat) (data : LineData) (poison : Bool), s.Canon →
    line < s.mdl.hostLines → s.servesAtOnce n line true = true →
    ∃ t, Machine.exec (.cxlMemWrite n line tag data (BitVec.allOnes 64) poison) s = .next t ∧
      ∀ m tag' : Nat, t.servesAtOnce m line false = true → t.answering = true →
        ∃ u, Machine.exec (.cxlMemRead m line tag') t = .next u ∧ .memData tag' data poison ∈ u.out

/-- Where a page accepts a full write of a register, only the register written (its shadow or the copy of the writer,
where it has one) and PAGE_SEQ of the page change among the registers, PAGE_SEQ by one; in the register a field of
code RW or RW/S takes the bits written, moved to the nearest value its limits allow; a W1C field loses the bits
written as 1; every other field keeps its value. -/
def Obligations.StoredFields : Prop :=
  ∀ (s u : State) (p : Port) (a : Nat) (d : Word) (r : Row), s.Canon → s.accepted p a d = some u → regRow a = some r →
    (∀ k, k ≠ writeKey p a r → k ≠ (PAGE_SEQ_COUNT (a / 0x1000)).addr → u.word k = s.word k) ∧
    u.get (PAGE_SEQ_COUNT (a / 0x1000)) = (s.get (PAGE_SEQ_COUNT (a / 0x1000)) + 1) % 2 ^ 32 ∧
    (writeKey p a r ≠ (PAGE_SEQ_COUNT (a / 0x1000)).addr → ∀ f ∈ r.flds,
      (f.acc = .rw ∨ f.acc = .rws → u.get ⟨writeKey p a r, f.lo, f.w⟩ =
        s.adjusted a f.lo (f.limit (getBits d f.lo f.w)) d % 2 ^ f.w) ∧
      (f.acc = .w1c → ∀ i, i < f.w → (u.word (writeKey p a r)).getLsbD (f.lo + i) =
        ((s.word (writeKey p a r)).getLsbD (f.lo + i) && !d.getLsbD (f.lo + i))) ∧
      (f.acc = .ro ∨ f.acc = .wo ∨ f.acc = .w1s ∨ f.acc = .rc →
        u.get ⟨writeKey p a r, f.lo, f.w⟩ = s.get ⟨writeKey p a r, f.lo, f.w⟩))

/-- A claim of a free semaphore by a port that reaches the bus grants it: the holder field then reads 0b01 for the host
port, 0b10 for the sideband port and 0b11 for Glen firmware. -/
def Obligations.SemOwnerCodes : Prop :=
  ∀ (s : State) (n : Nat) (p : Port), s.Canon → n < 64 → s.portOpen p = true → s.get (semHolder n) = 0 →
    ∃ t, Machine.exec (.semClaim n [p]) s = .next t ∧
      (p = .host → t.get (semHolder n) = 0b01) ∧ (p = .sideband → t.get (semHolder n) = 0b10) ∧
      (p = .glen → t.get (semHolder n) = 0b11)

/-- A full write with bit 31 at 0 to SEM_CLAIMn frees the semaphore where the writer holds it and writes its own owner
code, and is otherwise dropped with cause 0x4, leaving every semaphore as it was. -/
def Obligations.SemReleaseRule : Prop :=
  ∀ (s : State) (n : Nat) (p : Port) (d : Word), s.Canon → n < 64 → s.portOpen p = true → d.getLsbD 31 = false →
    ∃ t, Machine.exec (.registerWrite p (0x4100 + 4 * n) 15 d) s = .next t ∧
      (getBits d 0 2 = portCode p ∧ s.get (semHolder n) = portCode p → t.get (semHolder n) = 0 ∧
        ∀ m, m < 64 → m ≠ n → t.get (semHolder m) = s.get (semHolder m)) ∧
      (¬ (getBits d 0 2 = portCode p ∧ s.get (semHolder n) = portCode p) → t = s.noteDrop p (0x4100 + 4 * n) 4 ∧
        ∀ m, m < 64 → t.get (semHolder m) = s.get (semHolder m))

/-- The controller implements 171 pages of the 256 slots of 4 KiB. In every other slot header word 0 reads 0xFF00_0000,
every other offset reads 0, and a write has no effect. -/
def Obligations.UnlistedPages : Prop :=
  ((List.range 256).filter implemented).length = 171 ∧
  ∀ (s : State) (p : Port) (a : Nat), a < 0x100000 → implemented (a / 0x1000) = false →
    (∀ (m : Nat) (d : Word), Machine.exec (.registerWrite p a m d) s = .next s) ∧
    (s.portOpen p = true →
      Machine.exec (.rcRead p a) s = .next (s.send (.regData p (a / 4 * 4) (if a / 4 * 4 % 0x1000 = 0 then 0xFF000000 else 0))) ∧
      Machine.exec (.counterLoRead p a) s = Machine.exec (.rcRead p a) s ∧
      Machine.exec (.gatedPageRead p a) s = Machine.exec (.rcRead p a) s)

/-- A write that does not cover all four bytes of a word of an implemented page that is on is dropped and flagged with
cause 3; a read at any byte of a word is the read of the word, side effects included. -/
def Obligations.PartialAccess : Prop :=
  (∀ (s : State) (p : Port) (a m : Nat) (d : Word), a < 0x100000 → s.portOpen p = true → m < 15 →
    implemented (a / 0x1000) = true → s.gated (a / 0x1000) = false →
    Machine.exec (.registerWrite p a m d) s = .next (s.noteDrop p (a / 4 * 4) 3)) ∧
  ∀ (s : State) (p : Port) (a : Nat), a < 0x100000 →
    Machine.exec (.rcRead p a) s = Machine.exec (.rcRead p (a / 4 * 4)) s ∧
    Machine.exec (.counterLoRead p a) s = Machine.exec (.counterLoRead p (a / 4 * 4)) s ∧
    Machine.exec (.gatedPageRead p a) s = Machine.exec (.gatedPageRead p (a / 4 * 4)) s

/-- A low pulse on PFAIL_IN# that ends before the debounce completes starts no save: it is counted in SAVE_GLITCH, and
PFAIL_GLITCH, an ADVISORY fault of page 0x29, is raised. -/
def Obligations.GlitchStartsNothing : Prop :=
  (faultSources 0x29).getD 2 9 = 0 ∧
  ∀ (s : State) (n : Nat), s.save.pfailLow = true →
    ∃ u : State, Machine.exec (.pfailGlitch n) s = .next ((u.raiseInt 0x29 1).raiseFault 0x29 2 9 (n % 256 * 256)) ∧
      u = ((s.setSave { s.save with pfailLow := false }).goodNow).bumpSat SAVE_GLITCH_COUNT ∧
      u.save.run = s.save.run ∧ u.save.ended = s.save.ended ∧ u.save.holdEn = s.save.holdEn

/-- A post that reaches PERS_BAR_POST is refused while persistence is not active (ACTIVE at 0, or from t0 of a save until
the next start), else when BARRIER_EN is 0, else when 16 barriers are open, and in no other case; a refused post sets
REFUSED, raises BAR_REFUSED and uses no sequence number; where at most 16 barriers were open at most 16 are. -/
def Obligations.BarrierRefusals : Prop :=
  ∀ (s u : State) (p : Port) (tag : Word), s.accepted p 0x22040 tag = some u →
    let inactive := s.active = false ∨ s.saving = true ∨ s.save.ended = true ∨ s.save.failed = true
    let refused := inactive ∨ s.cfgOn PERS_CTRL_BARRIER_EN = false ∨ 16 ≤ s.pers.barriers.length
    (inactive → u.barRefusal = some 7) ∧
    (¬ inactive → s.cfgOn PERS_CTRL_BARRIER_EN = false → u.barRefusal = some 3) ∧
    (¬ inactive → s.cfgOn PERS_CTRL_BARRIER_EN = true → 16 ≤ s.pers.barriers.length → u.barRefusal = some 6) ∧
    ∃ t, Machine.exec (.persBarPost p tag) s = .next t ∧
      (refused → t = ((u.put PERS_BAR_STAT_REFUSED 1).raiseInt 0x22 1).refreshArmed ∧ t.pers = s.pers) ∧
      (¬ refused → t.pers.barriers.length = s.pers.barriers.length + 1 ∧ t.pers.nextSeq = nextBarSeq s.pers.nextSeq) ∧
      (s.pers.barriers.length ≤ 16 → t.pers.barriers.length ≤ 16)

/-- The opcode table gives its rows no bits: the decoder answers none for every word, and placing a word changes nothing. -/
def Obligations.NoWordSpellsACommand : Prop :=
  ∀ (s : State) (nbits w : Nat), decodeTableWord nbits w = none ∧ s.withFetchWord nbits w = s

/-- Over the 16 x 16 cells of a stripe: cell (c, c) holds parity, and for every stripe column j below 15 and every column
k below 16 exactly one slot of column k holds codeword k of the islet in stripe column j. -/
def Obligations.StripePlacement : Prop :=
  (∀ c, c < 16 → cellAt c c = .parity) ∧
  (∀ j k c, j < 15 → k < 16 → c < 16 → (cellAt c k = .codeword j k ↔ c = stripeSlot j k)) ∧
  (∀ j k, j < 15 → k < 16 → stripeSlot j k < 16 ∧ stripeSlot j k ≠ k)

/-- When the parity cell of slot c holds, at a byte offset, the XOR of the bytes of the 15 other cells, the byte of any
one lost cell of the slot, the parity cell included, is the XOR of the bytes of the other 15. -/
def Obligations.ParityRebuild : Prop :=
  ∀ (cell : Nat → BitVec 8) (c lost : Nat), c < 16 → lost < 16 → cell c = parityByte cell c →
    rebuildByte cell lost = cell lost

/-- For any 1,032 information columns, the codeword that the running accumulation makes of them meets all 32 checks of
each of the 115 base rows; information column j meets the four rows (j + 29t) mod 115, which differ; and the
information columns of the codeword are those given. -/
def Obligations.LdpcEncodes : Prop :=
  (∀ (info : Nat → BitVec 32) (r : Nat), r < 115 → ldpcCheck (ldpcEncode info) r = 0) ∧
  (∀ (info : Nat → BitVec 32) (j : Nat), j < 1032 → ldpcEncode info j = info j) ∧
  (∀ j t u, t < 4 → u < 4 → ldpcRow j t = ldpcRow j u → t = u)

/-- Journal position p lies in one row, slot and pair of columns q and q + 8; two positions with the same row, slot and
first column are the same position; slots are below 16, first columns below 8 and mirror columns from 8 to 15. -/
def Obligations.JournalPlaces : Prop :=
  (∀ p q, (journalPlace p).1 = (journalPlace q).1 → (journalPlace p).2.1 = (journalPlace q).2.1 →
    (journalPlace p).2.2.1 = (journalPlace q).2.2.1 → p = q) ∧
  (∀ p, (journalPlace p).2.1 < 16 ∧ (journalPlace p).2.2.1 < 8 ∧
    (journalPlace p).2.2.2 = (journalPlace p).2.2.1 + 8)

/-- PASS_TICK advances the clock by one microsecond, does the work of a pass exactly when the fabric runs, and then counts
time; ALIVE_EDGE toggles ALIVE while the controller runs normally and is without effect otherwise. It states the next
state of: PASS_TICK, ALIVE_EDGE. -/
def Obligations.PassTick : Prop :=
  (∀ (s : State) (w : TickWork), { s with now := s.now + 1 }.ticks = false →
      Machine.exec (.passTick w) s = .next ({ s with now := s.now + 1 }.countTime)) ∧
  (∀ (s : State) (w : TickWork), { s with now := s.now + 1 }.ticks = true →
      Machine.exec (.passTick w) s = .next (({ s with now := s.now + 1 }.passWork w).countTime)) ∧
  (∀ (s : State) (w : TickWork),
      ∃ t, Machine.exec (.passTick w) s = .next t ∧ t.now = s.now + 1 ∧ t.pending = s.pending ∧ t.mdl = s.mdl) ∧
  (∀ (s : State), s.rst.aliveRun = true → Machine.exec .aliveEdge s = .next (s.setRst { s.rst with alive := !s.rst.alive })) ∧
  (∀ (s : State), s.rst.aliveRun = false → Machine.exec .aliveEdge s = .next s)

/-- A full write that its page accepts is stored, counted in PAGE_SEQ and followed by what it brings about; a partial
write, a write without the page semaphore, and a write to a page that is gated or off leave every register of the page
alone and are recorded as dropped; a write to a page that is not implemented or by a port that cannot reach the bus
has no effect. It states the next state of: REGISTER_WRITE. -/
def Obligations.RegisterWrite : Prop :=
  (∀ (s : State) (p : Port) (a : Nat) (d : Word) (u : State), s.accepted p a d = some u → a < 0x100000 → a % 4 = 0 →
      a / 0x1000 ≠ 0x80 ∨ a % 0x1000 < 0x40 → a / 0x100 ≠ 0x41 → a / 0x1000 ≠ 0xB4 ∨ a % 0x1000 < 0x40 →
      Machine.exec (.registerWrite p a 15 d) s = .next ((u.written s p a d).refreshArmed)) ∧
  (∀ (s : State) (p : Port) (a m : Nat) (d : Word), s.portOpen p = true → m % 16 ≠ 15 →
      implemented (a % 0x100000 / 4 * 4 / 0x1000) = true → s.gated (a % 0x100000 / 4 * 4 / 0x1000) = false →
      Machine.exec (.registerWrite p a m d) s = .next (s.noteDrop p (a % 0x100000 / 4 * 4) 3)) ∧
  (∀ (s : State) (p : Port) (a : Nat) (d : Word) (r : Row), s.portOpen p = true → a < 0x100000 → a % 4 = 0 →
      implemented (a / 0x1000) = true → s.gated (a / 0x1000) = false → a / 0x1000 ≠ 0x80 ∨ a % 0x1000 < 0x40 →
      a / 0x100 ≠ 0x41 → regRow a = some r → needsSem a r = true → s.holdsSem p (a / 0x1000) = false →
      Machine.exec (.registerWrite p a 15 d) s = .next (s.noteDrop p a 1)) ∧
  (∀ (s : State) (p : Port) (a m : Nat) (d : Word), s.portOpen p = true → implemented (a % 0x100000 / 4 * 4 / 0x1000) = true →
      s.gated (a % 0x100000 / 4 * 4 / 0x1000) = true →
      Machine.exec (.registerWrite p a m d) s = .next ((s.noteOff p (a % 0x100000 / 4 * 4) true).noteDrop p (a % 0x100000 / 4 *
        4) 2)) ∧
  (∀ (s : State) (p : Port) (a m : Nat) (d : Word),
      s.portOpen p = false ∨ implemented (a % 0x100000 / 4 * 4 / 0x1000) = false →
      Machine.exec (.registerWrite p a m d) s = .next s)

/-- SHADOW_ARM and SHADOW_DISCARD write SHADOW_CTRL, SOFT_RST, CLK_GATE and PAGE_EN write PAGE_CTRL, INT_FORCE sets the
INT_STAT bits that are 1 in its data, and ERR_FORCE arms injection: each is the accepted write of its register, and
what the register brings about follows in the same cycle. It states the next state of: SHADOW_ARM, SHADOW_DISCARD,
SOFT_RST, CLK_GATE, PAGE_EN, INT_FORCE, ERR_FORCE, MGP_EOI, MSIX_HELD_SEND. -/
def Obligations.PageCommands : Prop :=
  (∀ (s : State) (p : Port) (page : Nat) (u : State),
      s.accepted p (page % 256 * 0x1000 + 0x02C) (putBits (s.peek p (page % 256 * 0x1000 + 0x02C)) 0 1 1) = some u →
      bitOf (putBits (s.peek p (page % 256 * 0x1000 + 0x02C)) 0 1 1).toNat 1 = false →
      Machine.exec (.shadowArm p page) s = .next u.refreshArmed) ∧
  (∀ (s : State) (p : Port) (page : Nat) (u : State),
      s.accepted p (page % 256 * 0x1000 + 0x02C) (putBits (s.peek p (page % 256 * 0x1000 + 0x02C)) 1 1 1) = some u →
      bitOf (putBits (s.peek p (page % 256 * 0x1000 + 0x02C)) 1 1 1).toNat 1 = true →
      Machine.exec (.shadowDiscard p page) s = .next ((u.discardShadows (page % 256)).refreshArmed)) ∧
  (∀ (s : State) (p : Port) (page : Nat) (u : State),
      s.accepted p (page % 256 * 0x1000 + 0x008) (putBits (s.peek p (page % 256 * 0x1000 + 0x008)) 2 1 1) = some u →
      Machine.exec (.softRst p page) s = .next ((u.pageCtrlWritten s (page % 256) (putBits (s.peek p (page % 256 * 0x1000 +
        0x008)) 2 1 1)).refreshArmed)) ∧
  (∀ (s : State) (p : Port) (page : Nat) (on : Bool) (u : State),
      s.accepted p (page % 256 * 0x1000 + 0x008) (putBits (s.peek p (page % 256 * 0x1000 + 0x008)) 1 1 (b2n on)) = some u →
      Machine.exec (.clkGate p page on) s = .next ((u.pageCtrlWritten s (page % 256) (putBits (s.peek p (page % 256 * 0x1000 +
        0x008)) 1 1 (b2n on))).refreshArmed)) ∧
  (∀ (s : State) (p : Port) (page : Nat) (on : Bool) (u : State),
      s.accepted p (page % 256 * 0x1000 + 0x008) (putBits (s.peek p (page % 256 * 0x1000 + 0x008)) 0 1 (b2n on)) = some u →
      Machine.exec (.pageEn p page on) s = .next ((u.pageCtrlWritten s (page % 256) (putBits (s.peek p (page % 256 * 0x1000 +
        0x008)) 0 1 (b2n on))).refreshArmed)) ∧
  (∀ (s : State) (p : Port) (page : Nat) (d : Word) (u : State), s.accepted p (page % 256 * 0x1000 + 0x018) d = some u →
      Machine.exec (.intForce p page d) s = .next ((u.raiseMask (page % 256) d.toNat).refreshArmed)) ∧
  (∀ (s : State) (p : Port) (page : Nat) (d : Word) (u : State), s.accepted p (page % 256 * 0x1000 + 0x01C) d = some u →
      Machine.exec (.errForce p page d) s = .next u.refreshArmed) ∧
  (∀ (s : State) (p : Port) (v : Nat) (u : State), v < 32 → s.accepted p 0xB080 (BitVec.ofNat 32 v) = some u →
      u.vectors.contains v = true → u.mgp.held.contains v = false →
      Machine.exec (.mgpEoi p v) s = .next ((u.vectorUp v).refreshArmed)) ∧
  (∀ (s : State),
      ∃ t, Machine.exec .msixHeldSend s = .next t ∧ (∀ v, v ∈ t.mgp.held ↔ v ∈ s.mgp.held ∧ s.canSend v = false) ∧ (∀ v ∈
        s.mgp.held, s.canSend v = true → v ∈ s.vectors → .msix v ∈ t.out))

/-- A claim of a free semaphore, or by its holder, grants it and starts the lease, any other claim changes nothing, and
the answer is the holder; of two ports that claim a free semaphore in one cycle the one that lost the last tie is
granted it, the record of the tie changes, and the lease starts; the holder frees it with its own code, and any other
such write is dropped; another port breaks it once its lease has run out, which is counted and recorded, and not
before; the lease of a held semaphore runs out when its time has passed. Which port counts as the one that lost the
last tie is read as assumption log 21 says, the fields of the event of a break are the model's choice (log 66), and
that an expiry arrives as a command is log 4. It states the next state of: SEM_CLAIM, SEM_RELEASE, SEM_BREAK,
SEM_LEASE_EXPIRY. -/
def Obligations.Semaphores : Prop :=
  (∀ (s : State) (n : Nat) (p : Port), n < 64 → s.portOpen p = true →
      s.get (semHolder n) = 0 ∨ s.get (semHolder n) = portCode p →
      Machine.exec (.semClaim n [p]) s = .next ((s.grantSem n p).send (.regData p (0x4100 + 4 * n) (BitVec.ofNat 32 ((s.grantSem
        n p).get (semHolder n)))))) ∧
  (∀ (s : State) (n : Nat) (p : Port), n < 64 → s.portOpen p = true → s.get (semHolder n) ≠ 0 →
      s.get (semHolder n) ≠ portCode p →
      Machine.exec (.semClaim n [p]) s = .next (s.send (.regData p (0x4100 + 4 * n) (BitVec.ofNat 32 (s.get (semHolder n)))))) ∧
  (∀ (s : State) (n : Nat) (t : State), n < 64 → s.portOpen .host = true → s.portOpen .sideband = true →
      s.get (semHolder n) = 0 →
      t = (if s.flag (semTie n) then (s.put (semTie n) 0).grantSem n .host else (s.put (semTie n) 1).grantSem n .sideband) →
      Machine.exec (.semClaim n [.host, .sideband]) s = .next ((t.send (.regData .host (0x4100 + 4 * n) (BitVec.ofNat 32 (t.get
        (semHolder n))))).send (.regData .sideband (0x4100 + 4 * n) (BitVec.ofNat 32 (t.get (semHolder n)))))) ∧
  (∀ (s : State) (p : Port) (n o : Nat), s.portOpen p = true → o % 4 = portCode p → s.get (semHolder (n % 64)) = portCode p →
      portCode p ≠ 0 → Machine.exec (.semRelease p n o) s = .next ((s.freeSem (n % 64)).countWrite 4)) ∧
  (∀ (s : State) (p : Port) (n o : Nat), s.portOpen p = true → o % 4 ≠ portCode p ∨ s.get (semHolder (n % 64)) ≠ portCode p →
      Machine.exec (.semRelease p n o) s = .next (s.noteDrop p (0x4100 + 4 * (n % 64)) 4)) ∧
  (∀ (s : State) (p : Port) (n o : Nat), s.portOpen p = true → o % 4 = portCode p → s.get (semHolder (n % 64)) ≠ 0 →
      s.get (semHolder (n % 64)) ≠ portCode p → (s.lease (n % 64)).out = true →
      Machine.exec (.semBreak p n o) s = .next ((((s.freeSem (n % 64)).bumpSat SEM_BROKEN_COUNT).event .semBroken 0x04 [n % 64,
        s.get (semHolder (n % 64)), portCode p]).countWrite 4)) ∧
  (∀ (s : State) (p : Port) (n o : Nat), s.portOpen p = true → (s.lease (n % 64)).out = false →
      Machine.exec (.semBreak p n o) s = .next (s.noteDrop p (0x4100 + 4 * (n % 64)) 4)) ∧
  (∀ (s : State) (n : Nat), n < 64 → s.get (semHolder n) ≠ 0 → (s.lease n).since + (s.lease n).ms * 1000 ≤ s.now →
      Machine.exec (.semLeaseExpiry n) s = .next (s.setLease n { s.lease n with out := true }))

/-- A read of the low half of a pair answers the low half, loads the reader's own latch with the high half, and clears the
pair where it is RC; a read of any other register with RC fields answers it and clears those fields; a read of a page
that is gated or off answers all ones, or is not acknowledged on the sideband, and is recorded. It states the next
state of: COUNTER_LO_READ, RC_READ, GATED_PAGE_READ. -/
def Obligations.CounterReads : Prop :=
  (∀ (s : State) (p : Port) (a : Nat) (r : Row), s.portOpen p = true → a < 0x100000 → a % 4 = 0 →
      implemented (a / 0x1000) = true → s.gated (a / 0x1000) = false → a / 0x1000 ≠ 0x80 ∨ a % 0x1000 < 0x40 →
      a / 0x100 ≠ 0x41 → a / 0x1000 ≠ 0xB4 → regRow a = some r → r.kind = .lo →
      Machine.exec (.counterLoRead p a) s = .next (({ s with
        latch := Sparse.set (fun _ => 0) s.latch (perKey p (a + 4)) (s.word (a + 4)) }.clearRead a r).send (.regData p a
          (s.peek p a)))) ∧
  (∀ (s : State) (p : Port) (a : Nat) (r : Row), s.portOpen p = true → a < 0x100000 → a % 4 = 0 →
      implemented (a / 0x1000) = true → s.gated (a / 0x1000) = false → a / 0x1000 ≠ 0x80 ∨ a % 0x1000 < 0x40 →
      a / 0x100 ≠ 0x41 → a / 0x1000 ≠ 0xB4 → regRow a = some r → r.kind = .plain →
      Machine.exec (.rcRead p a) s = .next ((s.clearRead a r).send (.regData p a (s.peek p a)))) ∧
  (∀ (s : State) (p : Port) (a : Nat), s.portOpen p = true → a < 0x100000 → a % 4 = 0 → implemented (a / 0x1000) = true →
      s.gated (a / 0x1000) = true → a % 0x1000 ≠ 0 →
      Machine.exec (.gatedPageRead p a) s = .next ((s.noteOff p a false).send (if p = .sideband then .regNack p a else .regData
        p a 0xFFFFFFFF)))

/-- A write that the link receives, whose islet is restored, and that neither the order of its line nor the budget holds
back is counted and written at once; such a read is counted and answered at once; a request to a line outside the
host-visible memory faults. It states the next state of: CXL_MEM_WRITE, CXL_MEM_READ. -/
def Obligations.CxlRequests : Prop :=
  (∀ (s : State) (n line tag : Nat) (data : LineData) (be : BitVec 64) (poison : Bool), line < s.mdl.hostLines →
      s.servesAtOnce n line true = true →
      Machine.exec (.cxlMemWrite n line tag data be poison) s = .next ((((s.setHlk { s.hlk with
        nextReq := s.hlk.nextReq + 1 }).countReq ⟨false, s.hlk.nextReq, some tag, line, s.cfg (HLK_HINT_HINT n), true, data,
          be, poison⟩).hostWrite ⟨false, s.hlk.nextReq, some tag, line, s.cfg (HLK_HINT_HINT n), true, data, be,
          poison⟩).refreshHlk)) ∧
  (∀ (s : State) (n line tag : Nat), line < s.mdl.hostLines → s.servesAtOnce n line false = true →
      Machine.exec (.cxlMemRead n line tag) s = .next ((((s.setHlk { s.hlk with nextReq := s.hlk.nextReq + 1 }).countReq ⟨false,
        s.hlk.nextReq, some tag, line, s.cfg (HLK_HINT_HINT n), false, 0, 0, false⟩).hostRead ⟨false, s.hlk.nextReq, some
        tag, line, s.cfg (HLK_HINT_HINT n), false, 0, 0, false⟩).refreshHlk)) ∧
  (∀ (s : State) (n line tag : Nat) (data : LineData) (be : BitVec 64) (poison : Bool), s.mdl.hostLines ≤ line →
      Machine.exec (.cxlMemWrite n line tag data be poison) s = .fault .lineOutsideMemory) ∧
  (∀ (s : State) (n line tag : Nat), s.mdl.hostLines ≤ line →
      Machine.exec (.cxlMemRead n line tag) s = .fault .lineOutsideMemory)

/-- The oldest write whose islet record was being read is disposed of, or waits in the receive buffer for a place; at
level 4 the head of the hold queue is admitted once SPACING passes have gone by since the last; at level 5 a head that
has waited HOLD_MAX is admitted with BP_OVERRIDE, its fault and its event; every budget computation takes place while
PERS runs, and a stale gauge sets GAUGE_STALE with its interrupt and fault. It states the next state of:
ISLET_RECORD_READ_DONE, PACE_ADMIT, HOLD_MAX_ADMIT, BUDGET_COMPUTE, GAUGE_STALE. -/
def Obligations.BudgetHold : Prop :=
  (∀ (s : State) (h : HeldWrite) (l : List HeldWrite) (v : State), s.pers.recWait = h :: l →
      (s.setPers { s.pers with recWait := l }).dispose h.req = some v → Machine.exec .isletRecordReadDone s = .next v.serve) ∧
  (∀ (s : State) (h : HeldWrite) (l : List HeldWrite), s.pers.recWait = h :: l →
      (s.setPers { s.pers with recWait := l }).dispose h.req = none →
      Machine.exec .isletRecordReadDone s = .next (((s.setPers { s.pers with recWait := l }).buffer h.req).serve)) ∧
  (∀ (s : State) (h : HeldWrite) (l : List HeldWrite), s.pers.hold = h :: l → s.level = 4 → s.holding = true →
      s.pers.lastAdmit + s.cfg PERS_BP_SPACING ≤ s.now →
      Machine.exec .paceAdmit s = .next ((State.judgeHead l ((s.setPers { s.pers with
        hold := l, lastAdmit := s.now }).hostWrite h.req)).serve)) ∧
  (∀ (s : State) (h : HeldWrite) (l : List HeldWrite), s.pers.hold = h :: l → s.level = 5 → s.holding = true →
      h.since + s.cfg PERS_BP_HOLD_MAX ≤ s.now →
      Machine.exec .holdMaxAdmit s = .next (((((s.bump PERS_BP_OVR_COUNT).raiseInt 0x20 4).raiseFault 0x20 1 0x0A (h.req.line /
        1024)).event .budgetOverride 0x20 [h.req.line / 1024]).admitHead)) ∧
  (∀ (s : State) (tj : Int), s.persRuns = true →
      Machine.exec (.budgetCompute tj) s = .next (((s.computeBudget tj).sendShares).tempTrigger 0 128 tj)) ∧
  (∀ (s : State) (g : Nat × Nat), s.pers.gauge = some g → s.fresh s.pers.gauge = false →
      s.flag PERS_STAT_GAUGE_STALE = false → s.persRuns = true →
      Machine.exec (.gaugeStale false) s = .next (((s.put PERS_STAT_GAUGE_STALE 1).raiseInt 0x20 2).raiseFault 0x20 2 5 0x200CC))

/-- When an epoch is due and no tail is open it closes: its number advances, its plane freezes and its tail opens; with a
tail open the close waits and the stretch is counted; the walk, the seal and the clear of the tail then take place in
turn. It states the next state of: EPOCH_CLOSE, COOLING_WALK_DONE, EPOCH_SEAL, PLANE_CLEAR_DONE. -/
def Obligations.Epochs : Prop :=
  (∀ (s : State), s.active = true → s.pers.running = true → s.saving = false → s.closeDue = true → s.pers.tail = none →
      s.pers.clearedAt ≠ some s.now → Machine.exec .epochClose s = .next s.closeEpoch) ∧
  (∀ (s : State) (x : Tail), s.active = true → s.pers.running = true → s.saving = false → s.closeDue = true →
      s.pers.tail = some x → s.pers.stretched = true → s.pers.deferredAt ≠ some s.now →
      Machine.exec .epochClose s = .next ((s.bump64 PERS_STRETCH_LO_PASSES).setPers { s.pers with deferredAt := some s.now })) ∧
  (∀ (s : State), s.active = true → s.pers.running = true → s.saving = false → s.closeDue = true → s.pers.tail = none →
      s.pers.clearedAt ≠ some s.now →
      ∃ t, Machine.exec .epochClose s = .next t ∧ t.pers.tail = some ⟨s.epoch, s.now, false, false⟩ ∧ t.pers.epochBegan = s.now
        ∧ t.pers.stretched = false) ∧
  (∀ (s : State) (x : Tail), s.saving = false → s.pers.tail = some x → x.walked = false →
      Machine.exec .coolingWalkDone s = .next ((s.walkPlane x.epoch).setPers { (s.walkPlane x.epoch).pers with
        tail := some { x with walked := true } })) ∧
  (∀ (s : State) (rearmed : Bool) (again : Nat) (x : Tail), s.pers.tail = some x → x.sealed = false → s.saving = false →
      s.save.ended = false → s.save.failed = false →
      Machine.exec (.epochSeal rearmed again) s = .next (
        let v := (s.journalEpoch x.epoch again).sealEpoch x.epoch rearmed;
        let u := v.setPers { v.pers with tail := some { x with sealed := true } };
        ((if rearmed then u else u.planStale).sendSealed x.epoch).checkGroupSealed)) ∧
  (∀ (s : State) (x : Tail), s.pers.tail = some x → x.walked = true → x.sealed = true → s.saving = false →
      Machine.exec .planeClearDone s = .next (
        let u := s.setPers { s.pers with clearedAt := some s.now };
        (u.setPers { u.pers.setPlane (u.epoch + 1) [] with tail := none }).sendTailDone x.epoch))

/-- An accepted post records a barrier bound to the collecting epoch, and a refused one sets REFUSED with its interrupt; a
lookup clears VALID and its completion fills the query registers; the end of a copy's read outside a save treats the
islet and forms stripes; where a stripe has a copy that has waited 200 passes and its band has a row, it is formed,
and without a row nothing changes; an overflow sweep round and a barrier sweep end. It states the next state of:
PERS_BAR_POST, PERS_Q_ISLET, ISLET_LOOKUP_DONE, SHADOW_READ_END, STRIPE_AGE_EXPIRY, SWEEP_ROUND_DONE,
BARRIER_SWEEP_DONE. -/
def Obligations.ShadowAndBarriers : Prop :=
  (∀ (s : State) (p : Port) (tag : Word) (u : State), s.accepted p 0x22040 tag = some u → u.barRefusal = none →
      Machine.exec (.persBarPost p tag) s = .next ((((u.setPers { u.pers with
        barriers := u.pers.barriers ++ [⟨u.pers.nextSeq, tag.toNat, u.epoch, none⟩], posts := keep64 (u.pers.posts ++
          [⟨u.pers.nextSeq, tag.toNat, false⟩]), nextSeq := nextBarSeq u.pers.nextSeq }).put PERS_BAR_SEQ_LAST_POST
          u.pers.nextSeq).refresh).refreshArmed)) ∧
  (∀ (s : State) (p : Port) (tag : Word) (u : State) (c : Nat), s.accepted p 0x22040 tag = some u → u.barRefusal = some c →
      Machine.exec (.persBarPost p tag) s = .next (((u.put PERS_BAR_STAT_REFUSED 1).raiseInt 0x22 1).refreshArmed)) ∧
  (∀ (s : State) (p : Port) (i : Nat) (u : State), i < 2 ^ 25 → s.accepted p 0x23040 (BitVec.ofNat 32 i) = some u →
      Machine.exec (.persQIslet p i) s = .next (((u.put PERS_Q_STATE_VALID 0).setPers { u.pers with
        lookup := some i }).refreshArmed)) ∧
  (∀ (s : State) (i : Nat), s.pers.lookup = some i → s.gated 0x23 = false → i < s.mdl.hostIslets →
      Machine.exec .isletLookupDone s = .next (
        let r := s.recOf i;
        let t := s.put PERS_Q_STATE_VALID 1;
        (((((((t.setPers { t.pers with lookup := none }).put PERS_Q_STATE_FROZEN_BIT (b2n ((s.pers.plane (s.epoch +
          1)).contains i))).put PERS_Q_STATE_COLLECT_BIT (b2n (s.collects i))).put PERS_Q_STATE_STATE (r.code s.epoch)).put
          PERS_Q_STAMP_LO_STAMP (r.stamp % 2 ^ 32)).put PERS_Q_STAMP_HI_STAMP (r.stamp / 2 ^ 32)).put PERS_Q_ENTRY_LO_ENTRY
          (r.entry % 2 ^ 32)).put PERS_Q_ENTRY_HI_ENTRY (r.entry / 2 ^ 32))) ∧
  (∀ (s : State) (i : Nat), s.saving = false →
      Machine.exec (.shadowReadEnd i) s = .next (((s.endRead i).formStripe false false).formStripe true false)) ∧
  (∀ (s : State) (slc : Bool) (k row : Nat), s.saving = false →
      (s.unstriped slc).any (fun c => decide (c.stagedAt + 200 ≤ s.now)) = true →
      s.rowFor (bandFor slc) slc (rowsFor slc) s.save.plan = some (k, row) →
      Machine.exec (.stripeAgeExpiry slc) s = .next (
        let t := s.takeRows (bandFor slc) slc (rowsFor slc) k row;
        t.setFarr { t.farr with
        stripes := t.farr.stripes ++ [⟨t.farr.nextStripe, k, row, .shadow, slc, ((s.unstriped slc).take (stripeFill
          slc)).map (fun c => (c.islet, c.r)), [], 0⟩], nextStripe := t.farr.nextStripe + 1 })) ∧
  (∀ (s : State) (slc : Bool), s.rowFor (bandFor slc) slc (rowsFor slc) s.save.plan = none →
      Machine.exec (.stripeAgeExpiry slc) s = .next s) ∧
  (∀ (s : State), s.flag PERS_SHD_STAT_SWEEP = true → s.saving = false → s.sweepOffer = none → s.pers.sweepFresh = true →
      Machine.exec .sweepRoundDone s = .next ((s.put PERS_SHD_STAT_SWEEP 0).setPers { s.pers with
        sweepFresh := false, sweepPos := 0 })) ∧
  (∀ (s : State), s.flag PERS_SHD_STAT_SWEEP = true → s.saving = false → s.sweepOffer = none → s.pers.sweepFresh = false →
      Machine.exec .sweepRoundDone s = .next (s.setPers { s.pers with sweepFresh := !s.pers.appendStopped, sweepPos := 0 })) ∧
  (∀ (s : State) (b : Nat), s.saving = false → s.pers.barNs = some b → s.barOffer = none → s.pers.barOffered = false →
      Machine.exec .barrierSweepDone s = .next ((s.put PERS_SHD_STAT_BAR_SWEEP 0).setPers { s.pers with
        barNs := none, barWait := true })) ∧
  (∀ (s : State) (b : Nat), s.saving = false → s.pers.barNs = some b → s.barOffer = none → s.pers.barOffered = true →
      Machine.exec .barrierSweepDone s = .next s.startBarSweep)

/-- A fall of PFAIL_IN# is noted with its time, its debounce starts a save with cause 1, a pulse that ends earlier is a
glitch that is counted and reported, and its rise ends it; the hold rail below V_TRIP starts a save with cause 2 where
it is monitored, below V_CLOSE it closes out a running save, and its return is noted; a rail out of band reports
RAIL_FAULT outside a save and ends a running save; a fall of the DRAM rail clears the retention flag. It states the
next state of: PFAIL_IN_FALL, PFAIL_DEBOUNCE_DONE, PFAIL_GLITCH, PFAIL_IN_RISE, HOLD_RAIL_TRIP, HOLD_RAIL_CLOSE,
HOLD_RAIL_RETURN, RAIL_OUT_OF_BAND, DRAM_RAIL_FAULT. -/
def Obligations.PowerFailPins : Prop :=
  (∀ (s : State),
      Machine.exec .pfailInFall s = .next (s.setSave { s.save with
        pfailLow := true, pfailFell := s.now, goodSince := none, failSeen := s.save.failSeen || s.saving })) ∧
  (∀ (s : State), s.save.pfailLow = true → Machine.exec .pfailDebounceDone s = .next (s.startSave 1 s.save.pfailFell)) ∧
  (∀ (s : State) (n : Nat), s.save.pfailLow = true →
      Machine.exec (.pfailGlitch n) s = .next (((((s.setSave { s.save with pfailLow := false }).goodNow).bumpSat
        SAVE_GLITCH_COUNT).raiseInt 0x29 1).raiseFault 0x29 2 9 (n % 256 * 256))) ∧
  (∀ (s : State), s.save.pfailLow = true →
      Machine.exec .pfailInRise s = .next ((s.setSave { s.save with pfailLow := false }).goodNow)) ∧
  (∀ (s : State), s.cfgOn SAVE_CTRL_MON_EN = true →
      Machine.exec .holdRailTrip s = .next ((s.setSave { s.save with
        railLow := true, goodSince := none, failSeen := s.save.failSeen || s.saving }).startSave 2 s.now)) ∧
  (∀ (s : State), s.cfgOn SAVE_CTRL_MON_EN = false →
      Machine.exec .holdRailTrip s = .next (s.setSave { s.save with
        railLow := true, goodSince := none, failSeen := s.save.failSeen || s.saving })) ∧
  (∀ (s : State) (k : Nat), s.saving = true →
      Machine.exec (.holdRailClose k) s = .next ((s.setSave { s.save with railClosed := true }).closeOut 3 k)) ∧
  (∀ (s : State) (k : Nat), s.saving = false → s.save.ended = true ∨ s.save.failed = true →
      Machine.exec (.holdRailClose k) s = .next (s.setSave { s.save with railClosed := true, holdEn := false })) ∧
  (∀ (s : State), s.save.railLow = true →
      Machine.exec .holdRailReturn s = .next ((s.setSave { s.save with railLow := false, railClosed := false }).goodNow)) ∧
  (∀ (s : State) (r : Nat), s.saving = false → s.rst.phase ≠ .off →
      Machine.exec (.railOutOfBand r) s = .next (s.raiseFault 0x03 2 9 r)) ∧
  (∀ (s : State) (r : Nat), s.saving = true →
      Machine.exec (.railOutOfBand r) s = .next ((s.setSave { s.save with
        run := none, failed := true, saveActive := false }).put SAVE_STAT_ACTIVE 0)) ∧
  (∀ (s : State),
      Machine.exec .dramRailFault s = .next ((s.setRst { s.rst with
        selfRefresh := false, settingsKept := false, checkWord := false }).put RST_STAT_RETAIN 0))

/-- When no save has begun, ended or failed and the controller is out of reset and test mode, the debounced power failure
starts a save: the save runs or, with nothing to save, has ended, HOLD_EN is high and CHG_EN low; in test mode the
trigger is only noted; in the pass in which a save of a higher cause number began, the two triggers are of one cycle
or not by a free value (log 61), and if they are, the cause and t0 are this trigger's; otherwise a trigger that comes
later changes nothing. It states the next state of: PFAIL_DEBOUNCE_DONE. -/
def Obligations.SaveStarts : Prop :=
  (∀ (s : State), s.save.pfailLow = true → s.flag TST_STAT_TEST_MODE = false → s.canSave = true →
      ∃ t, Machine.exec .pfailDebounceDone s = .next t ∧ t.save.holdEn = true ∧ t.save.chgEn = false ∧ (t.saving = true ∨
        t.save.ended = true)) ∧
  (∀ (s : State), s.save.pfailLow = true → s.flag TST_STAT_TEST_MODE = true →
      Machine.exec .pfailDebounceDone s = .next (s.put TST_STAT_TRIG_SEEN 1)) ∧
  (∀ (s : State), s.save.pfailLow = true → s.flag TST_STAT_TEST_MODE = false → s.canSave = false →
      ¬(s.save.startedAt = some s.now ∧ 1 < s.get SAVE_STAT_CAUSE) → Machine.exec .pfailDebounceDone s = .next s) ∧
  (∀ (s : State), s.save.pfailLow = true → s.flag TST_STAT_TEST_MODE = false → s.canSave = false →
      s.save.startedAt = some s.now → 1 < s.get SAVE_STAT_CAUSE →
      Machine.exec .pfailDebounceDone s = .next (if s.free % 2 = 1 then (s.drawn.put SAVE_STAT_CAUSE 1).setSave { s.save with
        run := s.save.run.map (fun r => { r with t0 := s.save.pfailFell }) } else s.drawn))

/-- Once every received write is applied the save set is fixed and the data phase begins; the last residual stripe, or the
close-out, begins the metadata; the close-out threshold begins the close-out; the seal is programmed, and when it
reads back the save has ended with SAVE_DONE; the controller then enters BASIN. It states the next state of:
SAVE_WRITES_APPLIED, SAVE_DATA_DONE, ENERGY_CUTOFF, SAVE_SEAL_PROGRAMMED, SAVE_SEAL_READBACK, SAVE_BASIN_ENTRY,
SELF_TEST_DONE. -/
def Obligations.SaveSteps : Prop :=
  (∀ (s : State) (r : SaveRun), s.save.run = some r → r.step = .fenced → r.cut = none →
      Machine.exec .saveWritesApplied s = .next (((s.setRun { r with
        step := .data, todo := s.saveSet r.nTop, startUs := s.now - r.t0 }).put SAVE_PROGRESS_ISLETS (s.saveSet
          r.nTop).length).dropLink)) ∧
  (∀ (s : State) (r : SaveRun) (c : Nat), s.save.run = some r → r.step = .fenced → r.cut = some c →
      Machine.exec .saveWritesApplied s = .next ((((s.setRun { r with
        step := .data, todo := s.saveSet r.nTop, startUs := s.now - r.t0 }).put SAVE_PROGRESS_ISLETS (s.saveSet
          r.nTop).length).dropLink).closeOut c 0)) ∧
  (∀ (s : State) (r : SaveRun), s.save.run = some r → r.step = .data → r.todo = [] → s.rstr.slots = [] → s.rstr.faultQ = [] →
      Machine.exec .saveDataDone s = .next ((s.setRun { r with step := .metadata, dataUs := s.now - r.t0 }).closeStripe)) ∧
  (∀ (s : State) (r : SaveRun), s.save.run = some r → r.step = .closeOut → s.rstr.slots = [] → s.rstr.faultQ = [] →
      Machine.exec .saveDataDone s = .next ((s.setRun { r with step := .metadata }).closeStripe)) ∧
  (∀ (s : State) (k : Nat) (r : SaveRun) (c : Nat), s.save.run = some r → s.cfgOn SAVE_CTRL_CUT_EN = true →
      s.cutCause r = some c → Machine.exec (.energyCutoff k) s = .next (s.closeOut c k)) ∧
  (∀ (s : State) (r : SaveRun), s.save.run = some r → r.step = .metadata →
      Machine.exec .saveSealProgrammed s = .next (s.setRun { r with step := .sealProgrammed, sealedUs := s.now - r.t0 })) ∧
  (∀ (s : State) (r : SaveRun), s.save.run = some r → r.step = .sealProgrammed → s.tst.waiting = none →
      ∃ t, Machine.exec .saveSealReadback s = .next t ∧ t.save.run = none ∧ t.save.ended = true ∧ t.save.saveDone = true ∧
        t.save.saveActive = false ∧ t.arr.highSealed = r.ef ∧ t.arr.sealKind = .save (s.sealOf r)) ∧
  (∀ (s : State) (b : Bool), s.save.ended = true → s.get PWR_STAT_STATE = 2 →
      Machine.exec (.saveBasinEntry b) s = .next ((((s.setRst { s.rst with
        selfRefresh := b, settingsKept := true, checkWord := true }).dropLink).clocksOff).put PWR_STAT_DOM_ON 0b000000111)) ∧
  (∀ (s : State), s.saving = false → s.save.failed = false → s.flag FLT_SAFE_SAFE = false → s.rst.phase ≠ .off →
      Machine.exec (.selfTestDone true) s = .next ((s.put SAVE_STAT_SOUND 1).refreshArmed))

/-- After a power-fail save, power good for RET_MS gives a device reset, with the code of a held request or 6, where
AUTO_WARM is set; the loss of the supplies leaves nothing volatile; GPF phase 1 is acknowledged at once, and phase 2
when every earlier write is in DRAM. It states the next state of: POWER_RETURN, POWER_LOSS, GPF_PHASE1, GPF_PHASE2,
GPF_PHASE2_DONE. -/
def Obligations.PowerReturns : Prop :=
  (∀ (s : State) (k : Nat), s.save.ended = true → s.save.failSeen = true → s.goodLong = true →
      s.cfgOn SAVE_CTRL_AUTO_WARM = true → s.rst.held = some k →
      Machine.exec .powerReturn s = .next (s.deviceReset (min k 6))) ∧
  (∀ (s : State), s.save.ended = true → s.save.failSeen = true → s.goodLong = true → s.cfgOn SAVE_CTRL_AUTO_WARM = true →
      s.rst.held = none → Machine.exec .powerReturn s = .next (s.deviceReset 6)) ∧
  (∀ (s : State), s.save.ended = false → s.saving = false → s.save.holdEn = true → s.goodLong = true →
      Machine.exec .powerReturn s = .next (s.setSave { s.save with holdEn := false })) ∧
  (∀ (s : State) (torn : Bool),
      ∃ t, Machine.exec (.powerLoss torn) s = .next t ∧ t.regs = [] ∧ t.dram = [] ∧ t.rst = Rst.init ∧ t.save = Save.init ∧
        t.hlk = { Hlk.init with perst := s.hlk.perst } ∧ t.arr = s.arr ∧ t.kept = s.kept ∧ t.cfgStore = s.cfgStore) ∧
  (∀ (s : State), Machine.exec .gpfPhase1 s = .next (s.answer (.link 1 0))) ∧
  (∀ (s : State), Machine.exec .gpfPhase2 s = .next (s.setSave { s.save with gpf := some s.hlk.nextReq })) ∧
  (∀ (s : State) (n : Nat), s.save.gpf = some n → s.writesWait n = false →
      Machine.exec .gpfPhase2Done s = .next ((s.setSave { s.save with gpf := none }).answer (.link 2 0)))

/-- DRAM training with no failure ends with the results stored, PHASE 1 and STATE 4, and with a failure of a subchannel it
raises the fence; detection erases what it finds unerased, reads the array and reports its image; the metadata load
starts the interlock with no islet restored, claims the staging banks and ends in a running controller; a fault-in
whose last line is accepted, and a background restore, bring the islet back and mark it; a warm check that succeeds
makes memory active at once, from the last save's states or volatile as the run was, and one that fails sets WARM_FAIL
and goes on cold; the master settles G when WAIT_MS has passed. It states the next state of: DRAM_TRAINING_DONE,
IMAGE_DETECT_DONE, METADATA_LOAD_DONE, FAULT_IN_DONE, RESTORE_ISLET_DONE, WARM_CHECK_DONE, CASCADE_WAIT_EXPIRY. -/
def Obligations.RestoreSteps : Prop :=
  (∀ (s : State), s.rst.phase = .configured → s.get RST_STAT_START ≠ 1 → s.startsOn = true → s.Canon →
      ∃ t, Machine.exec (.dramTrainingDone [] false []) s = .next t ∧ t.rst.phase = .trained ∧ t.kept.trained = some t.trainId ∧
        t.get RSTR_STAT_PHASE = 1 ∧ t.get PWR_STAT_STATE = 4) ∧
  (∀ (s : State) (fell bad : List Nat), s.rst.phase = .configured → s.get RST_STAT_START ≠ 1 → s.startsOn = true →
      s.kept.trained ≠ some s.trainId → bad.filter (fun sc => decide (sc < 4)) ≠ [] →
      Machine.exec (.dramTrainingDone fell false bad) s = .next (
        let u := [0, 1].foldl (State.drcTrained [0, 1, 2, 3] (bad.filter (fun sc => decide (sc < 4))) []) s;
        u.setHlk { u.hlk with fenced := true })) ∧
  (∀ (s : State) (f : Found), s.detecting = true → s.saving = false → s.save.ended = false →
      Machine.exec (.imageDetectDone f) s = .next (
        let t := (s.finishErase f.unerased).detect f;
        (if t.rstr.cls < 5 then t.knownFailures else t).reportImage)) ∧
  (∀ (s : State), s.get RSTR_STAT_PHASE = 2 → s.saving = false → s.save.ended = false →
      ∃ t, Machine.exec .metadataLoadDone s = .next t ∧ t.rst.phase = .active ∧ t.rstr.interlock = true ∧ t.rstr.restored = [] ∧
        t.rstr.banks = true) ∧
  (∀ (s : State), s.get RSTR_STAT_PHASE = 2 → s.saving = false → s.save.ended = false → s.rstr.banks = true →
      ∃ t, Machine.exec .metadataLoadDone s = .next t ∧ t.rst.phase = .active ∧ t.pers.islets = [] ∧ t.pers.plane0 = [] ∧
        t.pers.plane1 = []) ∧
  (∀ (s : State) (i us rebuilt : Nat) (lost : List Nat) (t : State), s.rstr.slots.any (fun e => decide (e.1 = i)) = true →
      s.isRestored i = false → t = ((s.fillFaultIn i).bringBack i rebuilt lost).bump64 RSTR_FI_LO_COUNT →
      us ≤ t.cfg RSTR_FI_SLOW_US →
      Machine.exec (.faultInDone i us rebuilt lost false) s = .next (((t.put RSTR_FI_MAX_US (max (t.get RSTR_FI_MAX_US) (min us
        (2 ^ 22 - 1)))).setRestored i).joinSave i)) ∧
  (∀ (s : State) (zero : Bool) (rebuilt : Nat) (lost : List Nat) (k i : Nat), s.rstr.interlock = true →
      s.cfgOn RSTR_CTRL_BG_EN = true → s.saving = false → s.save.ended = false → s.nextRestore zero = some (k, i) →
      Machine.exec (.restoreIsletDone zero rebuilt lost) s = .next (((s.setStep zero k).bringBack i rebuilt lost).setRestored i)) ∧
  (∀ (s : State), s.rst.phase = .configured → s.get RST_STAT_START = 1 → s.flag RST_STAT_WARM_FAIL = false →
      s.rst.volatile = false →
      Machine.exec (.warmCheckDone true) s = .next (
        let u := (((s.loadLast (s.sealAt s.arr.highSealed)).put RSTR_STAT_WARM 1).put RSTR_STAT_PHASE 4).warmStates;
        (u.setSave { u.save with keyLoaded := true, mediaKey := some s.keyOf }).memoryActive)) ∧
  (∀ (s : State), s.rst.phase = .configured → s.get RST_STAT_START = 1 → s.flag RST_STAT_WARM_FAIL = false →
      s.rst.volatile = true →
      Machine.exec (.warmCheckDone true) s = .next (
        let u := (((s.loadLast (s.sealAt s.arr.highSealed)).put RSTR_STAT_WARM 1).put RSTR_STAT_PHASE 5).put
          RSTR_STAT_VOL_CAUSE s.rst.volCause;
        (u.setSave { u.save with keyLoaded := false, mediaKey := none }).memoryActive)) ∧
  (∀ (s : State), s.rst.phase = .configured → s.get RST_STAT_START = 1 → s.flag RST_STAT_WARM_FAIL = false →
      Machine.exec (.warmCheckDone false) s = .next ((((((s.put RST_STAT_WARM_FAIL 1).raiseInt 0x02 1).setRst { s.rst with
        phase := .trained }).put RSTR_STAT_PHASE 1).put RSTR_T_DETECT_US_US (s.now - s.rst.startedAt)).put PWR_STAT_STATE 4)) ∧
  (∀ (s : State), s.isMaster = true → s.rstr.settled = none → s.ownStatus.isSome = true →
      s.rstr.waitFrom + s.cfg RSTR_CASC_WAIT_MS * 1000 ≤ s.now → Machine.exec .cascadeWaitExpiry s = .next s.settlePoint)

/-- An operation that its unit may issue and its queue has room for joins the queue of a working die; a demand read
suspends the program or erase that the die runs, where it may be suspended; the end of the last codeword of a plain
read that decodes at once counts it and its block and frees the die; the end of a program that passes writes the block
record of every plane, takes the time and frees the die; the end of an erase writes them as well, retires a block that
failed and gives the skerry back once all its columns are erased or out of use; a die that stays busy too long is
reset once, and fails the second time; RETRAIN begins a training, a channel that trains comes up with its rate and its
dies, and one that fails twice goes down; the block query looks its record up and answers it. It states the next state
of: FLASH_OP_ENQUEUE, RESUME_WINDOW_EXPIRY, FLASH_READ_DONE, FLASH_PROGRAM_DONE, FLASH_ERASE_DONE, DIE_READY_TIMEOUT,
FCH_RETRAIN, FLASH_CHANNEL_TRAINED, FARR_Q_BLOCK, BLOCK_LOOKUP_DONE. -/
def Obligations.FlashOperations : Prop :=
  (∀ (s : State) (c : Nat) (o : FOp), (s.die c o.die).st = 1 →
      ((Sparse.get (fun _ => []) s.farr.queues c).filter (fun q => decide (q.queue = o.queue))).length < 64 →
      s.saving = false → o.queue ≠ .save → s.issued c o = true →
      Machine.exec (.flashOpEnqueue c o) s = .next ((s.setFarr { s.farr with
        queues := Sparse.set (fun _ => []) s.farr.queues c (Sparse.get (fun _ => []) s.farr.queues c ++ [o]) }).refreshQ c)) ∧
  (∀ (s : State) (c d : Nat), s.demandWaits c d = true → s.suspendable c d = true →
      Machine.exec (.resumeWindowExpiry c d) s = .next (State.startDie 8 c d .demand ((s.setDie c d { s.die c d with
        busy := none, susp := (s.die c d).busy, resumedAt := none }).bump (FCH_SUSPCNT_COUNT c)))) ∧
  (∀ (s : State) (c d p b : Nat) (r : ReadEnd) (o : FOp) (e : ReadResult), (s.die c d).busy = some o →
      e = s.readResult c d p b r (decide (o.queue = .demand)) → e.step = 0 →
      s.earlyRead (s.block c d p b).slc 0 e.bits e.iters = false →
      (s.block c d p b).reads + 1 < s.cfg UPK_SCAN_RD_LIMIT * 1000 →
      Machine.exec (.flashReadDone c d p b r true false) s = .next (((s.bump64 (FCH_RD_LO_COUNT c)).setBlock c d p b { s.block c
        d p b with reads := (s.block c d p b).reads + 1 }).dieIdle c d)) ∧
  (∀ (s : State) (c d us : Nat) (o : FOp) (t : State), (s.die c d).busy = some o → o.kind = .program → o.stripe = 0 →
      t = o.planes.foldl (fun t p => t.setBlock c d p o.block (s.blockProgrammed o (s.slowProgram c d o.slc us) true (s.block c d p o.block))) (s.programCounted c o.slc) →
      Machine.exec (.flashProgramDone c d true us) s = .next ((((t.setDie c d { (t.die c d).sample o.slc us with
        worn := ((t.die c d).sample o.slc us).worn + (o.planes.filter (fun p => (t.block c d p o.block).worn && !(s.block c
          d p o.block).worn)).length }).wearEvent c d).refreshFarr).dieIdle c d)) ∧
  (∀ (s : State) (c d : Nat) (e : EraseEnd) (o : FOp) (t u w : State), (s.die c d).busy = some o → o.kind = .erase →
      t = o.planes.foldl (fun t p => t.setBlock c d p o.block ((s.block c d p o.block).afterErase e.good)) (s.bump (FCH_ER_COUNT c)) →
      u = t.setDie c d { t.die c d with worn := (t.die c d).worn - (o.planes.filter (fun p => (s.block c d p o.block).worn)).length, eraseUs := e.us } →
      w = (((if e.good then u else u.raiseFault (0x60 + c) 3 7 0).dieIdle c d).retired c d (o.planes.filter (fun p => decide ((t.block c d p o.block).bstate = 4))).length).refreshDie c d →
      Machine.exec (.flashEraseDone c d e) s = .next ((if (w.blocksOf (s.skerryOf c d o.block)).all (fun key => decide
        ((Sparse.get (fun _ => freshBlock) w.farr.blocks key).bstate = 0 ∨ 3 ≤ (Sparse.get (fun _ => freshBlock)
        w.farr.blocks key).bstate)) then w.skerryErased (s.skerryOf c d o.block) else w).refreshFarr)) ∧
  (∀ (s : State) (c d : Nat) (t : State), (s.die c d).busy ≠ none → s.saving = false → s.rstr.interlock = false →
      (s.die c d).resetTried = false → t = (s.bump (FCH_TMO_COUNT c)).raiseFault (0x60 + c) 1 7 0 →
      Machine.exec (.dieReadyTimeout c d false) s = .next (t.setDie c d { t.die c d with resetTried := true })) ∧
  (∀ (s : State) (c d : Nat), (s.die c d).busy ≠ none → (s.die c d).resetTried = true →
      Machine.exec (.dieReadyTimeout c d false) s = .next (((s.bump (FCH_TMO_COUNT c)).raiseFault (0x60 + c) 1 7 0).dieFails c d
        (mediaAddr c d 0 0 0))) ∧
  (∀ (s : State) (p : Port) (c : Nat) (u : State),
      s.accepted p (0x60044 + c % 16 * 0x1000) (putBits (s.peek p (0x60044 + c % 16 * 0x1000)) 0 1 1) = some u →
      bitOf (putBits (s.peek p (0x60044 + c % 16 * 0x1000)) 0 1 1).toNat 0 = true →
      Machine.exec (.fchRetrain p c) s = .next ((u.retrainChannel (c % 16)).refreshArmed)) ∧
  (∀ (s : State) (c : Nat) (found : List (Option DieFound)) (t : State), Sparse.get (fun _ => 0) s.farr.trainFails c = 1 →
      t = s.setFarr { s.farr with trainFails := Sparse.set (fun _ => 0) s.farr.trainFails c 2 } →
      Machine.exec (.flashChannelTrained c false found) s = .next (t.channelDown c)) ∧
  (∀ (s : State) (c : Nat) (found : List (Option DieFound)) (t u : State),
      t = ((s.put (FCH_STAT_TRAINING c) 0).put (FCH_STAT_UP c) 1).put (FCH_STAT_DOWN c) 0 →
      u = t.setFarr { t.farr with trainFails := Sparse.set (fun _ => 0) t.farr.trainFails c 0, rates := Sparse.set (fun _ => 3600) t.farr.rates c (modeRate (s.cfg (FCH_MODE_IFACE c)) (s.cfg (FCH_MODE_RATE c))) } →
      Machine.exec (.flashChannelTrained c true found) s = .next ((((List.range 16).foldl (fun w d => w.refreshDie c d) (if
        s.get RST_STAT_START = 0 ∧ s.rst.phase ≠ .active then (List.range (s.mdl.diesPerChannel.getD c 0)).foldl (fun (v :
        State) d => v.dieFound c d (found.getD d none)) u else u)).rewriteRate).refreshFarr)) ∧
  (∀ (s : State) (p : Port) (q : Word) (u : State), s.accepted p 0x71040 q = some u →
      Machine.exec (.farrQBlock p q) s = .next ((u.queryBlock q.toNat).refreshArmed)) ∧
  (∀ (s : State) (v : Nat) (r : BlkRec), s.farr.lookup = some v → (s.die (v % 16) (v / 16 % 16)).st ≠ 0 →
      v / 256 % 4 < s.mdl.planes → v / 4096 % 16384 < s.mdl.bpp →
      r = s.block (v % 16) (v / 16 % 16) (v / 256 % 4) (v / 4096 % 16384) →
      Machine.exec .blockLookupDone s = .next (((((((s.setFarr { s.farr with lookup := none }).put FARR_Q_REC_VALID 1).put
        FARR_Q_REC_BSTATE r.bstate).put FARR_Q_REC_MODE (b2n r.slc)).put FARR_Q_REC_WORN (b2n r.worn)).put FARR_Q_REC_EARLY
        r.early).put FARR_Q_WP_PAGE r.wp |>.put FARR_Q_EC_EC r.ec))

/-- An accepted write of MOV_CMD with START marks the channel to start at the next tick, with ABORT ends it with cause 1;
an accepted write of PM_DATA_HI stores the 64-bit word and moves the address on; a read of PM_DATA_LO answers the low
half and latches the high half, a read of PM_DATA_HI answers the latched half and moves the address on; MVG_CPOP drops
the oldest entry of the completion ring. It states the next state of: MOV_START, MOV_ABORT, PM_DATA_HI_WRITE,
PM_DATA_LO_READ, PM_DATA_HI_READ, MVG_CPOP, COLLECTOR_DRAIN. -/
def Obligations.MoverRegisters : Prop :=
  (∀ (s : State) (p : Port) (c : Nat) (u : State), s.accepted p (0x30040 + c % 32 * 0x1000) 1 = some u →
      Machine.exec (.movStart p c) s = .next ((u.movStart (c % 32)).refreshArmed)) ∧
  (∀ (s : State) (p : Port) (c : Nat) (u : State), s.accepted p (0x30040 + c % 32 * 0x1000) 2 = some u →
      Machine.exec (.movAbort p c) s = .next ((u.abortChan (c % 32) 1).refreshArmed)) ∧
  (∀ (s : State) (p : Port) (hi : Word) (u : State), s.accepted p 0xB4088 hi = some u →
      pmAllowed p (s.get MVG_PM_ADDR_WORD) = true →
      Machine.exec (.pmDataHiWrite p hi) s = .next ((u.pmStore hi.toNat).refreshArmed)) ∧
  (∀ (s : State) (p : Port), s.portOpen p = true → s.gated 0xB4 = false →
      Machine.exec (.pmDataLoRead p) s = .next ({ s with
        latch := Sparse.set (fun _ => 0) s.latch (perKey p 0xB4088) (BitVec.ofNat 32 (s.pmSeen p / 2 ^ 32)) }.send (.regData
          p 0xB4084 (BitVec.ofNat 32 (s.pmSeen p))))) ∧
  (∀ (s : State) (p : Port), s.portOpen p = true → s.gated 0xB4 = false →
      Machine.exec (.pmDataHiRead p) s = .next (s.pmNext.send (.regData p 0xB4088 (Sparse.get (fun _ => 0) s.latch (perKey p
        0xB4088))))) ∧
  (∀ (s : State) (p : Port) (u : State), s.accepted p 0xB7050 0 = some u →
      Machine.exec (.mvgCpop p) s = .next ((u.setMov { u.mov with ring := u.mov.ring.drop 1 }).refreshArmed)) ∧
  (∀ (s : State) (k c : Nat) (r : MovRec) (t : State), s.nextDrain = some c → (s.chan c).slot = some r → mgmtChan c = false →
      t = s.setChan c { s.chan c with slot := none } →
      Machine.exec (.collectorDrain k) s = .next (((t.setMov { t.mov with drained := c }).send (.moverRecord r.words)).unblock c
        k)) ∧
  (∀ (s : State) (k c : Nat) (r : MovRec) (t : State), s.nextDrain = some c → (s.chan c).slot = some r → mgmtChan c = true →
      s.mov.ring.length < 15 → t = s.setChan c { s.chan c with slot := none } →
      Machine.exec (.collectorDrain k) s = .next ((t.setMov { t.mov with drained := c, ring := t.mov.ring ++ [r] }).unblock c k))

/-- On a channel that runs, has its port and stands at a word, MOVE and SPREAD take the port and begin the transfer; LOOP
loads its counter or counts it down, and jumps back by its displacement until it is 0; WAIT waits; SIGNAL sets its
flag, writes SIGCODE, sends its event and produces a record as its bits say; HALT produces its record and idles; NOP
skips; an illegal word, a fetch out of range, an uncorrectable word and an expired WAIT abort with causes 5, 6, 8 and
7; a transfer that raises no bus error and whose bursts have all been issued moves its data, increments its registers
and goes on, and one that the channel does not have, or while its clock is gated, changes nothing; a WAIT whose
condition holds goes on, and clears its flag where its word says so. It states the next state of: MOVE, SPREAD, LOOP,
WAIT, SIGNAL, HALT, NOP, ILLEGAL, PC_RANGE, PM_UE, MOVER_TRANSFER_DONE, WAIT_END, WAIT_TIMEOUT. -/
def Obligations.MoverPrograms : Prop :=
  (∀ (s : State) (c : Nat), s.canRun c .move = true →
      Machine.exec (.move c) s = .next ((s.serveChan c).setChan c { (s.serveChan c).chan c with
        cur := some (s.curWord c, s.pmWord ((s.chan c).pc + 1)), issued := 0 })) ∧
  (∀ (s : State) (c : Nat), s.canRun c .spread = true →
      Machine.exec (.spread c) s = .next ((s.serveChan c).setChan c { (s.serveChan c).chan c with
        cur := some (s.curWord c, s.pmWord ((s.chan c).pc + 1)), issued := 0 })) ∧
  (∀ (s : State) (c : Nat) (f : Fld) (new : Nat) (t : State), s.canRun c .loop = true →
      f = ctrOf c (bits64 (s.curWord c) 56 2) →
      new = (if s.get f = 0 then (bits64 (s.curWord c) 40 16 + 65535) % 65536 else s.get f - 1) → t = s.put f new → new ≠ 0 →
      Machine.exec (.loop c) s = .next (t.setPc c (if bits64 (s.curWord c) 0 16 ≤ (s.chan c).pc then (s.chan c).pc - bits64
        (s.curWord c) 0 16 else 0x10000 + ((s.chan c).pc + 0x10000 - bits64 (s.curWord c) 0 16)))) ∧
  (∀ (s : State) (c : Nat) (f : Fld), s.canRun c .loop = true → f = ctrOf c (bits64 (s.curWord c) 56 2) → s.get f = 1 →
      Machine.exec (.loop c) s = .next ((s.put f 0).setPc c ((s.chan c).pc + 1))) ∧
  (∀ (s : State) (c : Nat) (t : State), s.canRun c .wait = true →
      t = (s.setChan c { s.chan c with waitAt := s.now }).put (MOV_STAT_STATE c) 2 →
      Machine.exec (.wait c) s = .next (t.setMov { t.mov with events := t.mov.events.filter (fun e => decide (e.1 ≠ c)) })) ∧
  (∀ (s : State) (c k : Nat), s.canRun c .signal = true → bits64 (s.curWord c) 56 4 = 1 →
      Machine.exec (.signal c k) s = .next ((s.put MVG_FLAGS_FLAGS (BitVec.ofNat 32 (s.get MVG_FLAGS_FLAGS) ||| BitVec.ofNat 32
        (2 ^ bits64 (s.curWord c) 48 5)).toNat).skip c 1)) ∧
  (∀ (s : State) (c k : Nat), s.canRun c .signal = true → bits64 (s.curWord c) 56 4 = 2 →
      Machine.exec (.signal c k) s = .next (((s.put (MOV_SIGCODE_CODE c) (bits64 (s.curWord c) 0 32)).raiseInt (0x30 + c)
        1).skip c 1)) ∧
  (∀ (s : State) (c k : Nat), s.canRun c .signal = true → bits64 (s.curWord c) 56 4 = 8 →
      Machine.exec (.signal c k) s = .next ((s.produce (s.movRec c 1 0 (bits64 (s.curWord c) 0 32) k)).skip c 1)) ∧
  (∀ (s : State) (c k : Nat) (a b d e : State), s.canRun c .signal = true →
      a = (if bits64 (s.curWord c) 56 1 = 1 then s.put MVG_FLAGS_FLAGS (BitVec.ofNat 32 (s.get MVG_FLAGS_FLAGS) ||| BitVec.ofNat 32 (2 ^ bits64 (s.curWord c) 48 5)).toNat else s) →
      b = (if bits64 (s.curWord c) 57 1 = 1 then (a.put (MOV_SIGCODE_CODE c) (bits64 (s.curWord c) 0 32)).raiseInt (0x30 + c) 1 else a) →
      d = (if bits64 (s.curWord c) 58 1 = 1 then (b.sendFrame 0x40 none [BitVec.ofNat 8 (bits64 (s.curWord c) 40 8)]).strtEvent (bits64 (s.curWord c) 40 8) else b) →
      e = (if bits64 (s.curWord c) 59 1 = 1 then d.produce (d.movRec c 1 0 (bits64 (s.curWord c) 0 32) k) else d) →
      Machine.exec (.signal c k) s = .next (e.skip c 1)) ∧
  (∀ (s : State) (c k : Nat) (t : State), s.canRun c .halt = true →
      t = s.produce (s.movRec c 0 0 (bits64 (s.curWord c) 0 32) k) → (t.chan c).blocked = none →
      Machine.exec (.halt c k) s = .next ((t.put (MOV_STAT_STATE c) 0).freePort c)) ∧
  (∀ (s : State) (c : Nat), s.canRun c .nop = true → Machine.exec (.nop c) s = .next (s.setPc c ((s.chan c).pc + 1))) ∧
  (∀ (s : State) (c k : Nat), s.canRun c .illegal = true →
      Machine.exec (.illegal c k) s = .next ((s.abortAfter c 5 0 k).raiseFault (0x30 + c) 2 7 0)) ∧
  (∀ (s : State) (c k : Nat), c < 32 → s.chanReady c = true → s.nextInstr c = none → s.hasPort c = true →
      Machine.exec (.pcRange c k) s = .next (s.abortAfter c 6 0 k)) ∧
  (∀ (s : State) (c k : Nat), c < 32 → s.chanReady c = true → s.hasPort c = true →
      Machine.exec (.pmUe c k) s = .next ((s.abortAfter c 8 0 k).raiseFaultAt (0x30 + c) 0 7 0 k false)) ∧
  (∀ (s : State) (c y : Nat) (w v : BitVec 64) (t : State), (s.chan c).cur = some (w, v) → s.gated (0x30 + c) = false →
      s.firstErr c w v (xferLen w) = none → xferLen w ≤ s.issuedLines c w → t = (s.xfer c w v (xferLen w)).increments c w →
      Machine.exec (.moverTransferDone c none y) s = .next (((t.setChan c { t.chan c with cur := none, issued := 0 }).put
        (MOV_STAT_STATE c) 1).skip c (if bits64 w 60 4 = 1 then 1 else 2))) ∧
  (∀ (s : State) (c : Nat) (hit : Option Nat) (y : Nat), (s.chan c).cur = none ∨ s.gated (0x30 + c) = true →
      Machine.exec (.moverTransferDone c hit y) s = .next s) ∧
  (∀ (s : State) (c : Nat), s.waits c = true → s.waitHolds c = true → bits64 (s.curWord c) 56 4 ≠ 3 →
      s.waitExpired c = false →
      Machine.exec (.waitEnd c) s = .next (((s.setMov { s.mov with
        events := s.mov.events.filter (fun e => decide (e.1 ≠ c)) }).put (MOV_STAT_STATE c) 1).skip c 1)) ∧
  (∀ (s : State) (c : Nat) (t : State), s.waits c = true → s.waitHolds c = true → bits64 (s.curWord c) 56 4 = 3 →
      s.waitExpired c = false →
      t = (if bits64 (s.curWord c) 39 1 = 1 then s.put MVG_FLAGS_FLAGS (s.get MVG_FLAGS_FLAGS - 2 ^ bits64 (s.curWord c) 40 5) else s) →
      Machine.exec (.waitEnd c) s = .next (((t.setMov { t.mov with
        events := t.mov.events.filter (fun e => decide (e.1 ≠ c)) }).put (MOV_STAT_STATE c) 1).skip c 1)) ∧
  (∀ (s : State) (c k : Nat), s.waits c = true → s.waitExpired c = true → s.waitHolds c = false →
      Machine.exec (.waitTimeout c k) s = .next (s.abortAfter c 7 0 k))

/-- A clean read changes nothing, and an uncorrectable, a poisoned and a corrected read act as the rules of their outcomes
say; a repair rewrites its line where its islet is DURABLE or ZERO and is dropped otherwise; a refresh event of a rank
with work is postponed and owed while its limit allows it and forced otherwise, on a stopped subchannel it is owed,
and of a rank with no work it is carried out, closing the rank; MR4 sets RATE2X; a rank with no debt and no work
enters power-down; a row that no queued request wants closes at its idle time; a parity alert stops its subchannel,
the third in one pass is a storm, and the end of an alert serves the queue or, after a storm, begins an in-place
retraining, whose end serves it; DTRN starts, is told to stop and reports the lanes and bits it found.. It states the
next state of: DRAM_READ_DONE, REPAIR_WRITE, REFRESH_DUE, MR4_POLL, RANK_POWER_DOWN, ROW_IDLE_CLOSE, CA_PARITY_ALERT,
CA_ALERT_CLEAR, IN_PLACE_RETRAIN_DONE, DTRN_GO, DTRN_STOP, DTRN_DONE. -/
def Obligations.DramCommands : Prop :=
  (∀ (s : State) (line n : Nat) (r : Requester) (o : ReadOutcome), s.outcomeOf line o = .clean →
      Machine.exec (.dramReadDone line r o n) s = .next s) ∧
  (∀ (s : State) (line n : Nat) (r : Requester) (o : ReadOutcome), r ≠ .dtrn → s.outcomeOf line o = .ue →
      Machine.exec (.dramReadDone line r o n) s = .next (s.readUe line r n)) ∧
  (∀ (s : State) (line n : Nat) (r : Requester) (o : ReadOutcome), r ≠ .dtrn → r ≠ .pers → s.outcomeOf line o = .poison →
      Machine.exec (.dramReadDone line r o n) s = .next (s.readPoison line r)) ∧
  (∀ (s : State) (line n : Nat) (r : Requester) (o : ReadOutcome) (k : List Nat) (w : Bool), r ≠ .dtrn →
      s.outcomeOf line o = .corrected k w → Machine.exec (.dramReadDone line r o n) s = .next (s.readCorrected line r k w)) ∧
  (∀ (s : State) (line : Nat), s.drc.repairs.contains line = true →
      (s.recOf (line / 1024)).st = .durable ∨ (s.recOf (line / 1024)).st = .zero →
      Machine.exec (.repairWrite line) s = .next ((((s.setDrc { s.drc with repairs := dropNat s.drc.repairs line }).drcWrite
        .free line 2).setLine line (s.repairLine line)).bump (DSC_REPAIR_DONE (dscOf line)))) ∧
  (∀ (s : State) (line : Nat), s.drc.repairs.contains line = true → (s.recOf (line / 1024)).st ≠ .durable →
      (s.recOf (line / 1024)).st ≠ .zero →
      Machine.exec (.repairWrite line) s = .next ((s.setDrc { s.drc with repairs := dropNat s.drc.repairs line }).bump
        (DSC_REPAIR_DROPPED (dscOf line)))) ∧
  (∀ (s : State) (sc l : Nat) (t : State), s.drc.retraining.contains sc = false → s.drc.stopped.contains sc = false →
      s.cfgOn (DRC_REF_POSTPONE_EN (sc / 2)) = true → s.owedBy sc l + 1 ≤ s.oweLimit (sc / 2) →
      t = (s.setOwed sc l (s.owedBy sc l + 1)).bump (DRC_REF_PP_COUNT (sc / 2)) →
      Machine.exec (.refreshDue sc l true) s = .next (t.put (DRC_STAT_DEBT_MAX (sc / 2)) (max (t.get (DRC_STAT_DEBT_MAX (sc /
        2))) (s.owedBy sc l + 1)))) ∧
  (∀ (s : State) (sc l : Nat), s.drc.retraining.contains sc = false → s.drc.stopped.contains sc = false →
      s.cfgOn (DRC_REF_POSTPONE_EN (sc / 2)) = true → s.oweLimit (sc / 2) ≤ s.owedBy sc l →
      Machine.exec (.refreshDue sc l true) s = .next ((s.payRank sc l).bump (DRC_REF_FORCED_COUNT (sc / 2)))) ∧
  (∀ (s : State) (sc l : Nat) (held : Bool), s.drc.retraining.contains sc = false → s.drc.stopped.contains sc = true →
      Machine.exec (.refreshDue sc l held) s = .next (s.setOwed sc l (s.owedBy sc l + 1))) ∧
  (∀ (s : State) (sc l : Nat), s.drc.retraining.contains sc = false → s.drc.stopped.contains sc = false →
      s.rankQueued sc l = false →
      Machine.exec (.refreshDue sc l false) s = .next (((s.setOwed sc l 0).closeRank sc l).setUpk { s.upk with
        dqDue := dropNat s.upk.dqDue (rankKey sc l) })) ∧
  (∀ (s : State) (d : Nat) (b : Bool), Machine.exec (.mr4Poll d b) s = .next (s.put (DRC_STAT_RATE2X d) (b2n b))) ∧
  (∀ (s : State) (d r : Nat), s.cfgOn (DRC_PD_EN d) = true → s.saving = false → r < 2 →
      bitOf (s.get (DRC_STAT_PD_RANKS d)) r = false →
      (s.ranksOf d r).all (fun e => decide (s.owedBy e.1 e.2 = 0) && !s.rankQueued e.1 e.2) = true →
      Machine.exec (.rankPowerDown d r false) s = .next (((s.ranksOf d r).foldl (fun (t : State) e => t.closeRank e.1 e.2)
        (s.put (DRC_STAT_PD_RANKS d) (s.get (DRC_STAT_PD_RANKS d) + 2 ^ r))).bump (DRC_PD_ENTRY_COUNT d))) ∧
  (∀ (s : State) (b : Nat), s.bankHit b = false →
      Machine.exec (.rowIdleClose b) s = .next ({ s with
        drc := { s.drc with rows := Sparse.set (fun _ => 0) s.drc.rows b 0 } })) ∧
  (∀ (s : State) (b : Nat), s.bankHit b = true → Machine.exec (.rowIdleClose b) s = .next s) ∧
  (∀ (s : State) (sc : Nat) (l : List (Nat × Nat)), l = s.drc.alerts.filter (fun e => decide (e.2 = s.now)) ++ [(sc, s.now)] →
      (l.filter (fun e => decide (e.1 = sc))).length ≠ 3 →
      Machine.exec (.caParityAlert sc) s = .next (((s.setDrc { s.drc with
        alerts := l, stopped := insertNat s.drc.stopped sc }).raiseInt (0x50 + 4 * (sc / 2)) 0).raiseFault (0x50 + 4 * (sc /
          2)) 1 7 0)) ∧
  (∀ (s : State) (sc : Nat) (l : List (Nat × Nat)) (u : State),
      l = s.drc.alerts.filter (fun e => decide (e.2 = s.now)) ++ [(sc, s.now)] →
      (l.filter (fun e => decide (e.1 = sc))).length = 3 →
      u = ((s.setDrc { s.drc with alerts := l, stopped := insertNat s.drc.stopped sc }).raiseInt (0x50 + 4 * (sc / 2)) 0).raiseFault (0x50 + 4 * (sc / 2)) 1 7 0 →
      Machine.exec (.caParityAlert sc) s = .next ((u.setDrc { u.drc with storm := insertNat u.drc.storm sc }).raiseFault (0x50 +
        4 * (sc / 2)) 2 7 0)) ∧
  (∀ (s : State) (sc : Nat), s.drc.stopped.contains sc = true → s.drc.storm.contains sc = false →
      Machine.exec (.caAlertClear sc) s = .next ((s.setDrc { s.drc with stopped := dropNat s.drc.stopped sc }).drainQueue sc)) ∧
  (∀ (s : State) (sc : Nat) (u : State), s.drc.stopped.contains sc = true → s.drc.storm.contains sc = true →
      s.saving = false →
      u = (List.range 16).foldl (fun (u : State) l => (u.setOwed sc l 0).closeRank sc l) (s.setDrc { s.drc with stopped := dropNat s.drc.stopped sc }) →
      Machine.exec (.caAlertClear sc) s = .next (u.setDrc { u.drc with
        storm := dropNat u.drc.storm sc, retraining := insertNat u.drc.retraining sc })) ∧
  (∀ (s : State) (sc : Nat) (m : Bool), s.drc.retraining.contains sc = true →
      Machine.exec (.inPlaceRetrainDone sc m) s = .next (
        let t := (s.setDrc { s.drc with retraining := dropNat s.drc.retraining sc }).drainQueue sc;
        if m then t else t.raiseInt (0x50 + 4 * (sc / 2)) 1)) ∧
  (∀ (s : State) (p : Port) (d : Word) (u : State), d = putBits (s.peek p 0x58040) 0 1 1 → s.accepted p 0x58040 d = some u →
      bitOf d.toNat 0 = true → bitOf d.toNat 1 = false → Machine.exec (.dtrnGo p) s = .next u.dtrnGo.refreshArmed) ∧
  (∀ (s : State) (p : Port) (d : Word) (u : State), d = putBits (s.peek p 0x58040) 1 1 1 → s.accepted p 0x58040 d = some u →
      bitOf d.toNat 0 = false → bitOf d.toNat 1 = true → Machine.exec (.dtrnStop p) s = .next u.dtrnHalt.refreshArmed) ∧
  (∀ (s : State) (lanes n : Nat) (t : State), s.flag DTRN_STAT_BUSY = true → s.get DTRN_CMD_OP ≠ 0 →
      t = ((s.put DTRN_STAT_BUSY 0).put DTRN_STAT_DONE 1).setDrc { s.drc with dtrnStop := false } →
      Machine.exec (.dtrnDone lanes n) s = .next ((((t.put DTRN_LANE0_ERR (lanes % 2 ^ 32)).put DTRN_LANE1_ERR (lanes / 2 ^ 32 %
        256)).put DTRN_BITERR_COUNT (min n (2 ^ 32 - 1))).raiseInt 0x58 0))

/-- PERST# out of a save takes the link down and resets the link pages, during a save or in BASIN after one it asks for a
device reset, and its release lets the link train or wakes BASIN; a hot reset and LINK_DOWN take the link down; a
training that is allowed and within the limits brings it up with its rate and lanes; LINK_FAIL holds it; L1 is entered
and left, and the entry of L2 asks for BASIN; configuration requests, memory enable and decoder commits are served
once the configuration is done; a decoder within the device space is committed and one that is not is refused with
COMMIT_ERR; a stall of a stop that has lasted 1,000 us reports a fault; a recovery is counted and reported, and with a
new rate and lanes retrains the link. It states the next state of: PERST_ASSERT, PERST_RELEASE, LINK_UP, LINK_DOWN,
LINK_FAIL, L1_ENTRY, L1_EXIT, L2_ENTRY, CONFIG_REQUEST, CREDIT_STALL, DECODER_COMMIT, MEM_ENABLE, LINK_RECOVERY,
HOT_RESET. -/
def Obligations.HostLink : Prop :=
  (∀ (s : State), s.rst.phase = .off → Machine.exec .perstAssert s = .next (s.setHlk { s.hlk with perst := true })) ∧
  (∀ (s : State), s.rst.phase ≠ .off → s.save.ended = true → s.get PWR_STAT_STATE = 2 →
      Machine.exec .perstAssert s = .next ((s.setHlk { s.hlk with perst := true }).requestReset 5)) ∧
  (∀ (s : State), s.rst.phase ≠ .off → s.saving = true →
      Machine.exec .perstAssert s = .next ((s.setHlk { s.hlk with perst := true }).requestReset 5)) ∧
  (∀ (s : State), s.rst.phase ≠ .off → s.saving = false → s.save.ended = false →
      Machine.exec .perstAssert s = .next (((((((s.setHlk { s.hlk with perst := true }).linkLost).functionReset).resetPages (fun
        p => decide (0x10 ≤ p ∧ p < 0x20))).refreshHlk).refreshHeld))) ∧
  (∀ (s : State), s.hlk.perst = true → s.get PWR_STAT_STATE ≠ 2 → s.flag PWR_STAT_ENTERING = false →
      Machine.exec .perstRelease s = .next (s.setHlk { s.hlk with perst := false, held := false })) ∧
  (∀ (s : State), s.hlk.perst = true → s.get PWR_STAT_STATE = 2 →
      Machine.exec .perstRelease s = .next ((s.setHlk { s.hlk with perst := false, held := false }).wake 2)) ∧
  (∀ (s : State) (rate : Nat) (f : Bool) (lanes : List LaneEnd), s.mayTrain = true → s.trainable rate f lanes = true →
      Machine.exec (.linkUp rate f lanes) s = .next ((((s.setHlk { s.hlk with
        linkUp := true, inL1 := false, inL2 := false }).put HLK_LINK_UP 1).linkTrained rate f lanes).raiseInt 0x10 0)) ∧
  (∀ (s : State), s.hlk.linkUp = true →
      Machine.exec .linkDown s = .next (((s.dropLink).bump HLK_LINKDN_COUNT).raiseInt 0x10 1)) ∧
  (∀ (s : State), s.mayTrain = true →
      Machine.exec .linkFail s = .next ((((s.setHlk { s.hlk with held := true }).put HLK_LINK_LTSSM 0).raiseInt 0x10
        6).raiseFault 0x10 4 7 0)) ∧
  (∀ (s : State), s.hlk.linkUp = true → s.hlk.inL1 = false → s.hlk.inL2 = false →
      Machine.exec .l1Entry s = .next (((s.setHlk { s.hlk with inL1 := true }).put HLK_LINK_LTSSM 0x15).setPwr { s.pwr with
        l1Since := some s.now })) ∧
  (∀ (s : State), s.hlk.inL1 = true →
      Machine.exec .l1Exit s = .next ((((s.setHlk { s.hlk with inL1 := false }).put HLK_LINK_LTSSM 0x13).setPwr { s.pwr with
        l1Since := none }).wake 1)) ∧
  (∀ (s : State) (u : State), s.hlk.linkUp = true → s.hlk.inL2 = false → s.served = true →
      u = ((s.setHlk { s.hlk with inL1 := false, inL2 := true }).put HLK_LINK_LTSSM 0x16).setPwr { s.pwr with l1Since := none } →
      Machine.exec .l2Entry s = .next (u.requestState 2)) ∧
  (∀ (s : State), s.hlk.linkUp = true → s.hlk.fenced = false → s.served = true →
      Machine.exec (.configRequest .read) s = .next (s.send (.link 4 1))) ∧
  (∀ (s : State) (e m : Bool), s.hlk.linkUp = true → s.hlk.fenced = false → s.served = true →
      Machine.exec (.configRequest (.msix e m)) s = .next ({ s with mgp := { s.mgp with msixEn := e, fnMasked := m } }.send
        (.link 4 1))) ∧
  (∀ (s : State) (v : Nat) (b : Bool), s.hlk.linkUp = true → s.hlk.fenced = false → s.served = true →
      Machine.exec (.configRequest (.vectorMask v b)) s = .next ({ s with
        mgp := { s.mgp with masked := (if b then insertNat s.mgp.masked (v % 32) else dropNat s.mgp.masked (v % 32)) }
          }.send (.link 4 1))) ∧
  (∀ (s : State) (q : CfgReq), s.hlk.linkUp = true → s.hlk.fenced = false → s.served = false →
      Machine.exec (.configRequest q) s = .next (s.send (.link 4 0))) ∧
  (∀ (s : State), s.flag HLK_CREDIT_REQ_STOP = true ∨ s.flag HLK_CREDIT_RWD_STOP = true → s.now = s.hlk.stopSince + 1000 →
      Machine.exec .creditStall s = .next (s.raiseFault 0x10 3 5 0x10088)) ∧
  (∀ (s : State) (n base size dpa iw ig : Nat), s.hlk.linkUp = true → s.hlk.fenced = false → s.served = true → n < 4 →
      iw < 4 → ig < 7 → dpa + size / 2 ^ iw ≤ s.mdl.hostLines * 64 →
      Machine.exec (.decoderCommit n base size dpa iw ig) s = .next (((((s.setHlk { s.hlk with
        decs := Sparse.set (fun _ => none) s.hlk.decs n (some ⟨base, size, dpa, 2 ^ iw, if s.hlk.memEnable then s.now + 1
          else s.now⟩) }).put (HLK_DEC_COMMITTED n) 1).put (HLK_DEC_COMMIT_ERR n) 0).put (HLK_DEC_IW n) iw).put (HLK_DEC_IG n)
          ig)) ∧
  (∀ (s : State) (n base size dpa iw ig : Nat), s.hlk.linkUp = true → s.hlk.fenced = false → s.served = true → n < 4 →
      4 ≤ iw ∨ 7 ≤ ig ∨ s.mdl.hostLines * 64 < dpa + size / 2 ^ iw →
      Machine.exec (.decoderCommit n base size dpa iw ig) s = .next ((((s.setHlk { s.hlk with
        decs := Sparse.set (fun _ => none) s.hlk.decs n none }).put (HLK_DEC_COMMITTED n) 0).put (HLK_DEC_COMMIT_ERR n)
          1).raiseInt 0x10 5)) ∧
  (∀ (s : State), s.hlk.linkUp = true → s.hlk.fenced = false → s.served = true →
      Machine.exec .memEnable s = .next ((s.setHlk { s.hlk with memEnable := true }).put HLK_LINK_MEM_EN 1)) ∧
  (∀ (s : State), s.hlk.linkUp = true → s.hlk.inL2 = false →
      Machine.exec (.linkRecovery [] none) s = .next ((s.bump HLK_RECOV_COUNT).raiseFault 0x10 1 7 0)) ∧
  (∀ (s : State) (rate : Nat) (lanes : List LaneEnd) (t : State), s.hlk.linkUp = true → s.hlk.inL2 = false →
      t = s.bump HLK_RECOV_COUNT → t.trainable rate (t.flag HLK_LINK_FLIT256) lanes = true →
      lanes.length ≤ t.get HLK_LINK_WIDTH →
      Machine.exec (.linkRecovery [] (some (rate, lanes))) s = .next ((t.linkTrained rate (t.flag HLK_LINK_FLIT256)
        lanes).raiseFault 0x10 1 7 0)) ∧
  (∀ (s : State), s.hlk.linkUp = true → Machine.exec .hotReset s = .next (((s.linkLost).functionReset).refreshHlk))

/-- While the mailbox is open and no Glen core restarts, each command completes with its code and payload and the message
of vector 0: event records are returned and cleared, policy, timestamp, alert configuration and shutdown state are
kept and returned, the one log and the identity are read, and an opcode that is not listed answers Unsupported. It
states the next state of: GET_EVENT_RECORDS, CLEAR_EVENT_RECORDS, GET_EVENT_INTERRUPT_POLICY,
SET_EVENT_INTERRUPT_POLICY, GET_FW_INFO, UNSUPPORTED_COMMAND, GET_TIMESTAMP, SET_TIMESTAMP, GET_SUPPORTED_LOGS,
GET_LOG, IDENTIFY_MEMORY_DEVICE, GET_HEALTH_INFO, GET_ALERT_CONFIG, SET_ALERT_CONFIG, GET_SHUTDOWN_STATE,
SET_SHUTDOWN_STATE. -/
def Obligations.MailboxStandard : Prop :=
  (∀ (s : State) (l : Nat), s.mailboxOpen = true →
      (List.range 4).any (fun k => decide (s.get (GLC_STAT_STATE k) = 2)) = false → l < 4 →
      Machine.exec (.getEventRecords l) s = .next ((s.drawn.send (.mailbox 0 (byte (b2n (decide (0 < (Sparse.get (fun _ => ((0,
        0, 0) : Nat × Nat × Nat)) s.mbox.overflow l).1)) + 2 * b2n (decide (31 < (s.cxlLog l).length))) ++ pad 1 ++ leBytes
        2 (min (Sparse.get (fun _ => ((0, 0, 0) : Nat × Nat × Nat)) s.mbox.overflow l).1 0xFFFF) ++ leBytes 8 (Sparse.get
        (fun _ => ((0, 0, 0) : Nat × Nat × Nat)) s.mbox.overflow l).2.1 ++ leBytes 8 (Sparse.get (fun _ => ((0, 0, 0) : Nat
        × Nat × Nat)) s.mbox.overflow l).2.2 ++ leBytes 2 (min (s.cxlLog l).length 31) ++ pad 10 ++ ((s.cxlLog l).take
        31).flatMap (fun e => e.bytes s.free)))).vector0)) ∧
  (∀ (s : State) (l : Nat) (handles : List Nat), s.mailboxOpen = true →
      (List.range 4).any (fun k => decide (s.get (GLC_STAT_STATE k) = 2)) = false → l < 4 → handles ≠ [] →
      ((s.cxlLog l).take handles.length).map (fun e => e.handle % 65536) = handles →
      Machine.exec (.clearEventRecords l false handles) s = .next (((s.keepEvents l ((s.cxlLog l).drop handles.length)).send
        (.mailbox 0 [])).vector0)) ∧
  (∀ (s : State) (l : Nat) (handles : List Nat), s.mailboxOpen = true →
      (List.range 4).any (fun k => decide (s.get (GLC_STAT_STATE k) = 2)) = false → l < 4 →
      (Sparse.get (fun _ => ((0, 0, 0) : Nat × Nat × Nat)) s.mbox.overflow l).1 ≠ 0 →
      Machine.exec (.clearEventRecords l true handles) s = .next (((s.keepEvents l []).send (.mailbox 0 [])).vector0)) ∧
  (∀ (s : State), s.mailboxOpen = true → (List.range 4).any (fun k => decide (s.get (GLC_STAT_STATE k) = 2)) = false →
      Machine.exec .getEventInterruptPolicy s = .next ((s.send (.mailbox 0 (s.mbox.policy.map (BitVec.ofNat 8)))).vector0)) ∧
  (∀ (s : State) (m : List Nat), s.mailboxOpen = true →
      (List.range 4).any (fun k => decide (s.get (GLC_STAT_STATE k) = 2)) = false → m.length = 4 →
      m.all (fun m => decide (m < 2)) = true →
      Machine.exec (.setEventInterruptPolicy m) s = .next (((s.setMbox { s.mbox with policy := m }).send (.mailbox 0
        [])).vector0)) ∧
  (∀ (s : State), s.mailboxOpen = true → (List.range 4).any (fun k => decide (s.get (GLC_STAT_STATE k) = 2)) = false →
      Machine.exec .getFwInfo s = .next ((s.drawn.send (.mailbox 0 s.fwInfo.2.2)).vector0)) ∧
  (∀ (s : State), s.mailboxOpen = true → (List.range 4).any (fun k => decide (s.get (GLC_STAT_STATE k) = 2)) = false →
      Machine.exec .unsupportedCommand s = .next ((s.send (.mailbox 3 [])).vector0)) ∧
  (∀ (s : State), s.mailboxOpen = true → (List.range 4).any (fun k => decide (s.get (GLC_STAT_STATE k) = 2)) = false →
      Machine.exec .getTimestamp s = .next ((s.send (.mailbox 0 (leBytes 8 s.stamp))).vector0)) ∧
  (∀ (s : State) (ns : Nat), s.mailboxOpen = true →
      (List.range 4).any (fun k => decide (s.get (GLC_STAT_STATE k) = 2)) = false →
      Machine.exec (.setTimestamp ns) s = .next (((s.setMbox { s.mbox with stampBase := ns % 2 ^ 64, stampAt := s.now }).send
        (.mailbox 0 [])).vector0)) ∧
  (∀ (s : State), s.mailboxOpen = true → (List.range 4).any (fun k => decide (s.get (GLC_STAT_STATE k) = 2)) = false →
      Machine.exec .getSupportedLogs s = .next ((s.send (.mailbox 0 (leBytes 2 1 ++ pad 6 ++ effectsUuid ++ leBytes 4
        effectsLog.length))).vector0)) ∧
  (∀ (s : State) (o n : Nat), s.mailboxOpen = true →
      (List.range 4).any (fun k => decide (s.get (GLC_STAT_STATE k) = 2)) = false → o + n ≤ effectsLog.length → n ≤ 4096 →
      Machine.exec (.getLog effectsUuid o n) s = .next ((s.send (.mailbox 0 ((effectsLog.drop o).take n))).vector0)) ∧
  (∀ (s : State) (u : List (BitVec 8)) (o n : Nat), s.mailboxOpen = true →
      (List.range 4).any (fun k => decide (s.get (GLC_STAT_STATE k) = 2)) = false →
      u ≠ effectsUuid ∨ effectsLog.length < o + n ∨ 4096 < n →
      Machine.exec (.getLog u o n) s = .next ((s.send (.mailbox 2 [])).vector0)) ∧
  (∀ (s : State), s.mailboxOpen = true → (List.range 4).any (fun k => decide (s.get (GLC_STAT_STATE k) = 2)) = false →
      2 ≤ s.get RSTR_STAT_PHASE →
      Machine.exec .identifyMemoryDevice s = .next ((s.drawn.send (.mailbox 0 s.identify.2.2)).vector0)) ∧
  (∀ (s : State), s.mailboxOpen = true → (List.range 4).any (fun k => decide (s.get (GLC_STAT_STATE k) = 2)) = false →
      s.get RSTR_STAT_PHASE < 2 → Machine.exec .identifyMemoryDevice s = .next ((s.send (.mailbox 6 [])).vector0)) ∧
  (∀ (s : State), s.mailboxOpen = true → (List.range 4).any (fun k => decide (s.get (GLC_STAT_STATE k) = 2)) = false →
      Machine.exec .getHealthInfo s = .next ((s.drawn.send (.mailbox 0 s.health.2.2)).vector0)) ∧
  (∀ (s : State), s.mailboxOpen = true → (List.range 4).any (fun k => decide (s.get (GLC_STAT_STATE k) = 2)) = false →
      Machine.exec .getAlertConfig s = .next ((s.send (.mailbox 0 s.mbox.alert)).vector0)) ∧
  (∀ (s : State) (c : List (BitVec 8)), s.mailboxOpen = true →
      (List.range 4).any (fun k => decide (s.get (GLC_STAT_STATE k) = 2)) = false → c.length = 12 →
      Machine.exec (.setAlertConfig c) s = .next (((s.setMbox { s.mbox with alert := c }).send (.mailbox 0 [])).vector0)) ∧
  (∀ (s : State), s.mailboxOpen = true → (List.range 4).any (fun k => decide (s.get (GLC_STAT_STATE k) = 2)) = false →
      Machine.exec .getShutdownState s = .next ((s.send (.mailbox 0 (byte s.kept.shutdown))).vector0)) ∧
  (∀ (s : State) (v : Nat), s.mailboxOpen = true →
      (List.range 4).any (fun k => decide (s.get (GLC_STAT_STATE k) = 2)) = false →
      Machine.exec (.setShutdownState v) s = .next (((s.setKept { s.kept with shutdown := v % 256 }).send (.mailbox 0
        [])).vector0))

/-- Poison is listed, injected and cleared as host writes of the line; Sanitize and Format Array store their pending flag,
run in the background and end; a barrier is posted and its status answered; the controller's own queries answer the
state they name; a key-import session opens, exports and imports. It states the next state of: GET_POISON_LIST,
INJECT_POISON, CLEAR_POISON, SANITIZE, SANITIZE_DONE, BARRIER_POST, BARRIER_STATUS, BUDGET_QUERY, IMAGE_STATUS,
CASCADE_STATUS, FORMAT_ARRAY, FORMAT_ARRAY_DONE, KEY_IMPORT_BEGIN, KEY_EXPORT, KEY_IMPORT. -/
def Obligations.MailboxMedia : Prop :=
  (∀ (s : State) (a n : Nat) (rest : List (Nat × Nat × Nat)), s.mailboxOpen = true →
      (List.range 4).any (fun k => decide (s.get (GLC_STAT_STATE k) = 2)) = false → s.mbox.mediaOff = false → a % 64 = 0 →
      a + n ≤ s.mdl.hostLines * 64 → rest = ((s.poisonIn a n).take 4096).drop s.mbox.poisonAt → rest.length ≤ 256 →
      Machine.exec (.getPoisonList a n) s = .next (((s.setMbox { s.mbox with poisonAt := 0 }).send (.mailbox 0 (byte (2 * b2n
        s.mbox.poisonOverflow.isSome) ++ pad 1 ++ leBytes 8 (s.mbox.poisonOverflow.getD 0) ++ leBytes 2 (min rest.length
        256) ++ pad 20 ++ (rest.take 256).flatMap (fun r => leBytes 8 (r.1 * 64 + r.2.2 + 1) ++ leBytes 4 r.2.1 ++ pad
        4)))).vector0)) ∧
  (∀ (s : State) (a : Nat), s.mailboxOpen = true →
      (List.range 4).any (fun k => decide (s.get (GLC_STAT_STATE k) = 2)) = false → s.mbox.mediaOff = false →
      s.poisonAddr a = true →
      Machine.exec (.injectPoison a) s = .next (((s.drawn.ownWrite (a / 64) (BitVec.ofNat 512 s.free) true).send (.mailbox 0
        [])).vector0)) ∧
  (∀ (s : State) (a : Nat) (d : LineData), s.mailboxOpen = true →
      (List.range 4).any (fun k => decide (s.get (GLC_STAT_STATE k) = 2)) = false → s.mbox.mediaOff = false →
      s.poisonAddr a = true →
      Machine.exec (.clearPoison a d) s = .next (((s.ownWrite (a / 64) d false).send (.mailbox 0 [])).vector0)) ∧
  (∀ (s : State) (a : Nat) (d : LineData), s.mailboxOpen = true →
      (List.range 4).any (fun k => decide (s.get (GLC_STAT_STATE k) = 2)) = false → s.mbox.mediaOff = false →
      s.poisonAddr a = false → Machine.exec (.clearPoison a d) s = .next ((s.send (.mailbox 2 [])).vector0)) ∧
  (∀ (s : State) (t : State), s.mailboxOpen = true →
      (List.range 4).any (fun k => decide (s.get (GLC_STAT_STATE k) = 2)) = false → s.mbox.background = none →
      t = s.setKept { s.kept with sanitize := true, keys := Sparse.set (fun _ => none) s.kept.keys s.arr.keySlot none } →
      Machine.exec .sanitize s = .next (((t.setMbox { t.mbox with background := some 0x4400, mediaOff := true }).send (.mailbox
        1 [])).vector0)) ∧
  (∀ (s : State) (t : State), s.mbox.background = some 0x4400 → t = (s.eraseArray (Config.unerased s.freeCtr)).drawn →
      Machine.exec .sanitizeDone s = .next ((t.setKept { t.kept with sanitize := false }).backgroundEnds)) ∧
  (∀ (s : State) (tag c : Nat), s.mailboxOpen = true →
      (List.range 4).any (fun k => decide (s.get (GLC_STAT_STATE k) = 2)) = false → s.mbox.mediaOff = false →
      s.barRefusal = some c →
      Machine.exec (.barrierPost tag) s = .next (((s.postBarrier (tag % 2 ^ 32)).send (.mailbox c [])).vector0)) ∧
  (∀ (s : State) (tag : Nat) (t : State), s.mailboxOpen = true →
      (List.range 4).any (fun k => decide (s.get (GLC_STAT_STATE k) = 2)) = false → s.mbox.mediaOff = false →
      s.barRefusal = none → t = s.postBarrier (tag % 2 ^ 32) →
      Machine.exec (.barrierPost tag) s = .next ((t.send (.mailbox 0 (leBytes 2 s.pers.nextSeq ++ byte t.pers.barriers.length ++
        pad 5 ++ leBytes 8 s.epoch))).vector0)) ∧
  (∀ (s : State) (q : Nat) (b : Barrier), s.mailboxOpen = true →
      (List.range 4).any (fun k => decide (s.get (GLC_STAT_STATE k) = 2)) = false → q ≠ 0 →
      s.pers.barriers.find? (fun b => decide (b.seq = q)) = some b →
      Machine.exec (.barrierStatus q) s = .next ((s.send (.mailbox 0 (leBytes 2 q ++ byte 0 ++ byte s.pers.barriers.length ++
        leBytes 2 (s.get PERS_BAR_STAT_LAST_DONE) ++ pad 2 ++ leBytes 4 (b.count.getD s.res) ++ leBytes 4 b.tag))).vector0)) ∧
  (∀ (s : State), s.mailboxOpen = true → (List.range 4).any (fun k => decide (s.get (GLC_STAT_STATE k) = 2)) = false →
      Machine.exec .budgetQuery s = .next ((s.send (.mailbox 0 s.budgetQuery.2.2)).vector0)) ∧
  (∀ (s : State), s.mailboxOpen = true → (List.range 4).any (fun k => decide (s.get (GLC_STAT_STATE k) = 2)) = false →
      Machine.exec .imageStatus s = .next ((s.send (.mailbox 0 s.imageStatus.2.2)).vector0)) ∧
  (∀ (s : State), s.mailboxOpen = true → (List.range 4).any (fun k => decide (s.get (GLC_STAT_STATE k) = 2)) = false →
      Machine.exec .cascadeStatus s = .next ((s.send (.mailbox 0 s.cascadeStatus.2.2)).vector0)) ∧
  (∀ (s : State) (flags tag size : Nat) (t : State), s.mailboxOpen = true →
      (List.range 4).any (fun k => decide (s.get (GLC_STAT_STATE k) = 2)) = false → s.get RSTR_STAT_PHASE = 5 →
      4 ≤ s.get RSTR_STAT_VOL_CAUSE → s.get RSTR_STAT_VOL_CAUSE ≤ 7 → flags = 1 ∨ flags = 0 ∧ tag % 2 ^ 32 ≠ 0 → 1 ≤ size →
      size ≤ 8 → s.mbox.background = none →
      t = s.setKept { s.kept with format := true, formatTag := if flags = 1 then 0 else tag % 2 ^ 32, formatSize := size } →
      Machine.exec (.formatArray 0x5A464D54 flags tag size) s = .next (((t.setMbox { t.mbox with
        background := some 0xC010 }).send (.mailbox 1 [])).vector0)) ∧
  (∀ (s : State), s.mbox.background = some 0xC010 →
      Machine.exec .formatArrayDone s = .next (((s.eraseArray (Config.unerased s.freeCtr)).drawn).backgroundEnds)) ∧
  (∀ (s : State), s.mailboxOpen = true → (List.range 4).any (fun k => decide (s.get (GLC_STAT_STATE k) = 2)) = false →
      Machine.exec .keyImportBegin s = .next (((s.setMbox { s.mbox with
        session := some s.mbox.sessions, sessions := s.mbox.sessions + 1 }).send (.mailbox 0 (leBytes 97
          (Config.sessionPublicKey s.mbox.sessions)))).vector0)) ∧
  (∀ (s : State) (n r : Nat) (k : KeySlot), s.mailboxOpen = true →
      (List.range 4).any (fun k => decide (s.get (GLC_STAT_STATE k) = 2)) = false → s.protLevel ≠ 2 →
      Sparse.get (fun _ => none) s.kept.keys n = some k → n < 8 →
      Machine.exec (.keyExport n r) s = .next (((s.setMbox { s.mbox with sessions := s.mbox.sessions + 1 }).send (.mailbox 0
        (leBytes 97 (Config.sessionPublicKey s.mbox.sessions) ++ leBytes 4 k.keyId ++ leBytes 72 (Config.wrapKey
        (Config.kekUnwrap k.key) r)))).vector0)) ∧
  (∀ (s : State) (a k w n i : Nat) (t : State), s.mailboxOpen = true →
      (List.range 4).any (fun k => decide (s.get (GLC_STAT_STATE k) = 2)) = false → s.mbox.session = some n →
      (List.range 8).find? (fun i => (Sparse.get (fun _ => none) s.kept.keys i).isNone) = some i →
      t = s.setMbox { s.mbox with session := none } →
      Machine.exec (.keyImport a k w) s = .next (match Config.unwrapKey n a w with
        | none => (t.send (.mailbox 2 [])).vector0 | some x => ((t.setKept { t.kept with
        keys := Sparse.set (fun _ => none) t.kept.keys i (some ⟨k % 2 ^ 32, Config.kekWrap x⟩) }).send (.mailbox 0 (byte i
          ++ leBytes 4 k))).vector0))

/-- A frame over a trained port, from another device, with hops left and not seen before is counted and passed on, and
does what its message says; while no save runs every message but HEARTBEAT, PROBE, ECHO and TICK_SYNC also wakes the
controller. It states the next state of: HEARTBEAT, PROBE, ECHO, TICK_SYNC, MEMBER_INFO, SHARE, TAIL_DONE, CLOSE,
SEALED, GROUP_SEALED, STRAIT_SAVE, SAVE_START, SAVE_END, IMAGE_STATUS_FRAME, GROUP_POINT, MASTER_CLAIM, EVENT,
STRAIT_FRAME_BAD, UNLISTED_FRAME_TYPE. -/
def Obligations.StraitFrames : Prop :=
  (∀ (s : State) (h : FrameHdr) (p : List (BitVec 8)) (t : State), s.takesFrame h = true → t = s.frameTaken h 0x01 p →
      t.strt.masterHeard = true →
      Machine.exec (.heartbeat h p) s = .next (t.setPeer h.src { t.peer h.src with
        state := payAt p 0 1, master := payAt p 1 1 })) ∧
  (∀ (s : State) (h : FrameHdr) (n : Nat) (t : State), s.takesFrame ({ h with dst := some s.devNo }) = true →
      t = s.frameTaken ({ h with dst := some s.devNo }) 0x02 [] →
      Machine.exec (.probe h n) s = .next (t.sendOn [h.port] 0x03 (some h.src) (leBytes 4 n))) ∧
  (∀ (s : State) (h : FrameHdr) (p : List (BitVec 8)) (n : Nat) (t : State),
      s.takesFrame ({ h with dst := some s.devNo }) = true → t = s.frameTaken ({ h with dst := some s.devNo }) 0x03 p →
      Machine.exec (.echo h p n) s = .next (t.put (if h.port = 0 then STRT_DELAY_UP_PS else STRT_DELAY_DOWN_PS) (min ((n - payAt
        p 0 4) / 2) 0xFFFF))) ∧
  (∀ (s : State) (h : FrameHdr) (p : List (BitVec 8)) (o : Int) (n r : Nat) (t : State), s.takesFrame h = true →
      t = s.frameTaken h 0x04 (p.take 4 ++ leBytes 4 (payAt p 4 4 + s.get (if h.port = 0 then STRT_DELAY_UP_PS else STRT_DELAY_DOWN_PS) + r)) →
      t.inGroup = true → t.isMaster = false → h.src = t.get STRT_STAT_MASTER →
      Machine.exec (.tickSync h p o n r) s = .next (t.tickSync (o - (payAt p 4 4 : Int)) (payAt p 0 4 + n))) ∧
  (∀ (s : State) (h : FrameHdr) (p : List (BitVec 8)) (t u : State), s.takesFrame h = true → t = s.frameTaken h 0x05 p →
      u = t.setPeer h.src { t.peer h.src with power := payAt p 0 4, rate := payAt p 4 4, fixed := payAt p 8 4, res := payAt p 12 4, left := payAt p 16 4, saving := bitOf (payAt p 20 1) 0, saveDone := bitOf (payAt p 20 1) 1 } →
      u.saving = false → Machine.exec (.memberInfo h p) s = .next (u.wake 5)) ∧
  (∀ (s : State) (h : FrameHdr) (p : List (BitVec 8)) (t u : State), s.takesFrame h = true → t = s.frameTaken h 0x06 p →
      t.inGroup = true → t.isMaster = false → h.src = t.get STRT_STAT_MASTER →
      u = t.takeShare (payAt p 0 4 % 2 ^ 20) (payAt p 4 2) → u.saving = false →
      Machine.exec (.share h p) s = .next (u.wake 5)) ∧
  (∀ (s : State) (h : FrameHdr) (p : List (BitVec 8)) (t u : State), s.takesFrame h = true → t = s.frameTaken h 0x07 p →
      u = t.setPeer h.src { t.peer h.src with tailDone := some (payAt p 0 8), collecting := payAt p 8 8 } → u.saving = false →
      Machine.exec (.tailDone h p) s = .next (u.wake 5)) ∧
  (∀ (s : State) (h : FrameHdr) (p : List (BitVec 8)) (t u : State), s.takesFrame h = true → t = s.frameTaken h 0x08 p →
      t.inGroup = true → t.isMaster = false → h.src = t.get STRT_STAT_MASTER → t.active = true →
      0 < (payAt p 8 4 + 2 ^ 32 - t.pass32) % 2 ^ 32 → (payAt p 8 4 + 2 ^ 32 - t.pass32) % 2 ^ 32 < 2 ^ 31 →
      u = t.setClose (t.now + (payAt p 8 4 + 2 ^ 32 - t.pass32) % 2 ^ 32) (payAt p 0 8) → u.saving = false →
      Machine.exec (.close h p) s = .next (u.wake 5)) ∧
  (∀ (s : State) (h : FrameHdr) (p : List (BitVec 8)) (t u : State), s.takesFrame h = true → t = s.frameTaken h 0x09 p →
      u = (t.setPeer h.src { t.peer h.src with sealed := max (t.peer h.src).sealed (payAt p 0 8) }).sendGroupSealed →
      u.saving = false → Machine.exec (.sealedFrame h p) s = .next (u.wake 5)) ∧
  (∀ (s : State) (h : FrameHdr) (p : List (BitVec 8)) (t u : State), s.takesFrame h = true → t = s.frameTaken h 0x0A p →
      t.inGroup = true → h.src = t.get STRT_STAT_MASTER → u = t.setGroupSealed (payAt p 0 8) → u.saving = false →
      Machine.exec (.groupSealed h p) s = .next (u.wake 5)) ∧
  (∀ (s : State) (h : FrameHdr) (t : State), s.takesFrame h = true → t = s.frameTaken h 0x10 [] → t.inGroup = true →
      h.src = t.get STRT_STAT_MASTER → (t.startSave 4 t.now).saving = true →
      Machine.exec (.straitSave h) s = .next (t.startSave 4 t.now)) ∧
  (∀ (s : State) (h : FrameHdr) (p : List (BitVec 8)) (t u : State), s.takesFrame h = true → t = s.frameTaken h 0x11 p →
      u = t.setPeer h.src { t.peer h.src with saving := true } → u.saving = false →
      Machine.exec (.saveStart h p) s = .next (u.wake 5)) ∧
  (∀ (s : State) (h : FrameHdr) (p : List (BitVec 8)) (t u : State), s.takesFrame h = true → t = s.frameTaken h 0x12 p →
      u = t.setPeer h.src { t.peer h.src with saving := false, saveDone := true, left := 0 } → u.saving = false →
      Machine.exec (.saveEnd h p) s = .next (u.wake 5)) ∧
  (∀ (s : State) (h : FrameHdr) (p : List (BitVec 8)) (t u : State), s.takesFrame h = true → t = s.frameTaken h 0x20 p →
      ((t.addStatus ⟨h.src, payAt p 16 4, payAt p 0 8, payAt p 8 8, payAt p 23 1⟩).setPeer h.src { t.peer h.src with xseal := payAt p 20 3 }).rstr.settled = none →
      u = ((t.addStatus ⟨h.src, payAt p 16 4, payAt p 0 8, payAt p 8 8, payAt p 23 1⟩).setPeer h.src { t.peer h.src with xseal := payAt p 20 3 }).trySettle →
      u.saving = false → Machine.exec (.imageStatusFrame h p) s = .next (u.wake 5)) ∧
  (∀ (s : State) (h : FrameHdr) (p : List (BitVec 8)) (t u : State), s.takesFrame h = true → t = s.frameTaken h 0x21 p →
      t.inGroup = true → h.src = t.get STRT_STAT_MASTER →
      u = ((t.setRstr { t.rstr with settled := some (payAt p 10 8, payAt p 0 8), heardMask := payAt p 8 1 }).put RSTR_STAT_CASC_PARTIAL (payAt p 9 1 % 2)).takePoint →
      u.saving = false → Machine.exec (.groupPoint h p) s = .next (u.wake 5)) ∧
  (∀ (s : State) (h : FrameHdr) (p : List (BitVec 8)) (t u : State), s.takesFrame h = true → t = s.frameTaken h 0x30 p →
      t.inGroup = true → u = t.newMaster h.src → u.saving = false → Machine.exec (.masterClaim h p) s = .next (u.wake 5)) ∧
  (∀ (s : State) (h : FrameHdr) (p : List (BitVec 8)) (t u : State), s.takesFrame h = true → t = s.frameTaken h 0x40 p →
      u = t.strtEvent (payAt p 0 1) → u.saving = false → Machine.exec (.eventFrame h p) s = .next (u.wake 5)) ∧
  (∀ (s : State) (m : Bool), s.strtRuns = true →
      Machine.exec (.straitFrameBad m) s = .next (if m then s.bump STRT_REPLAY_COUNT else s.bump STRT_CRC_COUNT)) ∧
  (∀ (s : State) (h : FrameHdr), s.strtRuns = true → h.port < 2 → s.flag (portOk h.port) = true →
      Machine.exec (.unlistedFrameType h) s = .next (s.bump STRT_DROP_COUNT))

/-- A port that trains with its strapped partner is up and is probed, one that trains with another is WIRING; the census
fixes the size of the group; device 0 is master where none is heard; a device that has waited its time takes
mastership over; the master issues CLOSE; a silent member is lost; a port that goes down is a fault; a share that
stays out during a save ends the member's own gauge. It states the next state of: STRAIT_PORT_TRAINED, CENSUS_DONE,
MASTER_ELECTION, MASTERSHIP_TAKEOVER, STRAIT_PERIODIC_SEND, CLOSE_ISSUE, PEER_SILENT, STRT_RETRAIN, PORT_DOWN,
SHARE_TIMEOUT. -/
def Obligations.StraitGroup : Prop :=
  (∀ (s : State) (port q : Nat) (ring : Bool) (t : State), s.strtRuns = true → port < 2 → s.flag (portOk port) = false →
      s.rightPartner port q ring = true →
      t = (s.put (portOk port) 1).setStrt { s.strt with trainedAt := if s.strt.censusDone then s.strt.trainedAt else some s.now } →
      Machine.exec (.straitPortTrained port q ring) s = .next (t.sendOn [port] 0x02 (some q) [])) ∧
  (∀ (s : State) (port q : Nat) (ring : Bool), s.strtRuns = true → port < 2 → s.flag (portOk port) = false →
      s.rightPartner port q ring = false →
      Machine.exec (.straitPortTrained port q ring) s = .next ((s.raiseInt 0x88 5).raiseFault 0x88 2 7 0)) ∧
  (∀ (s : State) (t0 : Nat), s.strtRuns = true → s.strt.censusDone = false → s.strt.trainedAt = some t0 → t0 + 10000 ≤ s.now →
      Machine.exec .censusDone s = .next (((s.setStrt { s.strt with censusDone := true }).put STRT_STAT_SIZE
        (s.strt.census.foldl max s.devNo + 1)).refreshExpected)) ∧
  (∀ (s : State), s.inGroup = true → s.strt.censusDone = true → s.strt.masterHeard = false →
      Machine.exec .masterElection s = .next (((s.put STRT_STAT_MASTER 0).setStrt { s.strt with
        masterHeard := true, everMaster := decide (s.devNo = 0) }).refreshExpected)) ∧
  (∀ (s : State) (t u : State), s.inGroup = true → s.devNo ≠ 0 → s.get STRT_STAT_MASTER ≠ s.devNo →
      s.strt.everMaster = false → s.strtRuns = true →
      (List.range s.devNo).any (fun d => !s.silentFor d (s.devNo * 50)) = false →
      s.silentFor (s.get STRT_STAT_MASTER) 50 = true → s.get RSTR_STAT_PHASE ≠ 1 →
      t = ((s.newMaster s.devNo).put STRT_STAT_TOOK 1).setStrt { s.strt with masterHeard := true, everMaster := true } →
      u = (t.sendFrame 0x30 none (leBytes 1 (s.get STRT_STAT_MASTER))).sendTickSync →
      Machine.exec (.mastershipTakeover false) s = .next ((u.setPers { u.pers with gauge := u.pers.own }).sendGroupSealed)) ∧
  (∀ (s : State), s.strtRuns = true → s.inGroup = true →
      Machine.exec (.straitPeriodicSend .heartbeat) s = .next (s.sendOn s.trainedPorts 0x01 none (leBytes 1 s.beatState ++
        leBytes 1 s.beatMaster))) ∧
  (∀ (s : State), s.strtRuns = true →
      Machine.exec (.straitPeriodicSend .probe) s = .next (s.trainedPorts.foldl (fun (t : State) p => t.sendOn [p] 0x02 none [])
        s)) ∧
  (∀ (s : State), s.strtRuns = true → s.isMaster = true →
      Machine.exec (.straitPeriodicSend .tickSync) s = .next s.sendTickSync) ∧
  (∀ (s : State), s.strtRuns = true → Machine.exec (.straitPeriodicSend .memberInfo) s = .next s.sendInfo) ∧
  (∀ (s : State) (k n : Nat), s.isMaster = true → s.active = true → s.pers.running = true → s.saving = false →
      s.pers.closeAt = none → s.pers.epochBegan + s.pers.epochLen ≤ s.now + s.cfg STRT_CFG_CLOSE_LEAD → s.pers.tail = none →
      (s.otherMembers.filter (fun d => s.present.contains d)).all s.tailOk = true →
      k = max (s.pers.epochBegan + s.pers.epochLen) (s.now + s.cfg STRT_CFG_CLOSE_LEAD) → n = s.closeNumber →
      Machine.exec .closeIssue s = .next ((s.setPers { s.pers with closeAt := some (k, n) }).sendFrame 0x08 none (leBytes 8 n ++
        leBytes 4 ((s.pass32 + (k - s.now)) % 2 ^ 32)))) ∧
  (∀ (s : State) (d : Nat) (a : State), d ≠ s.devNo → d < 8 → bitOf (s.get STRT_STAT_PRESENT) d = true →
      s.silentFor d 50 = true → s.inGroup = true → a = s.put STRT_STAT_PRESENT (s.get STRT_STAT_PRESENT - 2 ^ d) →
      (a.inGroup && a.expected.contains d) = true →
      Machine.exec (.peerSilent d false) s = .next (((a.setSave { a.save with
        run := a.save.run.map (fun r => { r with lost := true }) }).bump STRT_LOST_COUNT).raiseInt 0x88 0)) ∧
  (∀ (s : State) (d : Nat) (a : State), d ≠ s.devNo → d < 8 → bitOf (s.get STRT_STAT_PRESENT) d = true →
      s.silentFor d 50 = true → s.inGroup = true → a = s.put STRT_STAT_PRESENT (s.get STRT_STAT_PRESENT - 2 ^ d) →
      (a.inGroup && a.expected.contains d) = false →
      Machine.exec (.peerSilent d false) s = .next ((a.bump STRT_LOST_COUNT).raiseInt 0x88 0)) ∧
  (∀ (s : State) (p : Port) (d : Word) (u : State), d = putBits (s.peek p 0x88040) 8 1 1 → s.accepted p 0x88040 d = some u →
      bitOf d.toNat 8 = true →
      Machine.exec (.strtRetrain p) s = .next (((if bitOf d.toNat STRT_CTRL_SYNC_OUT_EN.lo then u.claimBy p
        ⟨STRT_CTRL_SYNC_OUT_EN, 0, 0x88⟩ else u.enableFeature ⟨STRT_CTRL_SYNC_OUT_EN, 0, 0x88⟩
        false).strtRetrain).refreshArmed)) ∧
  (∀ (s : State) (port : Nat), port < 2 → s.flag (portOk port) = true →
      Machine.exec (.portDown port) s = .next ((s.put (portOk port) 0).raiseFault 0x88 0 7 0)) ∧
  (∀ (s : State) (r : SaveRun) (g : Nat × Nat), s.save.run = some r → s.inGroup = true → s.isMaster = false →
      r.gauge = some g → g.2 + 3 * s.cfg SAVE_CUT_POLL_MS * 1000 ≤ s.now →
      Machine.exec .shareTimeout s = .next (s.setSave { s.save with run := some { r with gauge := none } }))

/-- Power-on out of the off phase samples the straps and starts cold, and without a whole identity starts recovery; the
boot image that verifies is taken, else the other one as fallback, else recovery starts; the end of the configuration
moves the start on and lets the charger run; a PLL locks and unlocks, the reference is lost and comes back and the
always-on clock is lost; RST_KEY with its word opens a window of 1,000 us in which DEV_RST requests a reset, and
DEV_RST outside it is dropped; a quiesce that ends and a held reset that is released go on to the reset; RECOVERY#
with the request starts recovery. It states the next state of: POWER_ON_RESET, BOOT_IMAGE_VERIFIED,
CONFIGURATION_DONE, REF_LOSS, REF_BACK, AON_CLK_LOSS, PLL_LOCK, PLL_UNLOCK, RST_KEY, DEV_RST, QUIESCE_DONE,
RESET_HOLD_RELEASE, RECOVERY_SAMPLE. -/
def Obligations.StartAndReset : Prop :=
  (∀ (s : State) (n : Nat) (t : State), s.rst.phase = .off → s.flag TST_STAT_TEST_MODE = false →
      t = ((((s.sampleStraps).loadFuses (some n)).loadStored).put ATOL_PROT_LEVEL s.atol.sel.prot).put ATOL_SPARE_FREE s.atol.spares.length →
      Machine.exec (.powerOnReset (some n)) s = .next (((((t.startFields 0 1).setRst { t.rst with
        startedAt := s.now }).resumeWipe).coldStart).recPowerOn)) ∧
  (∀ (s : State) (t : State), s.rst.phase = .off → s.flag TST_STAT_TEST_MODE = false →
      t = ((((s.sampleStraps).loadFuses none).loadStored).put ATOL_PROT_LEVEL s.atol.sel.prot).put ATOL_SPARE_FREE s.atol.spares.length →
      Machine.exec (.powerOnReset none) s = .next ((((((t.startFields 0 1).setRst { t.rst with
        startedAt := s.now }).resumeWipe).raiseFault 0x02 0 7 0).recoveryStart 3).recPowerOn)) ∧
  (∀ (s : State) (k : Nat), s.rst.phase = .booting → s.startsOn = true → s.get RST_STAT_START ≠ 1 →
      s.atol.sel.updPend = false →
      Machine.exec (.bootImageVerified 0 k) s = .next ((s.put RST_STAT_ISLE s.atol.sel.active).setRst { s.rst with
        phase := .verified })) ∧
  (∀ (s : State) (k : Nat) (t u : State), k ≠ 0 → s.rst.phase = .booting → s.startsOn = true → s.get RST_STAT_START ≠ 1 →
      t = ((s.verifyFailed s.atol.sel.active k).bootSwap 0).put RST_STAT_ISLE_FALLBACK 1 →
      u = ((t.put RST_STAT_ISLE t.atol.sel.active).eventNo 0x02 0x0202 [t.atol.sel.active]).raiseInt 0x02 0 →
      Machine.exec (.bootImageVerified k 0) s = .next (u.setRst { u.rst with phase := .verified })) ∧
  (∀ (s : State) (k j : Nat), k ≠ 0 → j ≠ 0 → s.rst.phase = .booting → s.startsOn = true → s.get RST_STAT_START ≠ 1 →
      Machine.exec (.bootImageVerified k j) s = .next (((s.verifyFailed s.atol.sel.active k).verifyFailed (1 -
        s.atol.sel.active) j).recoveryStart 2)) ∧
  (∀ (s : State) (v k : Nat), s.startsOn = true → s.rst.phase = .verified →
      ∃ t, Machine.exec (.configurationDone v k) s = .next t ∧ t.rst.phase = .configured ∧ t.save.chgEn = true) ∧
  (∀ (s : State), s.flag CLK_STAT_REF_OK = true →
      Machine.exec .refLoss s = .next (((((((s.put CLK_STAT_REF_OK 0).bump CLK_REF_LOSS_COUNT).put CLK_STAT_LOCK (setBitTo
        (s.get CLK_STAT_LOCK) 1 false)).put CLK_STAT_ON_AON (setBitTo (s.get CLK_STAT_LOCK) 1 false)).linkLost).raiseInt
        0x01 0).raiseFault 0x01 0 7 0)) ∧
  (∀ (s : State) (n : Nat), s.rst.phase ≠ .off → s.flag CLK_STAT_REF_OK = false →
      Machine.exec (.refBack n) s = .next ((((s.put CLK_STAT_REF_OK 1).put CLK_REF_PPM_PPM (n % 65536)).put CLK_STAT_ON_AON
        0).raiseInt 0x01 1)) ∧
  (∀ (s : State), s.rst.phase ≠ .off → s.flag CLK_STAT_AON_OK = true →
      Machine.exec .aonClkLoss s = .next ((s.put CLK_STAT_AON_OK 0).raiseFault 0x01 3 7 0)) ∧
  (∀ (s : State) (k : Nat), s.rst.phase = .active → k < 6 → k ≠ 1 → s.locked k = false →
      Machine.exec (.pllLock k) s = .next (((s.put CLK_STAT_LOCK (setBitTo (s.get CLK_STAT_LOCK) k true)).put CLK_STAT_ON_AON
        (setBitTo (s.get CLK_STAT_ON_AON) k (!s.flag CLK_STAT_REF_OK))).unstall k)) ∧
  (∀ (s : State) (k : Nat) (t : State), s.locked k = true → k ≠ 0 → k ≠ 1 →
      t = (((s.put CLK_STAT_LOCK (setBitTo (s.get CLK_STAT_LOCK) k false)).put CLK_STAT_ON_AON (setBitTo (s.get CLK_STAT_ON_AON) k false)).bump CLK_UNLOCK_COUNT).raiseInt 0x01 2 →
      Machine.exec (.pllUnlock k) s = .next ((t.setRst { t.rst with stalled := insertNat t.rst.stalled k }).raiseFault 0x01 2 7
        0)) ∧
  (∀ (s : State) (p : Port) (u : State), s.accepted p 0x2044 0x52535430 = some u →
      Machine.exec (.rstKey p 0x52535430) s = .next ((u.setRst { u.rst with
        keys := (u.rst.keys.filter (fun e => decide (e.1 ≠ p))) ++ [(p, u.now)] }).refreshArmed)) ∧
  (∀ (s : State) (p : Port) (d : Word) (u : State), d ≠ 0x52535430 → s.accepted p 0x2044 d = some u →
      Machine.exec (.rstKey p d) s = .next u.refreshArmed) ∧
  (∀ (s : State) (p : Port) (d : Word) (u : State), d = putBits (s.peek p 0x2040) 0 1 1 → s.accepted p 0x2040 d = some u →
      bitOf d.toNat 0 = true → u.keyed p = true →
      Machine.exec (.devRst p) s = .next ((u.requestReset (match p with
        | .host => 2 | .sideband => 3 | .glen => 4 | .tst => 7)).refreshArmed)) ∧
  (∀ (s : State) (p : Port) (d : Word), d = putBits (s.peek p 0x2040) 0 1 1 → bitOf d.toNat 0 = true → s.portOpen p = true →
      s.gated 2 = false → s.keyed p = false → Machine.exec (.devRst p) s = .next (s.noteDrop p 0x2040 1)) ∧
  (∀ (s : State) (b k : Bool) (src : Nat), s.rst.quiesce = some src → s.get PWR_STAT_STATE ≠ 2 → s.rst.phase ≠ .recovery →
      Machine.exec (.quiesceDone b k) s = .next ((s.setRst { s.rst with
        selfRefresh := b, settingsKept := k, checkWord := k }).deviceReset src)) ∧
  (∀ (s : State) (src : Nat), s.rst.held = some src → s.saving = false → s.goodLong = true →
      s.save.ended = true ∨ s.save.failed = true → Machine.exec .resetHoldRelease s = .next (s.deviceReset src)) ∧
  (∀ (s : State) (src : Nat), s.rst.held = some src → s.saving = false → s.goodLong = true → s.save.ended = false →
      s.save.failed = false → Machine.exec .resetHoldRelease s = .next (s.beginQuiesce src)) ∧
  (∀ (s : State) (a b : Bool) (t : State), s.rst.phase = .booting → s.rst.rcvSampled = false → s.startsOn = true →
      t = s.setRst { s.rst with rcvSampled := true, rcvRequest := a && b } →
      Machine.exec (.recoverySample a b) s = .next (if a && b then t.recoveryStart 4 else t))

/-- A fault that its page detects raises its source and has its effect, masked or not, and on a Glen core's page an
unmasked one also crashes the core; a record takes the message in front with its COINCIDENT flag and the reaction
code, and an effective CONTAINED fault outside SAFE reacts; a reset is released and its shadow ends; a block that
overruns calls the reset of its domain, and a domain that overruns is a fault; a stalled tick is a fault; a Glen
core's watchdog is a fault of its page, and a core that restarts is back with its time; FLT_POP drops the oldest
record and FLT_FIRST_CLR clears the first. The code of a consequential record and what a masked fault still does are
read as assumption log 39 says. It states the next state of: FAULT_DETECT, FAULT_RECORD, BLOCK_RESET_DONE,
RESET_OVERRUN, RESET_STUCK, RESET_SHADOW_END, TICK_STALL, GLEN_WDOG, GLEN_RESTART_DONE, FLT_POP, FLT_FIRST_CLR. -/
def Obligations.FaultCollection : Prop :=
  (∀ (s : State) (pg n kind addr k place : Nat), s.detects pg n = true → pg < 0xD0 ∨ 0xD4 ≤ pg →
      Machine.exec (.faultDetect pg n kind addr k place false) s = .next ((s.raiseFaultSev pg n (s.severity pg n) kind addr k
        false).faultEffect pg n place false)) ∧
  (∀ (s : State) (pg n kind addr k place : Nat) (t : State), s.detects pg n = true → 0xD0 ≤ pg → pg < 0xD4 →
      t = s.raiseFaultSev pg n (s.severity pg n) kind addr k false → bitOf (t.get (ERR_MASK_MASK pg)) n = false →
      Machine.exec (.faultDetect pg n kind addr k place false) s = .next ((t.faultEffect pg n place false).coreCrash (pg - 0xD0)
        n)) ∧
  (∀ (s : State) (m : FltMsg) (t : State), firstMsg s.flt.pend = some m →
      t = s.setFlt { s.flt with pend := Sparse.set (fun _ => noMsg) s.flt.pend (fsrcOf m.page m.src) noMsg, lastTime := some (m.pass, m.cycle) } →
      m.conseq = true → Machine.exec .faultRecord s = .next (t.makeRecord (m.record (s.coincides m) false 6))) ∧
  (∀ (s : State) (m : FltMsg) (t : State), firstMsg s.flt.pend = some m →
      t = s.setFlt { s.flt with pend := Sparse.set (fun _ => noMsg) s.flt.pend (fsrcOf m.page m.src) noMsg, lastTime := some (m.pass, m.cycle) } →
      m.conseq = false → m.sev ≤ 1 → Machine.exec .faultRecord s = .next (t.makeRecord (m.record (s.coincides m) false 0))) ∧
  (∀ (s : State) (m : FltMsg) (t : State), firstMsg s.flt.pend = some m →
      t = s.setFlt { s.flt with pend := Sparse.set (fun _ => noMsg) s.flt.pend (fsrcOf m.page m.src) noMsg, lastTime := some (m.pass, m.cycle) } →
      m.conseq = false → m.sev = 3 → s.reacts m.inj = true →
      Machine.exec .faultRecord s = .next (t.makeRecord (m.record (s.coincides m) false s.fatalCode))) ∧
  (∀ (s : State) (m : FltMsg) (t : State), firstMsg s.flt.pend = some m →
      t = s.setFlt { s.flt with pend := Sparse.set (fun _ => noMsg) s.flt.pend (fsrcOf m.page m.src) noMsg, lastTime := some (m.pass, m.cycle) } →
      m.conseq = false → m.sev = 2 → s.reacts m.inj = true → s.flag FLT_SAFE_SAFE = false →
      Machine.exec .faultRecord s = .next ((t.makeRecord (m.record (s.coincides m) false (s.reaction m.page m.src).code)).react
        m.page (s.reaction m.page m.src) (s.get FLT_SEQ_NEXT))) ∧
  (∀ (s : State) (w : ScopeOf) (t : State), s.flt.scopes.any (fun c => decide (c.what = w ∧ c.phase = .asserted)) = true →
      t = s.setFlt { s.flt with scopes := s.flt.scopes.map (fun c => if c.what = w ∧ c.phase = .asserted then { c with phase := .settling, since := s.now } else c) } →
      Machine.exec (.blockResetDone w false) s = .next ((t.endSoft w).refreshHlk)) ∧
  (∀ (s : State) (b : Nat) (c : Scope) (t u : State),
      s.flt.scopes.find? (fun c => decide (c.what = .block b ∧ c.phase = .asserted)) = some c → c.since + 200 ≤ s.now →
      t = s.raiseFault 0x90 0 0x0B b → u = t.setFlt { t.flt with scopes := t.flt.scopes.filter (fun d => decide (d ≠ c)) } →
      Machine.exec (.resetOverrun b) s = .next ((u.escalated).callReset (.domain (domainOf b)) c.parent)) ∧
  (∀ (s : State) (d : Nat) (c : Scope),
      s.flt.scopes.find? (fun c => decide (c.what = .domain d ∧ c.phase = .asserted)) = some c → c.since + 300 ≤ s.now →
      Machine.exec (.resetStuck d) s = .next ((s.escalated).raiseFault 0x90 1 0x0B (((List.range 256).find? (fun p =>
        implemented p && decide (domainOf p = d))).getD 0))) ∧
  (∀ (s : State) (w : ScopeOf) (us : Nat) (c : Scope),
      s.flt.scopes.find? (fun c => decide (c.what = w ∧ c.phase = .settling)) = some c → c.since + 2 ≤ s.now → c.parent ≠ 0 →
      Machine.exec (.resetShadowEnd w us) s = .next ((s.setFlt { s.flt with
        scopes := s.flt.scopes.filter (fun d => decide (d ≠ c)) }).recordStall c.parent us)) ∧
  (∀ (s : State), s.get PWR_STAT_STATE ≠ 2 → s.rst.phase ≠ .off → s.rst.phase ≠ .recovery →
      Machine.exec .tickStall s = .next (s.raiseFault 0x90 6 5 0)) ∧
  (∀ (s : State) (k y : Nat), k < 4 → s.get (GLC_STAT_STATE k) = 1 ∨ s.get (GLC_STAT_STATE k) = 3 →
      Machine.exec (.glenWdog k y) s = .next (s.detectFault (0xD0 + k) 0 7 0 y 0 false)) ∧
  (∀ (s : State) (k us : Nat), s.get (GLC_STAT_STATE k) = 2 →
      Machine.exec (.glenRestartDone k us) s = .next ((s.put (GLC_STAT_STATE k) 1).put (GLC_RESTART_US_US k) us)) ∧
  (∀ (s : State) (p : Port) (u : State), s.accepted p 0x92060 0 = some u →
      Machine.exec (.fltPop p) s = .next ((u.setFlt { u.flt with log := u.flt.log.drop 1 }).refreshArmed)) ∧
  (∀ (s : State) (p : Port) (u : State), s.accepted p 0x93060 0 = some u →
      Machine.exec (.fltFirstClr p) s = .next ((u.setFlt { u.flt with first := none }).refreshArmed))

/-- An event of a block is recorded; a flush takes every record of the ring to Atoll and ends with FLUSH_DONE; FREEZE
stops recording until it is cleared or FREEZE_S has passed; a read of a record by its sequence number answers it, or
that it is gone. It states the next state of: REC_EVENT, HOURS_NOTE, FLUSH, FREEZE, FLUSH_DONE, FREEZE_TIMEOUT,
REC_RD_SEQ, REC_READ_DONE. -/
def Obligations.EventRecorder : Prop :=
  (∀ (s : State) (b code : Nat) (co : Bool) (l : List Word), implemented b = true → s.rst.phase ≠ .off →
      Machine.exec (.recEvent b code co l) s = .next (s.recEvent ⟨2, blockOf b, code % 2 ^ 16, 0, co, false, l.take 7⟩)) ∧
  (∀ (s : State), s.recd.lastRecordTenths + 36000 ≤ s.recd.tenths → s.cfgOn REC_CTRL_EN = true → s.recd.frozen = false →
      Machine.exec .hoursNote s = .next (s.note 2 0)) ∧
  (∀ (s : State) (p : Port) (d : Word) (u : State), d = putBits (s.peek p 0x94040) 8 1 1 → s.accepted p 0x94040 d = some u →
      bitOf d.toNat 8 = true →
      Machine.exec (.flush p) s = .next (((if bitOf d.toNat REC_CTRL_BURST_EN.lo then u.claimBy p ⟨REC_CTRL_BURST_EN, 4, 0x94⟩
        else u.enableFeature ⟨REC_CTRL_BURST_EN, 4, 0x94⟩ false).freezeWritten.flush).refreshArmed)) ∧
  (∀ (s : State) (p : Port) (on : Bool) (d : Word) (u : State), d = putBits (s.peek p 0x94040) 1 1 (b2n on) →
      s.accepted p 0x94040 d = some u → bitOf d.toNat 8 = false →
      Machine.exec (.freeze p on) s = .next (((if bitOf d.toNat REC_CTRL_BURST_EN.lo then u.claimBy p ⟨REC_CTRL_BURST_EN, 4,
        0x94⟩ else u.enableFeature ⟨REC_CTRL_BURST_EN, 4, 0x94⟩ false).freezeWritten).refreshArmed)) ∧
  (∀ (s : State) (failed : List Nat) (t : State), s.recd.flushing = true →
      t = ((s.recd.ring.filter (fun r => decide (r.rseq < s.recd.flushTo % 2 ^ 32))).foldl (State.flushRecord failed) (s.put REC_STAT_STALLED 0)).recRange →
      t.flag REC_STAT_STALLED = false →
      Machine.exec (.flushDone failed) s = .next (((t.setRecd { t.recd with flushing := false }).put REC_STAT_FLUSHING
        0).raiseInt 0x94 3)) ∧
  (∀ (s : State), s.recd.frozen = true → s.recd.frozenAt + s.cfg REC_CFG_FREEZE_S * 1000000 ≤ s.now →
      Machine.exec .freezeTimeout s = .next s.endFreeze) ∧
  (∀ (s : State) (p : Port) (d : Word) (u : State), s.accepted p 0x94200 d = some u →
      Machine.exec (.recRdSeq p d) s = .next ((u.beginRecRead p).refreshArmed)) ∧
  (∀ (s : State) (p : Port) (bad early : Bool) (r : RecRead) (t : State),
      s.recd.reads.find? (fun r => decide (r.reader = p)) = some r → r.rseq < s.get REC_OLDEST_RSEQ →
      t = s.setRecd { s.recd with reads := s.recd.reads.filter (fun q => decide (q.reader ≠ p)) } →
      Machine.exec (.recReadDone p bad early) s = .next (((t.put (REC_RD_STAT_OUTCOME.at p) 2).put (REC_RD_STAT_EARLY.at p)
        0).put (REC_RD_STAT_DONE.at p) 1)) ∧
  (∀ (s : State) (p : Port) (bad early : Bool) (r : RecRead) (x : RecRec) (t : State),
      s.recd.reads.find? (fun r => decide (r.reader = p)) = some r → s.get REC_OLDEST_RSEQ ≤ r.rseq →
      r.rseq ≤ s.get REC_NEWEST_RSEQ → s.recordAt r.rseq = some (x, false) →
      t = s.setRecd { s.recd with reads := s.recd.reads.filter (fun q => decide (q.reader ≠ p)) } →
      Machine.exec (.recReadDone p bad early) s = .next ((((t.setRecWords p x.words).put (REC_RD_STAT_OUTCOME.at p) 0).put
        (REC_RD_STAT_EARLY.at p) 0).put (REC_RD_STAT_DONE.at p) 1))

/-- A command word at C of a source in read mode begins its sequence or acts at once: HALT suspends a running erase,
CONTINUE resumes one, STATUS makes the next read return ATOL_PSTAT, COUNTS enters erase-counter mode for TST in test
mode and is refused with ERR_MODE elsewhere, IDLE ends a sequence; a sequence that takes too long is abandoned; data
cycles and reads of the window, the ends of programs, erases and of the wipe have their effect. It states the next
state of: ATOL_PROGRAM, ATOL_ERASE, ATOL_FLIP, ATOL_PROTECT, ATOL_HALT, ATOL_CONTINUE, ATOL_STATUS, ATOL_COUNTS,
ATOL_IDLE, ATOL_WINDOW_DATA, ATOL_WINDOW_READ, ATOL_SEQ_TIMEOUT, ATOL_PROGRAM_DONE, ATOL_ERASE_DONE, WIPE_DONE,
ATOL_EC, ATOL_READ. -/
def Obligations.AtollCommands : Prop :=
  (∀ (s : State) (p : Port), s.portOpen p = true → s.gated 0x80 = false → s.winOffset p 0x820 = atolC → s.seqOf p = none →
      Machine.exec (.atolProgram p) s = .next ((s.setSeq p (some ⟨0x11, 0, [], 0, s.now⟩)).countWrite 0x80)) ∧
  (∀ (s : State) (p : Port), s.portOpen p = true → s.gated 0x80 = false → s.winOffset p 0x820 = atolC → s.seqOf p = none →
      Machine.exec (.atolErase p) s = .next ((s.setSeq p (some ⟨0x22, 0, [], 0, s.now⟩)).countWrite 0x80)) ∧
  (∀ (s : State) (p : Port), s.portOpen p = true → s.gated 0x80 = false → s.winOffset p 0x820 = atolC → s.seqOf p = none →
      Machine.exec (.atolFlip p) s = .next ((s.setSeq p (some ⟨0x66, 0, [], 0, s.now⟩)).countWrite 0x80)) ∧
  (∀ (s : State) (p : Port) (l : Nat), s.portOpen p = true → s.gated 0x80 = false → s.winOffset p 0x820 = atolC →
      s.seqOf p = none → l < 3 →
      Machine.exec (.atolProtect p l) s = .next ((s.setSeq p (some ⟨0x77, l, [], 0, s.now⟩)).countWrite 0x80)) ∧
  (∀ (s : State) (p : Port) (t : State), s.portOpen p = true → s.gated 0x80 = false → s.winOffset p 0x820 = atolC →
      s.seqOf p = none → s.atol.erase.isSome = true → s.atol.halted = false → s.atol.running = none →
      t = (((s.put (ATOL_PSTAT_MODE.at p) 0).setAtol { s.atol with halted := true, bySave := false }).put ATOL_ARRAY_ERASING 0).put ATOL_ARRAY_SUSPENDED 1 →
      Machine.exec (.atolHalt p) s = .next ((State.runArray 8 (t.bump ATOL_SUSP_COUNT)).countWrite 0x80)) ∧
  (∀ (s : State) (p : Port), s.portOpen p = true → s.gated 0x80 = false → s.winOffset p 0x820 = atolC → s.seqOf p = none →
      s.atol.erase.isSome = true → s.atol.halted = true → s.atol.bySave = false →
      Machine.exec (.atolContinue p) s = .next (((((s.put (ATOL_PSTAT_MODE.at p) 0).setAtol { s.atol with
        halted := false }).put ATOL_ARRAY_ERASING 1).put ATOL_ARRAY_SUSPENDED 0).countWrite 0x80)) ∧
  (∀ (s : State) (p : Port), s.portOpen p = true → s.gated 0x80 = false → s.winOffset p 0x820 = atolC → s.seqOf p = none →
      Machine.exec (.atolStatus p) s = .next ((s.put (ATOL_PSTAT_MODE.at p) 2).countWrite 0x80)) ∧
  (∀ (s : State), s.flag TST_STAT_TEST_MODE = true →
      Machine.exec (.atolCounts .tst) s = .next (s.put (ATOL_PSTAT_MODE.at .tst) 3)) ∧
  (∀ (s : State) (p : Port), p ≠ .tst → s.portOpen p = true → s.gated 0x80 = false → s.winOffset p 0x820 = atolC →
      s.seqOf p = none →
      Machine.exec (.atolCounts p) s = .next (((s.put (ATOL_PSTAT_MODE.at p) 0).setErr p ATOL_PSTAT_ERR_MODE).countWrite 0x80)) ∧
  (∀ (s : State) (p : Port) (q : AtolSeq), s.portOpen p = true → s.gated 0x80 = false → s.winOffset p 0x820 = atolC →
      s.seqOf p = some q → Machine.exec (.atolIdle p) s = .next ((s.setSeq p none).countWrite 0x80)) ∧
  (∀ (s : State) (p : Port) (o : Nat) (d : Word), s.portOpen p = true → s.gated 0x80 = false →
      Machine.exec (.atolWindowData p o d false) s = .next ((s.winWrite p (s.winOffset p (0x40 + o % 0xFC0 / 4 * 4))
        d).countWrite 0x80)) ∧
  (∀ (s : State) (p : Port) (o c : Nat) (ue : Bool) (w : Nat), s.portOpen p = true → s.gated 0x80 = false →
      w = 0x40 + o % 0xFC0 / 4 * 4 →
      Machine.exec (.atolWindowRead p o c ue) s = .next ((s.winRead p (s.winOffset p w) c ue).1.send (.regData p (0x80000 + w)
        (s.winRead p (s.winOffset p w) c ue).2))) ∧
  (∀ (s : State) (p : Port) (q : AtolSeq), s.seqOf p = some q → q.since + s.cfg ATOL_CFG_SEQ_TMO_US ≤ s.now →
      Machine.exec (.atolSeqTimeout p) s = .next (((s.setSeq p none).setErr p ATOL_PSTAT_ERR_SEQ).bump ATOL_SEQERR_COUNT)) ∧
  (∀ (s : State) (n : Nat) (b : Bool) (o : AtolOp), s.atol.running = some o → o.src ≠ 3 →
      Machine.exec (.atolProgramDone n b) s = .next (s.progDone n b)) ∧
  (∀ (s : State) (b : Bool) (o : AtolOp), s.atol.erase = some o → o.src ≠ 3 →
      Machine.exec (.atolEraseDone b) s = .next (s.eraseDone b)) ∧
  (∀ (s : State), s.flag ATOL_PROT_WIPING = true → s.saving = false →
      Machine.exec .wipeDone s = .next (((((s.wiped).recRange).forgetDefects).drawn).deviceReset (s.free % 16))) ∧
  (∀ (s : State) (b : Nat), s.flag TST_STAT_TEST_MODE = true →
      Machine.exec (.atolEc b) s = .next (((s.setTst { s.tst with atol := (s.atolBlk (b % 512)).ec % 2 ^ 24 }).loadIr
        0x23).jtagOut ((s.atolBlk (b % 512)).ec % 2 ^ 24))) ∧
  (∀ (s : State) (b : Nat), s.flag TST_STAT_TEST_MODE = false →
      Machine.exec (.atolEc b) s = .next (((s.setTst { s.tst with atol := 2 ^ 38 }).loadIr 0x23).jtagOut (2 ^ 38))) ∧
  (∀ (s : State) (w c : Nat) (ue : Bool) (o v : Nat) (t u : State) (x : Word), t = s.loadIr 0x22 → t.saving = false →
      o = w % 2 ^ 25 / 4 * 4 → o / 0x10000 < 480 → t.mayRead .tst (o / 0x10000) = true →
      (((t.put (ATOL_RD_STAT_CBITS.at .tst) 0).put (ATOL_RD_STAT_EARLY.at .tst) 0).arrayRead .tst o c ue) = (u, x) →
      v = x.toNat + u.get (ATOL_RD_STAT_CBITS.at .tst) * 2 ^ 32 + u.get (ATOL_RD_STAT_EARLY.at .tst) * 2 ^ 36 + u.get (ATOL_RD_STAT_UE.at .tst) * 2 ^ 37 →
      Machine.exec (.atolRead w c ue true) s = .next ((u.setTst { u.tst with atol := v }).jtagOut v))

/-- A due poll is queued; an idle engine starts the transaction the priorities choose, and one that lost arbitration
starts it again; a transaction ends with its bytes, or fails by NACK, PEC or time-out, or loses arbitration; a stuck
bus is reported and freed; a Host Notify polls the records of its address and is logged; an alert is noted and its ARA
back-off ends after 10 ms; GO takes the management transaction for the engine; TWL_NPOP drops the oldest notification.
It states the next state of: POLL_DUE, TWL_TRANSACTION_START, TWL_TRANSACTION_DONE, TWL_TIMEOUT, BUS_STUCK_RETRY,
HOST_NOTIFY, TWL_NPOP, LOC_ALERT, ARA_BACKOFF, TWL_XCMD_GO. -/
def Obligations.LocalBus : Prop :=
  (∀ (s : State) (n : Nat), s.pollAllowed n = true → Sparse.get (fun _ => 0) s.twl.doneAt n + s.pollInterval n ≤ s.now →
      Machine.exec (.pollDue n) s = .next (s.setTwl { s.twl with due := insertNat s.twl.due n })) ∧
  (∀ (s : State) (w : TwlWork) (x : Twl), s.cfgOn TWL_CTRL_EN = true → s.flag TWL_STAT_STUCK = false → s.rst.phase ≠ .off →
      s.twl.cur = none → s.twlChoice = some w →
      x = { s.twl with cur := some w, retries := 0, lost := false, due := (match w with | .poll n => dropNat s.twl.due n | _ => s.twl.due), araAt := (if w = .ara then some s.now else s.twl.araAt), glen := (if w = .glen then s.twl.glen - 1 else s.twl.glen) } →
      Machine.exec .twlTransactionStart s = .next (((s.setTwl x).put TWL_STAT_TARGET 0).put TWL_STAT_BUSY 1)) ∧
  (∀ (s : State) (w : TwlWork), s.cfgOn TWL_CTRL_EN = true → s.flag TWL_STAT_STUCK = false → s.rst.phase ≠ .off →
      s.twl.cur = some w → s.twl.lost = true →
      Machine.exec .twlTransactionStart s = .next (((s.setTwl { s.twl with lost := false }).put TWL_STAT_TARGET 0).put
        TWL_STAT_BUSY 1)) ∧
  (∀ (s : State) (b : List (BitVec 8)) (w : TwlWork), s.twl.cur = some w → s.twl.lost = false →
      Machine.exec (.twlTransactionDone (.data b)) s = .next (s.twlGood w b)) ∧
  (∀ (s : State) (w : TwlWork), s.twl.cur = some w → s.twl.lost = false →
      Machine.exec (.twlTransactionDone .nack) s = .next (s.twlFailed w 1)) ∧
  (∀ (s : State) (w : TwlWork), s.twl.cur = some w → s.twl.lost = false →
      Machine.exec (.twlTransactionDone .pec) s = .next (s.twlFailed w 2)) ∧
  (∀ (s : State) (k : Nat) (a g : Bool) (w : TwlWork), s.twl.cur = some w → s.twl.lost = false →
      Machine.exec (.twlTransactionDone (.arb k a g)) s = .next (s.twlLost w k a g)) ∧
  (∀ (s : State) (w : TwlWork), s.twl.cur = some w → Machine.exec (.twlTimeout false) s = .next (s.twlFailed w 4)) ∧
  (∀ (s : State) (w : TwlWork) (u : State), s.twl.cur = some w →
      u = (List.range 16).foldl (fun (u : State) n => if u.cfg (TWL_POLL_A_DEST n) ≠ 0 then u.put (TWL_RSTAT_OUTCOME n) 4 else u) ((s.twlFailed w 4).put TWL_STAT_STUCK 1) →
      Machine.exec (.twlTimeout true) s = .next ((u.raiseInt 0x98 3).raiseFault 0x98 1 7 0)) ∧
  (∀ (s : State), Machine.exec (.busStuckRetry true) s = .next (s.put TWL_STAT_STUCK 0)) ∧
  (∀ (s : State) (a v : Nat) (t : State), s.cfgOn TWL_CTRL_EN = true → s.cfgOn TWL_CTRL_TARGET_EN = true →
      s.twl.notifies.length < 8 →
      t = (s.setTwl { s.twl with due := ((List.range 16).filter (fun n => decide (s.cfg (TWL_POLL_A_DEST n) = 1 ∧ s.cfg (TWL_POLL_A_ADDR n) = a % 128))).foldl insertNat s.twl.due }).put TWL_STAT_TARGET 0 →
      Machine.exec (.hostNotify a v) s = .next ((t.setTwl { t.twl with
        notifies := t.twl.notifies ++ [(a % 128, v % 2 ^ 16)] }).raiseInt 0x98 1)) ∧
  (∀ (s : State) (p : Port) (u : State), s.accepted p 0x98094 0 = some u →
      Machine.exec (.twlNpop p) s = .next ((u.setTwl { u.twl with notifies := u.twl.notifies.drop 1 }).refreshArmed)) ∧
  (∀ (s : State) (b : Bool), Machine.exec (.locAlert b) s = .next (s.setTwl { s.twl with alertLow := b })) ∧
  (∀ (s : State) (k : Nat), s.twl.araAt = some k → s.twl.araBackoff = true → k + 10000 ≤ s.now →
      Machine.exec .araBackoff s = .next (s.setTwl { s.twl with araBackoff := false })) ∧
  (∀ (s : State) (p : Port) (d : Word) (u : State), d = putBits (s.peek p 0x98060) 31 1 1 → s.accepted p 0x98060 d = some u →
      bitOf d.toNat 31 = true → u.saving = false → u.twl.mgmt = none →
      Machine.exec (.twlXcmdGo p) s = .next (((u.setTwl { u.twl with mgmt := some u.twlSnapshot }).put TWL_XSTAT_BUSY
        1).refreshArmed))

/-- REG_WRITE of whole words within a page writes them one after another and counts the transaction, REG_READ answers them
with their PEC, RESET with its four bytes requests a reset; a wrong count, a bad address, a bad number of words, an
inactive page and an unlisted command are not acknowledged with causes 2, 3, 4, 5 and 1; an ARA is answered while
alerting; a time-out and an abandoned transfer are counted. It states the next state of: REG_WRITE, REG_READ, RESET,
SB_ARA, SB_TIMEOUT, SB_PROTOCOL_ABANDON, SB_COMMAND_REFUSED. -/
def Obligations.SidebandBus : Prop :=
  (∀ (s : State) (n a : Nat) (x y z : BitVec 8) (ws : List Word) (ok : Bool), s.sbListens = true → 7 ≤ n → n ≤ 35 →
      (n - 3) % 4 = 0 → z.toNat < 16 → a = sbAddr x y z / 4 * 4 → a % 0x1000 + 4 * ((n - 3) / 4) ≤ 0x1000 →
      s.sbGated (a / 0x1000) = false → s.cfgOn TWS_CFG_PEC_REQ = false ∨ ok = true →
      Machine.exec (.regWrite n x y z ws ok) s = .next (((State.writeWords .sideband s a (ws.take ((n - 3) / 4))).bump
        TWS_XACT_COUNT).sbWake (a / 0x1000))) ∧
  (∀ (s : State) (n : Nat) (x y z : BitVec 8) (ws : List Word) (ok : Bool), s.sbListens = true →
      n < 7 ∨ 35 < n ∨ (n - 3) % 4 ≠ 0 → Machine.exec (.regWrite n x y z ws ok) s = .next (s.sbNack 2 0)) ∧
  (∀ (s : State) (n : Nat) (x y z : BitVec 8) (ws : List Word) (ok : Bool), s.sbListens = true → 7 ≤ n → n ≤ 35 →
      (n - 3) % 4 = 0 → 16 ≤ z.toNat ∨ 0x1000 < sbAddr x y z / 4 * 4 % 0x1000 + 4 * ((n - 3) / 4) →
      Machine.exec (.regWrite n x y z ws ok) s = .next (s.sbNack 3 (sbAddr x y z))) ∧
  (∀ (s : State) (n a : Nat) (x y z : BitVec 8) (ws : List Word) (ok : Bool), s.sbListens = true → 7 ≤ n → n ≤ 35 →
      (n - 3) % 4 = 0 → z.toNat < 16 → a = sbAddr x y z / 4 * 4 → a % 0x1000 + 4 * ((n - 3) / 4) ≤ 0x1000 →
      s.sbGated (a / 0x1000) = true →
      Machine.exec (.regWrite n x y z ws ok) s = .next ((((s.noteOff .sideband a true).noteDrop .sideband a 2).sbNack 5 (sbAddr
        x y z)).sbWake (a / 0x1000))) ∧
  (∀ (s : State) (a k : Nat) (x y z : BitVec 8) (t : State) (ws : List Word), s.sbListens = true → z.toNat < 16 → 1 ≤ k →
      k ≤ 8 → a = sbAddr x y z / 4 * 4 → a % 0x1000 + 4 * k ≤ 0x1000 → s.sbGated (a / 0x1000) = false →
      State.readWords .sideband k s a = (t, ws) →
      Machine.exec (.regRead 4 x y z k) s = .next (((t.bump TWS_XACT_COUNT).sbAnswer [BitVec.ofNat 8 (2 * s.get TWS_STAT_ADDR),
        0x02, 4, x, y, z, BitVec.ofNat 8 k, BitVec.ofNat 8 (2 * s.get TWS_STAT_ADDR + 1)] (BitVec.ofNat 8 (4 * k) ::
        wordBytes ws)).sbWake (a / 0x1000))) ∧
  (∀ (s : State) (n k : Nat) (x y z : BitVec 8), s.sbListens = true → n ≠ 4 →
      Machine.exec (.regRead n x y z k) s = .next (s.sbNack 2 0)) ∧
  (∀ (s : State) (k : Nat) (x y z : BitVec 8), s.sbListens = true → 16 ≤ z.toNat →
      Machine.exec (.regRead 4 x y z k) s = .next (s.sbNack 3 (sbAddr x y z))) ∧
  (∀ (s : State) (k : Nat) (x y z : BitVec 8), s.sbListens = true → z.toNat < 16 → k = 0 ∨ 8 < k →
      Machine.exec (.regRead 4 x y z k) s = .next (s.sbNack 4 (sbAddr x y z))) ∧
  (∀ (s : State) (ok : Bool), s.sbListens = true → s.cfgOn TWS_CFG_PEC_REQ = false ∨ ok = true →
      Machine.exec (.reset 4 [0x30, 0x54, 0x53, 0x52] ok) s = .next ((s.bump TWS_XACT_COUNT).requestReset 3)) ∧
  (∀ (s : State), s.sbListens = true → s.flag TWS_STAT_ALERT = true → s.cfgOn TWS_CFG_ARA_EN = true →
      Machine.exec .sbAra s = .next (s.sbAnswer [0x19] [BitVec.ofNat 8 (2 * s.get TWS_STAT_ADDR)])) ∧
  (∀ (s : State), s.sbListens = true → Machine.exec .sbTimeout s = .next (s.bump TWS_TMO_COUNT)) ∧
  (∀ (s : State), s.sbListens = true →
      Machine.exec .sbProtocolAbandon s = .next (((s.bump TWS_PROTO_COUNT).raiseInt 0x99 1).raiseFault 0x99 0 7 0)) ∧
  (∀ (s : State) (k : Nat), s.sbListens = true → k ≠ 1 → k ≠ 2 → k ≠ 0x0F →
      Machine.exec (.sbCommandRefused k) s = .next (s.sbNack 1 0))

/-- A short frame is counted; a good frame is counted, answered and its tag kept; a command that its mode and the state of
the port admit has its effect: an update begins, takes its data in order, ends, is checked and activated, or is
aborted; recovery likewise; protection is set; the erase counts are read in recovery. It states the next state of:
SVC_FRAME_SHORT, IDENT, STATUS, BAD_OP, PKG_BEGIN, UPD_HASH_DONE, UPD_ERASE_DONE, PKG_DATA, PKG_END, UPD_CHECK_DONE,
ACTIVATE, ABORT, RCV_BEGIN, RCV_DATA, RCV_END, RCV_CHECK_DONE, PROT_SET, EC_READ. -/
def Obligations.ServicePort : Prop :=
  (∀ (s : State), s.rst.phase ≠ .off → Machine.exec .svcFrameShort s = .next (s.bump SVC_SHORT_COUNT)) ∧
  (∀ (s : State) (tag : Nat), s.rst.phase ≠ .off →
      Machine.exec (.ident tag false) s = .next ((((s.bump SVC_CRC_ERR_COUNT).raiseInt 0x9C 3).raiseFault 0x9C 0 7 0).svcAnswer
        3 [])) ∧
  (∀ (s : State) (tag : Nat) (t u : State), s.rst.phase ≠ .off → t = s.bump SVC_FRAMES_COUNT →
      u = t.drawn.svcAnswer 0 t.identPayload →
      Machine.exec (.ident tag true) s = .next (u.setSvc { u.svc with lastTag := tag % 2 ^ 16 })) ∧
  (∀ (s : State) (tag : Nat) (t u : State), s.rst.phase ≠ .off → t = s.bump SVC_FRAMES_COUNT →
      u = t.svcAnswer 0 ([BitVec.ofNat 8 (t.get SVC_STAT_STATE), BitVec.ofNat 8 (t.get SVC_STAT_LAST_STATUS)] ++ leBytes 2 t.svc.lastTag ++ leBytes 4 (t.get SVC_DONE_BYTES) ++ leBytes 4 (t.get SVC_TOTAL_BYTES) ++ leBytes 4 t.svc.body.length) →
      Machine.exec (.status tag true) s = .next (u.setSvc { u.svc with lastTag := tag % 2 ^ 16 })) ∧
  (∀ (s : State) (tag : Nat) (t u : State), s.rst.phase ≠ .off → t = s.bump SVC_FRAMES_COUNT → u = t.svcAnswer 0x04 [] →
      Machine.exec (.badOp tag true) s = .next (u.setSvc { u.svc with lastTag := tag % 2 ^ 16 })) ∧
  (∀ (s : State) (tag : Nat) (h : List (BitVec 8)) (t u : State), s.rst.phase ≠ .off → t = s.bump SVC_FRAMES_COUNT →
      t.svcRefusal (s.cfgOn SVC_CTRL_UPD_EN) false false = none → t.cfgOn SVC_CTRL_UPD_EN = true → h.length = 256 →
      t.svcFree = true → t.atol.sel.updPend = false → t.get RST_STAT_ISLE = t.atol.sel.active →
      headerValid h t.mdl.romVer = true → (packageOf h).baseLen ≤ 2097152 →
      u = ((t.svcBegin 1 (packageOf h).targetLen { t.svc with rcv := false, pkg := packageOf h }).put SVC_TARGET_VER_VER (packageOf h).targetVer).svcAnswer 1 [] →
      Machine.exec (.pkgBegin tag true h) s = .next (u.setSvc { u.svc with lastTag := tag % 2 ^ 16 })) ∧
  (∀ (s : State), s.get SVC_STAT_STATE = 1 →
      Machine.exec .updHashDone s = .next (if Config.sha384 (s.isleBytes (s.get RST_STAT_ISLE) s.svc.pkg.baseLen) =
        s.svc.pkg.baseDigest then (s.eventNo 0x9C 0x0901 [s.svc.pkg.targetVer, s.svc.target]).eraseTarget else s.svcFail 8)) ∧
  (∀ (s : State), s.get SVC_STAT_STATE = 2 → s.srcBusy 3 = false →
      Machine.exec .updEraseDone s = .next (((s.setSvc { s.svc with background := false }).put SVC_STAT_STATE 3).put
        SVC_STAT_LAST_STATUS 0)) ∧
  (∀ (s : State) (tag : Nat) (p b : List (BitVec 8)) (t u : State), s.rst.phase ≠ .off → t = s.bump SVC_FRAMES_COUNT →
      t.svcRefusal true false false = none → 5 ≤ p.length → p.length ≤ 4096 → t.get SVC_STAT_STATE = 3 → t.svc.rcv = false →
      field p 0 4 = t.svc.body.length → t.svc.body.length + (p.drop 4).length ≤ t.svc.pkg.bodyLen → t.svc.waiting.length < 2 →
      b = t.svc.body ++ p.drop 4 →
      u = (((t.setSvc { t.svc with body := b, waiting := t.svc.waiting ++ [b.length] }).svcFeed).releaseBuffers).svcAnswer 0 [] →
      Machine.exec (.pkgData tag true p) s = .next (u.setSvc { u.svc with lastTag := tag % 2 ^ 16 })) ∧
  (∀ (s : State) (tag : Nat) (t u : State), s.rst.phase ≠ .off → t = s.bump SVC_FRAMES_COUNT →
      t.svcRefusal true false false = none → t.get SVC_STAT_STATE = 3 → t.svc.rcv = false →
      t.svc.body.length = t.svc.pkg.bodyLen →
      u = ((t.setSvc { t.svc with background := true }).put SVC_STAT_STATE 4).svcAnswer 1 [] →
      Machine.exec (.pkgEnd tag true) s = .next (u.setSvc { u.svc with lastTag := tag % 2 ^ 16 })) ∧
  (∀ (s : State) (t : State), s.svcSettled = true → s.svc.rcv = false → (s.svcTarget s.svc.body.length).2 = .ended →
      (crc32c s.svc.body).toNat = s.svc.pkg.bodyCrc →
      t = ((s.setSvc { s.svc with background := false }).put SVC_STAT_STATE 5).put SVC_STAT_LAST_STATUS 0 →
      Machine.exec .updCheckDone s = .next (if Config.sha384 (s.isleBytes s.svc.target s.svc.pkg.targetLen) ≠
        s.svc.pkg.targetDigest then s.svcFail 0x0B else (t.raiseInt 0x9C 0).eventNo 0x9C 0x0902 [s.svc.pkg.targetVer,
        s.svc.pkg.targetLen])) ∧
  (∀ (s : State) (tag : Nat) (v : State) (t u : State), s.rst.phase ≠ .off → t = s.bump SVC_FRAMES_COUNT →
      t.svcRefusal true false false = none → t.get SVC_STAT_STATE = 5 → t.isleBusy = false →
      v = (t.bootSwap 3).put SVC_STAT_STATE 7 →
      u = ((v.raiseInt 0x9C 2).eventNo 0x9C 0x0904 [v.atol.sel.active, 1]).svcAnswer 0 [BitVec.ofNat 8 v.atol.sel.active] →
      Machine.exec (.activate tag true) s = .next (u.setSvc { u.svc with lastTag := tag % 2 ^ 16 })) ∧
  (∀ (s : State) (tag : Nat) (t u : State), s.rst.phase ≠ .off → t = s.bump SVC_FRAMES_COUNT →
      t.svcRefusal true true true = none → 1 ≤ t.get SVC_STAT_STATE → t.get SVC_STAT_STATE ≤ 4 →
      u = (t.svcFail 0x0D).svcAnswer 0 [] →
      Machine.exec (.abort tag true) s = .next (u.setSvc { u.svc with lastTag := tag % 2 ^ 16 })) ∧
  (∀ (s : State) (tag : Nat) (p : List (BitVec 8)) (t u : State), s.rst.phase ≠ .off → t = s.bump SVC_FRAMES_COUNT →
      t.svcRefusal false true false = none → p.length = 8 → 4096 ≤ field p 0 4 → field p 0 4 ≤ 2097152 → t.svcFree = true →
      u = ((t.svcBegin 2 (field p 0 4) { t.svc with rcv := true, imgCrc := field p 4 4 }).eraseTarget).svcAnswer 1 [] →
      Machine.exec (.rcvBegin tag true p) s = .next (u.setSvc { u.svc with lastTag := tag % 2 ^ 16 })) ∧
  (∀ (s : State) (tag : Nat) (p b : List (BitVec 8)) (t u : State), s.rst.phase ≠ .off → t = s.bump SVC_FRAMES_COUNT →
      t.svcRefusal false true false = none → 5 ≤ p.length → p.length ≤ 4096 → t.get SVC_STAT_STATE = 3 → t.svc.rcv = true →
      field p 0 4 = t.svc.body.length → t.svc.body.length + (p.drop 4).length ≤ t.get SVC_TOTAL_BYTES →
      t.svc.waiting.length < 2 → b = t.svc.body ++ p.drop 4 →
      u = (((t.setSvc { t.svc with body := b, waiting := t.svc.waiting ++ [b.length] }).svcFeed).releaseBuffers).svcAnswer 0 [] →
      Machine.exec (.rcvData tag true p) s = .next (u.setSvc { u.svc with lastTag := tag % 2 ^ 16 })) ∧
  (∀ (s : State) (tag : Nat) (t u : State), s.rst.phase ≠ .off → t = s.bump SVC_FRAMES_COUNT →
      t.svcRefusal false true false = none → t.get SVC_STAT_STATE = 3 → t.svc.rcv = true →
      t.svc.body.length = t.get SVC_TOTAL_BYTES →
      u = ((t.setSvc { t.svc with background := true }).put SVC_STAT_STATE 4).svcAnswer 1 [BitVec.ofNat 8 t.svc.target] →
      Machine.exec (.rcvEnd tag true) s = .next (u.setSvc { u.svc with lastTag := tag % 2 ^ 16 })) ∧
  (∀ (s : State) (t : State), s.svcSettled = true → s.svc.rcv = true →
      (crc32c (s.isleBytes s.svc.target (s.get SVC_TOTAL_BYTES))).toNat = s.svc.imgCrc →
      t = (((s.bootSwap 3).setSvc { s.svc with background := false }).put SVC_STAT_STATE 7).put SVC_STAT_LAST_STATUS 0 →
      Machine.exec .rcvCheckDone s = .next ((t.raiseInt 0x9C 2).eventNo 0x9C 0x0905 [s.isleWord s.svc.target 4, s.get
        SVC_TOTAL_BYTES])) ∧
  (∀ (s : State) (tag l : Nat) (p : List (BitVec 8)) (t u : State), s.rst.phase ≠ .off → t = s.bump SVC_FRAMES_COUNT →
      t.svcRefusal (s.cfgOn SVC_CTRL_PROT_EN) true false = none → t.svcMode = 1 ∨ t.cfgOn SVC_CTRL_PROT_EN = true →
      p.length = 4 → field p 0 4 = 0x4C560000 + l → t.protLevel < l → l ≤ 2 → t.srcBusy 3 = false →
      u = ((t.eventNo 0x9C 0x0906 [t.protLevel, l]).protect 3 l).svcAnswer 0 [] →
      Machine.exec (.protSet tag true p) s = .next (u.setSvc { u.svc with lastTag := tag % 2 ^ 16 })) ∧
  (∀ (s : State) (tag : Nat) (p : List (BitVec 8)) (t u : State), s.rst.phase ≠ .off → t = s.bump SVC_FRAMES_COUNT →
      t.svcRefusal false true false = none → p.length = 4 → field p 2 2 ≠ 0 → field p 0 2 + field p 2 2 ≤ 480 →
      u = t.svcAnswer 0 ((List.range (field p 2 2)).flatMap (fun k => leBytes 4 (t.atolBlk (field p 0 2 + k)).ec)) →
      Machine.exec (.ecRead tag true p) s = .next (u.setSvc { u.svc with lastTag := tag % 2 ^ 16 }))

/-- An accepted write of PWR_MODE.TARGET requests its state; AUTO_TERRACE requests TERRACE after the idle time in L1; at
the stop point of the target the domains switch, the last of them enters the state, a domain that never settles
refuses the entry with a fault, and an exit that ends is back in RUN. It states the next state of: REQUEST_TERRACE,
REQUEST_BASIN, REQUEST_RUN, AUTO_TERRACE, STOP_POINT_REACHED, DOMAIN_READY, DOMAIN_TIMEOUT, EXIT_DONE. -/
def Obligations.PowerStates : Prop :=
  (∀ (s : State) (p : Port) (u : State), s.accepted p 0x3040 (putBits (s.peek p 0x3040) 0 2 1) = some u →
      Machine.exec (.requestTerrace p) s = .next ((u.requestState 1).refreshArmed)) ∧
  (∀ (s : State) (p : Port) (u : State), s.accepted p 0x3040 (putBits (s.peek p 0x3040) 0 2 2) = some u →
      Machine.exec (.requestBasin p) s = .next ((u.requestState 2).refreshArmed)) ∧
  (∀ (s : State) (p : Port) (u : State), s.accepted p 0x3040 (putBits (s.peek p 0x3040) 0 2 0) = some u →
      Machine.exec (.requestRun p) s = .next ((u.requestState 0).refreshArmed)) ∧
  (∀ (s : State) (k : Nat), s.pwr.l1Since = some k → s.served = true → s.cfgOn PWR_MODE_AUTO_TERRACE = true →
      k + s.cfg PWR_CFG_TERRACE_IDLE_US ≤ s.now → s.get PWR_STAT_STATE = 0 →
      Machine.exec (.autoTerrace false) s = .next ((s.setPwr { s.pwr with l1Since := none }).requestState 1)) ∧
  (∀ (s : State), s.pwr.entering = some 1 → s.served = true → s.pwr.switching = false → s.atStopPoint 1 = true →
      Machine.exec .stopPointReached s = .next ((s.setPwr { s.pwr with switching := true }).put PWR_STAT_ENTERING 1)) ∧
  (∀ (s : State), s.pwr.entering = some 2 → s.served = true → s.pwr.switching = false → s.atStopPoint 2 = true →
      Machine.exec .stopPointReached s = .next (((s.setPwr { s.pwr with switching := true }).put PWR_STAT_ENTERING
        1).switchScopes)) ∧
  (∀ (s : State) (k : Nat) (t u : State), s.pwr.entering = some k → s.pwr.switching = true →
      t = (s.setPwr { s.pwr with entering := none, switching := false, enteredAt := s.now }).put PWR_STAT_ENTERING 0 →
      u = (if k = 2 then t.toBasin else t.toTerrace) →
      Machine.exec .domainReady s = .next ((((u.put PWR_STAT_STATE k).put PWR_T_ENTRY_US_US (s.now - s.pwr.since)).raiseInt 0x03
        0).replayWake)) ∧
  (∀ (s : State) (d k : Nat) (t : State), s.pwr.entering = some k → s.pwr.switching = true →
      t = (((s.setPwr { s.pwr with entering := none, switching := false, wakeCode := none }).settleScopes).put PWR_STAT_ENTERING 0).put PWR_STAT_WAKE_LATCHED 0 →
      Machine.exec (.domainTimeout d false) s = .next ((t.raiseFault 0x03 0 7 0).pwrRefuse (firstPage d) k true)) ∧
  (∀ (s : State) (t : State), s.flag PWR_STAT_EXITING = true →
      t = (List.range 4).foldl (fun (v : State) k => v.put (GLC_STAT_STATE k) 1) (if s.get PWR_STAT_STATE = 2 then s.fromBasin else s) →
      Machine.exec .exitDone s = .next ((((t.put PWR_STAT_EXITING 0).put PWR_STAT_STATE 0).put PWR_T_EXIT_US_US (s.now -
        s.pwr.since)).raiseInt 0x03 1))

/-- A due scrub line is read and the position moves on; a round and a scan that run late are reported; each calibration
that is due runs; the capacity test starts and ends; the wear horizon and the telemetry are worked out once their time
has come; DSCR_MPOP drops the oldest mark. It states the next state of: SCRUB_LINE_DUE, ROUND_LATE,
RETENTION_SCAN_DUE, SCAN_LATE, ZQ_DUE, OSC_DUE, FCAL_DUE, ONFI_ZQ_DUE, CAP_TEST_DUE, CAP_GO, CAP_MAX_EXPIRY,
WEAR_HORIZON_UPDATE, TELEMETRY_SAMPLE, DSCR_MPOP. -/
def Obligations.BackgroundUpkeep : Prop :=
  (∀ (s : State) (n : Nat) (t : State), s.upkeepRuns 0x5C = true → s.dscr.due ≠ 0 → n = s.get64 DSCR_POS_LO_ADDR / 64 →
      s.isRestored (n / 1024) = true → n + 1 < s.mdl.scrubLines → t = s.setDscr { s.dscr with due := s.dscr.due - 1 } →
      Machine.exec .scrubLineDue s = .next ((t.drcRead (.share 2) n 2).put64 DSCR_POS_LO_ADDR ((n + 1) * 64))) ∧
  (∀ (s : State), s.dscr.roundOpen = true → s.dscr.lateRaised = false → s.gated 0x5C = false →
      s.cfg DSCR_CFG_ROUND_H * 3600000000 * 9 / 8 < s.now - s.dscr.roundBegan →
      Machine.exec .roundLate s = .next (((s.setDscr { s.dscr with lateRaised := true }).raiseInt 0x5C 1).raiseFault 0x5C 0 7 0)) ∧
  (∀ (s : State) (r : Bool) (l : List Nat) (t : State), s.upkeepRuns 0xA0 = true → s.flag UPK_STAT_RET_RUN = false →
      (if r then s.upk.retFirst = true ∧ s.get RSTR_STAT_PHASE = 4 else s.upk.retAt + s.cfg UPK_SCAN_RET_DAYS * dayUs ≤ s.now) →
      l = ((s.farr.blocks.filter (fun e => decide (e.2.bstate = 1 ∨ e.2.bstate = 2) && (s.liveIn (s.skerryOf (e.1 / 1048576) (e.1 / 65536 % 16) (e.1 % 16384))).isSome)).map (·.1)).flatMap (fun k => [k, k, k]) →
      t = s.setUpk { s.upk with scan := l, retAt := s.now, retFirst := false } →
      Machine.exec (.retentionScanDue r) s = .next ((t.put UPK_STAT_SCAN_LATE 0).put UPK_STAT_RET_RUN (b2n (decide (l ≠ []))))) ∧
  (∀ (s : State), s.flag UPK_STAT_RET_RUN = true → s.flag UPK_STAT_SCAN_LATE = false → s.gated 0xA0 = false →
      s.upk.retAt + s.cfg UPK_SCAN_RET_DAYS * dayUs < s.now →
      Machine.exec .scanLate s = .next (((s.put UPK_STAT_SCAN_LATE 1).raiseInt 0xA0 3).raiseFault 0xA0 1 7 0)) ∧
  (∀ (s : State) (sc l : Nat), s.hasRank sc l = true → s.calDue (zqKey sc l) (s.cfg UPK_CAL_ZQ_MS * 1000) = true →
      Machine.exec (.zqDue sc l) s = .next ((s.wakeLogical sc l).calRun (zqKey sc l) s.pers.tj)) ∧
  (∀ (s : State) (sc l d : Nat), s.hasRank sc l = true → s.calDue (oscKey sc l) (s.cfg UPK_CAL_OSC_MS * 1000) = true →
      d ≤ s.cfg UPK_CAL2_DRIFT_PS →
      Machine.exec (.oscDue sc l d) s = .next ((s.wakeLogical sc l).calRun (oscKey sc l) s.pers.tj)) ∧
  (∀ (s : State) (c d p g x y z k lv : Nat) (t : State), c < 16 → (s.die c d).st = 1 →
      s.calDue (fcalKey c d p g) (s.cfg UPK_CAL2_FCAL_H * 3600000000) = true →
      k = levelKey c d p g (s.block c d p (g * 16)).slc → lv = Sparse.get (fun _ => 0) s.farr.levels k →
      t = (s.calRun (fcalKey c d p g) s.pers.tj).bump64By (FCH_RD_LO_COUNT c) (if lv = 0 then 2 else 3) →
      Machine.exec (.fcalDue c d p g x y z) s = .next (t.setFarr { t.farr with
        levels := Sparse.set (fun _ => 0) t.farr.levels k (bestLevel lv x y z) })) ∧
  (∀ (s : State) (c : Nat), c < 16 → (List.range 16).all (fun d => (s.die c d).busy.isNone) = true →
      s.calDue (onfiKey c) dayUs = true → Machine.exec (.onfiZqDue c) s = .next (s.calRun (onfiKey c) s.tn)) ∧
  (∀ (s : State), s.cfg UPK_CAP_CAP_DAYS ≠ 0 → s.upk.capRefused = false →
      s.upk.capAt + s.cfg UPK_CAP_CAP_DAYS * dayUs ≤ s.now → s.flag UPK_STAT_CAP_RUN = false → s.upkeepRuns 0xA0 = true →
      Machine.exec .capTestDue s = .next ((s.setUpk { s.upk with capAt := s.now, capRefused := s.capRefused }).capBegin)) ∧
  (∀ (s : State) (p : Port) (d : Word) (u : State), d = putBits (s.peek p 0xA004C) 8 1 1 → s.accepted p 0xA004C d = some u →
      bitOf d.toNat 8 = true → Machine.exec (.capGo p) s = .next u.capBegin.refreshArmed) ∧
  (∀ (s : State), s.flag UPK_STAT_CAP_RUN = true → s.upk.capStart + s.cfg UPK_CAP2_CAP_MAX_S * 1000000 ≤ s.now →
      Machine.exec (.capMaxExpiry none) s = .next s.capFinish) ∧
  (∀ (s : State) (l : List (Nat × Nat × Nat)) (w : Sparse (List Nat)) (t : State), s.upkeepRuns 0xA0 = true →
      s.upk.wearAt + dayUs ≤ s.now →
      l = (s.farr.dies.filter (fun e => decide (e.2.st = 1))).map (fun e => (e.1, s.lifeOf (e.1 / 16) (e.1 % 16))) →
      w = l.foldl (fun m e => Sparse.set (fun _ => []) m e.1 ((lifeU e.2 :: Sparse.get (fun _ => []) m e.1).take 8)) s.upk.wear →
      t = s.setUpk { s.upk with wearAt := s.now, wear := w } → limiting l = none →
      Machine.exec .wearHorizonUpdate s = .next t) ∧
  (∀ (s : State) (l : List (Nat × Nat × Nat)) (w : Sparse (List Nat)) (t : State) (e : Nat × Nat × Nat) (n : Nat),
      s.upkeepRuns 0xA0 = true → s.upk.wearAt + dayUs ≤ s.now →
      l = (s.farr.dies.filter (fun e => decide (e.2.st = 1))).map (fun e => (e.1, s.lifeOf (e.1 / 16) (e.1 % 16))) →
      w = l.foldl (fun m e => Sparse.set (fun _ => []) m e.1 ((lifeU e.2 :: Sparse.get (fun _ => []) m e.1).take 8)) s.upk.wear →
      t = s.setUpk { s.upk with wearAt := s.now, wear := w } → limiting l = some e →
      n = wearDays (lifeU e.2) ((Sparse.get (fun _ => []) w e.1)[7]?) →
      Machine.exec .wearHorizonUpdate s = .next ((((((t.put WEAR_HORIZON_PCT (lifeU e.2 * 100 / 65536)).put WEAR_HORIZON_DAYS
        n).put WEAR_U_U (lifeU e.2)).put WEAR_U_DIE (16 * (e.1 % 16) + e.1 / 16)).put WEAR_U_SPARE_LIMITED (b2n (decide
        (e.2.1 < e.2.2)))).horizonWarn (lifeU e.2 * 100 / 65536) n)) ∧
  (∀ (s : State) (tj : Int) (mw : Nat), s.upkeepRuns 0xA1 = true → s.upk.telAt + s.cfg TEL_CFG_TEL_MS * 1000 ≤ s.now →
      ∃ t, Machine.exec (.telemetrySample tj mw) s = .next t ∧ t.upk.telAt = s.now ∧ t.upk.telRd = 0 ∧ t.upk.telWr = 0 ∧
        t.upk.telShadow = 0 ∧ t.upk.telPages = 0 ∧ t.upk.resMax = s.res) ∧
  (∀ (s : State) (p : Port) (u : State), s.accepted p 0x5C0C4 0 = some u →
      Machine.exec (.dscrMpop p) s = .next ((u.setDscr { u.dscr with marks := u.dscr.marks.drop 1 }).refreshArmed))

/-- Test-Logic-Reset loads IDCODE and ends test mode; EXTEST, PRELOAD, CLAMP, HIGHZ, EXTEST_PULSE and EXTEST_TRAIN load
their code, taking the pins in test mode; SAMPLE reads the pins; IDCODE answers 0x1816094F, SYS_ID the identity block,
TST_RESET requests a device reset with code 7, and every other code is BYPASS. It states the next state of: TAP_RESET,
EXTEST, EXTEST_PULSE, EXTEST_TRAIN, CLAMP, HIGHZ, SAMPLE, PRELOAD, IDCODE, TST_RESET, SYS_ID, BYPASS. -/
def Obligations.TestAccess : Prop :=
  (∀ (s : State),
      Machine.exec .tapReset s = .next ((((s.setTst { s.tst with cells := 0, waiting := none }).put TST_STAT_IR 0x03).put
        TST_STAT_HELD 0).leaveTest)) ∧
  (∀ (s : State) (pins : Nat) (v : Option Nat) (t : State), s.saving = false → t = (s.put TST_STAT_IR 0x00).enterTest →
      Machine.exec (.extest pins v) s = .next (t.boundary pins v)) ∧
  (∀ (s : State) (pins : Nat) (v : Option Nat) (t : State), s.saving = true → t = s.put TST_STAT_IR 0x00 →
      Machine.exec (.extest pins v) s = .next (((t.setTst { t.tst with waiting := some 0x00 }).put TST_STAT_HELD 1).boundary
        pins v)) ∧
  (∀ (s : State) (pins : Nat) (v : Option Nat) (t : State), s.saving = false → t = (s.put TST_STAT_IR 0x08).enterTest →
      Machine.exec (.extestPulse pins v) s = .next (t.boundary pins v)) ∧
  (∀ (s : State) (pins : Nat) (v : Option Nat) (t : State), s.saving = false → t = (s.put TST_STAT_IR 0x09).enterTest →
      Machine.exec (.extestTrain pins v) s = .next (t.boundary pins v)) ∧
  (∀ (s : State) (t : State), s.saving = false → t = (s.put TST_STAT_IR 0x04).enterTest →
      Machine.exec .clamp s = .next (t.send (.jtag 0))) ∧
  (∀ (s : State) (t : State), s.saving = false → t = (s.put TST_STAT_IR 0x05).enterTest →
      Machine.exec .highz s = .next (t.send (.jtag 0))) ∧
  (∀ (s : State) (pins : Nat) (t : State), t = s.put TST_STAT_IR 0x01 →
      Machine.exec (.sample pins) s = .next ((((t.setTst { t.tst with waiting := none }).put TST_STAT_HELD
        0).leaveTest).boundary pins none)) ∧
  (∀ (s : State) (pins : Nat) (v : Option Nat) (t : State), t = s.put TST_STAT_IR 0x02 →
      Machine.exec (.preload pins v) s = .next ((((t.setTst { t.tst with waiting := none }).put TST_STAT_HELD
        0).leaveTest).boundary pins v)) ∧
  (∀ (s : State) (t : State), t = s.put TST_STAT_IR 0x03 →
      Machine.exec .idcode s = .next ((((t.setTst { t.tst with waiting := none }).put TST_STAT_HELD 0).leaveTest).send (.jtag
        0x1816094F))) ∧
  (∀ (s : State) (t : State), t = s.put TST_STAT_IR 0x21 →
      Machine.exec .tstReset s = .next ((((t.setTst { t.tst with waiting := none }).put TST_STAT_HELD 0).leaveTest).requestReset
        7)) ∧
  (∀ (s : State) (t u : State), t = s.put TST_STAT_IR 0x20 →
      u = ((t.setTst { t.tst with waiting := none }).put TST_STAT_HELD 0).leaveTest →
      Machine.exec .sysId s = .next (u.send (.jtag (leNat s.identity)))) ∧
  (∀ (s : State) (k : Nat) (t : State), k < 256 →
      [0x00, 0x01, 0x02, 0x03, 0x04, 0x05, 0x08, 0x09, 0x20, 0x21, 0x22, 0x23].contains k = false → t = s.put TST_STAT_IR k →
      Machine.exec (.bypass k) s = .next ((((t.setTst { t.tst with waiting := none }).put TST_STAT_HELD 0).leaveTest).send
        (.jtag 0)))
end

