-- ==== Sys2Proof/Laws/Accepted.lean ====
section
/-! SUPPORT. What a register write that its page accepts leaves, stated once for every register action. -/

namespace Sys2Proof.Machine

/-- A full write that lands at a register outside the Atoll window, the semaphores and the mover's masked and guarded registers
leaves the stored word, the count, and what the write brings about. -/
theorem State.portWord_of_accepted {s u : State} {p : Port} {a : Nat} {d : Word} (h : s.accepted p a d = some u)
    (h1 : a / 0x1000 ≠ 0x80 ∨ a % 0x1000 < 0x40) (h2 : a / 0x100 ≠ 0x41)
    (h3 : a / 0x1000 ≠ 0xB4 ∨ a % 0x1000 < 0x40) : s.portWord p a d = (u.written s p a d).refreshArmed := by
  unfold State.accepted at h
  have h1' : ¬(a / 0x1000 = 0x80 ∧ 0x40 ≤ a % 0x1000) := by omega
  have h2' : ¬(0x4100 ≤ a ∧ a < 0x4200) := by omega
  have h4 : a ≠ 0xB4088 := by omega
  have h5 : ¬(a = 0xB4044 ∨ a = 0xB4048) := by omega
  split at h
  · next hc =>
    simp only [Bool.and_eq_true, Bool.not_eq_true'] at hc
    unfold State.portWord State.busWrite
    split at h
    · cases h
    · next r hr =>
      split at h
      · cases h
      · next hn =>
        cases h
        simp only [hc, h1', h2', hr, if_false, if_true, not_true_eq_false, Bool.false_eq_true]
        unfold State.storeWord
        simp only [hn, h4, h5, false_and, if_false, Bool.false_eq_true]
  · cases h

end Sys2Proof.Machine
end

