-- ==== Sys2Proof/Laws/Sparse.lean ====
section
/-! SUPPORT. Sparse data: reading after a write, and that every operation keeps the canonical form. -/

namespace Sys2Proof.Machine

variable {β : Type} [DecidableEq β] {d : Nat → β}

/-- Rising from above a bound is rising from above any lower one. -/
theorem Sparse.rises_weaken {β : Type} : ∀ (m : Sparse β) (hi lo : Nat), Sparse.risesFrom hi m = true → lo ≤ hi →
    Sparse.risesFrom lo m = true
  | [], _, _, _, _ => rfl
  | (k, _) :: t, hi, lo, h, hle => by
    simp only [Sparse.risesFrom, Bool.and_eq_true, decide_eq_true_eq] at h ⊢
    exact ⟨by omega, h.2⟩

/-- A key that a rising list starts beyond reads as unlisted. -/
theorem Sparse.get_below {β : Type} {d : Nat → β} : ∀ (m : Sparse β) (lo k : Nat), Sparse.risesFrom lo m = true → k < lo → Sparse.get d m k = d k
  | [], _, _, _, _ => rfl
  | (k', v) :: t, lo, k, h, hk => by
    simp only [Sparse.risesFrom, Bool.and_eq_true, decide_eq_true_eq] at h
    have hne : k ≠ k' := by omega
    simp only [Sparse.get, if_neg hne]
    exact Sparse.get_below t (k' + 1) k h.2 (by omega)

/-- Reading the key just written. -/
theorem Sparse.get_set_same_from : ∀ (m : Sparse β) (lo k : Nat) (v : β), Sparse.risesFrom lo m = true →
    Sparse.get d (Sparse.set d m k v) k = v
  | [], _, k, v, _ => by
    by_cases hv : v = d k
    · rw [Sparse.set, if_pos hv]; exact hv.symm
    · rw [Sparse.set, if_neg hv]; simp [Sparse.get]
  | (k', v') :: t, lo, k, v, h => by
    simp only [Sparse.risesFrom, Bool.and_eq_true, decide_eq_true_eq] at h
    by_cases hlt : k < k'
    · rw [Sparse.set, if_pos hlt]
      by_cases hv : v = d k
      · rw [if_pos hv, Sparse.get, if_neg (by omega), Sparse.get_below t (k' + 1) k h.2 (by omega), hv]
      · rw [if_neg hv]; simp [Sparse.get]
    · by_cases heq : k = k'
      · rw [Sparse.set, if_neg hlt, if_pos heq]
        by_cases hv : v = d k
        · rw [if_pos hv, Sparse.get_below t (k' + 1) k h.2 (by omega), hv]
        · rw [if_neg hv]; simp [Sparse.get]
      · rw [Sparse.set, if_neg hlt, if_neg heq, Sparse.get, if_neg heq]
        exact Sparse.get_set_same_from t (k' + 1) k v h.2

/-- A write leaves every other key alone. -/
theorem Sparse.get_set_other : ∀ (m : Sparse β) (k j : Nat) (v : β), j ≠ k →
    Sparse.get d (Sparse.set d m k v) j = Sparse.get d m j
  | [], k, j, v, h => by
    by_cases hv : v = d k <;> simp [Sparse.set, Sparse.get, hv, h]
  | (k', v') :: t, k, j, v, h => by
    by_cases hlt : k < k'
    · by_cases hv : v = d k <;> simp [Sparse.set, Sparse.get, hv, h, hlt]
    · by_cases heq : k = k'
      · subst heq
        by_cases hv : v = d k <;> simp [Sparse.set, Sparse.get, hv, h]
      · simp only [Sparse.set, hlt, heq, if_false, Sparse.get]
        rw [Sparse.get_set_other t k j v h]

/-- A write keeps the keys rising. -/
theorem Sparse.rises_set : ∀ (m : Sparse β) (lo k : Nat) (v : β), Sparse.risesFrom lo m = true → lo ≤ k →
    Sparse.risesFrom lo (Sparse.set d m k v) = true
  | [], lo, k, v, _, hk => by
    by_cases hv : v = d k <;> simp [Sparse.set, Sparse.risesFrom, hv, hk]
  | (k', v') :: t, lo, k, v, h, hk => by
    simp only [Sparse.risesFrom, Bool.and_eq_true, decide_eq_true_eq] at h
    by_cases hlt : k < k'
    · by_cases hv : v = d k
      · simp [Sparse.set, Sparse.risesFrom, hv, hlt, h]
      · simp [Sparse.set, Sparse.risesFrom, hv, hlt, h, hk]
    · by_cases heq : k = k'
      · subst heq
        by_cases hv : v = d k
        · simp only [Sparse.set, lt_self_iff_false, if_false, hv, if_true]
          exact Sparse.rises_weaken t (k + 1) lo h.2 (by omega)
        · simp [Sparse.set, Sparse.risesFrom, hv, h]
      · simp only [Sparse.set, hlt, heq, if_false, Sparse.risesFrom, Bool.and_eq_true, decide_eq_true_eq]
        exact ⟨h.1, Sparse.rises_set t (k' + 1) k v h.2 (by omega)⟩

/-- A write lists nothing but what was listed and the value written, where an unlisted key does not read so. -/
theorem Sparse.all_set : ∀ (m : Sparse β) (k : Nat) (v : β), m.all (fun e => decide (e.2 ≠ d e.1)) = true →
    (Sparse.set d m k v).all (fun e => decide (e.2 ≠ d e.1)) = true
  | [], k, v, _ => by
    by_cases hv : v = d k <;> simp [Sparse.set, hv]
  | (k', v') :: t, k, v, h => by
    rw [List.all_cons, Bool.and_eq_true] at h
    by_cases hlt : k < k'
    · by_cases hv : v = d k
      · rw [Sparse.set, if_pos hlt, if_pos hv, List.all_cons, h.1, h.2]; rfl
      · rw [Sparse.set, if_pos hlt, if_neg hv, List.all_cons, List.all_cons, h.1, h.2]; simpa using hv
    · by_cases heq : k = k'
      · by_cases hv : v = d k
        · rw [Sparse.set, if_neg hlt, if_pos heq, if_pos hv]; exact h.2
        · rw [Sparse.set, if_neg hlt, if_pos heq, if_neg hv, List.all_cons, h.2]; simpa using hv
      · rw [Sparse.set, if_neg hlt, if_neg heq, List.all_cons, h.1, Sparse.all_set t k v h.2]; rfl

/-- A write keeps the canonical form. -/
theorem Sparse.wf_set {m : Sparse β} (k : Nat) (v : β) (h : Sparse.wf d m = true) :
    Sparse.wf d (Sparse.set d m k v) = true := by
  rw [Sparse.wf, Bool.and_eq_true] at h ⊢
  exact ⟨Sparse.rises_set m 0 k v h.1 (Nat.zero_le k), Sparse.all_set m k v h.2⟩

/-- Dropping entries keeps the keys rising. -/
theorem Sparse.rises_filter {β : Type} (f : Nat × β → Bool) : ∀ (m : Sparse β) (lo : Nat),
    Sparse.risesFrom lo m = true → Sparse.risesFrom lo (m.filter f) = true
  | [], _, _ => rfl
  | (k, v) :: t, lo, h => by
    simp only [Sparse.risesFrom, Bool.and_eq_true, decide_eq_true_eq] at h
    have ih := Sparse.rises_filter f t (k + 1) h.2
    by_cases hf : f (k, v) = true
    · rw [List.filter_cons_of_pos hf]
      simpa [Sparse.risesFrom, h.1] using ih
    · rw [List.filter_cons_of_neg hf]
      exact Sparse.rises_weaken _ (k + 1) lo ih (by omega)

/-- Dropping entries keeps the canonical form. -/
theorem Sparse.wf_filter {m : Sparse β} (f : Nat × β → Bool) (h : Sparse.wf d m = true) :
    Sparse.wf d (m.filter f) = true := by
  rw [Sparse.wf, Bool.and_eq_true] at h ⊢
  refine ⟨Sparse.rises_filter f m 0 h.1, ?_⟩
  rw [List.all_eq_true] at h ⊢
  exact fun e he => h.2 e (List.mem_filter.mp he).1

/-- Changing listed values keeps the keys rising. -/
theorem Sparse.rises_map {β : Type} (f : β → β) : ∀ (m : Sparse β) (lo : Nat),
    Sparse.risesFrom lo m = true → Sparse.risesFrom lo (m.map (fun e => (e.1, f e.2))) = true
  | [], _, _ => rfl
  | (k, v) :: t, lo, h => by
    simp only [Sparse.risesFrom, Bool.and_eq_true, List.map_cons] at h ⊢
    exact ⟨h.1, Sparse.rises_map f t (k + 1) h.2⟩

/-- Applying a function to every listed value keeps the canonical form. -/
theorem Sparse.wf_mapVals {m : Sparse β} (f : β → β) (h : Sparse.wf d m = true) :
    Sparse.wf d (Sparse.mapVals d f m) = true := by
  rw [Sparse.wf, Bool.and_eq_true] at h ⊢
  refine ⟨Sparse.rises_filter _ _ 0 (Sparse.rises_map f m 0 h.1), ?_⟩
  rw [List.all_eq_true]
  exact fun e he => (List.mem_filter.mp he).2

end Sys2Proof.Machine
end

