-- ==== Sys2Proof/Laws/Touches.lean ====
section
/-! SUPPORT. `Touches` through the ways a meaning is put together, and through the replacement of one part of the state. -/

namespace Sys2Proof.Machine

/-- A mask within a mask that is within `m` is within `m`. -/
theorem mask_trans {a b m : Nat} (h : a &&& b = a) (hb : b &&& m = b) : a &&& m = a := by
  rw [← h, Nat.and_assoc, hb]

/-- A bit of a mask within `m` is a bit of `m`. -/
theorem mask_bit {a m i : Nat} (h : a &&& m = a) (ha : a.testBit i = true) : m.testBit i = true := by
  have := ha
  rw [← h, Nat.testBit_and, Bool.and_eq_true] at this
  exact this.2

/-- One part: it is the part of `s`, or the mask has it. -/
theorem touch_part {α : Type} {m i : Nat} {x y z : α} (h : x = y ∨ m.testBit i = true) (hz : m.testBit i = false → y = z)
    (hm : m.testBit i = false) : x = z := by
  rcases h with h | h
  · exact h.trans (hz hm)
  · rw [h] at hm; cases hm

/-- Nothing touched. -/
theorem touches_refl (m : Nat) (s : State) : Touches m s s := ⟨fun p _ => by cases p <;> rfl, id⟩

/-- Either way. -/
theorem touches_ite {m : Nat} {z a b : State} {c : Prop} [Decidable c] (ha : Touches m z a) (hb : Touches m z b) :
    Touches m z (if c then a else b) := by
  split
  · exact ha
  · exact hb

/-- A fold. -/
theorem touches_foldl {m : Nat} {z : State} {α : Type} (f : State → α → State) (l : List α) (s : State) (h : Touches m z s)
    (hf : ∀ t a, Touches m z t → Touches m z (f t a)) : Touches m z (l.foldl f s) := by
  induction l generalizing s with
  | nil => exact h
  | cons a l ih => exact ih _ (hf s a h)

/-- A fold over a state and a value. -/
theorem touches_foldl_fst {m : Nat} {z : State} {α β : Type} (f : State × β → α → State × β) (l : List α) (s : State × β)
    (h : Touches m z s.1) (hf : ∀ t a, Touches m z t.1 → Touches m z (f t a).1) : Touches m z (l.foldl f s).1 := by
  induction l generalizing s with
  | nil => exact h
  | cons a l ih => exact ih _ (hf s a h)

/-- A fold over a value and a state. -/
theorem touches_foldl_snd {m : Nat} {z : State} {α β : Type} (f : β × State → α → β × State) (l : List α) (s : β × State)
    (h : Touches m z s.2) (hf : ∀ t a, Touches m z t.2 → Touches m z (f t a).2) : Touches m z (l.foldl f s).2 := by
  induction l generalizing s with
  | nil => exact h
  | cons a l ih => exact ih _ (hf s a h)

/-- A fold that stops where a step finds no state. -/
theorem touches_foldlBind {m : Nat} {z : State} {α : Type} (f : State → α → Option State) (l : List α) (o : Option State)
    (h : ∀ t, o = some t → Touches m z t) (hf : ∀ t a u, Touches m z t → f t a = some u → Touches m z u) :
    ∀ t, l.foldl (fun o a => o.bind (fun t => f t a)) o = some t → Touches m z t := by
  induction l generalizing o with
  | nil => exact h
  | cons a l ih =>
    refine ih _ (fun t ht => ?_)
    obtain ⟨u, hu, hv⟩ := Option.bind_eq_some_iff.mp ht
    exact hf u a t (h u hu) hv

/-- The first part of an alternative between pairs. -/
theorem touches_ite_fst {m : Nat} {z : State} {β : Type} {a b : State × β} {c : Prop} [Decidable c]
    (ha : Touches m z a.1) (hb : Touches m z b.1) : Touches m z (if c then a else b).1 := by
  split
  · exact ha
  · exact hb

/-- Replacing parts other than the module, the clock and the queue. -/
theorem touches_mk {m : Nat} {z s : State}
    {regs' : Sparse Word} {late' : Sparse Word} {latch' : Sparse Word} {freeCtr' : Nat} {dram' : Sparse Line}
    {cfgStore' : Sparse Word} {kept' : Kept} {leases' : Sparse Lease} {mgp' : Mgp} {flt' : Flt} {recd' : Recorder}
    {rst' : Rst} {pwr' : Pwr} {pers' : Pers} {save' : Save} {arr' : Arr} {farr' : Farr} {mov' : Mov} {rstr' : Rstr}
    {hlk' : Hlk} {drc' : Drc} {strt' : Strt} {atol' : Atol} {twl' : Twl} {mbox' : Mbox} {svc' : Svc} {tst' : Tst}
    {dscr' : Dscr} {upk' : Upk} {out' : List Out}
    (hz : Touches m z s)
    (h1 : regs' = s.regs ∨ m.testBit 1 = true) (h2 : late' = s.late ∨ m.testBit 2 = true)
    (h3 : latch' = s.latch ∨ m.testBit 3 = true) (h5 : freeCtr' = s.freeCtr ∨ m.testBit 5 = true)
    (h6 : dram' = s.dram ∨ m.testBit 6 = true) (h7 : cfgStore' = s.cfgStore ∨ m.testBit 7 = true)
    (h8 : kept' = s.kept ∨ m.testBit 8 = true) (h9 : leases' = s.leases ∨ m.testBit 9 = true)
    (h10 : mgp' = s.mgp ∨ m.testBit 10 = true) (h11 : flt' = s.flt ∨ m.testBit 11 = true)
    (h12 : recd' = s.recd ∨ m.testBit 12 = true) (h13 : rst' = s.rst ∨ m.testBit 13 = true)
    (h14 : pwr' = s.pwr ∨ m.testBit 14 = true) (h15 : pers' = s.pers ∨ m.testBit 15 = true)
    (h16 : save' = s.save ∨ m.testBit 16 = true) (h17 : arr' = s.arr ∨ m.testBit 17 = true)
    (h18 : farr' = s.farr ∨ m.testBit 18 = true) (h19 : mov' = s.mov ∨ m.testBit 19 = true)
    (h20 : rstr' = s.rstr ∨ m.testBit 20 = true) (h21 : hlk' = s.hlk ∨ m.testBit 21 = true)
    (h22 : drc' = s.drc ∨ m.testBit 22 = true) (h23 : strt' = s.strt ∨ m.testBit 23 = true)
    (h24 : atol' = s.atol ∨ m.testBit 24 = true) (h25 : twl' = s.twl ∨ m.testBit 25 = true)
    (h26 : mbox' = s.mbox ∨ m.testBit 26 = true) (h27 : svc' = s.svc ∨ m.testBit 27 = true)
    (h28 : tst' = s.tst ∨ m.testBit 28 = true) (h29 : dscr' = s.dscr ∨ m.testBit 29 = true)
    (h30 : upk' = s.upk ∨ m.testBit 30 = true) (h31 : out' = s.out ∨ m.testBit 31 = true)
    (hc : s.Canon → State.Canon (State.mk
      s.mdl regs' late' latch' s.now freeCtr' dram' cfgStore' kept' leases' mgp' flt' recd' rst' pwr' pers' save' arr' farr'
      mov' rstr' hlk' drc' strt' atol' twl' mbox' svc' tst' dscr' upk' out' s.pending)) :
    Touches m z (State.mk
      s.mdl regs' late' latch' s.now freeCtr' dram' cfgStore' kept' leases' mgp' flt' recd' rst' pwr' pers' save' arr' farr'
      mov' rstr' hlk' drc' strt' atol' twl' mbox' svc' tst' dscr' upk' out' s.pending) :=
  ⟨fun
    | .mdl, h => hz.frame .mdl h
    | .regs, h => touch_part h1 (hz.frame .regs) h
    | .late, h => touch_part h2 (hz.frame .late) h
    | .latch, h => touch_part h3 (hz.frame .latch) h
    | .now, h => hz.frame .now h
    | .freeCtr, h => touch_part h5 (hz.frame .freeCtr) h
    | .dram, h => touch_part h6 (hz.frame .dram) h
    | .cfgStore, h => touch_part h7 (hz.frame .cfgStore) h
    | .kept, h => touch_part h8 (hz.frame .kept) h
    | .leases, h => touch_part h9 (hz.frame .leases) h
    | .mgp, h => touch_part h10 (hz.frame .mgp) h
    | .flt, h => touch_part h11 (hz.frame .flt) h
    | .recd, h => touch_part h12 (hz.frame .recd) h
    | .rst, h => touch_part h13 (hz.frame .rst) h
    | .pwr, h => touch_part h14 (hz.frame .pwr) h
    | .pers, h => touch_part h15 (hz.frame .pers) h
    | .save, h => touch_part h16 (hz.frame .save) h
    | .arr, h => touch_part h17 (hz.frame .arr) h
    | .farr, h => touch_part h18 (hz.frame .farr) h
    | .mov, h => touch_part h19 (hz.frame .mov) h
    | .rstr, h => touch_part h20 (hz.frame .rstr) h
    | .hlk, h => touch_part h21 (hz.frame .hlk) h
    | .drc, h => touch_part h22 (hz.frame .drc) h
    | .strt, h => touch_part h23 (hz.frame .strt) h
    | .atol, h => touch_part h24 (hz.frame .atol) h
    | .twl, h => touch_part h25 (hz.frame .twl) h
    | .mbox, h => touch_part h26 (hz.frame .mbox) h
    | .svc, h => touch_part h27 (hz.frame .svc) h
    | .tst, h => touch_part h28 (hz.frame .tst) h
    | .dscr, h => touch_part h29 (hz.frame .dscr) h
    | .upk, h => touch_part h30 (hz.frame .upk) h
    | .out, h => touch_part h31 (hz.frame .out) h
    | .pending, h => hz.frame .pending h,
    fun c => hc (hz.canon c)⟩

/-- Replacing the registers, keeping the canonical form. -/
theorem touches_regs {m : Nat} {z s : State} {x : Sparse Word} (hz : Touches m z s) (hm : 0x2 &&& m = 0x2)
    (hc : Sparse.wf resetWord s.regs = true → Sparse.wf resetWord x = true) : Touches m z { s with regs := x } :=
  ⟨fun p h => by
      cases p <;> first | exact hz.frame _ h | exact absurd (mask_bit (i := 1) hm (by decide)) (fun k => by rw [show m.testBit 1 = false from h] at k; cases k),
    fun c => ⟨hc (hz.canon c).regs, (hz.canon c).dram, (hz.canon c).cfgStore, (hz.canon c).older⟩⟩

/-- Replacing DRAM, keeping the canonical form. -/
theorem touches_dram {m : Nat} {z s : State} {x : Sparse Line} (hz : Touches m z s) (hm : 0x40 &&& m = 0x40)
    (hc : Sparse.wf (fun _ => zeroLine) s.dram = true → Sparse.wf (fun _ => zeroLine) x = true) : Touches m z { s with dram := x } :=
  ⟨fun p h => by
      cases p <;> first | exact hz.frame _ h | exact absurd (mask_bit (i := 6) hm (by decide)) (fun k => by rw [show m.testBit 6 = false from h] at k; cases k),
    fun c => ⟨(hz.canon c).regs, hc (hz.canon c).dram, (hz.canon c).cfgStore, (hz.canon c).older⟩⟩

/-- Replacing the stored configuration, keeping the canonical form. -/
theorem touches_cfg {m : Nat} {z s : State} {x : Sparse Word} (hz : Touches m z s) (hm : 0x80 &&& m = 0x80)
    (hc : s.Canon → Sparse.wf resetWord x = true) : Touches m z { s with cfgStore := x } :=
  ⟨fun p h => by
      cases p <;> first | exact hz.frame _ h | exact absurd (mask_bit (i := 7) hm (by decide)) (fun k => by rw [show m.testBit 7 = false from h] at k; cases k),
    fun c => ⟨(hz.canon c).regs, (hz.canon c).dram, hc (hz.canon c), (hz.canon c).older⟩⟩

/-- Replacing what Atoll keeps, keeping the canonical form. -/
theorem touches_kept {m : Nat} {z s : State} {x : Kept} (hz : Touches m z s) (hm : 0x100 &&& m = 0x100)
    (hc : s.Canon → ∀ e ∈ x.older, Sparse.wf resetWord e.2 = true) : Touches m z { s with kept := x } :=
  ⟨fun p h => by
      cases p <;> first | exact hz.frame _ h | exact absurd (mask_bit (i := 8) hm (by decide)) (fun k => by rw [show m.testBit 8 = false from h] at k; cases k),
    fun c => ⟨(hz.canon c).regs, (hz.canon c).dram, (hz.canon c).cfgStore, hc (hz.canon c)⟩⟩

/-- The clock goes on. -/
theorem touches_now {m : Nat} {z s : State} (hz : Touches m z s) (hm : 0x10 &&& m = 0x10) (n : Nat) :
    Touches m z { s with now := n } :=
  ⟨fun p h => by
      cases p <;> first | exact hz.frame _ h | exact absurd (mask_bit (i := 4) hm (by decide)) (fun k => by rw [show m.testBit 4 = false from h] at k; cases k),
    fun c => ⟨(hz.canon c).regs, (hz.canon c).dram, (hz.canon c).cfgStore, (hz.canon c).older⟩⟩

/-- Storing a register. -/
theorem State.setWord_touches {m : Nat} {z s : State} (hz : Touches m z s) (hp : 0x2 &&& m = 0x2) (k : Nat) (w : Word) :
    Touches m z (State.setWord s k w) :=
  touches_regs hz hp (Sparse.wf_set k w)

/-- Storing a line of DRAM. -/
theorem State.setLine_touches {m : Nat} {z s : State} (hz : Touches m z s) (hp : 0x40 &&& m = 0x40) (l : Nat) (v : Line) :
    Touches m z (State.setLine s l v) :=
  touches_dram hz hp (Sparse.wf_set l v)

/-- Replacing what Atoll keeps by something with the same older stores. -/
theorem State.setKept_touches {m : Nat} {z s : State} (hz : Touches m z s) (hp : 0x100 &&& m = 0x100) (x : Kept)
    (hx : z.Canon → ∀ e ∈ x.older, Sparse.wf resetWord e.2 = true) : Touches m z (State.setKept s x) :=
  ⟨fun p h => by
      cases p <;> first | exact hz.frame _ h | exact absurd (mask_bit (i := 8) hp (by decide)) (fun k => by rw [show m.testBit 8 = false from h] at k; cases k),
    fun c => ⟨(hz.canon c).regs, (hz.canon c).dram, (hz.canon c).cfgStore, hx c⟩⟩

/-- A fold of writes keeps the canonical form. -/
theorem Sparse.wf_foldl {α β : Type} [DecidableEq β] {d : Nat → β} (f : Sparse β → α → Sparse β) (l : List α) (m : Sparse β)
    (h : Sparse.wf d m = true) (hf : ∀ m a, Sparse.wf d m = true → Sparse.wf d (f m a) = true) :
    Sparse.wf d (l.foldl f m) = true := by
  induction l generalizing m with
  | nil => exact h
  | cons a l ih => exact ih _ (hf m a h)

/-- A canonical form carried over to a state with the same registers, DRAM, stored configuration and older stores. -/
theorem canon_same {s t : State} (c : s.Canon) (h1 : t.regs = s.regs) (h2 : t.dram = s.dram) (h3 : t.cfgStore = s.cfgStore)
    (h4 : t.kept = s.kept) : t.Canon :=
  ⟨h1 ▸ c.regs, h2 ▸ c.dram, h3 ▸ c.cfgStore, h4 ▸ c.older⟩

end Sys2Proof.Machine
end

