-- ==== Sys2Proof/Laws/TouchesOps.lean ====
section
/-! SUPPORT. Machine/Ops: which parts of the state each operation can touch (`Touches`). -/

set_option linter.unreachableTactic false
set_option linter.unusedTactic false

namespace Sys2Proof.Machine

/-! ### Machine/Ops -/

theorem State.setPers_touches {m : Nat} {z s : State} (hz : Touches m z s) (hp : 0x8000 &&& m = 0x8000) (x : Pers) :
    Touches m z (State.setPers s x) := by
  apply touches_mk hz <;> first
    | exact Or.inl rfl
    | exact fun c => canon_same c rfl rfl rfl rfl
    | exact Or.inr (mask_bit hp (by decide))

theorem State.setSave_touches {m : Nat} {z s : State} (hz : Touches m z s) (hp : 0x10000 &&& m = 0x10000) (x : Save) :
    Touches m z (State.setSave s x) := by
  apply touches_mk hz <;> first
    | exact Or.inl rfl
    | exact fun c => canon_same c rfl rfl rfl rfl
    | exact Or.inr (mask_bit hp (by decide))

theorem State.setArr_touches {m : Nat} {z s : State} (hz : Touches m z s) (hp : 0x20000 &&& m = 0x20000) (x : Arr) :
    Touches m z (State.setArr s x) := by
  apply touches_mk hz <;> first
    | exact Or.inl rfl
    | exact fun c => canon_same c rfl rfl rfl rfl
    | exact Or.inr (mask_bit hp (by decide))

theorem State.setFarr_touches {m : Nat} {z s : State} (hz : Touches m z s) (hp : 0x40000 &&& m = 0x40000) (x : Farr) :
    Touches m z (State.setFarr s x) := by
  apply touches_mk hz <;> first
    | exact Or.inl rfl
    | exact fun c => canon_same c rfl rfl rfl rfl
    | exact Or.inr (mask_bit hp (by decide))

theorem State.setMov_touches {m : Nat} {z s : State} (hz : Touches m z s) (hp : 0x80000 &&& m = 0x80000) (x : Mov) :
    Touches m z (State.setMov s x) := by
  apply touches_mk hz <;> first
    | exact Or.inl rfl
    | exact fun c => canon_same c rfl rfl rfl rfl
    | exact Or.inr (mask_bit hp (by decide))

theorem State.setRstr_touches {m : Nat} {z s : State} (hz : Touches m z s) (hp : 0x100000 &&& m = 0x100000) (x : Rstr) :
    Touches m z (State.setRstr s x) := by
  apply touches_mk hz <;> first
    | exact Or.inl rfl
    | exact fun c => canon_same c rfl rfl rfl rfl
    | exact Or.inr (mask_bit hp (by decide))

theorem State.setFlt_touches {m : Nat} {z s : State} (hz : Touches m z s) (hp : 0x800 &&& m = 0x800) (x : Flt) :
    Touches m z (State.setFlt s x) := by
  apply touches_mk hz <;> first
    | exact Or.inl rfl
    | exact fun c => canon_same c rfl rfl rfl rfl
    | exact Or.inr (mask_bit hp (by decide))

theorem State.setRecd_touches {m : Nat} {z s : State} (hz : Touches m z s) (hp : 0x1000 &&& m = 0x1000) (x : Recorder) :
    Touches m z (State.setRecd s x) := by
  apply touches_mk hz <;> first
    | exact Or.inl rfl
    | exact fun c => canon_same c rfl rfl rfl rfl
    | exact Or.inr (mask_bit hp (by decide))

theorem State.setRst_touches {m : Nat} {z s : State} (hz : Touches m z s) (hp : 0x2000 &&& m = 0x2000) (x : Rst) :
    Touches m z (State.setRst s x) := by
  apply touches_mk hz <;> first
    | exact Or.inl rfl
    | exact fun c => canon_same c rfl rfl rfl rfl
    | exact Or.inr (mask_bit hp (by decide))

theorem State.setPwr_touches {m : Nat} {z s : State} (hz : Touches m z s) (hp : 0x4000 &&& m = 0x4000) (x : Pwr) :
    Touches m z (State.setPwr s x) := by
  apply touches_mk hz <;> first
    | exact Or.inl rfl
    | exact fun c => canon_same c rfl rfl rfl rfl
    | exact Or.inr (mask_bit hp (by decide))

theorem State.setMgp_touches {m : Nat} {z s : State} (hz : Touches m z s) (hp : 0x400 &&& m = 0x400) (x : Mgp) :
    Touches m z (State.setMgp s x) := by
  apply touches_mk hz <;> first
    | exact Or.inl rfl
    | exact fun c => canon_same c rfl rfl rfl rfl
    | exact Or.inr (mask_bit hp (by decide))

theorem State.setHlk_touches {m : Nat} {z s : State} (hz : Touches m z s) (hp : 0x200000 &&& m = 0x200000) (x : Hlk) :
    Touches m z (State.setHlk s x) := by
  apply touches_mk hz <;> first
    | exact Or.inl rfl
    | exact fun c => canon_same c rfl rfl rfl rfl
    | exact Or.inr (mask_bit hp (by decide))

theorem State.setDrc_touches {m : Nat} {z s : State} (hz : Touches m z s) (hp : 0x400000 &&& m = 0x400000) (x : Drc) :
    Touches m z (State.setDrc s x) := by
  apply touches_mk hz <;> first
    | exact Or.inl rfl
    | exact fun c => canon_same c rfl rfl rfl rfl
    | exact Or.inr (mask_bit hp (by decide))

theorem State.setStrt_touches {m : Nat} {z s : State} (hz : Touches m z s) (hp : 0x800000 &&& m = 0x800000) (x : Strt) :
    Touches m z (State.setStrt s x) := by
  apply touches_mk hz <;> first
    | exact Or.inl rfl
    | exact fun c => canon_same c rfl rfl rfl rfl
    | exact Or.inr (mask_bit hp (by decide))

theorem State.setAtol_touches {m : Nat} {z s : State} (hz : Touches m z s) (hp : 0x1000000 &&& m = 0x1000000) (x : Atol) :
    Touches m z (State.setAtol s x) := by
  apply touches_mk hz <;> first
    | exact Or.inl rfl
    | exact fun c => canon_same c rfl rfl rfl rfl
    | exact Or.inr (mask_bit hp (by decide))

theorem State.setTwl_touches {m : Nat} {z s : State} (hz : Touches m z s) (hp : 0x2000000 &&& m = 0x2000000) (x : Twl) :
    Touches m z (State.setTwl s x) := by
  apply touches_mk hz <;> first
    | exact Or.inl rfl
    | exact fun c => canon_same c rfl rfl rfl rfl
    | exact Or.inr (mask_bit hp (by decide))

theorem State.setMbox_touches {m : Nat} {z s : State} (hz : Touches m z s) (hp : 0x4000000 &&& m = 0x4000000) (x : Mbox) :
    Touches m z (State.setMbox s x) := by
  apply touches_mk hz <;> first
    | exact Or.inl rfl
    | exact fun c => canon_same c rfl rfl rfl rfl
    | exact Or.inr (mask_bit hp (by decide))

theorem State.setSvc_touches {m : Nat} {z s : State} (hz : Touches m z s) (hp : 0x8000000 &&& m = 0x8000000) (x : Svc) :
    Touches m z (State.setSvc s x) := by
  apply touches_mk hz <;> first
    | exact Or.inl rfl
    | exact fun c => canon_same c rfl rfl rfl rfl
    | exact Or.inr (mask_bit hp (by decide))

theorem State.setTst_touches {m : Nat} {z s : State} (hz : Touches m z s) (hp : 0x10000000 &&& m = 0x10000000) (x : Tst) :
    Touches m z (State.setTst s x) := by
  apply touches_mk hz <;> first
    | exact Or.inl rfl
    | exact fun c => canon_same c rfl rfl rfl rfl
    | exact Or.inr (mask_bit hp (by decide))

theorem State.setDscr_touches {m : Nat} {z s : State} (hz : Touches m z s) (hp : 0x20000000 &&& m = 0x20000000) (x : Dscr) :
    Touches m z (State.setDscr s x) := by
  apply touches_mk hz <;> first
    | exact Or.inl rfl
    | exact fun c => canon_same c rfl rfl rfl rfl
    | exact Or.inr (mask_bit hp (by decide))

theorem State.setUpk_touches {m : Nat} {z s : State} (hz : Touches m z s) (hp : 0x40000000 &&& m = 0x40000000) (x : Upk) :
    Touches m z (State.setUpk s x) := by
  apply touches_mk hz <;> first
    | exact Or.inl rfl
    | exact fun c => canon_same c rfl rfl rfl rfl
    | exact Or.inr (mask_bit hp (by decide))

theorem State.put_touches {m : Nat} {z s : State} (hz : Touches m z s) (hp : 0x2 &&& m = 0x2) (f : Fld) (v : ℕ) :
    Touches m z (State.put s f v) := by
  unfold State.put
  with_reducible repeat' first
    | assumption | apply State.setWord_touches | exact mask_trans (by decide) hp

theorem State.put64_touches {m : Nat} {z s : State} (hz : Touches m z s) (hp : 0x2 &&& m = 0x2) (f : Fld) (v : ℕ) :
    Touches m z (State.put64 s f v) := by
  unfold State.put64
  with_reducible repeat' first
    | assumption | apply State.put_touches | exact mask_trans (by decide) hp

theorem State.drawn_touches {m : Nat} {z s : State} (hz : Touches m z s) (hp : 0x20 &&& m = 0x20) : Touches m z (State.drawn s) := by
  apply touches_mk hz <;> first
    | exact Or.inl rfl
    | exact fun c => canon_same c rfl rfl rfl rfl
    | exact Or.inr (mask_bit hp (by decide))

theorem State.bumpSat_touches {m : Nat} {z s : State} (hz : Touches m z s) (hp : 0x2 &&& m = 0x2) (f : Fld) :
    Touches m z (State.bumpSat s f) := by
  unfold State.bumpSat
  with_reducible repeat' first
    | assumption | apply State.put_touches | exact mask_trans (by decide) hp | apply touches_ite

theorem State.bumpBy_touches {m : Nat} {z s : State} (hz : Touches m z s) (hp : 0x22 &&& m = 0x22) (f : Fld) (n : ℕ) :
    Touches m z (State.bumpBy s f n) := by
  unfold State.bumpBy
  with_reducible repeat' first
    | assumption | apply State.put_touches | apply State.drawn_touches | exact mask_trans (by decide) hp | apply touches_ite

theorem State.bump_touches {m : Nat} {z s : State} (hz : Touches m z s) (hp : 0x22 &&& m = 0x22) (f : Fld) :
    Touches m z (State.bump s f) := by
  unfold State.bump
  with_reducible repeat' first
    | assumption | apply State.bumpBy_touches | exact mask_trans (by decide) hp

theorem State.bump64By_touches {m : Nat} {z s : State} (hz : Touches m z s) (hp : 0x2 &&& m = 0x2) (f : Fld) (n : ℕ) :
    Touches m z (State.bump64By s f n) := by
  unfold State.bump64By
  with_reducible repeat' first
    | assumption | apply State.put64_touches | exact mask_trans (by decide) hp

theorem State.bump64_touches {m : Nat} {z s : State} (hz : Touches m z s) (hp : 0x2 &&& m = 0x2) (f : Fld) :
    Touches m z (State.bump64 s f) := by
  unfold State.bump64
  with_reducible repeat' first
    | assumption | apply State.bump64By_touches | exact mask_trans (by decide) hp

theorem State.send_touches {m : Nat} {z s : State} (hz : Touches m z s) (hp : 0x80000000 &&& m = 0x80000000) (o : Out) :
    Touches m z (State.send s o) := by
  apply touches_mk hz <;> first
    | exact Or.inl rfl
    | exact fun c => canon_same c rfl rfl rfl rfl
    | exact Or.inr (mask_bit hp (by decide))

theorem State.lateOk_touches {m : Nat} {z s : State} (hz : Touches m z s) (hp : 0x2 &&& m = 0x2) (p : ℕ) :
    Touches m z (State.lateOk s p) := by
  unfold State.lateOk
  with_reducible repeat' first
    | assumption | apply State.bumpSat_touches | exact mask_trans (by decide) hp

theorem State.claim_touches {m : Nat} {z s : State} (hz : Touches m z s) (hp : 0x2 &&& m = 0x2) (e : ℕ) (b : ℕ) (pg : ℕ) :
    Touches m z (State.claim s e b pg) := by
  unfold State.claim
  with_reducible repeat' first
    | assumption | apply State.put_touches | exact mask_trans (by decide) hp | apply touches_ite

theorem State.release_touches {m : Nat} {z s : State} (hz : Touches m z s) (hp : 0x2 &&& m = 0x2) (e : ℕ) (b : ℕ) :
    Touches m z (State.release s e b) := by
  unfold State.release
  with_reducible repeat' first
    | assumption | apply State.put_touches | exact mask_trans (by decide) hp | apply touches_ite

theorem State.enableFeature_touches {m : Nat} {z s : State} (hz : Touches m z s) (hp : 0x2 &&& m = 0x2)
    (f : Feature) (on : Bool) :
    Touches m z (State.enableFeature s f on) := by
  unfold State.enableFeature
  with_reducible repeat' first
    | assumption | apply State.put_touches | apply State.claim_touches | apply State.release_touches
    | exact mask_trans (by decide) hp | apply touches_ite

theorem State.preempt_touches {m : Nat} {z s : State} (hz : Touches m z s) (hp : 0x2 &&& m = 0x2) (e : ℕ) :
    Touches m z (State.preempt s e) := by
  unfold State.preempt
  with_reducible repeat' first
    | assumption | apply State.put_touches | exact mask_trans (by decide) hp | split

theorem State.setIslet_touches {m : Nat} {z s : State} (hz : Touches m z s) (hp : 0x40 &&& m = 0x40)
    (i : ℕ) (ls : List (ℕ × Line)) :
    Touches m z (State.setIslet s i ls) := by
  unfold State.setIslet
  exact touches_foldl _ _ _ (touches_dram hz hp (Sparse.wf_filter _)) (fun t a ht => State.setLine_touches ht hp _ _)

end Sys2Proof.Machine
end

