-- ==== Sys2Proof/Laws/TouchesFlags.lean ====
section
/-! SUPPORT. Machine/Flags, Machine/Dram, Machine/Pers, Machine/CxlCore, Machine/Path: which parts of the state each operation can touch (`Touches`). -/

set_option linter.unreachableTactic false
set_option linter.unusedTactic false

namespace Sys2Proof.Machine

/-! ### Machine/Flags -/

theorem State.switchScopes_touches {m : Nat} {z s : State} (hz : Touches m z s) (hp : 0x800 &&& m = 0x800) :
    Touches m z (State.switchScopes s) := by
  unfold State.switchScopes
  with_reducible repeat' first
    | assumption | extract_lets | apply touches_mk | exact Or.inl rfl | exact Or.inr (mask_bit hp (by decide))
    | exact fun c => canon_same c rfl rfl rfl rfl

theorem State.wake_touches {m : Nat} {z s : State} (hz : Touches m z s) (hp : 0x4802 &&& m = 0x4802) (c : ℕ) :
    Touches m z (State.wake s c) := by
  unfold State.wake
  with_reducible repeat' first
    | assumption | apply State.put_touches | apply State.switchScopes_touches | exact mask_trans (by decide) hp
    | apply touches_ite | extract_lets | apply touches_mk | exact Or.inl rfl | exact Or.inr (mask_bit hp (by decide))
    | exact fun c => canon_same c rfl rfl rfl rfl

theorem State.vectorUp_touches {m : Nat} {z s : State} (hz : Touches m z s) (hp : 0x80000400 &&& m = 0x80000400) (v : ℕ) :
    Touches m z (State.vectorUp s v) := by
  unfold State.vectorUp
  with_reducible repeat' first
    | assumption | apply State.send_touches | exact mask_trans (by decide) hp | apply touches_ite | extract_lets
    | apply touches_mk | exact Or.inl rfl | exact Or.inr (mask_bit hp (by decide)) | exact fun c => canon_same c rfl rfl rfl rfl

theorem State.settle_touches {m : Nat} {z s : State} (hz : Touches m z s) (hp : 0x80004C02 &&& m = 0x80004C02) :
    Touches m z (State.settle s) := by
  unfold State.settle
  with_reducible repeat' first
    | assumption | apply State.vectorUp_touches | apply State.put_touches | apply State.wake_touches
    | exact mask_trans (by decide) hp | apply touches_ite | apply touches_foldl | intro t a ht | extract_lets | apply touches_mk
    | exact Or.inl rfl | exact Or.inr (mask_bit hp (by decide)) | exact fun c => canon_same c rfl rfl rfl rfl

theorem State.raiseMask_touches {m₀ : Nat} {z₀ s : State} (hz : Touches m₀ z₀ s) (hp : 0x80004C02 &&& m₀ = 0x80004C02)
    (p : ℕ) (m : ℕ) :
    Touches m₀ z₀ (State.raiseMask s p m) := by
  unfold State.raiseMask
  with_reducible repeat' first
    | assumption | apply State.settle_touches | apply State.put_touches | exact mask_trans (by decide) hp

theorem State.raiseInt_touches {m : Nat} {z s : State} (hz : Touches m z s) (hp : 0x80004C02 &&& m = 0x80004C02)
    (p : ℕ) (b : ℕ) :
    Touches m z (State.raiseInt s p b) := by
  unfold State.raiseInt
  with_reducible repeat' first
    | assumption | apply State.raiseMask_touches | exact mask_trans (by decide) hp

theorem State.mergeRecord_touches {m : Nat} {z s : State} (hz : Touches m z s) (hp : 0x1022 &&& m = 0x1022) :
    Touches m z (State.mergeRecord s) := by
  unfold State.mergeRecord
  with_reducible repeat' first
    | assumption | apply State.bump_touches | exact mask_trans (by decide) hp | split | extract_lets | apply touches_mk
    | exact Or.inl rfl | exact Or.inr (mask_bit hp (by decide)) | exact fun c => canon_same c rfl rfl rfl rfl

theorem State.flush_touches {m : Nat} {z s : State} (hz : Touches m z s) (hp : 0x1022 &&& m = 0x1022) :
    Touches m z (State.flush s) := by
  unfold State.flush
  with_reducible repeat' first
    | assumption | apply State.bump_touches | apply State.put_touches | exact mask_trans (by decide) hp | apply touches_ite
    | extract_lets | apply touches_mk | exact Or.inl rfl | exact Or.inr (mask_bit hp (by decide))
    | exact fun c => canon_same c rfl rfl rfl rfl

theorem State.appendRecord_touches {m : Nat} {z s : State} (hz : Touches m z s) (hp : 0x80005C22 &&& m = 0x80005C22)
    (e : RecEvent) :
    Touches m z (State.appendRecord s e) := by
  unfold State.appendRecord
  with_reducible repeat' first
    | assumption | apply State.put_touches | apply State.raiseInt_touches | apply State.flush_touches
    | exact mask_trans (by decide) hp | apply touches_ite | extract_lets | apply touches_mk | exact Or.inl rfl
    | exact Or.inr (mask_bit hp (by decide)) | exact fun c => canon_same c rfl rfl rfl rfl

theorem State.refuseRecord_touches {m : Nat} {z s : State} (hz : Touches m z s) (hp : 0x80005C22 &&& m = 0x80005C22) :
    Touches m z (State.refuseRecord s) := by
  unfold State.refuseRecord
  with_reducible repeat' first
    | assumption | apply State.raiseInt_touches | apply State.bump_touches | exact mask_trans (by decide) hp | extract_lets
    | apply touches_mk | exact Or.inl rfl | exact Or.inr (mask_bit hp (by decide)) | exact fun c => canon_same c rfl rfl rfl rfl

theorem State.note_touches {m : Nat} {z s : State} (hz : Touches m z s) (hp : 0x80005C22 &&& m = 0x80005C22)
    (n : ℕ) (detail : ℕ) :
    Touches m z (State.note s n detail) := by
  unfold State.note
  with_reducible repeat' first
    | assumption | apply State.appendRecord_touches | apply State.refuseRecord_touches | exact mask_trans (by decide) hp
    | apply touches_ite

theorem State.storeEvent_touches {m : Nat} {z s : State} (hz : Touches m z s) (hp : 0x80005C22 &&& m = 0x80005C22)
    (e : RecEvent) :
    Touches m z (State.storeEvent s e) := by
  unfold State.storeEvent
  with_reducible repeat' first
    | assumption | apply State.mergeRecord_touches | apply State.note_touches | apply State.appendRecord_touches
    | apply State.refuseRecord_touches | exact mask_trans (by decide) hp | apply touches_ite | extract_lets | apply touches_mk
    | exact Or.inl rfl | exact Or.inr (mask_bit hp (by decide)) | exact fun c => canon_same c rfl rfl rfl rfl

theorem State.endFreeze_touches {m : Nat} {z s : State} (hz : Touches m z s) (hp : 0x80005C22 &&& m = 0x80005C22) :
    Touches m z (State.endFreeze s) := by
  unfold State.endFreeze
  with_reducible repeat' first
    | assumption | apply State.put_touches | apply State.raiseInt_touches | apply State.note_touches
    | exact mask_trans (by decide) hp | apply touches_ite | extract_lets | apply touches_mk | exact Or.inl rfl
    | exact Or.inr (mask_bit hp (by decide)) | exact fun c => canon_same c rfl rfl rfl rfl

theorem State.recEvent_touches {m : Nat} {z s : State} (hz : Touches m z s) (hp : 0x80005C22 &&& m = 0x80005C22)
    (e : RecEvent) :
    Touches m z (State.recEvent s e) := by
  unfold State.recEvent
  with_reducible repeat' first
    | assumption | apply State.bump_touches | apply State.storeEvent_touches | apply State.endFreeze_touches
    | exact mask_trans (by decide) hp | apply touches_ite | extract_lets | apply touches_mk | exact Or.inl rfl
    | exact Or.inr (mask_bit hp (by decide)) | exact fun c => canon_same c rfl rfl rfl rfl

theorem State.event_touches {m : Nat} {z s : State} (hz : Touches m z s) (hp : 0x80005C22 &&& m = 0x80005C22)
    (k : EventKind) (block : ℕ) (detail : List ℕ) :
    Touches m z (State.event s k block detail) := by
  unfold State.event
  with_reducible repeat' first
    | assumption | apply State.recEvent_touches | exact mask_trans (by decide) hp

/-! ### Machine/Dram -/

theorem State.openRow_touches {m : Nat} {z s : State} (hz : Touches m z s) (hp : 0x400002 &&& m = 0x400002) (line : ℕ) :
    Touches m z (State.openRow s line) := by
  unfold State.openRow
  with_reducible repeat' first
    | assumption | apply State.bump64_touches | exact mask_trans (by decide) hp | apply touches_ite | extract_lets
    | apply touches_mk | exact Or.inl rfl | exact Or.inr (mask_bit hp (by decide)) | exact fun c => canon_same c rfl rfl rfl rfl

theorem State.wakeRank_touches {m : Nat} {z s : State} (hz : Touches m z s) (hp : 0x2 &&& m = 0x2) (line : ℕ) :
    Touches m z (State.wakeRank s line) := by
  unfold State.wakeRank
  with_reducible repeat' first
    | assumption | apply State.put_touches | exact mask_trans (by decide) hp | apply touches_ite | extract_lets

theorem State.closeBank_touches {m : Nat} {z s : State} (hz : Touches m z s) (hp : 0x400000 &&& m = 0x400000) (bank : ℕ) :
    Touches m z (State.closeBank s bank) := by
  unfold State.closeBank
  with_reducible repeat' first
    | assumption | extract_lets | apply touches_mk | exact Or.inl rfl | exact Or.inr (mask_bit hp (by decide))
    | exact fun c => canon_same c rfl rfl rfl rfl

theorem State.afterHint_touches {m : Nat} {z s : State} (hz : Touches m z s) (hp : 0x400000 &&& m = 0x400000)
    (line : ℕ) (hint : ℕ) :
    Touches m z (State.afterHint s line hint) := by
  unfold State.afterHint
  with_reducible repeat' first
    | assumption | apply State.closeBank_touches | exact mask_trans (by decide) hp | apply touches_ite

theorem State.passOver_touches {m : Nat} {z s : State} (hz : Touches m z s) (hp : 0x400022 &&& m = 0x400022) (line : ℕ) :
    Touches m z (State.passOver s line) := by
  unfold State.passOver
  with_reducible repeat' first
    | assumption | apply State.bumpBy_touches | exact mask_trans (by decide) hp | apply touches_ite | extract_lets
    | apply touches_mk | exact Or.inl rfl | exact Or.inr (mask_bit hp (by decide)) | exact fun c => canon_same c rfl rfl rfl rfl

theorem State.serveReq_touches {m : Nat} {z s : State} (hz : Touches m z s) (hp : 0x400022 &&& m = 0x400022) (r : DramReq) :
    Touches m z (State.serveReq s r) := by
  unfold State.serveReq
  with_reducible repeat' first
    | assumption | apply State.passOver_touches | apply State.openRow_touches | apply State.wakeRank_touches
    | apply State.afterHint_touches | apply State.bump64_touches | exact mask_trans (by decide) hp | apply touches_ite
    | extract_lets

theorem State.enqueueReq_touches {m : Nat} {z s : State} (hz : Touches m z s) (hp : 0x400022 &&& m = 0x400022) (r : DramReq) :
    Touches m z (State.enqueueReq s r) := by
  unfold State.enqueueReq
  with_reducible repeat' first
    | assumption | apply State.bump_touches | exact mask_trans (by decide) hp | apply touches_ite | extract_lets
    | apply touches_mk | exact Or.inl rfl | exact Or.inr (mask_bit hp (by decide)) | exact fun c => canon_same c rfl rfl rfl rfl

theorem State.drcReq_touches {m : Nat} {z s : State} (hz : Touches m z s) (hp : 0x400022 &&& m = 0x400022) (r : DramReq) :
    Touches m z (State.drcReq s r) := by
  unfold State.drcReq
  with_reducible repeat' first
    | assumption | apply State.enqueueReq_touches | apply State.serveReq_touches | exact mask_trans (by decide) hp
    | apply touches_ite

theorem State.drcRead_touches {m : Nat} {z s : State} (hz : Touches m z s) (hp : 0x400022 &&& m = 0x400022)
    (cls : DramClass) (line : ℕ) (hint : ℕ) :
    Touches m z (State.drcRead s cls line hint) := by
  unfold State.drcRead
  with_reducible repeat' first
    | assumption | apply State.drcReq_touches | exact mask_trans (by decide) hp

theorem State.drcWrite_touches {m : Nat} {z s : State} (hz : Touches m z s) (hp : 0x400022 &&& m = 0x400022)
    (cls : DramClass) (line : ℕ) (hint : ℕ) :
    Touches m z (State.drcWrite s cls line hint) := by
  unfold State.drcWrite
  with_reducible repeat' first
    | assumption | apply State.drcReq_touches | exact mask_trans (by decide) hp

theorem State.drcIslet_touches {m : Nat} {z s : State} (hz : Touches m z s) (hp : 0x400002 &&& m = 0x400002)
    (i : ℕ) (write : Bool) :
    Touches m z (State.drcIslet s i write) := by
  unfold State.drcIslet
  with_reducible repeat' first
    | assumption | apply State.openRow_touches | apply State.wakeRank_touches | apply State.bump64By_touches
    | exact mask_trans (by decide) hp | apply touches_ite | apply touches_foldl | intro t a ht | extract_lets

theorem State.storeLine_touches {m : Nat} {z s : State} (hz : Touches m z s) (hp : 0x400062 &&& m = 0x400062)
    (cls : DramClass) (line : ℕ) (hint : ℕ) (data : LineData) (be : BitVec 64) (poison : Bool) :
    Touches m z (State.storeLine s cls line hint data be poison) := by
  unfold State.storeLine
  with_reducible repeat' first
    | assumption | apply State.setLine_touches | apply State.drcWrite_touches | apply State.bump_touches
    | apply State.drcRead_touches | exact mask_trans (by decide) hp | apply touches_ite | extract_lets

theorem State.dscErr_touches {m : Nat} {z s : State} (hz : Touches m z s) (hp : 0x2 &&& m = 0x2)
    (line : ℕ) (r : Requester) (ue : Bool) (psn : Bool) (device : ℕ) (nsym : ℕ) :
    Touches m z (State.dscErr s line r ue psn device nsym) := by
  unfold State.dscErr
  with_reducible repeat' first
    | assumption | apply State.put_touches | exact mask_trans (by decide) hp | apply touches_ite | extract_lets

theorem State.readPoison_touches {m : Nat} {z s : State} (hz : Touches m z s) (hp : 0x80005C22 &&& m = 0x80005C22)
    (line : ℕ) (r : Requester) :
    Touches m z (State.readPoison s line r) := by
  unfold State.readPoison
  with_reducible repeat' first
    | assumption | apply State.dscErr_touches | apply State.bump_touches | apply State.event_touches
    | exact mask_trans (by decide) hp | apply touches_ite | extract_lets

/-! ### Machine/Pers -/

theorem State.setRec_touches {m : Nat} {z s : State} (hz : Touches m z s) (hp : 0x8000 &&& m = 0x8000) (i : ℕ) (r : IsletRec) :
    Touches m z (State.setRec s i r) := by
  unfold State.setRec
  with_reducible repeat' first
    | assumption | apply State.setPers_touches | exact mask_trans (by decide) hp | extract_lets

theorem State.setBit_touches {m : Nat} {z s : State} (hz : Touches m z s) (hp : 0x8000 &&& m = 0x8000) (i : ℕ) :
    Touches m z (State.setBit s i) := by
  unfold State.setBit
  with_reducible repeat' first
    | assumption | apply State.setPers_touches | exact mask_trans (by decide) hp

theorem State.refreshBars_touches {m : Nat} {z s : State} (hz : Touches m z s) (hp : 0x2 &&& m = 0x2) :
    Touches m z (State.refreshBars s) := by
  unfold State.refreshBars
  with_reducible repeat' first
    | assumption | apply State.put_touches | exact mask_trans (by decide) hp | split

theorem State.refreshBand_touches {m : Nat} {z s : State} (hz : Touches m z s) (hp : 0x2 &&& m = 0x2) :
    Touches m z (State.refreshBand s) := by
  unfold State.refreshBand
  with_reducible repeat' first
    | assumption | apply State.put_touches | exact mask_trans (by decide) hp | apply touches_ite | extract_lets

theorem State.refreshQueues_touches {m : Nat} {z s : State} (hz : Touches m z s) (hp : 0x2 &&& m = 0x2) :
    Touches m z (State.refreshQueues s) := by
  unfold State.refreshQueues
  with_reducible repeat' first
    | assumption | apply State.put_touches | exact mask_trans (by decide) hp

theorem State.refreshArmed_touches {m : Nat} {z s : State} (hz : Touches m z s) (hp : 0x80004C02 &&& m = 0x80004C02) :
    Touches m z (State.refreshArmed s) := by
  unfold State.refreshArmed
  with_reducible repeat' first
    | assumption | apply State.put_touches | apply State.raiseInt_touches | exact mask_trans (by decide) hp | apply touches_ite

theorem State.refresh_touches {m : Nat} {z s : State} (hz : Touches m z s) (hp : 0x80004C02 &&& m = 0x80004C02) :
    Touches m z (State.refresh s) := by
  unfold State.refresh
  with_reducible repeat' first
    | assumption | apply State.refreshArmed_touches | apply State.refreshQueues_touches | apply State.refreshBand_touches
    | apply State.refreshBars_touches | apply State.put_touches | exact mask_trans (by decide) hp

theorem State.setRes_touches {m : Nat} {z s : State} (hz : Touches m z s) (hp : 0xC0004C02 &&& m = 0xC0004C02) (n : ℕ) :
    Touches m z (State.setRes s n) := by
  unfold State.setRes
  with_reducible repeat' first
    | assumption | apply State.refresh_touches | apply State.put_touches | apply State.setUpk_touches
    | exact mask_trans (by decide) hp | extract_lets

theorem State.markProvisional_touches {m : Nat} {z s : State} (hz : Touches m z s) (hp : 0x8022 &&& m = 0x8022) (i : ℕ) :
    Touches m z (State.markProvisional s i) := by
  unfold State.markProvisional
  with_reducible repeat' first
    | assumption | apply State.bump_touches | exact mask_trans (by decide) hp | apply touches_ite | extract_lets
    | apply touches_mk | exact Or.inl rfl | exact Or.inr (mask_bit hp (by decide)) | exact fun c => canon_same c rfl rfl rfl rfl

theorem State.firstWrite_touches {m : Nat} {z s : State} (hz : Touches m z s) (hp : 0xC000CC22 &&& m = 0xC000CC22) (i : ℕ) :
    Touches m z (State.firstWrite s i) := by
  unfold State.firstWrite
  with_reducible repeat' first
    | assumption | apply State.setRec_touches | apply State.markProvisional_touches | apply State.setRes_touches
    | exact mask_trans (by decide) hp | apply touches_ite | extract_lets

theorem State.touch_touches {m : Nat} {z s : State} (hz : Touches m z s) (hp : 0xC000CC22 &&& m = 0xC000CC22) (i : ℕ) :
    Touches m z (State.touch s i) := by
  unfold State.touch
  with_reducible repeat' first
    | assumption | apply State.firstWrite_touches | apply State.setBit_touches | exact mask_trans (by decide) hp
    | apply touches_ite

theorem State.recordLost_touches {m : Nat} {z s : State} (hz : Touches m z s) (hp : 0xC000CC02 &&& m = 0xC000CC02) (i : ℕ) :
    Touches m z (State.recordLost s i) := by
  unfold State.recordLost
  with_reducible repeat' first
    | assumption | apply State.setRec_touches | apply State.setRes_touches | exact mask_trans (by decide) hp | apply touches_ite
    | extract_lets

theorem State.mapWordLost_touches {m : Nat} {z s : State} (hz : Touches m z s) (hp : 0xC000CC22 &&& m = 0xC000CC22) (word : ℕ) :
    Touches m z (State.mapWordLost s word) := by
  unfold State.mapWordLost
  with_reducible repeat' first
    | assumption | apply State.firstWrite_touches | apply State.setBit_touches | exact mask_trans (by decide) hp
    | apply touches_ite | apply touches_foldl | intro t a ht | extract_lets

theorem State.computeBudget_touches {m : Nat} {z s : State} (hz : Touches m z s) (hp : 0x8000CC02 &&& m = 0x8000CC02) (tj : ℤ) :
    Touches m z (State.computeBudget s tj) := by
  unfold State.computeBudget
  with_reducible repeat' first
    | assumption | apply State.refresh_touches | apply State.put_touches | apply State.setPers_touches
    | apply State.raiseInt_touches | exact mask_trans (by decide) hp | apply touches_ite | extract_lets

theorem State.evalLevel_touches {m : Nat} {z s : State} (hz : Touches m z s) (hp : 0x80004C02 &&& m = 0x80004C02) :
    Touches m z (State.evalLevel s) := by
  unfold State.evalLevel
  with_reducible repeat' first
    | assumption | apply State.raiseInt_touches | apply State.put_touches | exact mask_trans (by decide) hp | apply touches_ite
    | extract_lets

theorem State.postBarrier_touches {m : Nat} {z s : State} (hz : Touches m z s) (hp : 0x8000CC02 &&& m = 0x8000CC02) (tag : ℕ) :
    Touches m z (State.postBarrier s tag) := by
  unfold State.postBarrier
  with_reducible repeat' first
    | assumption | apply State.raiseInt_touches | apply State.put_touches | apply State.refresh_touches
    | apply State.setPers_touches | exact mask_trans (by decide) hp | split | extract_lets

theorem State.completeBarriers_touches {m : Nat} {z s : State} (hz : Touches m z s) (hp : 0x8000CC02 &&& m = 0x8000CC02)
    (l : List Barrier) : Touches m z (State.completeBarriers l s) := by
  induction l generalizing s with
  | nil => unfold State.completeBarriers; with_reducible repeat' first | assumption | apply State.setPers_touches | apply State.put_touches | apply State.raiseInt_touches | exact mask_trans (by decide) hp
  | cons a t ih =>
    unfold State.completeBarriers
    with_reducible repeat' first | assumption | apply ih | apply State.setPers_touches | apply State.put_touches | apply State.raiseInt_touches | exact mask_trans (by decide) hp | apply touches_ite | split

theorem State.startBarCounts_touches {m : Nat} {z s : State} (hz : Touches m z s) (hp : 0x8000 &&& m = 0x8000) (e : ℕ) :
    Touches m z (State.startBarCounts s e) := by
  unfold State.startBarCounts
  with_reducible repeat' first
    | assumption | apply State.setPers_touches | exact mask_trans (by decide) hp | apply touches_ite | extract_lets

theorem State.endLookup_touches {m : Nat} {z s : State} (hz : Touches m z s) (hp : 0x8002 &&& m = 0x8002) (i : ℕ) :
    Touches m z (State.endLookup s i) := by
  unfold State.endLookup
  with_reducible repeat' first
    | assumption | apply State.put_touches | apply State.setPers_touches | exact mask_trans (by decide) hp | apply touches_ite
    | extract_lets

/-! ### Machine/CxlCore -/

theorem State.vector0_touches {m : Nat} {z s : State} (hz : Touches m z s) (hp : 0x80000000 &&& m = 0x80000000) :
    Touches m z (State.vector0 s) := by
  unfold State.vector0
  with_reducible repeat' first
    | assumption | apply State.send_touches | exact mask_trans (by decide) hp | apply touches_ite

theorem State.cxlEvent_touches {m : Nat} {z s : State} (hz : Touches m z s) (hp : 0x84000000 &&& m = 0x84000000)
    (w : CxlWhat) (dpa : ℕ) :
    Touches m z (State.cxlEvent s w dpa) := by
  unfold State.cxlEvent
  with_reducible repeat' first
    | assumption | apply State.setMbox_touches | apply State.vector0_touches | exact mask_trans (by decide) hp
    | apply touches_ite | extract_lets

theorem State.needsCare_touches {m : Nat} {z s : State} (hz : Touches m z s) (hp : 0x4000000 &&& m = 0x4000000) :
    Touches m z (State.needsCare s) := by
  unfold State.needsCare
  with_reducible repeat' first
    | assumption | apply State.setMbox_touches | exact mask_trans (by decide) hp | extract_lets

theorem State.degraded_touches {m : Nat} {z s : State} (hz : Touches m z s) (hp : 0x84000000 &&& m = 0x84000000) :
    Touches m z (State.degraded s) := by
  unfold State.degraded
  with_reducible repeat' first
    | assumption | apply State.setMbox_touches | apply State.cxlEvent_touches | exact mask_trans (by decide) hp | extract_lets

theorem State.wearLog_touches {m : Nat} {z s : State} (hz : Touches m z s) (hp : 0x84000000 &&& m = 0x84000000) :
    Touches m z (State.wearLog s) := by
  unfold State.wearLog
  with_reducible repeat' first
    | assumption | apply State.cxlEvent_touches | apply State.needsCare_touches | exact mask_trans (by decide) hp

theorem State.markPoison_touches {m : Nat} {z s : State} (hz : Touches m z s) (hp : 0x4000000 &&& m = 0x4000000)
    (lines : List ℕ) (source : ℕ) :
    Touches m z (State.markPoison s lines source) := by
  unfold State.markPoison
  with_reducible repeat' first
    | assumption | apply State.setMbox_touches | exact mask_trans (by decide) hp | apply touches_ite | apply touches_foldl
    | intro t a ht | extract_lets

theorem State.poisonIslet_touches {m : Nat} {z s : State} (hz : Touches m z s) (hp : 0x4000040 &&& m = 0x4000040) (i : ℕ) :
    Touches m z (State.poisonIslet s i) := by
  unfold State.poisonIslet
  with_reducible repeat' first
    | assumption | apply State.markPoison_touches | apply State.setIslet_touches | exact mask_trans (by decide) hp

/-! ### Machine/Path -/

theorem State.answer_touches {m : Nat} {z s : State} (hz : Touches m z s) (hp : 0x80000000 &&& m = 0x80000000) (o : Out) :
    Touches m z (State.answer s o) := by
  unfold State.answer
  with_reducible repeat' first
    | assumption | apply State.send_touches | exact mask_trans (by decide) hp | apply touches_ite

theorem State.reply_touches {m : Nat} {z s : State} (hz : Touches m z s) (hp : 0x80000000 &&& m = 0x80000000)
    (r : MemReq) (o : ℕ → Out) :
    Touches m z (State.reply s r o) := by
  unfold State.reply
  with_reducible repeat' first
    | assumption | apply State.answer_touches | exact mask_trans (by decide) hp | split

theorem State.hostRead_touches {m : Nat} {z s : State} (hz : Touches m z s) (hp : 0x80400022 &&& m = 0x80400022) (r : MemReq) :
    Touches m z (State.hostRead s r) := by
  unfold State.hostRead
  with_reducible repeat' first
    | assumption | apply State.drcRead_touches | apply State.reply_touches | apply State.bump_touches
    | exact mask_trans (by decide) hp | apply touches_ite | extract_lets

theorem State.hostWrite_touches {m : Nat} {z s : State} (hz : Touches m z s) (hp : 0xC440CC62 &&& m = 0xC440CC62) (r : MemReq) :
    Touches m z (State.hostWrite s r) := by
  unfold State.hostWrite
  with_reducible repeat' first
    | assumption | apply State.storeLine_touches | apply State.touch_touches | apply State.markPoison_touches
    | apply State.reply_touches | exact mask_trans (by decide) hp | apply touches_ite | extract_lets

theorem State.refreshHeld_touches {m : Nat} {z s : State} (hz : Touches m z s) (hp : 0x2 &&& m = 0x2) :
    Touches m z (State.refreshHeld s) := by
  unfold State.refreshHeld
  with_reducible repeat' first
    | assumption | apply State.put_touches | exact mask_trans (by decide) hp

theorem State.grantSlots_touches {m : Nat} {z s : State} (hz : Touches m z s) (hp : 0x100002 &&& m = 0x100002) :
    Touches m z (State.grantSlots s) := by
  unfold State.grantSlots
  with_reducible repeat' first
    | assumption | apply State.refreshHeld_touches | apply State.setRstr_touches | exact mask_trans (by decide) hp
    | apply touches_ite | extract_lets

theorem State.requestFaultIn_touches {m : Nat} {z s : State} (hz : Touches m z s) (hp : 0x100002 &&& m = 0x100002) (i : ℕ) :
    Touches m z (State.requestFaultIn s i) := by
  unfold State.requestFaultIn
  with_reducible repeat' first
    | assumption | apply State.grantSlots_touches | apply State.setRstr_touches | exact mask_trans (by decide) hp
    | apply touches_ite | extract_lets

theorem State.holdForRestore_touches {m : Nat} {z s : State} (hz : Touches m z s) (hp : 0x100002 &&& m = 0x100002)
    (r : MemReq) :
    Touches m z (State.holdForRestore s r) := by
  unfold State.holdForRestore
  with_reducible repeat' first
    | assumption | apply State.requestFaultIn_touches | apply State.setRstr_touches | exact mask_trans (by decide) hp
    | extract_lets

theorem State.enterHold_touches {m : Nat} {z s : State} (hz : Touches m z s) (hp : 0x8022 &&& m = 0x8022) (r : MemReq) :
    Touches m z (State.enterHold s r) := by
  unfold State.enterHold
  with_reducible repeat' first
    | assumption | apply State.setPers_touches | apply State.bump_touches | exact mask_trans (by decide) hp | extract_lets

/-- What a request's disposal leaves, if it is disposed of. -/
theorem State.dispose_touches {m : Nat} {z s u : State} {r : MemReq} (hu : State.dispose s r = some u)
    (hz : Touches m z s) (hp : 0xC440CC62 &&& m = 0xC440CC62) : Touches m z u := by
  unfold State.dispose at hu
  repeat' split at hu
  all_goals first
    | contradiction
    | (cases hu; first
        | exact State.hostRead_touches hz (mask_trans (by decide) hp) _
        | exact State.enterHold_touches hz (mask_trans (by decide) hp) _
        | exact State.hostWrite_touches hz (mask_trans (by decide) hp) _)

theorem State.serveTable_touches {m : Nat} {z s : State} (hz : Touches m z s) (hp : 0xC450CC62 &&& m = 0xC450CC62)
    (l : List MemReq) (kept : List MemReq) : Touches m z (State.serveTable l kept s) := by
  induction l generalizing s kept with
  | nil => unfold State.serveTable; with_reducible repeat' first | assumption | apply State.setRstr_touches | exact mask_trans (by decide) hp
  | cons a t ih =>
    unfold State.serveTable
    with_reducible repeat' first | assumption | apply ih | apply State.setRstr_touches | refine State.dispose_touches ‹_› ?_ ?_ | exact mask_trans (by decide) hp | apply touches_ite | split

theorem State.serveBuf_touches {m : Nat} {z s : State} (hz : Touches m z s) (hp : 0xC470CC62 &&& m = 0xC470CC62)
    (l : List MemReq) (kept : List MemReq) : Touches m z (State.serveBuf l kept s) := by
  induction l generalizing s kept with
  | nil => unfold State.serveBuf; with_reducible repeat' first | assumption | apply State.setHlk_touches | apply State.holdForRestore_touches | exact mask_trans (by decide) hp
  | cons a t ih =>
    unfold State.serveBuf
    with_reducible repeat' first | assumption | apply ih | apply State.setHlk_touches | apply State.holdForRestore_touches | refine State.dispose_touches ‹_› ?_ ?_ | exact mask_trans (by decide) hp | apply touches_ite | split

theorem State.refreshHlk_touches {m : Nat} {z s : State} (hz : Touches m z s) (hp : 0x80204C02 &&& m = 0x80204C02) :
    Touches m z (State.refreshHlk s) := by
  unfold State.refreshHlk
  with_reducible repeat' first
    | assumption | apply State.refreshQueues_touches | apply State.put_touches | apply State.raiseInt_touches
    | exact mask_trans (by decide) hp | apply touches_ite | extract_lets | apply touches_mk | exact Or.inl rfl
    | exact Or.inr (mask_bit hp (by decide)) | exact fun c => canon_same c rfl rfl rfl rfl

theorem State.serve_touches {m : Nat} {z s : State} (hz : Touches m z s) (hp : 0xC470CC62 &&& m = 0xC470CC62) :
    Touches m z (State.serve s) := by
  unfold State.serve
  with_reducible repeat' first
    | assumption | apply State.serveTable_touches | apply State.refreshHlk_touches | apply State.refreshHeld_touches
    | apply State.serveBuf_touches | exact mask_trans (by decide) hp | extract_lets

theorem State.countReq_touches {m : Nat} {z s : State} (hz : Touches m z s) (hp : 0x40000022 &&& m = 0x40000022) (r : MemReq) :
    Touches m z (State.countReq s r) := by
  unfold State.countReq
  with_reducible repeat' first
    | assumption | apply State.bump64_touches | apply State.setUpk_touches | apply State.bump_touches
    | exact mask_trans (by decide) hp | apply touches_ite | extract_lets

theorem State.buffer_touches {m : Nat} {z s : State} (hz : Touches m z s) (hp : 0x200000 &&& m = 0x200000) (r : MemReq) :
    Touches m z (State.buffer s r) := by
  unfold State.buffer
  with_reducible repeat' first
    | assumption | apply State.setHlk_touches | exact mask_trans (by decide) hp | extract_lets

theorem State.arrive_touches {m : Nat} {z s : State} (hz : Touches m z s) (hp : 0xC470CC62 &&& m = 0xC470CC62) (r : MemReq) :
    Touches m z (State.arrive s r) := by
  unfold State.arrive
  with_reducible repeat' first
    | assumption | apply State.buffer_touches | apply State.holdForRestore_touches | apply State.hostRead_touches
    | apply State.setPers_touches | apply State.hostWrite_touches | apply State.refreshHlk_touches
    | exact mask_trans (by decide) hp | apply touches_ite | extract_lets

theorem State.judgeHead_touches {m : Nat} {z s : State} (hz : Touches m z s) (hp : 0xC440CC62 &&& m = 0xC440CC62)
    (l : List HeldWrite) : Touches m z (State.judgeHead l s) := by
  induction l generalizing s with
  | nil => unfold State.judgeHead; with_reducible repeat' first | assumption | apply State.setPers_touches | apply State.hostWrite_touches | exact mask_trans (by decide) hp
  | cons a t ih =>
    unfold State.judgeHead
    with_reducible repeat' first | assumption | apply ih | apply State.setPers_touches | apply State.hostWrite_touches | exact mask_trans (by decide) hp | apply touches_ite | split

theorem State.recordRead_touches {m : Nat} {z s : State} (hz : Touches m z s) (hp : 0xC470CC62 &&& m = 0xC470CC62) :
    Touches m z (State.recordRead s) := by
  unfold State.recordRead
  with_reducible repeat' first
    | assumption | apply State.setPers_touches | apply State.serve_touches | apply State.buffer_touches
    | exact mask_trans (by decide) hp | split | extract_lets | refine State.dispose_touches ‹_› ?_ ?_

theorem State.admitHead_touches {m : Nat} {z s : State} (hz : Touches m z s) (hp : 0xC470CC62 &&& m = 0xC470CC62) :
    Touches m z (State.admitHead s) := by
  unfold State.admitHead
  with_reducible repeat' first
    | assumption | apply State.serve_touches | apply State.judgeHead_touches | apply State.hostWrite_touches
    | apply State.setPers_touches | exact mask_trans (by decide) hp | split | extract_lets

theorem State.admitAll_touches {m : Nat} {z s : State} (hz : Touches m z s) (hp : 0xC470CC62 &&& m = 0xC470CC62) :
    Touches m z (State.admitAll s) := by
  unfold State.admitAll
  with_reducible repeat' first
    | assumption | apply State.serve_touches | apply State.hostWrite_touches | apply State.setPers_touches
    | exact mask_trans (by decide) hp | apply touches_foldl | intro t a ht | extract_lets

end Sys2Proof.Machine
end

