-- ==== Sys2Proof/Laws/TouchesArray.lean ====
section
/-! SUPPORT. Machine/Array: which parts of the state each operation can touch (`Touches`). -/

set_option linter.unreachableTactic false
set_option linter.unusedTactic false

namespace Sys2Proof.Machine

/-! ### Machine/Array -/

theorem State.setDie_touches {m : Nat} {z s : State} (hz : Touches m z s) (hp : 0x40000 &&& m = 0x40000)
    (c : ℕ) (d : ℕ) (x : DieRec) :
    Touches m z (State.setDie s c d x) := by
  unfold State.setDie
  with_reducible repeat' first
    | assumption | apply State.setFarr_touches | exact mask_trans (by decide) hp | extract_lets

theorem State.setBlock_touches {m : Nat} {z s : State} (hz : Touches m z s) (hp : 0x40000 &&& m = 0x40000)
    (c : ℕ) (d : ℕ) (p : ℕ) (b : ℕ) (x : BlkRec) :
    Touches m z (State.setBlock s c d p b x) := by
  unfold State.setBlock
  with_reducible repeat' first
    | assumption | apply State.setFarr_touches | exact mask_trans (by decide) hp | extract_lets

theorem State.setMedia_touches {m₀ : Nat} {z₀ s : State} (hz : Touches m₀ z₀ s) (hp : 0x40000 &&& m₀ = 0x40000) (m : Media) :
    Touches m₀ z₀ (State.setMedia s m) := by
  unfold State.setMedia
  with_reducible repeat' first
    | assumption | apply State.setFarr_touches | exact mask_trans (by decide) hp | extract_lets

theorem State.setSk_touches {m : Nat} {z s : State} (hz : Touches m z s) (hp : 0x40000 &&& m = 0x40000) (k : ℕ) (x : SkRec) :
    Touches m z (State.setSk s k x) := by
  unfold State.setSk
  with_reducible repeat' first
    | assumption | apply State.setMedia_touches | exact mask_trans (by decide) hp | extract_lets

theorem State.noteEntry_touches {m : Nat} {z s : State} (hz : Touches m z s) (hp : 0x40000 &&& m = 0x40000) (e : JEntry) :
    Touches m z (State.noteEntry s e) := by
  unfold State.noteEntry
  with_reducible repeat' first
    | assumption | apply State.setMedia_touches | exact mask_trans (by decide) hp | apply touches_ite | extract_lets

theorem State.moveBand_touches {m : Nat} {z s : State} (hz : Touches m z s) (hp : 0x40000 &&& m = 0x40000) (k : ℕ) (band : ℕ) :
    Touches m z (State.moveBand s k band) := by
  unfold State.moveBand
  with_reducible repeat' first
    | assumption | apply State.noteEntry_touches | apply State.setSk_touches | exact mask_trans (by decide) hp | extract_lets

theorem State.takeRows_touches {m : Nat} {z s : State} (hz : Touches m z s) (hp : 0x40000 &&& m = 0x40000)
    (band : ℕ) (slc : Bool) (n : ℕ) (k : ℕ) (row : ℕ) :
    Touches m z (State.takeRows s band slc n k row) := by
  unfold State.takeRows
  with_reducible repeat' first
    | assumption | apply State.moveBand_touches | apply State.setSk_touches | exact mask_trans (by decide) hp
    | apply touches_ite | extract_lets

theorem State.programKey_touches {m : Nat} {z s : State} (hz : Touches m z s) (hp : 0x40000 &&& m = 0x40000)
    (slc : Bool) (rows : ℕ) (key : ℕ) :
    Touches m z (State.programKey s slc rows key) := by
  unfold State.programKey
  with_reducible repeat' first
    | assumption | apply State.setFarr_touches | exact mask_trans (by decide) hp | apply touches_ite | extract_lets

theorem State.rowsProgrammed_touches {m : Nat} {z s : State} (hz : Touches m z s) (hp : 0x40000 &&& m = 0x40000)
    (k : ℕ) (rows : ℕ) :
    Touches m z (State.rowsProgrammed s k rows) := by
  unfold State.rowsProgrammed
  with_reducible repeat' first
    | assumption | apply State.programKey_touches | exact mask_trans (by decide) hp | apply touches_foldl | intro t a ht

theorem State.refreshFarr_touches {m : Nat} {z s : State} (hz : Touches m z s) (hp : 0x2 &&& m = 0x2) :
    Touches m z (State.refreshFarr s) := by
  unfold State.refreshFarr
  with_reducible repeat' first
    | assumption | apply State.put_touches | exact mask_trans (by decide) hp | apply touches_ite | apply touches_foldl
    | intro t a ht | extract_lets

theorem State.refreshDie_touches {m : Nat} {z s : State} (hz : Touches m z s) (hp : 0x2 &&& m = 0x2) (c : ℕ) (d : ℕ) :
    Touches m z (State.refreshDie s c d) := by
  unfold State.refreshDie
  with_reducible repeat' first
    | assumption | apply State.put_touches | exact mask_trans (by decide) hp | apply touches_foldl | intro t a ht | extract_lets

theorem State.eraseBlocks_touches {m : Nat} {z s : State} (hz : Touches m z s) (hp : 0x40000 &&& m = 0x40000)
    (failed : List ℕ) :
    Touches m z (State.eraseBlocks s failed) := by
  unfold State.eraseBlocks
  with_reducible repeat' first
    | assumption | apply State.setFarr_touches | exact mask_trans (by decide) hp | extract_lets

theorem State.substitute_touches {m : Nat} {z s : State} (hz : Touches m z s) (hp : 0x40000 &&& m = 0x40000)
    (k : ℕ) (c : ℕ) (b : ℕ) :
    Touches m z (State.substitute s k c b) := by
  unfold State.substitute
  with_reducible repeat' first
    | assumption | apply State.noteEntry_touches | apply State.setFarr_touches | exact mask_trans (by decide) hp | extract_lets

/-- Where every column finds a substitute, only what `substitute` touches is touched (R199, R255). -/
theorem State.substituteAll_touches {m : Nat} {z s : State} (hz : Touches m z s) (hp : 0x40000 &&& m = 0x40000) :
    ∀ u, s.substituteAll = some u → Touches m z u := by
  unfold State.substituteAll
  refine touches_foldlBind _ _ _ (fun t ht => by cases ht; exact hz) (fun t a u ht hu => ?_)
  split at hu
  · obtain ⟨b, _, rfl⟩ := Option.map_eq_some_iff.mp hu
    exact State.substitute_touches ht (mask_trans (by decide) hp) _ _ _
  · cases hu; exact ht

/-- The state with its substitutes, or as it was. -/
theorem State.substituteAll_getD_touches {m : Nat} {z s : State} (hz : Touches m z s) (hp : 0x40000 &&& m = 0x40000) :
    Touches m z (s.substituteAll.getD s) := by
  have h := State.substituteAll_touches hz hp
  cases hs : s.substituteAll with
  | none => exact hz
  | some u => exact h u hs

theorem State.writeSuperblock_touches {m : Nat} {z s : State} (hz : Touches m z s) (hp : 0x40000 &&& m = 0x40000) :
    Touches m z (State.writeSuperblock s) := by
  unfold State.writeSuperblock
  with_reducible repeat' first
    | assumption | apply State.setMedia_touches | exact mask_trans (by decide) hp | apply touches_ite | apply touches_foldl
    | intro t a ht | extract_lets

theorem State.useJournal_touches {m : Nat} {z s : State} (hz : Touches m z s) (hp : 0x40000 &&& m = 0x40000) (n : ℕ) :
    Touches m z (State.useJournal s n) := by
  unfold State.useJournal
  with_reducible repeat' first
    | assumption | apply State.setMedia_touches | apply State.rowsProgrammed_touches | apply State.setSk_touches
    | exact mask_trans (by decide) hp | split | extract_lets

theorem State.openJournal_touches {m : Nat} {z s : State} (hz : Touches m z s) (hp : 0x40000 &&& m = 0x40000) :
    Touches m z (State.openJournal s) := by
  unfold State.openJournal
  with_reducible repeat' first
    | assumption | apply State.takeRows_touches | apply State.rowsProgrammed_touches | apply State.writeSuperblock_touches
    | apply State.setMedia_touches | exact mask_trans (by decide) hp | split | extract_lets

theorem State.advanceJournal_touches {m : Nat} {z s : State} (hz : Touches m z s) (hp : 0x40000 &&& m = 0x40000)
    (f : ℕ) (n : ℕ) : Touches m z (State.advanceJournal f n s) := by
  induction f generalizing s n with
  | zero => unfold State.advanceJournal; with_reducible repeat' first | assumption | apply State.useJournal_touches | apply State.openJournal_touches | exact mask_trans (by decide) hp
  | succ k ih =>
    unfold State.advanceJournal
    with_reducible repeat' first | assumption | apply ih | apply State.useJournal_touches | apply State.openJournal_touches | exact mask_trans (by decide) hp | apply touches_ite | split

theorem State.writeRun_touches {m : Nat} {z s : State} (hz : Touches m z s) (hp : 0x40000 &&& m = 0x40000) (n : ℕ) (b : JBody) :
    Touches m z (State.writeRun s n b) := by
  unfold State.writeRun
  with_reducible repeat' first
    | assumption | apply State.advanceJournal_touches | apply State.setMedia_touches | exact mask_trans (by decide) hp
    | apply touches_ite | extract_lets

theorem State.padPage_touches {m : Nat} {z s : State} (hz : Touches m z s) (hp : 0x40000 &&& m = 0x40000) :
    Touches m z (State.padPage s) := by
  unfold State.padPage
  with_reducible repeat' first
    | assumption | apply State.writeRun_touches | exact mask_trans (by decide) hp | split

theorem State.writeEntries_touches {m : Nat} {z s : State} (hz : Touches m z s) (hp : 0x40000 &&& m = 0x40000) (n : ℕ) :
    Touches m z (State.writeEntries s n) := by
  unfold State.writeEntries
  with_reducible repeat' first
    | assumption | apply State.writeRun_touches | exact mask_trans (by decide) hp | apply touches_foldl | intro t a ht
    | apply touches_foldl_snd | extract_lets

theorem State.writeSeal_touches {m : Nat} {z s : State} (hz : Touches m z s) (hp : 0x40000 &&& m = 0x40000)
    (head : SealHead) (save : Option (SaveSeal × ℕ × ℕ)) (k : ℕ) : Touches m z (State.writeSeal head save k s) := by
  induction k generalizing s with
  | zero => unfold State.writeSeal; with_reducible repeat' first | assumption | apply State.writeRun_touches | apply State.padPage_touches | exact mask_trans (by decide) hp
  | succ k ih =>
    unfold State.writeSeal
    with_reducible repeat' first | assumption | apply ih | apply State.writeRun_touches | apply State.padPage_touches | exact mask_trans (by decide) hp | apply touches_ite | split

theorem State.sealJournal_touches {m : Nat} {z s : State} (hz : Touches m z s) (hp : 0x40000 &&& m = 0x40000)
    (n : ℕ) (typ : ℕ) (save : Option SaveSeal) (again : ℕ) :
    Touches m z (State.sealJournal s n typ save again) := by
  unfold State.sealJournal
  with_reducible repeat' first
    | assumption | apply State.writeEntries_touches | apply State.writeRun_touches | apply State.writeSeal_touches
    | apply State.setMedia_touches | exact mask_trans (by decide) hp | apply touches_ite | extract_lets

theorem State.dropVoid_touches {m : Nat} {z s : State} (hz : Touches m z s) (hp : 0x60000 &&& m = 0x60000) :
    Touches m z (State.dropVoid s) := by
  unfold State.dropVoid
  with_reducible repeat' first
    | assumption | apply State.setMedia_touches | apply State.setArr_touches | exact mask_trans (by decide) hp | split
    | extract_lets

theorem State.noteCopy_touches {m : Nat} {z s : State} (hz : Touches m z s) (hp : 0x40000 &&& m = 0x40000)
    (n : ℕ) (islet : ℕ) (reloc : Bool) (loc : Loc64) (lines : List (ℕ × Line)) :
    Touches m z (State.noteCopy s n islet reloc loc lines) := by
  unfold State.noteCopy
  with_reducible repeat' first
    | assumption | apply State.setMedia_touches | exact mask_trans (by decide) hp | apply touches_ite | extract_lets

theorem State.startGeneration_touches {m : Nat} {z s : State} (hz : Touches m z s) (hp : 0x40000 &&& m = 0x40000) (cg : ℕ) :
    Touches m z (State.startGeneration s cg) := by
  unfold State.startGeneration
  with_reducible repeat' first
    | assumption | apply State.padPage_touches | apply State.writeRun_touches | apply State.setMedia_touches
    | exact mask_trans (by decide) hp | extract_lets

theorem State.endGeneration_touches {m : Nat} {z s : State} (hz : Touches m z s) (hp : 0x60000 &&& m = 0x60000) :
    Touches m z (State.endGeneration s) := by
  unfold State.endGeneration
  with_reducible repeat' first
    | assumption | apply State.padPage_touches | apply State.writeRun_touches | apply State.setMedia_touches
    | apply State.writeSuperblock_touches | apply State.setArr_touches | exact mask_trans (by decide) hp | apply touches_ite
    | split | extract_lets

theorem State.replayTables_touches {m : Nat} {z s : State} (hz : Touches m z s) (hp : 0x40000 &&& m = 0x40000)
    (g : Gen) (p : ℕ) :
    Touches m z (State.replayTables s g p) := by
  unfold State.replayTables
  with_reducible repeat' first
    | assumption | apply State.setMedia_touches | apply State.setFarr_touches | exact mask_trans (by decide) hp
    | apply touches_ite | extract_lets

end Sys2Proof.Machine
end

