-- ==== Sys2Proof/Laws/TouchesShadow.lean ====
section
/-! SUPPORT. Machine/Shadow, Machine/MovCore, Machine/StrtCore, Machine/SaveCore: which parts of the state each operation can touch (`Touches`). -/

set_option linter.unreachableTactic false
set_option linter.unusedTactic false

namespace Sys2Proof.Machine

/-! ### Machine/Shadow -/

theorem State.enterSweep_touches {m : Nat} {z s : State} (hz : Touches m z s) (hp : 0x8000CC22 &&& m = 0x8000CC22) :
    Touches m z (State.enterSweep s) := by
  unfold State.enterSweep
  with_reducible repeat' first
    | assumption | apply State.raiseInt_touches | apply State.setPers_touches | apply State.bump_touches
    | apply State.put_touches | exact mask_trans (by decide) hp | extract_lets

theorem State.appendCool_touches {m : Nat} {z s : State} (hz : Touches m z s) (hp : 0x8000CC22 &&& m = 0x8000CC22)
    (e : CoolEntry) :
    Touches m z (State.appendCool s e) := by
  unfold State.appendCool
  with_reducible repeat' first
    | assumption | apply State.enterSweep_touches | apply State.setPers_touches | exact mask_trans (by decide) hp
    | apply touches_ite | extract_lets

theorem State.appendReturn_touches {m : Nat} {z s : State} (hz : Touches m z s) (hp : 0x8000CC22 &&& m = 0x8000CC22)
    (e : CoolEntry) :
    Touches m z (State.appendReturn s e) := by
  unfold State.appendReturn
  with_reducible repeat' first
    | assumption | apply State.setPers_touches | apply State.appendCool_touches | exact mask_trans (by decide) hp
    | apply touches_ite | extract_lets

theorem State.discardStale_touches {m : Nat} {z s : State} (hz : Touches m z s) (hp : 0x8022 &&& m = 0x8022)
    (k : ℕ) : Touches m z (State.discardStale k s) := by
  induction k generalizing s with
  | zero => unfold State.discardStale; with_reducible repeat' first | assumption | apply State.bump_touches | apply State.setPers_touches | exact mask_trans (by decide) hp
  | succ k ih =>
    unfold State.discardStale
    with_reducible repeat' first | assumption | apply ih | apply State.bump_touches | apply State.setPers_touches | exact mask_trans (by decide) hp | apply touches_ite | split

theorem State.takeOffer_touches {m : Nat} {z s : State} (hz : Touches m z s) (hp : 0x8000 &&& m = 0x8000)
    (src : Source) (i : ℕ) :
    Touches m z (State.takeOffer s src i) := by
  unfold State.takeOffer
  with_reducible repeat' first
    | assumption | apply State.setPers_touches | exact mask_trans (by decide) hp | split | extract_lets

theorem State.startRead_touches {m : Nat} {z s : State} (hz : Touches m z s) (hp : 0x8000CC22 &&& m = 0x8000CC22)
    (src : Source) (i : ℕ) (n : ℕ) :
    Touches m z (State.startRead s src i n) := by
  unfold State.startRead
  with_reducible repeat' first
    | assumption | apply State.setRec_touches | apply State.bump_touches | apply State.setPers_touches
    | apply State.refresh_touches | apply State.takeOffer_touches | apply State.raiseInt_touches | apply State.put_touches
    | exact mask_trans (by decide) hp | apply touches_ite | extract_lets

theorem State.startOne_touches {m : Nat} {z s : State} (hz : Touches m z s) (hp : 0x8000CC22 &&& m = 0x8000CC22) :
    Touches m z (State.startOne s) := by
  unfold State.startOne
  with_reducible repeat' first
    | assumption | apply State.put_touches | apply State.startRead_touches | exact mask_trans (by decide) hp | apply touches_ite
    | split

theorem State.startCopies_touches {m : Nat} {z s : State} (hz : Touches m z s) (hp : 0x8000CC22 &&& m = 0x8000CC22)
    (n : ℕ) (k : ℕ) : Touches m z (State.startCopies n k s) := by
  induction n generalizing s k with
  | zero => unfold State.startCopies; with_reducible repeat' first | assumption | apply State.discardStale_touches | apply State.startOne_touches | exact mask_trans (by decide) hp
  | succ k ih =>
    unfold State.startCopies
    with_reducible repeat' first | assumption | apply ih | apply State.discardStale_touches | apply State.startOne_touches | extract_lets | exact mask_trans (by decide) hp | apply touches_ite | split

theorem State.addTokens_touches {m : Nat} {z s : State} (hz : Touches m z s) (hp : 0x8000 &&& m = 0x8000) :
    Touches m z (State.addTokens s) := by
  unfold State.addTokens
  with_reducible repeat' first
    | assumption | apply State.setPers_touches | exact mask_trans (by decide) hp | apply touches_ite | extract_lets

theorem State.shadowTick_touches {m : Nat} {z s : State} (hz : Touches m z s) (hp : 0x8000CC22 &&& m = 0x8000CC22)
    (starts : ℕ) (hit : List ℕ) :
    Touches m z (State.shadowTick s starts hit) := by
  unfold State.shadowTick
  with_reducible repeat' first
    | assumption | apply State.put_touches | apply State.addTokens_touches | apply State.setPers_touches
    | apply State.refresh_touches | apply State.startCopies_touches | apply State.discardStale_touches
    | exact mask_trans (by decide) hp | apply touches_ite | extract_lets

theorem State.setReading_touches {m : Nat} {z s : State} (hz : Touches m z s) (hp : 0x8000 &&& m = 0x8000) (i : ℕ) (c : Copy) :
    Touches m z (State.setReading s i c) := by
  unfold State.setReading
  with_reducible repeat' first
    | assumption | apply State.setPers_touches | exact mask_trans (by decide) hp | apply touches_ite | extract_lets

theorem State.backToDirty_touches {m : Nat} {z s : State} (hz : Touches m z s) (hp : 0x8000CC22 &&& m = 0x8000CC22) (i : ℕ) :
    Touches m z (State.backToDirty s i) := by
  unfold State.backToDirty
  with_reducible repeat' first
    | assumption | apply State.setRec_touches | apply State.appendReturn_touches | exact mask_trans (by decide) hp
    | apply touches_ite | extract_lets

theorem State.refund_touches {m : Nat} {z s : State} (hz : Touches m z s) (hp : 0x8000 &&& m = 0x8000) (c : Copy) :
    Touches m z (State.refund s c) := by
  unfold State.refund
  with_reducible repeat' first
    | assumption | apply State.setPers_touches | exact mask_trans (by decide) hp | apply touches_ite | extract_lets

theorem State.fillSlot_touches {m : Nat} {z s : State} (hz : Touches m z s) (hp : 0x80000 &&& m = 0x80000)
    (slot : ℕ) (islet : ℕ) (rd : ℕ) (lines : List (ℕ × Line)) :
    Touches m z (State.fillSlot s slot islet rd lines) := by
  unfold State.fillSlot
  with_reducible repeat' first
    | assumption | apply State.setMov_touches | exact mask_trans (by decide) hp | apply touches_foldl | intro t a ht
    | extract_lets

theorem State.fillStaging_touches {m : Nat} {z s : State} (hz : Touches m z s) (hp : 0x80000 &&& m = 0x80000)
    (c : Copy) (lines : List (ℕ × Line)) :
    Touches m z (State.fillStaging s c lines) := by
  unfold State.fillStaging
  with_reducible repeat' first
    | assumption | apply State.fillSlot_touches | exact mask_trans (by decide) hp

theorem State.endRead_touches {m : Nat} {z s : State} (hz : Touches m z s) (hp : 0x804CCC22 &&& m = 0x804CCC22) (i : ℕ) :
    Touches m z (State.endRead s i) := by
  unfold State.endRead
  with_reducible repeat' first
    | assumption | apply State.drcIslet_touches | apply State.setReading_touches | apply State.setRec_touches
    | apply State.noteCopy_touches | apply State.refund_touches | apply State.bump64_touches | apply State.refresh_touches
    | apply State.setPers_touches | apply State.fillStaging_touches | apply State.backToDirty_touches
    | exact mask_trans (by decide) hp | apply touches_ite | split | extract_lets

theorem State.formStripe_touches {m : Nat} {z s : State} (hz : Touches m z s) (hp : 0x40000 &&& m = 0x40000)
    (slc : Bool) (forced : Bool) :
    Touches m z (State.formStripe s slc forced) := by
  unfold State.formStripe
  with_reducible repeat' first
    | assumption | apply State.takeRows_touches | apply State.setFarr_touches | exact mask_trans (by decide) hp
    | apply touches_ite | split | extract_lets

theorem State.copyProgrammed_touches {m : Nat} {z s : State} (hz : Touches m z s) (hp : 0x48002 &&& m = 0x48002)
    (slc : Bool) (place : ℕ × ℕ × ℕ) (i : ℕ × ℕ) :
    Touches m z (State.copyProgrammed s slc place i) := by
  unfold State.copyProgrammed
  with_reducible repeat' first
    | assumption | apply State.bump64_touches | apply State.noteCopy_touches | apply State.setPers_touches
    | exact mask_trans (by decide) hp | apply touches_ite | split | extract_lets

theorem State.abandonCopy_touches {m : Nat} {z s : State} (hz : Touches m z s) (hp : 0x8000CC22 &&& m = 0x8000CC22) (c : Copy) :
    Touches m z (State.abandonCopy s c) := by
  unfold State.abandonCopy
  with_reducible repeat' first
    | assumption | apply State.setPers_touches | apply State.bump_touches | apply State.backToDirty_touches
    | exact mask_trans (by decide) hp | apply touches_ite | extract_lets

theorem State.startBarSweep_touches {m : Nat} {z s : State} (hz : Touches m z s) (hp : 0x8022 &&& m = 0x8022) :
    Touches m z (State.startBarSweep s) := by
  unfold State.startBarSweep
  with_reducible repeat' first
    | assumption | apply State.setPers_touches | apply State.put_touches | apply State.bump_touches
    | exact mask_trans (by decide) hp | apply touches_ite | apply touches_foldl | intro t a ht | extract_lets

theorem State.endBarSweep_touches {m : Nat} {z s : State} (hz : Touches m z s) (hp : 0x8022 &&& m = 0x8022) :
    Touches m z (State.endBarSweep s) := by
  unfold State.endBarSweep
  with_reducible repeat' first
    | assumption | apply State.startBarSweep_touches | apply State.setPers_touches | apply State.put_touches
    | exact mask_trans (by decide) hp | apply touches_ite | extract_lets

theorem State.beginEpochs_touches {m : Nat} {z s : State} (hz : Touches m z s) (hp : 0x8002 &&& m = 0x8002) (e : ℕ) :
    Touches m z (State.beginEpochs s e) := by
  unfold State.beginEpochs
  with_reducible repeat' first
    | assumption | apply State.setPers_touches | apply State.put64_touches | exact mask_trans (by decide) hp | extract_lets

theorem State.resumeAppends_touches {m : Nat} {z s : State} (hz : Touches m z s) (hp : 0x8000 &&& m = 0x8000) :
    Touches m z (State.resumeAppends s) := by
  unfold State.resumeAppends
  with_reducible repeat' first
    | assumption | apply State.setPers_touches | exact mask_trans (by decide) hp | apply touches_ite | extract_lets

theorem State.closeEpoch_touches {m : Nat} {z s : State} (hz : Touches m z s) (hp : 0x8000CC22 &&& m = 0x8000CC22) :
    Touches m z (State.closeEpoch s) := by
  unfold State.closeEpoch
  with_reducible repeat' first
    | assumption | apply State.put64_touches | apply State.startBarCounts_touches | apply State.setPers_touches
    | apply State.resumeAppends_touches | apply State.refresh_touches | apply State.startBarSweep_touches
    | exact mask_trans (by decide) hp | apply touches_ite | extract_lets

theorem State.deferClose_touches {m : Nat} {z s : State} (hz : Touches m z s) (hp : 0x8000CC02 &&& m = 0x8000CC02) :
    Touches m z (State.deferClose s) := by
  unfold State.deferClose
  with_reducible repeat' first
    | assumption | apply State.setPers_touches | apply State.bump64_touches | apply State.raiseInt_touches
    | exact mask_trans (by decide) hp | apply touches_ite | extract_lets

theorem State.tryClose_touches {m : Nat} {z s : State} (hz : Touches m z s) (hp : 0x8000CC22 &&& m = 0x8000CC22) :
    Touches m z (State.tryClose s) := by
  unfold State.tryClose
  with_reducible repeat' first
    | assumption | apply State.deferClose_touches | apply State.closeEpoch_touches | exact mask_trans (by decide) hp
    | apply touches_ite | split

theorem State.walkPlane_touches {m : Nat} {z s : State} (hz : Touches m z s) (hp : 0x8000CC22 &&& m = 0x8000CC22) (n : ℕ) :
    Touches m z (State.walkPlane s n) := by
  unfold State.walkPlane
  with_reducible repeat' first
    | assumption | apply State.refresh_touches | apply State.appendCool_touches | exact mask_trans (by decide) hp
    | apply touches_ite | apply touches_foldl | intro t a ht

theorem State.endWalk_touches {m : Nat} {z s : State} (hz : Touches m z s) (hp : 0x8000CC22 &&& m = 0x8000CC22) :
    Touches m z (State.endWalk s) := by
  unfold State.endWalk
  with_reducible repeat' first
    | assumption | apply State.setPers_touches | apply State.walkPlane_touches | exact mask_trans (by decide) hp
    | apply touches_ite | split | extract_lets

theorem State.sealCopy_touches {m : Nat} {z s : State} (hz : Touches m z s) (hp : 0xC012CC02 &&& m = 0xC012CC02)
    (n : ℕ) (c : Copy) :
    Touches m z (State.sealCopy n s c) := by
  unfold State.sealCopy
  with_reducible repeat' first
    | assumption | apply State.setRec_touches | apply State.setRes_touches | apply State.setPers_touches
    | exact mask_trans (by decide) hp | apply touches_ite | extract_lets | apply touches_mk | exact Or.inl rfl
    | exact Or.inr (mask_bit hp (by decide)) | exact fun c => canon_same c rfl rfl rfl rfl

theorem State.eraseFolded_touches {m : Nat} {z s : State} (hz : Touches m z s) (hp : 0x8000 &&& m = 0x8000) (n : ℕ) :
    Touches m z (State.eraseFolded s n) := by
  unfold State.eraseFolded
  with_reducible repeat' first
    | assumption | apply State.setPers_touches | exact mask_trans (by decide) hp | apply touches_foldl | intro t a ht | split
    | extract_lets

theorem State.rearmPlan_touches {m : Nat} {z s : State} (hz : Touches m z s) (hp : 0x10002 &&& m = 0x10002) :
    Touches m z (State.rearmPlan s) := by
  unfold State.rearmPlan
  with_reducible repeat' first
    | assumption | apply State.setSave_touches | apply State.put_touches | exact mask_trans (by decide) hp | extract_lets

theorem State.arraySeal_touches {m : Nat} {z s : State} (hz : Touches m z s) (hp : 0x20000 &&& m = 0x20000) (n : ℕ) :
    Touches m z (State.arraySeal s n) := by
  unfold State.arraySeal
  with_reducible repeat' first
    | assumption | apply touches_ite | extract_lets | apply touches_mk | exact Or.inl rfl
    | exact Or.inr (mask_bit hp (by decide)) | exact fun c => canon_same c rfl rfl rfl rfl

theorem State.sealEpoch_touches {m : Nat} {z s : State} (hz : Touches m z s) (hp : 0xC013CC22 &&& m = 0xC013CC22)
    (n : ℕ) (rearmed : Bool) :
    Touches m z (State.sealEpoch s n rearmed) := by
  unfold State.sealEpoch
  with_reducible repeat' first
    | assumption | apply State.sealCopy_touches | apply State.completeBarriers_touches | apply State.arraySeal_touches
    | apply State.put64_touches | apply State.eraseFolded_touches | apply State.rearmPlan_touches | apply State.setSave_touches
    | apply State.refresh_touches | apply State.startBarSweep_touches | exact mask_trans (by decide) hp | apply touches_ite
    | apply touches_foldl | intro t a ht | extract_lets

theorem State.clearPlane_touches {m : Nat} {z s : State} (hz : Touches m z s) (hp : 0x8000 &&& m = 0x8000) :
    Touches m z (State.clearPlane s) := by
  unfold State.clearPlane
  with_reducible repeat' first
    | assumption | apply State.setPers_touches | exact mask_trans (by decide) hp | apply touches_ite | split | extract_lets

theorem State.closeFold_touches {m : Nat} {z s : State} (hz : Touches m z s) (hp : 0x40000 &&& m = 0x40000) :
    Touches m z (State.closeFold s) := by
  unfold State.closeFold
  with_reducible repeat' first
    | assumption | apply State.rowsProgrammed_touches | apply State.setMedia_touches | exact mask_trans (by decide) hp | split
    | extract_lets

theorem State.dropFold_touches {m : Nat} {z s : State} (hz : Touches m z s) (hp : 0x40000 &&& m = 0x40000) :
    Touches m z (State.dropFold s) := by
  unfold State.dropFold
  with_reducible repeat' first
    | assumption | apply State.setSk_touches | apply State.setMedia_touches | exact mask_trans (by decide) hp | split
    | extract_lets

theorem State.takeFold_touches {m : Nat} {z s : State} (hz : Touches m z s) (hp : 0x40000 &&& m = 0x40000) (p : ℕ × ℕ × ℕ) :
    Touches m z (State.takeFold s p) := by
  unfold State.takeFold
  with_reducible repeat' first
    | assumption | apply State.takeRows_touches | apply State.setMedia_touches | apply State.closeFold_touches
    | exact mask_trans (by decide) hp | apply touches_ite | extract_lets

theorem State.rewriteCopy_touches {m : Nat} {z s : State} (hz : Touches m z s) (hp : 0x60000 &&& m = 0x60000)
    (i : ℕ) (c : ArrCopy) (p : ℕ × ℕ × ℕ) :
    Touches m z (State.rewriteCopy s i c p) := by
  unfold State.rewriteCopy
  with_reducible repeat' first
    | assumption | apply State.takeFold_touches | apply State.noteCopy_touches | apply State.setArr_touches
    | exact mask_trans (by decide) hp | extract_lets

theorem State.foldRewrite_touches {m : Nat} {z s : State} (hz : Touches m z s) (hp : 0x60000 &&& m = 0x60000)
    (i : ℕ) (r : ℕ) (p : ℕ × ℕ × ℕ) :
    Touches m z (State.foldRewrite s i r p) := by
  unfold State.foldRewrite
  with_reducible repeat' first
    | assumption | apply State.rewriteCopy_touches | exact mask_trans (by decide) hp | apply touches_ite | split

theorem State.setUnit_touches {m : Nat} {z s : State} (hz : Touches m z s) (hp : 0x8000 &&& m = 0x8000)
    (u : BandUnit) (v : BandUnit) :
    Touches m z (State.setUnit s u v) := by
  unfold State.setUnit
  with_reducible repeat' first
    | assumption | apply State.setPers_touches | exact mask_trans (by decide) hp | apply touches_ite | extract_lets

theorem State.foldCopy_touches {m : Nat} {z s : State} (hz : Touches m z s) (hp : 0x68002 &&& m = 0x68002)
    (u : BandUnit) (e : ℕ × ℕ) (t : List (ℕ × ℕ)) :
    Touches m z (State.foldCopy s u e t) := by
  unfold State.foldCopy
  with_reducible repeat' first
    | assumption | apply State.setUnit_touches | apply State.bump64_touches | apply State.foldRewrite_touches
    | apply State.setPers_touches | apply State.put_touches | exact mask_trans (by decide) hp | apply touches_ite | split
    | extract_lets

theorem State.foldOne_touches {m : Nat} {z s : State} (hz : Touches m z s) (hp : 0x68002 &&& m = 0x68002) :
    Touches m z (State.foldOne s) := by
  unfold State.foldOne
  with_reducible repeat' first
    | assumption | apply State.foldCopy_touches | apply State.setUnit_touches | apply State.setSk_touches
    | exact mask_trans (by decide) hp | apply touches_ite | split | extract_lets

theorem State.relocOne_touches {m : Nat} {z s : State} (hz : Touches m z s) (hp : 0x60000 &&& m = 0x60000) :
    Touches m z (State.relocOne s) := by
  unfold State.relocOne
  with_reducible repeat' first
    | assumption | apply State.rewriteCopy_touches | exact mask_trans (by decide) hp | apply touches_ite | split

theorem State.relocSteps_touches {m : Nat} {z s : State} (hz : Touches m z s) (hp : 0x60000 &&& m = 0x60000)
    (k : ℕ) : Touches m z (State.relocSteps k s) := by
  induction k generalizing s with
  | zero => unfold State.relocSteps; with_reducible repeat' first | assumption | apply State.relocOne_touches | exact mask_trans (by decide) hp
  | succ k ih =>
    unfold State.relocSteps
    with_reducible repeat' first | assumption | apply ih | apply State.relocOne_touches | exact mask_trans (by decide) hp | apply touches_ite | split

theorem State.wearLevel_touches {m : Nat} {z s : State} (hz : Touches m z s) (hp : 0x40000 &&& m = 0x40000) :
    Touches m z (State.wearLevel s) := by
  unfold State.wearLevel
  with_reducible repeat' first
    | assumption | apply State.setSk_touches | apply State.setFarr_touches | apply State.setMedia_touches
    | exact mask_trans (by decide) hp | apply touches_ite | split | extract_lets

theorem State.foldSteps_touches {m : Nat} {z s : State} (hz : Touches m z s) (hp : 0x68002 &&& m = 0x68002)
    (k : ℕ) : Touches m z (State.foldSteps k s) := by
  induction k generalizing s with
  | zero => unfold State.foldSteps; with_reducible repeat' first | assumption | apply State.put_touches | apply State.foldOne_touches | exact mask_trans (by decide) hp
  | succ k ih =>
    unfold State.foldSteps
    with_reducible repeat' first | assumption | apply ih | apply State.put_touches | apply State.foldOne_touches | exact mask_trans (by decide) hp | apply touches_ite | split

/-! ### Machine/MovCore -/

theorem State.setChan_touches {m : Nat} {z s : State} (hz : Touches m z s) (hp : 0x80000 &&& m = 0x80000)
    (c : ℕ) (x : MovChan) :
    Touches m z (State.setChan s c x) := by
  unfold State.setChan
  with_reducible repeat' first
    | assumption | apply State.setMov_touches | exact mask_trans (by decide) hp | extract_lets

theorem State.setPc_touches {m : Nat} {z s : State} (hz : Touches m z s) (hp : 0x80002 &&& m = 0x80002) (c : ℕ) (n : ℕ) :
    Touches m z (State.setPc s c n) := by
  unfold State.setPc
  with_reducible repeat' first
    | assumption | apply State.put_touches | apply State.setChan_touches | exact mask_trans (by decide) hp | extract_lets

theorem State.setPm_touches {m : Nat} {z s : State} (hz : Touches m z s) (hp : 0x80000 &&& m = 0x80000)
    (i : ℕ) (w : BitVec 64) :
    Touches m z (State.setPm s i w) := by
  unfold State.setPm
  with_reducible repeat' first
    | assumption | apply State.setMov_touches | exact mask_trans (by decide) hp | extract_lets

theorem State.setStage_touches {m : Nat} {z s : State} (hz : Touches m z s) (hp : 0x80000 &&& m = 0x80000) (l : ℕ) (v : Line) :
    Touches m z (State.setStage s l v) := by
  unfold State.setStage
  with_reducible repeat' first
    | assumption | apply State.setMov_touches | exact mask_trans (by decide) hp | extract_lets

theorem State.setTag_touches {m : Nat} {z s : State} (hz : Touches m z s) (hp : 0x80000 &&& m = 0x80000)
    (slot : ℕ) (t : SlotTag) :
    Touches m z (State.setTag s slot t) := by
  unfold State.setTag
  with_reducible repeat' first
    | assumption | apply State.setMov_touches | exact mask_trans (by decide) hp | extract_lets

theorem State.writeLoc_touches {m : Nat} {z s : State} (hz : Touches m z s) (hp : 0xC048CC62 &&& m = 0xC048CC62)
    (c : ℕ) (hint : ℕ) (l : Loc) (v : Line) :
    Touches m z (State.writeLoc s c hint l v) := by
  unfold State.writeLoc
  with_reducible repeat' first
    | assumption | apply State.touch_touches | apply State.storeLine_touches | apply State.setStage_touches
    | exact mask_trans (by decide) hp | apply touches_ite | split | extract_lets

theorem State.readFor_touches {m : Nat} {z s : State} (hz : Touches m z s) (hp : 0x400022 &&& m = 0x400022)
    (c : ℕ) (hint : ℕ) (x : Loc) :
    Touches m z (State.readFor s c hint x) := by
  unfold State.readFor
  with_reducible repeat' first
    | assumption | apply State.drcRead_touches | exact mask_trans (by decide) hp | split

theorem State.moveLine_touches {m : Nat} {z s : State} (hz : Touches m z s) (hp : 0xC048CC62 &&& m = 0xC048CC62)
    (c : ℕ) (w : BitVec 64) (k : ℕ) :
    Touches m z (State.moveLine c w s k) := by
  unfold State.moveLine
  with_reducible repeat' first
    | assumption | apply State.readFor_touches | apply State.writeLoc_touches | exact mask_trans (by decide) hp
    | apply touches_ite | split | extract_lets

theorem State.zscan_touches {m : Nat} {z s : State} (hz : Touches m z s) (hp : 0x80000 &&& m = 0x80000)
    (c : ℕ) (w : BitVec 64) :
    Touches m z (State.zscan s c w) := by
  unfold State.zscan
  with_reducible repeat' first
    | assumption | apply State.setTag_touches | exact mask_trans (by decide) hp | apply touches_ite | split | extract_lets

theorem State.moveLines_touches {m : Nat} {z s : State} (hz : Touches m z s) (hp : 0xC048CC62 &&& m = 0xC048CC62)
    (c : ℕ) (w : BitVec 64) (n : ℕ) :
    Touches m z (State.moveLines s c w n) := by
  unfold State.moveLines
  with_reducible repeat' first
    | assumption | apply State.bump64By_touches | apply State.moveLine_touches | exact mask_trans (by decide) hp
    | apply touches_foldl | intro t a ht

theorem State.spreadLine_touches {m : Nat} {z s : State} (hz : Touches m z s) (hp : 0x80000 &&& m = 0x80000)
    (ch : ℕ) (w : BitVec 64) (v : BitVec 64) (k : ℕ) :
    Touches m z (State.spreadLine ch w v s k) := by
  unfold State.spreadLine
  with_reducible repeat' first
    | assumption | apply State.setMov_touches | apply State.setStage_touches | exact mask_trans (by decide) hp
    | apply touches_ite | extract_lets

theorem State.spreadLines_touches {m : Nat} {z s : State} (hz : Touches m z s) (hp : 0x80002 &&& m = 0x80002)
    (c : ℕ) (w : BitVec 64) (v : BitVec 64) (n : ℕ) :
    Touches m z (State.spreadLines s c w v n) := by
  unfold State.spreadLines
  with_reducible repeat' first
    | assumption | apply State.bump64By_touches | apply State.spreadLine_touches | exact mask_trans (by decide) hp
    | apply touches_foldl | intro t a ht

theorem State.xfer_touches {m : Nat} {z s : State} (hz : Touches m z s) (hp : 0xC048CC62 &&& m = 0xC048CC62)
    (c : ℕ) (w : BitVec 64) (v : BitVec 64) (n : ℕ) :
    Touches m z (State.xfer s c w v n) := by
  unfold State.xfer
  with_reducible repeat' first
    | assumption | apply State.moveLines_touches | apply State.zscan_touches | apply State.spreadLines_touches
    | exact mask_trans (by decide) hp | apply touches_ite | extract_lets

theorem State.enterSlot_touches {m : Nat} {z s : State} (hz : Touches m z s) (hp : 0x80084C02 &&& m = 0x80084C02) (r : MovRec) :
    Touches m z (State.enterSlot s r) := by
  unfold State.enterSlot
  with_reducible repeat' first
    | assumption | apply State.setChan_touches | apply State.raiseInt_touches | exact mask_trans (by decide) hp
    | apply touches_ite | apply touches_foldl | intro t a ht | extract_lets

theorem State.produce_touches {m : Nat} {z s : State} (hz : Touches m z s) (hp : 0x80084C02 &&& m = 0x80084C02) (r : MovRec) :
    Touches m z (State.produce s r) := by
  unfold State.produce
  with_reducible repeat' first
    | assumption | apply State.enterSlot_touches | apply State.put_touches | apply State.setChan_touches
    | exact mask_trans (by decide) hp | split | extract_lets

theorem State.freePort_touches {m : Nat} {z s : State} (hz : Touches m z s) (hp : 0x80000 &&& m = 0x80000) (c : ℕ) :
    Touches m z (State.freePort s c) := by
  unfold State.freePort
  with_reducible repeat' first
    | assumption | apply State.setMov_touches | exact mask_trans (by decide) hp | extract_lets

theorem State.abortAfter_touches {m : Nat} {z s : State} (hz : Touches m z s) (hp : 0xC048CC62 &&& m = 0xC048CC62)
    (c : ℕ) (cause : ℕ) (moved : ℕ) (cycle : ℕ) :
    Touches m z (State.abortAfter s c cause moved cycle) := by
  unfold State.abortAfter
  with_reducible repeat' first
    | assumption | apply State.xfer_touches | apply State.bump_touches | apply State.put_touches | apply State.produce_touches
    | apply State.setChan_touches | apply State.freePort_touches | apply State.raiseInt_touches
    | exact mask_trans (by decide) hp | apply touches_ite | split | extract_lets

theorem State.abortChan_touches {m : Nat} {z s : State} (hz : Touches m z s) (hp : 0xC048CC62 &&& m = 0xC048CC62)
    (c : ℕ) (cause : ℕ) :
    Touches m z (State.abortChan s c cause) := by
  unfold State.abortChan
  with_reducible repeat' first
    | assumption | apply State.abortAfter_touches | apply State.drawn_touches | exact mask_trans (by decide) hp
    | apply touches_ite

theorem State.moversToSave_touches {m : Nat} {z s : State} (hz : Touches m z s) (hp : 0xC048CC62 &&& m = 0xC048CC62) :
    Touches m z (State.moversToSave s) := by
  unfold State.moversToSave
  with_reducible repeat' first
    | assumption | apply State.put_touches | apply State.abortChan_touches | exact mask_trans (by decide) hp
    | apply touches_foldl | intro t a ht

theorem State.resetChan_touches {m : Nat} {z s : State} (hz : Touches m z s) (hp : 0xC048CC62 &&& m = 0xC048CC62) (c : ℕ) :
    Touches m z (State.resetChan s c) := by
  unfold State.resetChan
  with_reducible repeat' first
    | assumption | apply State.setChan_touches | apply State.abortChan_touches | exact mask_trans (by decide) hp | extract_lets

/-! ### Machine/StrtCore -/

theorem State.setPeer_touches {m : Nat} {z s : State} (hz : Touches m z s) (hp : 0x800000 &&& m = 0x800000) (d : ℕ) (p : Peer) :
    Touches m z (State.setPeer s d p) := by
  unfold State.setPeer
  with_reducible repeat' first
    | assumption | apply State.setStrt_touches | exact mask_trans (by decide) hp | extract_lets

theorem State.sendOn_touches {m : Nat} {z s : State} (hz : Touches m z s) (hp : 0x80800002 &&& m = 0x80800002)
    (ports : List ℕ) (typ : ℕ) (dst : Option ℕ) (payload : List (BitVec 8)) :
    Touches m z (State.sendOn s ports typ dst payload) := by
  unfold State.sendOn
  with_reducible repeat' first
    | assumption | apply State.send_touches | apply State.bump64_touches | apply State.setStrt_touches
    | exact mask_trans (by decide) hp | apply touches_ite | apply touches_foldl | intro t a ht | extract_lets

theorem State.sendFrame_touches {m : Nat} {z s : State} (hz : Touches m z s) (hp : 0x80800002 &&& m = 0x80800002)
    (typ : ℕ) (dst : Option ℕ) (payload : List (BitVec 8)) :
    Touches m z (State.sendFrame s typ dst payload) := by
  unfold State.sendFrame
  with_reducible repeat' first
    | assumption | apply State.sendOn_touches | exact mask_trans (by decide) hp | apply touches_ite

theorem State.heard_touches {m : Nat} {z s : State} (hz : Touches m z s) (hp : 0x80804C02 &&& m = 0x80804C02) (d : ℕ) :
    Touches m z (State.heard s d) := by
  unfold State.heard
  with_reducible repeat' first
    | assumption | apply State.setPeer_touches | apply State.put_touches | apply State.raiseInt_touches
    | exact mask_trans (by decide) hp | apply touches_ite | extract_lets

/-! ### Machine/SaveCore -/

theorem State.fence_touches {m : Nat} {z s : State} (hz : Touches m z s) (hp : 0xC470CC62 &&& m = 0xC470CC62) :
    Touches m z (State.fence s) := by
  unfold State.fence
  with_reducible repeat' first
    | assumption | apply State.admitAll_touches | apply State.setHlk_touches | exact mask_trans (by decide) hp | extract_lets

theorem State.dropBarriers_touches {m : Nat} {z s : State} (hz : Touches m z s) (hp : 0x8002 &&& m = 0x8002) :
    Touches m z (State.dropBarriers s) := by
  unfold State.dropBarriers
  with_reducible repeat' first
    | assumption | apply State.put_touches | apply State.refreshBars_touches | apply State.setPers_touches
    | exact mask_trans (by decide) hp | extract_lets

theorem State.abandonUnsealed_touches {m : Nat} {z s : State} (hz : Touches m z s) (hp : 0x8004CC22 &&& m = 0x8004CC22) :
    Touches m z (State.abandonUnsealed s) := by
  unfold State.abandonUnsealed
  with_reducible repeat' first
    | assumption | apply State.abandonCopy_touches | apply State.dropFold_touches | apply State.setMedia_touches
    | apply State.put_touches | apply State.refresh_touches | apply State.setPers_touches | exact mask_trans (by decide) hp
    | apply touches_ite | apply touches_foldl | intro t a ht | extract_lets

theorem State.flashFence_touches {m : Nat} {z s : State} (hz : Touches m z s) (hp : 0x40000 &&& m = 0x40000) :
    Touches m z (State.flashFence s) := by
  unfold State.flashFence
  with_reducible repeat' first
    | assumption | apply State.setSk_touches | apply State.setFarr_touches | exact mask_trans (by decide) hp
    | apply touches_foldl | intro t a ht | extract_lets

theorem State.svcFail_touches {m : Nat} {z s : State} (hz : Touches m z s) (hp : 0x89005C22 &&& m = 0x89005C22) (status : ℕ) :
    Touches m z (State.svcFail s status) := by
  unfold State.svcFail
  with_reducible repeat' first
    | assumption | apply State.setAtol_touches | apply State.setSvc_touches | apply State.raiseInt_touches
    | apply State.put_touches | apply State.recEvent_touches | exact mask_trans (by decide) hp | apply touches_ite
    | extract_lets

theorem State.abortCapTest_touches {m : Nat} {z s : State} (hz : Touches m z s) (hp : 0x2 &&& m = 0x2) :
    Touches m z (State.abortCapTest s) := by
  unfold State.abortCapTest
  with_reducible repeat' first
    | assumption | apply State.put_touches | exact mask_trans (by decide) hp | apply touches_ite

theorem State.atolFence_touches {m : Nat} {z s : State} (hz : Touches m z s) (hp : 0x1000022 &&& m = 0x1000022) :
    Touches m z (State.atolFence s) := by
  unfold State.atolFence
  with_reducible repeat' first
    | assumption | apply State.bump_touches | apply State.put_touches | apply State.setAtol_touches
    | exact mask_trans (by decide) hp | apply touches_ite | split | extract_lets

theorem State.twlFence_touches {m : Nat} {z s : State} (hz : Touches m z s) (hp : 0x82004C02 &&& m = 0x82004C02) :
    Touches m z (State.twlFence s) := by
  unfold State.twlFence
  with_reducible repeat' first
    | assumption | apply State.setTwl_touches | apply State.raiseInt_touches | apply State.put_touches
    | exact mask_trans (by decide) hp | apply touches_ite | split | extract_lets

theorem State.restoreFence_touches {m : Nat} {z s : State} (hz : Touches m z s) (hp : 0x100002 &&& m = 0x100002) :
    Touches m z (State.restoreFence s) := by
  unfold State.restoreFence
  with_reducible repeat' first
    | assumption | apply State.setRstr_touches | apply State.refreshHeld_touches | apply State.requestFaultIn_touches
    | exact mask_trans (by decide) hp | apply touches_foldl | intro t a ht | extract_lets

theorem State.pwrRefuse_touches {m : Nat} {z s : State} (hz : Touches m z s) (hp : 0x80004C22 &&& m = 0x80004C22)
    (block : ℕ) (target : ℕ) (aborted : Bool) :
    Touches m z (State.pwrRefuse s block target aborted) := by
  unfold State.pwrRefuse
  with_reducible repeat' first
    | assumption | apply State.put_touches | apply State.bump_touches | apply State.raiseInt_touches
    | exact mask_trans (by decide) hp | apply touches_ite | extract_lets

theorem State.abortEntry_touches {m : Nat} {z s : State} (hz : Touches m z s) (hp : 0x80004C22 &&& m = 0x80004C22) :
    Touches m z (State.abortEntry s) := by
  unfold State.abortEntry
  with_reducible repeat' first
    | assumption | apply State.pwrRefuse_touches | exact mask_trans (by decide) hp | split

theorem State.clocksOff_touches {m : Nat} {z s : State} (hz : Touches m z s) (hp : 0x2 &&& m = 0x2) :
    Touches m z (State.clocksOff s) := by
  unfold State.clocksOff
  with_reducible repeat' first
    | assumption | apply State.put_touches | exact mask_trans (by decide) hp

theorem State.clocksOn_touches {m : Nat} {z s : State} (hz : Touches m z s) (hp : 0x2 &&& m = 0x2) :
    Touches m z (State.clocksOn s) := by
  unfold State.clocksOn
  with_reducible repeat' first
    | assumption | apply State.put_touches | exact mask_trans (by decide) hp | apply touches_ite

theorem State.pwrToSave_touches {m : Nat} {z s : State} (hz : Touches m z s) (hp : 0x80006C22 &&& m = 0x80006C22) :
    Touches m z (State.pwrToSave s) := by
  unfold State.pwrToSave
  with_reducible repeat' first
    | assumption | apply State.setRst_touches | apply State.clocksOn_touches | apply State.abortEntry_touches
    | apply State.put_touches | apply State.setPwr_touches | exact mask_trans (by decide) hp | apply touches_ite | extract_lets

theorem State.quiesceToHeld_touches {m : Nat} {z s : State} (hz : Touches m z s) (hp : 0x2002 &&& m = 0x2002) :
    Touches m z (State.quiesceToHeld s) := by
  unfold State.quiesceToHeld
  with_reducible repeat' first
    | assumption | apply State.put_touches | apply State.setRst_touches | exact mask_trans (by decide) hp | split | extract_lets

theorem State.saveStatus_touches {m : Nat} {z s : State} (hz : Touches m z s) (hp : 0x10002 &&& m = 0x10002) (cause : ℕ) :
    Touches m z (State.saveStatus s cause) := by
  unfold State.saveStatus
  with_reducible repeat' first
    | assumption | apply State.setSave_touches | apply State.put_touches | exact mask_trans (by decide) hp | extract_lets

theorem State.saveMessage_touches {m : Nat} {z s : State} (hz : Touches m z s) (hp : 0x80800002 &&& m = 0x80800002)
    (cause : ℕ) :
    Touches m z (State.saveMessage s cause) := by
  unfold State.saveMessage
  with_reducible repeat' first
    | assumption | apply State.sendFrame_touches | exact mask_trans (by decide) hp | apply touches_ite

theorem State.endEmpty_touches {m : Nat} {z s : State} (hz : Touches m z s) (hp : 0x14002 &&& m = 0x14002) :
    Touches m z (State.endEmpty s) := by
  unfold State.endEmpty
  with_reducible repeat' first
    | assumption | apply State.put_touches | apply State.setSave_touches | apply State.setPwr_touches
    | exact mask_trans (by decide) hp | extract_lets

theorem State.tieTrigger_touches {m : Nat} {z s : State} (hz : Touches m z s) (hp : 0x10022 &&& m = 0x10022)
    (cause : ℕ) (t0 : ℕ) :
    Touches m z (State.tieTrigger s cause t0) := by
  unfold State.tieTrigger
  with_reducible repeat' first
    | assumption | apply State.setSave_touches | apply State.put_touches | apply State.drawn_touches
    | exact mask_trans (by decide) hp | apply touches_ite | extract_lets

theorem State.startSave_touches {m : Nat} {z s : State} (hz : Touches m z s) (hp : 0xCFFDFC62 &&& m = 0xCFFDFC62)
    (cause : ℕ) (t0 : ℕ) :
    Touches m z (State.startSave s cause t0) := by
  unfold State.startSave
  with_reducible repeat' first
    | assumption | apply State.put_touches | apply State.tieTrigger_touches | apply State.abortCapTest_touches
    | apply State.quiesceToHeld_touches | apply State.endFreeze_touches | apply State.saveStatus_touches
    | apply State.setSave_touches | apply State.pwrToSave_touches | apply State.twlFence_touches | apply State.atolFence_touches
    | apply State.svcFail_touches | apply State.flush_touches | apply State.flashFence_touches
    | apply State.abandonUnsealed_touches | apply State.dropBarriers_touches | apply State.fence_touches
    | apply State.saveMessage_touches | apply State.restoreFence_touches | apply State.moversToSave_touches
    | apply State.refresh_touches | apply State.endEmpty_touches | exact mask_trans (by decide) hp | apply touches_ite
    | extract_lets

end Sys2Proof.Machine
end

