-- ==== Sys2Proof/Laws/TouchesFaults.lean ====
section
/-! SUPPORT. Machine/Faults, Machine/Flt: which parts of the state each operation can touch (`Touches`). -/

set_option linter.unreachableTactic false
set_option linter.unusedTactic false

namespace Sys2Proof.Machine

/-! ### Machine/Faults -/

theorem State.freeSem_touches {m : Nat} {z s : State} (hz : Touches m z s) (hp : 0x202 &&& m = 0x202) (n : ℕ) :
    Touches m z (State.freeSem s n) := by
  unfold State.freeSem
  with_reducible repeat' first
    | assumption | apply State.put_touches | exact mask_trans (by decide) hp | extract_lets | apply touches_mk
    | exact Or.inl rfl | exact Or.inr (mask_bit hp (by decide)) | exact fun c => canon_same c rfl rfl rfl rfl

theorem State.freeHostSems_touches {m : Nat} {z s : State} (hz : Touches m z s) (hp : 0x80005E22 &&& m = 0x80005E22) :
    Touches m z (State.freeHostSems s) := by
  unfold State.freeHostSems
  with_reducible repeat' first
    | assumption | apply State.event_touches | apply State.freeSem_touches | exact mask_trans (by decide) hp | apply touches_ite
    | apply touches_foldl | intro t a ht

theorem State.clearLink_touches {m : Nat} {z s : State} (hz : Touches m z s) (hp : 0x2 &&& m = 0x2) :
    Touches m z (State.clearLink s) := by
  unfold State.clearLink
  with_reducible repeat' first
    | assumption | apply State.put_touches | exact mask_trans (by decide) hp

theorem State.dropLink_touches {m : Nat} {z s : State} (hz : Touches m z s) (hp : 0x80205E22 &&& m = 0x80205E22) :
    Touches m z (State.dropLink s) := by
  unfold State.dropLink
  with_reducible repeat' first
    | assumption | apply State.freeHostSems_touches | apply State.clearLink_touches | apply State.setHlk_touches
    | exact mask_trans (by decide) hp | extract_lets

theorem State.fltStatus_touches {m₀ : Nat} {z₀ s : State} (hz : Touches m₀ z₀ s) (hp : 0x2 &&& m₀ = 0x2) (m : ℕ) :
    Touches m₀ z₀ (State.fltStatus s m) := by
  unfold State.fltStatus
  with_reducible repeat' first
    | assumption | apply State.put_touches | exact mask_trans (by decide) hp

theorem State.countRecord_touches {m : Nat} {z s : State} (hz : Touches m z s) (hp : 0x22 &&& m = 0x22) (r : FltRec) :
    Touches m z (State.countRecord s r) := by
  unfold State.countRecord
  with_reducible repeat' first
    | assumption | apply State.bump_touches | exact mask_trans (by decide) hp | apply touches_ite | extract_lets

theorem State.recordToRec_touches {m : Nat} {z s : State} (hz : Touches m z s) (hp : 0x80005C22 &&& m = 0x80005C22)
    (r : FltRec) :
    Touches m z (State.recordToRec s r) := by
  unfold State.recordToRec
  with_reducible repeat' first
    | assumption | apply State.recEvent_touches | apply State.flush_touches | exact mask_trans (by decide) hp
    | apply touches_ite | extract_lets

theorem State.makeRecord_touches {m : Nat} {z s : State} (hz : Touches m z s) (hp : 0x80005C22 &&& m = 0x80005C22)
    (r0 : FltRec) :
    Touches m z (State.makeRecord s r0) := by
  unfold State.makeRecord
  with_reducible repeat' first
    | assumption | apply State.put_touches | apply State.setFlt_touches | apply State.fltStatus_touches
    | apply State.countRecord_touches | apply State.raiseInt_touches | apply State.recordToRec_touches
    | exact mask_trans (by decide) hp | apply touches_ite | split | extract_lets

theorem State.resetNote_touches {m : Nat} {z s : State} (hz : Touches m z s) (hp : 0x80005C22 &&& m = 0x80005C22)
    (c : Scope) (p : ℕ) (cycle : ℕ) :
    Touches m z (State.resetNote s c p cycle) := by
  unfold State.resetNote
  with_reducible repeat' first
    | assumption | apply State.fltStatus_touches | apply State.put_touches | apply State.bumpSat_touches
    | apply State.makeRecord_touches | apply State.setFlt_touches | exact mask_trans (by decide) hp | apply touches_ite | split
    | extract_lets

theorem State.failSave_touches {m : Nat} {z s : State} (hz : Touches m z s) (hp : 0x10002 &&& m = 0x10002) :
    Touches m z (State.failSave s) := by
  unfold State.failSave
  with_reducible repeat' first
    | assumption | apply State.put_touches | apply State.setSave_touches | exact mask_trans (by decide) hp | apply touches_ite
    | extract_lets

theorem State.safeLanes_touches {m : Nat} {z s : State} (hz : Touches m z s) (hp : 0x80205E22 &&& m = 0x80205E22) :
    Touches m z (State.safeLanes s) := by
  unfold State.safeLanes
  with_reducible repeat' first
    | assumption | apply State.dropLink_touches | exact mask_trans (by decide) hp | apply touches_ite

theorem State.enterSafe_touches {m : Nat} {z s : State} (hz : Touches m z s) (hp : 0xCFFDFE62 &&& m = 0xCFFDFE62) :
    Touches m z (State.enterSafe s) := by
  unfold State.enterSafe
  with_reducible repeat' first
    | assumption | apply State.fltStatus_touches | apply State.put_touches | apply State.setFlt_touches
    | apply State.setSave_touches | apply State.setRst_touches | apply State.flush_touches | apply State.endFreeze_touches
    | apply State.setHlk_touches | apply State.startSave_touches | apply State.safeLanes_touches | apply State.setPwr_touches
    | exact mask_trans (by decide) hp | apply touches_ite | extract_lets

theorem State.postMsg_touches {m₀ : Nat} {z₀ s : State} (hz : Touches m₀ z₀ s) (hp : 0x802 &&& m₀ = 0x802) (m : FltMsg) :
    Touches m₀ z₀ (State.postMsg s m) := by
  unfold State.postMsg
  with_reducible repeat' first
    | assumption | apply State.setFlt_touches | apply State.fltStatus_touches | exact mask_trans (by decide) hp
    | apply touches_ite | extract_lets

theorem State.seqInternal_touches {m : Nat} {z s : State} (hz : Touches m z s) (hp : 0x80014C02 &&& m = 0x80014C02) :
    Touches m z (State.seqInternal s) := by
  unfold State.seqInternal
  with_reducible repeat' first
    | assumption | apply State.raiseInt_touches | apply State.put_touches | apply State.failSave_touches
    | apply State.refreshArmed_touches | exact mask_trans (by decide) hp | apply touches_ite | extract_lets

theorem State.raiseFaultSev_touches {m : Nat} {z s : State} (hz : Touches m z s) (hp : 0xCFFDFE62 &&& m = 0xCFFDFE62)
    (p : ℕ) (n : ℕ) (sev : ℕ) (kind : ℕ) (addr : ℕ) (cycle : ℕ) (inj : Bool) :
    Touches m z (State.raiseFaultSev s p n sev kind addr cycle inj) := by
  unfold State.raiseFaultSev
  with_reducible repeat' first
    | assumption | apply State.put_touches | apply State.bumpSat_touches | apply State.setFlt_touches
    | apply State.resetNote_touches | apply State.postMsg_touches | apply State.enterSafe_touches
    | apply State.seqInternal_touches | exact mask_trans (by decide) hp | apply touches_ite | split | extract_lets

theorem State.raiseFaultAt_touches {m : Nat} {z s : State} (hz : Touches m z s) (hp : 0xCFFDFE62 &&& m = 0xCFFDFE62)
    (p : ℕ) (n : ℕ) (kind : ℕ) (addr : ℕ) (cycle : ℕ) (inj : Bool) :
    Touches m z (State.raiseFaultAt s p n kind addr cycle inj) := by
  unfold State.raiseFaultAt
  with_reducible repeat' first
    | assumption | apply State.raiseFaultSev_touches | exact mask_trans (by decide) hp

theorem State.raiseFault_touches {m : Nat} {z s : State} (hz : Touches m z s) (hp : 0xCFFDFE62 &&& m = 0xCFFDFE62)
    (p : ℕ) (n : ℕ) (kind : ℕ) (addr : ℕ) :
    Touches m z (State.raiseFault s p n kind addr) := by
  unfold State.raiseFault
  with_reducible repeat' first
    | assumption | apply State.raiseFaultAt_touches | apply State.drawn_touches | exact mask_trans (by decide) hp

theorem State.abandonRaised_touches {m : Nat} {z s : State} (hz : Touches m z s) (hp : 0xCFFDFE62 &&& m = 0xCFFDFE62)
    (c : Copy) :
    Touches m z (State.abandonRaised s c) := by
  unfold State.abandonRaised
  with_reducible repeat' first
    | assumption | apply State.raiseFault_touches | apply State.raiseInt_touches | apply State.abandonCopy_touches
    | exact mask_trans (by decide) hp

theorem State.abandonStripe_touches {m : Nat} {z s : State} (hz : Touches m z s) (hp : 0xCFFDFE62 &&& m = 0xCFFDFE62)
    (slc : Bool) (l : List (ℕ × ℕ)) :
    Touches m z (State.abandonStripe s slc l) := by
  unfold State.abandonStripe
  with_reducible repeat' first
    | assumption | apply State.refresh_touches | apply State.abandonRaised_touches | exact mask_trans (by decide) hp
    | apply touches_foldl | intro t a ht

theorem State.stagingLost_touches {m : Nat} {z s : State} (hz : Touches m z s) (hp : 0x80004C02 &&& m = 0x80004C02)
    (f : State → Copy → State) (own : ℕ → Bool) (i : ℕ) (hf : ∀ t c, Touches m z t → Touches m z (f t c)) :
    Touches m z (State.stagingLost s f own i) := by
  unfold State.stagingLost
  with_reducible repeat' first
    | assumption | apply State.refresh_touches | exact mask_trans (by decide) hp | apply touches_foldl | intro t a ht | apply hf

theorem State.store_touches {m : Nat} {z s : State} (hz : Touches m z s) (hp : 0x80 &&& m = 0x80) (f : Fld) (v : ℕ) :
    Touches m z (State.store s f v) := by
  exact touches_cfg hz hp (fun c => Sparse.wf_set _ _ c.cfgStore)

theorem State.loadField_touches {m : Nat} {z s : State} (hz : Touches m z s) (hp : 0x2 &&& m = 0x2) (f : Fld) :
    Touches m z (State.loadField s f) := by
  unfold State.loadField
  with_reducible repeat' first
    | assumption | apply State.put_touches | exact mask_trans (by decide) hp | apply touches_ite | extract_lets

theorem State.releaseBlocks_touches {m : Nat} {z s : State} (hz : Touches m z s) (hp : 0x2 &&& m = 0x2) (covered : ℕ → Bool) :
    Touches m z (State.releaseBlocks s covered) := by
  unfold State.releaseBlocks
  with_reducible repeat' first
    | assumption | apply State.put_touches | exact mask_trans (by decide) hp | apply touches_ite | apply touches_foldl
    | intro t a ht

theorem State.reloadStored_touches {m : Nat} {z s : State} (hz : Touches m z s) (hp : 0x2 &&& m = 0x2)
    (old : State) (covered : ℕ → Bool) :
    Touches m z (State.reloadStored old covered s) := by
  unfold State.reloadStored
  with_reducible repeat' first
    | assumption | apply State.loadField_touches | apply State.put_touches | exact mask_trans (by decide) hp | apply touches_ite
    | apply touches_foldl | intro t a ht | extract_lets

theorem State.resetPages_touches {m : Nat} {z s : State} (hz : Touches m z s) (hp : 0x80004C0E &&& m = 0x80004C0E)
    (covered : ℕ → Bool) :
    Touches m z (State.resetPages s covered) := by
  unfold State.resetPages
  with_reducible repeat' first
    | assumption | apply State.releaseBlocks_touches | apply State.settle_touches | apply State.reloadStored_touches
    | exact mask_trans (by decide) hp | extract_lets | apply touches_mk | exact Or.inl rfl
    | exact Or.inr (mask_bit hp (by decide)) | exact fun c => canon_same c rfl rfl rfl rfl
    | exact fun c => ⟨Sparse.wf_filter _ c.regs, c.dram, c.cfgStore, c.older⟩

theorem State.resetMovers_touches {m : Nat} {z s : State} (hz : Touches m z s) (hp : 0xC048CC62 &&& m = 0xC048CC62)
    (covered : ℕ → Bool) :
    Touches m z (State.resetMovers s covered) := by
  unfold State.resetMovers
  with_reducible repeat' first
    | assumption | apply State.resetChan_touches | exact mask_trans (by decide) hp | apply touches_foldl | intro t a ht

theorem State.resetUpkeep_touches {m : Nat} {z s : State} (hz : Touches m z s) (hp : 0x21880800 &&& m = 0x21880800)
    (covered : ℕ → Bool) :
    Touches m z (State.resetUpkeep s covered) := by
  unfold State.resetUpkeep
  with_reducible repeat' first
    | assumption | apply State.setDscr_touches | apply State.setAtol_touches | apply State.setFlt_touches
    | apply State.setMov_touches | apply State.setStrt_touches | exact mask_trans (by decide) hp | apply touches_ite
    | extract_lets

theorem State.resetBlocks_touches {m : Nat} {z s : State} (hz : Touches m z s) (hp : 0xE1E8CC6E &&& m = 0xE1E8CC6E)
    (covered : ℕ → Bool) :
    Touches m z (State.resetBlocks s covered) := by
  unfold State.resetBlocks
  with_reducible repeat' first
    | assumption | apply State.refreshHlk_touches | apply State.resetUpkeep_touches | apply State.resetPages_touches
    | apply State.resetMovers_touches | exact mask_trans (by decide) hp

/-! ### Machine/Flt -/

theorem State.escalated_touches {m : Nat} {z s : State} (hz : Touches m z s) (hp : 0x22 &&& m = 0x22) :
    Touches m z (State.escalated s) := by
  unfold State.escalated
  with_reducible repeat' first
    | assumption | apply State.bump_touches | apply State.fltStatus_touches | exact mask_trans (by decide) hp

theorem State.callReset_touches {m : Nat} {z s : State} (hz : Touches m z s) (hp : 0x800 &&& m = 0x800)
    (what : ScopeOf) (parent : ℕ) :
    Touches m z (State.callReset s what parent) := by
  unfold State.callReset
  with_reducible repeat' first
    | assumption | apply State.setFlt_touches | exact mask_trans (by decide) hp | apply touches_ite | extract_lets

theorem State.react_touches {m : Nat} {z s : State} (hz : Touches m z s) (hp : 0x822 &&& m = 0x822)
    (p : ℕ) (r : Reaction) (fseq : ℕ) :
    Touches m z (State.react s p r fseq) := by
  unfold State.react
  with_reducible repeat' first
    | assumption | apply State.callReset_touches | apply State.escalated_touches | exact mask_trans (by decide) hp
    | apply touches_ite | split

theorem State.recordNext_touches {m : Nat} {z s : State} (hz : Touches m z s) (hp : 0x80005C22 &&& m = 0x80005C22) :
    Touches m z (State.recordNext s) := by
  unfold State.recordNext
  with_reducible repeat' first
    | assumption | apply State.setFlt_touches | apply State.makeRecord_touches | apply State.react_touches
    | exact mask_trans (by decide) hp | apply touches_ite | split | extract_lets

theorem State.discardBad_touches {m : Nat} {z s : State} (hz : Touches m z s) (hp : 0x80205C22 &&& m = 0x80205C22) :
    Touches m z (State.discardBad s) := by
  unfold State.discardBad
  with_reducible repeat' first
    | assumption | apply State.event_touches | apply State.reply_touches | apply State.bump_touches | apply State.setHlk_touches
    | exact mask_trans (by decide) hp | apply touches_ite | apply touches_foldl | intro t a ht | extract_lets

theorem State.discardQueues_touches {m : Nat} {z s : State} (hz : Touches m z s) (hp : 0x748002 &&& m = 0x748002) (d : ℕ) :
    Touches m z (State.discardQueues s d) := by
  unfold State.discardQueues
  with_reducible repeat' first
    | assumption | apply State.refreshHeld_touches | apply State.setRstr_touches | apply State.setPers_touches
    | apply State.setHlk_touches | apply State.setDrc_touches | apply State.setFarr_touches | exact mask_trans (by decide) hp
    | apply touches_ite | extract_lets

theorem State.coreReset_touches {m : Nat} {z s : State} (hz : Touches m z s) (hp : 0x8B015C22 &&& m = 0x8B015C22) (k : ℕ) :
    Touches m z (State.coreReset s k) := by
  unfold State.coreReset
  with_reducible repeat' first
    | assumption | apply State.svcFail_touches | apply State.put_touches | apply State.setTwl_touches
    | apply State.setSave_touches | apply State.abortCapTest_touches | exact mask_trans (by decide) hp | apply touches_ite
    | extract_lets

theorem State.assertReset_touches {m : Nat} {z s : State} (hz : Touches m z s) (hp : 0xCB7DDC62 &&& m = 0xCB7DDC62)
    (w : ScopeOf) :
    Touches m z (State.assertReset s w) := by
  unfold State.assertReset
  with_reducible repeat' first
    | assumption | apply State.coreReset_touches | apply State.refreshHlk_touches | apply State.resetMovers_touches
    | apply State.discardBad_touches | apply State.discardQueues_touches | exact mask_trans (by decide) hp | apply touches_ite
    | apply touches_foldl | intro t a ht | split | extract_lets

theorem State.assertResets_touches {m : Nat} {z s : State} (hz : Touches m z s) (hp : 0xCB7DDC62 &&& m = 0xCB7DDC62) :
    Touches m z (State.assertResets s) := by
  unfold State.assertResets
  with_reducible repeat' first
    | assumption | apply State.setFlt_touches | apply State.assertReset_touches | exact mask_trans (by decide) hp
    | apply touches_ite | apply touches_foldl | intro t a ht | split | extract_lets

theorem State.endSoft_touches {m : Nat} {z s : State} (hz : Touches m z s) (hp : 0x2 &&& m = 0x2) (w : ScopeOf) :
    Touches m z (State.endSoft s w) := by
  unfold State.endSoft
  with_reducible repeat' first
    | assumption | apply State.put_touches | exact mask_trans (by decide) hp | apply touches_ite | apply touches_foldl
    | intro t a ht | split

theorem State.releaseReset_touches {m : Nat} {z s : State} (hz : Touches m z s) (hp : 0x80204C02 &&& m = 0x80204C02)
    (w : ScopeOf) (late : Bool) :
    Touches m z (State.releaseReset s w late) := by
  unfold State.releaseReset
  with_reducible repeat' first
    | assumption | apply State.setFlt_touches | apply State.refreshHlk_touches | apply State.endSoft_touches
    | apply State.lateOk_touches | exact mask_trans (by decide) hp | apply touches_ite | extract_lets

theorem State.recordStall_touches {m : Nat} {z s : State} (hz : Touches m z s) (hp : 0xCFFDFE62 &&& m = 0xCFFDFE62)
    (fseq : ℕ) (us : ℕ) :
    Touches m z (State.recordStall s fseq us) := by
  unfold State.recordStall
  with_reducible repeat' first
    | assumption | apply State.setFlt_touches | apply State.put_touches | apply State.raiseFault_touches
    | apply State.raiseInt_touches | apply State.fltStatus_touches | exact mask_trans (by decide) hp | apply touches_ite
    | extract_lets

theorem State.endShadow_touches {m : Nat} {z s : State} (hz : Touches m z s) (hp : 0xCFFDFE62 &&& m = 0xCFFDFE62)
    (w : ScopeOf) (us : ℕ) :
    Touches m z (State.endShadow s w us) := by
  unfold State.endShadow
  with_reducible repeat' first
    | assumption | apply State.setFlt_touches | apply State.recordStall_touches | exact mask_trans (by decide) hp
    | apply touches_ite | split | extract_lets

theorem State.resetOverrun_touches {m : Nat} {z s : State} (hz : Touches m z s) (hp : 0xCFFDFE62 &&& m = 0xCFFDFE62) (b : ℕ) :
    Touches m z (State.resetOverrun s b) := by
  unfold State.resetOverrun
  with_reducible repeat' first
    | assumption | apply State.raiseFault_touches | apply State.setFlt_touches | apply State.callReset_touches
    | apply State.escalated_touches | exact mask_trans (by decide) hp | apply touches_ite | split | extract_lets

theorem State.resetStuck_touches {m : Nat} {z s : State} (hz : Touches m z s) (hp : 0xCFFDFE62 &&& m = 0xCFFDFE62) (d : ℕ) :
    Touches m z (State.resetStuck s d) := by
  unfold State.resetStuck
  with_reducible repeat' first
    | assumption | apply State.raiseFault_touches | apply State.escalated_touches | exact mask_trans (by decide) hp
    | apply touches_ite | split

theorem State.tickStall_touches {m : Nat} {z s : State} (hz : Touches m z s) (hp : 0xCFFDFE62 &&& m = 0xCFFDFE62) :
    Touches m z (State.tickStall s) := by
  unfold State.tickStall
  with_reducible repeat' first
    | assumption | apply State.raiseFault_touches | exact mask_trans (by decide) hp | apply touches_ite

theorem State.coreCrash_touches {m : Nat} {z s : State} (hz : Touches m z s) (hp : 0x822 &&& m = 0x822) (k : ℕ) (n : ℕ) :
    Touches m z (State.coreCrash s k n) := by
  unfold State.coreCrash
  with_reducible repeat' first
    | assumption | apply State.setFlt_touches | apply State.bump_touches | apply State.put_touches
    | exact mask_trans (by decide) hp | extract_lets

theorem State.coreBack_touches {m : Nat} {z s : State} (hz : Touches m z s) (hp : 0x2 &&& m = 0x2) (k : ℕ) (us : ℕ) :
    Touches m z (State.coreBack s k us) := by
  unfold State.coreBack
  with_reducible repeat' first
    | assumption | apply State.put_touches | exact mask_trans (by decide) hp | apply touches_ite

theorem State.fltPop_touches {m : Nat} {z s : State} (hz : Touches m z s) (hp : 0x800 &&& m = 0x800) :
    Touches m z (State.fltPop s) := by
  unfold State.fltPop
  with_reducible repeat' first
    | assumption | apply State.setFlt_touches | exact mask_trans (by decide) hp | extract_lets

theorem State.fltFirstClr_touches {m : Nat} {z s : State} (hz : Touches m z s) (hp : 0x800 &&& m = 0x800) :
    Touches m z (State.fltFirstClr s) := by
  unfold State.fltFirstClr
  with_reducible repeat' first
    | assumption | apply State.setFlt_touches | exact mask_trans (by decide) hp | extract_lets

end Sys2Proof.Machine
end

