-- ==== Sys2Proof/Laws/TouchesAtol.lean ====
section
/-! SUPPORT. Machine/Atol, Machine/Rst, Machine/Save, Machine/Restore: which parts of the state each operation can touch (`Touches`). -/

set_option linter.unreachableTactic false
set_option linter.unusedTactic false

namespace Sys2Proof.Machine

/-! ### Machine/Atol -/

theorem State.setCell_touches {m : Nat} {z s : State} (hz : Touches m z s) (hp : 0x1000000 &&& m = 0x1000000)
    (cw : ℕ) (c : CodeWord) :
    Touches m z (State.setCell s cw c) := by
  unfold State.setCell
  with_reducible repeat' first
    | assumption | apply State.setAtol_touches | exact mask_trans (by decide) hp | extract_lets

theorem State.setAtolBlk_touches {m : Nat} {z s : State} (hz : Touches m z s) (hp : 0x1000000 &&& m = 0x1000000)
    (b : ℕ) (x : AtolBlk) :
    Touches m z (State.setAtolBlk s b x) := by
  unfold State.setAtolBlk
  with_reducible repeat' first
    | assumption | apply State.setAtol_touches | exact mask_trans (by decide) hp | extract_lets

theorem State.setErr_touches {m : Nat} {z s : State} (hz : Touches m z s) (hp : 0x2 &&& m = 0x2) (p : Port) (f : Fld) :
    Touches m z (State.setErr s p f) := by
  unfold State.setErr
  with_reducible repeat' first
    | assumption | apply State.put_touches | exact mask_trans (by decide) hp

theorem State.srcErr_touches {m : Nat} {z s : State} (hz : Touches m z s) (hp : 0x2 &&& m = 0x2) (n : ℕ) (f : Fld) :
    Touches m z (State.srcErr s n f) := by
  unfold State.srcErr
  with_reducible repeat' first
    | assumption | apply State.setErr_touches | exact mask_trans (by decide) hp | split

theorem State.refreshBusy_touches {m : Nat} {z s : State} (hz : Touches m z s) (hp : 0x2 &&& m = 0x2) (n : ℕ) :
    Touches m z (State.refreshBusy s n) := by
  unfold State.refreshBusy
  with_reducible repeat' first
    | assumption | apply State.put_touches | exact mask_trans (by decide) hp | split

theorem State.opEnded_touches {m : Nat} {z s : State} (hz : Touches m z s) (hp : 0x80004C02 &&& m = 0x80004C02) (n : ℕ) :
    Touches m z (State.opEnded s n) := by
  unfold State.opEnded
  with_reducible repeat' first
    | assumption | apply State.refreshBusy_touches | apply State.raiseInt_touches | exact mask_trans (by decide) hp
    | apply touches_ite | extract_lets

theorem State.startOp_touches {m : Nat} {z s : State} (hz : Touches m z s) (hp : 0x81004C22 &&& m = 0x81004C22) (o : AtolOp) :
    Touches m z (State.startOp s o) := by
  unfold State.startOp
  with_reducible repeat' first
    | assumption | apply State.put_touches | apply State.setAtol_touches | apply State.drawn_touches
    | apply State.opEnded_touches | apply State.bump_touches | apply State.srcErr_touches | exact mask_trans (by decide) hp
    | apply touches_ite | split | extract_lets

theorem State.runArray_touches {m : Nat} {z s : State} (hz : Touches m z s) (hp : 0x81004C22 &&& m = 0x81004C22)
    (k : ℕ) : Touches m z (State.runArray k s) := by
  induction k generalizing s with
  | zero => unfold State.runArray; with_reducible repeat' first | assumption | apply State.setAtol_touches | apply State.startOp_touches | exact mask_trans (by decide) hp
  | succ k ih =>
    unfold State.runArray
    with_reducible repeat' first | assumption | apply ih | apply State.setAtol_touches | apply State.startOp_touches | exact mask_trans (by decide) hp | apply touches_ite | split

theorem State.enqueueOp_touches {m : Nat} {z s : State} (hz : Touches m z s) (hp : 0x81004C22 &&& m = 0x81004C22) (o : AtolOp) :
    Touches m z (State.enqueueOp s o) := by
  unfold State.enqueueOp
  with_reducible repeat' first
    | assumption | apply State.refreshBusy_touches | apply State.runArray_touches | apply State.setAtol_touches
    | exact mask_trans (by decide) hp | extract_lets

theorem State.setSeq_touches {m : Nat} {z s : State} (hz : Touches m z s) (hp : 0x1000002 &&& m = 0x1000002)
    (p : Port) (q : Option AtolSeq) :
    Touches m z (State.setSeq s p q) := by
  unfold State.setSeq
  with_reducible repeat' first
    | assumption | apply State.put_touches | apply State.setAtol_touches | exact mask_trans (by decide) hp | extract_lets

theorem State.abandonSeq_touches {m : Nat} {z s : State} (hz : Touches m z s) (hp : 0x1000022 &&& m = 0x1000022) (p : Port) :
    Touches m z (State.abandonSeq s p) := by
  unfold State.abandonSeq
  with_reducible repeat' first
    | assumption | apply State.bump_touches | apply State.setErr_touches | apply State.setSeq_touches
    | exact mask_trans (by decide) hp

theorem State.changeBlock_touches {m : Nat} {z s : State} (hz : Touches m z s) (hp : 0x81004C22 &&& m = 0x81004C22)
    (p : Port) (b : ℕ) (k : AtolKind) :
    Touches m z (State.changeBlock s p b k) := by
  unfold State.changeBlock
  with_reducible repeat' first
    | assumption | apply State.setErr_touches | apply State.enqueueOp_touches | exact mask_trans (by decide) hp
    | apply touches_ite | split | extract_lets

theorem State.protect_touches {m : Nat} {z s : State} (hz : Touches m z s) (hp : 0x81004C22 &&& m = 0x81004C22)
    (src : ℕ) (level : ℕ) :
    Touches m z (State.protect s src level) := by
  unfold State.protect
  with_reducible repeat' first
    | assumption | apply State.srcErr_touches | apply State.enqueueOp_touches | apply State.put_touches
    | exact mask_trans (by decide) hp | apply touches_ite

theorem State.beginCmd_touches {m : Nat} {z s : State} (hz : Touches m z s) (hp : 0x81004C22 &&& m = 0x81004C22)
    (p : Port) (op : ℕ) (level : ℕ) :
    Touches m z (State.beginCmd s p op level) := by
  unfold State.beginCmd
  with_reducible repeat' first
    | assumption | apply State.put_touches | apply State.runArray_touches | apply State.bump_touches
    | apply State.setAtol_touches | apply State.setErr_touches | apply State.setSeq_touches | exact mask_trans (by decide) hp
    | apply touches_ite | extract_lets

theorem State.completeCmd_touches {m : Nat} {z s : State} (hz : Touches m z s) (hp : 0x81004C22 &&& m = 0x81004C22)
    (p : Port) (q : AtolSeq) (w : ℕ) :
    Touches m z (State.completeCmd s p q w) := by
  unfold State.completeCmd
  with_reducible repeat' first
    | assumption | apply State.setSeq_touches | apply State.changeBlock_touches | apply State.setErr_touches
    | apply State.protect_touches | exact mask_trans (by decide) hp | apply touches_ite | extract_lets

theorem State.programCycle_touches {m : Nat} {z s : State} (hz : Touches m z s) (hp : 0x81004C22 &&& m = 0x81004C22)
    (p : Port) (q : AtolSeq) (w : ℕ) (data : Word) :
    Touches m z (State.programCycle s p q w data) := by
  unfold State.programCycle
  with_reducible repeat' first
    | assumption | apply State.changeBlock_touches | apply State.setSeq_touches | apply State.abandonSeq_touches
    | exact mask_trans (by decide) hp | apply touches_ite | extract_lets

theorem State.winWrite_touches {m : Nat} {z s : State} (hz : Touches m z s) (hp : 0x81004C22 &&& m = 0x81004C22)
    (p : Port) (w : ℕ) (data : Word) :
    Touches m z (State.winWrite s p w data) := by
  unfold State.winWrite
  with_reducible repeat' first
    | assumption | apply State.setErr_touches | apply State.abandonSeq_touches | apply State.setSeq_touches
    | apply State.programCycle_touches | apply State.completeCmd_touches | apply State.beginCmd_touches
    | exact mask_trans (by decide) hp | apply touches_ite | split

theorem State.seqTimeout_touches {m : Nat} {z s : State} (hz : Touches m z s) (hp : 0x1000022 &&& m = 0x1000022) (p : Port) :
    Touches m z (State.seqTimeout s p) := by
  unfold State.seqTimeout
  with_reducible repeat' first
    | assumption | apply State.abandonSeq_touches | exact mask_trans (by decide) hp | apply touches_ite | split

theorem State.readReport_touches {m : Nat} {z s : State} (hz : Touches m z s) (hp : 0xCFFDFE62 &&& m = 0xCFFDFE62)
    (p : Port) (w : ℕ) (cbits : ℕ) (ue : Bool) :
    Touches m z (State.readReport s p w cbits ue) := by
  unfold State.readReport
  with_reducible repeat' first
    | assumption | apply State.put_touches | apply State.bump_touches | apply State.raiseFault_touches
    | apply State.raiseInt_touches | apply State.setAtolBlk_touches | exact mask_trans (by decide) hp | apply touches_ite
    | extract_lets

theorem State.arrayRead_touches {m : Nat} {z s : State} (hz : Touches m z s) (hp : 0xCFFDFE62 &&& m = 0xCFFDFE62)
    (p : Port) (w : ℕ) (cbits : ℕ) (ue : Bool) :
    Touches m z (State.arrayRead s p w cbits ue).1 := by
  unfold State.arrayRead
  with_reducible repeat' first
    | assumption | apply State.setErr_touches | apply State.put_touches | apply State.bump_touches
    | apply State.readReport_touches | apply State.drawn_touches | exact mask_trans (by decide) hp | apply touches_ite
    | apply touches_ite_fst | split | extract_lets

theorem State.winRead_touches {m : Nat} {z s : State} (hz : Touches m z s) (hp : 0xCFFDFE62 &&& m = 0xCFFDFE62)
    (p : Port) (w : ℕ) (cbits : ℕ) (ue : Bool) :
    Touches m z (State.winRead s p w cbits ue).1 := by
  unfold State.winRead
  with_reducible repeat' first
    | assumption | apply State.abandonSeq_touches | apply State.put_touches | apply State.setErr_touches
    | apply State.arrayRead_touches | exact mask_trans (by decide) hp | apply touches_ite | apply touches_ite_fst | extract_lets

theorem State.markWorn_touches {m : Nat} {z s : State} (hz : Touches m z s) (hp : 0x1000002 &&& m = 0x1000002) (b : ℕ) :
    Touches m z (State.markWorn s b) := by
  unfold State.markWorn
  with_reducible repeat' first
    | assumption | apply State.bumpSat_touches | apply State.setAtolBlk_touches | exact mask_trans (by decide) hp
    | apply touches_ite | extract_lets

theorem State.programEnded_touches {m : Nat} {z s : State} (hz : Touches m z s) (hp : 0xCFFDFE62 &&& m = 0xCFFDFE62)
    (src : ℕ) (cw : ℕ) (data : BitVec 256) (pulses : ℕ) (ok : Bool) :
    Touches m z (State.programEnded s src cw data pulses ok) := by
  unfold State.programEnded
  with_reducible repeat' first
    | assumption | apply State.bump64_touches | apply State.setCell_touches | apply State.setAtolBlk_touches
    | apply State.markWorn_touches | apply State.raiseFault_touches | apply State.srcErr_touches
    | exact mask_trans (by decide) hp | apply touches_ite | extract_lets

theorem State.clearBlock_touches {m : Nat} {z s : State} (hz : Touches m z s) (hp : 0x1000022 &&& m = 0x1000022) (b : ℕ) :
    Touches m z (State.clearBlock s b) := by
  unfold State.clearBlock
  with_reducible repeat' first
    | assumption | apply State.setAtol_touches | apply State.bump_touches | apply State.setAtolBlk_touches
    | exact mask_trans (by decide) hp | extract_lets

theorem State.openSelector_touches {m : Nat} {z s : State} (hz : Touches m z s) (hp : 0x1000022 &&& m = 0x1000022) :
    Touches m z (State.openSelector s) := by
  unfold State.openSelector
  with_reducible repeat' first
    | assumption | apply State.clearBlock_touches | exact mask_trans (by decide) hp | apply touches_ite

theorem State.setSelector_touches {m : Nat} {z s : State} (hz : Touches m z s) (hp : 0x1000022 &&& m = 0x1000022)
    (y : Selector) :
    Touches m z (State.setSelector s y) := by
  unfold State.setSelector
  with_reducible repeat' first
    | assumption | apply State.openSelector_touches | apply State.put_touches | apply State.bump64_touches
    | apply State.setAtol_touches | exact mask_trans (by decide) hp | extract_lets

theorem State.bootSwap_touches {m : Nat} {z s : State} (hz : Touches m z s) (hp : 0x1000022 &&& m = 0x1000022) (src : ℕ) :
    Touches m z (State.bootSwap s src) := by
  unfold State.bootSwap
  with_reducible repeat' first
    | assumption | apply State.setSelector_touches | exact mask_trans (by decide) hp | extract_lets

theorem State.progDone_touches {m : Nat} {z s : State} (hz : Touches m z s) (hp : 0xCFFDFE62 &&& m = 0xCFFDFE62)
    (pulses : ℕ) (ok : Bool) :
    Touches m z (State.progDone s pulses ok) := by
  unfold State.progDone
  with_reducible repeat' first
    | assumption | apply State.put_touches | apply State.setAtol_touches | apply State.programEnded_touches
    | apply State.bootSwap_touches | apply State.setSelector_touches | apply State.runArray_touches
    | apply State.opEnded_touches | exact mask_trans (by decide) hp | apply touches_ite | split | extract_lets

theorem State.retire_touches {m : Nat} {z s : State} (hz : Touches m z s) (hp : 0xCFFDFE62 &&& m = 0xCFFDFE62)
    (b : ℕ) (failed : Bool) :
    Touches m z (State.retire s b failed) := by
  unfold State.retire
  with_reducible repeat' first
    | assumption | apply State.setAtolBlk_touches | apply State.put_touches | apply State.setAtol_touches
    | apply State.bumpSat_touches | apply State.raiseFault_touches | apply State.raiseInt_touches
    | exact mask_trans (by decide) hp | apply touches_ite | split | extract_lets

theorem State.eraseDone_touches {m : Nat} {z s : State} (hz : Touches m z s) (hp : 0xCFFDFE62 &&& m = 0xCFFDFE62) (ok : Bool) :
    Touches m z (State.eraseDone s ok) := by
  unfold State.eraseDone
  with_reducible repeat' first
    | assumption | apply State.clearBlock_touches | apply State.put_touches | apply State.setAtol_touches
    | apply State.raiseFault_touches | apply State.retire_touches | apply State.runArray_touches | apply State.opEnded_touches
    | exact mask_trans (by decide) hp | apply touches_ite | split | extract_lets

theorem State.atolResume_touches {m : Nat} {z s : State} (hz : Touches m z s) (hp : 0x81004C22 &&& m = 0x81004C22) :
    Touches m z (State.atolResume s) := by
  unfold State.atolResume
  with_reducible repeat' first
    | assumption | apply State.runArray_touches | apply State.put_touches | apply State.setAtol_touches
    | exact mask_trans (by decide) hp | apply touches_ite | extract_lets

theorem State.cutOp_touches {m : Nat} {z s : State} (hz : Touches m z s) (hp : 0x1000022 &&& m = 0x1000022) (o : AtolOp) :
    Touches m z (State.cutOp s o) := by
  unfold State.cutOp
  with_reducible repeat' first
    | assumption | apply State.setCell_touches | apply State.setAtol_touches | apply State.openSelector_touches
    | exact mask_trans (by decide) hp | split | extract_lets

theorem State.atolCut_touches {m : Nat} {z s : State} (hz : Touches m z s) (hp : 0x1000022 &&& m = 0x1000022) :
    Touches m z (State.atolCut s) := by
  unfold State.atolCut
  with_reducible repeat' first
    | assumption | apply State.cutOp_touches | apply State.setAtol_touches | exact mask_trans (by decide) hp | split
    | extract_lets

theorem State.atolAbort_touches {m : Nat} {z s : State} (hz : Touches m z s) (hp : 0x81004C22 &&& m = 0x81004C22) :
    Touches m z (State.atolAbort s) := by
  unfold State.atolAbort
  with_reducible repeat' first
    | assumption | apply State.put_touches | apply State.atolCut_touches | apply State.opEnded_touches
    | apply State.srcErr_touches | exact mask_trans (by decide) hp | apply touches_foldl | intro t a ht | extract_lets

theorem State.wiped_touches {m : Nat} {z s : State} (hz : Touches m z s) (hp : 0x1001182 &&& m = 0x1001182) :
    Touches m z (State.wiped s) := by
  unfold State.wiped
  generalize List.range 480 = l
  with_reducible repeat' first
    | assumption | exact fun c => (hz.canon c).older | apply State.setAtolBlk_touches | apply State.setAtol_touches
    | apply State.setRecd_touches | apply State.put_touches | apply State.setKept_touches | exact mask_trans (by decide) hp
    | apply touches_foldl | intro t a ht | extract_lets | apply touches_mk | exact Or.inl rfl
    | exact Or.inr (mask_bit hp (by decide)) | exact fun c => canon_same c rfl rfl rfl rfl
    | exact fun c => ⟨c.regs, c.dram, rfl, c.older⟩ | (simp only [Kept.init, List.not_mem_nil] at ht)

/-! ### Machine/Rst -/

theorem State.resetAll_touches {m : Nat} {z s : State} (hz : Touches m z s) (hp : 0x20E &&& m = 0x20E) (warm : Bool) :
    Touches m z (State.resetAll s warm) := by
  unfold State.resetAll
  with_reducible repeat' first
    | assumption | apply State.reloadStored_touches | apply State.put_touches | apply State.put64_touches
    | exact mask_trans (by decide) hp | apply touches_ite | extract_lets | apply touches_mk | exact Or.inl rfl
    | exact Or.inr (mask_bit hp (by decide)) | exact fun c => canon_same c rfl rfl rfl rfl
    | exact fun c => ⟨Sparse.wf_filter _ c.regs, c.dram, c.cfgStore, c.older⟩

theorem State.assertDevice_touches {m : Nat} {z s : State} (hz : Touches m z s) (hp : 0x6FFDFE2E &&& m = 0x6FFDFE2E)
    (warm : Bool) :
    Touches m z (State.assertDevice s warm) := by
  unfold State.assertDevice
  with_reducible repeat' first
    | assumption | apply State.resetAll_touches | apply State.atolCut_touches | exact mask_trans (by decide) hp
    | apply touches_ite | apply touches_foldl | intro t a ht | extract_lets | apply touches_mk | exact Or.inl rfl
    | exact Or.inr (mask_bit hp (by decide)) | exact fun c => canon_same c rfl rfl rfl rfl

theorem State.startFields_touches {m : Nat} {z s : State} (hz : Touches m z s) (hp : 0x2 &&& m = 0x2) (start : ℕ) (src : ℕ) :
    Touches m z (State.startFields s start src) := by
  unfold State.startFields
  with_reducible repeat' first
    | assumption | apply State.put_touches | exact mask_trans (by decide) hp | extract_lets

theorem State.recoveryStart_touches {m : Nat} {z s : State} (hz : Touches m z s) (hp : 0x12022 &&& m = 0x12022) (cause : ℕ) :
    Touches m z (State.recoveryStart s cause) := by
  unfold State.recoveryStart
  with_reducible repeat' first
    | assumption | apply State.bump_touches | apply State.put_touches | apply State.setSave_touches | apply State.setRst_touches
    | exact mask_trans (by decide) hp | extract_lets

theorem State.coldStart_touches {m : Nat} {z s : State} (hz : Touches m z s) (hp : 0x40052062 &&& m = 0x40052062) :
    Touches m z (State.coldStart s) := by
  unfold State.coldStart
  with_reducible repeat' first
    | assumption | apply State.bump_touches | apply State.put_touches | exact mask_trans (by decide) hp | extract_lets
    | apply touches_mk | exact Or.inl rfl | exact Or.inr (mask_bit hp (by decide)) | exact fun c => canon_same c rfl rfl rfl rfl
    | exact fun c => ⟨c.regs, rfl, c.cfgStore, c.older⟩

theorem State.warmStart_touches {m : Nat} {z s : State} (hz : Touches m z s) (hp : 0x12022 &&& m = 0x12022) :
    Touches m z (State.warmStart s) := by
  unfold State.warmStart
  with_reducible repeat' first
    | assumption | apply State.bump_touches | apply State.put_touches | apply State.setSave_touches | apply State.setRst_touches
    | exact mask_trans (by decide) hp | extract_lets

theorem State.resumeWipe_touches {m : Nat} {z s : State} (hz : Touches m z s) (hp : 0x2 &&& m = 0x2) :
    Touches m z (State.resumeWipe s) := by
  unfold State.resumeWipe
  with_reducible repeat' first
    | assumption | apply State.put_touches | exact mask_trans (by decide) hp | apply touches_ite

theorem State.startAfterReset_touches {m : Nat} {z s : State} (hz : Touches m z s) (hp : 0x40052062 &&& m = 0x40052062)
    (src : ℕ) (warm : Bool) (recovery : Bool) :
    Touches m z (State.startAfterReset s src warm recovery) := by
  unfold State.startAfterReset
  with_reducible repeat' first
    | assumption | apply State.resumeWipe_touches | apply State.setRst_touches | apply State.startFields_touches
    | apply State.recoveryStart_touches | apply State.warmStart_touches | apply State.coldStart_touches
    | exact mask_trans (by decide) hp | apply touches_ite | extract_lets

theorem State.deviceReset_touches {m : Nat} {z s : State} (hz : Touches m z s) (hp : 0x6FFDFE6E &&& m = 0x6FFDFE6E) (src : ℕ) :
    Touches m z (State.deviceReset s src) := by
  unfold State.deviceReset
  with_reducible repeat' first
    | assumption | apply State.startAfterReset_touches | apply State.assertDevice_touches | apply State.put_touches
    | apply State.setSave_touches | exact mask_trans (by decide) hp | extract_lets

theorem State.beginQuiesce_touches {m : Nat} {z s : State} (hz : Touches m z s) (hp : 0xC478FE62 &&& m = 0xC478FE62) (src : ℕ) :
    Touches m z (State.beginQuiesce s src) := by
  unfold State.beginQuiesce
  with_reducible repeat' first
    | assumption | apply State.setRst_touches | apply State.put_touches | apply State.dropLink_touches
    | apply State.resetMovers_touches | apply State.dropBarriers_touches | apply State.fence_touches
    | exact mask_trans (by decide) hp | apply touches_ite | extract_lets

theorem State.requestReset_touches {m : Nat} {z s : State} (hz : Touches m z s) (hp : 0xC478FE62 &&& m = 0xC478FE62) (src : ℕ) :
    Touches m z (State.requestReset s src) := by
  unfold State.requestReset
  with_reducible repeat' first
    | assumption | apply State.setRst_touches | apply State.put_touches | apply State.beginQuiesce_touches
    | exact mask_trans (by decide) hp | apply touches_ite | split | extract_lets

theorem State.quiesceDone_touches {m : Nat} {z s : State} (hz : Touches m z s) (hp : 0x6FFDFE6E &&& m = 0x6FFDFE6E)
    (refreshed : Bool) (stored : Bool) :
    Touches m z (State.quiesceDone s refreshed stored) := by
  unfold State.quiesceDone
  with_reducible repeat' first
    | assumption | apply State.setRst_touches | apply State.deviceReset_touches | exact mask_trans (by decide) hp
    | apply touches_ite | split | extract_lets

theorem State.releaseHeld_touches {m : Nat} {z s : State} (hz : Touches m z s) (hp : 0xEFFDFE6E &&& m = 0xEFFDFE6E) :
    Touches m z (State.releaseHeld s) := by
  unfold State.releaseHeld
  with_reducible repeat' first
    | assumption | apply State.deviceReset_touches | apply State.beginQuiesce_touches | exact mask_trans (by decide) hp
    | apply touches_ite | split

theorem State.powerReturn_touches {m : Nat} {z s : State} (hz : Touches m z s) (hp : 0x6FFDFE6E &&& m = 0x6FFDFE6E) :
    Touches m z (State.powerReturn s) := by
  unfold State.powerReturn
  with_reducible repeat' first
    | assumption | apply State.deviceReset_touches | apply State.setSave_touches | exact mask_trans (by decide) hp
    | apply touches_ite | split | extract_lets

/-! ### Machine/Save -/

theorem State.pfailFall_touches {m : Nat} {z s : State} (hz : Touches m z s) (hp : 0x10000 &&& m = 0x10000) :
    Touches m z (State.pfailFall s) := by
  unfold State.pfailFall
  with_reducible repeat' first
    | assumption | apply State.setSave_touches | exact mask_trans (by decide) hp | extract_lets

theorem State.pfailTrigger_touches {m : Nat} {z s : State} (hz : Touches m z s) (hp : 0xCFFDFC62 &&& m = 0xCFFDFC62) :
    Touches m z (State.pfailTrigger s) := by
  unfold State.pfailTrigger
  with_reducible repeat' first
    | assumption | apply State.startSave_touches | exact mask_trans (by decide) hp | apply touches_ite

theorem State.goodNow_touches {m : Nat} {z s : State} (hz : Touches m z s) (hp : 0x10000 &&& m = 0x10000) :
    Touches m z (State.goodNow s) := by
  unfold State.goodNow
  with_reducible repeat' first
    | assumption | apply State.setSave_touches | exact mask_trans (by decide) hp | apply touches_ite | extract_lets

theorem State.pfailGlitch_touches {m : Nat} {z s : State} (hz : Touches m z s) (hp : 0xCFFDFE62 &&& m = 0xCFFDFE62) (n : ℕ) :
    Touches m z (State.pfailGlitch s n) := by
  unfold State.pfailGlitch
  with_reducible repeat' first
    | assumption | apply State.goodNow_touches | apply State.setSave_touches | apply State.raiseFault_touches
    | apply State.raiseInt_touches | apply State.bumpSat_touches | exact mask_trans (by decide) hp | apply touches_ite
    | extract_lets

theorem State.pfailRise_touches {m : Nat} {z s : State} (hz : Touches m z s) (hp : 0x10000 &&& m = 0x10000) :
    Touches m z (State.pfailRise s) := by
  unfold State.pfailRise
  with_reducible repeat' first
    | assumption | apply State.goodNow_touches | apply State.setSave_touches | exact mask_trans (by decide) hp
    | apply touches_ite | extract_lets

theorem State.railTrip_touches {m : Nat} {z s : State} (hz : Touches m z s) (hp : 0xCFFDFC62 &&& m = 0xCFFDFC62) :
    Touches m z (State.railTrip s) := by
  unfold State.railTrip
  with_reducible repeat' first
    | assumption | apply State.setSave_touches | apply State.startSave_touches | exact mask_trans (by decide) hp
    | apply touches_ite | extract_lets

theorem State.railReturn_touches {m : Nat} {z s : State} (hz : Touches m z s) (hp : 0x10000 &&& m = 0x10000) :
    Touches m z (State.railReturn s) := by
  unfold State.railReturn
  with_reducible repeat' first
    | assumption | apply State.goodNow_touches | apply State.setSave_touches | exact mask_trans (by decide) hp
    | apply touches_ite | extract_lets

theorem State.setRun_touches {m : Nat} {z s : State} (hz : Touches m z s) (hp : 0x10000 &&& m = 0x10000) (r : SaveRun) :
    Touches m z (State.setRun s r) := by
  unfold State.setRun
  with_reducible repeat' first
    | assumption | apply State.setSave_touches | exact mask_trans (by decide) hp | extract_lets

theorem State.extraProgrammed_touches {m : Nat} {z s : State} (hz : Touches m z s) (hp : 0x40000 &&& m = 0x40000)
    (c : ℕ) (d : ℕ) (b : ℕ) (rows : ℕ) :
    Touches m z (State.extraProgrammed s c d b rows) := by
  unfold State.extraProgrammed
  with_reducible repeat' first
    | assumption | apply State.programKey_touches | exact mask_trans (by decide) hp | apply touches_foldl | intro t a ht

theorem State.placeMember_touches {m : Nat} {z s : State} (hz : Touches m z s) (hp : 0x40000 &&& m = 0x40000)
    (r : SaveRun) (k : ℕ) (row : ℕ) (col : ℕ) (c : ℕ) (d : ℕ) :
    Touches m z (State.placeMember s r k row col c d).1 := by
  unfold State.placeMember
  with_reducible repeat' first
    | assumption | apply State.extraProgrammed_touches | exact mask_trans (by decide) hp | split

/-- A member bound for a failed die touches the array's blocks alone (R146). -/
theorem State.redirectMember_touches {m : Nat} {z : State} (k row : ℕ) (x : (State × SaveRun) × List (ℕ × ℕ)) (c : ℕ)
    (hz : Touches m z x.1.1) (hp : 0x40000 &&& m = 0x40000) : Touches m z (State.redirectMember k row x c).1.1 := by
  unfold State.redirectMember
  with_reducible repeat' first
    | assumption | refine State.placeMember_touches (s := x.1.1) ?_ ?_ _ _ _ _ _ _
    | exact mask_trans (by decide) hp | split | extract_lets

/-- The same of a row of members. -/
theorem State.redirectRow_touches {m : Nat} {z : State} (k row : ℕ) (hp : 0x40000 &&& m = 0x40000) (l : List ℕ) :
    ∀ x : (State × SaveRun) × List (ℕ × ℕ), Touches m z x.1.1 → Touches m z (l.foldl (State.redirectMember k row) x).1.1 := by
  induction l with
  | nil => exact fun x hx => hx
  | cons a l ih => exact fun x hx => ih _ (State.redirectMember_touches k row x a hx (mask_trans (by decide) hp))

theorem State.saveStripe_touches {m : Nat} {z s : State} (hz : Touches m z s) (hp : 0x50000 &&& m = 0x50000) (r : SaveRun) (k row : ℕ) :
    Touches m z (State.saveStripe s r k row) := by
  unfold State.saveStripe
  exact State.setRun_touches (State.redirectRow_touches _ _ (mask_trans (by decide) hp) _ _ (State.rowsProgrammed_touches hz (mask_trans (by decide) hp) _ _))
    (mask_trans (by decide) hp) _

theorem State.closeStripe_touches {m : Nat} {z s : State} (hz : Touches m z s) (hp : 0x50000 &&& m = 0x50000) :
    Touches m z (State.closeStripe s) := by
  unfold State.closeStripe
  with_reducible repeat' first
    | assumption | apply State.saveStripe_touches | exact mask_trans (by decide) hp | apply touches_ite | split

theorem State.putSaved_touches {m : Nat} {z s : State} (hz : Touches m z s) (hp : 0x50000 &&& m = 0x50000)
    (r : SaveRun) (i : ℕ) (k : ℕ) (row : ℕ) (col : ℕ) :
    Touches m z (State.putSaved s r i k row col) := by
  unfold State.putSaved
  with_reducible repeat' first
    | assumption | apply State.saveStripe_touches | apply State.setRun_touches | exact mask_trans (by decide) hp
    | apply touches_ite | extract_lets

theorem State.placeSaved_touches {m : Nat} {z s : State} (hz : Touches m z s) (hp : 0x50000 &&& m = 0x50000) (i : ℕ) :
    Touches m z (State.placeSaved s i) := by
  unfold State.placeSaved
  with_reducible repeat' first
    | assumption | apply State.putSaved_touches | apply State.takeRows_touches | exact mask_trans (by decide) hp | split

theorem State.saveOne_touches {m : Nat} {z s : State} (hz : Touches m z s) (hp : 0x450002 &&& m = 0x450002) :
    Touches m z (State.saveOne s) := by
  unfold State.saveOne
  with_reducible repeat' first
    | assumption | apply State.drcIslet_touches | apply State.put_touches | apply State.setRun_touches
    | apply State.placeSaved_touches | exact mask_trans (by decide) hp | apply touches_ite | split | extract_lets

theorem State.saveIslets_touches {m : Nat} {z s : State} (hz : Touches m z s) (hp : 0x450002 &&& m = 0x450002)
    (k : ℕ) : Touches m z (State.saveIslets k s) := by
  induction k generalizing s with
  | zero => unfold State.saveIslets; with_reducible repeat' first | assumption | apply State.saveOne_touches | exact mask_trans (by decide) hp
  | succ k ih =>
    unfold State.saveIslets
    with_reducible repeat' first | assumption | apply ih | apply State.saveOne_touches | exact mask_trans (by decide) hp | apply touches_ite | split

theorem State.closeOut_touches {m : Nat} {z s : State} (hz : Touches m z s) (hp : 0x450002 &&& m = 0x450002)
    (cause : ℕ) (started : ℕ) :
    Touches m z (State.closeOut s cause started) := by
  unfold State.closeOut
  with_reducible repeat' first
    | assumption | apply State.saveIslets_touches | apply State.put_touches | apply State.setRun_touches
    | exact mask_trans (by decide) hp | apply touches_ite | split | extract_lets

theorem State.writesApplied_touches {m : Nat} {z s : State} (hz : Touches m z s) (hp : 0x80655E22 &&& m = 0x80655E22) :
    Touches m z (State.writesApplied s) := by
  unfold State.writesApplied
  with_reducible repeat' first
    | assumption | apply State.dropLink_touches | apply State.put_touches | apply State.setRun_touches
    | apply State.closeOut_touches | exact mask_trans (by decide) hp | apply touches_ite | split | extract_lets

theorem State.joinSave_touches {m : Nat} {z s : State} (hz : Touches m z s) (hp : 0x10002 &&& m = 0x10002) (i : ℕ) :
    Touches m z (State.joinSave s i) := by
  unfold State.joinSave
  with_reducible repeat' first
    | assumption | apply State.put_touches | apply State.setRun_touches | exact mask_trans (by decide) hp | apply touches_ite
    | split | extract_lets

theorem State.dataDone_touches {m : Nat} {z s : State} (hz : Touches m z s) (hp : 0x50000 &&& m = 0x50000) :
    Touches m z (State.dataDone s) := by
  unfold State.dataDone
  with_reducible repeat' first
    | assumption | apply State.closeStripe_touches | apply State.setRun_touches | exact mask_trans (by decide) hp
    | apply touches_ite | split

theorem State.energyCutoff_touches {m : Nat} {z s : State} (hz : Touches m z s) (hp : 0x450002 &&& m = 0x450002) (started : ℕ) :
    Touches m z (State.energyCutoff s started) := by
  unfold State.energyCutoff
  with_reducible repeat' first
    | assumption | apply State.closeOut_touches | exact mask_trans (by decide) hp | apply touches_ite | split

theorem State.railClose_touches {m : Nat} {z s : State} (hz : Touches m z s) (hp : 0x450002 &&& m = 0x450002) (started : ℕ) :
    Touches m z (State.railClose s started) := by
  unfold State.railClose
  with_reducible repeat' first
    | assumption | apply State.setSave_touches | apply State.closeOut_touches | exact mask_trans (by decide) hp
    | apply touches_ite | extract_lets

theorem State.sealProgrammed_touches {m : Nat} {z s : State} (hz : Touches m z s) (hp : 0x10000 &&& m = 0x10000) :
    Touches m z (State.sealProgrammed s) := by
  unfold State.sealProgrammed
  with_reducible repeat' first
    | assumption | apply State.setRun_touches | exact mask_trans (by decide) hp | apply touches_ite | split

theorem State.saveEntries_touches {m : Nat} {z s : State} (hz : Touches m z s) (hp : 0x40000 &&& m = 0x40000) (r : SaveRun) :
    Touches m z (State.saveEntries s r) := by
  unfold State.saveEntries
  with_reducible repeat' first
    | assumption | apply State.noteCopy_touches | apply State.setMedia_touches | exact mask_trans (by decide) hp
    | apply touches_foldl | intro t a ht | extract_lets

theorem State.sealSaved_touches {m : Nat} {z s : State} (hz : Touches m z s) (hp : 0x28000 &&& m = 0x28000) (r : SaveRun) :
    Touches m z (State.sealSaved s r) := by
  unfold State.sealSaved
  with_reducible repeat' first
    | assumption | apply State.setPers_touches | apply State.setArr_touches | exact mask_trans (by decide) hp
    | apply touches_ite | apply touches_foldl | intro t a ht | extract_lets

theorem State.saveEnd_touches {m : Nat} {z s : State} (hz : Touches m z s) (hp : 0x80800002 &&& m = 0x80800002) (x : SaveSeal) :
    Touches m z (State.saveEnd s x) := by
  unfold State.saveEnd
  with_reducible repeat' first
    | assumption | apply State.sendFrame_touches | exact mask_trans (by decide) hp

theorem State.saveDone_touches {m : Nat} {z s : State} (hz : Touches m z s) (hp : 0x8187CC22 &&& m = 0x8187CC22) :
    Touches m z (State.saveDone s) := by
  unfold State.saveDone
  with_reducible repeat' first
    | assumption | apply State.dropVoid_touches | apply State.sealJournal_touches | apply State.saveEntries_touches
    | apply State.put64_touches | apply State.sealSaved_touches | apply State.setPwr_touches | apply State.setSave_touches
    | apply State.put_touches | apply State.atolResume_touches | apply State.saveEnd_touches | exact mask_trans (by decide) hp
    | apply touches_ite | split | extract_lets

theorem State.saveBasin_touches {m : Nat} {z s : State} (hz : Touches m z s) (hp : 0x80207E22 &&& m = 0x80207E22)
    (refreshed : Bool) :
    Touches m z (State.saveBasin s refreshed) := by
  unfold State.saveBasin
  with_reducible repeat' first
    | assumption | apply State.put_touches | apply State.clocksOff_touches | apply State.dropLink_touches
    | apply State.setRst_touches | exact mask_trans (by decide) hp | apply touches_ite | extract_lets

theorem State.selfTest_touches {m : Nat} {z s : State} (hz : Touches m z s) (hp : 0x80004C02 &&& m = 0x80004C02) (pass : Bool) :
    Touches m z (State.selfTest s pass) := by
  unfold State.selfTest
  with_reducible repeat' first
    | assumption | apply State.refreshArmed_touches | apply State.put_touches | exact mask_trans (by decide) hp
    | apply touches_ite

theorem State.suppliesGone_touches {m : Nat} {z s : State} (hz : Touches m z s) (hp : 0x7FFDFE6E &&& m = 0x7FFDFE6E) :
    Touches m z (State.suppliesGone s) := by
  unfold State.suppliesGone
  with_reducible repeat' first
    | assumption | apply State.atolCut_touches | exact mask_trans (by decide) hp | apply touches_foldl | intro t a ht
    | extract_lets | apply touches_mk | exact Or.inl rfl | exact Or.inr (mask_bit hp (by decide))
    | exact fun c => canon_same c rfl rfl rfl rfl | exact fun c => ⟨rfl, rfl, c.cfgStore, c.older⟩

theorem State.tearRecord_touches {m : Nat} {z s : State} (hz : Touches m z s) (hp : 0x1000 &&& m = 0x1000) :
    Touches m z (State.tearRecord s) := by
  unfold State.tearRecord
  with_reducible repeat' first
    | assumption | apply State.setRecd_touches | exact mask_trans (by decide) hp | split | extract_lets

theorem State.powerLoss_touches {m : Nat} {z s : State} (hz : Touches m z s) (hp : 0x7FFDFE6E &&& m = 0x7FFDFE6E)
    (torn : Bool) :
    Touches m z (State.powerLoss s torn) := by
  unfold State.powerLoss
  with_reducible repeat' first
    | assumption | apply State.suppliesGone_touches | apply State.tearRecord_touches | exact mask_trans (by decide) hp
    | apply touches_ite

theorem State.dramRailFault_touches {m : Nat} {z s : State} (hz : Touches m z s) (hp : 0x2002 &&& m = 0x2002) :
    Touches m z (State.dramRailFault s) := by
  unfold State.dramRailFault
  with_reducible repeat' first
    | assumption | apply State.put_touches | apply State.setRst_touches | exact mask_trans (by decide) hp | extract_lets

theorem State.gpfPhase1_touches {m : Nat} {z s : State} (hz : Touches m z s) (hp : 0x80000000 &&& m = 0x80000000) :
    Touches m z (State.gpfPhase1 s) := by
  unfold State.gpfPhase1
  with_reducible repeat' first
    | assumption | apply State.answer_touches | exact mask_trans (by decide) hp

theorem State.gpfPhase2_touches {m : Nat} {z s : State} (hz : Touches m z s) (hp : 0x10000 &&& m = 0x10000) :
    Touches m z (State.gpfPhase2 s) := by
  unfold State.gpfPhase2
  with_reducible repeat' first
    | assumption | apply State.setSave_touches | exact mask_trans (by decide) hp | extract_lets

theorem State.gpfDone_touches {m : Nat} {z s : State} (hz : Touches m z s) (hp : 0x80010000 &&& m = 0x80010000) :
    Touches m z (State.gpfDone s) := by
  unfold State.gpfDone
  with_reducible repeat' first
    | assumption | apply State.answer_touches | apply State.setSave_touches | exact mask_trans (by decide) hp
    | apply touches_ite | split | extract_lets

/-! ### Machine/Restore -/

theorem State.readMarks_touches {m : Nat} {z s : State} (hz : Touches m z s) (hp : 0x40000 &&& m = 0x40000) (f : Found) :
    Touches m z (State.readMarks s f) := by
  unfold State.readMarks
  with_reducible repeat' first
    | assumption | apply State.setFarr_touches | exact mask_trans (by decide) hp | apply touches_ite | apply touches_foldl
    | intro t a ht | extract_lets

theorem State.startArray_touches {m : Nat} {z s : State} (hz : Touches m z s) (hp : 0x60000 &&& m = 0x60000) (b : Superblock) :
    Touches m z (State.startArray s b) := by
  unfold State.startArray
  with_reducible repeat' first
    | assumption | apply State.setMedia_touches | apply State.setFarr_touches | apply State.endGeneration_touches
    | apply State.startGeneration_touches | apply State.sealJournal_touches | apply State.openJournal_touches
    | exact mask_trans (by decide) hp | extract_lets | apply State.substituteAll_getD_touches

theorem State.formatArray_touches {m : Nat} {z s : State} (hz : Touches m z s) (hp : 0x68120 &&& m = 0x68120) :
    Touches m z (State.formatArray s) := by
  unfold State.formatArray
  with_reducible repeat' first
    | assumption | exact fun c => (hz.canon c).older | apply State.drawn_touches | apply State.setPers_touches
    | apply State.setArr_touches | apply State.setKept_touches | apply State.startArray_touches
    | exact mask_trans (by decide) hp | apply touches_ite | extract_lets

theorem State.loadLast_touches {m : Nat} {z s : State} (hz : Touches m z s) (hp : 0x2 &&& m = 0x2) (o : Option SaveSeal) :
    Touches m z (State.loadLast s o) := by
  unfold State.loadLast
  with_reducible repeat' first
    | assumption | apply State.setWord_touches | apply State.put_touches | apply State.put64_touches
    | exact mask_trans (by decide) hp | split | extract_lets | apply touches_mk | exact Or.inl rfl
    | exact Or.inr (mask_bit hp (by decide)) | exact fun c => canon_same c rfl rfl rfl rfl
    | exact fun c => ⟨Sparse.wf_filter _ c.regs, c.dram, c.cfgStore, c.older⟩

theorem State.raiseDsc_touches {m : Nat} {z s : State} (hz : Touches m z s) (hp : 0x102 &&& m = 0x102) (h : ℕ) :
    Touches m z (State.raiseDsc s h) := by
  unfold State.raiseDsc
  with_reducible repeat' first
    | assumption | exact fun c => (hz.canon c).older | apply State.put_touches | apply State.setKept_touches
    | exact mask_trans (by decide) hp | apply touches_ite | extract_lets

theorem State.settleClass_touches {m : Nat} {z s : State} (hz : Touches m z s) (hp : 0xCFFDFF62 &&& m = 0xCFFDFF62)
    (cls : ℕ) (p : ℕ) (h : ℕ) :
    Touches m z (State.settleClass s cls p h) := by
  unfold State.settleClass
  with_reducible repeat' first
    | assumption | apply State.put64_touches | apply State.put_touches | apply State.setRstr_touches
    | apply State.raiseDsc_touches | apply State.raiseInt_touches | apply State.cxlEvent_touches
    | apply State.raiseFault_touches | apply State.setSave_touches | exact mask_trans (by decide) hp | apply touches_ite
    | extract_lets

theorem State.imagePage_touches {m : Nat} {z s : State} (hz : Touches m z s) (hp : 0x40002 &&& m = 0x40002) (f : Found) :
    Touches m z (State.imagePage s f) := by
  unfold State.imagePage
  with_reducible repeat' first
    | assumption | apply State.put64_touches | apply State.put_touches | exact mask_trans (by decide) hp | apply touches_ite
    | split | extract_lets

theorem State.readForward_touches {m : Nat} {z s : State} (hz : Touches m z s) (hp : 0x40000 &&& m = 0x40000)
    (e : ℕ × ℕ × Bool) :
    Touches m z (State.readForward s e) := by
  unfold State.readForward
  with_reducible repeat' first
    | assumption | apply State.setFarr_touches | exact mask_trans (by decide) hp | apply touches_ite | extract_lets

theorem State.detect_touches {m : Nat} {z s : State} (hz : Touches m z s) (hp : 0x168122 &&& m = 0x168122) (f : Found) :
    Touches m z (State.detect s f) := by
  unfold State.detect
  with_reducible repeat' first
    | assumption | apply State.readMarks_touches | apply State.imagePage_touches | apply State.formatArray_touches
    | apply State.readForward_touches | apply State.refreshFarr_touches | apply State.setRstr_touches
    | apply State.loadLast_touches | exact mask_trans (by decide) hp | apply touches_ite | apply touches_foldl | intro t a ht
    | extract_lets

theorem State.loadTables_touches {m : Nat} {z s : State} (hz : Touches m z s) (hp : 0x140002 &&& m = 0x140002) :
    Touches m z (State.loadTables s) := by
  unfold State.loadTables
  with_reducible repeat' first
    | assumption | apply State.refreshFarr_touches | apply State.setRstr_touches | apply State.replayTables_touches
    | exact mask_trans (by decide) hp | split | extract_lets

theorem State.cutJournal_touches {m : Nat} {z s : State} (hz : Touches m z s) (hp : 0x60000 &&& m = 0x60000) :
    Touches m z (State.cutJournal s) := by
  unfold State.cutJournal
  with_reducible repeat' first
    | assumption | apply State.setArr_touches | apply State.setMedia_touches | exact mask_trans (by decide) hp
    | apply touches_ite | split | extract_lets

theorem State.activate_touches {m : Nat} {z s : State} (hz : Touches m z s) (hp : 0x108002 &&& m = 0x108002) :
    Touches m z (State.activate s) := by
  unfold State.activate
  with_reducible repeat' first
    | assumption | apply State.put64_touches | apply State.put_touches | apply State.beginEpochs_touches
    | apply State.setRstr_touches | exact mask_trans (by decide) hp | extract_lets

theorem State.memoryActive_touches {m : Nat} {z s : State} (hz : Touches m z s) (hp : 0x80206C02 &&& m = 0x80206C02) :
    Touches m z (State.memoryActive s) := by
  unfold State.memoryActive
  with_reducible repeat' first
    | assumption | apply State.refreshHlk_touches | apply State.raiseInt_touches | apply State.setRst_touches
    | apply State.put_touches | exact mask_trans (by decide) hp | extract_lets

theorem State.claimBanks_touches {m : Nat} {z s : State} (hz : Touches m z s) (hp : 0x100002 &&& m = 0x100002) :
    Touches m z (State.claimBanks s) := by
  unfold State.claimBanks
  with_reducible repeat' first
    | assumption | apply State.preempt_touches | apply State.setRstr_touches | exact mask_trans (by decide) hp | extract_lets

theorem State.metadataLoaded_touches {m : Nat} {z s : State} (hz : Touches m z s) (hp : 0xC036EC02 &&& m = 0xC036EC02) :
    Touches m z (State.metadataLoaded s) := by
  unfold State.metadataLoaded
  with_reducible repeat' first
    | assumption | apply State.setPers_touches | apply State.activate_touches | apply State.cutJournal_touches
    | apply State.loadTables_touches | apply State.setRstr_touches | apply State.put_touches | apply State.grantSlots_touches
    | apply State.memoryActive_touches | apply State.claimBanks_touches | apply State.setRes_touches
    | exact mask_trans (by decide) hp | apply touches_ite | extract_lets

theorem State.rstrTick_touches {m : Nat} {z s : State} (hz : Touches m z s) (hp : 0x100002 &&& m = 0x100002) :
    Touches m z (State.rstrTick s) := by
  unfold State.rstrTick
  with_reducible repeat' first
    | assumption | apply State.enableFeature_touches | apply State.setRstr_touches | apply State.release_touches
    | exact mask_trans (by decide) hp | apply touches_ite | extract_lets

theorem State.startDirty_touches {m : Nat} {z s : State} (hz : Touches m z s) (hp : 0xC000CC22 &&& m = 0xC000CC22) (i : ℕ) :
    Touches m z (State.startDirty s i) := by
  unfold State.startDirty
  with_reducible repeat' first
    | assumption | apply State.setRec_touches | apply State.setBit_touches | apply State.appendReturn_touches
    | apply State.refresh_touches | apply State.setRes_touches | exact mask_trans (by decide) hp | apply touches_ite
    | extract_lets

theorem State.restoreUnsaved_touches {m : Nat} {z s : State} (hz : Touches m z s) (hp : 0xC414CC42 &&& m = 0xC414CC42) (i : ℕ) :
    Touches m z (State.restoreUnsaved s i) := by
  unfold State.restoreUnsaved
  with_reducible repeat' first
    | assumption | apply State.setRec_touches | apply State.poisonIslet_touches | apply State.setPers_touches
    | apply State.setRstr_touches | apply State.noteCopy_touches | apply State.setRes_touches | exact mask_trans (by decide) hp
    | extract_lets

theorem State.mediaPoison_touches {m : Nat} {z s : State} (hz : Touches m z s) (hp : 0xCFFDFE62 &&& m = 0xCFFDFE62)
    (i : ℕ) (lost : List ℕ) :
    Touches m z (State.mediaPoison s i lost) := by
  unfold State.mediaPoison
  with_reducible repeat' first
    | assumption | apply State.setLine_touches | apply State.cxlEvent_touches | apply State.markPoison_touches
    | apply State.raiseFault_touches | apply State.raiseInt_touches | apply State.bumpBy_touches
    | exact mask_trans (by decide) hp | apply touches_ite | apply touches_foldl | intro t a ht | extract_lets

theorem State.bringBack_touches {m : Nat} {z s : State} (hz : Touches m z s) (hp : 0xCFFDFE62 &&& m = 0xCFFDFE62)
    (i : ℕ) (rebuilt : ℕ) (lost : List ℕ) :
    Touches m z (State.bringBack s i rebuilt lost) := by
  unfold State.bringBack
  with_reducible repeat' first
    | assumption | apply State.bumpBy_touches | apply State.drcIslet_touches | apply State.setIslet_touches
    | apply State.restoreUnsaved_touches | apply State.setRec_touches | apply State.poisonIslet_touches
    | apply State.startDirty_touches | apply State.mediaPoison_touches | exact mask_trans (by decide) hp | apply touches_ite
    | split | extract_lets

theorem State.restoreDone_touches {m : Nat} {z s : State} (hz : Touches m z s) (hp : 0x80104C02 &&& m = 0x80104C02) :
    Touches m z (State.restoreDone s) := by
  unfold State.restoreDone
  with_reducible repeat' first
    | assumption | apply State.put_touches | apply State.setRstr_touches | apply State.raiseInt_touches
    | exact mask_trans (by decide) hp | apply touches_ite | extract_lets

theorem State.setRestored_touches {m : Nat} {z s : State} (hz : Touches m z s) (hp : 0xC470CC62 &&& m = 0xC470CC62) (i : ℕ) :
    Touches m z (State.setRestored s i) := by
  unfold State.setRestored
  with_reducible repeat' first
    | assumption | apply State.setRstr_touches | apply State.grantSlots_touches | apply State.put_touches
    | apply State.serve_touches | apply State.restoreDone_touches | exact mask_trans (by decide) hp | extract_lets

theorem State.fillFaultIn_touches {m : Nat} {z s : State} (hz : Touches m z s) (hp : 0x80000 &&& m = 0x80000) (i : ℕ) :
    Touches m z (State.fillFaultIn s i) := by
  unfold State.fillFaultIn
  with_reducible repeat' first
    | assumption | apply State.fillSlot_touches | exact mask_trans (by decide) hp | apply touches_ite | split

theorem State.faultInDone_touches {m : Nat} {z s : State} (hz : Touches m z s) (hp : 0xCFFDFE62 &&& m = 0xCFFDFE62)
    (i : ℕ) (us : ℕ) (rebuilt : ℕ) (lost : List ℕ) (late : Bool) :
    Touches m z (State.faultInDone s i us rebuilt lost late) := by
  unfold State.faultInDone
  with_reducible repeat' first
    | assumption | apply State.bump64_touches | apply State.bringBack_touches | apply State.fillFaultIn_touches
    | apply State.bump_touches | apply State.put_touches | apply State.joinSave_touches | apply State.setRestored_touches
    | apply State.lateOk_touches | exact mask_trans (by decide) hp | apply touches_ite | extract_lets

theorem State.setStep_touches {m : Nat} {z s : State} (hz : Touches m z s) (hp : 0x100000 &&& m = 0x100000)
    (zero : Bool) (k : ℕ) :
    Touches m z (State.setStep s zero k) := by
  unfold State.setStep
  with_reducible repeat' first
    | assumption | apply State.setRstr_touches | exact mask_trans (by decide) hp | apply touches_ite | extract_lets

theorem State.restoreNext_touches {m : Nat} {z s : State} (hz : Touches m z s) (hp : 0xCFFDFE62 &&& m = 0xCFFDFE62)
    (zero : Bool) (rebuilt : ℕ) (lost : List ℕ) :
    Touches m z (State.restoreNext s zero rebuilt lost) := by
  unfold State.restoreNext
  with_reducible repeat' first
    | assumption | apply State.setRestored_touches | apply State.bringBack_touches | apply State.setStep_touches
    | exact mask_trans (by decide) hp | apply touches_ite | split

theorem State.cutWarm_touches {m : Nat} {z s : State} (hz : Touches m z s) (hp : 0x60000 &&& m = 0x60000) :
    Touches m z (State.cutWarm s) := by
  unfold State.cutWarm
  with_reducible repeat' first
    | assumption | apply State.setArr_touches | apply State.setMedia_touches | exact mask_trans (by decide) hp | extract_lets

theorem State.warmStates_touches {m : Nat} {z s : State} (hz : Touches m z s) (hp : 0xC016CC02 &&& m = 0xC016CC02) :
    Touches m z (State.warmStates s) := by
  unfold State.warmStates
  with_reducible repeat' first
    | assumption | apply State.activate_touches | apply State.cutWarm_touches | apply State.setRes_touches
    | apply State.setPers_touches | exact mask_trans (by decide) hp | extract_lets

theorem State.warmCheck_touches {m : Nat} {z s : State} (hz : Touches m z s) (hp : 0xC037EC02 &&& m = 0xC037EC02) (ok : Bool) :
    Touches m z (State.warmCheck s ok) := by
  unfold State.warmCheck
  with_reducible repeat' first
    | assumption | apply State.put_touches | apply State.loadLast_touches | apply State.warmStates_touches
    | apply State.memoryActive_touches | apply State.setSave_touches | apply State.setRst_touches | apply State.raiseInt_touches
    | exact mask_trans (by decide) hp | apply touches_ite | extract_lets

end Sys2Proof.Machine
end

