-- ==== Sys2Proof/Laws/TouchesFlash.lean ====
section
/-! SUPPORT. Machine/Flash, Machine/Mov, Machine/Dramc, Machine/Start: which parts of the state each operation can touch (`Touches`). -/

set_option linter.unreachableTactic false
set_option linter.unusedTactic false

namespace Sys2Proof.Machine

/-! ### Machine/Flash -/

theorem State.refreshQ_touches {m : Nat} {z s : State} (hz : Touches m z s) (hp : 0x2 &&& m = 0x2) (c : ℕ) :
    Touches m z (State.refreshQ s c) := by
  unfold State.refreshQ
  with_reducible repeat' first
    | assumption | apply State.put_touches | exact mask_trans (by decide) hp | extract_lets

theorem State.setFill_touches {m : Nat} {z s : State} (hz : Touches m z s) (hp : 0x2 &&& m = 0x2) (c : ℕ) (n : ℕ) :
    Touches m z (State.setFill s c n) := by
  unfold State.setFill
  with_reducible repeat' first
    | assumption | apply State.put_touches | exact mask_trans (by decide) hp | apply touches_ite | extract_lets

theorem State.drainFill_touches {m : Nat} {z s : State} (hz : Touches m z s) (hp : 0x2 &&& m = 0x2) (c : ℕ) (n : ℕ) :
    Touches m z (State.drainFill s c n) := by
  unfold State.drainFill
  with_reducible repeat' first
    | assumption | apply State.setFill_touches | exact mask_trans (by decide) hp

theorem State.rewriteRate_touches {m : Nat} {z s : State} (hz : Touches m z s) (hp : 0x2 &&& m = 0x2) :
    Touches m z (State.rewriteRate s) := by
  unfold State.rewriteRate
  with_reducible repeat' first
    | assumption | apply State.put_touches | exact mask_trans (by decide) hp | extract_lets

theorem State.markFailed_touches {m : Nat} {z s : State} (hz : Touches m z s) (hp : 0x40002 &&& m = 0x40002) (c : ℕ) (d : ℕ) :
    Touches m z (State.markFailed s c d) := by
  unfold State.markFailed
  with_reducible repeat' first
    | assumption | apply State.setDie_touches | apply State.put_touches | apply State.setFarr_touches
    | apply State.refreshDie_touches | apply State.refreshQ_touches | exact mask_trans (by decide) hp | extract_lets

theorem State.queueReloc_touches {m : Nat} {z s : State} (hz : Touches m z s) (hp : 0x40000 &&& m = 0x40000) (c : ℕ) (d : ℕ) :
    Touches m z (State.queueReloc s c d) := by
  unfold State.queueReloc
  with_reducible repeat' first
    | assumption | apply State.setFarr_touches | exact mask_trans (by decide) hp | apply touches_foldl | intro t a ht
    | extract_lets

theorem State.dieFailed_touches {m : Nat} {z s : State} (hz : Touches m z s) (hp : 0x50000 &&& m = 0x50000) (c : ℕ) (d : ℕ) :
    Touches m z (State.dieFailed s c d) := by
  unfold State.dieFailed
  with_reducible repeat' first
    | assumption | apply State.setRun_touches | apply State.noteEntry_touches | apply State.writeSuperblock_touches
    | exact mask_trans (by decide) hp | apply touches_ite | split | extract_lets

theorem State.placeLost_touches {m : Nat} {z s : State} (hz : Touches m z s) (hp : 0x40000 &&& m = 0x40000) (t : Stripe) :
    Touches m z (State.placeLost s t) := by
  unfold State.placeLost
  extract_lets _ d0 used r x q
  have hx : Touches m z x.1 :=
    touches_foldl_fst _ _ _ hz (fun t a ht => State.redirectRow_touches _ _ (mask_trans (by decide) hp) _ _ ht)
  exact touches_foldl _ _ _ (State.setFarr_touches hx (mask_trans (by decide) hp) _)
    (fun t a ht => State.noteEntry_touches ht (mask_trans (by decide) hp) _)

theorem State.stripeDone_touches {m : Nat} {z s : State} (hz : Touches m z s) (hp : 0xC004CC02 &&& m = 0xC004CC02)
    (t : Stripe) :
    Touches m z (State.stripeDone s t) := by
  unfold State.stripeDone
  with_reducible repeat' first
    | assumption | apply State.placeLost_touches | apply State.setFarr_touches | apply State.refresh_touches
    | apply State.copyProgrammed_touches | apply State.setUpk_touches | exact mask_trans (by decide) hp | apply touches_foldl
    | intro t a ht | extract_lets

theorem State.tryStripe_touches {m : Nat} {z s : State} (hz : Touches m z s) (hp : 0xC004CC02 &&& m = 0xC004CC02) (t : Stripe) :
    Touches m z (State.tryStripe s t) := by
  unfold State.tryStripe
  with_reducible repeat' first
    | assumption | apply State.stripeDone_touches | exact mask_trans (by decide) hp | apply touches_ite

theorem State.stripeColumn_touches {m : Nat} {z s : State} (hz : Touches m z s) (hp : 0xC004CC02 &&& m = 0xC004CC02)
    (id : ℕ) (c : ℕ) :
    Touches m z (State.stripeColumn s id c) := by
  unfold State.stripeColumn
  with_reducible repeat' first
    | assumption | apply State.tryStripe_touches | apply State.setFarr_touches | exact mask_trans (by decide) hp
    | apply touches_ite | split | extract_lets

theorem State.stripesOn_touches {m : Nat} {z s : State} (hz : Touches m z s) (hp : 0xC004CC02 &&& m = 0xC004CC02) (d : ℕ) :
    Touches m z (State.stripesOn s d) := by
  unfold State.stripesOn
  with_reducible repeat' first
    | assumption | apply State.tryStripe_touches | exact mask_trans (by decide) hp | apply touches_foldl | intro t a ht

theorem State.dropStripeOps_touches {m : Nat} {z s : State} (hz : Touches m z s) (hp : 0x40000 &&& m = 0x40000) (id : ℕ) :
    Touches m z (State.dropStripeOps s id) := by
  unfold State.dropStripeOps
  with_reducible repeat' first
    | assumption | apply State.setFarr_touches | exact mask_trans (by decide) hp | extract_lets

theorem State.moveStripe_touches {m : Nat} {z s : State} (hz : Touches m z s) (hp : 0xCFFDFE62 &&& m = 0xCFFDFE62)
    (t : Stripe) (again : ℕ) :
    Touches m z (State.moveStripe s t again) := by
  unfold State.moveStripe
  with_reducible repeat' first
    | assumption | apply State.dropStripeOps_touches | apply State.abandonStripe_touches | apply State.setFarr_touches
    | apply State.takeRows_touches | exact mask_trans (by decide) hp | apply touches_ite | split | extract_lets

theorem State.redirectStripe_touches {m : Nat} {z s : State} (hz : Touches m z s) (hp : 0xCFFDFE62 &&& m = 0xCFFDFE62)
    (id : ℕ) :
    Touches m z (State.redirectStripe s id) := by
  unfold State.redirectStripe
  with_reducible repeat' first
    | assumption | apply State.setSk_touches | apply State.abandonStripe_touches | apply State.setFarr_touches
    | apply State.dropStripeOps_touches | apply State.bump_touches | apply State.moveStripe_touches
    | exact mask_trans (by decide) hp | apply touches_ite | split | extract_lets

theorem State.memberAgain_touches {m : Nat} {z s : State} (hz : Touches m z s) (hp : 0x50000 &&& m = 0x50000)
    (c : ℕ) (o : FOp) :
    Touches m z (State.memberAgain s c o) := by
  unfold State.memberAgain
  with_reducible repeat' first
    | assumption | apply State.placeMember_touches | apply State.setRun_touches | exact mask_trans (by decide) hp
    | apply touches_ite | split | extract_lets

theorem State.saveMedia_touches {m : Nat} {z s : State} (hz : Touches m z s) (hp : 0xCFFDFE62 &&& m = 0xCFFDFE62)
    (c : ℕ) (addr : ℕ) :
    Touches m z (State.saveMedia s c addr) := by
  unfold State.saveMedia
  with_reducible repeat' first
    | assumption | apply State.raiseFault_touches | apply State.put_touches | exact mask_trans (by decide) hp

theorem State.channelDown_touches {m : Nat} {z s : State} (hz : Touches m z s) (hp : 0xCFFDFE62 &&& m = 0xCFFDFE62) (c : ℕ) :
    Touches m z (State.channelDown s c) := by
  unfold State.channelDown
  with_reducible repeat' first
    | assumption | apply State.raiseFault_touches | apply State.raiseInt_touches | apply State.put_touches
    | apply State.dieFailed_touches | apply State.queueReloc_touches | apply State.markFailed_touches
    | apply State.saveMedia_touches | apply State.refreshFarr_touches | apply State.rewriteRate_touches
    | apply State.stripesOn_touches | apply State.degraded_touches | exact mask_trans (by decide) hp | apply touches_ite
    | apply touches_foldl | intro t a ht | extract_lets

theorem State.dieFails_touches {m : Nat} {z s : State} (hz : Touches m z s) (hp : 0xCFFDFE62 &&& m = 0xCFFDFE62)
    (c : ℕ) (d : ℕ) (addr : ℕ) :
    Touches m z (State.dieFails s c d addr) := by
  unfold State.dieFails
  with_reducible repeat' first
    | assumption | apply State.raiseInt_touches | apply State.dieFailed_touches | apply State.queueReloc_touches
    | apply State.markFailed_touches | apply State.saveMedia_touches | apply State.refreshFarr_touches
    | apply State.rewriteRate_touches | apply State.stripesOn_touches | apply State.raiseFault_touches
    | apply State.degraded_touches | apply State.channelDown_touches | exact mask_trans (by decide) hp | apply touches_ite
    | extract_lets

theorem State.knownFailures_touches {m : Nat} {z s : State} (hz : Touches m z s) (hp : 0x40002 &&& m = 0x40002) :
    Touches m z (State.knownFailures s) := by
  unfold State.knownFailures
  with_reducible repeat' first
    | assumption | apply State.rewriteRate_touches | apply State.markFailed_touches | exact mask_trans (by decide) hp
    | apply touches_foldl | intro t a ht | extract_lets

theorem State.dropFop_touches {m : Nat} {z s : State} (hz : Touches m z s) (hp : 0x40002 &&& m = 0x40002) (c : ℕ) (o : FOp) :
    Touches m z (State.dropFop s c o) := by
  unfold State.dropFop
  with_reducible repeat' first
    | assumption | apply State.refreshQ_touches | apply State.setFarr_touches | exact mask_trans (by decide) hp | extract_lets

theorem State.notFree_touches {m : Nat} {z s : State} (hz : Touches m z s) (hp : 0xCFFDFE62 &&& m = 0xCFFDFE62)
    (c : ℕ) (o : FOp) :
    Touches m z (State.notFree s c o) := by
  unfold State.notFree
  with_reducible repeat' first
    | assumption | apply State.raiseFault_touches | apply State.raiseInt_touches | apply State.bump_touches
    | apply State.memberAgain_touches | apply State.moveStripe_touches | exact mask_trans (by decide) hp | apply touches_ite
    | split | extract_lets

theorem State.startDie_touches {m : Nat} {z s : State} (hz : Touches m z s) (hp : 0xCFFDFE62 &&& m = 0xCFFDFE62)
    (k : ℕ) (c : ℕ) (d : ℕ) (q : FQueue) : Touches m z (State.startDie k c d q s) := by
  induction k generalizing s with
  | zero => unfold State.startDie; with_reducible repeat' first | assumption | apply State.dropFop_touches | apply State.notFree_touches | apply State.setDie_touches | exact mask_trans (by decide) hp
  | succ k ih =>
    unfold State.startDie
    with_reducible repeat' first | assumption | apply ih | apply State.dropFop_touches | apply State.notFree_touches | apply State.setDie_touches | extract_lets | exact mask_trans (by decide) hp | apply touches_ite | split

theorem State.suspendFor_touches {m : Nat} {z s : State} (hz : Touches m z s) (hp : 0xCFFDFE62 &&& m = 0xCFFDFE62)
    (c : ℕ) (d : ℕ) :
    Touches m z (State.suspendFor s c d) := by
  unfold State.suspendFor
  with_reducible repeat' first
    | assumption | apply State.startDie_touches | apply State.bump_touches | apply State.setDie_touches
    | exact mask_trans (by decide) hp | apply touches_ite | extract_lets

theorem State.noteServed_touches {m : Nat} {z s : State} (hz : Touches m z s) (hp : 0x40000 &&& m = 0x40000)
    (c : ℕ) (q : FQueue) (d : ℕ) :
    Touches m z (State.noteServed s c q d) := by
  unfold State.noteServed
  with_reducible repeat' first
    | assumption | apply State.setFarr_touches | exact mask_trans (by decide) hp | extract_lets

theorem State.serveDie_touches {m : Nat} {z s : State} (hz : Touches m z s) (hp : 0xCFFDFE62 &&& m = 0xCFFDFE62)
    (c : ℕ) (q : FQueue) (d : ℕ) :
    Touches m z (State.serveDie s c q d) := by
  unfold State.serveDie
  with_reducible repeat' first
    | assumption | apply State.startDie_touches | apply State.suspendFor_touches | apply State.noteServed_touches
    | exact mask_trans (by decide) hp | apply touches_ite | extract_lets

theorem State.serveChannel_touches {m : Nat} {z s : State} (hz : Touches m z s) (hp : 0xCFFDFE62 &&& m = 0xCFFDFE62) (c : ℕ) :
    Touches m z (State.serveChannel s c) := by
  unfold State.serveChannel
  with_reducible repeat' first
    | assumption | apply State.serveDie_touches | exact mask_trans (by decide) hp | apply touches_foldl | intro t a ht

theorem State.enqueueFop_touches {m : Nat} {z s : State} (hz : Touches m z s) (hp : 0x40002 &&& m = 0x40002) (c : ℕ) (o : FOp) :
    Touches m z (State.enqueueFop s c o) := by
  unfold State.enqueueFop
  with_reducible repeat' first
    | assumption | apply State.refreshQ_touches | apply State.setFarr_touches | exact mask_trans (by decide) hp
    | apply touches_ite | extract_lets

theorem State.dieIdle_touches {m : Nat} {z s : State} (hz : Touches m z s) (hp : 0x40000 &&& m = 0x40000) (c : ℕ) (d : ℕ) :
    Touches m z (State.dieIdle s c d) := by
  unfold State.dieIdle
  with_reducible repeat' first
    | assumption | apply State.setDie_touches | exact mask_trans (by decide) hp | apply touches_ite | split | extract_lets

theorem State.controlEnds_touches {m : Nat} {z s : State} (hz : Touches m z s) (hp : 0x40002 &&& m = 0x40002) (c : ℕ) (d : ℕ) :
    Touches m z (State.controlEnds s c d) := by
  unfold State.controlEnds
  with_reducible repeat' first
    | assumption | apply State.put_touches | apply State.dieIdle_touches | exact mask_trans (by decide) hp | split

theorem State.flashTick_touches {m : Nat} {z s : State} (hz : Touches m z s) (hp : 0xCFFDFE62 &&& m = 0xCFFDFE62) :
    Touches m z (State.flashTick s) := by
  unfold State.flashTick
  with_reducible repeat' first
    | assumption | apply State.controlEnds_touches | apply State.serveChannel_touches | exact mask_trans (by decide) hp
    | apply touches_ite | apply touches_foldl | intro t a ht | split | extract_lets

theorem State.resumeExpired_touches {m : Nat} {z s : State} (hz : Touches m z s) (hp : 0xCFFDFE62 &&& m = 0xCFFDFE62)
    (c : ℕ) (d : ℕ) :
    Touches m z (State.resumeExpired s c d) := by
  unfold State.resumeExpired
  with_reducible repeat' first
    | assumption | apply State.suspendFor_touches | exact mask_trans (by decide) hp

theorem State.wearEvent_touches {m : Nat} {z s : State} (hz : Touches m z s) (hp : 0xCFFDFE62 &&& m = 0xCFFDFE62)
    (c : ℕ) (d : ℕ) :
    Touches m z (State.wearEvent s c d) := by
  unfold State.wearEvent
  with_reducible repeat' first
    | assumption | apply State.raiseFault_touches | apply State.raiseInt_touches | apply State.wearLog_touches
    | apply State.setDie_touches | exact mask_trans (by decide) hp | apply touches_ite | extract_lets

theorem State.refreshSkerry_touches {m : Nat} {z s : State} (hz : Touches m z s) (hp : 0x40022 &&& m = 0x40022) (k : ℕ) :
    Touches m z (State.refreshSkerry s k) := by
  unfold State.refreshSkerry
  with_reducible repeat' first
    | assumption | apply State.refreshFarr_touches | apply State.bump_touches | apply State.setFarr_touches
    | exact mask_trans (by decide) hp | apply touches_ite | extract_lets

theorem State.countRead_touches {m : Nat} {z s : State} (hz : Touches m z s) (hp : 0xCFFDFE62 &&& m = 0xCFFDFE62)
    (c : ℕ) (r : ReadResult) :
    Touches m z (State.countRead s c r) := by
  unfold State.countRead
  with_reducible repeat' first
    | assumption | apply State.bump64_touches | apply State.bump_touches | apply State.raiseFault_touches
    | apply State.raiseInt_touches | exact mask_trans (by decide) hp | apply touches_ite | extract_lets

theorem State.scanRead_touches {m : Nat} {z s : State} (hz : Touches m z s) (hp : 0x40000002 &&& m = 0x40000002)
    (k : ℕ) (scan : Bool) (full : Bool) :
    Touches m z (State.scanRead s k scan full) := by
  unfold State.scanRead
  with_reducible repeat' first
    | assumption | apply State.setUpk_touches | apply State.put_touches | exact mask_trans (by decide) hp | apply touches_ite
    | extract_lets

theorem State.noteLost_touches {m : Nat} {z s : State} (hz : Touches m z s) (hp : 0x40000 &&& m = 0x40000)
    (r : ReadResult) (x : ℕ × ℕ × ℕ × ℕ) :
    Touches m z (State.noteLost s r x) := by
  unfold State.noteLost
  with_reducible repeat' first
    | assumption | apply State.setFarr_touches | exact mask_trans (by decide) hp | apply touches_ite | extract_lets

theorem State.markRetire_touches {m : Nat} {z s : State} (hz : Touches m z s) (hp : 0x40002 &&& m = 0x40002) (k : ℕ) :
    Touches m z (State.markRetire s k) := by
  unfold State.markRetire
  with_reducible repeat' first
    | assumption | apply State.refreshFarr_touches | apply State.setFarr_touches | exact mask_trans (by decide) hp
    | apply touches_ite | extract_lets

theorem State.readEnds_touches {m : Nat} {z s : State} (hz : Touches m z s) (hp : 0xCFFDFE62 &&& m = 0xCFFDFE62)
    (c : ℕ) (d : ℕ) (p : ℕ) (b : ℕ) (r : ReadEnd) (last : Bool) (scan : Bool) :
    Touches m z (State.readEnds s c d p b r last scan) := by
  unfold State.readEnds
  with_reducible repeat' first
    | assumption | apply State.noteLost_touches | apply State.countRead_touches | apply State.scanRead_touches
    | apply State.setBlock_touches | apply State.bump64_touches | apply State.setFarr_touches | apply State.markRetire_touches
    | apply State.refreshSkerry_touches | apply State.dieIdle_touches | exact mask_trans (by decide) hp | apply touches_ite
    | split | extract_lets

theorem State.programCounted_touches {m : Nat} {z s : State} (hz : Touches m z s) (hp : 0x40000002 &&& m = 0x40000002)
    (c : ℕ) (slc : Bool) :
    Touches m z (State.programCounted s c slc) := by
  unfold State.programCounted
  with_reducible repeat' first
    | assumption | apply State.bump64_touches | apply State.setUpk_touches | exact mask_trans (by decide) hp | extract_lets

theorem State.closeFailed_touches {m : Nat} {z s : State} (hz : Touches m z s) (hp : 0x40002 &&& m = 0x40002) (k : ℕ) :
    Touches m z (State.closeFailed s k) := by
  unfold State.closeFailed
  with_reducible repeat' first
    | assumption | apply State.markRetire_touches | apply State.setSk_touches | exact mask_trans (by decide) hp | extract_lets

theorem State.programEnds_touches {m : Nat} {z s : State} (hz : Touches m z s) (hp : 0xCFFDFE62 &&& m = 0xCFFDFE62)
    (c : ℕ) (d : ℕ) (ok : Bool) (us : ℕ) :
    Touches m z (State.programEnds s c d ok us) := by
  unfold State.programEnds
  with_reducible repeat' first
    | assumption | apply State.setBlock_touches | apply State.programCounted_touches | apply State.wearEvent_touches
    | apply State.setDie_touches | apply State.dieIdle_touches | apply State.refreshFarr_touches
    | apply State.stripeColumn_touches | apply State.raiseFault_touches | apply State.closeFailed_touches
    | apply State.memberAgain_touches | apply State.dieFails_touches | apply State.redirectStripe_touches
    | exact mask_trans (by decide) hp | apply touches_ite | apply touches_foldl | intro t a ht | split | extract_lets

theorem State.retired_touches {m : Nat} {z s : State} (hz : Touches m z s) (hp : 0xCFFDFE62 &&& m = 0xCFFDFE62)
    (c : ℕ) (d : ℕ) (n : ℕ) :
    Touches m z (State.retired s c d n) := by
  unfold State.retired
  with_reducible repeat' first
    | assumption | apply State.wearEvent_touches | apply State.setDie_touches | apply State.raiseFault_touches
    | apply State.raiseInt_touches | apply State.wearLog_touches | apply State.dieFails_touches
    | exact mask_trans (by decide) hp | apply touches_ite | extract_lets

theorem State.retireBlocks_touches {m : Nat} {z s : State} (hz : Touches m z s) (hp : 0xCFFDFE62 &&& m = 0xCFFDFE62) (k : ℕ) :
    Touches m z (State.retireBlocks s k) := by
  unfold State.retireBlocks
  with_reducible repeat' first
    | assumption | apply State.refreshDie_touches | apply State.retired_touches | apply State.setFarr_touches
    | exact mask_trans (by decide) hp | apply touches_ite | apply touches_foldl | intro t a ht | extract_lets

theorem State.retireAll_touches {m : Nat} {z s : State} (hz : Touches m z s) (hp : 0xCFFDFE62 &&& m = 0xCFFDFE62) :
    Touches m z (State.retireAll s) := by
  unfold State.retireAll
  with_reducible repeat' first
    | assumption | apply State.refreshFarr_touches | apply State.retireBlocks_touches | exact mask_trans (by decide) hp
    | apply touches_foldl | intro t a ht

theorem State.serveColumn_touches {m : Nat} {z s : State} (hz : Touches m z s) (hp : 0xCFFDFE62 &&& m = 0xCFFDFE62)
    (k : ℕ) (c : ℕ) :
    Touches m z (State.serveColumn k s c) := by
  unfold State.serveColumn
  with_reducible repeat' first
    | assumption | apply State.substitute_touches | apply State.raiseFault_touches | apply State.raiseInt_touches
    | apply State.wearLog_touches | apply State.moveBand_touches | exact mask_trans (by decide) hp | apply touches_ite | split

theorem State.leaveRing_touches {m : Nat} {z s : State} (hz : Touches m z s) (hp : 0x40000 &&& m = 0x40000) (k : ℕ) :
    Touches m z (State.leaveRing s k) := by
  unfold State.leaveRing
  with_reducible repeat' first
    | assumption | apply State.setMedia_touches | exact mask_trans (by decide) hp | apply touches_ite | extract_lets

theorem State.bandAfterErase_touches {m : Nat} {z s : State} (hz : Touches m z s) (hp : 0x40000 &&& m = 0x40000) (k : ℕ) :
    Touches m z (State.bandAfterErase s k) := by
  unfold State.bandAfterErase
  with_reducible repeat' first
    | assumption | apply State.moveBand_touches | apply State.setMedia_touches | apply State.setSk_touches
    | exact mask_trans (by decide) hp | apply touches_ite | extract_lets

theorem State.skerryErased_touches {m : Nat} {z s : State} (hz : Touches m z s) (hp : 0xCFFFFE62 &&& m = 0xCFFFFE62) (k : ℕ) :
    Touches m z (State.skerryErased s k) := by
  unfold State.skerryErased
  with_reducible repeat' first
    | assumption | apply State.setArr_touches | apply State.leaveRing_touches | apply State.setFarr_touches
    | apply State.bandAfterErase_touches | apply State.setSk_touches | apply State.serveColumn_touches
    | exact mask_trans (by decide) hp | apply touches_foldl | intro t a ht | extract_lets

theorem State.eraseEnds_touches {m : Nat} {z s : State} (hz : Touches m z s) (hp : 0xCFFFFE62 &&& m = 0xCFFFFE62)
    (c : ℕ) (d : ℕ) (ok : Bool) (us : ℕ) :
    Touches m z (State.eraseEnds s c d ok us) := by
  unfold State.eraseEnds
  with_reducible repeat' first
    | assumption | apply State.setBlock_touches | apply State.bump_touches | apply State.setDie_touches
    | apply State.raiseFault_touches | apply State.refreshDie_touches | apply State.retired_touches
    | apply State.dieIdle_touches | apply State.refreshFarr_touches | apply State.skerryErased_touches
    | exact mask_trans (by decide) hp | apply touches_ite | apply touches_foldl | intro t a ht | split | extract_lets

theorem State.eraseArray_touches {m : Nat} {z s : State} (hz : Touches m z s) (hp : 0xCFFFFE62 &&& m = 0xCFFFFE62)
    (failed : List ℕ) :
    Touches m z (State.eraseArray s failed) := by
  unfold State.eraseArray
  with_reducible repeat' first
    | assumption | apply State.eraseBlocks_touches | apply State.refreshDie_touches | apply State.retired_touches
    | apply State.refreshFarr_touches | apply State.setFarr_touches | apply State.setPers_touches | apply State.setArr_touches
    | apply State.setMedia_touches | exact mask_trans (by decide) hp | apply touches_foldl | intro t a ht | extract_lets

theorem State.finishErase_touches {m : Nat} {z s : State} (hz : Touches m z s) (hp : 0xCFFFFF62 &&& m = 0xCFFFFF62)
    (failed : List ℕ) :
    Touches m z (State.finishErase s failed) := by
  unfold State.finishErase
  with_reducible repeat' first
    | assumption | exact fun c => (hz.canon c).older | apply State.setKept_touches | apply State.eraseArray_touches
    | exact mask_trans (by decide) hp | apply touches_ite | extract_lets
    | exact fun c => (Touches.canon (m := m) (State.eraseArray_touches hz (mask_trans (by decide) hp) failed) c).older

theorem State.dieTimeout_touches {m : Nat} {z s : State} (hz : Touches m z s) (hp : 0xCFFDFE62 &&& m = 0xCFFDFE62)
    (c : ℕ) (d : ℕ) (late : Bool) :
    Touches m z (State.dieTimeout s c d late) := by
  unfold State.dieTimeout
  with_reducible repeat' first
    | assumption | apply State.lateOk_touches | apply State.raiseFault_touches | apply State.bump_touches
    | apply State.dieFails_touches | apply State.setDie_touches | exact mask_trans (by decide) hp | apply touches_ite
    | extract_lets

theorem State.retrainChannel_touches {m : Nat} {z s : State} (hz : Touches m z s) (hp : 0x2 &&& m = 0x2) (c : ℕ) :
    Touches m z (State.retrainChannel s c) := by
  unfold State.retrainChannel
  with_reducible repeat' first
    | assumption | apply State.put_touches | exact mask_trans (by decide) hp

theorem State.dieFound_touches {m : Nat} {z s : State} (hz : Touches m z s) (hp : 0x40000 &&& m = 0x40000)
    (c : ℕ) (d : ℕ) (o : Option DieFound) :
    Touches m z (State.dieFound s c d o) := by
  unfold State.dieFound
  with_reducible repeat' first
    | assumption | apply State.setFarr_touches | apply State.setDie_touches | exact mask_trans (by decide) hp
    | apply touches_ite | split | extract_lets

theorem State.channelTrained_touches {m : Nat} {z s : State} (hz : Touches m z s) (hp : 0xCFFDFE62 &&& m = 0xCFFDFE62)
    (c : ℕ) (ok : Bool) (found : List (Option DieFound)) :
    Touches m z (State.channelTrained s c ok found) := by
  unfold State.channelTrained
  with_reducible repeat' first
    | assumption | apply State.put_touches | apply State.setFarr_touches | apply State.dieFound_touches
    | apply State.refreshFarr_touches | apply State.rewriteRate_touches | apply State.refreshDie_touches
    | apply State.channelDown_touches | exact mask_trans (by decide) hp | apply touches_ite | apply touches_foldl | intro t a ht
    | extract_lets

theorem State.queryBlock_touches {m : Nat} {z s : State} (hz : Touches m z s) (hp : 0x40002 &&& m = 0x40002) (v : ℕ) :
    Touches m z (State.queryBlock s v) := by
  unfold State.queryBlock
  with_reducible repeat' first
    | assumption | apply State.setFarr_touches | apply State.put_touches | exact mask_trans (by decide) hp | extract_lets

theorem State.blockFound_touches {m : Nat} {z s : State} (hz : Touches m z s) (hp : 0x40002 &&& m = 0x40002) :
    Touches m z (State.blockFound s) := by
  unfold State.blockFound
  with_reducible repeat' first
    | assumption | apply State.put_touches | apply State.setFarr_touches | exact mask_trans (by decide) hp | apply touches_ite
    | split | extract_lets

/-! ### Machine/Mov -/

theorem State.movStart_touches {m : Nat} {z s : State} (hz : Touches m z s) (hp : 0x80002 &&& m = 0x80002) (c : ℕ) :
    Touches m z (State.movStart s c) := by
  unfold State.movStart
  with_reducible repeat' first
    | assumption | apply State.put_touches | apply State.setChan_touches | exact mask_trans (by decide) hp | apply touches_ite
    | extract_lets

theorem State.movCmd_touches {m : Nat} {z s : State} (hz : Touches m z s) (hp : 0xC048CC62 &&& m = 0xC048CC62)
    (c : ℕ) (data : ℕ) :
    Touches m z (State.movCmd s c data) := by
  unfold State.movCmd
  with_reducible repeat' first
    | assumption | apply State.abortChan_touches | apply State.movStart_touches | exact mask_trans (by decide) hp
    | apply touches_ite

theorem State.startChan_touches {m : Nat} {z s : State} (hz : Touches m z s) (hp : 0x80002 &&& m = 0x80002) (c : ℕ) :
    Touches m z (State.startChan s c) := by
  unfold State.startChan
  with_reducible repeat' first
    | assumption | apply State.setChan_touches | apply State.put64_touches | apply State.put_touches | apply State.setPc_touches
    | apply State.setMov_touches | exact mask_trans (by decide) hp | apply touches_ite | apply touches_foldl | intro t a ht
    | extract_lets

theorem State.startChans_touches {m : Nat} {z s : State} (hz : Touches m z s) (hp : 0x80002 &&& m = 0x80002) :
    Touches m z (State.startChans s) := by
  unfold State.startChans
  with_reducible repeat' first
    | assumption | apply State.startChan_touches | exact mask_trans (by decide) hp | apply touches_foldl | intro t a ht

theorem State.serveChan_touches {m : Nat} {z s : State} (hz : Touches m z s) (hp : 0x80000 &&& m = 0x80000) (c : ℕ) :
    Touches m z (State.serveChan s c) := by
  unfold State.serveChan
  with_reducible repeat' first
    | assumption | apply State.setMov_touches | exact mask_trans (by decide) hp | extract_lets

theorem State.skip_touches {m : Nat} {z s : State} (hz : Touches m z s) (hp : 0x80002 &&& m = 0x80002) (c : ℕ) (n : ℕ) :
    Touches m z (State.skip s c n) := by
  unfold State.skip
  with_reducible repeat' first
    | assumption | apply State.setPc_touches | exact mask_trans (by decide) hp

theorem State.beginXfer_touches {m : Nat} {z s : State} (hz : Touches m z s) (hp : 0x80000 &&& m = 0x80000)
    (c : ℕ) (i : MInstr) :
    Touches m z (State.beginXfer s c i) := by
  unfold State.beginXfer
  with_reducible repeat' first
    | assumption | apply State.serveChan_touches | apply State.setChan_touches | exact mask_trans (by decide) hp
    | apply touches_ite | extract_lets

theorem State.markHeld_touches {m : Nat} {z s : State} (hz : Touches m z s) (hp : 0x2 &&& m = 0x2) (c : ℕ) :
    Touches m z (State.markHeld s c) := by
  unfold State.markHeld
  with_reducible repeat' first
    | assumption | apply State.put_touches | exact mask_trans (by decide) hp | apply touches_ite | split

/-- One slot of a port's turn touches what its burst does (R271). -/
theorem State.issueSlot_touches {m : Nat} {z : State} (a : State × List ℕ) (g : ℕ) (hz : Touches m z a.1) (hp : 0x80002 &&& m = 0x80002) :
    Touches m z (State.issueSlot a g).1 := by
  unfold State.issueSlot
  with_reducible repeat' first
    | assumption | apply State.setMov_touches | apply State.serveChan_touches | apply State.setChan_touches | apply State.setFill_touches
    | exact mask_trans (by decide) hp | split | extract_lets

theorem State.issueSlots_touches {m : Nat} {z : State} (n : ℕ) (hp : 0x80002 &&& m = 0x80002) :
    ∀ a : State × List ℕ, Touches m z a.1 → Touches m z (State.issueSlots n a).1 := by
  induction n with
  | zero => exact fun a ha => ha
  | succ n ih =>
    intro a ha
    unfold State.issueSlots
    extract_lets b
    split
    · exact ha
    · exact ih b (touches_foldl_fst _ _ _ ha (fun t g ht => State.issueSlot_touches t g ht (mask_trans (by decide) hp)))

theorem State.moverTick_touches {m : Nat} {z s : State} (hz : Touches m z s) (hp : 0x80002 &&& m = 0x80002) :
    Touches m z (State.moverTick s) := by
  unfold State.moverTick
  split
  · exact touches_foldl _ _ _ (State.issueSlots_touches _ (mask_trans (by decide) hp) _ hz)
      (fun t a ht => State.markHeld_touches ht (mask_trans (by decide) hp) _)
  · exact hz

theorem State.increments_touches {m : Nat} {z s : State} (hz : Touches m z s) (hp : 0x2 &&& m = 0x2) (c : ℕ) (w : BitVec 64) :
    Touches m z (State.increments s c w) := by
  unfold State.increments
  with_reducible repeat' first
    | assumption | apply State.put64_touches | exact mask_trans (by decide) hp | apply touches_ite | extract_lets

theorem State.setStatus_touches {m : Nat} {z s : State} (hz : Touches m z s) (hp : 0x80020 &&& m = 0x80020)
    (c : ℕ) (pc : ℕ) (e : ℕ) :
    Touches m z (State.setStatus s c pc e) := by
  unfold State.setStatus
  with_reducible repeat' first
    | assumption | apply State.setMov_touches | apply State.setPm_touches | apply State.drawn_touches
    | exact mask_trans (by decide) hp | apply touches_ite | split | extract_lets

theorem State.busError_touches {m : Nat} {z s : State} (hz : Touches m z s) (hp : 0xCFFDFE62 &&& m = 0xCFFDFE62)
    (c : ℕ) (w : BitVec 64) (k : ℕ) (e : ℕ) :
    Touches m z (State.busError s c w k e) := by
  unfold State.busError
  with_reducible repeat' first
    | assumption | apply State.setStatus_touches | apply State.bump_touches | apply State.put64_touches
    | apply State.put_touches | apply State.raiseFault_touches | apply State.raiseInt_touches | exact mask_trans (by decide) hp
    | extract_lets

theorem State.transferDone_touches {m : Nat} {z s : State} (hz : Touches m z s) (hp : 0xCFFDFE62 &&& m = 0xCFFDFE62)
    (c : ℕ) (err : Option (ℕ × ℕ)) :
    Touches m z (State.transferDone s c err) := by
  unfold State.transferDone
  with_reducible repeat' first
    | assumption | apply State.xfer_touches | apply State.busError_touches | apply State.increments_touches
    | apply State.skip_touches | apply State.put_touches | apply State.setChan_touches | exact mask_trans (by decide) hp
    | apply touches_ite | split | extract_lets

theorem State.movLoop_touches {m : Nat} {z s : State} (hz : Touches m z s) (hp : 0x80002 &&& m = 0x80002) (c : ℕ) :
    Touches m z (State.movLoop s c) := by
  unfold State.movLoop
  with_reducible repeat' first
    | assumption | apply State.put_touches | apply State.setPc_touches | exact mask_trans (by decide) hp | apply touches_ite
    | extract_lets

theorem State.strtEvent_touches {m : Nat} {z s : State} (hz : Touches m z s) (hp : 0x80000 &&& m = 0x80000) (n : ℕ) :
    Touches m z (State.strtEvent s n) := by
  unfold State.strtEvent
  with_reducible repeat' first
    | assumption | apply State.setMov_touches | exact mask_trans (by decide) hp | extract_lets

theorem State.movSignal_touches {m : Nat} {z s : State} (hz : Touches m z s) (hp : 0x80884C02 &&& m = 0x80884C02)
    (c : ℕ) (cycle : ℕ) :
    Touches m z (State.movSignal s c cycle) := by
  unfold State.movSignal
  with_reducible repeat' first
    | assumption | apply State.put_touches | apply State.raiseInt_touches | apply State.strtEvent_touches
    | apply State.sendFrame_touches | apply State.produce_touches | apply State.skip_touches | exact mask_trans (by decide) hp
    | apply touches_ite | extract_lets

theorem State.movHalt_touches {m : Nat} {z s : State} (hz : Touches m z s) (hp : 0x80084C02 &&& m = 0x80084C02)
    (c : ℕ) (cycle : ℕ) :
    Touches m z (State.movHalt s c cycle) := by
  unfold State.movHalt
  with_reducible repeat' first
    | assumption | apply State.produce_touches | apply State.freePort_touches | apply State.put_touches
    | exact mask_trans (by decide) hp | apply touches_ite | extract_lets

theorem State.movNop_touches {m : Nat} {z s : State} (hz : Touches m z s) (hp : 0x80002 &&& m = 0x80002) (c : ℕ) :
    Touches m z (State.movNop s c) := by
  unfold State.movNop
  with_reducible repeat' first
    | assumption | apply State.skip_touches | exact mask_trans (by decide) hp | apply touches_ite

theorem State.movIllegal_touches {m : Nat} {z s : State} (hz : Touches m z s) (hp : 0xCFFDFE62 &&& m = 0xCFFDFE62)
    (c : ℕ) (cycle : ℕ) :
    Touches m z (State.movIllegal s c cycle) := by
  unfold State.movIllegal
  with_reducible repeat' first
    | assumption | apply State.raiseFault_touches | apply State.abortAfter_touches | exact mask_trans (by decide) hp
    | apply touches_ite

theorem State.movPcRange_touches {m : Nat} {z s : State} (hz : Touches m z s) (hp : 0xC048CC62 &&& m = 0xC048CC62)
    (c : ℕ) (cycle : ℕ) :
    Touches m z (State.movPcRange s c cycle) := by
  unfold State.movPcRange
  with_reducible repeat' first
    | assumption | apply State.abortAfter_touches | exact mask_trans (by decide) hp | apply touches_ite

theorem State.movPmUe_touches {m : Nat} {z s : State} (hz : Touches m z s) (hp : 0xCFFDFE62 &&& m = 0xCFFDFE62)
    (c : ℕ) (cycle : ℕ) :
    Touches m z (State.movPmUe s c cycle) := by
  unfold State.movPmUe
  with_reducible repeat' first
    | assumption | apply State.raiseFaultAt_touches | apply State.abortAfter_touches | exact mask_trans (by decide) hp
    | apply touches_ite

theorem State.movWait_touches {m : Nat} {z s : State} (hz : Touches m z s) (hp : 0x80002 &&& m = 0x80002) (c : ℕ) :
    Touches m z (State.movWait s c) := by
  unfold State.movWait
  with_reducible repeat' first
    | assumption | apply State.put_touches | apply State.setChan_touches | apply State.setMov_touches
    | exact mask_trans (by decide) hp | apply touches_ite | extract_lets

theorem State.waitEnd_touches {m : Nat} {z s : State} (hz : Touches m z s) (hp : 0x80002 &&& m = 0x80002) (c : ℕ) :
    Touches m z (State.waitEnd s c) := by
  unfold State.waitEnd
  with_reducible repeat' first
    | assumption | apply State.put_touches | apply State.lateOk_touches | apply State.setMov_touches | apply State.skip_touches
    | exact mask_trans (by decide) hp | apply touches_ite | extract_lets

theorem State.waitTimeout_touches {m : Nat} {z s : State} (hz : Touches m z s) (hp : 0xC048CC62 &&& m = 0xC048CC62)
    (c : ℕ) (cycle : ℕ) :
    Touches m z (State.waitTimeout s c cycle) := by
  unfold State.waitTimeout
  with_reducible repeat' first
    | assumption | apply State.abortAfter_touches | exact mask_trans (by decide) hp | apply touches_ite

theorem State.unblock_touches {m : Nat} {z s : State} (hz : Touches m z s) (hp : 0x80084C02 &&& m = 0x80084C02)
    (c : ℕ) (cycle : ℕ) :
    Touches m z (State.unblock s c cycle) := by
  unfold State.unblock
  with_reducible repeat' first
    | assumption | apply State.enterSlot_touches | apply State.freePort_touches | apply State.put_touches
    | exact mask_trans (by decide) hp | apply touches_ite | split | extract_lets

theorem State.collect_touches {m : Nat} {z s : State} (hz : Touches m z s) (hp : 0x80084C02 &&& m = 0x80084C02) (cycle : ℕ) :
    Touches m z (State.collect s cycle) := by
  unfold State.collect
  with_reducible repeat' first
    | assumption | apply State.setMov_touches | apply State.setChan_touches | apply State.raiseInt_touches
    | apply State.send_touches | apply State.unblock_touches | exact mask_trans (by decide) hp | apply touches_ite | split
    | extract_lets

theorem State.ringPop_touches {m : Nat} {z s : State} (hz : Touches m z s) (hp : 0x80000 &&& m = 0x80000) :
    Touches m z (State.ringPop s) := by
  unfold State.ringPop
  with_reducible repeat' first
    | assumption | apply State.setMov_touches | exact mask_trans (by decide) hp | extract_lets

theorem State.pmNext_touches {m : Nat} {z s : State} (hz : Touches m z s) (hp : 0x2 &&& m = 0x2) : Touches m z (State.pmNext s) := by
  unfold State.pmNext
  with_reducible repeat' first
    | assumption | apply State.put_touches | exact mask_trans (by decide) hp

theorem State.pmStore_touches {m : Nat} {z s : State} (hz : Touches m z s) (hp : 0x80002 &&& m = 0x80002) (hi : ℕ) :
    Touches m z (State.pmStore s hi) := by
  unfold State.pmStore
  with_reducible repeat' first
    | assumption | apply State.pmNext_touches | apply State.setPm_touches | exact mask_trans (by decide) hp

theorem State.preemptMovers_touches {m : Nat} {z s : State} (hz : Touches m z s) (hp : 0xC048CC62 &&& m = 0xC048CC62) :
    Touches m z (State.preemptMovers s) := by
  unfold State.preemptMovers
  with_reducible repeat' first
    | assumption | apply State.abortChan_touches | exact mask_trans (by decide) hp | apply touches_ite | apply touches_foldl
    | intro t a ht

/-! ### Machine/Dramc -/

theorem State.devFailed_touches {m : Nat} {z s : State} (hz : Touches m z s) (hp : 0xCFFDFEE2 &&& m = 0xCFFDFEE2)
    (sc : ℕ) (lrank : ℕ) (device : ℕ) :
    Touches m z (State.devFailed s sc lrank device) := by
  unfold State.devFailed
  with_reducible repeat' first
    | assumption | apply State.put_touches | apply State.store_touches | apply State.raiseFault_touches
    | apply State.raiseInt_touches | apply State.cxlEvent_touches | apply State.needsCare_touches
    | exact mask_trans (by decide) hp | apply touches_ite | extract_lets

theorem State.countDevice_touches {m : Nat} {z s : State} (hz : Touches m z s) (hp : 0xCFFDFEE2 &&& m = 0xCFFDFEE2)
    (line : ℕ) (device : ℕ) :
    Touches m z (State.countDevice s line device) := by
  unfold State.countDevice
  with_reducible repeat' first
    | assumption | apply State.bump_touches | apply State.devFailed_touches | apply State.setDrc_touches
    | exact mask_trans (by decide) hp | extract_lets

theorem State.readCorrected_touches {m : Nat} {z s : State} (hz : Touches m z s) (hp : 0xCFFDFEE2 &&& m = 0xCFFDFEE2)
    (line : ℕ) (r : Requester) (syms : List ℕ) (written : Bool) :
    Touches m z (State.readCorrected s line r syms written) := by
  unfold State.readCorrected
  with_reducible repeat' first
    | assumption | apply State.raiseFault_touches | apply State.dscErr_touches | apply State.bump64_touches
    | apply State.countDevice_touches | apply State.drcWrite_touches | exact mask_trans (by decide) hp | apply touches_ite
    | split | extract_lets

theorem State.markIslet_touches {m : Nat} {z s : State} (hz : Touches m z s) (hp : 0xA0004C22 &&& m = 0xA0004C22) (i : ℕ) :
    Touches m z (State.markIslet s i) := by
  unfold State.markIslet
  with_reducible repeat' first
    | assumption | apply State.raiseInt_touches | apply State.setDscr_touches | apply State.bump_touches
    | exact mask_trans (by decide) hp | apply touches_ite | extract_lets

theorem State.requestRepair_touches {m : Nat} {z s : State} (hz : Touches m z s) (hp : 0x400000 &&& m = 0x400000) (line : ℕ) :
    Touches m z (State.requestRepair s line) := by
  unfold State.requestRepair
  with_reducible repeat' first
    | assumption | apply State.setDrc_touches | exact mask_trans (by decide) hp | apply touches_ite | extract_lets

theorem State.readUe_touches {m : Nat} {z s : State} (hz : Touches m z s) (hp : 0xEFFDFE62 &&& m = 0xEFFDFE62)
    (line : ℕ) (r : Requester) (record : ℕ) :
    Touches m z (State.readUe s line r record) := by
  unfold State.readUe
  with_reducible repeat' first
    | assumption | apply State.dscErr_touches | apply State.bump_touches | apply State.setLine_touches
    | apply State.event_touches | apply State.raiseFault_touches | apply State.raiseInt_touches
    | apply State.requestRepair_touches | apply State.cxlEvent_touches | apply State.markIslet_touches
    | apply State.markPoison_touches | apply State.drcWrite_touches | apply State.recordLost_touches
    | exact mask_trans (by decide) hp | split | extract_lets

theorem State.dramReadDone_touches {m : Nat} {z s : State} (hz : Touches m z s) (hp : 0xEFFDFEE2 &&& m = 0xEFFDFEE2)
    (line : ℕ) (r : Requester) (o : ReadOutcome) (record : ℕ) :
    Touches m z (State.dramReadDone s line r o record) := by
  unfold State.dramReadDone
  with_reducible repeat' first
    | assumption | apply State.readCorrected_touches | apply State.recordLost_touches | apply State.readPoison_touches
    | apply State.readUe_touches | exact mask_trans (by decide) hp | apply touches_ite | split

theorem State.repairWrite_touches {m : Nat} {z s : State} (hz : Touches m z s) (hp : 0x400062 &&& m = 0x400062) (line : ℕ) :
    Touches m z (State.repairWrite s line) := by
  unfold State.repairWrite
  with_reducible repeat' first
    | assumption | apply State.setDrc_touches | apply State.bump_touches | apply State.setLine_touches
    | apply State.drcWrite_touches | exact mask_trans (by decide) hp | apply touches_ite | extract_lets

theorem State.setOwed_touches {m : Nat} {z s : State} (hz : Touches m z s) (hp : 0x400000 &&& m = 0x400000)
    (sc : ℕ) (lrank : ℕ) (n : ℕ) :
    Touches m z (State.setOwed s sc lrank n) := by
  unfold State.setOwed
  with_reducible repeat' first
    | assumption | apply State.setDrc_touches | exact mask_trans (by decide) hp | extract_lets

theorem State.closeRank_touches {m : Nat} {z s : State} (hz : Touches m z s) (hp : 0x400000 &&& m = 0x400000)
    (sc : ℕ) (lrank : ℕ) :
    Touches m z (State.closeRank s sc lrank) := by
  unfold State.closeRank
  with_reducible repeat' first
    | assumption | apply State.setDrc_touches | exact mask_trans (by decide) hp | extract_lets

theorem State.payRank_touches {m : Nat} {z s : State} (hz : Touches m z s) (hp : 0x40400000 &&& m = 0x40400000)
    (sc : ℕ) (lrank : ℕ) :
    Touches m z (State.payRank s sc lrank) := by
  unfold State.payRank
  with_reducible repeat' first
    | assumption | apply State.setUpk_touches | apply State.closeRank_touches | apply State.setOwed_touches
    | exact mask_trans (by decide) hp | extract_lets

theorem State.refreshDue_touches {m : Nat} {z s : State} (hz : Touches m z s) (hp : 0x40400022 &&& m = 0x40400022)
    (sc : ℕ) (lrank : ℕ) (held : Bool) :
    Touches m z (State.refreshDue s sc lrank held) := by
  unfold State.refreshDue
  with_reducible repeat' first
    | assumption | apply State.setOwed_touches | apply State.bump_touches | apply State.put_touches
    | apply State.payRank_touches | exact mask_trans (by decide) hp | apply touches_ite | extract_lets

theorem State.mr4Poll_touches {m : Nat} {z s : State} (hz : Touches m z s) (hp : 0x2 &&& m = 0x2) (d : ℕ) (doubled : Bool) :
    Touches m z (State.mr4Poll s d doubled) := by
  unfold State.mr4Poll
  with_reducible repeat' first
    | assumption | apply State.put_touches | exact mask_trans (by decide) hp

theorem State.powerDown_touches {m : Nat} {z s : State} (hz : Touches m z s) (hp : 0x400022 &&& m = 0x400022)
    (d : ℕ) (r : ℕ) (late : Bool) :
    Touches m z (State.powerDown s d r late) := by
  unfold State.powerDown
  with_reducible repeat' first
    | assumption | apply State.lateOk_touches | apply State.bump_touches | apply State.closeRank_touches
    | apply State.put_touches | exact mask_trans (by decide) hp | apply touches_ite | apply touches_foldl | intro t a ht

theorem State.useSlot_touches {m : Nat} {z s : State} (hz : Touches m z s) (hp : 0x40400022 &&& m = 0x40400022)
    (sc : ℕ) (c : SlotCmd) :
    Touches m z (State.useSlot s sc c) := by
  unfold State.useSlot
  with_reducible repeat' first
    | assumption | apply State.payRank_touches | apply State.openRow_touches | apply State.wakeRank_touches
    | apply State.serveReq_touches | apply State.setDrc_touches | exact mask_trans (by decide) hp | split | extract_lets

theorem State.runSlots_touches {m : Nat} {z s : State} (hz : Touches m z s) (hp : 0x40400022 &&& m = 0x40400022)
    (sc : ℕ) (n : ℕ) : Touches m z (State.runSlots sc n s) := by
  induction n generalizing s with
  | zero => unfold State.runSlots; with_reducible repeat' first | assumption | apply State.useSlot_touches | exact mask_trans (by decide) hp
  | succ k ih =>
    unfold State.runSlots
    with_reducible repeat' first | assumption | apply ih | apply State.useSlot_touches | extract_lets | exact mask_trans (by decide) hp | apply touches_ite | split

theorem State.drainQueue_touches {m : Nat} {z s : State} (hz : Touches m z s) (hp : 0x40400022 &&& m = 0x40400022) (sc : ℕ) :
    Touches m z (State.drainQueue s sc) := by
  unfold State.drainQueue
  with_reducible repeat' first
    | assumption | apply State.runSlots_touches | exact mask_trans (by decide) hp | apply touches_ite

theorem State.caAlert_touches {m : Nat} {z s : State} (hz : Touches m z s) (hp : 0xCFFDFE62 &&& m = 0xCFFDFE62) (sc : ℕ) :
    Touches m z (State.caAlert s sc) := by
  unfold State.caAlert
  with_reducible repeat' first
    | assumption | apply State.setDrc_touches | apply State.raiseFault_touches | apply State.raiseInt_touches
    | exact mask_trans (by decide) hp | apply touches_ite | extract_lets

theorem State.caClear_touches {m : Nat} {z s : State} (hz : Touches m z s) (hp : 0x40400022 &&& m = 0x40400022) (sc : ℕ) :
    Touches m z (State.caClear s sc) := by
  unfold State.caClear
  with_reducible repeat' first
    | assumption | apply State.setDrc_touches | apply State.closeRank_touches | apply State.setOwed_touches
    | apply State.drainQueue_touches | exact mask_trans (by decide) hp | apply touches_ite | apply touches_foldl | intro t a ht
    | extract_lets

theorem State.retrainDone_touches {m : Nat} {z s : State} (hz : Touches m z s) (hp : 0xC0404C22 &&& m = 0xC0404C22)
    (sc : ℕ) (margin : Bool) :
    Touches m z (State.retrainDone s sc margin) := by
  unfold State.retrainDone
  with_reducible repeat' first
    | assumption | apply State.setDrc_touches | apply State.drainQueue_touches | apply State.raiseInt_touches
    | exact mask_trans (by decide) hp | apply touches_ite | extract_lets

theorem State.dtrnGo_touches {m : Nat} {z s : State} (hz : Touches m z s) (hp : 0x400002 &&& m = 0x400002) :
    Touches m z (State.dtrnGo s) := by
  unfold State.dtrnGo
  with_reducible repeat' first
    | assumption | apply State.put_touches | apply State.setDrc_touches | exact mask_trans (by decide) hp | apply touches_ite
    | extract_lets

theorem State.dtrnHalt_touches {m : Nat} {z s : State} (hz : Touches m z s) (hp : 0x400000 &&& m = 0x400000) :
    Touches m z (State.dtrnHalt s) := by
  unfold State.dtrnHalt
  with_reducible repeat' first
    | assumption | apply State.setDrc_touches | exact mask_trans (by decide) hp | apply touches_ite | extract_lets

theorem State.dtrnDone_touches {m : Nat} {z s : State} (hz : Touches m z s) (hp : 0x80404C02 &&& m = 0x80404C02)
    (lanes : ℕ) (bits : ℕ) :
    Touches m z (State.dtrnDone s lanes bits) := by
  unfold State.dtrnDone
  with_reducible repeat' first
    | assumption | apply State.setDrc_touches | apply State.put_touches | apply State.raiseInt_touches
    | exact mask_trans (by decide) hp | apply touches_ite | extract_lets

/-! ### Machine/Start -/

theorem State.eventNo_touches {m : Nat} {z s : State} (hz : Touches m z s) (hp : 0x80005C22 &&& m = 0x80005C22)
    (block : ℕ) (code : ℕ) (detail : List ℕ) :
    Touches m z (State.eventNo s block code detail) := by
  unfold State.eventNo
  with_reducible repeat' first
    | assumption | apply State.recEvent_touches | exact mask_trans (by decide) hp

theorem State.linkLost_touches {m : Nat} {z s : State} (hz : Touches m z s) (hp : 0x80205E22 &&& m = 0x80205E22) :
    Touches m z (State.linkLost s) := by
  unfold State.linkLost
  with_reducible repeat' first
    | assumption | apply State.raiseInt_touches | apply State.bump_touches | apply State.dropLink_touches
    | exact mask_trans (by decide) hp | apply touches_ite

theorem State.unstall_touches {m : Nat} {z s : State} (hz : Touches m z s) (hp : 0x40402022 &&& m = 0x40402022) (k : ℕ) :
    Touches m z (State.unstall s k) := by
  unfold State.unstall
  with_reducible repeat' first
    | assumption | apply State.setRst_touches | apply State.drainQueue_touches | exact mask_trans (by decide) hp
    | apply touches_ite | extract_lets

theorem State.pllLock_touches {m : Nat} {z s : State} (hz : Touches m z s) (hp : 0x40402022 &&& m = 0x40402022) (k : ℕ) :
    Touches m z (State.pllLock s k) := by
  unfold State.pllLock
  with_reducible repeat' first
    | assumption | apply State.put_touches | apply State.unstall_touches | apply State.setRst_touches
    | exact mask_trans (by decide) hp | apply touches_ite | extract_lets

theorem State.refLoss_touches {m : Nat} {z s : State} (hz : Touches m z s) (hp : 0xCFFDFE62 &&& m = 0xCFFDFE62) :
    Touches m z (State.refLoss s) := by
  unfold State.refLoss
  with_reducible repeat' first
    | assumption | apply State.put_touches | apply State.bump_touches | apply State.raiseFault_touches
    | apply State.raiseInt_touches | apply State.linkLost_touches | exact mask_trans (by decide) hp | apply touches_ite
    | extract_lets

theorem State.refBack_touches {m : Nat} {z s : State} (hz : Touches m z s) (hp : 0x80004C02 &&& m = 0x80004C02) (ppm : ℕ) :
    Touches m z (State.refBack s ppm) := by
  unfold State.refBack
  with_reducible repeat' first
    | assumption | apply State.raiseInt_touches | apply State.put_touches | exact mask_trans (by decide) hp | apply touches_ite

theorem State.aonLoss_touches {m : Nat} {z s : State} (hz : Touches m z s) (hp : 0xCFFDFE62 &&& m = 0xCFFDFE62) :
    Touches m z (State.aonLoss s) := by
  unfold State.aonLoss
  with_reducible repeat' first
    | assumption | apply State.raiseFault_touches | apply State.put_touches | exact mask_trans (by decide) hp
    | apply touches_ite

theorem State.pllUnlock_touches {m : Nat} {z s : State} (hz : Touches m z s) (hp : 0xCFFDFE62 &&& m = 0xCFFDFE62) (k : ℕ) :
    Touches m z (State.pllUnlock s k) := by
  unfold State.pllUnlock
  with_reducible repeat' first
    | assumption | apply State.raiseInt_touches | apply State.bump_touches | apply State.put_touches
    | apply State.raiseFault_touches | apply State.linkLost_touches | apply State.setRst_touches
    | exact mask_trans (by decide) hp | apply touches_ite | extract_lets

theorem State.recRange_touches {m : Nat} {z s : State} (hz : Touches m z s) (hp : 0x2 &&& m = 0x2) :
    Touches m z (State.recRange s) := by
  unfold State.recRange
  with_reducible repeat' first
    | assumption | apply State.put_touches | exact mask_trans (by decide) hp | split | extract_lets

theorem State.refreshHours_touches {m : Nat} {z s : State} (hz : Touches m z s) (hp : 0x2 &&& m = 0x2) :
    Touches m z (State.refreshHours s) := by
  unfold State.refreshHours
  with_reducible repeat' first
    | assumption | apply State.put_touches | exact mask_trans (by decide) hp

theorem State.recPowerOn_touches {m : Nat} {z s : State} (hz : Touches m z s) (hp : 0xCFFDFE62 &&& m = 0xCFFDFE62) :
    Touches m z (State.recPowerOn s) := by
  unfold State.recPowerOn
  with_reducible repeat' first
    | assumption | apply State.put_touches | apply State.setRecd_touches | apply State.refreshHours_touches
    | apply State.recRange_touches | apply State.raiseFault_touches | apply State.flush_touches | apply State.note_touches
    | exact mask_trans (by decide) hp | apply touches_ite | extract_lets

theorem State.loadFuses_touches {m : Nat} {z s : State} (hz : Touches m z s) (hp : 0x2002 &&& m = 0x2002) (retries : Option ℕ) :
    Touches m z (State.loadFuses s retries) := by
  unfold State.loadFuses
  with_reducible repeat' first
    | assumption | apply State.setWord_touches | apply State.setRst_touches | apply State.put_touches
    | exact mask_trans (by decide) hp | apply touches_foldl | intro t a ht | extract_lets

theorem State.sampleStraps_touches {m : Nat} {z s : State} (hz : Touches m z s) (hp : 0x2 &&& m = 0x2) :
    Touches m z (State.sampleStraps s) := by
  unfold State.sampleStraps
  with_reducible repeat' first
    | assumption | apply State.put_touches | exact mask_trans (by decide) hp

theorem State.loadStored_touches {m : Nat} {z s : State} (hz : Touches m z s) (hp : 0x2 &&& m = 0x2) :
    Touches m z (State.loadStored s) := by
  unfold State.loadStored
  with_reducible repeat' first
    | assumption | apply State.reloadStored_touches | apply State.put_touches | exact mask_trans (by decide) hp

theorem State.powerOn_touches {m : Nat} {z s : State} (hz : Touches m z s) (hp : 0xCFFDFE62 &&& m = 0xCFFDFE62)
    (retries : Option ℕ) :
    Touches m z (State.powerOn s retries) := by
  unfold State.powerOn
  with_reducible repeat' first
    | assumption | apply State.put_touches | apply State.loadStored_touches | apply State.loadFuses_touches
    | apply State.sampleStraps_touches | apply State.resumeWipe_touches | apply State.setRst_touches
    | apply State.startFields_touches | apply State.coldStart_touches | apply State.recoveryStart_touches
    | apply State.raiseFault_touches | apply State.recPowerOn_touches | exact mask_trans (by decide) hp | apply touches_ite
    | extract_lets

theorem State.verifyFailed_touches {m : Nat} {z s : State} (hz : Touches m z s) (hp : 0xCFFDFE62 &&& m = 0xCFFDFE62)
    (isle : ℕ) (stage : ℕ) :
    Touches m z (State.verifyFailed s isle stage) := by
  unfold State.verifyFailed
  with_reducible repeat' first
    | assumption | apply State.raiseFault_touches | apply State.eventNo_touches | exact mask_trans (by decide) hp

theorem State.bootVerified_touches {m : Nat} {z s : State} (hz : Touches m z s) (hp : 0xCFFDFE62 &&& m = 0xCFFDFE62)
    (active : ℕ) (other : ℕ) :
    Touches m z (State.bootVerified s active other) := by
  unfold State.bootVerified
  with_reducible repeat' first
    | assumption | apply State.eventNo_touches | apply State.setSelector_touches | apply State.setRst_touches
    | apply State.put_touches | apply State.bootSwap_touches | apply State.verifyFailed_touches | apply State.raiseInt_touches
    | apply State.recoveryStart_touches | exact mask_trans (by decide) hp | apply touches_ite | extract_lets

/-- What the configuration store and the older ones become are among the stores there were, or empty (R517). -/
theorem pickConfig_wf (ver : Nat) (cur : Nat × Sparse Word) (older : List (Nat × Sparse Word))
    (hc : Sparse.wf resetWord cur.2 = true) (ho : ∀ e ∈ older, Sparse.wf resetWord e.2 = true) :
    Sparse.wf resetWord (pickConfig ver cur older).1 = true ∧
      ∀ e ∈ (pickConfig ver cur older).2.1, Sparse.wf resetWord e.2 = true := by
  have hall : ∀ e ∈ cur :: older, Sparse.wf resetWord e.2 = true := fun e he => by
    cases List.mem_cons.mp he with
    | inl h => exact h ▸ hc
    | inr h => exact ho e h
  have htop : Sparse.wf resetWord ((cur :: older).foldl (fun a e => if a.1 < e.1 then e else a) cur).2 = true :=
    List.foldlRecOn (motive := fun (e : Nat × Sparse Word) => Sparse.wf resetWord e.2 = true) _ _ hc
      (fun b hb a ha => by split; exacts [hall a ha, hb])
  unfold pickConfig
  extract_lets all top low
  split
  · exact ⟨hc, ho⟩
  · split
    · exact ⟨htop, fun e he => by rw [List.mem_singleton.mp he]; exact htop⟩
    · have hlow : ∀ b, low = some b → Sparse.wf resetWord b.2 = true :=
        List.foldlRecOn (motive := fun (o : Option (Nat × Sparse Word)) => ∀ b, o = some b → Sparse.wf resetWord b.2 = true) _ _
          (fun b h => by cases h) (fun o ho a ha b h => by
            have hw := hall a (List.mem_filter.mp ha).1
            split at h
            · cases h; exact hw
            · split at h
              · cases h; exact hw
              · exact ho b h)
      clear_value low
      cases low with
      | some b => exact ⟨hlow b rfl, fun e he => hall e (List.mem_filter.mp he).1⟩
      | none => exact ⟨rfl, hall⟩

theorem State.readConfig_touches {m : Nat} {z s : State} (hz : Touches m z s) (hp : 0x80005DA2 &&& m = 0x80005DA2) (ver : ℕ) (kinds : ℕ) :
    Touches m z (State.readConfig s ver kinds) := by
  unfold State.readConfig
  split
  · exact State.eventNo_touches (State.setKept_touches (touches_cfg hz (mask_trans (by decide) hp) (fun _ => rfl))
      (mask_trans (by decide) hp) _ (fun _ e he => by cases he)) (mask_trans (by decide) hp) _ _ _
  · next v hv =>
    have h : Touches m z ({ s with cfgStore := (pickConfig ver (v, s.cfgStore) s.kept.older).1 }.setKept
        { s.kept with cfgVer := some ver, older := (pickConfig ver (v, s.cfgStore) s.kept.older).2.1 }) :=
      State.setKept_touches (touches_cfg hz (mask_trans (by decide) hp)
        (fun c => (pickConfig_wf _ _ _ c.cfgStore c.older).1)) (mask_trans (by decide) hp) _
        (fun c => (pickConfig_wf _ _ _ (hz.canon c).cfgStore (hz.canon c).older).2)
    exact touches_ite (State.eventNo_touches h (mask_trans (by decide) hp) _ _ _)
      (touches_ite (State.eventNo_touches h (mask_trans (by decide) hp) _ _ _) h)

theorem State.dramConfig_touches {m : Nat} {z s : State} (hz : Touches m z s) (hp : 0x2 &&& m = 0x2) (d : ℕ) :
    Touches m z (State.dramConfig s d) := by
  unfold State.dramConfig
  with_reducible repeat' first
    | assumption | apply State.put_touches | exact mask_trans (by decide) hp | apply touches_ite | extract_lets

theorem State.claimFeature_touches {m : Nat} {z s : State} (hz : Touches m z s) (hp : 0x2 &&& m = 0x2) (f : Feature) :
    Touches m z (State.claimFeature s f) := by
  unfold State.claimFeature
  with_reducible repeat' first
    | assumption | apply State.enableFeature_touches | exact mask_trans (by decide) hp | apply touches_ite

theorem State.firmwareUp_touches {m : Nat} {z s : State} (hz : Touches m z s) (hp : 0x2 &&& m = 0x2) :
    Touches m z (State.firmwareUp s) := by
  unfold State.firmwareUp
  with_reducible repeat' first
    | assumption | apply State.put_touches | apply State.claimFeature_touches | apply State.enableFeature_touches
    | exact mask_trans (by decide) hp | apply touches_foldl | intro t a ht | extract_lets

theorem State.armGauge_touches {m : Nat} {z s : State} (hz : Touches m z s) (hp : 0x2000002 &&& m = 0x2000002) :
    Touches m z (State.armGauge s) := by
  unfold State.armGauge
  with_reducible repeat' first
    | assumption | apply State.setTwl_touches | apply State.put_touches | exact mask_trans (by decide) hp | split | extract_lets

theorem State.configured_touches {m : Nat} {z s : State} (hz : Touches m z s) (hp : 0x82217DA2 &&& m = 0x82217DA2)
    (ver : ℕ) (kinds : ℕ) :
    Touches m z (State.configured s ver kinds) := by
  unfold State.configured
  with_reducible repeat' first
    | assumption | apply State.loadStored_touches | apply State.readConfig_touches | apply State.armGauge_touches
    | apply State.firmwareUp_touches | apply State.dramConfig_touches | apply State.setHlk_touches | apply State.setSave_touches
    | apply State.setRst_touches | apply State.put_touches | exact mask_trans (by decide) hp | apply touches_ite | extract_lets

theorem State.recoverySample_touches {m : Nat} {z s : State} (hz : Touches m z s) (hp : 0x12022 &&& m = 0x12022)
    (first : Bool) (second : Bool) :
    Touches m z (State.recoverySample s first second) := by
  unfold State.recoverySample
  with_reducible repeat' first
    | assumption | apply State.setRst_touches | apply State.recoveryStart_touches | exact mask_trans (by decide) hp
    | apply touches_ite | extract_lets

theorem State.clearDevFail_touches {m : Nat} {z s : State} (hz : Touches m z s) (hp : 0x82 &&& m = 0x82) (sc : ℕ) :
    Touches m z (State.clearDevFail s sc) := by
  unfold State.clearDevFail
  with_reducible repeat' first
    | assumption | apply State.store_touches | apply State.put_touches | exact mask_trans (by decide) hp | apply touches_foldl
    | intro t a ht

theorem State.drcTrained_touches {m : Nat} {z s : State} (hz : Touches m z s) (hp : 0xCFFDFE62 &&& m = 0xCFFDFE62)
    (full : List ℕ) (failed : List ℕ) (fell : List ℕ) (d : ℕ) :
    Touches m z (State.drcTrained full failed fell s d) := by
  unfold State.drcTrained
  with_reducible repeat' first
    | assumption | apply State.put_touches | apply State.raiseInt_touches | apply State.raiseFault_touches
    | apply State.cxlEvent_touches | exact mask_trans (by decide) hp | apply touches_ite | extract_lets

theorem State.trainingDone_touches {m : Nat} {z s : State} (hz : Touches m z s) (hp : 0xCFFDFFE2 &&& m = 0xCFFDFFE2)
    (fell : List ℕ) (lowered : Bool) (failed : List ℕ) :
    Touches m z (State.trainingDone s fell lowered failed) := by
  unfold State.trainingDone
  with_reducible repeat' first
    | assumption | exact fun c => (hz.canon c).older | refine fun c => (Touches.canon (m := m) ?_ c).older
    | apply State.put_touches | apply State.drcTrained_touches | apply State.clearDevFail_touches | apply State.setDrc_touches
    | apply State.setKept_touches | apply State.setRst_touches | apply State.setHlk_touches | exact mask_trans (by decide) hp
    | apply touches_ite | apply touches_foldl | intro t a ht | extract_lets

end Sys2Proof.Machine
end

