-- ==== Sys2Proof/Laws/TouchesStrt.lean ====
section
/-! SUPPORT. Machine/Strt, Machine/Link, Machine/Pwr, Machine/Rec, Machine/Epoch: which parts of the state each operation can touch (`Touches`). -/

set_option linter.unreachableTactic false
set_option linter.unusedTactic false

namespace Sys2Proof.Machine

/-! ### Machine/Strt -/

theorem State.portTrained_touches {m : Nat} {z s : State} (hz : Touches m z s) (hp : 0xCFFDFE62 &&& m = 0xCFFDFE62)
    (port : ℕ) (partner : ℕ) (ring : Bool) :
    Touches m z (State.portTrained s port partner ring) := by
  unfold State.portTrained
  with_reducible repeat' first
    | assumption | apply State.setStrt_touches | apply State.put_touches | apply State.sendOn_touches
    | apply State.raiseFault_touches | apply State.raiseInt_touches | exact mask_trans (by decide) hp | apply touches_ite
    | extract_lets

theorem State.portDown_touches {m : Nat} {z s : State} (hz : Touches m z s) (hp : 0xCFFDFE62 &&& m = 0xCFFDFE62) (port : ℕ) :
    Touches m z (State.portDown s port) := by
  unfold State.portDown
  with_reducible repeat' first
    | assumption | apply State.raiseFault_touches | apply State.put_touches | exact mask_trans (by decide) hp
    | apply touches_ite

theorem State.strtRetrain_touches {m : Nat} {z s : State} (hz : Touches m z s) (hp : 0x2 &&& m = 0x2) :
    Touches m z (State.strtRetrain s) := by
  unfold State.strtRetrain
  with_reducible repeat' first
    | assumption | apply State.put_touches | exact mask_trans (by decide) hp

theorem State.refreshExpected_touches {m : Nat} {z s : State} (hz : Touches m z s) (hp : 0x2 &&& m = 0x2) :
    Touches m z (State.refreshExpected s) := by
  unfold State.refreshExpected
  with_reducible repeat' first
    | assumption | apply State.put_touches | exact mask_trans (by decide) hp | apply touches_ite | extract_lets

theorem State.censusEnds_touches {m : Nat} {z s : State} (hz : Touches m z s) (hp : 0x800002 &&& m = 0x800002) :
    Touches m z (State.censusEnds s) := by
  unfold State.censusEnds
  with_reducible repeat' first
    | assumption | apply State.refreshExpected_touches | apply State.put_touches | apply State.setStrt_touches
    | exact mask_trans (by decide) hp | apply touches_ite | apply touches_foldl | intro t a ht | split | extract_lets

theorem State.electMaster_touches {m : Nat} {z s : State} (hz : Touches m z s) (hp : 0x800002 &&& m = 0x800002) :
    Touches m z (State.electMaster s) := by
  unfold State.electMaster
  with_reducible repeat' first
    | assumption | apply State.refreshExpected_touches | apply State.setStrt_touches | apply State.put_touches
    | exact mask_trans (by decide) hp | apply touches_ite | extract_lets

theorem State.newMaster_touches {m : Nat} {z s : State} (hz : Touches m z s) (hp : 0x80804C02 &&& m = 0x80804C02) (d : ℕ) :
    Touches m z (State.newMaster s d) := by
  unfold State.newMaster
  with_reducible repeat' first
    | assumption | apply State.raiseInt_touches | apply State.refreshExpected_touches | apply State.setStrt_touches
    | apply State.put_touches | exact mask_trans (by decide) hp | extract_lets

theorem State.sendTickSync_touches {m : Nat} {z s : State} (hz : Touches m z s) (hp : 0x80800002 &&& m = 0x80800002) :
    Touches m z (State.sendTickSync s) := by
  unfold State.sendTickSync
  with_reducible repeat' first
    | assumption | apply State.sendFrame_touches | exact mask_trans (by decide) hp

theorem State.setGroupSealed_touches {m : Nat} {z s : State} (hz : Touches m z s) (hp : 0x800002 &&& m = 0x800002) (e : ℕ) :
    Touches m z (State.setGroupSealed s e) := by
  unfold State.setGroupSealed
  with_reducible repeat' first
    | assumption | apply State.setStrt_touches | apply State.put64_touches | exact mask_trans (by decide) hp | apply touches_ite
    | extract_lets

theorem State.sendGroupSealed_touches {m : Nat} {z s : State} (hz : Touches m z s) (hp : 0x80800002 &&& m = 0x80800002) :
    Touches m z (State.sendGroupSealed s) := by
  unfold State.sendGroupSealed
  with_reducible repeat' first
    | assumption | apply State.sendFrame_touches | apply State.setGroupSealed_touches | exact mask_trans (by decide) hp
    | apply touches_ite

theorem State.checkGroupSealed_touches {m : Nat} {z s : State} (hz : Touches m z s) (hp : 0x80804C02 &&& m = 0x80804C02) :
    Touches m z (State.checkGroupSealed s) := by
  unfold State.checkGroupSealed
  with_reducible repeat' first
    | assumption | apply State.raiseInt_touches | apply State.setStrt_touches | exact mask_trans (by decide) hp
    | apply touches_ite | extract_lets

theorem State.takeShare_touches {m : Nat} {z s : State} (hz : Touches m z s) (hp : 0x818002 &&& m = 0x818002)
    (mj : ℕ) (age : ℕ) :
    Touches m z (State.takeShare s mj age) := by
  unfold State.takeShare
  with_reducible repeat' first
    | assumption | apply State.setStrt_touches | apply State.put_touches | apply State.setSave_touches
    | apply State.setPers_touches | exact mask_trans (by decide) hp | apply touches_ite | split | extract_lets

theorem State.sendShares_touches {m : Nat} {z s : State} (hz : Touches m z s) (hp : 0x80810002 &&& m = 0x80810002) :
    Touches m z (State.sendShares s) := by
  unfold State.sendShares
  with_reducible repeat' first
    | assumption | apply State.sendFrame_touches | apply State.setSave_touches | exact mask_trans (by decide) hp
    | apply touches_foldl | intro t a ht | split | extract_lets

theorem State.takeMastership_touches {m : Nat} {z s : State} (hz : Touches m z s) (hp : 0x8090CC02 &&& m = 0x8090CC02)
    (late : Bool) :
    Touches m z (State.takeMastership s late) := by
  unfold State.takeMastership
  with_reducible repeat' first
    | assumption | apply State.lateOk_touches | apply State.setStrt_touches | apply State.put_touches
    | apply State.newMaster_touches | apply State.sendTickSync_touches | apply State.sendFrame_touches
    | apply State.setRstr_touches | apply State.setPers_touches | apply State.sendGroupSealed_touches
    | exact mask_trans (by decide) hp | apply touches_ite | extract_lets

theorem State.peerSilent_touches {m : Nat} {z s : State} (hz : Touches m z s) (hp : 0x80014C22 &&& m = 0x80014C22)
    (d : ℕ) (late : Bool) :
    Touches m z (State.peerSilent s d late) := by
  unfold State.peerSilent
  with_reducible repeat' first
    | assumption | apply State.lateOk_touches | apply State.put_touches | apply State.setSave_touches
    | apply State.raiseInt_touches | apply State.bump_touches | exact mask_trans (by decide) hp | apply touches_ite
    | extract_lets

theorem State.sendInfo_touches {m : Nat} {z s : State} (hz : Touches m z s) (hp : 0x80800002 &&& m = 0x80800002) :
    Touches m z (State.sendInfo s) := by
  unfold State.sendInfo
  with_reducible repeat' first
    | assumption | apply State.sendFrame_touches | exact mask_trans (by decide) hp

theorem State.sendPeriodic_touches {m : Nat} {z s : State} (hz : Touches m z s) (hp : 0x80800002 &&& m = 0x80800002)
    (k : Periodic) :
    Touches m z (State.sendPeriodic s k) := by
  unfold State.sendPeriodic
  with_reducible repeat' first
    | assumption | apply State.sendOn_touches | apply State.sendTickSync_touches | apply State.sendInfo_touches
    | exact mask_trans (by decide) hp | apply touches_ite | apply touches_foldl | intro t a ht | split

theorem State.sendTailDone_touches {m : Nat} {z s : State} (hz : Touches m z s) (hp : 0x80800002 &&& m = 0x80800002) (e : ℕ) :
    Touches m z (State.sendTailDone s e) := by
  unfold State.sendTailDone
  with_reducible repeat' first
    | assumption | apply State.sendFrame_touches | exact mask_trans (by decide) hp

theorem State.sendSealed_touches {m : Nat} {z s : State} (hz : Touches m z s) (hp : 0x80800002 &&& m = 0x80800002) (e : ℕ) :
    Touches m z (State.sendSealed s e) := by
  unfold State.sendSealed
  with_reducible repeat' first
    | assumption | apply State.sendGroupSealed_touches | apply State.sendFrame_touches | exact mask_trans (by decide) hp

theorem State.frameBad_touches {m : Nat} {z s : State} (hz : Touches m z s) (hp : 0x22 &&& m = 0x22) (mine : Bool) :
    Touches m z (State.frameBad s mine) := by
  unfold State.frameBad
  with_reducible repeat' first
    | assumption | apply State.bump_touches | exact mask_trans (by decide) hp | apply touches_ite

theorem State.noteFrame_touches {m : Nat} {z s : State} (hz : Touches m z s) (hp : 0x80814C02 &&& m = 0x80814C02)
    (h : FrameHdr) :
    Touches m z (State.noteFrame s h) := by
  unfold State.noteFrame
  with_reducible repeat' first
    | assumption | apply State.heard_touches | apply State.setPeer_touches | apply State.setStrt_touches
    | apply State.setSave_touches | exact mask_trans (by decide) hp | apply touches_ite | split | extract_lets

theorem State.forwardFrame_touches {m : Nat} {z s : State} (hz : Touches m z s) (hp : 0x80000000 &&& m = 0x80000000)
    (h : FrameHdr) (typ : ℕ) (payload : List (BitVec 8)) :
    Touches m z (State.forwardFrame s h typ payload) := by
  unfold State.forwardFrame
  with_reducible repeat' first
    | assumption | apply State.send_touches | exact mask_trans (by decide) hp | apply touches_ite

theorem State.receive_touches {m : Nat} {z s : State} (hz : Touches m z s) (hp : 0x80814C22 &&& m = 0x80814C22)
    (h : FrameHdr) (typ : ℕ) (relay : List (BitVec 8)) (f : State → State) (hf : ∀ t, Touches m z t → Touches m z (f t)) :
    Touches m z (State.receive s h typ relay f) := by
  unfold State.receive
  with_reducible repeat' first
    | assumption | apply State.bump_touches | apply State.forwardFrame_touches | apply State.noteFrame_touches
    | apply State.bump64_touches | apply State.wake_touches | exact mask_trans (by decide) hp | apply touches_ite | extract_lets
    | apply hf

theorem State.frameUnlisted_touches {m : Nat} {z s : State} (hz : Touches m z s) (hp : 0x22 &&& m = 0x22) (h : FrameHdr) :
    Touches m z (State.frameUnlisted s h) := by
  unfold State.frameUnlisted
  with_reducible repeat' first
    | assumption | apply State.bump_touches | exact mask_trans (by decide) hp | apply touches_ite

theorem State.onHeartbeat_touches {m : Nat} {z s : State} (hz : Touches m z s) (hp : 0x80814C22 &&& m = 0x80814C22)
    (h : FrameHdr) (p : List (BitVec 8)) :
    Touches m z (State.onHeartbeat s h p) := by
  unfold State.onHeartbeat
  with_reducible repeat' first
    | assumption | apply State.receive_touches | apply State.setPeer_touches | apply State.refreshExpected_touches
    | apply State.setStrt_touches | apply State.put_touches | exact mask_trans (by decide) hp | apply touches_ite | extract_lets
    | intro t ht

theorem State.onProbe_touches {m : Nat} {z s : State} (hz : Touches m z s) (hp : 0x80814C22 &&& m = 0x80814C22)
    (h : FrameHdr) (turn : ℕ) :
    Touches m z (State.onProbe s h turn) := by
  unfold State.onProbe
  with_reducible repeat' first
    | assumption | apply State.receive_touches | apply State.sendOn_touches | exact mask_trans (by decide) hp | intro t ht

theorem State.onEcho_touches {m : Nat} {z s : State} (hz : Touches m z s) (hp : 0x80814C22 &&& m = 0x80814C22)
    (h : FrameHdr) (p : List (BitVec 8)) (trip : ℕ) :
    Touches m z (State.onEcho s h p trip) := by
  unfold State.onEcho
  with_reducible repeat' first
    | assumption | apply State.receive_touches | apply State.put_touches | exact mask_trans (by decide) hp | apply touches_ite
    | intro t ht

theorem State.setOffset_touches {m : Nat} {z s : State} (hz : Touches m z s) (hp : 0x2 &&& m = 0x2) (ps : ℤ) :
    Touches m z (State.setOffset s ps) := by
  unfold State.setOffset
  with_reducible repeat' first
    | assumption | apply State.put_touches | exact mask_trans (by decide) hp

theorem State.tickSync_touches {m : Nat} {z s : State} (hz : Touches m z s) (hp : 0xCFFDFE62 &&& m = 0xCFFDFE62)
    (offset : ℤ) (pass : ℕ) :
    Touches m z (State.tickSync s offset pass) := by
  unfold State.tickSync
  with_reducible repeat' first
    | assumption | apply State.setStrt_touches | apply State.setOffset_touches | apply State.raiseFault_touches
    | apply State.raiseInt_touches | exact mask_trans (by decide) hp | apply touches_ite | extract_lets

theorem State.onTickSync_touches {m : Nat} {z s : State} (hz : Touches m z s) (hp : 0xCFFDFE62 &&& m = 0xCFFDFE62)
    (h : FrameHdr) (p : List (BitVec 8)) (arrival : ℤ) (lag : ℕ) (resid : ℕ) :
    Touches m z (State.onTickSync s h p arrival lag resid) := by
  unfold State.onTickSync
  with_reducible repeat' first
    | assumption | apply State.receive_touches | apply State.tickSync_touches | exact mask_trans (by decide) hp
    | apply touches_ite | extract_lets | intro t ht

theorem State.alignTick_touches {m : Nat} {z s : State} (hz : Touches m z s) (hp : 0x800022 &&& m = 0x800022) :
    Touches m z (State.alignTick s) := by
  unfold State.alignTick
  with_reducible repeat' first
    | assumption | apply State.bump_touches | apply State.put_touches | apply State.setStrt_touches
    | apply State.setOffset_touches | exact mask_trans (by decide) hp | apply touches_ite | split | extract_lets

theorem State.onInfo_touches {m : Nat} {z s : State} (hz : Touches m z s) (hp : 0x80814C22 &&& m = 0x80814C22)
    (h : FrameHdr) (p : List (BitVec 8)) :
    Touches m z (State.onInfo s h p) := by
  unfold State.onInfo
  with_reducible repeat' first
    | assumption | apply State.receive_touches | apply State.setPeer_touches | exact mask_trans (by decide) hp | extract_lets
    | intro t ht

theorem State.onShare_touches {m : Nat} {z s : State} (hz : Touches m z s) (hp : 0x8081CC22 &&& m = 0x8081CC22)
    (h : FrameHdr) (p : List (BitVec 8)) :
    Touches m z (State.onShare s h p) := by
  unfold State.onShare
  with_reducible repeat' first
    | assumption | apply State.receive_touches | apply State.takeShare_touches | exact mask_trans (by decide) hp
    | apply touches_ite | intro t ht

theorem State.onTailDone_touches {m : Nat} {z s : State} (hz : Touches m z s) (hp : 0x80814C22 &&& m = 0x80814C22)
    (h : FrameHdr) (p : List (BitVec 8)) :
    Touches m z (State.onTailDone s h p) := by
  unfold State.onTailDone
  with_reducible repeat' first
    | assumption | apply State.receive_touches | apply State.setPeer_touches | exact mask_trans (by decide) hp | extract_lets
    | intro t ht

theorem State.issueClose_touches {m : Nat} {z s : State} (hz : Touches m z s) (hp : 0x8080CC02 &&& m = 0x8080CC02) :
    Touches m z (State.issueClose s) := by
  unfold State.issueClose
  with_reducible repeat' first
    | assumption | apply State.sendFrame_touches | apply State.setPers_touches | apply State.deferClose_touches
    | exact mask_trans (by decide) hp | apply touches_ite | extract_lets

theorem State.setClose_touches {m : Nat} {z s : State} (hz : Touches m z s) (hp : 0x8000CC02 &&& m = 0x8000CC02)
    (t : ℕ) (n : ℕ) :
    Touches m z (State.setClose s t n) := by
  unfold State.setClose
  with_reducible repeat' first
    | assumption | apply State.setPers_touches | apply State.bump64By_touches | apply State.raiseInt_touches
    | exact mask_trans (by decide) hp | apply touches_ite | extract_lets

theorem State.onClose_touches {m : Nat} {z s : State} (hz : Touches m z s) (hp : 0x8081CC22 &&& m = 0x8081CC22)
    (h : FrameHdr) (p : List (BitVec 8)) :
    Touches m z (State.onClose s h p) := by
  unfold State.onClose
  with_reducible repeat' first
    | assumption | apply State.receive_touches | apply State.setClose_touches | apply State.bump_touches
    | exact mask_trans (by decide) hp | apply touches_ite | extract_lets | intro t ht

theorem State.onSealed_touches {m : Nat} {z s : State} (hz : Touches m z s) (hp : 0x80814C22 &&& m = 0x80814C22)
    (h : FrameHdr) (p : List (BitVec 8)) :
    Touches m z (State.onSealed s h p) := by
  unfold State.onSealed
  with_reducible repeat' first
    | assumption | apply State.receive_touches | apply State.sendGroupSealed_touches | apply State.setPeer_touches
    | exact mask_trans (by decide) hp | extract_lets | intro t ht

theorem State.onGroupSealed_touches {m : Nat} {z s : State} (hz : Touches m z s) (hp : 0x80814C22 &&& m = 0x80814C22)
    (h : FrameHdr) (p : List (BitVec 8)) :
    Touches m z (State.onGroupSealed s h p) := by
  unfold State.onGroupSealed
  with_reducible repeat' first
    | assumption | apply State.receive_touches | apply State.setGroupSealed_touches | exact mask_trans (by decide) hp
    | apply touches_ite | intro t ht

theorem State.onSave_touches {m : Nat} {z s : State} (hz : Touches m z s) (hp : 0xCFFDFC62 &&& m = 0xCFFDFC62) (h : FrameHdr) :
    Touches m z (State.onSave s h) := by
  unfold State.onSave
  with_reducible repeat' first
    | assumption | apply State.receive_touches | apply State.startSave_touches | exact mask_trans (by decide) hp
    | apply touches_ite | intro t ht

theorem State.onSaveStart_touches {m : Nat} {z s : State} (hz : Touches m z s) (hp : 0x80814C22 &&& m = 0x80814C22)
    (h : FrameHdr) (p : List (BitVec 8)) :
    Touches m z (State.onSaveStart s h p) := by
  unfold State.onSaveStart
  with_reducible repeat' first
    | assumption | apply State.receive_touches | apply State.setPeer_touches | exact mask_trans (by decide) hp | extract_lets
    | intro t ht

theorem State.onSaveEnd_touches {m : Nat} {z s : State} (hz : Touches m z s) (hp : 0x80814C22 &&& m = 0x80814C22)
    (h : FrameHdr) (p : List (BitVec 8)) :
    Touches m z (State.onSaveEnd s h p) := by
  unfold State.onSaveEnd
  with_reducible repeat' first
    | assumption | apply State.receive_touches | apply State.setPeer_touches | exact mask_trans (by decide) hp | extract_lets
    | intro t ht

theorem State.onClaim_touches {m : Nat} {z s : State} (hz : Touches m z s) (hp : 0x80814C22 &&& m = 0x80814C22)
    (h : FrameHdr) (p : List (BitVec 8)) :
    Touches m z (State.onClaim s h p) := by
  unfold State.onClaim
  with_reducible repeat' first
    | assumption | apply State.receive_touches | apply State.newMaster_touches | exact mask_trans (by decide) hp
    | apply touches_ite | intro t ht

theorem State.onEvent_touches {m : Nat} {z s : State} (hz : Touches m z s) (hp : 0x80894C22 &&& m = 0x80894C22)
    (h : FrameHdr) (p : List (BitVec 8)) :
    Touches m z (State.onEvent s h p) := by
  unfold State.onEvent
  with_reducible repeat' first
    | assumption | apply State.receive_touches | apply State.strtEvent_touches | exact mask_trans (by decide) hp | intro t ht

theorem State.shareTimeout_touches {m : Nat} {z s : State} (hz : Touches m z s) (hp : 0x10000 &&& m = 0x10000) :
    Touches m z (State.shareTimeout s) := by
  unfold State.shareTimeout
  with_reducible repeat' first
    | assumption | apply State.setSave_touches | exact mask_trans (by decide) hp | apply touches_ite | split | extract_lets

theorem State.takePoint_touches {m : Nat} {z s : State} (hz : Touches m z s) (hp : 0xCFFDFF62 &&& m = 0xCFFDFF62) :
    Touches m z (State.takePoint s) := by
  unfold State.takePoint
  with_reducible repeat' first
    | assumption | apply State.settleClass_touches | apply State.event_touches | apply State.put_touches
    | exact mask_trans (by decide) hp | apply touches_ite | split

theorem State.sendPoint_touches {m : Nat} {z s : State} (hz : Touches m z s) (hp : 0x80800002 &&& m = 0x80800002)
    (dst : Option ℕ) :
    Touches m z (State.sendPoint s dst) := by
  unfold State.sendPoint
  with_reducible repeat' first
    | assumption | apply State.sendFrame_touches | exact mask_trans (by decide) hp | split

theorem State.settlePoint_touches {m : Nat} {z s : State} (hz : Touches m z s) (hp : 0xCFFDFF62 &&& m = 0xCFFDFF62) :
    Touches m z (State.settlePoint s) := by
  unfold State.settlePoint
  with_reducible repeat' first
    | assumption | apply State.put_touches | apply State.setRstr_touches | apply State.takePoint_touches
    | apply State.sendPoint_touches | exact mask_trans (by decide) hp | apply touches_ite | apply touches_foldl | intro t a ht
    | extract_lets

theorem State.addStatus_touches {m₀ : Nat} {z₀ s : State} (hz : Touches m₀ z₀ s) (hp : 0x100000 &&& m₀ = 0x100000)
    (m : MemberImage) :
    Touches m₀ z₀ (State.addStatus s m) := by
  unfold State.addStatus
  with_reducible repeat' first
    | assumption | apply State.setRstr_touches | exact mask_trans (by decide) hp | extract_lets

theorem State.trySettle_touches {m : Nat} {z s : State} (hz : Touches m z s) (hp : 0xCFFDFF62 &&& m = 0xCFFDFF62) :
    Touches m z (State.trySettle s) := by
  unfold State.trySettle
  with_reducible repeat' first
    | assumption | apply State.settlePoint_touches | exact mask_trans (by decide) hp | apply touches_ite

theorem State.reportImage_touches {m : Nat} {z s : State} (hz : Touches m z s) (hp : 0xCFFDFF62 &&& m = 0xCFFDFF62) :
    Touches m z (State.reportImage s) := by
  unfold State.reportImage
  with_reducible repeat' first
    | assumption | apply State.settleClass_touches | apply State.sendFrame_touches | apply State.setPeer_touches
    | apply State.addStatus_touches | apply State.takePoint_touches | apply State.trySettle_touches
    | apply State.setRstr_touches | exact mask_trans (by decide) hp | apply touches_ite | extract_lets

theorem State.onStatus_touches {m : Nat} {z s : State} (hz : Touches m z s) (hp : 0xCFFDFF62 &&& m = 0xCFFDFF62)
    (h : FrameHdr) (p : List (BitVec 8)) :
    Touches m z (State.onStatus s h p) := by
  unfold State.onStatus
  with_reducible repeat' first
    | assumption | apply State.receive_touches | apply State.setPeer_touches | apply State.addStatus_touches
    | apply State.trySettle_touches | apply State.event_touches | apply State.sendPoint_touches
    | exact mask_trans (by decide) hp | apply touches_ite | split | extract_lets | intro t ht

theorem State.cascadeWaitExpired_touches {m : Nat} {z s : State} (hz : Touches m z s) (hp : 0xCFFDFF62 &&& m = 0xCFFDFF62) :
    Touches m z (State.cascadeWaitExpired s) := by
  unfold State.cascadeWaitExpired
  with_reducible repeat' first
    | assumption | apply State.settlePoint_touches | exact mask_trans (by decide) hp | apply touches_ite

theorem State.onPoint_touches {m : Nat} {z s : State} (hz : Touches m z s) (hp : 0xCFFDFF62 &&& m = 0xCFFDFF62)
    (h : FrameHdr) (p : List (BitVec 8)) :
    Touches m z (State.onPoint s h p) := by
  unfold State.onPoint
  with_reducible repeat' first
    | assumption | apply State.receive_touches | apply State.setRstr_touches | apply State.takePoint_touches
    | apply State.put_touches | exact mask_trans (by decide) hp | apply touches_ite | extract_lets | intro t ht

/-! ### Machine/Link -/

theorem State.setLanes_touches {m : Nat} {z s : State} (hz : Touches m z s) (hp : 0x2 &&& m = 0x2) (lanes : List LaneEnd) :
    Touches m z (State.setLanes s lanes) := by
  unfold State.setLanes
  with_reducible repeat' first
    | assumption | apply State.put_touches | exact mask_trans (by decide) hp | apply touches_foldl | intro t a ht | extract_lets

theorem State.linkTrained_touches {m : Nat} {z s : State} (hz : Touches m z s) (hp : 0x84004C02 &&& m = 0x84004C02)
    (rate : ℕ) (flit256 : Bool) (lanes : List LaneEnd) :
    Touches m z (State.linkTrained s rate flit256 lanes) := by
  unfold State.linkTrained
  with_reducible repeat' first
    | assumption | apply State.setLanes_touches | apply State.put_touches | apply State.cxlEvent_touches
    | apply State.raiseInt_touches | exact mask_trans (by decide) hp | apply touches_ite | extract_lets

theorem State.linkUp_touches {m : Nat} {z s : State} (hz : Touches m z s) (hp : 0x84204C02 &&& m = 0x84204C02)
    (rate : ℕ) (flit256 : Bool) (lanes : List LaneEnd) :
    Touches m z (State.linkUp s rate flit256 lanes) := by
  unfold State.linkUp
  with_reducible repeat' first
    | assumption | apply State.put_touches | apply State.setHlk_touches | apply State.raiseInt_touches
    | apply State.linkTrained_touches | exact mask_trans (by decide) hp | apply touches_ite | extract_lets

theorem State.linkFail_touches {m : Nat} {z s : State} (hz : Touches m z s) (hp : 0xCFFDFE62 &&& m = 0xCFFDFE62) :
    Touches m z (State.linkFail s) := by
  unfold State.linkFail
  with_reducible repeat' first
    | assumption | apply State.put_touches | apply State.setHlk_touches | apply State.raiseFault_touches
    | apply State.raiseInt_touches | exact mask_trans (by decide) hp | apply touches_ite | extract_lets

theorem State.discardAnswers_touches {m : Nat} {z s : State} (hz : Touches m z s) (hp : 0x308000 &&& m = 0x308000) :
    Touches m z (State.discardAnswers s) := by
  unfold State.discardAnswers
  with_reducible repeat' first
    | assumption | apply State.setPers_touches | apply State.setRstr_touches | apply State.setHlk_touches
    | exact mask_trans (by decide) hp | extract_lets

theorem State.functionReset_touches {m : Nat} {z s : State} (hz : Touches m z s) (hp : 0x308402 &&& m = 0x308402) :
    Touches m z (State.functionReset s) := by
  unfold State.functionReset
  with_reducible repeat' first
    | assumption | apply State.setHlk_touches | apply State.discardAnswers_touches | apply State.setWord_touches
    | apply State.put_touches | exact mask_trans (by decide) hp | apply touches_foldl | intro t a ht | extract_lets
    | apply touches_mk | exact Or.inl rfl | exact Or.inr (mask_bit hp (by decide)) | exact fun c => canon_same c rfl rfl rfl rfl

theorem State.perstAssert_touches {m : Nat} {z s : State} (hz : Touches m z s) (hp : 0xC478FE6E &&& m = 0xC478FE6E) :
    Touches m z (State.perstAssert s) := by
  unfold State.perstAssert
  with_reducible repeat' first
    | assumption | apply State.setHlk_touches | apply State.requestReset_touches | apply State.functionReset_touches
    | apply State.linkLost_touches | apply State.refreshHeld_touches | apply State.refreshHlk_touches
    | apply State.resetPages_touches | exact mask_trans (by decide) hp | apply touches_ite | extract_lets

theorem State.perstRelease_touches {m : Nat} {z s : State} (hz : Touches m z s) (hp : 0x204802 &&& m = 0x204802) :
    Touches m z (State.perstRelease s) := by
  unfold State.perstRelease
  with_reducible repeat' first
    | assumption | apply State.setHlk_touches | apply State.wake_touches | exact mask_trans (by decide) hp | apply touches_ite
    | extract_lets

theorem State.hotReset_touches {m : Nat} {z s : State} (hz : Touches m z s) (hp : 0x8030DE22 &&& m = 0x8030DE22) :
    Touches m z (State.hotReset s) := by
  unfold State.hotReset
  with_reducible repeat' first
    | assumption | apply State.refreshHlk_touches | apply State.functionReset_touches | apply State.linkLost_touches
    | exact mask_trans (by decide) hp | apply touches_ite

theorem State.l1Entry_touches {m : Nat} {z s : State} (hz : Touches m z s) (hp : 0x204002 &&& m = 0x204002) :
    Touches m z (State.l1Entry s) := by
  unfold State.l1Entry
  with_reducible repeat' first
    | assumption | apply State.setPwr_touches | apply State.put_touches | apply State.setHlk_touches
    | exact mask_trans (by decide) hp | apply touches_ite | extract_lets

theorem State.l1Exit_touches {m : Nat} {z s : State} (hz : Touches m z s) (hp : 0x204802 &&& m = 0x204802) :
    Touches m z (State.l1Exit s) := by
  unfold State.l1Exit
  with_reducible repeat' first
    | assumption | apply State.wake_touches | apply State.setPwr_touches | apply State.put_touches | apply State.setHlk_touches
    | exact mask_trans (by decide) hp | apply touches_ite | extract_lets

theorem State.linkRecovery_touches {m : Nat} {z s : State} (hz : Touches m z s) (hp : 0xCFFDFE62 &&& m = 0xCFFDFE62)
    (errors : List (ℕ × ℕ)) (down : Option (ℕ × List LaneEnd)) :
    Touches m z (State.linkRecovery s errors down) := by
  unfold State.linkRecovery
  with_reducible repeat' first
    | assumption | apply State.put_touches | apply State.bump_touches | apply State.linkTrained_touches
    | apply State.raiseFault_touches | exact mask_trans (by decide) hp | apply touches_ite | apply touches_foldl | intro t a ht
    | split | extract_lets

theorem State.configRequest_touches {m : Nat} {z s : State} (hz : Touches m z s) (hp : 0x80000400 &&& m = 0x80000400)
    (q : CfgReq) :
    Touches m z (State.configRequest s q) := by
  unfold State.configRequest
  with_reducible repeat' first
    | assumption | apply State.send_touches | exact mask_trans (by decide) hp | apply touches_ite | split | extract_lets
    | apply touches_mk | exact Or.inl rfl | exact Or.inr (mask_bit hp (by decide)) | exact fun c => canon_same c rfl rfl rfl rfl

theorem State.memEnable_touches {m : Nat} {z s : State} (hz : Touches m z s) (hp : 0x200002 &&& m = 0x200002) :
    Touches m z (State.memEnable s) := by
  unfold State.memEnable
  with_reducible repeat' first
    | assumption | apply State.put_touches | apply State.setHlk_touches | exact mask_trans (by decide) hp | apply touches_ite
    | extract_lets

theorem State.commitDecoder_touches {m : Nat} {z s : State} (hz : Touches m z s) (hp : 0x80204C02 &&& m = 0x80204C02)
    (n : ℕ) (base : ℕ) (size : ℕ) (dpa : ℕ) (iw : ℕ) (ig : ℕ) :
    Touches m z (State.commitDecoder s n base size dpa iw ig) := by
  unfold State.commitDecoder
  with_reducible repeat' first
    | assumption | apply State.put_touches | apply State.setHlk_touches | apply State.raiseInt_touches
    | exact mask_trans (by decide) hp | apply touches_ite | extract_lets

theorem State.memRequest_touches {m : Nat} {z s : State} (hz : Touches m z s) (hp : 0xC470CC62 &&& m = 0xC470CC62)
    (n : ℕ) (r : MemReq) :
    Touches m z (State.memRequest s n r) := by
  unfold State.memRequest
  with_reducible repeat' first
    | assumption | apply State.arrive_touches | apply State.countReq_touches | apply State.setHlk_touches
    | exact mask_trans (by decide) hp | apply touches_ite | extract_lets

theorem State.creditStall_touches {m : Nat} {z s : State} (hz : Touches m z s) (hp : 0xCFFDFE62 &&& m = 0xCFFDFE62) :
    Touches m z (State.creditStall s) := by
  unfold State.creditStall
  with_reducible repeat' first
    | assumption | apply State.raiseFault_touches | exact mask_trans (by decide) hp | apply touches_ite

/-! ### Machine/Pwr -/

theorem State.beginEntry_touches {m : Nat} {z s : State} (hz : Touches m z s) (hp : 0x4002 &&& m = 0x4002) (target : ℕ) :
    Touches m z (State.beginEntry s target) := by
  unfold State.beginEntry
  with_reducible repeat' first
    | assumption | apply State.put_touches | apply State.setPwr_touches | exact mask_trans (by decide) hp | extract_lets

theorem State.requestRun_touches {m : Nat} {z s : State} (hz : Touches m z s) (hp : 0x80004C22 &&& m = 0x80004C22) :
    Touches m z (State.requestRun s) := by
  unfold State.requestRun
  with_reducible repeat' first
    | assumption | apply State.wake_touches | apply State.pwrRefuse_touches | exact mask_trans (by decide) hp
    | apply touches_ite | split

theorem State.requestState_touches {m : Nat} {z s : State} (hz : Touches m z s) (hp : 0x80004C22 &&& m = 0x80004C22)
    (target : ℕ) :
    Touches m z (State.requestState s target) := by
  unfold State.requestState
  with_reducible repeat' first
    | assumption | apply State.put_touches | apply State.requestRun_touches | apply State.pwrRefuse_touches
    | apply State.beginEntry_touches | exact mask_trans (by decide) hp | apply touches_ite | split

theorem State.autoTerrace_touches {m : Nat} {z s : State} (hz : Touches m z s) (hp : 0x80204C22 &&& m = 0x80204C22)
    (leaves : Bool) :
    Touches m z (State.autoTerrace s leaves) := by
  unfold State.autoTerrace
  with_reducible repeat' first
    | assumption | apply State.setPwr_touches | apply State.requestState_touches | apply State.l1Exit_touches
    | exact mask_trans (by decide) hp | apply touches_ite | split | extract_lets

theorem State.l2Entry_touches {m : Nat} {z s : State} (hz : Touches m z s) (hp : 0x80204C22 &&& m = 0x80204C22) :
    Touches m z (State.l2Entry s) := by
  unfold State.l2Entry
  with_reducible repeat' first
    | assumption | apply State.put_touches | apply State.setHlk_touches | apply State.setPwr_touches
    | apply State.requestState_touches | exact mask_trans (by decide) hp | apply touches_ite | extract_lets

theorem State.stopPoint_touches {m : Nat} {z s : State} (hz : Touches m z s) (hp : 0x4802 &&& m = 0x4802) :
    Touches m z (State.stopPoint s) := by
  unfold State.stopPoint
  with_reducible repeat' first
    | assumption | apply State.put_touches | apply State.setPwr_touches | apply State.switchScopes_touches
    | exact mask_trans (by decide) hp | apply touches_ite | split | extract_lets

theorem State.settleScopes_touches {m : Nat} {z s : State} (hz : Touches m z s) (hp : 0x800 &&& m = 0x800) :
    Touches m z (State.settleScopes s) := by
  unfold State.settleScopes
  with_reducible repeat' first
    | assumption | apply State.setFlt_touches | exact mask_trans (by decide) hp | apply touches_ite | extract_lets

theorem State.toBasin_touches {m : Nat} {z s : State} (hz : Touches m z s) (hp : 0x80607E22 &&& m = 0x80607E22) :
    Touches m z (State.toBasin s) := by
  unfold State.toBasin
  with_reducible repeat' first
    | assumption | apply State.settleScopes_touches | apply State.put_touches | apply State.clocksOff_touches
    | apply State.dropLink_touches | apply State.setRst_touches | apply State.setDrc_touches | exact mask_trans (by decide) hp
    | apply touches_foldl | intro t a ht | extract_lets

theorem State.toTerrace_touches {m : Nat} {z s : State} (hz : Touches m z s) (hp : 0x2 &&& m = 0x2) :
    Touches m z (State.toTerrace s) := by
  unfold State.toTerrace
  with_reducible repeat' first
    | assumption | apply State.put_touches | exact mask_trans (by decide) hp | apply touches_foldl | intro t a ht

theorem State.replayWake_touches {m : Nat} {z s : State} (hz : Touches m z s) (hp : 0x80004C22 &&& m = 0x80004C22) :
    Touches m z (State.replayWake s) := by
  unfold State.replayWake
  with_reducible repeat' first
    | assumption | apply State.raiseInt_touches | apply State.bump_touches | apply State.put_touches | apply State.wake_touches
    | apply State.setPwr_touches | exact mask_trans (by decide) hp | apply touches_ite | extract_lets

theorem State.domainReady_touches {m : Nat} {z s : State} (hz : Touches m z s) (hp : 0x80607E22 &&& m = 0x80607E22) :
    Touches m z (State.domainReady s) := by
  unfold State.domainReady
  with_reducible repeat' first
    | assumption | apply State.put_touches | apply State.setPwr_touches | apply State.toBasin_touches
    | apply State.toTerrace_touches | apply State.raiseInt_touches | apply State.replayWake_touches
    | exact mask_trans (by decide) hp | apply touches_ite | split | extract_lets

theorem State.domainTimeout_touches {m : Nat} {z s : State} (hz : Touches m z s) (hp : 0xCFFDFE62 &&& m = 0xCFFDFE62)
    (d : ℕ) (late : Bool) :
    Touches m z (State.domainTimeout s d late) := by
  unfold State.domainTimeout
  with_reducible repeat' first
    | assumption | apply State.lateOk_touches | apply State.settleScopes_touches | apply State.setPwr_touches
    | apply State.put_touches | apply State.pwrRefuse_touches | apply State.raiseFault_touches | exact mask_trans (by decide) hp
    | apply touches_ite | split | extract_lets

theorem State.fromBasin_touches {m : Nat} {z s : State} (hz : Touches m z s) (hp : 0x3822 &&& m = 0x3822) :
    Touches m z (State.fromBasin s) := by
  unfold State.fromBasin
  with_reducible repeat' first
    | assumption | apply State.setRst_touches | apply State.settleScopes_touches | apply State.put_touches
    | apply State.clocksOn_touches | apply State.flush_touches | exact mask_trans (by decide) hp | apply touches_ite
    | extract_lets

theorem State.exitDone_touches {m : Nat} {z s : State} (hz : Touches m z s) (hp : 0x80007C22 &&& m = 0x80007C22) :
    Touches m z (State.exitDone s) := by
  unfold State.exitDone
  with_reducible repeat' first
    | assumption | apply State.fromBasin_touches | apply State.put_touches | apply State.raiseInt_touches
    | exact mask_trans (by decide) hp | apply touches_ite | apply touches_foldl | intro t a ht | extract_lets

theorem State.countStay_touches {m : Nat} {z s : State} (hz : Touches m z s) (hp : 0x2 &&& m = 0x2) :
    Touches m z (State.countStay s) := by
  unfold State.countStay
  with_reducible repeat' first
    | assumption | apply State.bump64_touches | exact mask_trans (by decide) hp | apply touches_ite

/-! ### Machine/Rec -/

theorem State.countTenth_touches {m : Nat} {z s : State} (hz : Touches m z s) (hp : 0x1002 &&& m = 0x1002) :
    Touches m z (State.countTenth s) := by
  unfold State.countTenth
  with_reducible repeat' first
    | assumption | apply State.refreshHours_touches | apply State.setRecd_touches | exact mask_trans (by decide) hp
    | extract_lets

theorem State.hoursNote_touches {m : Nat} {z s : State} (hz : Touches m z s) (hp : 0x80005C22 &&& m = 0x80005C22) :
    Touches m z (State.hoursNote s) := by
  unfold State.hoursNote
  with_reducible repeat' first
    | assumption | apply State.bump_touches | apply State.setRecd_touches | apply State.note_touches
    | exact mask_trans (by decide) hp | apply touches_ite | extract_lets

theorem State.freezeWritten_touches {m : Nat} {z s : State} (hz : Touches m z s) (hp : 0x80005C22 &&& m = 0x80005C22) :
    Touches m z (State.freezeWritten s) := by
  unfold State.freezeWritten
  with_reducible repeat' first
    | assumption | apply State.put_touches | apply State.setRecd_touches | apply State.endFreeze_touches
    | exact mask_trans (by decide) hp | apply touches_ite | extract_lets

theorem State.freezeTimeout_touches {m : Nat} {z s : State} (hz : Touches m z s) (hp : 0x80005C22 &&& m = 0x80005C22) :
    Touches m z (State.freezeTimeout s) := by
  unfold State.freezeTimeout
  with_reducible repeat' first
    | assumption | apply State.endFreeze_touches | exact mask_trans (by decide) hp | apply touches_ite

theorem State.setTouched_touches {m : Nat} {z s : State} (hz : Touches m z s) (hp : 0x1000 &&& m = 0x1000) (n : ℕ) :
    Touches m z (State.setTouched s n) := by
  unfold State.setTouched
  with_reducible repeat' first
    | assumption | apply State.setRecd_touches | exact mask_trans (by decide) hp | extract_lets

theorem State.raiseSetGen_touches {m : Nat} {z s : State} (hz : Touches m z s) (hp : 0x1000 &&& m = 0x1000) :
    Touches m z (State.raiseSetGen s) := by
  unfold State.raiseSetGen
  with_reducible repeat' first
    | assumption | apply State.setRecd_touches | exact mask_trans (by decide) hp | apply touches_ite | extract_lets

theorem State.eraseAhead_touches {m : Nat} {z s : State} (hz : Touches m z s) (hp : 0x1001022 &&& m = 0x1001022) :
    Touches m z (State.eraseAhead s) := by
  unfold State.eraseAhead
  with_reducible repeat' first
    | assumption | apply State.clearBlock_touches | apply State.recRange_touches | apply State.setRecd_touches
    | exact mask_trans (by decide) hp | apply touches_ite | extract_lets

theorem State.putSlot_touches {m : Nat} {z s : State} (hz : Touches m z s) (hp : 0x1001022 &&& m = 0x1001022) (r : RecRec) :
    Touches m z (State.putSlot s r) := by
  unfold State.putSlot
  with_reducible repeat' first
    | assumption | apply State.bump64By_touches | apply State.setRecd_touches | apply State.eraseAhead_touches
    | apply State.markWorn_touches | exact mask_trans (by decide) hp | apply touches_ite | extract_lets

theorem State.flushRecord_touches {m : Nat} {z s : State} (hz : Touches m z s) (hp : 0xCFFDFE62 &&& m = 0xCFFDFE62)
    (failed : List ℕ) (r : RecRec) :
    Touches m z (State.flushRecord failed s r) := by
  unfold State.flushRecord
  with_reducible repeat' first
    | assumption | apply State.put_touches | apply State.raiseFault_touches | apply State.putSlot_touches
    | apply State.setRecd_touches | exact mask_trans (by decide) hp | apply touches_ite | extract_lets

theorem State.flushDone_touches {m : Nat} {z s : State} (hz : Touches m z s) (hp : 0xCFFDFE62 &&& m = 0xCFFDFE62)
    (failed : List ℕ) :
    Touches m z (State.flushDone s failed) := by
  unfold State.flushDone
  with_reducible repeat' first
    | assumption | apply State.recRange_touches | apply State.flushRecord_touches | apply State.put_touches
    | apply State.raiseInt_touches | apply State.setRecd_touches | exact mask_trans (by decide) hp | apply touches_ite
    | apply touches_foldl | intro t a ht | extract_lets

theorem State.beginRecRead_touches {m : Nat} {z s : State} (hz : Touches m z s) (hp : 0x1002 &&& m = 0x1002) (p : Port) :
    Touches m z (State.beginRecRead s p) := by
  unfold State.beginRecRead
  with_reducible repeat' first
    | assumption | apply State.setRecd_touches | apply State.put_touches | exact mask_trans (by decide) hp | extract_lets

theorem State.setRecWords_touches {m : Nat} {z s : State} (hz : Touches m z s) (hp : 0x2 &&& m = 0x2)
    (p : Port) (ws : List Word) :
    Touches m z (State.setRecWords s p ws) := by
  unfold State.setRecWords
  with_reducible repeat' first
    | assumption | apply State.setWord_touches | exact mask_trans (by decide) hp | apply touches_foldl | intro t a ht

theorem State.recReadDone_touches {m : Nat} {z s : State} (hz : Touches m z s) (hp : 0x1022 &&& m = 0x1022)
    (p : Port) (bad : Bool) (early : Bool) :
    Touches m z (State.recReadDone s p bad early) := by
  unfold State.recReadDone
  with_reducible repeat' first
    | assumption | apply State.setRecd_touches | apply State.put_touches | apply State.setRecWords_touches
    | exact mask_trans (by decide) hp | apply touches_ite | split | extract_lets | apply touches_mk | exact Or.inl rfl
    | exact Or.inr (mask_bit hp (by decide)) | exact fun c => canon_same c rfl rfl rfl rfl

theorem State.ringUe_touches {m : Nat} {z s : State} (hz : Touches m z s) (hp : 0x1022 &&& m = 0x1022) (k : ℕ) :
    Touches m z (State.ringUe s k) := by
  unfold State.ringUe
  with_reducible repeat' first
    | assumption | apply State.recRange_touches | apply State.bump_touches | apply State.setRecd_touches
    | exact mask_trans (by decide) hp | split | extract_lets

theorem State.recTick_touches {m : Nat} {z s : State} (hz : Touches m z s) (hp : 0x1001022 &&& m = 0x1001022) :
    Touches m z (State.recTick s) := by
  unfold State.recTick
  with_reducible repeat' first
    | assumption | apply State.put_touches | apply State.raiseSetGen_touches | apply State.eraseAhead_touches
    | exact mask_trans (by decide) hp | apply touches_ite | extract_lets

/-! ### Machine/Epoch -/

theorem State.allotAll_touches {m : Nat} {z s : State} (hz : Touches m z s) (hp : 0x8000 &&& m = 0x8000)
    (used : List ℕ) (pending : ℕ) :
    Touches m z (State.allotAll s used pending) := by
  unfold State.allotAll
  with_reducible repeat' first
    | assumption | apply State.setPers_touches | exact mask_trans (by decide) hp | extract_lets

theorem State.passOverrun_touches {m : Nat} {z s : State} (hz : Touches m z s) (hp : 0xCFFDFE62 &&& m = 0xCFFDFE62)
    (e : ℕ × ℕ) :
    Touches m z (State.passOverrun s e) := by
  unfold State.passOverrun
  with_reducible repeat' first
    | assumption | apply State.raiseFault_touches | apply State.bump_touches | apply State.setPers_touches
    | exact mask_trans (by decide) hp | extract_lets

theorem State.budgetDue_touches {m : Nat} {z s : State} (hz : Touches m z s) (hp : 0x8081CC02 &&& m = 0x8081CC02) (tj : ℤ) :
    Touches m z (State.budgetDue s tj) := by
  unfold State.budgetDue
  with_reducible repeat' first
    | assumption | apply State.sendShares_touches | apply State.computeBudget_touches | exact mask_trans (by decide) hp
    | apply touches_ite

theorem State.gaugeStale_touches {m : Nat} {z s : State} (hz : Touches m z s) (hp : 0xCFFDFE62 &&& m = 0xCFFDFE62)
    (late : Bool) :
    Touches m z (State.gaugeStale s late) := by
  unfold State.gaugeStale
  with_reducible repeat' first
    | assumption | apply State.lateOk_touches | apply State.raiseFault_touches | apply State.raiseInt_touches
    | apply State.put_touches | exact mask_trans (by decide) hp | apply touches_ite | split

theorem State.goodReading_touches {m : Nat} {z s : State} (hz : Touches m z s) (hp : 0x8002 &&& m = 0x8002) (mj : ℕ) (ago : ℕ) :
    Touches m z (State.goodReading s mj ago) := by
  unfold State.goodReading
  with_reducible repeat' first
    | assumption | apply State.put_touches | apply State.setPers_touches | exact mask_trans (by decide) hp | extract_lets

theorem State.paceAdmit_touches {m : Nat} {z s : State} (hz : Touches m z s) (hp : 0xC470CC62 &&& m = 0xC470CC62) :
    Touches m z (State.paceAdmit s) := by
  unfold State.paceAdmit
  with_reducible repeat' first
    | assumption | apply State.admitHead_touches | exact mask_trans (by decide) hp | apply touches_ite

theorem State.holdMaxAdmit_touches {m : Nat} {z s : State} (hz : Touches m z s) (hp : 0xCFFDFE62 &&& m = 0xCFFDFE62) :
    Touches m z (State.holdMaxAdmit s) := by
  unfold State.holdMaxAdmit
  with_reducible repeat' first
    | assumption | apply State.raiseFault_touches | apply State.raiseInt_touches | apply State.bump_touches
    | apply State.admitHead_touches | apply State.event_touches | exact mask_trans (by decide) hp | apply touches_ite | split
    | extract_lets

theorem State.levelTick_touches {m : Nat} {z s : State} (hz : Touches m z s) (hp : 0xC470CC62 &&& m = 0xC470CC62) :
    Touches m z (State.levelTick s) := by
  unfold State.levelTick
  with_reducible repeat' first
    | assumption | apply State.evalLevel_touches | apply State.admitAll_touches | apply State.refreshHlk_touches
    | exact mask_trans (by decide) hp | apply touches_ite | extract_lets

theorem State.journalEpoch_touches {m : Nat} {z s : State} (hz : Touches m z s) (hp : 0x60000 &&& m = 0x60000)
    (n : ℕ) (again : ℕ) :
    Touches m z (State.journalEpoch s n again) := by
  unfold State.journalEpoch
  with_reducible repeat' first
    | assumption | apply State.endGeneration_touches | apply State.dropVoid_touches | apply State.sealJournal_touches
    | apply State.closeFold_touches | apply State.setArr_touches | apply State.startGeneration_touches
    | exact mask_trans (by decide) hp | apply touches_ite | extract_lets

theorem State.planStale_touches {m : Nat} {z s : State} (hz : Touches m z s) (hp : 0xCFFDFE62 &&& m = 0xCFFDFE62) :
    Touches m z (State.planStale s) := by
  unfold State.planStale
  with_reducible repeat' first
    | assumption | apply State.raiseFault_touches | exact mask_trans (by decide) hp | apply touches_ite

theorem State.sealRead_touches {m : Nat} {z s : State} (hz : Touches m z s) (hp : 0xCFFFFE62 &&& m = 0xCFFFFE62)
    (rearmed : Bool) (again : ℕ) :
    Touches m z (State.sealRead s rearmed again) := by
  unfold State.sealRead
  with_reducible repeat' first
    | assumption | apply State.sealEpoch_touches | apply State.journalEpoch_touches | apply State.setPers_touches
    | apply State.planStale_touches | apply State.checkGroupSealed_touches | apply State.sendSealed_touches
    | exact mask_trans (by decide) hp | apply touches_ite | split | extract_lets

theorem State.walkDone_touches {m : Nat} {z s : State} (hz : Touches m z s) (hp : 0x8000CC22 &&& m = 0x8000CC22) :
    Touches m z (State.walkDone s) := by
  unfold State.walkDone
  with_reducible repeat' first
    | assumption | apply State.endWalk_touches | exact mask_trans (by decide) hp | apply touches_ite

theorem State.planeCleared_touches {m : Nat} {z s : State} (hz : Touches m z s) (hp : 0x80808002 &&& m = 0x80808002) :
    Touches m z (State.planeCleared s) := by
  unfold State.planeCleared
  with_reducible repeat' first
    | assumption | apply State.sendTailDone_touches | apply State.clearPlane_touches | apply State.setPers_touches
    | exact mask_trans (by decide) hp | apply touches_ite | split | extract_lets

theorem State.sweepRoundDone_touches {m : Nat} {z s : State} (hz : Touches m z s) (hp : 0x8002 &&& m = 0x8002) :
    Touches m z (State.sweepRoundDone s) := by
  unfold State.sweepRoundDone
  with_reducible repeat' first
    | assumption | apply State.setPers_touches | apply State.put_touches | exact mask_trans (by decide) hp | apply touches_ite
    | extract_lets

theorem State.barSweepDone_touches {m : Nat} {z s : State} (hz : Touches m z s) (hp : 0x8022 &&& m = 0x8022) :
    Touches m z (State.barSweepDone s) := by
  unfold State.barSweepDone
  with_reducible repeat' first
    | assumption | apply State.endBarSweep_touches | exact mask_trans (by decide) hp | apply touches_ite

theorem State.readEnded_touches {m : Nat} {z s : State} (hz : Touches m z s) (hp : 0x804CCC22 &&& m = 0x804CCC22) (i : ℕ) :
    Touches m z (State.readEnded s i) := by
  unfold State.readEnded
  with_reducible repeat' first
    | assumption | apply State.formStripe_touches | apply State.endRead_touches | exact mask_trans (by decide) hp
    | apply touches_ite

theorem State.stripeAge_touches {m : Nat} {z s : State} (hz : Touches m z s) (hp : 0x40000 &&& m = 0x40000) (slc : Bool) :
    Touches m z (State.stripeAge s slc) := by
  unfold State.stripeAge
  with_reducible repeat' first
    | assumption | apply State.formStripe_touches | exact mask_trans (by decide) hp | apply touches_ite

end Sys2Proof.Machine
end

