-- ==== Sys2Proof/Laws/TouchesUpk.lean ====
section
/-! SUPPORT. Machine/Upk, Machine/Twl, Machine/Svc, Machine/Tst, Machine/Detect: which parts of the state each operation can touch (`Touches`). -/

set_option linter.unreachableTactic false
set_option linter.unusedTactic false

namespace Sys2Proof.Machine

/-! ### Machine/Upk -/

theorem State.scrubTick_touches {m : Nat} {z s : State} (hz : Touches m z s) (hp : 0x20000002 &&& m = 0x20000002) :
    Touches m z (State.scrubTick s) := by
  unfold State.scrubTick
  with_reducible repeat' first
    | assumption | apply State.setDscr_touches | apply State.put_touches | exact mask_trans (by decide) hp | apply touches_ite
    | extract_lets

theorem State.drawnBy_touches {m : Nat} {z s : State} (hz : Touches m z s) (hp : 0x20 &&& m = 0x20) (n : ℕ) :
    Touches m z (State.drawnBy s n) := by
  unfold State.drawnBy
  with_reducible repeat' first
    | assumption | apply touches_mk | exact Or.inl rfl | exact Or.inr (mask_bit hp (by decide))
    | exact fun c => canon_same c rfl rfl rfl rfl

theorem State.endRound_touches {m : Nat} {z s : State} (hz : Touches m z s) (hp : 0xA0404C22 &&& m = 0xA0404C22) :
    Touches m z (State.endRound s) := by
  unfold State.endRound
  with_reducible repeat' first
    | assumption | apply State.setDrc_touches | apply State.setDscr_touches | apply State.bump_touches
    | apply State.put64_touches | apply State.raiseInt_touches | apply State.put_touches | apply State.drawnBy_touches
    | exact mask_trans (by decide) hp | extract_lets

theorem State.scrubLine_touches {m : Nat} {z s : State} (hz : Touches m z s) (hp : 0xA0404C22 &&& m = 0xA0404C22) :
    Touches m z (State.scrubLine s) := by
  unfold State.scrubLine
  with_reducible repeat' first
    | assumption | apply State.setDscr_touches | apply State.bump_touches | apply State.drcRead_touches
    | apply State.endRound_touches | apply State.put64_touches | exact mask_trans (by decide) hp | apply touches_ite
    | extract_lets

theorem State.roundLate_touches {m : Nat} {z s : State} (hz : Touches m z s) (hp : 0xEFFDFE62 &&& m = 0xEFFDFE62) :
    Touches m z (State.roundLate s) := by
  unfold State.roundLate
  with_reducible repeat' first
    | assumption | apply State.raiseFault_touches | apply State.raiseInt_touches | apply State.setDscr_touches
    | exact mask_trans (by decide) hp | apply touches_ite | extract_lets

theorem State.markPop_touches {m : Nat} {z s : State} (hz : Touches m z s) (hp : 0x20000000 &&& m = 0x20000000) :
    Touches m z (State.markPop s) := by
  unfold State.markPop
  with_reducible repeat' first
    | assumption | apply State.setDscr_touches | exact mask_trans (by decide) hp | extract_lets

theorem State.retentionDue_touches {m : Nat} {z s : State} (hz : Touches m z s) (hp : 0x40000002 &&& m = 0x40000002)
    (restored : Bool) :
    Touches m z (State.retentionDue s restored) := by
  unfold State.retentionDue
  with_reducible repeat' first
    | assumption | apply State.setUpk_touches | apply State.put_touches | exact mask_trans (by decide) hp | apply touches_ite
    | extract_lets

theorem State.scanLate_touches {m : Nat} {z s : State} (hz : Touches m z s) (hp : 0xCFFDFE62 &&& m = 0xCFFDFE62) :
    Touches m z (State.scanLate s) := by
  unfold State.scanLate
  with_reducible repeat' first
    | assumption | apply State.raiseFault_touches | apply State.raiseInt_touches | apply State.put_touches
    | exact mask_trans (by decide) hp | apply touches_ite

theorem State.tempTrigger_touches {m : Nat} {z s : State} (hz : Touches m z s) (hp : 0x40000000 &&& m = 0x40000000)
    (lo : ℕ) (hi : ℕ) (temp : ℤ) :
    Touches m z (State.tempTrigger s lo hi temp) := by
  unfold State.tempTrigger
  with_reducible repeat' first
    | assumption | apply State.setUpk_touches | exact mask_trans (by decide) hp | apply touches_foldl | intro t a ht | split
    | extract_lets

theorem State.calRun_touches {m : Nat} {z s : State} (hz : Touches m z s) (hp : 0x40000000 &&& m = 0x40000000)
    (k : ℕ) (temp : ℤ) :
    Touches m z (State.calRun s k temp) := by
  unfold State.calRun
  with_reducible repeat' first
    | assumption | apply State.setUpk_touches | exact mask_trans (by decide) hp | extract_lets

theorem State.wakeLogical_touches {m : Nat} {z s : State} (hz : Touches m z s) (hp : 0x2 &&& m = 0x2) (sc : ℕ) (lrank : ℕ) :
    Touches m z (State.wakeLogical s sc lrank) := by
  unfold State.wakeLogical
  with_reducible repeat' first
    | assumption | apply State.put_touches | exact mask_trans (by decide) hp | apply touches_ite | extract_lets

theorem State.zqDue_touches {m : Nat} {z s : State} (hz : Touches m z s) (hp : 0x40000002 &&& m = 0x40000002)
    (sc : ℕ) (lrank : ℕ) :
    Touches m z (State.zqDue s sc lrank) := by
  unfold State.zqDue
  with_reducible repeat' first
    | assumption | apply State.calRun_touches | apply State.wakeLogical_touches | exact mask_trans (by decide) hp
    | apply touches_ite

theorem State.oscDue_touches {m : Nat} {z s : State} (hz : Touches m z s) (hp : 0x40000002 &&& m = 0x40000002)
    (sc : ℕ) (lrank : ℕ) (drift : ℕ) :
    Touches m z (State.oscDue s sc lrank drift) := by
  unfold State.oscDue
  with_reducible repeat' first
    | assumption | apply State.calRun_touches | apply State.wakeLogical_touches | apply State.setUpk_touches
    | exact mask_trans (by decide) hp | apply touches_ite | extract_lets

theorem State.fcalDue_touches {m : Nat} {z s : State} (hz : Touches m z s) (hp : 0x40040002 &&& m = 0x40040002)
    (c : ℕ) (d : ℕ) (p : ℕ) (group : ℕ) (below : ℕ) (at' : ℕ) (above : ℕ) :
    Touches m z (State.fcalDue s c d p group below at' above) := by
  unfold State.fcalDue
  with_reducible repeat' first
    | assumption | apply State.bump64By_touches | apply State.calRun_touches | apply State.setFarr_touches
    | exact mask_trans (by decide) hp | apply touches_ite | extract_lets

theorem State.onfiDue_touches {m : Nat} {z s : State} (hz : Touches m z s) (hp : 0x40000000 &&& m = 0x40000000) (c : ℕ) :
    Touches m z (State.onfiDue s c) := by
  unfold State.onfiDue
  with_reducible repeat' first
    | assumption | apply State.calRun_touches | exact mask_trans (by decide) hp | apply touches_ite | extract_lets

theorem State.glenTransaction_touches {m : Nat} {z s : State} (hz : Touches m z s) (hp : 0x2000000 &&& m = 0x2000000) :
    Touches m z (State.glenTransaction s) := by
  unfold State.glenTransaction
  with_reducible repeat' first
    | assumption | apply State.setTwl_touches | exact mask_trans (by decide) hp | extract_lets

theorem State.capBegin_touches {m : Nat} {z s : State} (hz : Touches m z s) (hp : 0x42010002 &&& m = 0x42010002) :
    Touches m z (State.capBegin s) := by
  unfold State.capBegin
  with_reducible repeat' first
    | assumption | apply State.put_touches | apply State.setUpk_touches | apply State.glenTransaction_touches
    | apply State.setSave_touches | exact mask_trans (by decide) hp | apply touches_ite | extract_lets

theorem State.capDue_touches {m : Nat} {z s : State} (hz : Touches m z s) (hp : 0x42010002 &&& m = 0x42010002) :
    Touches m z (State.capDue s) := by
  unfold State.capDue
  with_reducible repeat' first
    | assumption | apply State.capBegin_touches | apply State.setUpk_touches | exact mask_trans (by decide) hp
    | apply touches_ite | extract_lets

theorem State.capFinish_touches {m : Nat} {z s : State} (hz : Touches m z s) (hp : 0xCFFDFE62 &&& m = 0xCFFDFE62) :
    Touches m z (State.capFinish s) := by
  unfold State.capFinish
  with_reducible repeat' first
    | assumption | apply State.put_touches | apply State.drawnBy_touches | apply State.raiseInt_touches
    | apply State.glenTransaction_touches | apply State.setSave_touches | apply State.event_touches
    | apply State.raiseFault_touches | exact mask_trans (by decide) hp | apply touches_ite | split | extract_lets

theorem State.capReading_touches {m : Nat} {z s : State} (hz : Touches m z s) (hp : 0xCFFDFE62 &&& m = 0xCFFDFE62) (mj : ℕ) :
    Touches m z (State.capReading s mj) := by
  unfold State.capReading
  with_reducible repeat' first
    | assumption | apply State.setUpk_touches | apply State.capFinish_touches | exact mask_trans (by decide) hp
    | apply touches_ite | extract_lets

theorem State.capExpired_touches {m : Nat} {z s : State} (hz : Touches m z s) (hp : 0xCFFDFE62 &&& m = 0xCFFDFE62)
    (late : Option ℕ) :
    Touches m z (State.capExpired s late) := by
  unfold State.capExpired
  with_reducible repeat' first
    | assumption | apply State.capFinish_touches | apply State.setUpk_touches | apply State.lateOk_touches
    | exact mask_trans (by decide) hp | apply touches_ite | split | extract_lets

theorem State.horizonWarn_touches {m : Nat} {z s : State} (hz : Touches m z s) (hp : 0xC0005C22 &&& m = 0xC0005C22)
    (pct : ℕ) (days : ℕ) :
    Touches m z (State.horizonWarn s pct days) := by
  unfold State.horizonWarn
  with_reducible repeat' first
    | assumption | apply State.setUpk_touches | apply State.event_touches | apply State.raiseInt_touches
    | exact mask_trans (by decide) hp | apply touches_ite | extract_lets

theorem State.wearUpdate_touches {m : Nat} {z s : State} (hz : Touches m z s) (hp : 0xC0005C22 &&& m = 0xC0005C22) :
    Touches m z (State.wearUpdate s) := by
  unfold State.wearUpdate
  with_reducible repeat' first
    | assumption | apply State.setUpk_touches | apply State.put_touches | apply State.horizonWarn_touches
    | exact mask_trans (by decide) hp | apply touches_ite | apply touches_foldl | intro t a ht | split | extract_lets

theorem State.telemetry_touches {m : Nat} {z s : State} (hz : Touches m z s) (hp : 0x40000022 &&& m = 0x40000022)
    (tj : ℤ) (mw : ℕ) :
    Touches m z (State.telemetry s tj mw) := by
  unfold State.telemetry
  with_reducible repeat' first
    | assumption | apply State.put_touches | apply State.drawnBy_touches | apply State.setUpk_touches
    | apply State.put64_touches | exact mask_trans (by decide) hp | apply touches_ite | extract_lets

theorem State.budgetCompute_touches {m : Nat} {z s : State} (hz : Touches m z s) (hp : 0xC081CC02 &&& m = 0xC081CC02) (tj : ℤ) :
    Touches m z (State.budgetCompute s tj) := by
  unfold State.budgetCompute
  with_reducible repeat' first
    | assumption | apply State.tempTrigger_touches | apply State.budgetDue_touches | exact mask_trans (by decide) hp

/-! ### Machine/Twl -/

theorem State.pollDue_touches {m : Nat} {z s : State} (hz : Touches m z s) (hp : 0x2000000 &&& m = 0x2000000) (n : ℕ) :
    Touches m z (State.pollDue s n) := by
  unfold State.pollDue
  with_reducible repeat' first
    | assumption | apply State.setTwl_touches | exact mask_trans (by decide) hp | apply touches_ite | extract_lets

theorem State.gaugeRead_touches {m : Nat} {z s : State} (hz : Touches m z s) (hp : 0xCFFDFE62 &&& m = 0xCFFDFE62) (mj : ℕ) :
    Touches m z (State.gaugeRead s mj) := by
  unfold State.gaugeRead
  with_reducible repeat' first
    | assumption | apply State.setPers_touches | apply State.sendShares_touches | apply State.setSave_touches
    | apply State.capReading_touches | apply State.goodReading_touches | exact mask_trans (by decide) hp | apply touches_ite
    | split | extract_lets

theorem State.useReading_touches {m : Nat} {z s : State} (hz : Touches m z s) (hp : 0xCFFDFE62 &&& m = 0xCFFDFE62) (n : ℕ) :
    Touches m z (State.useReading s n) := by
  unfold State.useReading
  with_reducible repeat' first
    | assumption | apply State.gaugeRead_touches | apply State.setPers_touches | apply State.tempTrigger_touches
    | apply State.setUpk_touches | exact mask_trans (by decide) hp | apply touches_ite | extract_lets

theorem State.pollGood_touches {m : Nat} {z s : State} (hz : Touches m z s) (hp : 0xCFFDFE62 &&& m = 0xCFFDFE62)
    (n : ℕ) (bytes : List (BitVec 8)) :
    Touches m z (State.pollGood s n bytes) := by
  unfold State.pollGood
  with_reducible repeat' first
    | assumption | apply State.put_touches | apply State.drawn_touches | apply State.useReading_touches
    | apply State.setTwl_touches | exact mask_trans (by decide) hp | apply touches_ite | extract_lets

theorem State.pollBad_touches {m : Nat} {z s : State} (hz : Touches m z s) (hp : 0x82004C02 &&& m = 0x82004C02)
    (n : ℕ) (outcome : ℕ) :
    Touches m z (State.pollBad s n outcome) := by
  unfold State.pollBad
  with_reducible repeat' first
    | assumption | apply State.bumpSat_touches | apply State.put_touches | apply State.setTwl_touches
    | apply State.raiseInt_touches | exact mask_trans (by decide) hp | apply touches_ite | extract_lets

theorem State.twlGo_touches {m : Nat} {z s : State} (hz : Touches m z s) (hp : 0x82004C02 &&& m = 0x82004C02) :
    Touches m z (State.twlGo s) := by
  unfold State.twlGo
  with_reducible repeat' first
    | assumption | apply State.raiseInt_touches | apply State.put_touches | apply State.setTwl_touches
    | exact mask_trans (by decide) hp | apply touches_ite | extract_lets

theorem State.putXdata_touches {m : Nat} {z s : State} (hz : Touches m z s) (hp : 0x2 &&& m = 0x2) (bytes : List (BitVec 8)) :
    Touches m z (State.putXdata s bytes) := by
  unfold State.putXdata
  with_reducible repeat' first
    | assumption | apply State.put_touches | exact mask_trans (by decide) hp | apply touches_foldl | intro t a ht

theorem State.mgmtEnds_touches {m : Nat} {z s : State} (hz : Touches m z s) (hp : 0x82004C02 &&& m = 0x82004C02)
    (outcome : ℕ) (bytes : List (BitVec 8)) :
    Touches m z (State.mgmtEnds s outcome bytes) := by
  unfold State.mgmtEnds
  with_reducible repeat' first
    | assumption | apply State.setTwl_touches | apply State.put_touches | apply State.raiseInt_touches
    | apply State.putXdata_touches | exact mask_trans (by decide) hp | extract_lets

theorem State.twlStart_touches {m : Nat} {z s : State} (hz : Touches m z s) (hp : 0x2000002 &&& m = 0x2000002) :
    Touches m z (State.twlStart s) := by
  unfold State.twlStart
  with_reducible repeat' first
    | assumption | apply State.put_touches | apply State.setTwl_touches | exact mask_trans (by decide) hp | apply touches_ite
    | split | extract_lets

theorem State.araAnswered_touches {m : Nat} {z s : State} (hz : Touches m z s) (hp : 0x82004C02 &&& m = 0x82004C02) (addr : ℕ) :
    Touches m z (State.araAnswered s addr) := by
  unfold State.araAnswered
  with_reducible repeat' first
    | assumption | apply State.raiseInt_touches | apply State.setTwl_touches | apply State.put_touches
    | exact mask_trans (by decide) hp | apply touches_foldl | intro t a ht | extract_lets

theorem State.araSpurious_touches {m : Nat} {z s : State} (hz : Touches m z s) (hp : 0x2000022 &&& m = 0x2000022) :
    Touches m z (State.araSpurious s) := by
  unfold State.araSpurious
  with_reducible repeat' first
    | assumption | apply State.setTwl_touches | apply State.bump_touches | exact mask_trans (by decide) hp | extract_lets

theorem State.twlIdle_touches {m : Nat} {z s : State} (hz : Touches m z s) (hp : 0x2000002 &&& m = 0x2000002) :
    Touches m z (State.twlIdle s) := by
  unfold State.twlIdle
  with_reducible repeat' first
    | assumption | apply State.put_touches | apply State.setTwl_touches | exact mask_trans (by decide) hp | extract_lets

theorem State.twlFailed_touches {m : Nat} {z s : State} (hz : Touches m z s) (hp : 0x82004C22 &&& m = 0x82004C22)
    (w : TwlWork) (outcome : ℕ) :
    Touches m z (State.twlFailed s w outcome) := by
  unfold State.twlFailed
  with_reducible repeat' first
    | assumption | apply State.pollBad_touches | apply State.twlIdle_touches | apply State.araSpurious_touches
    | apply State.mgmtEnds_touches | exact mask_trans (by decide) hp | apply touches_ite | split

theorem State.twlGood_touches {m : Nat} {z s : State} (hz : Touches m z s) (hp : 0xCFFDFE62 &&& m = 0xCFFDFE62)
    (w : TwlWork) (bytes : List (BitVec 8)) :
    Touches m z (State.twlGood s w bytes) := by
  unfold State.twlGood
  with_reducible repeat' first
    | assumption | apply State.pollGood_touches | apply State.twlIdle_touches | apply State.araAnswered_touches
    | apply State.mgmtEnds_touches | exact mask_trans (by decide) hp | split

theorem State.twlLost_touches {m : Nat} {z s : State} (hz : Touches m z s) (hp : 0xCFFDFE62 &&& m = 0xCFFDFE62)
    (w : TwlWork) (bit : ℕ) (inAddr : Bool) (winner08 : Bool) :
    Touches m z (State.twlLost s w bit inAddr winner08) := by
  unfold State.twlLost
  with_reducible repeat' first
    | assumption | apply State.bump_touches | apply State.put_touches | apply State.setTwl_touches
    | apply State.raiseFault_touches | apply State.twlFailed_touches | exact mask_trans (by decide) hp | apply touches_ite
    | extract_lets

theorem State.twlDone_touches {m : Nat} {z s : State} (hz : Touches m z s) (hp : 0xCFFDFE62 &&& m = 0xCFFDFE62) (e : TwlEnd) :
    Touches m z (State.twlDone s e) := by
  unfold State.twlDone
  with_reducible repeat' first
    | assumption | apply State.twlGood_touches | apply State.twlFailed_touches | apply State.twlLost_touches
    | exact mask_trans (by decide) hp | apply touches_ite | split

theorem State.twlTimeout_touches {m : Nat} {z s : State} (hz : Touches m z s) (hp : 0xCFFDFE62 &&& m = 0xCFFDFE62)
    (stuck : Bool) :
    Touches m z (State.twlTimeout s stuck) := by
  unfold State.twlTimeout
  with_reducible repeat' first
    | assumption | apply State.twlFailed_touches | apply State.put_touches | apply State.raiseFault_touches
    | apply State.raiseInt_touches | exact mask_trans (by decide) hp | apply touches_ite | apply touches_foldl | intro t a ht
    | split | extract_lets

theorem State.busRetry_touches {m : Nat} {z s : State} (hz : Touches m z s) (hp : 0x2 &&& m = 0x2) (freed : Bool) :
    Touches m z (State.busRetry s freed) := by
  unfold State.busRetry
  with_reducible repeat' first
    | assumption | apply State.put_touches | exact mask_trans (by decide) hp | apply touches_ite

theorem State.hostNotify_touches {m : Nat} {z s : State} (hz : Touches m z s) (hp : 0x82004C22 &&& m = 0x82004C22)
    (addr : ℕ) (status : ℕ) :
    Touches m z (State.hostNotify s addr status) := by
  unfold State.hostNotify
  with_reducible repeat' first
    | assumption | apply State.put_touches | apply State.setTwl_touches | apply State.raiseInt_touches
    | apply State.bump_touches | exact mask_trans (by decide) hp | apply touches_ite | apply touches_foldl | intro t a ht
    | extract_lets

theorem State.notifyPop_touches {m : Nat} {z s : State} (hz : Touches m z s) (hp : 0x2000000 &&& m = 0x2000000) :
    Touches m z (State.notifyPop s) := by
  unfold State.notifyPop
  with_reducible repeat' first
    | assumption | apply State.setTwl_touches | exact mask_trans (by decide) hp | extract_lets

theorem State.locAlert_touches {m : Nat} {z s : State} (hz : Touches m z s) (hp : 0x2000000 &&& m = 0x2000000) (low : Bool) :
    Touches m z (State.locAlert s low) := by
  unfold State.locAlert
  with_reducible repeat' first
    | assumption | apply State.setTwl_touches | exact mask_trans (by decide) hp | extract_lets

theorem State.araReady_touches {m : Nat} {z s : State} (hz : Touches m z s) (hp : 0x2000000 &&& m = 0x2000000) :
    Touches m z (State.araReady s) := by
  unfold State.araReady
  with_reducible repeat' first
    | assumption | apply State.setTwl_touches | exact mask_trans (by decide) hp | apply touches_ite | split | extract_lets

/-! ### Machine/Svc -/

theorem State.svcAnswer_touches {m : Nat} {z s : State} (hz : Touches m z s) (hp : 0x80000022 &&& m = 0x80000022)
    (status : ℕ) (payload : List (BitVec 8)) :
    Touches m z (State.svcAnswer s status payload) := by
  unfold State.svcAnswer
  with_reducible repeat' first
    | assumption | apply State.send_touches | apply State.bump_touches | exact mask_trans (by decide) hp | apply touches_ite

theorem State.badFrame_touches {m : Nat} {z s : State} (hz : Touches m z s) (hp : 0xCFFDFE62 &&& m = 0xCFFDFE62) :
    Touches m z (State.badFrame s) := by
  unfold State.badFrame
  with_reducible repeat' first
    | assumption | apply State.svcAnswer_touches | apply State.raiseFault_touches | apply State.raiseInt_touches
    | apply State.bump_touches | exact mask_trans (by decide) hp

theorem State.svcFrame_touches {m : Nat} {z s : State} (hz : Touches m z s) (hp : 0xCFFDFE62 &&& m = 0xCFFDFE62)
    (tag : ℕ) (good : Bool) (f : State → State) (hf : ∀ t, Touches m z t → Touches m z (f t)) :
    Touches m z (State.svcFrame s tag good f) := by
  unfold State.svcFrame
  with_reducible repeat' first
    | assumption | apply State.badFrame_touches | apply State.bump_touches | apply State.setSvc_touches
    | exact mask_trans (by decide) hp | apply touches_ite | extract_lets | apply hf

theorem State.svcCommand_touches {m : Nat} {z s : State} (hz : Touches m z s) (hp : 0xCFFDFE62 &&& m = 0xCFFDFE62)
    (tag : ℕ) (good : Bool) (inRun : Bool) (inRcv : Bool) (isAbort : Bool) (f : State → State) (hf : ∀ t, Touches m z t → Touches m z (f t)) :
    Touches m z (State.svcCommand s tag good inRun inRcv isAbort f) := by
  unfold State.svcCommand
  with_reducible repeat' first
    | assumption | apply State.svcFrame_touches | apply State.svcAnswer_touches | exact mask_trans (by decide) hp | split
    | apply hf | intro t ht

theorem State.svcShort_touches {m : Nat} {z s : State} (hz : Touches m z s) (hp : 0x22 &&& m = 0x22) :
    Touches m z (State.svcShort s) := by
  unfold State.svcShort
  with_reducible repeat' first
    | assumption | apply State.bump_touches | exact mask_trans (by decide) hp | apply touches_ite

theorem State.svcIdent_touches {m : Nat} {z s : State} (hz : Touches m z s) (hp : 0x80000022 &&& m = 0x80000022) :
    Touches m z (State.svcIdent s) := by
  unfold State.svcIdent
  with_reducible repeat' first
    | assumption | apply State.svcAnswer_touches | apply State.drawn_touches | exact mask_trans (by decide) hp

theorem State.svcStatus_touches {m : Nat} {z s : State} (hz : Touches m z s) (hp : 0x80000022 &&& m = 0x80000022) :
    Touches m z (State.svcStatus s) := by
  unfold State.svcStatus
  with_reducible repeat' first
    | assumption | apply State.svcAnswer_touches | exact mask_trans (by decide) hp

theorem State.releaseBuffers_touches {m : Nat} {z s : State} (hz : Touches m z s) (hp : 0x8000000 &&& m = 0x8000000) :
    Touches m z (State.releaseBuffers s) := by
  unfold State.releaseBuffers
  with_reducible repeat' first
    | assumption | apply State.setSvc_touches | exact mask_trans (by decide) hp | extract_lets

theorem State.svcFeed_touches {m : Nat} {z s : State} (hz : Touches m z s) (hp : 0x89005C22 &&& m = 0x89005C22) :
    Touches m z (State.svcFeed s) := by
  unfold State.svcFeed
  with_reducible repeat' first
    | assumption | apply State.svcFail_touches | apply State.enqueueOp_touches | exact mask_trans (by decide) hp
    | apply touches_ite | extract_lets

theorem State.atolProgramDone_touches {m : Nat} {z s : State} (hz : Touches m z s) (hp : 0xCFFDFE62 &&& m = 0xCFFDFE62)
    (pulses : ℕ) (ok : Bool) :
    Touches m z (State.atolProgramDone s pulses ok) := by
  unfold State.atolProgramDone
  with_reducible repeat' first
    | assumption | apply State.progDone_touches | apply State.svcFeed_touches | apply State.releaseBuffers_touches
    | apply State.put_touches | apply State.svcFail_touches | exact mask_trans (by decide) hp | apply touches_ite | split
    | extract_lets

theorem State.atolEraseDone_touches {m : Nat} {z s : State} (hz : Touches m z s) (hp : 0xCFFDFE62 &&& m = 0xCFFDFE62)
    (ok : Bool) :
    Touches m z (State.atolEraseDone s ok) := by
  unfold State.atolEraseDone
  with_reducible repeat' first
    | assumption | apply State.eraseDone_touches | apply State.svcFail_touches | exact mask_trans (by decide) hp
    | apply touches_ite | split | extract_lets

theorem State.svcBegin_touches {m : Nat} {z s : State} (hz : Touches m z s) (hp : 0x8000002 &&& m = 0x8000002)
    (state : ℕ) (total : ℕ) (x : Svc) :
    Touches m z (State.svcBegin s state total x) := by
  unfold State.svcBegin
  with_reducible repeat' first
    | assumption | apply State.put_touches | apply State.setSvc_touches | exact mask_trans (by decide) hp

theorem State.pkgBegin_touches {m : Nat} {z s : State} (hz : Touches m z s) (hp : 0x88000022 &&& m = 0x88000022)
    (h : List (BitVec 8)) :
    Touches m z (State.pkgBegin s h) := by
  unfold State.pkgBegin
  with_reducible repeat' first
    | assumption | apply State.svcAnswer_touches | apply State.put_touches | apply State.svcBegin_touches
    | exact mask_trans (by decide) hp | apply touches_ite | extract_lets

theorem State.eraseTarget_touches {m : Nat} {z s : State} (hz : Touches m z s) (hp : 0x81004C22 &&& m = 0x81004C22) :
    Touches m z (State.eraseTarget s) := by
  unfold State.eraseTarget
  with_reducible repeat' first
    | assumption | apply State.enqueueOp_touches | apply State.put_touches | exact mask_trans (by decide) hp | apply touches_ite
    | apply touches_foldl | intro t a ht

theorem State.hashDone_touches {m : Nat} {z s : State} (hz : Touches m z s) (hp : 0x89005C22 &&& m = 0x89005C22) :
    Touches m z (State.hashDone s) := by
  unfold State.hashDone
  with_reducible repeat' first
    | assumption | apply State.eraseTarget_touches | apply State.eventNo_touches | apply State.svcFail_touches
    | exact mask_trans (by decide) hp | apply touches_ite

theorem State.updErased_touches {m : Nat} {z s : State} (hz : Touches m z s) (hp : 0x8000002 &&& m = 0x8000002) :
    Touches m z (State.updErased s) := by
  unfold State.updErased
  with_reducible repeat' first
    | assumption | apply State.put_touches | apply State.setSvc_touches | exact mask_trans (by decide) hp | apply touches_ite
    | extract_lets

theorem State.svcData_touches {m : Nat} {z s : State} (hz : Touches m z s) (hp : 0x89005C22 &&& m = 0x89005C22)
    (rcv : Bool) (payload : List (BitVec 8)) :
    Touches m z (State.svcData s rcv payload) := by
  unfold State.svcData
  with_reducible repeat' first
    | assumption | apply State.svcAnswer_touches | apply State.releaseBuffers_touches | apply State.svcFeed_touches
    | apply State.setSvc_touches | exact mask_trans (by decide) hp | apply touches_ite | extract_lets

theorem State.svcEnd_touches {m : Nat} {z s : State} (hz : Touches m z s) (hp : 0x88000022 &&& m = 0x88000022) (rcv : Bool) :
    Touches m z (State.svcEnd s rcv) := by
  unfold State.svcEnd
  with_reducible repeat' first
    | assumption | apply State.svcAnswer_touches | apply State.put_touches | apply State.setSvc_touches
    | exact mask_trans (by decide) hp | apply touches_ite | extract_lets

theorem State.updChecked_touches {m : Nat} {z s : State} (hz : Touches m z s) (hp : 0x89005C22 &&& m = 0x89005C22) :
    Touches m z (State.updChecked s) := by
  unfold State.updChecked
  with_reducible repeat' first
    | assumption | apply State.svcFail_touches | apply State.put_touches | apply State.setSvc_touches
    | apply State.eventNo_touches | apply State.raiseInt_touches | exact mask_trans (by decide) hp | apply touches_ite
    | extract_lets

theorem State.svcActivate_touches {m : Nat} {z s : State} (hz : Touches m z s) (hp : 0x81005C22 &&& m = 0x81005C22) :
    Touches m z (State.svcActivate s) := by
  unfold State.svcActivate
  with_reducible repeat' first
    | assumption | apply State.svcAnswer_touches | apply State.put_touches | apply State.bootSwap_touches
    | apply State.eventNo_touches | apply State.raiseInt_touches | exact mask_trans (by decide) hp | apply touches_ite
    | extract_lets

theorem State.svcAbort_touches {m : Nat} {z s : State} (hz : Touches m z s) (hp : 0x89005C22 &&& m = 0x89005C22) :
    Touches m z (State.svcAbort s) := by
  unfold State.svcAbort
  with_reducible repeat' first
    | assumption | apply State.svcAnswer_touches | apply State.svcFail_touches | exact mask_trans (by decide) hp
    | apply touches_ite

theorem State.rcvBegin_touches {m : Nat} {z s : State} (hz : Touches m z s) (hp : 0x89004C22 &&& m = 0x89004C22)
    (p : List (BitVec 8)) :
    Touches m z (State.rcvBegin s p) := by
  unfold State.rcvBegin
  with_reducible repeat' first
    | assumption | apply State.svcAnswer_touches | apply State.eraseTarget_touches | apply State.svcBegin_touches
    | exact mask_trans (by decide) hp | apply touches_ite | extract_lets

theorem State.rcvChecked_touches {m : Nat} {z s : State} (hz : Touches m z s) (hp : 0x89005C22 &&& m = 0x89005C22) :
    Touches m z (State.rcvChecked s) := by
  unfold State.rcvChecked
  with_reducible repeat' first
    | assumption | apply State.svcFail_touches | apply State.put_touches | apply State.setSvc_touches
    | apply State.bootSwap_touches | apply State.eventNo_touches | apply State.raiseInt_touches
    | exact mask_trans (by decide) hp | apply touches_ite | extract_lets

theorem State.protSet_touches {m : Nat} {z s : State} (hz : Touches m z s) (hp : 0x81005C22 &&& m = 0x81005C22)
    (p : List (BitVec 8)) :
    Touches m z (State.protSet s p) := by
  unfold State.protSet
  with_reducible repeat' first
    | assumption | apply State.svcAnswer_touches | apply State.protect_touches | apply State.eventNo_touches
    | exact mask_trans (by decide) hp | apply touches_ite | extract_lets

theorem State.svcEc_touches {m : Nat} {z s : State} (hz : Touches m z s) (hp : 0x80000022 &&& m = 0x80000022)
    (p : List (BitVec 8)) :
    Touches m z (State.svcEc s p) := by
  unfold State.svcEc
  with_reducible repeat' first
    | assumption | apply State.svcAnswer_touches | exact mask_trans (by decide) hp | apply touches_ite | extract_lets

/-! ### Machine/Tst -/

theorem State.enterTest_touches {m : Nat} {z s : State} (hz : Touches m z s) (hp : 0x6FFDFE2E &&& m = 0x6FFDFE2E) :
    Touches m z (State.enterTest s) := by
  unfold State.enterTest
  with_reducible repeat' first
    | assumption | apply State.assertDevice_touches | apply State.put_touches | apply State.bump_touches
    | apply State.setRst_touches | exact mask_trans (by decide) hp | apply touches_ite | extract_lets

theorem State.leaveTest_touches {m : Nat} {z s : State} (hz : Touches m z s) (hp : 0xC0056C62 &&& m = 0xC0056C62) :
    Touches m z (State.leaveTest s) := by
  unfold State.leaveTest
  with_reducible repeat' first
    | assumption | apply State.startAfterReset_touches | apply State.put_touches | apply State.raiseInt_touches
    | apply State.setSave_touches | exact mask_trans (by decide) hp | apply touches_ite | extract_lets

theorem State.loadIr_touches {m : Nat} {z s : State} (hz : Touches m z s) (hp : 0xFFFDFE6E &&& m = 0xFFFDFE6E) (code : ℕ) :
    Touches m z (State.loadIr s code) := by
  unfold State.loadIr
  with_reducible repeat' first
    | assumption | apply State.put_touches | apply State.setTst_touches | apply State.enterTest_touches
    | apply State.leaveTest_touches | exact mask_trans (by decide) hp | apply touches_ite | extract_lets

theorem State.heldTest_touches {m : Nat} {z s : State} (hz : Touches m z s) (hp : 0x7FFDFE2E &&& m = 0x7FFDFE2E) :
    Touches m z (State.heldTest s) := by
  unfold State.heldTest
  with_reducible repeat' first
    | assumption | apply State.enterTest_touches | apply State.put_touches | apply State.setTst_touches
    | exact mask_trans (by decide) hp | apply touches_ite | split | extract_lets

theorem State.tapReset_touches {m : Nat} {z s : State} (hz : Touches m z s) (hp : 0xD0056C62 &&& m = 0xD0056C62) :
    Touches m z (State.tapReset s) := by
  unfold State.tapReset
  with_reducible repeat' first
    | assumption | apply State.setTst_touches | apply State.leaveTest_touches | apply State.put_touches
    | exact mask_trans (by decide) hp | extract_lets

theorem State.boundary_touches {m : Nat} {z s : State} (hz : Touches m z s) (hp : 0x90000000 &&& m = 0x90000000)
    (pins : ℕ) (shifted : Option ℕ) :
    Touches m z (State.boundary s pins shifted) := by
  unfold State.boundary
  with_reducible repeat' first
    | assumption | apply State.send_touches | apply State.setTst_touches | exact mask_trans (by decide) hp | apply touches_ite
    | split | extract_lets

theorem State.jtagOut_touches {m : Nat} {z s : State} (hz : Touches m z s) (hp : 0x80000000 &&& m = 0x80000000) (v : ℕ) :
    Touches m z (State.jtagOut s v) := by
  unfold State.jtagOut
  with_reducible repeat' first
    | assumption | apply State.send_touches | exact mask_trans (by decide) hp

theorem State.tstReset_touches {m : Nat} {z s : State} (hz : Touches m z s) (hp : 0xFFFDFE6E &&& m = 0xFFFDFE6E) :
    Touches m z (State.tstReset s) := by
  unfold State.tstReset
  with_reducible repeat' first
    | assumption | apply State.requestReset_touches | apply State.loadIr_touches | exact mask_trans (by decide) hp

theorem State.tstRead_touches {m : Nat} {z s : State} (hz : Touches m z s) (hp : 0xFFFDFE6E &&& m = 0xFFFDFE6E)
    (w : ℕ) (cbits : ℕ) (ue : Bool) (ready : Bool) :
    Touches m z (State.tstRead s w cbits ue ready) := by
  unfold State.tstRead
  with_reducible repeat' first
    | assumption | apply State.loadIr_touches | apply State.jtagOut_touches | apply State.setErr_touches
    | apply State.arrayRead_touches | apply State.put_touches | apply State.setTst_touches | exact mask_trans (by decide) hp
    | apply touches_ite | extract_lets

theorem State.tstEc_touches {m : Nat} {z s : State} (hz : Touches m z s) (hp : 0xFFFDFE6E &&& m = 0xFFFDFE6E) (block : ℕ) :
    Touches m z (State.tstEc s block) := by
  unfold State.tstEc
  with_reducible repeat' first
    | assumption | apply State.setTst_touches | apply State.jtagOut_touches | apply State.loadIr_touches
    | exact mask_trans (by decide) hp | apply touches_ite | extract_lets

/-! ### Machine/Detect -/

theorem State.frozenWordLost_touches {m : Nat} {z s : State} (hz : Touches m z s) (hp : 0x8000 &&& m = 0x8000) (word : ℕ) :
    Touches m z (State.frozenWordLost s word) := by
  unfold State.frozenWordLost
  with_reducible repeat' first
    | assumption | apply State.setPers_touches | exact mask_trans (by decide) hp | apply touches_ite | apply touches_foldl
    | intro t a ht | split

theorem State.coolEntryLost_touches {m : Nat} {z s : State} (hz : Touches m z s) (hp : 0x8000CC22 &&& m = 0x8000CC22)
    (k : ℕ) (fromReturn : Bool) :
    Touches m z (State.coolEntryLost s k fromReturn) := by
  unfold State.coolEntryLost
  with_reducible repeat' first
    | assumption | apply State.setPers_touches | apply State.refreshQueues_touches | apply State.enterSweep_touches
    | exact mask_trans (by decide) hp | apply touches_ite | extract_lets

theorem State.rxEntryBad_touches {m : Nat} {z s : State} (hz : Touches m z s) (hp : 0x200000 &&& m = 0x200000) (k : ℕ) :
    Touches m z (State.rxEntryBad s k) := by
  unfold State.rxEntryBad
  with_reducible repeat' first
    | assumption | apply State.setHlk_touches | exact mask_trans (by decide) hp | split | extract_lets

theorem State.blockRecordLost_touches {m : Nat} {z s : State} (hz : Touches m z s) (hp : 0x40000 &&& m = 0x40000) (k : ℕ) :
    Touches m z (State.blockRecordLost s k) := by
  unfold State.blockRecordLost
  with_reducible repeat' first
    | assumption | apply State.setFarr_touches | exact mask_trans (by decide) hp | extract_lets

theorem State.faultEffect_touches {m : Nat} {z s : State} (hz : Touches m z s) (hp : 0xCFFDFE62 &&& m = 0xCFFDFE62)
    (p : ℕ) (n : ℕ) (place : ℕ) (alt : Bool) :
    Touches m z (State.faultEffect s p n place alt) := by
  unfold State.faultEffect
  with_reducible repeat' first
    | assumption | apply State.recordLost_touches | apply State.frozenWordLost_touches | apply State.mapWordLost_touches
    | apply State.coolEntryLost_touches | apply State.stagingLost_touches | apply State.abandonCopy_touches
    | apply State.abandonRaised_touches | apply State.rxEntryBad_touches | apply State.ringUe_touches
    | apply State.blockRecordLost_touches | apply State.svcFail_touches | exact mask_trans (by decide) hp | apply touches_ite
    | intro t c ht

theorem State.faultFound_touches {m : Nat} {z s : State} (hz : Touches m z s) (hp : 0xCFFDFE62 &&& m = 0xCFFDFE62)
    (p : ℕ) (n : ℕ) (place : ℕ) (alt : Bool) :
    Touches m z (State.faultFound s p n place alt) := by
  unfold State.faultFound
  with_reducible repeat' first
    | assumption | apply State.faultEffect_touches | apply State.coreCrash_touches | exact mask_trans (by decide) hp
    | apply touches_ite | extract_lets

theorem State.injectedEffect_touches {m : Nat} {z s : State} (hz : Touches m z s) (hp : 0x89005C22 &&& m = 0x89005C22)
    (p : ℕ) (n : ℕ) :
    Touches m z (State.injectedEffect s p n) := by
  unfold State.injectedEffect
  with_reducible repeat' first
    | assumption | apply State.svcFail_touches | apply State.coreCrash_touches | exact mask_trans (by decide) hp
    | apply touches_ite

theorem State.detectFault_touches {m : Nat} {z s : State} (hz : Touches m z s) (hp : 0xCFFDFE62 &&& m = 0xCFFDFE62)
    (p : ℕ) (n : ℕ) (kind : ℕ) (addr : ℕ) (cycle : ℕ) (place : ℕ) (alt : Bool) :
    Touches m z (State.detectFault s p n kind addr cycle place alt) := by
  unfold State.detectFault
  with_reducible repeat' first
    | assumption | apply State.faultFound_touches | apply State.raiseFaultSev_touches | exact mask_trans (by decide) hp
    | apply touches_ite

theorem State.injectFault_touches {m : Nat} {z s : State} (hz : Touches m z s) (hp : 0xCFFDFE62 &&& m = 0xCFFDFE62)
    (p : ℕ) (n : ℕ) :
    Touches m z (State.injectFault s p n) := by
  unfold State.injectFault
  with_reducible repeat' first
    | assumption | apply State.raiseFaultAt_touches | apply State.injectedEffect_touches | exact mask_trans (by decide) hp
    | apply touches_ite | extract_lets

theorem State.injectAll_touches {m : Nat} {z s : State} (hz : Touches m z s) (hp : 0xCFFDFE62 &&& m = 0xCFFDFE62) :
    Touches m z (State.injectAll s) := by
  unfold State.injectAll
  with_reducible repeat' first
    | assumption | apply State.injectFault_touches | apply State.setWord_touches | exact mask_trans (by decide) hp
    | apply touches_foldl | intro t a ht | extract_lets

theorem State.railOut_touches {m : Nat} {z s : State} (hz : Touches m z s) (hp : 0xCFFDFE62 &&& m = 0xCFFDFE62) (rail : ℕ) :
    Touches m z (State.railOut s rail) := by
  unfold State.railOut
  with_reducible repeat' first
    | assumption | apply State.failSave_touches | apply State.raiseFault_touches | exact mask_trans (by decide) hp
    | apply touches_ite

end Sys2Proof.Machine
end

