-- ==== Sys2Proof/Laws/TouchesBus.lean ====
section
/-! SUPPORT. Machine/Bus, Machine/Tws, Machine/Tick, Machine/Outcomes, Machine/Mailbox: which parts of the state each operation can touch (`Touches`). -/

set_option linter.unreachableTactic false
set_option linter.unusedTactic false

namespace Sys2Proof.Machine

/-! ### Machine/Bus -/

theorem State.noteDrop_touches {m : Nat} {z s : State} (hz : Touches m z s) (hp : 0x2 &&& m = 0x2)
    (p : Port) (a : ℕ) (cause : ℕ) :
    Touches m z (State.noteDrop s p a cause) := by
  unfold State.noteDrop
  with_reducible repeat' first
    | assumption | apply State.put_touches | apply State.bumpSat_touches | exact mask_trans (by decide) hp | apply touches_ite
    | split | extract_lets

theorem State.noteOff_touches {m : Nat} {z s : State} (hz : Touches m z s) (hp : 0x2 &&& m = 0x2)
    (p : Port) (a : ℕ) (wr : Bool) :
    Touches m z (State.noteOff s p a wr) := by
  unfold State.noteOff
  with_reducible repeat' first
    | assumption | apply State.put_touches | apply State.bumpSat_touches | exact mask_trans (by decide) hp | apply touches_ite
    | extract_lets

theorem State.countWrite_touches {m : Nat} {z s : State} (hz : Touches m z s) (hp : 0x2 &&& m = 0x2) (p : ℕ) :
    Touches m z (State.countWrite s p) := by
  unfold State.countWrite
  with_reducible repeat' first
    | assumption | apply State.put_touches | exact mask_trans (by decide) hp

theorem State.setLease_touches {m : Nat} {z s : State} (hz : Touches m z s) (hp : 0x200 &&& m = 0x200) (n : ℕ) (l : Lease) :
    Touches m z (State.setLease s n l) := by
  unfold State.setLease
  with_reducible repeat' first
    | assumption | apply touches_mk | exact Or.inl rfl | exact Or.inr (mask_bit hp (by decide))
    | exact fun c => canon_same c rfl rfl rfl rfl

theorem State.grantSem_touches {m : Nat} {z s : State} (hz : Touches m z s) (hp : 0x202 &&& m = 0x202) (n : ℕ) (p : Port) :
    Touches m z (State.grantSem s n p) := by
  unfold State.grantSem
  with_reducible repeat' first
    | assumption | apply State.setLease_touches | apply State.put_touches | exact mask_trans (by decide) hp

theorem State.claimOne_touches {m : Nat} {z s : State} (hz : Touches m z s) (hp : 0x80000202 &&& m = 0x80000202)
    (n : ℕ) (p : Port) :
    Touches m z (State.claimOne s n p) := by
  unfold State.claimOne
  with_reducible repeat' first
    | assumption | apply State.grantSem_touches | apply State.send_touches | exact mask_trans (by decide) hp | apply touches_ite
    | extract_lets

theorem State.decideTie_touches {m : Nat} {z s : State} (hz : Touches m z s) (hp : 0x202 &&& m = 0x202)
    (n : ℕ) (readers : List Port) :
    Touches m z (State.decideTie s n readers) := by
  unfold State.decideTie
  with_reducible repeat' first
    | assumption | apply State.grantSem_touches | apply State.put_touches | exact mask_trans (by decide) hp | apply touches_ite

theorem State.semClaim_touches {m : Nat} {z s : State} (hz : Touches m z s) (hp : 0x80000202 &&& m = 0x80000202)
    (n : ℕ) (readers : List Port) :
    Touches m z (State.semClaim s n readers) := by
  unfold State.semClaim
  with_reducible repeat' first
    | assumption | apply State.decideTie_touches | apply State.send_touches | apply State.claimOne_touches
    | exact mask_trans (by decide) hp | apply touches_ite | apply touches_foldl | intro t a ht | extract_lets

theorem State.semWrite_touches {m : Nat} {z s : State} (hz : Touches m z s) (hp : 0x80005E22 &&& m = 0x80005E22)
    (p : Port) (n : ℕ) (data : Word) :
    Touches m z (State.semWrite s p n data) := by
  unfold State.semWrite
  with_reducible repeat' first
    | assumption | apply State.countWrite_touches | apply State.event_touches | apply State.bumpSat_touches
    | apply State.freeSem_touches | apply State.noteDrop_touches | exact mask_trans (by decide) hp | apply touches_ite
    | extract_lets

theorem State.leaseExpired_touches {m : Nat} {z s : State} (hz : Touches m z s) (hp : 0x200 &&& m = 0x200) (n : ℕ) :
    Touches m z (State.leaseExpired s n) := by
  unfold State.leaseExpired
  with_reducible repeat' first
    | assumption | apply State.setLease_touches | exact mask_trans (by decide) hp | apply touches_ite | extract_lets

theorem State.storeFields_touches {m : Nat} {z s : State} (hz : Touches m z s) (hp : 0x6 &&& m = 0x6)
    (p : Port) (a : ℕ) (r : Row) (data : Word) :
    Touches m z (State.storeFields s p a r data) := by
  unfold State.storeFields
  with_reducible repeat' first
    | assumption | apply State.setWord_touches | exact mask_trans (by decide) hp | apply touches_ite | apply touches_foldl
    | intro t a ht | extract_lets | apply touches_mk | exact Or.inl rfl | exact Or.inr (mask_bit hp (by decide))
    | exact fun c => canon_same c rfl rfl rfl rfl

theorem State.softReset_touches {m : Nat} {z s : State} (hz : Touches m z s) (hp : 0xE1E8CC6E &&& m = 0xE1E8CC6E) (b : ℕ) :
    Touches m z (State.softReset s b) := by
  unfold State.softReset
  with_reducible repeat' first
    | assumption | apply State.resetBlocks_touches | apply State.atolAbort_touches | apply State.setFlt_touches
    | exact mask_trans (by decide) hp | apply touches_ite | extract_lets

theorem State.pageCtrlWritten_touches {m : Nat} {z s : State} (hz : Touches m z s) (hp : 0xE1E8CC6E &&& m = 0xE1E8CC6E)
    (old : State) (pg : ℕ) (data : Word) :
    Touches m z (State.pageCtrlWritten s old pg data) := by
  unfold State.pageCtrlWritten
  with_reducible repeat' first
    | assumption | apply State.abortChan_touches | apply State.put_touches | apply State.softReset_touches
    | exact mask_trans (by decide) hp | apply touches_ite | extract_lets

theorem State.discardShadows_touches {m : Nat} {z s : State} (hz : Touches m z s) (hp : 0x2 &&& m = 0x2) (pg : ℕ) :
    Touches m z (State.discardShadows s pg) := by
  unfold State.discardShadows
  generalize List.range 512 = l
  split
  · refine touches_regs hz hp (fun h => Sparse.wf_foldl _ _ _ h (fun x a hx => ?_))
    extract_lets
    split
    · exact Sparse.wf_set _ _ hx
    · exact hx
  · exact hz

theorem State.eoi_touches {m : Nat} {z s : State} (hz : Touches m z s) (hp : 0x80000400 &&& m = 0x80000400) (v : ℕ) :
    Touches m z (State.eoi s v) := by
  unfold State.eoi
  with_reducible repeat' first
    | assumption | apply State.vectorUp_touches | exact mask_trans (by decide) hp | apply touches_ite

theorem State.sendHeld_touches {m : Nat} {z s : State} (hz : Touches m z s) (hp : 0x80000400 &&& m = 0x80000400) :
    Touches m z (State.sendHeld s) := by
  unfold State.sendHeld
  with_reducible repeat' first
    | assumption | apply State.setMgp_touches | apply State.send_touches | exact mask_trans (by decide) hp | apply touches_foldl
    | intro t a ht | extract_lets

theorem State.devRst_touches {m : Nat} {z s : State} (hz : Touches m z s) (hp : 0xC478FE62 &&& m = 0xC478FE62) (p : Port) :
    Touches m z (State.devRst s p) := by
  unfold State.devRst
  with_reducible repeat' first
    | assumption | apply State.requestReset_touches | apply State.noteDrop_touches | exact mask_trans (by decide) hp
    | apply touches_ite | split

theorem State.noteClaim_touches {m : Nat} {z s : State} (hz : Touches m z s) (hp : 0x400 &&& m = 0x400)
    (p : Port) (f : Feature) :
    Touches m z (State.noteClaim s p f) := by
  unfold State.noteClaim
  with_reducible repeat' first
    | assumption | apply State.setMgp_touches | exact mask_trans (by decide) hp | extract_lets

theorem State.claimBy_touches {m : Nat} {z s : State} (hz : Touches m z s) (hp : 0x422 &&& m = 0x422) (p : Port) (f : Feature) :
    Touches m z (State.claimBy s p f) := by
  unfold State.claimBy
  with_reducible repeat' first
    | assumption | apply State.claim_touches | apply State.put_touches | apply State.drawn_touches
    | apply State.noteClaim_touches | apply State.enableFeature_touches | exact mask_trans (by decide) hp | apply touches_ite
    | split | extract_lets

theorem State.enableFeatures_touches {m : Nat} {z s : State} (hz : Touches m z s) (hp : 0x422 &&& m = 0x422)
    (p : Port) (a : ℕ) (data : Word) :
    Touches m z (State.enableFeatures s p a data) := by
  unfold State.enableFeatures
  with_reducible repeat' first
    | assumption | apply State.claimBy_touches | apply State.enableFeature_touches | exact mask_trans (by decide) hp
    | apply touches_ite | apply touches_foldl | intro t a ht

theorem State.written_touches {m : Nat} {z s : State} (hz : Touches m z s) (hp : 0xE7FDFE6E &&& m = 0xE7FDFE6E)
    (old : State) (p : Port) (a : ℕ) (data : Word) :
    Touches m z (State.written s old p a data) := by
  unfold State.written
  with_reducible repeat' first
    | assumption | apply State.enableFeatures_touches | apply State.pageCtrlWritten_touches | apply State.settle_touches
    | apply State.raiseMask_touches | apply State.discardShadows_touches | apply State.setWord_touches | apply State.eoi_touches
    | apply State.devRst_touches | apply State.setRst_touches | apply State.requestState_touches
    | apply State.postBarrier_touches | apply State.setPers_touches | apply State.put_touches | apply State.queryBlock_touches
    | apply State.retrainChannel_touches | apply State.movCmd_touches | apply State.pmStore_touches
    | apply State.ringPop_touches | apply State.dtrnGo_touches | apply State.dtrnHalt_touches | apply State.strtRetrain_touches
    | apply State.fltPop_touches | apply State.fltFirstClr_touches | apply State.freezeWritten_touches
    | apply State.flush_touches | apply State.setTouched_touches | apply State.beginRecRead_touches | apply State.twlGo_touches
    | apply State.notifyPop_touches | apply State.markPop_touches | apply State.capBegin_touches
    | exact mask_trans (by decide) hp | apply touches_ite | extract_lets

theorem State.storeWord_touches {m : Nat} {z s : State} (hz : Touches m z s) (hp : 0xE7FDFE6E &&& m = 0xE7FDFE6E)
    (p : Port) (a : ℕ) (r : Row) (data : Word) :
    Touches m z (State.storeWord s p a r data) := by
  unfold State.storeWord
  with_reducible repeat' first
    | assumption | apply State.noteDrop_touches | apply State.put_touches | apply State.refreshArmed_touches
    | apply State.written_touches | apply State.countWrite_touches | apply State.storeFields_touches
    | exact mask_trans (by decide) hp | apply touches_ite | extract_lets

theorem State.busWrite_touches {m : Nat} {z s : State} (hz : Touches m z s) (hp : 0xE7FDFE6E &&& m = 0xE7FDFE6E)
    (p : Port) (a : ℕ) (data : Word) :
    Touches m z (State.busWrite s p a data) := by
  unfold State.busWrite
  with_reducible repeat' first
    | assumption | apply State.noteDrop_touches | apply State.noteOff_touches | apply State.countWrite_touches
    | apply State.winWrite_touches | apply State.semWrite_touches | apply State.storeWord_touches
    | exact mask_trans (by decide) hp | apply touches_ite | split | extract_lets

theorem State.portWrite_touches {m : Nat} {z s : State} (hz : Touches m z s) (hp : 0xE7FDFE6E &&& m = 0xE7FDFE6E)
    (p : Port) (addr : ℕ) (mask : ℕ) (data : Word) :
    Touches m z (State.portWrite s p addr mask data) := by
  unfold State.portWrite
  with_reducible repeat' first
    | assumption | apply State.busWrite_touches | apply State.noteDrop_touches | apply State.noteOff_touches
    | exact mask_trans (by decide) hp | apply touches_ite | extract_lets

theorem State.portWord_touches {m : Nat} {z s : State} (hz : Touches m z s) (hp : 0xE7FDFE6E &&& m = 0xE7FDFE6E)
    (p : Port) (a : ℕ) (data : Word) :
    Touches m z (State.portWord s p a data) := by
  unfold State.portWord
  with_reducible repeat' first
    | assumption | apply State.busWrite_touches | exact mask_trans (by decide) hp | apply touches_ite

theorem State.portBits_touches {m : Nat} {z s : State} (hz : Touches m z s) (hp : 0xE7FDFE6E &&& m = 0xE7FDFE6E)
    (p : Port) (a : ℕ) (lo : ℕ) (w : ℕ) (v : ℕ) :
    Touches m z (State.portBits s p a lo w v) := by
  unfold State.portBits
  with_reducible repeat' first
    | assumption | apply State.portWord_touches | exact mask_trans (by decide) hp

theorem State.clearRead_touches {m : Nat} {z s : State} (hz : Touches m z s) (hp : 0x2 &&& m = 0x2) (a : ℕ) (r : Row) :
    Touches m z (State.clearRead s a r) := by
  unfold State.clearRead
  with_reducible repeat' first
    | assumption | apply State.put_touches | apply State.setWord_touches | exact mask_trans (by decide) hp | apply touches_ite
    | apply touches_foldl | intro t a ht | extract_lets

theorem State.readWord_touches {m : Nat} {z s : State} (hz : Touches m z s) (hp : 0xA &&& m = 0xA) (p : Port) (a : ℕ) :
    Touches m z (State.readWord s p a).1 := by
  unfold State.readWord
  with_reducible repeat' first
    | assumption | apply State.pmNext_touches | apply State.clearRead_touches | exact mask_trans (by decide) hp
    | apply touches_ite | apply touches_ite_fst | split | apply touches_mk | exact Or.inl rfl
    | exact Or.inr (mask_bit hp (by decide)) | exact fun c => canon_same c rfl rfl rfl rfl

theorem State.windowAny_touches {m : Nat} {z s : State} (hz : Touches m z s) (hp : 0xCFFDFE62 &&& m = 0xCFFDFE62)
    (p : Port) (o : ℕ) :
    Touches m z (State.windowAny s p o).1 := by
  unfold State.windowAny
  with_reducible repeat' first
    | assumption | apply State.winRead_touches | apply State.drawn_touches | exact mask_trans (by decide) hp

theorem State.busRead_touches {m : Nat} {z s : State} (hz : Touches m z s) (hp : 0xCFFDFE6A &&& m = 0xCFFDFE6A)
    (p : Port) (a : ℕ) :
    Touches m z (State.busRead s p a).1 := by
  unfold State.busRead
  with_reducible repeat' first
    | assumption | apply State.noteOff_touches | apply State.windowAny_touches | apply State.grantSem_touches
    | apply State.readWord_touches | exact mask_trans (by decide) hp | apply touches_ite | apply touches_ite_fst | extract_lets

theorem State.portRead_touches {m : Nat} {z s : State} (hz : Touches m z s) (hp : 0xCFFDFE6A &&& m = 0xCFFDFE6A)
    (p : Port) (addr : ℕ) :
    Touches m z (State.portRead s p addr) := by
  unfold State.portRead
  with_reducible repeat' first
    | assumption | apply State.busRead_touches | apply State.send_touches | exact mask_trans (by decide) hp | apply touches_ite
    | split | extract_lets

theorem State.windowData_touches {m : Nat} {z s : State} (hz : Touches m z s) (hp : 0xE7FDFE6E &&& m = 0xE7FDFE6E)
    (p : Port) (offset : ℕ) (data : Word) (late : Bool) :
    Touches m z (State.windowData s p offset data late) := by
  unfold State.windowData
  with_reducible repeat' first
    | assumption | apply State.portWord_touches | apply State.lateOk_touches | exact mask_trans (by decide) hp
    | apply touches_ite | extract_lets

theorem State.windowRead_touches {m : Nat} {z s : State} (hz : Touches m z s) (hp : 0xCFFDFE62 &&& m = 0xCFFDFE62)
    (p : Port) (offset : ℕ) (cbits : ℕ) (ue : Bool) :
    Touches m z (State.windowRead s p offset cbits ue) := by
  unfold State.windowRead
  with_reducible repeat' first
    | assumption | apply State.noteOff_touches | apply State.send_touches | apply State.winRead_touches
    | exact mask_trans (by decide) hp | apply touches_ite | extract_lets

/-! ### Machine/Tws -/

theorem State.sbNack_touches {m : Nat} {z s : State} (hz : Touches m z s) (hp : 0x22 &&& m = 0x22) (cause : ℕ) (addr : ℕ) :
    Touches m z (State.sbNack s cause addr) := by
  unfold State.sbNack
  with_reducible repeat' first
    | assumption | apply State.bump_touches | apply State.put_touches | exact mask_trans (by decide) hp

theorem State.sbPecError_touches {m : Nat} {z s : State} (hz : Touches m z s) (hp : 0xCFFDFE62 &&& m = 0xCFFDFE62) (addr : ℕ) :
    Touches m z (State.sbPecError s addr) := by
  unfold State.sbPecError
  with_reducible repeat' first
    | assumption | apply State.raiseFault_touches | apply State.raiseInt_touches | apply State.bump_touches
    | apply State.sbNack_touches | exact mask_trans (by decide) hp

theorem State.sbWake_touches {m : Nat} {z s : State} (hz : Touches m z s) (hp : 0x4802 &&& m = 0x4802) (pg : ℕ) :
    Touches m z (State.sbWake s pg) := by
  unfold State.sbWake
  with_reducible repeat' first
    | assumption | apply State.wake_touches | exact mask_trans (by decide) hp | apply touches_ite

theorem State.writeWords_touches {m : Nat} {z s : State} (hz : Touches m z s) (hp : 0xE7FDFE6E &&& m = 0xE7FDFE6E)
    (p : Port) (a : ℕ) (l : List Word) : Touches m z (State.writeWords p s a l) := by
  induction l generalizing s a with
  | nil => unfold State.writeWords; with_reducible repeat' first | assumption | apply State.busWrite_touches | exact mask_trans (by decide) hp
  | cons a t ih =>
    unfold State.writeWords
    with_reducible repeat' first | assumption | apply ih | apply State.busWrite_touches | exact mask_trans (by decide) hp | apply touches_ite | split

theorem State.sbWrite_touches {m : Nat} {z s : State} (hz : Touches m z s) (hp : 0xEFFDFE6E &&& m = 0xEFFDFE6E)
    (count : ℕ) (a0 : BitVec 8) (a1 : BitVec 8) (a2 : BitVec 8) (words : List Word) (pecOk : Bool) :
    Touches m z (State.sbWrite s count a0 a1 a2 words pecOk) := by
  unfold State.sbWrite
  with_reducible repeat' first
    | assumption | apply State.sbNack_touches | apply State.sbWake_touches | apply State.noteDrop_touches
    | apply State.noteOff_touches | apply State.sbPecError_touches | apply State.bump_touches | apply State.writeWords_touches
    | exact mask_trans (by decide) hp | apply touches_ite | extract_lets

theorem State.readWords_touches {m : Nat} {z s : State} (hz : Touches m z s) (hp : 0xCFFDFE6A &&& m = 0xCFFDFE6A)
    (p : Port) (k : ℕ) (a : ℕ) : Touches m z (State.readWords p k s a).1 := by
  induction k generalizing s a with
  | zero => unfold State.readWords; with_reducible repeat' first | assumption | apply State.busRead_touches | exact mask_trans (by decide) hp
  | succ k ih =>
    unfold State.readWords
    with_reducible repeat' first | assumption | apply ih | apply State.busRead_touches | exact mask_trans (by decide) hp | apply touches_ite | split

theorem State.sbAnswer_touches {m : Nat} {z s : State} (hz : Touches m z s) (hp : 0x80000000 &&& m = 0x80000000)
    (sent : List (BitVec 8)) (data : List (BitVec 8)) :
    Touches m z (State.sbAnswer s sent data) := by
  unfold State.sbAnswer
  with_reducible repeat' first
    | assumption | apply State.send_touches | exact mask_trans (by decide) hp | apply touches_ite

theorem State.sbRead_touches {m : Nat} {z s : State} (hz : Touches m z s) (hp : 0xCFFDFE6A &&& m = 0xCFFDFE6A)
    (count : ℕ) (a0 : BitVec 8) (a1 : BitVec 8) (a2 : BitVec 8) (k : ℕ) :
    Touches m z (State.sbRead s count a0 a1 a2 k) := by
  unfold State.sbRead
  with_reducible repeat' first
    | assumption | apply State.sbNack_touches | apply State.sbWake_touches | apply State.noteOff_touches
    | apply State.readWords_touches | apply State.sbAnswer_touches | apply State.bump_touches | exact mask_trans (by decide) hp
    | apply touches_ite | extract_lets

theorem State.sbReset_touches {m : Nat} {z s : State} (hz : Touches m z s) (hp : 0xCFFDFE62 &&& m = 0xCFFDFE62)
    (count : ℕ) (bytes : List (BitVec 8)) (pecOk : Bool) :
    Touches m z (State.sbReset s count bytes pecOk) := by
  unfold State.sbReset
  with_reducible repeat' first
    | assumption | apply State.sbNack_touches | apply State.sbPecError_touches | apply State.requestReset_touches
    | apply State.bump_touches | exact mask_trans (by decide) hp | apply touches_ite

theorem State.sbAra_touches {m : Nat} {z s : State} (hz : Touches m z s) (hp : 0x80000000 &&& m = 0x80000000) :
    Touches m z (State.sbAra s) := by
  unfold State.sbAra
  with_reducible repeat' first
    | assumption | apply State.sbAnswer_touches | exact mask_trans (by decide) hp | apply touches_ite

theorem State.sbTimeout_touches {m : Nat} {z s : State} (hz : Touches m z s) (hp : 0x22 &&& m = 0x22) :
    Touches m z (State.sbTimeout s) := by
  unfold State.sbTimeout
  with_reducible repeat' first
    | assumption | apply State.bump_touches | exact mask_trans (by decide) hp | apply touches_ite

theorem State.sbAbandon_touches {m : Nat} {z s : State} (hz : Touches m z s) (hp : 0xCFFDFE62 &&& m = 0xCFFDFE62) :
    Touches m z (State.sbAbandon s) := by
  unfold State.sbAbandon
  with_reducible repeat' first
    | assumption | apply State.raiseFault_touches | apply State.raiseInt_touches | apply State.bump_touches
    | exact mask_trans (by decide) hp | apply touches_ite

theorem State.sbRefused_touches {m : Nat} {z s : State} (hz : Touches m z s) (hp : 0x22 &&& m = 0x22) (code : ℕ) :
    Touches m z (State.sbRefused s code) := by
  unfold State.sbRefused
  with_reducible repeat' first
    | assumption | apply State.sbNack_touches | exact mask_trans (by decide) hp | apply touches_ite

/-! ### Machine/Tick -/

theorem State.aliveEdge_touches {m : Nat} {z s : State} (hz : Touches m z s) (hp : 0x2000 &&& m = 0x2000) :
    Touches m z (State.aliveEdge s) := by
  unfold State.aliveEdge
  with_reducible repeat' first
    | assumption | apply State.setRst_touches | exact mask_trans (by decide) hp | apply touches_ite | extract_lets

theorem State.storeKept_touches {m : Nat} {z s : State} (hz : Touches m z s) (hp : 0x80 &&& m = 0x80) (a : ℕ) :
    Touches m z (State.storeKept s a) := by
  unfold State.storeKept
  with_reducible repeat' first
    | assumption | apply State.store_touches | exact mask_trans (by decide) hp | apply touches_foldl | intro t a ht

theorem State.judgePairs_touches {m : Nat} {z s : State} (hz : Touches m z s) (hp : 0x2 &&& m = 0x2) (pg : ℕ) :
    Touches m z (State.judgePairs s pg) := by
  unfold State.judgePairs
  with_reducible repeat' first
    | assumption | apply State.put_touches | exact mask_trans (by decide) hp | apply touches_ite | apply touches_foldl
    | intro t a ht | extract_lets

theorem State.copyShadows_touches {m : Nat} {z s : State} (hz : Touches m z s) (hp : 0x82 &&& m = 0x82) (pg : ℕ) :
    Touches m z (State.copyShadows s pg) := by
  unfold State.copyShadows
  with_reducible repeat' first
    | assumption | apply State.storeKept_touches | apply State.put_touches | exact mask_trans (by decide) hp | apply touches_ite
    | apply touches_foldl | intro t a ht | split | extract_lets

theorem State.commitPage_touches {m : Nat} {z s : State} (hz : Touches m z s) (hp : 0x82 &&& m = 0x82) (pg : ℕ) :
    Touches m z (State.commitPage s pg) := by
  unfold State.commitPage
  with_reducible repeat' first
    | assumption | apply State.put_touches | apply State.judgePairs_touches | apply State.copyShadows_touches
    | exact mask_trans (by decide) hp

theorem State.commitAll_touches {m : Nat} {z s : State} (hz : Touches m z s) (hp : 0x82 &&& m = 0x82) :
    Touches m z (State.commitAll s) := by
  unfold State.commitAll
  with_reducible repeat' first
    | assumption | apply State.commitPage_touches | exact mask_trans (by decide) hp | apply touches_foldl | intro t a ht

theorem State.judgeTerrace_touches {m : Nat} {z s : State} (hz : Touches m z s) (hp : 0x2 &&& m = 0x2) :
    Touches m z (State.judgeTerrace s) := by
  unfold State.judgeTerrace
  with_reducible repeat' first
    | assumption | apply State.put_touches | exact mask_trans (by decide) hp | apply touches_ite

theorem State.takeWrites_touches {m : Nat} {z s : State} (hz : Touches m z s) (hp : 0x86 &&& m = 0x86) :
    Touches m z (State.takeWrites s) := by
  unfold State.takeWrites
  with_reducible repeat' first
    | assumption | apply State.storeKept_touches | apply State.refreshExpected_touches | apply State.setFill_touches
    | exact mask_trans (by decide) hp | apply touches_ite | apply touches_foldl | intro t a ht | extract_lets | apply touches_mk
    | exact Or.inl rfl | exact Or.inr (mask_bit hp (by decide)) | exact fun c => canon_same c rfl rfl rfl rfl

theorem State.takeBanks_touches {m : Nat} {z s : State} (hz : Touches m z s) (hp : 0xC058CC62 &&& m = 0xC058CC62) :
    Touches m z (State.takeBanks s) := by
  unfold State.takeBanks
  with_reducible repeat' first
    | assumption | apply State.rstrTick_touches | apply State.preemptMovers_touches | exact mask_trans (by decide) hp
    | apply touches_ite | extract_lets

theorem State.resetsDue_touches {m : Nat} {z s : State} (hz : Touches m z s) (hp : 0xCB7DDC62 &&& m = 0xCB7DDC62) :
    Touches m z (State.resetsDue s) := by
  unfold State.resetsDue
  with_reducible repeat' first
    | assumption | apply State.assertResets_touches | apply State.atolAbort_touches | apply State.svcFail_touches
    | exact mask_trans (by decide) hp | apply touches_ite | extract_lets

theorem State.countDrc_touches {m : Nat} {z s : State} (hz : Touches m z s) (hp : 0x22 &&& m = 0x22) (e : ℕ × ℕ × ℕ) :
    Touches m z (State.countDrc s e) := by
  unfold State.countDrc
  with_reducible repeat' first
    | assumption | apply State.bumpBy_touches | exact mask_trans (by decide) hp | apply touches_ite

theorem State.countStalls_touches {m : Nat} {z s : State} (hz : Touches m z s) (hp : 0x22 &&& m = 0x22) :
    Touches m z (State.countStalls s) := by
  unfold State.countStalls
  with_reducible repeat' first
    | assumption | apply State.bump_touches | exact mask_trans (by decide) hp | apply touches_ite | extract_lets

theorem State.classWork_touches {m : Nat} {z s : State} (hz : Touches m z s) (hp : 0xCFFFFE62 &&& m = 0xCFFFFE62)
    (w : TickWork) :
    Touches m z (State.classWork s w) := by
  unfold State.classWork
  with_reducible repeat' first
    | assumption | apply State.saveIslets_touches | apply State.levelTick_touches | apply State.passOverrun_touches
    | apply State.allotAll_touches | apply State.shadowTick_touches | apply State.foldSteps_touches
    | apply State.wearLevel_touches | apply State.retireAll_touches | apply State.relocSteps_touches
    | exact mask_trans (by decide) hp | apply touches_ite | apply touches_foldl | intro t a ht | extract_lets

theorem State.passWork_touches {m : Nat} {z s : State} (hz : Touches m z s) (hp : 0xEFFFFEE6 &&& m = 0xEFFFFEE6)
    (w : TickWork) :
    Touches m z (State.passWork s w) := by
  unfold State.passWork
  with_reducible repeat' first
    | assumption | apply State.alignTick_touches | apply State.bump64_touches | apply State.refreshArmed_touches
    | apply State.judgeTerrace_touches | apply State.takeWrites_touches | apply State.commitAll_touches
    | apply State.resetsDue_touches | apply State.injectAll_touches | apply State.takeBanks_touches
    | apply State.drainQueue_touches | apply State.flashTick_touches | apply State.scrubTick_touches
    | apply State.moverTick_touches | apply State.startChans_touches | apply State.classWork_touches
    | apply State.drainFill_touches | apply State.refreshHlk_touches | apply State.recTick_touches
    | apply State.countStalls_touches | apply State.countDrc_touches | exact mask_trans (by decide) hp | apply touches_ite
    | apply touches_foldl | intro t a ht | extract_lets

theorem State.countTime_touches {m : Nat} {z s : State} (hz : Touches m z s) (hp : 0x1002 &&& m = 0x1002) :
    Touches m z (State.countTime s) := by
  unfold State.countTime
  with_reducible repeat' first
    | assumption | apply State.countTenth_touches | apply State.countStay_touches | exact mask_trans (by decide) hp
    | apply touches_ite | extract_lets

theorem State.passTick_touches {m : Nat} {z s : State} (hz : Touches m z s) (hp : 0xEFFFFEF6 &&& m = 0xEFFFFEF6) (w : TickWork) :
    Touches m z (State.passTick s w) := by
  have h : Touches m z { s with now := s.now + 1 } := touches_now hz (mask_trans (by decide) hp) _
  exact State.countTime_touches (touches_ite (State.passWork_touches h (mask_trans (by decide) hp) w) h)
    (mask_trans (by decide) hp)

/-! ### Machine/Outcomes -/

theorem State.glenWdog_touches {m : Nat} {z s : State} (hz : Touches m z s) (hp : 0xCFFDFE62 &&& m = 0xCFFDFE62)
    (k : ℕ) (cycle : ℕ) :
    Touches m z (State.glenWdog s k cycle) := by
  unfold State.glenWdog
  with_reducible repeat' first
    | assumption | apply State.detectFault_touches | exact mask_trans (by decide) hp | apply touches_ite

theorem State.blockEvent_touches {m : Nat} {z s : State} (hz : Touches m z s) (hp : 0x80005C22 &&& m = 0x80005C22)
    (b : ℕ) (code : ℕ) (coincident : Bool) (detail : List Word) :
    Touches m z (State.blockEvent s b code coincident detail) := by
  unfold State.blockEvent
  with_reducible repeat' first
    | assumption | apply State.recEvent_touches | exact mask_trans (by decide) hp | apply touches_ite

theorem State.lookupDone_touches {m : Nat} {z s : State} (hz : Touches m z s) (hp : 0x8002 &&& m = 0x8002) :
    Touches m z (State.lookupDone s) := by
  unfold State.lookupDone
  with_reducible repeat' first
    | assumption | apply State.endLookup_touches | exact mask_trans (by decide) hp | apply touches_ite | split

theorem State.imageDetected_touches {m : Nat} {z s : State} (hz : Touches m z s) (hp : 0xCFFFFF62 &&& m = 0xCFFFFF62)
    (f : Found) :
    Touches m z (State.imageDetected s f) := by
  unfold State.imageDetected
  with_reducible repeat' first
    | assumption | apply State.detect_touches | apply State.finishErase_touches | apply State.reportImage_touches
    | apply State.knownFailures_touches | exact mask_trans (by decide) hp | apply touches_ite | extract_lets

theorem State.loadEnded_touches {m : Nat} {z s : State} (hz : Touches m z s) (hp : 0xC07EEC62 &&& m = 0xC07EEC62) :
    Touches m z (State.loadEnded s) := by
  unfold State.loadEnded
  with_reducible repeat' first
    | assumption | apply State.metadataLoaded_touches | apply State.preemptMovers_touches | exact mask_trans (by decide) hp
    | apply touches_ite | extract_lets

theorem State.forgetDefects_touches {m : Nat} {z s : State} (hz : Touches m z s) (hp : 0x40000 &&& m = 0x40000) :
    Touches m z (State.forgetDefects s) := by
  unfold State.forgetDefects
  with_reducible repeat' first
    | assumption | apply State.setFarr_touches | exact mask_trans (by decide) hp | apply touches_ite | extract_lets

theorem State.wipeDone_touches {m : Nat} {z s : State} (hz : Touches m z s) (hp : 0x6FFDFFEE &&& m = 0x6FFDFFEE) :
    Touches m z (State.wipeDone s) := by
  unfold State.wipeDone
  with_reducible repeat' first
    | assumption | apply State.deviceReset_touches | apply State.drawn_touches | apply State.forgetDefects_touches
    | apply State.recRange_touches | apply State.wiped_touches | exact mask_trans (by decide) hp | apply touches_ite

/-! ### Machine/Mailbox -/

theorem State.refuse_touches {m : Nat} {z s : State} (hz : Touches m z s) (code : ℕ) : Touches m z (State.refuse s code).1 := by
  unfold State.refuse
  with_reducible repeat' first
    | assumption

theorem State.success_touches {m : Nat} {z s : State} (hz : Touches m z s) (payload : List (BitVec 8)) :
    Touches m z (State.success s payload).1 := by
  unfold State.success
  with_reducible repeat' first
    | assumption

theorem State.mailbox_touches {m : Nat} {z s : State} (hz : Touches m z s) (hp : 0x80000000 &&& m = 0x80000000)
    (f : State → Reply) (hf : ∀ t, Touches m z t → Touches m z (f t).1) :
    Touches m z (State.mailbox s f) := by
  unfold State.mailbox
  with_reducible repeat' first
    | assumption | apply State.vector0_touches | apply State.send_touches | exact mask_trans (by decide) hp | apply touches_ite
    | apply hf

theorem State.getEvents_touches {m : Nat} {z s : State} (hz : Touches m z s) (hp : 0x20 &&& m = 0x20) (l : ℕ) :
    Touches m z (State.getEvents s l).1 := by
  unfold State.getEvents
  with_reducible repeat' first
    | assumption | apply State.refuse_touches | apply State.success_touches | apply State.drawn_touches
    | exact mask_trans (by decide) hp | apply touches_ite | apply touches_ite_fst | extract_lets

theorem State.keepEvents_touches {m : Nat} {z s : State} (hz : Touches m z s) (hp : 0x4000000 &&& m = 0x4000000)
    (l : ℕ) (left : List CxlEvent) :
    Touches m z (State.keepEvents s l left) := by
  unfold State.keepEvents
  with_reducible repeat' first
    | assumption | apply State.setMbox_touches | exact mask_trans (by decide) hp | extract_lets

theorem State.clearEvents_touches {m : Nat} {z s : State} (hz : Touches m z s) (hp : 0x4000000 &&& m = 0x4000000)
    (l : ℕ) (every : Bool) (handles : List ℕ) :
    Touches m z (State.clearEvents s l every handles).1 := by
  unfold State.clearEvents
  with_reducible repeat' first
    | assumption | apply State.refuse_touches | apply State.success_touches | apply State.keepEvents_touches
    | exact mask_trans (by decide) hp | apply touches_ite | apply touches_ite_fst | extract_lets

theorem State.getPolicy_touches {m : Nat} {z s : State} (hz : Touches m z s) : Touches m z (State.getPolicy s).1 := by
  unfold State.getPolicy
  with_reducible repeat' first
    | assumption | apply State.success_touches

theorem State.setPolicy_touches {m : Nat} {z s : State} (hz : Touches m z s) (hp : 0x4000000 &&& m = 0x4000000)
    (modes : List ℕ) :
    Touches m z (State.setPolicy s modes).1 := by
  unfold State.setPolicy
  with_reducible repeat' first
    | assumption | apply State.success_touches | apply State.setMbox_touches | apply State.refuse_touches
    | exact mask_trans (by decide) hp | apply touches_ite | apply touches_ite_fst | extract_lets

theorem State.getStamp_touches {m : Nat} {z s : State} (hz : Touches m z s) : Touches m z (State.getStamp s).1 := by
  unfold State.getStamp
  with_reducible repeat' first
    | assumption | apply State.success_touches

theorem State.setStamp_touches {m : Nat} {z s : State} (hz : Touches m z s) (hp : 0x4000000 &&& m = 0x4000000) (ns : ℕ) :
    Touches m z (State.setStamp s ns).1 := by
  unfold State.setStamp
  with_reducible repeat' first
    | assumption | apply State.success_touches | apply State.setMbox_touches | exact mask_trans (by decide) hp | extract_lets

theorem State.fwInfo_touches {m : Nat} {z s : State} (hz : Touches m z s) (hp : 0x20 &&& m = 0x20) :
    Touches m z (State.fwInfo s).1 := by
  unfold State.fwInfo
  with_reducible repeat' first
    | assumption | apply State.success_touches | apply State.drawn_touches | exact mask_trans (by decide) hp | apply touches_ite
    | apply touches_ite_fst | extract_lets

theorem State.supportedLogs_touches {m : Nat} {z s : State} (hz : Touches m z s) : Touches m z (State.supportedLogs s).1 := by
  unfold State.supportedLogs
  with_reducible repeat' first
    | assumption | apply State.success_touches

theorem State.getLog_touches {m : Nat} {z s : State} (hz : Touches m z s) (uuid : List (BitVec 8)) (offset : ℕ) (length : ℕ) :
    Touches m z (State.getLog s uuid offset length).1 := by
  unfold State.getLog
  with_reducible repeat' first
    | assumption | apply State.success_touches | apply State.refuse_touches | apply touches_ite | apply touches_ite_fst

theorem State.unsupported_touches {m : Nat} {z s : State} (hz : Touches m z s) : Touches m z (State.unsupported s).1 := by
  unfold State.unsupported
  with_reducible repeat' first
    | assumption | apply State.refuse_touches

theorem State.identify_touches {m : Nat} {z s : State} (hz : Touches m z s) (hp : 0x20 &&& m = 0x20) :
    Touches m z (State.identify s).1 := by
  unfold State.identify
  with_reducible repeat' first
    | assumption | apply State.refuse_touches | apply State.success_touches | apply State.drawn_touches
    | exact mask_trans (by decide) hp | apply touches_ite | apply touches_ite_fst | extract_lets

theorem State.health_touches {m : Nat} {z s : State} (hz : Touches m z s) (hp : 0x20 &&& m = 0x20) :
    Touches m z (State.health s).1 := by
  unfold State.health
  with_reducible repeat' first
    | assumption | apply State.success_touches | apply State.drawn_touches | exact mask_trans (by decide) hp | apply touches_ite
    | apply touches_ite_fst

theorem State.getAlert_touches {m : Nat} {z s : State} (hz : Touches m z s) : Touches m z (State.getAlert s).1 := by
  unfold State.getAlert
  with_reducible repeat' first
    | assumption | apply State.success_touches

theorem State.setAlert_touches {m : Nat} {z s : State} (hz : Touches m z s) (hp : 0x4000000 &&& m = 0x4000000)
    (cfg : List (BitVec 8)) :
    Touches m z (State.setAlert s cfg).1 := by
  unfold State.setAlert
  with_reducible repeat' first
    | assumption | apply State.success_touches | apply State.setMbox_touches | apply State.refuse_touches
    | exact mask_trans (by decide) hp | apply touches_ite | apply touches_ite_fst | extract_lets

theorem State.getShutdown_touches {m : Nat} {z s : State} (hz : Touches m z s) : Touches m z (State.getShutdown s).1 := by
  unfold State.getShutdown
  with_reducible repeat' first
    | assumption | apply State.success_touches

theorem State.setShutdown_touches {m : Nat} {z s : State} (hz : Touches m z s) (hp : 0x100 &&& m = 0x100) (v : ℕ) :
    Touches m z (State.setShutdown s v).1 := by
  unfold State.setShutdown
  with_reducible repeat' first
    | assumption | exact fun c => (hz.canon c).older | apply State.success_touches | apply State.setKept_touches
    | exact mask_trans (by decide) hp | extract_lets

theorem State.getPoison_touches {m : Nat} {z s : State} (hz : Touches m z s) (hp : 0x4000000 &&& m = 0x4000000)
    (dpa : ℕ) (len : ℕ) :
    Touches m z (State.getPoison s dpa len).1 := by
  unfold State.getPoison
  with_reducible repeat' first
    | assumption | apply State.refuse_touches | apply State.setMbox_touches | apply State.success_touches
    | exact mask_trans (by decide) hp | apply touches_ite | apply touches_ite_fst | extract_lets

theorem State.ownWrite_touches {m : Nat} {z s : State} (hz : Touches m z s) (hp : 0xC470CC62 &&& m = 0xC470CC62)
    (line : ℕ) (data : LineData) (poison : Bool) :
    Touches m z (State.ownWrite s line data poison) := by
  unfold State.ownWrite
  with_reducible repeat' first
    | assumption | apply State.arrive_touches | apply State.setHlk_touches | exact mask_trans (by decide) hp | extract_lets

theorem State.injectPoison_touches {m : Nat} {z s : State} (hz : Touches m z s) (hp : 0xC470CC62 &&& m = 0xC470CC62) (dpa : ℕ) :
    Touches m z (State.injectPoison s dpa).1 := by
  unfold State.injectPoison
  with_reducible repeat' first
    | assumption | apply State.refuse_touches | apply State.success_touches | apply State.ownWrite_touches
    | apply State.drawn_touches | exact mask_trans (by decide) hp | apply touches_ite | apply touches_ite_fst

theorem State.clearPoison_touches {m : Nat} {z s : State} (hz : Touches m z s) (hp : 0xC470CC62 &&& m = 0xC470CC62)
    (dpa : ℕ) (data : LineData) :
    Touches m z (State.clearPoison s dpa data).1 := by
  unfold State.clearPoison
  with_reducible repeat' first
    | assumption | apply State.refuse_touches | apply State.success_touches | apply State.ownWrite_touches
    | exact mask_trans (by decide) hp | apply touches_ite | apply touches_ite_fst

theorem State.sanitize_touches {m : Nat} {z s : State} (hz : Touches m z s) (hp : 0x4000100 &&& m = 0x4000100) :
    Touches m z (State.sanitize s).1 := by
  unfold State.sanitize
  with_reducible repeat' first
    | assumption | exact fun c => (hz.canon c).older | apply State.refuse_touches | apply State.setKept_touches
    | apply State.setMbox_touches | exact mask_trans (by decide) hp | apply touches_ite | apply touches_ite_fst | extract_lets

theorem State.backgroundEnds_touches {m : Nat} {z s : State} (hz : Touches m z s) (hp : 0x84000000 &&& m = 0x84000000) :
    Touches m z (State.backgroundEnds s) := by
  unfold State.backgroundEnds
  with_reducible repeat' first
    | assumption | apply State.vector0_touches | apply State.setMbox_touches | exact mask_trans (by decide) hp | extract_lets

theorem State.arrayErased_touches {m : Nat} {z s : State} (hz : Touches m z s) (hp : 0xCFFFFE62 &&& m = 0xCFFFFE62) :
    Touches m z (State.arrayErased s) := by
  unfold State.arrayErased
  with_reducible repeat' first
    | assumption | apply State.drawn_touches | apply State.eraseArray_touches | exact mask_trans (by decide) hp

theorem State.sanitizeDone_touches {m : Nat} {z s : State} (hz : Touches m z s) (hp : 0xCFFFFF62 &&& m = 0xCFFFFF62) :
    Touches m z (State.sanitizeDone s) := by
  unfold State.sanitizeDone
  with_reducible repeat' first
    | assumption | exact fun c => (hz.canon c).older | apply State.backgroundEnds_touches | apply State.setKept_touches
    | apply State.arrayErased_touches | exact mask_trans (by decide) hp | apply touches_ite | extract_lets
    | exact fun c => (Touches.canon (m := m) (State.arrayErased_touches hz (mask_trans (by decide) hp)) c).older

theorem State.format_touches {m : Nat} {z s : State} (hz : Touches m z s) (hp : 0x4000100 &&& m = 0x4000100)
    (confirm : ℕ) (flags : ℕ) (tag : ℕ) (size : ℕ) :
    Touches m z (State.format s confirm flags tag size).1 := by
  unfold State.format
  with_reducible repeat' first
    | assumption | exact fun c => (hz.canon c).older | apply State.refuse_touches | apply State.setKept_touches
    | apply State.setMbox_touches | exact mask_trans (by decide) hp | apply touches_ite | apply touches_ite_fst | extract_lets

theorem State.formatDone_touches {m : Nat} {z s : State} (hz : Touches m z s) (hp : 0xCFFFFE62 &&& m = 0xCFFFFE62) :
    Touches m z (State.formatDone s) := by
  unfold State.formatDone
  with_reducible repeat' first
    | assumption | apply State.backgroundEnds_touches | apply State.arrayErased_touches | exact mask_trans (by decide) hp
    | apply touches_ite

theorem State.barrierPost_touches {m : Nat} {z s : State} (hz : Touches m z s) (hp : 0x8000CC02 &&& m = 0x8000CC02) (tag : ℕ) :
    Touches m z (State.barrierPost s tag).1 := by
  unfold State.barrierPost
  with_reducible repeat' first
    | assumption | apply State.refuse_touches | apply State.postBarrier_touches | apply State.success_touches
    | exact mask_trans (by decide) hp | apply touches_ite | apply touches_ite_fst | split | extract_lets

theorem State.barrierStatus_touches {m : Nat} {z s : State} (hz : Touches m z s) (seq : ℕ) :
    Touches m z (State.barrierStatus s seq).1 := by
  unfold State.barrierStatus
  with_reducible repeat' first
    | assumption | apply State.success_touches | apply touches_ite | apply touches_ite_fst | split | extract_lets

theorem State.budgetQuery_touches {m : Nat} {z s : State} (hz : Touches m z s) : Touches m z (State.budgetQuery s).1 := by
  unfold State.budgetQuery
  with_reducible repeat' first
    | assumption | apply State.success_touches | extract_lets

theorem State.imageStatus_touches {m : Nat} {z s : State} (hz : Touches m z s) : Touches m z (State.imageStatus s).1 := by
  unfold State.imageStatus
  with_reducible repeat' first
    | assumption | apply State.success_touches | apply touches_ite | apply touches_ite_fst | extract_lets

theorem State.cascadeStatus_touches {m : Nat} {z s : State} (hz : Touches m z s) : Touches m z (State.cascadeStatus s).1 := by
  unfold State.cascadeStatus
  with_reducible repeat' first
    | assumption | apply State.success_touches | apply touches_ite | apply touches_ite_fst | extract_lets

theorem State.keyBegin_touches {m : Nat} {z s : State} (hz : Touches m z s) (hp : 0x4000000 &&& m = 0x4000000) :
    Touches m z (State.keyBegin s).1 := by
  unfold State.keyBegin
  with_reducible repeat' first
    | assumption | apply State.success_touches | apply State.setMbox_touches | exact mask_trans (by decide) hp | extract_lets

theorem State.keyExport_touches {m : Nat} {z s : State} (hz : Touches m z s) (hp : 0x4000000 &&& m = 0x4000000)
    (slot : ℕ) (receiver : ℕ) :
    Touches m z (State.keyExport s slot receiver).1 := by
  unfold State.keyExport
  with_reducible repeat' first
    | assumption | apply State.refuse_touches | apply State.success_touches | apply State.setMbox_touches
    | exact mask_trans (by decide) hp | apply touches_ite | apply touches_ite_fst | split | extract_lets

theorem State.keyImport_touches {m : Nat} {z s : State} (hz : Touches m z s) (hp : 0x4000100 &&& m = 0x4000100)
    (sender : ℕ) (keyId : ℕ) (wrapped : ℕ) :
    Touches m z (State.keyImport s sender keyId wrapped).1 := by
  unfold State.keyImport
  with_reducible repeat' first
    | assumption | exact fun c => (hz.canon c).older | apply State.refuse_touches | apply State.setMbox_touches
    | apply State.success_touches | apply State.setKept_touches | exact mask_trans (by decide) hp | split | extract_lets
    | exact fun c => (Touches.canon (m := m) (State.setMbox_touches hz (mask_trans (by decide) hp) _) c).older

end Sys2Proof.Machine
end

