-- ==== Sys2Proof/Laws/TouchesExec.lean ====
section
/-! SUPPORT. What each command can do: where `exec` answers a next state, the parts of the state it can touch, and that the
canonical form is kept. -/

set_option linter.unreachableTactic false
set_option linter.unusedTactic false
set_option linter.unusedVariables false

namespace Sys2Proof.Machine

theorem execPassTick_touches (w : TickWork) {s t : State} (h : execPassTick w s = .next t) : Touches 0xEFFFFEF6 s t := by
  unfold execPassTick at h
  cases h
  have hz := touches_refl 0xEFFFFEF6 s
  with_reducible repeat' first
    | assumption | apply State.passTick_touches | decide | intro t ht | extract_lets

theorem execAliveEdge_touches {s t : State} (h : execAliveEdge s = .next t) : Touches 0x2000 s t := by
  unfold execAliveEdge at h
  cases h
  have hz := touches_refl 0x2000 s
  with_reducible repeat' first
    | assumption | apply State.aliveEdge_touches | decide | intro t ht | extract_lets

theorem execMastershipTakeover_touches (late : Bool) {s t : State} (h : execMastershipTakeover late s = .next t) : Touches
    0x8090CC02 s t := by
  unfold execMastershipTakeover at h
  cases h
  have hz := touches_refl 0x8090CC02 s
  with_reducible repeat' first
    | assumption | apply State.takeMastership_touches | decide | intro t ht | extract_lets

theorem execStraitPortTrained_touches (port : ℕ) (partner : ℕ) (ring : Bool) {s t : State} (h : execStraitPortTrained port
    partner ring s = .next t) : Touches 0xCFFDFE62 s t := by
  unfold execStraitPortTrained at h
  cases h
  have hz := touches_refl 0xCFFDFE62 s
  with_reducible repeat' first
    | assumption | apply State.portTrained_touches | decide | intro t ht | extract_lets

theorem execCensusDone_touches {s t : State} (h : execCensusDone s = .next t) : Touches 0x800002 s t := by
  unfold execCensusDone at h
  cases h
  have hz := touches_refl 0x800002 s
  with_reducible repeat' first
    | assumption | apply State.censusEnds_touches | decide | intro t ht | extract_lets

theorem execMasterElection_touches {s t : State} (h : execMasterElection s = .next t) : Touches 0x800002 s t := by
  unfold execMasterElection at h
  cases h
  have hz := touches_refl 0x800002 s
  with_reducible repeat' first
    | assumption | apply State.electMaster_touches | decide | intro t ht | extract_lets

theorem execStraitPeriodicSend_touches (k : Periodic) {s t : State} (h : execStraitPeriodicSend k s = .next t) : Touches
    0x80800002 s t := by
  unfold execStraitPeriodicSend at h
  cases h
  have hz := touches_refl 0x80800002 s
  with_reducible repeat' first
    | assumption | apply State.sendPeriodic_touches | decide | intro t ht | extract_lets

theorem execStraitFrameBad_touches (mine : Bool) {s t : State} (h : execStraitFrameBad mine s = .next t) : Touches 0x22 s t :=
    by
  unfold execStraitFrameBad at h
  cases h
  have hz := touches_refl 0x22 s
  with_reducible repeat' first
    | assumption | apply State.frameBad_touches | decide | intro t ht | extract_lets

theorem execHeartbeat_touches (h1 : FrameHdr) (payload : List (BitVec 8)) {s t : State} (h : execHeartbeat h1 payload s =
    .next t) : Touches 0x80814C22 s t := by
  unfold execHeartbeat at h
  cases h
  have hz := touches_refl 0x80814C22 s
  with_reducible repeat' first
    | assumption | apply State.onHeartbeat_touches | decide | intro t ht | extract_lets

theorem execProbe_touches (h1 : FrameHdr) (turn : ℕ) {s t : State} (h : execProbe h1 turn s = .next t) : Touches 0x80814C22 s
    t := by
  unfold execProbe at h
  cases h
  have hz := touches_refl 0x80814C22 s
  with_reducible repeat' first
    | assumption | apply State.onProbe_touches | decide | intro t ht | extract_lets

theorem execEcho_touches (h1 : FrameHdr) (payload : List (BitVec 8)) (trip : ℕ) {s t : State} (h : execEcho h1 payload trip s
    = .next t) : Touches 0x80814C22 s t := by
  unfold execEcho at h
  cases h
  have hz := touches_refl 0x80814C22 s
  with_reducible repeat' first
    | assumption | apply State.onEcho_touches | decide | intro t ht | extract_lets

theorem execTickSync_touches (h1 : FrameHdr) (payload : List (BitVec 8)) (offset : ℤ) (lag : ℕ) (residence : ℕ) {s t : State}
    (h : execTickSync h1 payload offset lag residence s = .next t) : Touches 0xCFFDFE62 s t := by
  unfold execTickSync at h
  cases h
  have hz := touches_refl 0xCFFDFE62 s
  with_reducible repeat' first
    | assumption | apply State.onTickSync_touches | decide | intro t ht | extract_lets

theorem execMemberInfo_touches (h1 : FrameHdr) (payload : List (BitVec 8)) {s t : State} (h : execMemberInfo h1 payload s =
    .next t) : Touches 0x80814C22 s t := by
  unfold execMemberInfo at h
  cases h
  have hz := touches_refl 0x80814C22 s
  with_reducible repeat' first
    | assumption | apply State.onInfo_touches | decide | intro t ht | extract_lets

theorem execShare_touches (h1 : FrameHdr) (payload : List (BitVec 8)) {s t : State} (h : execShare h1 payload s = .next t) :
    Touches 0x8081CC22 s t := by
  unfold execShare at h
  cases h
  have hz := touches_refl 0x8081CC22 s
  with_reducible repeat' first
    | assumption | apply State.onShare_touches | decide | intro t ht | extract_lets

theorem execTailDone_touches (h1 : FrameHdr) (payload : List (BitVec 8)) {s t : State} (h : execTailDone h1 payload s = .next
    t) : Touches 0x80814C22 s t := by
  unfold execTailDone at h
  cases h
  have hz := touches_refl 0x80814C22 s
  with_reducible repeat' first
    | assumption | apply State.onTailDone_touches | decide | intro t ht | extract_lets

theorem execCloseIssue_touches {s t : State} (h : execCloseIssue s = .next t) : Touches 0x8080CC02 s t := by
  unfold execCloseIssue at h
  cases h
  have hz := touches_refl 0x8080CC02 s
  with_reducible repeat' first
    | assumption | apply State.issueClose_touches | decide | intro t ht | extract_lets

theorem execClose_touches (h1 : FrameHdr) (payload : List (BitVec 8)) {s t : State} (h : execClose h1 payload s = .next t) :
    Touches 0x8081CC22 s t := by
  unfold execClose at h
  cases h
  have hz := touches_refl 0x8081CC22 s
  with_reducible repeat' first
    | assumption | apply State.onClose_touches | decide | intro t ht | extract_lets

theorem execSealedFrame_touches (h1 : FrameHdr) (payload : List (BitVec 8)) {s t : State} (h : execSealedFrame h1 payload s =
    .next t) : Touches 0x80814C22 s t := by
  unfold execSealedFrame at h
  cases h
  have hz := touches_refl 0x80814C22 s
  with_reducible repeat' first
    | assumption | apply State.onSealed_touches | decide | intro t ht | extract_lets

theorem execGroupSealed_touches (h1 : FrameHdr) (payload : List (BitVec 8)) {s t : State} (h : execGroupSealed h1 payload s =
    .next t) : Touches 0x80814C22 s t := by
  unfold execGroupSealed at h
  cases h
  have hz := touches_refl 0x80814C22 s
  with_reducible repeat' first
    | assumption | apply State.onGroupSealed_touches | decide | intro t ht | extract_lets

theorem execStraitSave_touches (h1 : FrameHdr) {s t : State} (h : execStraitSave h1 s = .next t) : Touches 0xCFFDFC62 s t :=
    by
  unfold execStraitSave at h
  cases h
  have hz := touches_refl 0xCFFDFC62 s
  with_reducible repeat' first
    | assumption | apply State.onSave_touches | decide | intro t ht | extract_lets

theorem execSaveStart_touches (h1 : FrameHdr) (payload : List (BitVec 8)) {s t : State} (h : execSaveStart h1 payload s =
    .next t) : Touches 0x80814C22 s t := by
  unfold execSaveStart at h
  cases h
  have hz := touches_refl 0x80814C22 s
  with_reducible repeat' first
    | assumption | apply State.onSaveStart_touches | decide | intro t ht | extract_lets

theorem execSaveEnd_touches (h1 : FrameHdr) (payload : List (BitVec 8)) {s t : State} (h : execSaveEnd h1 payload s = .next t)
    : Touches 0x80814C22 s t := by
  unfold execSaveEnd at h
  cases h
  have hz := touches_refl 0x80814C22 s
  with_reducible repeat' first
    | assumption | apply State.onSaveEnd_touches | decide | intro t ht | extract_lets

theorem execImageStatusFrame_touches (h1 : FrameHdr) (payload : List (BitVec 8)) {s t : State} (h : execImageStatusFrame h1
    payload s = .next t) : Touches 0xCFFDFF62 s t := by
  unfold execImageStatusFrame at h
  cases h
  have hz := touches_refl 0xCFFDFF62 s
  with_reducible repeat' first
    | assumption | apply State.onStatus_touches | decide | intro t ht | extract_lets

theorem execGroupPoint_touches (h1 : FrameHdr) (payload : List (BitVec 8)) {s t : State} (h : execGroupPoint h1 payload s =
    .next t) : Touches 0xCFFDFF62 s t := by
  unfold execGroupPoint at h
  cases h
  have hz := touches_refl 0xCFFDFF62 s
  with_reducible repeat' first
    | assumption | apply State.onPoint_touches | decide | intro t ht | extract_lets

theorem execMasterClaim_touches (h1 : FrameHdr) (payload : List (BitVec 8)) {s t : State} (h : execMasterClaim h1 payload s =
    .next t) : Touches 0x80814C22 s t := by
  unfold execMasterClaim at h
  cases h
  have hz := touches_refl 0x80814C22 s
  with_reducible repeat' first
    | assumption | apply State.onClaim_touches | decide | intro t ht | extract_lets

theorem execEventFrame_touches (h1 : FrameHdr) (payload : List (BitVec 8)) {s t : State} (h : execEventFrame h1 payload s =
    .next t) : Touches 0x80894C22 s t := by
  unfold execEventFrame at h
  cases h
  have hz := touches_refl 0x80894C22 s
  with_reducible repeat' first
    | assumption | apply State.onEvent_touches | decide | intro t ht | extract_lets

theorem execPeerSilent_touches (d : ℕ) (late : Bool) {s t : State} (h : execPeerSilent d late s = .next t) : Touches
    0x80014C22 s t := by
  unfold execPeerSilent at h
  cases h
  have hz := touches_refl 0x80014C22 s
  with_reducible repeat' first
    | assumption | apply State.peerSilent_touches | decide | intro t ht | extract_lets

theorem execStrtRetrain_touches (p : Port) {s t : State} (h : execStrtRetrain p s = .next t) : Touches 0xE7FDFE6E s t := by
  unfold execStrtRetrain at h
  cases h
  have hz := touches_refl 0xE7FDFE6E s
  with_reducible repeat' first
    | assumption | apply State.portBits_touches | decide | intro t ht | extract_lets

theorem execPortDown_touches (port : ℕ) {s t : State} (h : execPortDown port s = .next t) : Touches 0xCFFDFE62 s t := by
  unfold execPortDown at h
  cases h
  have hz := touches_refl 0xCFFDFE62 s
  with_reducible repeat' first
    | assumption | apply State.portDown_touches | decide | intro t ht | extract_lets

theorem execShareTimeout_touches {s t : State} (h : execShareTimeout s = .next t) : Touches 0x10000 s t := by
  unfold execShareTimeout at h
  cases h
  have hz := touches_refl 0x10000 s
  with_reducible repeat' first
    | assumption | apply State.shareTimeout_touches | decide | intro t ht | extract_lets

theorem execUnlistedFrameType_touches (h1 : FrameHdr) {s t : State} (h : execUnlistedFrameType h1 s = .next t) : Touches 0x22
    s t := by
  unfold execUnlistedFrameType at h
  cases h
  have hz := touches_refl 0x22 s
  with_reducible repeat' first
    | assumption | apply State.frameUnlisted_touches | decide | intro t ht | extract_lets

theorem execRegisterWrite_touches (p : Port) (addr : ℕ) (mask : ℕ) (data : Word) {s t : State} (h : execRegisterWrite p addr
    mask data s = .next t) : Touches 0xE7FDFE6E s t := by
  unfold execRegisterWrite at h
  cases h
  have hz := touches_refl 0xE7FDFE6E s
  with_reducible repeat' first
    | assumption | apply State.portWrite_touches | decide | intro t ht | extract_lets

theorem execCounterLoRead_touches (p : Port) (addr : ℕ) {s t : State} (h : execCounterLoRead p addr s = .next t) : Touches
    0xCFFDFE6A s t := by
  unfold execCounterLoRead at h
  cases h
  have hz := touches_refl 0xCFFDFE6A s
  with_reducible repeat' first
    | assumption | apply State.portRead_touches | decide | intro t ht | extract_lets

theorem execRcRead_touches (p : Port) (addr : ℕ) {s t : State} (h : execRcRead p addr s = .next t) : Touches 0xCFFDFE6A s t :=
    by
  unfold execRcRead at h
  cases h
  have hz := touches_refl 0xCFFDFE6A s
  with_reducible repeat' first
    | assumption | apply State.portRead_touches | decide | intro t ht | extract_lets

theorem execSemClaim_touches (n : ℕ) (readers : List Port) {s t : State} (h : execSemClaim n readers s = .next t) : Touches
    0x80000202 s t := by
  unfold execSemClaim at h
  cases h
  have hz := touches_refl 0x80000202 s
  with_reducible repeat' first
    | assumption | apply State.semClaim_touches | decide | intro t ht | extract_lets

theorem execSemRelease_touches (p : Port) (n : ℕ) (owner : ℕ) {s t : State} (h : execSemRelease p n owner s = .next t) :
    Touches 0xE7FDFE6E s t := by
  unfold execSemRelease at h
  cases h
  have hz := touches_refl 0xE7FDFE6E s
  with_reducible repeat' first
    | assumption | apply State.portWord_touches | decide | intro t ht | extract_lets

theorem execSemBreak_touches (p : Port) (n : ℕ) (owner : ℕ) {s t : State} (h : execSemBreak p n owner s = .next t) : Touches
    0xE7FDFE6E s t := by
  unfold execSemBreak at h
  cases h
  have hz := touches_refl 0xE7FDFE6E s
  with_reducible repeat' first
    | assumption | apply State.portWord_touches | decide | intro t ht | extract_lets

theorem execSemLeaseExpiry_touches (n : ℕ) {s t : State} (h : execSemLeaseExpiry n s = .next t) : Touches 0x200 s t := by
  unfold execSemLeaseExpiry at h
  cases h
  have hz := touches_refl 0x200 s
  with_reducible repeat' first
    | assumption | apply State.leaseExpired_touches | decide | intro t ht | extract_lets

theorem execShadowArm_touches (p : Port) (page : ℕ) {s t : State} (h : execShadowArm p page s = .next t) : Touches 0xE7FDFE6E
    s t := by
  unfold execShadowArm at h
  cases h
  have hz := touches_refl 0xE7FDFE6E s
  with_reducible repeat' first
    | assumption | apply State.portBits_touches | decide | intro t ht | extract_lets

theorem execShadowDiscard_touches (p : Port) (page : ℕ) {s t : State} (h : execShadowDiscard p page s = .next t) : Touches
    0xE7FDFE6E s t := by
  unfold execShadowDiscard at h
  cases h
  have hz := touches_refl 0xE7FDFE6E s
  with_reducible repeat' first
    | assumption | apply State.portBits_touches | decide | intro t ht | extract_lets

theorem execSoftRst_touches (p : Port) (page : ℕ) {s t : State} (h : execSoftRst p page s = .next t) : Touches 0xE7FDFE6E s t
    := by
  unfold execSoftRst at h
  cases h
  have hz := touches_refl 0xE7FDFE6E s
  with_reducible repeat' first
    | assumption | apply State.portBits_touches | decide | intro t ht | extract_lets

theorem execClkGate_touches (p : Port) (page : ℕ) (on : Bool) {s t : State} (h : execClkGate p page on s = .next t) : Touches
    0xE7FDFE6E s t := by
  unfold execClkGate at h
  cases h
  have hz := touches_refl 0xE7FDFE6E s
  with_reducible repeat' first
    | assumption | apply State.portBits_touches | decide | intro t ht | extract_lets

theorem execPageEn_touches (p : Port) (page : ℕ) (on : Bool) {s t : State} (h : execPageEn p page on s = .next t) : Touches
    0xE7FDFE6E s t := by
  unfold execPageEn at h
  cases h
  have hz := touches_refl 0xE7FDFE6E s
  with_reducible repeat' first
    | assumption | apply State.portBits_touches | decide | intro t ht | extract_lets

theorem execIntForce_touches (p : Port) (page : ℕ) (causes : Word) {s t : State} (h : execIntForce p page causes s = .next t)
    : Touches 0xE7FDFE6E s t := by
  unfold execIntForce at h
  cases h
  have hz := touches_refl 0xE7FDFE6E s
  with_reducible repeat' first
    | assumption | apply State.portWord_touches | decide | intro t ht | extract_lets

theorem execErrForce_touches (p : Port) (page : ℕ) (sources : Word) {s t : State} (h : execErrForce p page sources s = .next
    t) : Touches 0xE7FDFE6E s t := by
  unfold execErrForce at h
  cases h
  have hz := touches_refl 0xE7FDFE6E s
  with_reducible repeat' first
    | assumption | apply State.portWord_touches | decide | intro t ht | extract_lets

theorem execMgpEoi_touches (p : Port) (v : ℕ) {s t : State} (h : execMgpEoi p v s = .next t) : Touches 0xE7FDFE6E s t := by
  unfold execMgpEoi at h
  cases h
  have hz := touches_refl 0xE7FDFE6E s
  with_reducible repeat' first
    | assumption | apply State.portWord_touches | decide | intro t ht | extract_lets

theorem execMsixHeldSend_touches {s t : State} (h : execMsixHeldSend s = .next t) : Touches 0x80000400 s t := by
  unfold execMsixHeldSend at h
  cases h
  have hz := touches_refl 0x80000400 s
  with_reducible repeat' first
    | assumption | apply State.sendHeld_touches | decide | intro t ht | extract_lets

theorem execCxlMemWrite_touches (n : ℕ) (line : ℕ) (tag : ℕ) (data : LineData) (be : BitVec 64) (poison : Bool) {s t : State}
    (h : execCxlMemWrite n line tag data be poison s = .next t) : Touches 0xC470CC62 s t := by
  unfold execCxlMemWrite at h
  split at h
  · cases h
  · cases h
    have hz := touches_refl 0xC470CC62 s
    with_reducible repeat' first
      | assumption | apply State.memRequest_touches | decide | apply touches_ite | intro t ht | extract_lets

theorem execCxlMemRead_touches (n : ℕ) (line : ℕ) (tag : ℕ) {s t : State} (h : execCxlMemRead n line tag s = .next t) :
    Touches 0xC470CC62 s t := by
  unfold execCxlMemRead at h
  split at h
  · cases h
  · cases h
    have hz := touches_refl 0xC470CC62 s
    with_reducible repeat' first
      | assumption | apply State.memRequest_touches | decide | apply touches_ite | intro t ht | extract_lets

theorem execIsletRecordReadDone_touches {s t : State} (h : execIsletRecordReadDone s = .next t) : Touches 0xC470CC62 s t := by
  unfold execIsletRecordReadDone at h
  cases h
  have hz := touches_refl 0xC470CC62 s
  with_reducible repeat' first
    | assumption | apply State.recordRead_touches | decide | intro t ht | extract_lets

theorem execPaceAdmit_touches {s t : State} (h : execPaceAdmit s = .next t) : Touches 0xC470CC62 s t := by
  unfold execPaceAdmit at h
  cases h
  have hz := touches_refl 0xC470CC62 s
  with_reducible repeat' first
    | assumption | apply State.paceAdmit_touches | decide | intro t ht | extract_lets

theorem execHoldMaxAdmit_touches {s t : State} (h : execHoldMaxAdmit s = .next t) : Touches 0xCFFDFE62 s t := by
  unfold execHoldMaxAdmit at h
  cases h
  have hz := touches_refl 0xCFFDFE62 s
  with_reducible repeat' first
    | assumption | apply State.holdMaxAdmit_touches | decide | intro t ht | extract_lets

theorem execBudgetCompute_touches (tj : ℤ) {s t : State} (h : execBudgetCompute tj s = .next t) : Touches 0xC081CC02 s t := by
  unfold execBudgetCompute at h
  cases h
  have hz := touches_refl 0xC081CC02 s
  with_reducible repeat' first
    | assumption | apply State.budgetCompute_touches | decide | intro t ht | extract_lets

theorem execGaugeStale_touches (late : Bool) {s t : State} (h : execGaugeStale late s = .next t) : Touches 0xCFFDFE62 s t :=
    by
  unfold execGaugeStale at h
  cases h
  have hz := touches_refl 0xCFFDFE62 s
  with_reducible repeat' first
    | assumption | apply State.gaugeStale_touches | decide | intro t ht | extract_lets

theorem execEpochClose_touches {s t : State} (h : execEpochClose s = .next t) : Touches 0x8000CC22 s t := by
  unfold execEpochClose at h
  cases h
  have hz := touches_refl 0x8000CC22 s
  with_reducible repeat' first
    | assumption | apply State.tryClose_touches | decide | intro t ht | extract_lets

theorem execCoolingWalkDone_touches {s t : State} (h : execCoolingWalkDone s = .next t) : Touches 0x8000CC22 s t := by
  unfold execCoolingWalkDone at h
  cases h
  have hz := touches_refl 0x8000CC22 s
  with_reducible repeat' first
    | assumption | apply State.walkDone_touches | decide | intro t ht | extract_lets

theorem execEpochSeal_touches (rearmed : Bool) (again : ℕ) {s t : State} (h : execEpochSeal rearmed again s = .next t) :
    Touches 0xCFFFFE62 s t := by
  unfold execEpochSeal at h
  cases h
  have hz := touches_refl 0xCFFFFE62 s
  with_reducible repeat' first
    | assumption | apply State.sealRead_touches | decide | intro t ht | extract_lets

theorem execPlaneClearDone_touches {s t : State} (h : execPlaneClearDone s = .next t) : Touches 0x80808002 s t := by
  unfold execPlaneClearDone at h
  cases h
  have hz := touches_refl 0x80808002 s
  with_reducible repeat' first
    | assumption | apply State.planeCleared_touches | decide | intro t ht | extract_lets

theorem execPersBarPost_touches (p : Port) (tag : Word) {s t : State} (h : execPersBarPost p tag s = .next t) : Touches
    0xE7FDFE6E s t := by
  unfold execPersBarPost at h
  cases h
  have hz := touches_refl 0xE7FDFE6E s
  with_reducible repeat' first
    | assumption | apply State.portWord_touches | decide | intro t ht | extract_lets

theorem execPersQIslet_touches (p : Port) (islet : ℕ) {s t : State} (h : execPersQIslet p islet s = .next t) : Touches
    0xE7FDFE6E s t := by
  unfold execPersQIslet at h
  cases h
  have hz := touches_refl 0xE7FDFE6E s
  with_reducible repeat' first
    | assumption | apply State.portWord_touches | decide | intro t ht | extract_lets

theorem execIsletLookupDone_touches {s t : State} (h : execIsletLookupDone s = .next t) : Touches 0x8002 s t := by
  unfold execIsletLookupDone at h
  cases h
  have hz := touches_refl 0x8002 s
  with_reducible repeat' first
    | assumption | apply State.lookupDone_touches | decide | intro t ht | extract_lets

theorem execShadowReadEnd_touches (islet : ℕ) {s t : State} (h : execShadowReadEnd islet s = .next t) : Touches 0x804CCC22 s t
    := by
  unfold execShadowReadEnd at h
  cases h
  have hz := touches_refl 0x804CCC22 s
  with_reducible repeat' first
    | assumption | apply State.readEnded_touches | decide | intro t ht | extract_lets

theorem execStripeAgeExpiry_touches (slc : Bool) {s t : State} (h : execStripeAgeExpiry slc s = .next t) : Touches 0x40000 s t
    := by
  unfold execStripeAgeExpiry at h
  cases h
  have hz := touches_refl 0x40000 s
  with_reducible repeat' first
    | assumption | apply State.stripeAge_touches | decide | intro t ht | extract_lets

theorem execSweepRoundDone_touches {s t : State} (h : execSweepRoundDone s = .next t) : Touches 0x8002 s t := by
  unfold execSweepRoundDone at h
  cases h
  have hz := touches_refl 0x8002 s
  with_reducible repeat' first
    | assumption | apply State.sweepRoundDone_touches | decide | intro t ht | extract_lets

theorem execBarrierSweepDone_touches {s t : State} (h : execBarrierSweepDone s = .next t) : Touches 0x8022 s t := by
  unfold execBarrierSweepDone at h
  cases h
  have hz := touches_refl 0x8022 s
  with_reducible repeat' first
    | assumption | apply State.barSweepDone_touches | decide | intro t ht | extract_lets

theorem execPfailInFall_touches {s t : State} (h : execPfailInFall s = .next t) : Touches 0x10000 s t := by
  unfold execPfailInFall at h
  cases h
  have hz := touches_refl 0x10000 s
  with_reducible repeat' first
    | assumption | apply State.pfailFall_touches | decide | intro t ht | extract_lets

theorem execPfailDebounceDone_touches {s t : State} (h : execPfailDebounceDone s = .next t) : Touches 0xCFFDFC62 s t := by
  unfold execPfailDebounceDone at h
  cases h
  have hz := touches_refl 0xCFFDFC62 s
  with_reducible repeat' first
    | assumption | apply State.pfailTrigger_touches | decide | intro t ht | extract_lets

theorem execPfailGlitch_touches (samples : ℕ) {s t : State} (h : execPfailGlitch samples s = .next t) : Touches 0xCFFDFE62 s t
    := by
  unfold execPfailGlitch at h
  cases h
  have hz := touches_refl 0xCFFDFE62 s
  with_reducible repeat' first
    | assumption | apply State.pfailGlitch_touches | decide | intro t ht | extract_lets

theorem execPfailInRise_touches {s t : State} (h : execPfailInRise s = .next t) : Touches 0x10000 s t := by
  unfold execPfailInRise at h
  cases h
  have hz := touches_refl 0x10000 s
  with_reducible repeat' first
    | assumption | apply State.pfailRise_touches | decide | intro t ht | extract_lets

theorem execHoldRailTrip_touches {s t : State} (h : execHoldRailTrip s = .next t) : Touches 0xCFFDFC62 s t := by
  unfold execHoldRailTrip at h
  cases h
  have hz := touches_refl 0xCFFDFC62 s
  with_reducible repeat' first
    | assumption | apply State.railTrip_touches | decide | intro t ht | extract_lets

theorem execHoldRailClose_touches (started : ℕ) {s t : State} (h : execHoldRailClose started s = .next t) : Touches 0x450002 s
    t := by
  unfold execHoldRailClose at h
  cases h
  have hz := touches_refl 0x450002 s
  with_reducible repeat' first
    | assumption | apply State.railClose_touches | decide | intro t ht | extract_lets

theorem execSaveWritesApplied_touches {s t : State} (h : execSaveWritesApplied s = .next t) : Touches 0x80655E22 s t := by
  unfold execSaveWritesApplied at h
  cases h
  have hz := touches_refl 0x80655E22 s
  with_reducible repeat' first
    | assumption | apply State.writesApplied_touches | decide | intro t ht | extract_lets

theorem execSaveDataDone_touches {s t : State} (h : execSaveDataDone s = .next t) : Touches 0x50000 s t := by
  unfold execSaveDataDone at h
  cases h
  have hz := touches_refl 0x50000 s
  with_reducible repeat' first
    | assumption | apply State.dataDone_touches | decide | intro t ht | extract_lets

theorem execEnergyCutoff_touches (started : ℕ) {s t : State} (h : execEnergyCutoff started s = .next t) : Touches 0x450002 s t
    := by
  unfold execEnergyCutoff at h
  cases h
  have hz := touches_refl 0x450002 s
  with_reducible repeat' first
    | assumption | apply State.energyCutoff_touches | decide | intro t ht | extract_lets

theorem execSaveSealProgrammed_touches {s t : State} (h : execSaveSealProgrammed s = .next t) : Touches 0x10000 s t := by
  unfold execSaveSealProgrammed at h
  cases h
  have hz := touches_refl 0x10000 s
  with_reducible repeat' first
    | assumption | apply State.sealProgrammed_touches | decide | intro t ht | extract_lets

theorem execSaveSealReadback_touches {s t : State} (h : execSaveSealReadback s = .next t) : Touches 0xFFFFFE2E s t := by
  unfold execSaveSealReadback at h
  cases h
  have hz := touches_refl 0xFFFFFE2E s
  with_reducible repeat' first
    | assumption | apply State.heldTest_touches | apply State.saveDone_touches | decide | intro t ht | extract_lets

theorem execSaveBasinEntry_touches (refreshed : Bool) {s t : State} (h : execSaveBasinEntry refreshed s = .next t) : Touches
    0x80207E22 s t := by
  unfold execSaveBasinEntry at h
  cases h
  have hz := touches_refl 0x80207E22 s
  with_reducible repeat' first
    | assumption | apply State.saveBasin_touches | decide | intro t ht | extract_lets

theorem execSelfTestDone_touches (pass : Bool) {s t : State} (h : execSelfTestDone pass s = .next t) : Touches 0x80004C02 s t
    := by
  unfold execSelfTestDone at h
  cases h
  have hz := touches_refl 0x80004C02 s
  with_reducible repeat' first
    | assumption | apply State.selfTest_touches | decide | intro t ht | extract_lets

theorem execPowerReturn_touches {s t : State} (h : execPowerReturn s = .next t) : Touches 0x6FFDFE6E s t := by
  unfold execPowerReturn at h
  cases h
  have hz := touches_refl 0x6FFDFE6E s
  with_reducible repeat' first
    | assumption | apply State.powerReturn_touches | decide | intro t ht | extract_lets

theorem execPowerLoss_touches (torn : Bool) {s t : State} (h : execPowerLoss torn s = .next t) : Touches 0x7FFDFE6E s t := by
  unfold execPowerLoss at h
  cases h
  have hz := touches_refl 0x7FFDFE6E s
  with_reducible repeat' first
    | assumption | apply State.powerLoss_touches | decide | intro t ht | extract_lets

theorem execRailOutOfBand_touches (rail : ℕ) {s t : State} (h : execRailOutOfBand rail s = .next t) : Touches 0xCFFDFE62 s t
    := by
  unfold execRailOutOfBand at h
  cases h
  have hz := touches_refl 0xCFFDFE62 s
  with_reducible repeat' first
    | assumption | apply State.railOut_touches | decide | intro t ht | extract_lets

theorem execDramRailFault_touches {s t : State} (h : execDramRailFault s = .next t) : Touches 0x2002 s t := by
  unfold execDramRailFault at h
  cases h
  have hz := touches_refl 0x2002 s
  with_reducible repeat' first
    | assumption | apply State.dramRailFault_touches | decide | intro t ht | extract_lets

theorem execGpfPhase1_touches {s t : State} (h : execGpfPhase1 s = .next t) : Touches 0x80000000 s t := by
  unfold execGpfPhase1 at h
  cases h
  have hz := touches_refl 0x80000000 s
  with_reducible repeat' first
    | assumption | apply State.gpfPhase1_touches | decide | intro t ht | extract_lets

theorem execGpfPhase2_touches {s t : State} (h : execGpfPhase2 s = .next t) : Touches 0x10000 s t := by
  unfold execGpfPhase2 at h
  cases h
  have hz := touches_refl 0x10000 s
  with_reducible repeat' first
    | assumption | apply State.gpfPhase2_touches | decide | intro t ht | extract_lets

theorem execGpfPhase2Done_touches {s t : State} (h : execGpfPhase2Done s = .next t) : Touches 0x80010000 s t := by
  unfold execGpfPhase2Done at h
  cases h
  have hz := touches_refl 0x80010000 s
  with_reducible repeat' first
    | assumption | apply State.gpfDone_touches | decide | intro t ht | extract_lets

theorem execHoldRailReturn_touches {s t : State} (h : execHoldRailReturn s = .next t) : Touches 0x10000 s t := by
  unfold execHoldRailReturn at h
  cases h
  have hz := touches_refl 0x10000 s
  with_reducible repeat' first
    | assumption | apply State.railReturn_touches | decide | intro t ht | extract_lets

theorem execDramTrainingDone_touches (fell : List ℕ) (lowered : Bool) (failed : List ℕ) {s t : State} (h :
    execDramTrainingDone fell lowered failed s = .next t) : Touches 0xCFFDFFE2 s t := by
  unfold execDramTrainingDone at h
  cases h
  have hz := touches_refl 0xCFFDFFE2 s
  with_reducible repeat' first
    | assumption | apply State.trainingDone_touches | decide | intro t ht | extract_lets

theorem execImageDetectDone_touches (found : Found) {s t : State} (h : execImageDetectDone found s = .next t) : Touches
    0xCFFFFF62 s t := by
  unfold execImageDetectDone at h
  cases h
  have hz := touches_refl 0xCFFFFF62 s
  with_reducible repeat' first
    | assumption | apply State.imageDetected_touches | decide | intro t ht | extract_lets

theorem execMetadataLoadDone_touches {s t : State} (h : execMetadataLoadDone s = .next t) : Touches 0xC07EEC62 s t := by
  unfold execMetadataLoadDone at h
  cases h
  have hz := touches_refl 0xC07EEC62 s
  with_reducible repeat' first
    | assumption | apply State.loadEnded_touches | decide | intro t ht | extract_lets

theorem execFaultInDone_touches (islet : ℕ) (us : ℕ) (rebuilt : ℕ) (lost : List ℕ) (late : Bool) {s t : State} (h :
    execFaultInDone islet us rebuilt lost late s = .next t) : Touches 0xCFFDFE62 s t := by
  unfold execFaultInDone at h
  cases h
  have hz := touches_refl 0xCFFDFE62 s
  with_reducible repeat' first
    | assumption | apply State.faultInDone_touches | decide | intro t ht | extract_lets

theorem execRestoreIsletDone_touches (zero : Bool) (rebuilt : ℕ) (lost : List ℕ) {s t : State} (h : execRestoreIsletDone zero
    rebuilt lost s = .next t) : Touches 0xCFFDFE62 s t := by
  unfold execRestoreIsletDone at h
  cases h
  have hz := touches_refl 0xCFFDFE62 s
  with_reducible repeat' first
    | assumption | apply State.restoreNext_touches | decide | intro t ht | extract_lets

theorem execWarmCheckDone_touches (good : Bool) {s t : State} (h : execWarmCheckDone good s = .next t) : Touches 0xC037EC02 s
    t := by
  unfold execWarmCheckDone at h
  cases h
  have hz := touches_refl 0xC037EC02 s
  with_reducible repeat' first
    | assumption | apply State.warmCheck_touches | decide | intro t ht | extract_lets

theorem execCascadeWaitExpiry_touches {s t : State} (h : execCascadeWaitExpiry s = .next t) : Touches 0xCFFDFF62 s t := by
  unfold execCascadeWaitExpiry at h
  cases h
  have hz := touches_refl 0xCFFDFF62 s
  with_reducible repeat' first
    | assumption | apply State.cascadeWaitExpired_touches | decide | intro t ht | extract_lets

theorem execFlashOpEnqueue_touches (c : ℕ) (o : FOp) {s t : State} (h : execFlashOpEnqueue c o s = .next t) : Touches 0x40002
    s t := by
  unfold execFlashOpEnqueue at h
  cases h
  have hz := touches_refl 0x40002 s
  with_reducible repeat' first
    | assumption | apply State.enqueueFop_touches | decide | intro t ht | extract_lets

theorem execResumeWindowExpiry_touches (c : ℕ) (d : ℕ) {s t : State} (h : execResumeWindowExpiry c d s = .next t) : Touches
    0xCFFDFE62 s t := by
  unfold execResumeWindowExpiry at h
  cases h
  have hz := touches_refl 0xCFFDFE62 s
  with_reducible repeat' first
    | assumption | apply State.resumeExpired_touches | decide | intro t ht | extract_lets

theorem execFlashReadDone_touches (c : ℕ) (d : ℕ) (plane : ℕ) (b : ℕ) (r : ReadEnd) (last : Bool) (scan : Bool) {s t : State}
    (h : execFlashReadDone c d plane b r last scan s = .next t) : Touches 0xCFFDFE62 s t := by
  unfold execFlashReadDone at h
  cases h
  have hz := touches_refl 0xCFFDFE62 s
  with_reducible repeat' first
    | assumption | apply State.readEnds_touches | decide | intro t ht | extract_lets

theorem execFlashProgramDone_touches (c : ℕ) (d : ℕ) (good : Bool) (us : ℕ) {s t : State} (h : execFlashProgramDone c d good
    us s = .next t) : Touches 0xCFFDFE62 s t := by
  unfold execFlashProgramDone at h
  cases h
  have hz := touches_refl 0xCFFDFE62 s
  with_reducible repeat' first
    | assumption | apply State.programEnds_touches | decide | intro t ht | extract_lets

theorem execFlashEraseDone_touches (c : ℕ) (d : ℕ) (e : EraseEnd) {s t : State} (h : execFlashEraseDone c d e s = .next t) :
    Touches 0xCFFFFE62 s t := by
  unfold execFlashEraseDone at h
  cases h
  have hz := touches_refl 0xCFFFFE62 s
  with_reducible repeat' first
    | assumption | apply State.eraseEnds_touches | decide | intro t ht | extract_lets

theorem execDieReadyTimeout_touches (c : ℕ) (d : ℕ) (late : Bool) {s t : State} (h : execDieReadyTimeout c d late s = .next t)
    : Touches 0xCFFDFE62 s t := by
  unfold execDieReadyTimeout at h
  cases h
  have hz := touches_refl 0xCFFDFE62 s
  with_reducible repeat' first
    | assumption | apply State.dieTimeout_touches | decide | intro t ht | extract_lets

theorem execFchRetrain_touches (p : Port) (c : ℕ) {s t : State} (h : execFchRetrain p c s = .next t) : Touches 0xE7FDFE6E s t
    := by
  unfold execFchRetrain at h
  cases h
  have hz := touches_refl 0xE7FDFE6E s
  with_reducible repeat' first
    | assumption | apply State.portBits_touches | decide | intro t ht | extract_lets

theorem execFlashChannelTrained_touches (c : ℕ) (good : Bool) (found : List (Option DieFound)) {s t : State} (h :
    execFlashChannelTrained c good found s = .next t) : Touches 0xCFFDFE62 s t := by
  unfold execFlashChannelTrained at h
  cases h
  have hz := touches_refl 0xCFFDFE62 s
  with_reducible repeat' first
    | assumption | apply State.channelTrained_touches | decide | intro t ht | extract_lets

theorem execFarrQBlock_touches (p : Port) (query : Word) {s t : State} (h : execFarrQBlock p query s = .next t) : Touches
    0xE7FDFE6E s t := by
  unfold execFarrQBlock at h
  cases h
  have hz := touches_refl 0xE7FDFE6E s
  with_reducible repeat' first
    | assumption | apply State.portWord_touches | decide | intro t ht | extract_lets

theorem execBlockLookupDone_touches {s t : State} (h : execBlockLookupDone s = .next t) : Touches 0x40002 s t := by
  unfold execBlockLookupDone at h
  cases h
  have hz := touches_refl 0x40002 s
  with_reducible repeat' first
    | assumption | apply State.blockFound_touches | decide | intro t ht | extract_lets

theorem execMovStart_touches (p : Port) (c : ℕ) {s t : State} (h : execMovStart p c s = .next t) : Touches 0xE7FDFE6E s t :=
    by
  unfold execMovStart at h
  cases h
  have hz := touches_refl 0xE7FDFE6E s
  with_reducible repeat' first
    | assumption | apply State.portWord_touches | decide | intro t ht | extract_lets

theorem execMovAbort_touches (p : Port) (c : ℕ) {s t : State} (h : execMovAbort p c s = .next t) : Touches 0xE7FDFE6E s t :=
    by
  unfold execMovAbort at h
  cases h
  have hz := touches_refl 0xE7FDFE6E s
  with_reducible repeat' first
    | assumption | apply State.portWord_touches | decide | intro t ht | extract_lets

theorem execMove_touches (c : ℕ) {s t : State} (h : execMove c s = .next t) : Touches 0x80000 s t := by
  unfold execMove at h
  cases h
  have hz := touches_refl 0x80000 s
  with_reducible repeat' first
    | assumption | apply State.beginXfer_touches | decide | intro t ht | extract_lets

theorem execSpread_touches (c : ℕ) {s t : State} (h : execSpread c s = .next t) : Touches 0x80000 s t := by
  unfold execSpread at h
  cases h
  have hz := touches_refl 0x80000 s
  with_reducible repeat' first
    | assumption | apply State.beginXfer_touches | decide | intro t ht | extract_lets

theorem execLoop_touches (c : ℕ) {s t : State} (h : execLoop c s = .next t) : Touches 0x80002 s t := by
  unfold execLoop at h
  cases h
  have hz := touches_refl 0x80002 s
  with_reducible repeat' first
    | assumption | apply State.movLoop_touches | decide | intro t ht | extract_lets

theorem execWait_touches (c : ℕ) {s t : State} (h : execWait c s = .next t) : Touches 0x80002 s t := by
  unfold execWait at h
  cases h
  have hz := touches_refl 0x80002 s
  with_reducible repeat' first
    | assumption | apply State.movWait_touches | decide | intro t ht | extract_lets

theorem execSignal_touches (c : ℕ) (cycle : ℕ) {s t : State} (h : execSignal c cycle s = .next t) : Touches 0x80884C02 s t :=
    by
  unfold execSignal at h
  cases h
  have hz := touches_refl 0x80884C02 s
  with_reducible repeat' first
    | assumption | apply State.movSignal_touches | decide | intro t ht | extract_lets

theorem execHalt_touches (c : ℕ) (cycle : ℕ) {s t : State} (h : execHalt c cycle s = .next t) : Touches 0x80084C02 s t := by
  unfold execHalt at h
  cases h
  have hz := touches_refl 0x80084C02 s
  with_reducible repeat' first
    | assumption | apply State.movHalt_touches | decide | intro t ht | extract_lets

theorem execNop_touches (c : ℕ) {s t : State} (h : execNop c s = .next t) : Touches 0x80002 s t := by
  unfold execNop at h
  cases h
  have hz := touches_refl 0x80002 s
  with_reducible repeat' first
    | assumption | apply State.movNop_touches | decide | intro t ht | extract_lets

theorem execIllegal_touches (c : ℕ) (cycle : ℕ) {s t : State} (h : execIllegal c cycle s = .next t) : Touches 0xCFFDFE62 s t
    := by
  unfold execIllegal at h
  cases h
  have hz := touches_refl 0xCFFDFE62 s
  with_reducible repeat' first
    | assumption | apply State.movIllegal_touches | decide | intro t ht | extract_lets

theorem execPcRange_touches (c : ℕ) (cycle : ℕ) {s t : State} (h : execPcRange c cycle s = .next t) : Touches 0xC048CC62 s t
    := by
  unfold execPcRange at h
  cases h
  have hz := touches_refl 0xC048CC62 s
  with_reducible repeat' first
    | assumption | apply State.movPcRange_touches | decide | intro t ht | extract_lets

theorem execPmUe_touches (c : ℕ) (cycle : ℕ) {s t : State} (h : execPmUe c cycle s = .next t) : Touches 0xCFFDFE62 s t := by
  unfold execPmUe at h
  cases h
  have hz := touches_refl 0xCFFDFE62 s
  with_reducible repeat' first
    | assumption | apply State.movPmUe_touches | decide | intro t ht | extract_lets

theorem execMoverTransferDone_touches (c : ℕ) (hit : Option ℕ) (why : ℕ) {s t : State} (h : execMoverTransferDone c hit why s
    = .next t) : Touches 0xCFFDFE62 s t := by
  unfold execMoverTransferDone at h
  cases h
  have hz := touches_refl 0xCFFDFE62 s
  with_reducible repeat' first
    | assumption | apply State.transferDone_touches | decide | intro t ht | extract_lets

theorem execWaitEnd_touches (c : ℕ) {s t : State} (h : execWaitEnd c s = .next t) : Touches 0x80002 s t := by
  unfold execWaitEnd at h
  cases h
  have hz := touches_refl 0x80002 s
  with_reducible repeat' first
    | assumption | apply State.waitEnd_touches | decide | intro t ht | extract_lets

theorem execWaitTimeout_touches (c : ℕ) (cycle : ℕ) {s t : State} (h : execWaitTimeout c cycle s = .next t) : Touches
    0xC048CC62 s t := by
  unfold execWaitTimeout at h
  cases h
  have hz := touches_refl 0xC048CC62 s
  with_reducible repeat' first
    | assumption | apply State.waitTimeout_touches | decide | intro t ht | extract_lets

theorem execPmDataHiWrite_touches (p : Port) (hi : Word) {s t : State} (h : execPmDataHiWrite p hi s = .next t) : Touches
    0xE7FDFE6E s t := by
  unfold execPmDataHiWrite at h
  cases h
  have hz := touches_refl 0xE7FDFE6E s
  with_reducible repeat' first
    | assumption | apply State.portWord_touches | decide | intro t ht | extract_lets

theorem execPmDataLoRead_touches (p : Port) {s t : State} (h : execPmDataLoRead p s = .next t) : Touches 0xCFFDFE6A s t := by
  unfold execPmDataLoRead at h
  cases h
  have hz := touches_refl 0xCFFDFE6A s
  with_reducible repeat' first
    | assumption | apply State.portRead_touches | decide | intro t ht | extract_lets

theorem execPmDataHiRead_touches (p : Port) {s t : State} (h : execPmDataHiRead p s = .next t) : Touches 0xCFFDFE6A s t := by
  unfold execPmDataHiRead at h
  cases h
  have hz := touches_refl 0xCFFDFE6A s
  with_reducible repeat' first
    | assumption | apply State.portRead_touches | decide | intro t ht | extract_lets

theorem execCollectorDrain_touches (cycle : ℕ) {s t : State} (h : execCollectorDrain cycle s = .next t) : Touches 0x80084C02 s
    t := by
  unfold execCollectorDrain at h
  cases h
  have hz := touches_refl 0x80084C02 s
  with_reducible repeat' first
    | assumption | apply State.collect_touches | decide | intro t ht | extract_lets

theorem execMvgCpop_touches (p : Port) {s t : State} (h : execMvgCpop p s = .next t) : Touches 0xE7FDFE6E s t := by
  unfold execMvgCpop at h
  cases h
  have hz := touches_refl 0xE7FDFE6E s
  with_reducible repeat' first
    | assumption | apply State.portWord_touches | decide | intro t ht | extract_lets

theorem execDramReadDone_touches (line : ℕ) (r : Requester) (o : ReadOutcome) (record : ℕ) {s t : State} (h : execDramReadDone
    line r o record s = .next t) : Touches 0xEFFDFEE2 s t := by
  unfold execDramReadDone at h
  cases h
  have hz := touches_refl 0xEFFDFEE2 s
  with_reducible repeat' first
    | assumption | apply State.dramReadDone_touches | decide | intro t ht | extract_lets

theorem execRepairWrite_touches (line : ℕ) {s t : State} (h : execRepairWrite line s = .next t) : Touches 0x400062 s t := by
  unfold execRepairWrite at h
  cases h
  have hz := touches_refl 0x400062 s
  with_reducible repeat' first
    | assumption | apply State.repairWrite_touches | decide | intro t ht | extract_lets

theorem execRefreshDue_touches (sc : ℕ) (lrank : ℕ) (queued : Bool) {s t : State} (h : execRefreshDue sc lrank queued s =
    .next t) : Touches 0x40400022 s t := by
  unfold execRefreshDue at h
  cases h
  have hz := touches_refl 0x40400022 s
  with_reducible repeat' first
    | assumption | apply State.refreshDue_touches | decide | intro t ht | extract_lets

theorem execMr4Poll_touches (d : ℕ) (doubled : Bool) {s t : State} (h : execMr4Poll d doubled s = .next t) : Touches 0x2 s t
    := by
  unfold execMr4Poll at h
  cases h
  have hz := touches_refl 0x2 s
  with_reducible repeat' first
    | assumption | apply State.mr4Poll_touches | decide | intro t ht | extract_lets

theorem execRankPowerDown_touches (d : ℕ) (r : ℕ) (late : Bool) {s t : State} (h : execRankPowerDown d r late s = .next t) :
    Touches 0x400022 s t := by
  unfold execRankPowerDown at h
  cases h
  have hz := touches_refl 0x400022 s
  with_reducible repeat' first
    | assumption | apply State.powerDown_touches | decide | intro t ht | extract_lets

theorem execRowIdleClose_touches (bank : ℕ) {s t : State} (h : execRowIdleClose bank s = .next t) : Touches 0x400000 s t := by
  unfold execRowIdleClose at h
  cases h
  have hz := touches_refl 0x400000 s
  with_reducible repeat' first
    | assumption | apply State.closeBank_touches | decide | apply touches_ite | intro t ht | extract_lets

theorem execCaParityAlert_touches (sc : ℕ) {s t : State} (h : execCaParityAlert sc s = .next t) : Touches 0xCFFDFE62 s t := by
  unfold execCaParityAlert at h
  cases h
  have hz := touches_refl 0xCFFDFE62 s
  with_reducible repeat' first
    | assumption | apply State.caAlert_touches | decide | intro t ht | extract_lets

theorem execCaAlertClear_touches (sc : ℕ) {s t : State} (h : execCaAlertClear sc s = .next t) : Touches 0x40400022 s t := by
  unfold execCaAlertClear at h
  cases h
  have hz := touches_refl 0x40400022 s
  with_reducible repeat' first
    | assumption | apply State.caClear_touches | decide | intro t ht | extract_lets

theorem execInPlaceRetrainDone_touches (sc : ℕ) (margin : Bool) {s t : State} (h : execInPlaceRetrainDone sc margin s = .next
    t) : Touches 0xC0404C22 s t := by
  unfold execInPlaceRetrainDone at h
  cases h
  have hz := touches_refl 0xC0404C22 s
  with_reducible repeat' first
    | assumption | apply State.retrainDone_touches | decide | intro t ht | extract_lets

theorem execDtrnGo_touches (p : Port) {s t : State} (h : execDtrnGo p s = .next t) : Touches 0xE7FDFE6E s t := by
  unfold execDtrnGo at h
  cases h
  have hz := touches_refl 0xE7FDFE6E s
  with_reducible repeat' first
    | assumption | apply State.portBits_touches | decide | intro t ht | extract_lets

theorem execDtrnStop_touches (p : Port) {s t : State} (h : execDtrnStop p s = .next t) : Touches 0xE7FDFE6E s t := by
  unfold execDtrnStop at h
  cases h
  have hz := touches_refl 0xE7FDFE6E s
  with_reducible repeat' first
    | assumption | apply State.portBits_touches | decide | intro t ht | extract_lets

theorem execDtrnDone_touches (lanes : ℕ) (mismatches : ℕ) {s t : State} (h : execDtrnDone lanes mismatches s = .next t) :
    Touches 0x80404C02 s t := by
  unfold execDtrnDone at h
  cases h
  have hz := touches_refl 0x80404C02 s
  with_reducible repeat' first
    | assumption | apply State.dtrnDone_touches | decide | intro t ht | extract_lets

theorem execPerstAssert_touches {s t : State} (h : execPerstAssert s = .next t) : Touches 0xC478FE6E s t := by
  unfold execPerstAssert at h
  cases h
  have hz := touches_refl 0xC478FE6E s
  with_reducible repeat' first
    | assumption | apply State.perstAssert_touches | decide | intro t ht | extract_lets

theorem execPerstRelease_touches {s t : State} (h : execPerstRelease s = .next t) : Touches 0x204802 s t := by
  unfold execPerstRelease at h
  cases h
  have hz := touches_refl 0x204802 s
  with_reducible repeat' first
    | assumption | apply State.perstRelease_touches | decide | intro t ht | extract_lets

theorem execLinkUp_touches (rate : ℕ) (flit256 : Bool) (lanes : List LaneEnd) {s t : State} (h : execLinkUp rate flit256 lanes
    s = .next t) : Touches 0x84204C02 s t := by
  unfold execLinkUp at h
  cases h
  have hz := touches_refl 0x84204C02 s
  with_reducible repeat' first
    | assumption | apply State.linkUp_touches | decide | intro t ht | extract_lets

theorem execLinkDown_touches {s t : State} (h : execLinkDown s = .next t) : Touches 0x80205E22 s t := by
  unfold execLinkDown at h
  cases h
  have hz := touches_refl 0x80205E22 s
  with_reducible repeat' first
    | assumption | apply State.linkLost_touches | decide | intro t ht | extract_lets

theorem execLinkFail_touches {s t : State} (h : execLinkFail s = .next t) : Touches 0xCFFDFE62 s t := by
  unfold execLinkFail at h
  cases h
  have hz := touches_refl 0xCFFDFE62 s
  with_reducible repeat' first
    | assumption | apply State.linkFail_touches | decide | intro t ht | extract_lets

theorem execL1Exit_touches {s t : State} (h : execL1Exit s = .next t) : Touches 0x204802 s t := by
  unfold execL1Exit at h
  cases h
  have hz := touches_refl 0x204802 s
  with_reducible repeat' first
    | assumption | apply State.l1Exit_touches | decide | intro t ht | extract_lets

theorem execConfigRequest_touches (q : CfgReq) {s t : State} (h : execConfigRequest q s = .next t) : Touches 0x80000400 s t :=
    by
  unfold execConfigRequest at h
  cases h
  have hz := touches_refl 0x80000400 s
  with_reducible repeat' first
    | assumption | apply State.configRequest_touches | decide | intro t ht | extract_lets

theorem execCreditStall_touches {s t : State} (h : execCreditStall s = .next t) : Touches 0xCFFDFE62 s t := by
  unfold execCreditStall at h
  cases h
  have hz := touches_refl 0xCFFDFE62 s
  with_reducible repeat' first
    | assumption | apply State.creditStall_touches | decide | intro t ht | extract_lets

theorem execDecoderCommit_touches (n : ℕ) (base : ℕ) (size : ℕ) (dpa : ℕ) (iw : ℕ) (ig : ℕ) {s t : State} (h :
    execDecoderCommit n base size dpa iw ig s = .next t) : Touches 0x80204C02 s t := by
  unfold execDecoderCommit at h
  cases h
  have hz := touches_refl 0x80204C02 s
  with_reducible repeat' first
    | assumption | apply State.commitDecoder_touches | decide | intro t ht | extract_lets

theorem execMemEnable_touches {s t : State} (h : execMemEnable s = .next t) : Touches 0x200002 s t := by
  unfold execMemEnable at h
  cases h
  have hz := touches_refl 0x200002 s
  with_reducible repeat' first
    | assumption | apply State.memEnable_touches | decide | intro t ht | extract_lets

theorem execLinkRecovery_touches (errors : List (ℕ × ℕ)) (down : Option (ℕ × List LaneEnd)) {s t : State} (h :
    execLinkRecovery errors down s = .next t) : Touches 0xCFFDFE62 s t := by
  unfold execLinkRecovery at h
  cases h
  have hz := touches_refl 0xCFFDFE62 s
  with_reducible repeat' first
    | assumption | apply State.linkRecovery_touches | decide | intro t ht | extract_lets

theorem execL1Entry_touches {s t : State} (h : execL1Entry s = .next t) : Touches 0x204002 s t := by
  unfold execL1Entry at h
  cases h
  have hz := touches_refl 0x204002 s
  with_reducible repeat' first
    | assumption | apply State.l1Entry_touches | decide | intro t ht | extract_lets

theorem execHotReset_touches {s t : State} (h : execHotReset s = .next t) : Touches 0x8030DE22 s t := by
  unfold execHotReset at h
  cases h
  have hz := touches_refl 0x8030DE22 s
  with_reducible repeat' first
    | assumption | apply State.hotReset_touches | decide | intro t ht | extract_lets

theorem execGetEventRecords_touches (log : ℕ) {s t : State} (h : execGetEventRecords log s = .next t) : Touches 0x80000020 s t
    := by
  unfold execGetEventRecords at h
  cases h
  have hz := touches_refl 0x80000020 s
  with_reducible repeat' first
    | assumption | apply State.mailbox_touches | apply State.getEvents_touches | decide | intro t ht | extract_lets

theorem execClearEventRecords_touches (log : ℕ) (every : Bool) (handles : List ℕ) {s t : State} (h : execClearEventRecords log
    every handles s = .next t) : Touches 0x84000000 s t := by
  unfold execClearEventRecords at h
  cases h
  have hz := touches_refl 0x84000000 s
  with_reducible repeat' first
    | assumption | apply State.mailbox_touches | apply State.clearEvents_touches | decide | intro t ht | extract_lets

theorem execGetEventInterruptPolicy_touches {s t : State} (h : execGetEventInterruptPolicy s = .next t) : Touches 0x80000000 s
    t := by
  unfold execGetEventInterruptPolicy at h
  cases h
  have hz := touches_refl 0x80000000 s
  with_reducible repeat' first
    | assumption | apply State.mailbox_touches | apply State.getPolicy_touches | decide | intro t ht | extract_lets

theorem execSetEventInterruptPolicy_touches (modes : List ℕ) {s t : State} (h : execSetEventInterruptPolicy modes s = .next t)
    : Touches 0x84000000 s t := by
  unfold execSetEventInterruptPolicy at h
  cases h
  have hz := touches_refl 0x84000000 s
  with_reducible repeat' first
    | assumption | apply State.mailbox_touches | apply State.setPolicy_touches | decide | intro t ht | extract_lets

theorem execGetFwInfo_touches {s t : State} (h : execGetFwInfo s = .next t) : Touches 0x80000020 s t := by
  unfold execGetFwInfo at h
  cases h
  have hz := touches_refl 0x80000020 s
  with_reducible repeat' first
    | assumption | apply State.mailbox_touches | apply State.fwInfo_touches | decide | intro t ht | extract_lets

theorem execUnsupportedCommand_touches {s t : State} (h : execUnsupportedCommand s = .next t) : Touches 0x80000000 s t := by
  unfold execUnsupportedCommand at h
  cases h
  have hz := touches_refl 0x80000000 s
  with_reducible repeat' first
    | assumption | apply State.mailbox_touches | apply State.unsupported_touches | decide | intro t ht | extract_lets

theorem execGetTimestamp_touches {s t : State} (h : execGetTimestamp s = .next t) : Touches 0x80000000 s t := by
  unfold execGetTimestamp at h
  cases h
  have hz := touches_refl 0x80000000 s
  with_reducible repeat' first
    | assumption | apply State.mailbox_touches | apply State.getStamp_touches | decide | intro t ht | extract_lets

theorem execSetTimestamp_touches (ns : ℕ) {s t : State} (h : execSetTimestamp ns s = .next t) : Touches 0x84000000 s t := by
  unfold execSetTimestamp at h
  cases h
  have hz := touches_refl 0x84000000 s
  with_reducible repeat' first
    | assumption | apply State.mailbox_touches | apply State.setStamp_touches | decide | intro t ht | extract_lets

theorem execGetSupportedLogs_touches {s t : State} (h : execGetSupportedLogs s = .next t) : Touches 0x80000000 s t := by
  unfold execGetSupportedLogs at h
  cases h
  have hz := touches_refl 0x80000000 s
  with_reducible repeat' first
    | assumption | apply State.mailbox_touches | apply State.supportedLogs_touches | decide | intro t ht | extract_lets

theorem execGetLog_touches (uuid : List (BitVec 8)) (offset : ℕ) (length : ℕ) {s t : State} (h : execGetLog uuid offset length
    s = .next t) : Touches 0x80000000 s t := by
  unfold execGetLog at h
  cases h
  have hz := touches_refl 0x80000000 s
  with_reducible repeat' first
    | assumption | apply State.mailbox_touches | apply State.getLog_touches | decide | intro t ht | extract_lets

theorem execIdentifyMemoryDevice_touches {s t : State} (h : execIdentifyMemoryDevice s = .next t) : Touches 0x80000020 s t :=
    by
  unfold execIdentifyMemoryDevice at h
  cases h
  have hz := touches_refl 0x80000020 s
  with_reducible repeat' first
    | assumption | apply State.mailbox_touches | apply State.identify_touches | decide | intro t ht | extract_lets

theorem execGetHealthInfo_touches {s t : State} (h : execGetHealthInfo s = .next t) : Touches 0x80000020 s t := by
  unfold execGetHealthInfo at h
  cases h
  have hz := touches_refl 0x80000020 s
  with_reducible repeat' first
    | assumption | apply State.mailbox_touches | apply State.health_touches | decide | intro t ht | extract_lets

theorem execGetAlertConfig_touches {s t : State} (h : execGetAlertConfig s = .next t) : Touches 0x80000000 s t := by
  unfold execGetAlertConfig at h
  cases h
  have hz := touches_refl 0x80000000 s
  with_reducible repeat' first
    | assumption | apply State.mailbox_touches | apply State.getAlert_touches | decide | intro t ht | extract_lets

theorem execSetAlertConfig_touches (config : List (BitVec 8)) {s t : State} (h : execSetAlertConfig config s = .next t) :
    Touches 0x84000000 s t := by
  unfold execSetAlertConfig at h
  cases h
  have hz := touches_refl 0x84000000 s
  with_reducible repeat' first
    | assumption | apply State.mailbox_touches | apply State.setAlert_touches | decide | intro t ht | extract_lets

theorem execGetShutdownState_touches {s t : State} (h : execGetShutdownState s = .next t) : Touches 0x80000000 s t := by
  unfold execGetShutdownState at h
  cases h
  have hz := touches_refl 0x80000000 s
  with_reducible repeat' first
    | assumption | apply State.mailbox_touches | apply State.getShutdown_touches | decide | intro t ht | extract_lets

theorem execSetShutdownState_touches (v : ℕ) {s t : State} (h : execSetShutdownState v s = .next t) : Touches 0x80000100 s t
    := by
  unfold execSetShutdownState at h
  cases h
  have hz := touches_refl 0x80000100 s
  with_reducible repeat' first
    | assumption | apply State.mailbox_touches | apply State.setShutdown_touches | decide | intro t ht | extract_lets

theorem execGetPoisonList_touches (dpa : ℕ) (length : ℕ) {s t : State} (h : execGetPoisonList dpa length s = .next t) :
    Touches 0x84000000 s t := by
  unfold execGetPoisonList at h
  cases h
  have hz := touches_refl 0x84000000 s
  with_reducible repeat' first
    | assumption | apply State.mailbox_touches | apply State.getPoison_touches | decide | intro t ht | extract_lets

theorem execInjectPoison_touches (dpa : ℕ) {s t : State} (h : execInjectPoison dpa s = .next t) : Touches 0xC470CC62 s t := by
  unfold execInjectPoison at h
  cases h
  have hz := touches_refl 0xC470CC62 s
  with_reducible repeat' first
    | assumption | apply State.mailbox_touches | apply State.injectPoison_touches | decide | intro t ht | extract_lets

theorem execClearPoison_touches (dpa : ℕ) (data : LineData) {s t : State} (h : execClearPoison dpa data s = .next t) : Touches
    0xC470CC62 s t := by
  unfold execClearPoison at h
  cases h
  have hz := touches_refl 0xC470CC62 s
  with_reducible repeat' first
    | assumption | apply State.mailbox_touches | apply State.clearPoison_touches | decide | intro t ht | extract_lets

theorem execSanitize_touches {s t : State} (h : execSanitize s = .next t) : Touches 0x84000100 s t := by
  unfold execSanitize at h
  cases h
  have hz := touches_refl 0x84000100 s
  with_reducible repeat' first
    | assumption | apply State.mailbox_touches | apply State.sanitize_touches | decide | intro t ht | extract_lets

theorem execSanitizeDone_touches {s t : State} (h : execSanitizeDone s = .next t) : Touches 0xCFFFFF62 s t := by
  unfold execSanitizeDone at h
  cases h
  have hz := touches_refl 0xCFFFFF62 s
  with_reducible repeat' first
    | assumption | apply State.sanitizeDone_touches | decide | intro t ht | extract_lets

theorem execBarrierPost_touches (tag : ℕ) {s t : State} (h : execBarrierPost tag s = .next t) : Touches 0x8000CC02 s t := by
  unfold execBarrierPost at h
  cases h
  have hz := touches_refl 0x8000CC02 s
  with_reducible repeat' first
    | assumption | apply State.mailbox_touches | apply State.barrierPost_touches | decide | intro t ht | extract_lets

theorem execBarrierStatus_touches (seq : ℕ) {s t : State} (h : execBarrierStatus seq s = .next t) : Touches 0x80000000 s t :=
    by
  unfold execBarrierStatus at h
  cases h
  have hz := touches_refl 0x80000000 s
  with_reducible repeat' first
    | assumption | apply State.mailbox_touches | apply State.barrierStatus_touches | decide | intro t ht | extract_lets

theorem execBudgetQuery_touches {s t : State} (h : execBudgetQuery s = .next t) : Touches 0x80000000 s t := by
  unfold execBudgetQuery at h
  cases h
  have hz := touches_refl 0x80000000 s
  with_reducible repeat' first
    | assumption | apply State.mailbox_touches | apply State.budgetQuery_touches | decide | intro t ht | extract_lets

theorem execImageStatus_touches {s t : State} (h : execImageStatus s = .next t) : Touches 0x80000000 s t := by
  unfold execImageStatus at h
  cases h
  have hz := touches_refl 0x80000000 s
  with_reducible repeat' first
    | assumption | apply State.mailbox_touches | apply State.imageStatus_touches | decide | intro t ht | extract_lets

theorem execCascadeStatus_touches {s t : State} (h : execCascadeStatus s = .next t) : Touches 0x80000000 s t := by
  unfold execCascadeStatus at h
  cases h
  have hz := touches_refl 0x80000000 s
  with_reducible repeat' first
    | assumption | apply State.mailbox_touches | apply State.cascadeStatus_touches | decide | intro t ht | extract_lets

theorem execFormatArray_touches (confirm : ℕ) (flags : ℕ) (tag : ℕ) (size : ℕ) {s t : State} (h : execFormatArray confirm
    flags tag size s = .next t) : Touches 0x84000100 s t := by
  unfold execFormatArray at h
  cases h
  have hz := touches_refl 0x84000100 s
  with_reducible repeat' first
    | assumption | apply State.mailbox_touches | apply State.format_touches | decide | intro t ht | extract_lets

theorem execFormatArrayDone_touches {s t : State} (h : execFormatArrayDone s = .next t) : Touches 0xCFFFFE62 s t := by
  unfold execFormatArrayDone at h
  cases h
  have hz := touches_refl 0xCFFFFE62 s
  with_reducible repeat' first
    | assumption | apply State.formatDone_touches | decide | intro t ht | extract_lets

theorem execKeyImportBegin_touches {s t : State} (h : execKeyImportBegin s = .next t) : Touches 0x84000000 s t := by
  unfold execKeyImportBegin at h
  cases h
  have hz := touches_refl 0x84000000 s
  with_reducible repeat' first
    | assumption | apply State.mailbox_touches | apply State.keyBegin_touches | decide | intro t ht | extract_lets

theorem execKeyExport_touches (slot : ℕ) (receiver : ℕ) {s t : State} (h : execKeyExport slot receiver s = .next t) : Touches
    0x84000000 s t := by
  unfold execKeyExport at h
  cases h
  have hz := touches_refl 0x84000000 s
  with_reducible repeat' first
    | assumption | apply State.mailbox_touches | apply State.keyExport_touches | decide | intro t ht | extract_lets

theorem execKeyImport_touches (sender : ℕ) (keyId : ℕ) (wrapped : ℕ) {s t : State} (h : execKeyImport sender keyId wrapped s =
    .next t) : Touches 0x84000100 s t := by
  unfold execKeyImport at h
  cases h
  have hz := touches_refl 0x84000100 s
  with_reducible repeat' first
    | assumption | apply State.mailbox_touches | apply State.keyImport_touches | decide | intro t ht | extract_lets

theorem execRefLoss_touches {s t : State} (h : execRefLoss s = .next t) : Touches 0xCFFDFE62 s t := by
  unfold execRefLoss at h
  cases h
  have hz := touches_refl 0xCFFDFE62 s
  with_reducible repeat' first
    | assumption | apply State.refLoss_touches | decide | intro t ht | extract_lets

theorem execRefBack_touches (ppm : ℕ) {s t : State} (h : execRefBack ppm s = .next t) : Touches 0x80004C02 s t := by
  unfold execRefBack at h
  cases h
  have hz := touches_refl 0x80004C02 s
  with_reducible repeat' first
    | assumption | apply State.refBack_touches | decide | intro t ht | extract_lets

theorem execAonClkLoss_touches {s t : State} (h : execAonClkLoss s = .next t) : Touches 0xCFFDFE62 s t := by
  unfold execAonClkLoss at h
  cases h
  have hz := touches_refl 0xCFFDFE62 s
  with_reducible repeat' first
    | assumption | apply State.aonLoss_touches | decide | intro t ht | extract_lets

theorem execPllLock_touches (k : ℕ) {s t : State} (h : execPllLock k s = .next t) : Touches 0x40402022 s t := by
  unfold execPllLock at h
  cases h
  have hz := touches_refl 0x40402022 s
  with_reducible repeat' first
    | assumption | apply State.pllLock_touches | decide | intro t ht | extract_lets

theorem execPllUnlock_touches (k : ℕ) {s t : State} (h : execPllUnlock k s = .next t) : Touches 0xCFFDFE62 s t := by
  unfold execPllUnlock at h
  cases h
  have hz := touches_refl 0xCFFDFE62 s
  with_reducible repeat' first
    | assumption | apply State.pllUnlock_touches | decide | intro t ht | extract_lets

theorem execPowerOnReset_touches (retries : Option ℕ) {s t : State} (h : execPowerOnReset retries s = .next t) : Touches
    0xCFFDFE62 s t := by
  unfold execPowerOnReset at h
  cases h
  have hz := touches_refl 0xCFFDFE62 s
  with_reducible repeat' first
    | assumption | apply State.powerOn_touches | decide | intro t ht | extract_lets

theorem execBootImageVerified_touches (active : ℕ) (other : ℕ) {s t : State} (h : execBootImageVerified active other s = .next
    t) : Touches 0xCFFDFE62 s t := by
  unfold execBootImageVerified at h
  cases h
  have hz := touches_refl 0xCFFDFE62 s
  with_reducible repeat' first
    | assumption | apply State.bootVerified_touches | decide | intro t ht | extract_lets

theorem execConfigurationDone_touches (ver : ℕ) (kinds : ℕ) {s t : State} (h : execConfigurationDone ver kinds s = .next t) :
    Touches 0x82217DA2 s t := by
  unfold execConfigurationDone at h
  cases h
  have hz := touches_refl 0x82217DA2 s
  with_reducible repeat' first
    | assumption | apply State.configured_touches | decide | intro t ht | extract_lets

theorem execRstKey_touches (p : Port) (key : Word) {s t : State} (h : execRstKey p key s = .next t) : Touches 0xE7FDFE6E s t
    := by
  unfold execRstKey at h
  cases h
  have hz := touches_refl 0xE7FDFE6E s
  with_reducible repeat' first
    | assumption | apply State.portWord_touches | decide | intro t ht | extract_lets

theorem execDevRst_touches (p : Port) {s t : State} (h : execDevRst p s = .next t) : Touches 0xE7FDFE6E s t := by
  unfold execDevRst at h
  cases h
  have hz := touches_refl 0xE7FDFE6E s
  with_reducible repeat' first
    | assumption | apply State.portBits_touches | decide | intro t ht | extract_lets

theorem execQuiesceDone_touches (refreshed : Bool) (stored : Bool) {s t : State} (h : execQuiesceDone refreshed stored s =
    .next t) : Touches 0x6FFDFE6E s t := by
  unfold execQuiesceDone at h
  cases h
  have hz := touches_refl 0x6FFDFE6E s
  with_reducible repeat' first
    | assumption | apply State.quiesceDone_touches | decide | intro t ht | extract_lets

theorem execResetHoldRelease_touches {s t : State} (h : execResetHoldRelease s = .next t) : Touches 0xEFFDFE6E s t := by
  unfold execResetHoldRelease at h
  cases h
  have hz := touches_refl 0xEFFDFE6E s
  with_reducible repeat' first
    | assumption | apply State.releaseHeld_touches | decide | intro t ht | extract_lets

theorem execRecoverySample_touches (first : Bool) (second : Bool) {s t : State} (h : execRecoverySample first second s = .next
    t) : Touches 0x12022 s t := by
  unfold execRecoverySample at h
  cases h
  have hz := touches_refl 0x12022 s
  with_reducible repeat' first
    | assumption | apply State.recoverySample_touches | decide | intro t ht | extract_lets

theorem execFaultDetect_touches (page : ℕ) (src : ℕ) (kind : ℕ) (addr : ℕ) (cycle : ℕ) (place : ℕ) (alt : Bool) {s t : State}
    (h : execFaultDetect page src kind addr cycle place alt s = .next t) : Touches 0xCFFDFE62 s t := by
  unfold execFaultDetect at h
  cases h
  have hz := touches_refl 0xCFFDFE62 s
  with_reducible repeat' first
    | assumption | apply State.detectFault_touches | decide | intro t ht | extract_lets

theorem execFaultRecord_touches {s t : State} (h : execFaultRecord s = .next t) : Touches 0x80005C22 s t := by
  unfold execFaultRecord at h
  cases h
  have hz := touches_refl 0x80005C22 s
  with_reducible repeat' first
    | assumption | apply State.recordNext_touches | decide | intro t ht | extract_lets

theorem execBlockResetDone_touches (w : ScopeOf) (late : Bool) {s t : State} (h : execBlockResetDone w late s = .next t) :
    Touches 0x80204C02 s t := by
  unfold execBlockResetDone at h
  cases h
  have hz := touches_refl 0x80204C02 s
  with_reducible repeat' first
    | assumption | apply State.releaseReset_touches | decide | intro t ht | extract_lets

theorem execResetOverrun_touches (b : ℕ) {s t : State} (h : execResetOverrun b s = .next t) : Touches 0xCFFDFE62 s t := by
  unfold execResetOverrun at h
  cases h
  have hz := touches_refl 0xCFFDFE62 s
  with_reducible repeat' first
    | assumption | apply State.resetOverrun_touches | decide | intro t ht | extract_lets

theorem execResetStuck_touches (d : ℕ) {s t : State} (h : execResetStuck d s = .next t) : Touches 0xCFFDFE62 s t := by
  unfold execResetStuck at h
  cases h
  have hz := touches_refl 0xCFFDFE62 s
  with_reducible repeat' first
    | assumption | apply State.resetStuck_touches | decide | intro t ht | extract_lets

theorem execResetShadowEnd_touches (w : ScopeOf) (us : ℕ) {s t : State} (h : execResetShadowEnd w us s = .next t) : Touches
    0xCFFDFE62 s t := by
  unfold execResetShadowEnd at h
  cases h
  have hz := touches_refl 0xCFFDFE62 s
  with_reducible repeat' first
    | assumption | apply State.endShadow_touches | decide | intro t ht | extract_lets

theorem execTickStall_touches {s t : State} (h : execTickStall s = .next t) : Touches 0xCFFDFE62 s t := by
  unfold execTickStall at h
  cases h
  have hz := touches_refl 0xCFFDFE62 s
  with_reducible repeat' first
    | assumption | apply State.tickStall_touches | decide | intro t ht | extract_lets

theorem execGlenWdog_touches (k : ℕ) (cycle : ℕ) {s t : State} (h : execGlenWdog k cycle s = .next t) : Touches 0xCFFDFE62 s t
    := by
  unfold execGlenWdog at h
  cases h
  have hz := touches_refl 0xCFFDFE62 s
  with_reducible repeat' first
    | assumption | apply State.glenWdog_touches | decide | intro t ht | extract_lets

theorem execGlenRestartDone_touches (k : ℕ) (us : ℕ) {s t : State} (h : execGlenRestartDone k us s = .next t) : Touches 0x2 s
    t := by
  unfold execGlenRestartDone at h
  cases h
  have hz := touches_refl 0x2 s
  with_reducible repeat' first
    | assumption | apply State.coreBack_touches | decide | intro t ht | extract_lets

theorem execFltPop_touches (p : Port) {s t : State} (h : execFltPop p s = .next t) : Touches 0xE7FDFE6E s t := by
  unfold execFltPop at h
  cases h
  have hz := touches_refl 0xE7FDFE6E s
  with_reducible repeat' first
    | assumption | apply State.portWord_touches | decide | intro t ht | extract_lets

theorem execFltFirstClr_touches (p : Port) {s t : State} (h : execFltFirstClr p s = .next t) : Touches 0xE7FDFE6E s t := by
  unfold execFltFirstClr at h
  cases h
  have hz := touches_refl 0xE7FDFE6E s
  with_reducible repeat' first
    | assumption | apply State.portWord_touches | decide | intro t ht | extract_lets

theorem execRecEvent_touches (b : ℕ) (code : ℕ) (coincident : Bool) (detail : List Word) {s t : State} (h : execRecEvent b
    code coincident detail s = .next t) : Touches 0x80005C22 s t := by
  unfold execRecEvent at h
  cases h
  have hz := touches_refl 0x80005C22 s
  with_reducible repeat' first
    | assumption | apply State.blockEvent_touches | decide | intro t ht | extract_lets

theorem execHoursNote_touches {s t : State} (h : execHoursNote s = .next t) : Touches 0x80005C22 s t := by
  unfold execHoursNote at h
  cases h
  have hz := touches_refl 0x80005C22 s
  with_reducible repeat' first
    | assumption | apply State.hoursNote_touches | decide | intro t ht | extract_lets

theorem execFlush_touches (p : Port) {s t : State} (h : execFlush p s = .next t) : Touches 0xE7FDFE6E s t := by
  unfold execFlush at h
  cases h
  have hz := touches_refl 0xE7FDFE6E s
  with_reducible repeat' first
    | assumption | apply State.portBits_touches | decide | intro t ht | extract_lets

theorem execFlushDone_touches (failed : List ℕ) {s t : State} (h : execFlushDone failed s = .next t) : Touches 0xCFFDFE62 s t
    := by
  unfold execFlushDone at h
  cases h
  have hz := touches_refl 0xCFFDFE62 s
  with_reducible repeat' first
    | assumption | apply State.flushDone_touches | decide | intro t ht | extract_lets

theorem execFreeze_touches (p : Port) (on : Bool) {s t : State} (h : execFreeze p on s = .next t) : Touches 0xE7FDFE6E s t :=
    by
  unfold execFreeze at h
  cases h
  have hz := touches_refl 0xE7FDFE6E s
  with_reducible repeat' first
    | assumption | apply State.portBits_touches | decide | intro t ht | extract_lets

theorem execFreezeTimeout_touches {s t : State} (h : execFreezeTimeout s = .next t) : Touches 0x80005C22 s t := by
  unfold execFreezeTimeout at h
  cases h
  have hz := touches_refl 0x80005C22 s
  with_reducible repeat' first
    | assumption | apply State.freezeTimeout_touches | decide | intro t ht | extract_lets

theorem execRecRdSeq_touches (p : Port) (rseq : Word) {s t : State} (h : execRecRdSeq p rseq s = .next t) : Touches 0xE7FDFE6E
    s t := by
  unfold execRecRdSeq at h
  cases h
  have hz := touches_refl 0xE7FDFE6E s
  with_reducible repeat' first
    | assumption | apply State.portWord_touches | decide | intro t ht | extract_lets

theorem execRecReadDone_touches (p : Port) (bad : Bool) (early : Bool) {s t : State} (h : execRecReadDone p bad early s =
    .next t) : Touches 0x1022 s t := by
  unfold execRecReadDone at h
  cases h
  have hz := touches_refl 0x1022 s
  with_reducible repeat' first
    | assumption | apply State.recReadDone_touches | decide | intro t ht | extract_lets

theorem execAtolProgram_touches (p : Port) {s t : State} (h : execAtolProgram p s = .next t) : Touches 0xE7FDFE6E s t := by
  unfold execAtolProgram at h
  cases h
  have hz := touches_refl 0xE7FDFE6E s
  with_reducible repeat' first
    | assumption | apply State.portWord_touches | decide | intro t ht | extract_lets

theorem execAtolErase_touches (p : Port) {s t : State} (h : execAtolErase p s = .next t) : Touches 0xE7FDFE6E s t := by
  unfold execAtolErase at h
  cases h
  have hz := touches_refl 0xE7FDFE6E s
  with_reducible repeat' first
    | assumption | apply State.portWord_touches | decide | intro t ht | extract_lets

theorem execAtolHalt_touches (p : Port) {s t : State} (h : execAtolHalt p s = .next t) : Touches 0xE7FDFE6E s t := by
  unfold execAtolHalt at h
  cases h
  have hz := touches_refl 0xE7FDFE6E s
  with_reducible repeat' first
    | assumption | apply State.portWord_touches | decide | intro t ht | extract_lets

theorem execAtolContinue_touches (p : Port) {s t : State} (h : execAtolContinue p s = .next t) : Touches 0xE7FDFE6E s t := by
  unfold execAtolContinue at h
  cases h
  have hz := touches_refl 0xE7FDFE6E s
  with_reducible repeat' first
    | assumption | apply State.portWord_touches | decide | intro t ht | extract_lets

theorem execAtolStatus_touches (p : Port) {s t : State} (h : execAtolStatus p s = .next t) : Touches 0xE7FDFE6E s t := by
  unfold execAtolStatus at h
  cases h
  have hz := touches_refl 0xE7FDFE6E s
  with_reducible repeat' first
    | assumption | apply State.portWord_touches | decide | intro t ht | extract_lets

theorem execAtolCounts_touches (p : Port) {s t : State} (h : execAtolCounts p s = .next t) : Touches 0xE7FDFE6E s t := by
  unfold execAtolCounts at h
  cases h
  have hz := touches_refl 0xE7FDFE6E s
  with_reducible repeat' first
    | assumption | apply State.portWord_touches | apply State.beginCmd_touches | decide | apply touches_ite | intro t ht |
      extract_lets

theorem execAtolFlip_touches (p : Port) {s t : State} (h : execAtolFlip p s = .next t) : Touches 0xE7FDFE6E s t := by
  unfold execAtolFlip at h
  cases h
  have hz := touches_refl 0xE7FDFE6E s
  with_reducible repeat' first
    | assumption | apply State.portWord_touches | decide | intro t ht | extract_lets

theorem execAtolProtect_touches (p : Port) (lvl : ℕ) {s t : State} (h : execAtolProtect p lvl s = .next t) : Touches
    0xE7FDFE6E s t := by
  unfold execAtolProtect at h
  cases h
  have hz := touches_refl 0xE7FDFE6E s
  with_reducible repeat' first
    | assumption | apply State.portWord_touches | decide | intro t ht | extract_lets

theorem execAtolIdle_touches (p : Port) {s t : State} (h : execAtolIdle p s = .next t) : Touches 0xE7FDFE6E s t := by
  unfold execAtolIdle at h
  cases h
  have hz := touches_refl 0xE7FDFE6E s
  with_reducible repeat' first
    | assumption | apply State.portWord_touches | decide | intro t ht | extract_lets

theorem execAtolWindowData_touches (p : Port) (offset : ℕ) (data : Word) (late : Bool) {s t : State} (h : execAtolWindowData p
    offset data late s = .next t) : Touches 0xE7FDFE6E s t := by
  unfold execAtolWindowData at h
  cases h
  have hz := touches_refl 0xE7FDFE6E s
  with_reducible repeat' first
    | assumption | apply State.windowData_touches | decide | intro t ht | extract_lets

theorem execAtolWindowRead_touches (p : Port) (offset : ℕ) (cbits : ℕ) (ue : Bool) {s t : State} (h : execAtolWindowRead p
    offset cbits ue s = .next t) : Touches 0xCFFDFE62 s t := by
  unfold execAtolWindowRead at h
  cases h
  have hz := touches_refl 0xCFFDFE62 s
  with_reducible repeat' first
    | assumption | apply State.windowRead_touches | decide | intro t ht | extract_lets

theorem execAtolSeqTimeout_touches (p : Port) {s t : State} (h : execAtolSeqTimeout p s = .next t) : Touches 0x1000022 s t :=
    by
  unfold execAtolSeqTimeout at h
  cases h
  have hz := touches_refl 0x1000022 s
  with_reducible repeat' first
    | assumption | apply State.seqTimeout_touches | decide | intro t ht | extract_lets

theorem execAtolProgramDone_touches (pulses : ℕ) (good : Bool) {s t : State} (h : execAtolProgramDone pulses good s = .next t)
    : Touches 0xCFFDFE62 s t := by
  unfold execAtolProgramDone at h
  cases h
  have hz := touches_refl 0xCFFDFE62 s
  with_reducible repeat' first
    | assumption | apply State.atolProgramDone_touches | decide | intro t ht | extract_lets

theorem execAtolEraseDone_touches (good : Bool) {s t : State} (h : execAtolEraseDone good s = .next t) : Touches 0xCFFDFE62 s
    t := by
  unfold execAtolEraseDone at h
  cases h
  have hz := touches_refl 0xCFFDFE62 s
  with_reducible repeat' first
    | assumption | apply State.atolEraseDone_touches | decide | intro t ht | extract_lets

theorem execWipeDone_touches {s t : State} (h : execWipeDone s = .next t) : Touches 0x6FFDFFEE s t := by
  unfold execWipeDone at h
  cases h
  have hz := touches_refl 0x6FFDFFEE s
  with_reducible repeat' first
    | assumption | apply State.wipeDone_touches | decide | intro t ht | extract_lets

theorem execPollDue_touches (n : ℕ) {s t : State} (h : execPollDue n s = .next t) : Touches 0x2000000 s t := by
  unfold execPollDue at h
  cases h
  have hz := touches_refl 0x2000000 s
  with_reducible repeat' first
    | assumption | apply State.pollDue_touches | decide | intro t ht | extract_lets

theorem execTwlTransactionStart_touches {s t : State} (h : execTwlTransactionStart s = .next t) : Touches 0x2000002 s t := by
  unfold execTwlTransactionStart at h
  cases h
  have hz := touches_refl 0x2000002 s
  with_reducible repeat' first
    | assumption | apply State.twlStart_touches | decide | intro t ht | extract_lets

theorem execTwlTransactionDone_touches (e : TwlEnd) {s t : State} (h : execTwlTransactionDone e s = .next t) : Touches
    0xCFFDFE62 s t := by
  unfold execTwlTransactionDone at h
  cases h
  have hz := touches_refl 0xCFFDFE62 s
  with_reducible repeat' first
    | assumption | apply State.twlDone_touches | decide | intro t ht | extract_lets

theorem execTwlTimeout_touches (stuck : Bool) {s t : State} (h : execTwlTimeout stuck s = .next t) : Touches 0xCFFDFE62 s t :=
    by
  unfold execTwlTimeout at h
  cases h
  have hz := touches_refl 0xCFFDFE62 s
  with_reducible repeat' first
    | assumption | apply State.twlTimeout_touches | decide | intro t ht | extract_lets

theorem execBusStuckRetry_touches (freed : Bool) {s t : State} (h : execBusStuckRetry freed s = .next t) : Touches 0x2 s t :=
    by
  unfold execBusStuckRetry at h
  cases h
  have hz := touches_refl 0x2 s
  with_reducible repeat' first
    | assumption | apply State.busRetry_touches | decide | intro t ht | extract_lets

theorem execHostNotify_touches (addr : ℕ) (status : ℕ) {s t : State} (h : execHostNotify addr status s = .next t) : Touches
    0x82004C22 s t := by
  unfold execHostNotify at h
  cases h
  have hz := touches_refl 0x82004C22 s
  with_reducible repeat' first
    | assumption | apply State.hostNotify_touches | decide | intro t ht | extract_lets

theorem execTwlNpop_touches (p : Port) {s t : State} (h : execTwlNpop p s = .next t) : Touches 0xE7FDFE6E s t := by
  unfold execTwlNpop at h
  cases h
  have hz := touches_refl 0xE7FDFE6E s
  with_reducible repeat' first
    | assumption | apply State.portWord_touches | decide | intro t ht | extract_lets

theorem execLocAlert_touches (low : Bool) {s t : State} (h : execLocAlert low s = .next t) : Touches 0x2000000 s t := by
  unfold execLocAlert at h
  cases h
  have hz := touches_refl 0x2000000 s
  with_reducible repeat' first
    | assumption | apply State.locAlert_touches | decide | intro t ht | extract_lets

theorem execAraBackoff_touches {s t : State} (h : execAraBackoff s = .next t) : Touches 0x2000000 s t := by
  unfold execAraBackoff at h
  cases h
  have hz := touches_refl 0x2000000 s
  with_reducible repeat' first
    | assumption | apply State.araReady_touches | decide | intro t ht | extract_lets

theorem execTwlXcmdGo_touches (p : Port) {s t : State} (h : execTwlXcmdGo p s = .next t) : Touches 0xE7FDFE6E s t := by
  unfold execTwlXcmdGo at h
  cases h
  have hz := touches_refl 0xE7FDFE6E s
  with_reducible repeat' first
    | assumption | apply State.portBits_touches | decide | intro t ht | extract_lets

theorem execRegWrite_touches (count : ℕ) (a0 : BitVec 8) (a1 : BitVec 8) (a2 : BitVec 8) (words : List Word) (pecOk : Bool) {s
    t : State} (h : execRegWrite count a0 a1 a2 words pecOk s = .next t) : Touches 0xEFFDFE6E s t := by
  unfold execRegWrite at h
  cases h
  have hz := touches_refl 0xEFFDFE6E s
  with_reducible repeat' first
    | assumption | apply State.sbWrite_touches | decide | intro t ht | extract_lets

theorem execRegRead_touches (count : ℕ) (a0 : BitVec 8) (a1 : BitVec 8) (a2 : BitVec 8) (k : ℕ) {s t : State} (h : execRegRead
    count a0 a1 a2 k s = .next t) : Touches 0xCFFDFE6A s t := by
  unfold execRegRead at h
  cases h
  have hz := touches_refl 0xCFFDFE6A s
  with_reducible repeat' first
    | assumption | apply State.sbRead_touches | decide | intro t ht | extract_lets

theorem execReset_touches (count : ℕ) (bytes : List (BitVec 8)) (pecOk : Bool) {s t : State} (h : execReset count bytes pecOk
    s = .next t) : Touches 0xCFFDFE62 s t := by
  unfold execReset at h
  cases h
  have hz := touches_refl 0xCFFDFE62 s
  with_reducible repeat' first
    | assumption | apply State.sbReset_touches | decide | intro t ht | extract_lets

theorem execSbAra_touches {s t : State} (h : execSbAra s = .next t) : Touches 0x80000000 s t := by
  unfold execSbAra at h
  cases h
  have hz := touches_refl 0x80000000 s
  with_reducible repeat' first
    | assumption | apply State.sbAra_touches | decide | intro t ht | extract_lets

theorem execSbTimeout_touches {s t : State} (h : execSbTimeout s = .next t) : Touches 0x22 s t := by
  unfold execSbTimeout at h
  cases h
  have hz := touches_refl 0x22 s
  with_reducible repeat' first
    | assumption | apply State.sbTimeout_touches | decide | intro t ht | extract_lets

theorem execSbProtocolAbandon_touches {s t : State} (h : execSbProtocolAbandon s = .next t) : Touches 0xCFFDFE62 s t := by
  unfold execSbProtocolAbandon at h
  cases h
  have hz := touches_refl 0xCFFDFE62 s
  with_reducible repeat' first
    | assumption | apply State.sbAbandon_touches | decide | intro t ht | extract_lets

theorem execGatedPageRead_touches (p : Port) (addr : ℕ) {s t : State} (h : execGatedPageRead p addr s = .next t) : Touches
    0xCFFDFE6A s t := by
  unfold execGatedPageRead at h
  cases h
  have hz := touches_refl 0xCFFDFE6A s
  with_reducible repeat' first
    | assumption | apply State.portRead_touches | decide | intro t ht | extract_lets

theorem execSbCommandRefused_touches (code : ℕ) {s t : State} (h : execSbCommandRefused code s = .next t) : Touches 0x22 s t
    := by
  unfold execSbCommandRefused at h
  cases h
  have hz := touches_refl 0x22 s
  with_reducible repeat' first
    | assumption | apply State.sbRefused_touches | decide | intro t ht | extract_lets

theorem execIdent_touches (tag : ℕ) (good : Bool) {s t : State} (h : execIdent tag good s = .next t) : Touches 0xCFFDFE62 s t
    := by
  unfold execIdent at h
  cases h
  have hz := touches_refl 0xCFFDFE62 s
  with_reducible repeat' first
    | assumption | apply State.svcFrame_touches | apply State.svcIdent_touches | decide | intro t ht | extract_lets

theorem execSvcFrameShort_touches {s t : State} (h : execSvcFrameShort s = .next t) : Touches 0x22 s t := by
  unfold execSvcFrameShort at h
  cases h
  have hz := touches_refl 0x22 s
  with_reducible repeat' first
    | assumption | apply State.svcShort_touches | decide | intro t ht | extract_lets

theorem execStatus_touches (tag : ℕ) (good : Bool) {s t : State} (h : execStatus tag good s = .next t) : Touches 0xCFFDFE62 s
    t := by
  unfold execStatus at h
  cases h
  have hz := touches_refl 0xCFFDFE62 s
  with_reducible repeat' first
    | assumption | apply State.svcFrame_touches | apply State.svcStatus_touches | decide | intro t ht | extract_lets

theorem execPkgBegin_touches (tag : ℕ) (good : Bool) (payload : List (BitVec 8)) {s t : State} (h : execPkgBegin tag good
    payload s = .next t) : Touches 0xCFFDFE62 s t := by
  unfold execPkgBegin at h
  cases h
  have hz := touches_refl 0xCFFDFE62 s
  with_reducible repeat' first
    | assumption | apply State.svcCommand_touches | apply State.pkgBegin_touches | decide | intro t ht | extract_lets

theorem execUpdHashDone_touches {s t : State} (h : execUpdHashDone s = .next t) : Touches 0x89005C22 s t := by
  unfold execUpdHashDone at h
  cases h
  have hz := touches_refl 0x89005C22 s
  with_reducible repeat' first
    | assumption | apply State.hashDone_touches | decide | intro t ht | extract_lets

theorem execUpdEraseDone_touches {s t : State} (h : execUpdEraseDone s = .next t) : Touches 0x8000002 s t := by
  unfold execUpdEraseDone at h
  cases h
  have hz := touches_refl 0x8000002 s
  with_reducible repeat' first
    | assumption | apply State.updErased_touches | decide | intro t ht | extract_lets

theorem execPkgData_touches (tag : ℕ) (good : Bool) (payload : List (BitVec 8)) {s t : State} (h : execPkgData tag good
    payload s = .next t) : Touches 0xCFFDFE62 s t := by
  unfold execPkgData at h
  cases h
  have hz := touches_refl 0xCFFDFE62 s
  with_reducible repeat' first
    | assumption | apply State.svcCommand_touches | apply State.svcData_touches | decide | intro t ht | extract_lets

theorem execPkgEnd_touches (tag : ℕ) (good : Bool) {s t : State} (h : execPkgEnd tag good s = .next t) : Touches 0xCFFDFE62 s
    t := by
  unfold execPkgEnd at h
  cases h
  have hz := touches_refl 0xCFFDFE62 s
  with_reducible repeat' first
    | assumption | apply State.svcCommand_touches | apply State.svcEnd_touches | decide | intro t ht | extract_lets

theorem execUpdCheckDone_touches {s t : State} (h : execUpdCheckDone s = .next t) : Touches 0x89005C22 s t := by
  unfold execUpdCheckDone at h
  cases h
  have hz := touches_refl 0x89005C22 s
  with_reducible repeat' first
    | assumption | apply State.updChecked_touches | decide | intro t ht | extract_lets

theorem execActivate_touches (tag : ℕ) (good : Bool) {s t : State} (h : execActivate tag good s = .next t) : Touches
    0xCFFDFE62 s t := by
  unfold execActivate at h
  cases h
  have hz := touches_refl 0xCFFDFE62 s
  with_reducible repeat' first
    | assumption | apply State.svcCommand_touches | apply State.svcActivate_touches | decide | intro t ht | extract_lets

theorem execAbort_touches (tag : ℕ) (good : Bool) {s t : State} (h : execAbort tag good s = .next t) : Touches 0xCFFDFE62 s t
    := by
  unfold execAbort at h
  cases h
  have hz := touches_refl 0xCFFDFE62 s
  with_reducible repeat' first
    | assumption | apply State.svcCommand_touches | apply State.svcAbort_touches | decide | intro t ht | extract_lets

theorem execRcvBegin_touches (tag : ℕ) (good : Bool) (payload : List (BitVec 8)) {s t : State} (h : execRcvBegin tag good
    payload s = .next t) : Touches 0xCFFDFE62 s t := by
  unfold execRcvBegin at h
  cases h
  have hz := touches_refl 0xCFFDFE62 s
  with_reducible repeat' first
    | assumption | apply State.svcCommand_touches | apply State.rcvBegin_touches | decide | intro t ht | extract_lets

theorem execRcvData_touches (tag : ℕ) (good : Bool) (payload : List (BitVec 8)) {s t : State} (h : execRcvData tag good
    payload s = .next t) : Touches 0xCFFDFE62 s t := by
  unfold execRcvData at h
  cases h
  have hz := touches_refl 0xCFFDFE62 s
  with_reducible repeat' first
    | assumption | apply State.svcCommand_touches | apply State.svcData_touches | decide | intro t ht | extract_lets

theorem execRcvEnd_touches (tag : ℕ) (good : Bool) {s t : State} (h : execRcvEnd tag good s = .next t) : Touches 0xCFFDFE62 s
    t := by
  unfold execRcvEnd at h
  cases h
  have hz := touches_refl 0xCFFDFE62 s
  with_reducible repeat' first
    | assumption | apply State.svcCommand_touches | apply State.svcEnd_touches | decide | intro t ht | extract_lets

theorem execRcvCheckDone_touches {s t : State} (h : execRcvCheckDone s = .next t) : Touches 0x89005C22 s t := by
  unfold execRcvCheckDone at h
  cases h
  have hz := touches_refl 0x89005C22 s
  with_reducible repeat' first
    | assumption | apply State.rcvChecked_touches | decide | intro t ht | extract_lets

theorem execProtSet_touches (tag : ℕ) (good : Bool) (payload : List (BitVec 8)) {s t : State} (h : execProtSet tag good
    payload s = .next t) : Touches 0xCFFDFE62 s t := by
  unfold execProtSet at h
  cases h
  have hz := touches_refl 0xCFFDFE62 s
  with_reducible repeat' first
    | assumption | apply State.svcCommand_touches | apply State.protSet_touches | decide | intro t ht | extract_lets

theorem execEcRead_touches (tag : ℕ) (good : Bool) (payload : List (BitVec 8)) {s t : State} (h : execEcRead tag good payload
    s = .next t) : Touches 0xCFFDFE62 s t := by
  unfold execEcRead at h
  cases h
  have hz := touches_refl 0xCFFDFE62 s
  with_reducible repeat' first
    | assumption | apply State.svcCommand_touches | apply State.svcEc_touches | decide | intro t ht | extract_lets

theorem execBadOp_touches (tag : ℕ) (good : Bool) {s t : State} (h : execBadOp tag good s = .next t) : Touches 0xCFFDFE62 s t
    := by
  unfold execBadOp at h
  cases h
  have hz := touches_refl 0xCFFDFE62 s
  with_reducible repeat' first
    | assumption | apply State.svcFrame_touches | apply State.svcAnswer_touches | decide | intro t ht | extract_lets

theorem execRequestTerrace_touches (p : Port) {s t : State} (h : execRequestTerrace p s = .next t) : Touches 0xE7FDFE6E s t :=
    by
  unfold execRequestTerrace at h
  cases h
  have hz := touches_refl 0xE7FDFE6E s
  with_reducible repeat' first
    | assumption | apply State.portBits_touches | decide | intro t ht | extract_lets

theorem execRequestBasin_touches (p : Port) {s t : State} (h : execRequestBasin p s = .next t) : Touches 0xE7FDFE6E s t := by
  unfold execRequestBasin at h
  cases h
  have hz := touches_refl 0xE7FDFE6E s
  with_reducible repeat' first
    | assumption | apply State.portBits_touches | decide | intro t ht | extract_lets

theorem execRequestRun_touches (p : Port) {s t : State} (h : execRequestRun p s = .next t) : Touches 0xE7FDFE6E s t := by
  unfold execRequestRun at h
  cases h
  have hz := touches_refl 0xE7FDFE6E s
  with_reducible repeat' first
    | assumption | apply State.portBits_touches | decide | intro t ht | extract_lets

theorem execAutoTerrace_touches (leaves : Bool) {s t : State} (h : execAutoTerrace leaves s = .next t) : Touches 0x80204C22 s
    t := by
  unfold execAutoTerrace at h
  cases h
  have hz := touches_refl 0x80204C22 s
  with_reducible repeat' first
    | assumption | apply State.autoTerrace_touches | decide | intro t ht | extract_lets

theorem execL2Entry_touches {s t : State} (h : execL2Entry s = .next t) : Touches 0x80204C22 s t := by
  unfold execL2Entry at h
  cases h
  have hz := touches_refl 0x80204C22 s
  with_reducible repeat' first
    | assumption | apply State.l2Entry_touches | decide | intro t ht | extract_lets

theorem execStopPointReached_touches {s t : State} (h : execStopPointReached s = .next t) : Touches 0x4802 s t := by
  unfold execStopPointReached at h
  cases h
  have hz := touches_refl 0x4802 s
  with_reducible repeat' first
    | assumption | apply State.stopPoint_touches | decide | intro t ht | extract_lets

theorem execDomainReady_touches {s t : State} (h : execDomainReady s = .next t) : Touches 0x80607E22 s t := by
  unfold execDomainReady at h
  cases h
  have hz := touches_refl 0x80607E22 s
  with_reducible repeat' first
    | assumption | apply State.domainReady_touches | decide | intro t ht | extract_lets

theorem execDomainTimeout_touches (d : ℕ) (late : Bool) {s t : State} (h : execDomainTimeout d late s = .next t) : Touches
    0xCFFDFE62 s t := by
  unfold execDomainTimeout at h
  cases h
  have hz := touches_refl 0xCFFDFE62 s
  with_reducible repeat' first
    | assumption | apply State.domainTimeout_touches | decide | intro t ht | extract_lets

theorem execExitDone_touches {s t : State} (h : execExitDone s = .next t) : Touches 0x80007C22 s t := by
  unfold execExitDone at h
  cases h
  have hz := touches_refl 0x80007C22 s
  with_reducible repeat' first
    | assumption | apply State.exitDone_touches | decide | intro t ht | extract_lets

theorem execScrubLineDue_touches {s t : State} (h : execScrubLineDue s = .next t) : Touches 0xA0404C22 s t := by
  unfold execScrubLineDue at h
  cases h
  have hz := touches_refl 0xA0404C22 s
  with_reducible repeat' first
    | assumption | apply State.scrubLine_touches | decide | intro t ht | extract_lets

theorem execRoundLate_touches {s t : State} (h : execRoundLate s = .next t) : Touches 0xEFFDFE62 s t := by
  unfold execRoundLate at h
  cases h
  have hz := touches_refl 0xEFFDFE62 s
  with_reducible repeat' first
    | assumption | apply State.roundLate_touches | decide | intro t ht | extract_lets

theorem execRetentionScanDue_touches (restored : Bool) {s t : State} (h : execRetentionScanDue restored s = .next t) : Touches
    0x40000002 s t := by
  unfold execRetentionScanDue at h
  cases h
  have hz := touches_refl 0x40000002 s
  with_reducible repeat' first
    | assumption | apply State.retentionDue_touches | decide | intro t ht | extract_lets

theorem execScanLate_touches {s t : State} (h : execScanLate s = .next t) : Touches 0xCFFDFE62 s t := by
  unfold execScanLate at h
  cases h
  have hz := touches_refl 0xCFFDFE62 s
  with_reducible repeat' first
    | assumption | apply State.scanLate_touches | decide | intro t ht | extract_lets

theorem execZqDue_touches (sc : ℕ) (lrank : ℕ) {s t : State} (h : execZqDue sc lrank s = .next t) : Touches 0x40000002 s t :=
    by
  unfold execZqDue at h
  cases h
  have hz := touches_refl 0x40000002 s
  with_reducible repeat' first
    | assumption | apply State.zqDue_touches | decide | intro t ht | extract_lets

theorem execOscDue_touches (sc : ℕ) (lrank : ℕ) (drift : ℕ) {s t : State} (h : execOscDue sc lrank drift s = .next t) :
    Touches 0x40000002 s t := by
  unfold execOscDue at h
  cases h
  have hz := touches_refl 0x40000002 s
  with_reducible repeat' first
    | assumption | apply State.oscDue_touches | decide | intro t ht | extract_lets

theorem execFcalDue_touches (c : ℕ) (d : ℕ) (plane : ℕ) (group : ℕ) (below : ℕ) (present : ℕ) (above : ℕ) {s t : State} (h :
    execFcalDue c d plane group below present above s = .next t) : Touches 0x40040002 s t := by
  unfold execFcalDue at h
  cases h
  have hz := touches_refl 0x40040002 s
  with_reducible repeat' first
    | assumption | apply State.fcalDue_touches | decide | intro t ht | extract_lets

theorem execOnfiZqDue_touches (c : ℕ) {s t : State} (h : execOnfiZqDue c s = .next t) : Touches 0x40000000 s t := by
  unfold execOnfiZqDue at h
  cases h
  have hz := touches_refl 0x40000000 s
  with_reducible repeat' first
    | assumption | apply State.onfiDue_touches | decide | intro t ht | extract_lets

theorem execCapTestDue_touches {s t : State} (h : execCapTestDue s = .next t) : Touches 0x42010002 s t := by
  unfold execCapTestDue at h
  cases h
  have hz := touches_refl 0x42010002 s
  with_reducible repeat' first
    | assumption | apply State.capDue_touches | decide | intro t ht | extract_lets

theorem execCapGo_touches (p : Port) {s t : State} (h : execCapGo p s = .next t) : Touches 0xE7FDFE6E s t := by
  unfold execCapGo at h
  cases h
  have hz := touches_refl 0xE7FDFE6E s
  with_reducible repeat' first
    | assumption | apply State.portBits_touches | decide | intro t ht | extract_lets

theorem execCapMaxExpiry_touches (late : Option ℕ) {s t : State} (h : execCapMaxExpiry late s = .next t) : Touches 0xCFFDFE62
    s t := by
  unfold execCapMaxExpiry at h
  cases h
  have hz := touches_refl 0xCFFDFE62 s
  with_reducible repeat' first
    | assumption | apply State.capExpired_touches | decide | intro t ht | extract_lets

theorem execWearHorizonUpdate_touches {s t : State} (h : execWearHorizonUpdate s = .next t) : Touches 0xC0005C22 s t := by
  unfold execWearHorizonUpdate at h
  cases h
  have hz := touches_refl 0xC0005C22 s
  with_reducible repeat' first
    | assumption | apply State.wearUpdate_touches | decide | intro t ht | extract_lets

theorem execTelemetrySample_touches (tj : ℤ) (mw : ℕ) {s t : State} (h : execTelemetrySample tj mw s = .next t) : Touches
    0x40000022 s t := by
  unfold execTelemetrySample at h
  cases h
  have hz := touches_refl 0x40000022 s
  with_reducible repeat' first
    | assumption | apply State.telemetry_touches | decide | intro t ht | extract_lets

theorem execDscrMpop_touches (p : Port) {s t : State} (h : execDscrMpop p s = .next t) : Touches 0xE7FDFE6E s t := by
  unfold execDscrMpop at h
  cases h
  have hz := touches_refl 0xE7FDFE6E s
  with_reducible repeat' first
    | assumption | apply State.portWord_touches | decide | intro t ht | extract_lets

theorem execTapReset_touches {s t : State} (h : execTapReset s = .next t) : Touches 0xD0056C62 s t := by
  unfold execTapReset at h
  cases h
  have hz := touches_refl 0xD0056C62 s
  with_reducible repeat' first
    | assumption | apply State.tapReset_touches | decide | intro t ht | extract_lets

theorem execExtest_touches (pins : ℕ) (shifted : Option ℕ) {s t : State} (h : execExtest pins shifted s = .next t) : Touches
    0xFFFDFE6E s t := by
  unfold execExtest at h
  cases h
  have hz := touches_refl 0xFFFDFE6E s
  with_reducible repeat' first
    | assumption | apply State.boundary_touches | apply State.loadIr_touches | decide | intro t ht | extract_lets

theorem execSample_touches (pins : ℕ) {s t : State} (h : execSample pins s = .next t) : Touches 0xFFFDFE6E s t := by
  unfold execSample at h
  cases h
  have hz := touches_refl 0xFFFDFE6E s
  with_reducible repeat' first
    | assumption | apply State.boundary_touches | apply State.loadIr_touches | decide | intro t ht | extract_lets

theorem execPreload_touches (pins : ℕ) (shifted : Option ℕ) {s t : State} (h : execPreload pins shifted s = .next t) : Touches
    0xFFFDFE6E s t := by
  unfold execPreload at h
  cases h
  have hz := touches_refl 0xFFFDFE6E s
  with_reducible repeat' first
    | assumption | apply State.boundary_touches | apply State.loadIr_touches | decide | intro t ht | extract_lets

theorem execIdcode_touches {s t : State} (h : execIdcode s = .next t) : Touches 0xFFFDFE6E s t := by
  unfold execIdcode at h
  cases h
  have hz := touches_refl 0xFFFDFE6E s
  with_reducible repeat' first
    | assumption | apply State.jtagOut_touches | apply State.loadIr_touches | decide | intro t ht | extract_lets

theorem execClamp_touches {s t : State} (h : execClamp s = .next t) : Touches 0xFFFDFE6E s t := by
  unfold execClamp at h
  cases h
  have hz := touches_refl 0xFFFDFE6E s
  with_reducible repeat' first
    | assumption | apply State.jtagOut_touches | apply State.loadIr_touches | decide | intro t ht | extract_lets

theorem execHighz_touches {s t : State} (h : execHighz s = .next t) : Touches 0xFFFDFE6E s t := by
  unfold execHighz at h
  cases h
  have hz := touches_refl 0xFFFDFE6E s
  with_reducible repeat' first
    | assumption | apply State.jtagOut_touches | apply State.loadIr_touches | decide | intro t ht | extract_lets

theorem execExtestPulse_touches (pins : ℕ) (shifted : Option ℕ) {s t : State} (h : execExtestPulse pins shifted s = .next t) :
    Touches 0xFFFDFE6E s t := by
  unfold execExtestPulse at h
  cases h
  have hz := touches_refl 0xFFFDFE6E s
  with_reducible repeat' first
    | assumption | apply State.boundary_touches | apply State.loadIr_touches | decide | intro t ht | extract_lets

theorem execExtestTrain_touches (pins : ℕ) (shifted : Option ℕ) {s t : State} (h : execExtestTrain pins shifted s = .next t) :
    Touches 0xFFFDFE6E s t := by
  unfold execExtestTrain at h
  cases h
  have hz := touches_refl 0xFFFDFE6E s
  with_reducible repeat' first
    | assumption | apply State.boundary_touches | apply State.loadIr_touches | decide | intro t ht | extract_lets

theorem execSysId_touches {s t : State} (h : execSysId s = .next t) : Touches 0xFFFDFE6E s t := by
  unfold execSysId at h
  cases h
  have hz := touches_refl 0xFFFDFE6E s
  with_reducible repeat' first
    | assumption | apply State.jtagOut_touches | apply State.loadIr_touches | decide | intro t ht | extract_lets

theorem execTstReset_touches {s t : State} (h : execTstReset s = .next t) : Touches 0xFFFDFE6E s t := by
  unfold execTstReset at h
  cases h
  have hz := touches_refl 0xFFFDFE6E s
  with_reducible repeat' first
    | assumption | apply State.tstReset_touches | decide | intro t ht | extract_lets

theorem execAtolRead_touches (word : ℕ) (cbits : ℕ) (ue : Bool) (ready : Bool) {s t : State} (h : execAtolRead word cbits ue
    ready s = .next t) : Touches 0xFFFDFE6E s t := by
  unfold execAtolRead at h
  cases h
  have hz := touches_refl 0xFFFDFE6E s
  with_reducible repeat' first
    | assumption | apply State.tstRead_touches | decide | intro t ht | extract_lets

theorem execAtolEc_touches (b : ℕ) {s t : State} (h : execAtolEc b s = .next t) : Touches 0xFFFDFE6E s t := by
  unfold execAtolEc at h
  cases h
  have hz := touches_refl 0xFFFDFE6E s
  with_reducible repeat' first
    | assumption | apply State.tstEc_touches | decide | intro t ht | extract_lets

theorem execBypass_touches (code : ℕ) {s t : State} (h : execBypass code s = .next t) : Touches 0xFFFDFE6E s t := by
  unfold execBypass at h
  have hz := touches_refl 0xFFFDFE6E s
  split at h <;> cases h <;> (with_reducible repeat' first
    | assumption | apply State.jtagOut_touches | apply State.loadIr_touches | decide | apply touches_ite | intro t ht | extract_lets)

end Sys2Proof.Machine
end

