-- ==== Sys2Proof/Laws/Fits.lean ====
section
/-! SUPPORT. The tables of waiting work stay within their sizes: one lemma for each operation that can touch them. -/

set_option linter.unreachableTactic false
set_option linter.unusedTactic false
set_option linter.unusedVariables false

namespace Sys2Proof.Machine

/-- The four tables are those of a state in which they fit. -/
theorem fits_mk {s t : State} (h : s.Fits) (h1 : t.pers.hold = s.pers.hold) (h2 : t.pers.barriers = s.pers.barriers)
    (h3 : t.pers.posts = s.pers.posts) (h4 : t.rstr.heldTable = s.rstr.heldTable) : t.Fits :=
  ⟨h1 ▸ h.hold, h4 ▸ h.held, h2 ▸ h.barriers, h3 ▸ h.posts⟩

/-- Nothing of PERS or RSTR is touched. -/
theorem fits_of {m : Nat} {s t : State} (h : Touches m s t) (h1 : m.testBit 15 = false) (h2 : m.testBit 20 = false)
    (hs : s.Fits) : t.Fits := by
  have e1 : t.pers = s.pers := h.frame .pers h1
  have e2 : t.rstr = s.rstr := h.frame .rstr h2
  exact fits_mk hs (by rw [e1]) (by rw [e1]) (by rw [e1]) (by rw [e2])

/-- PERS is replaced by one whose tables fit. -/
theorem fits_setPers {s : State} {x : Pers} (h : s.Fits) (h1 : x.hold.length ≤ 256) (h2 : x.barriers.length ≤ 16)
    (h3 : x.posts.length ≤ 64) : (s.setPers x).Fits := ⟨h1, h.held, h2, h3⟩

/-- A plane is replaced. -/
theorem setPlane_tables (p : Pers) (e : Nat) (l : List Nat) : (p.setPlane e l).hold = p.hold ∧
    (p.setPlane e l).barriers = p.barriers ∧ (p.setPlane e l).posts = p.posts := by
  unfold Pers.setPlane; split <;> exact ⟨rfl, rfl, rfl⟩

/-- The hold queue of PERS with a plane replaced. -/
theorem setPlane_hold {p : Pers} {e : Nat} {l : List Nat} (h : p.hold.length ≤ 256) : (p.setPlane e l).hold.length ≤ 256 :=
  (setPlane_tables p e l).1 ▸ h

/-- The open barriers of PERS with a plane replaced. -/
theorem setPlane_barriers {p : Pers} {e : Nat} {l : List Nat} (h : p.barriers.length ≤ 16) :
    (p.setPlane e l).barriers.length ≤ 16 := (setPlane_tables p e l).2.1 ▸ h

/-- The kept posts of PERS with a plane replaced. -/
theorem setPlane_posts {p : Pers} {e : Nat} {l : List Nat} (h : p.posts.length ≤ 64) : (p.setPlane e l).posts.length ≤ 64 :=
  (setPlane_tables p e l).2.2 ▸ h

/-- RSTR is replaced by one whose table fits. -/
theorem fits_setRstr {s : State} {x : Rstr} (h : s.Fits) (h1 : x.heldTable.length ≤ 512) : (s.setRstr x).Fits :=
  ⟨h.hold, h1, h.barriers, h.posts⟩

/-- Some parts are replaced, by parts whose tables fit. -/
theorem fits_state {s : State}
    {regs' : Sparse Word} {late' : Sparse Word} {latch' : Sparse Word} {now' : Nat}
    {freeCtr' : Nat} {dram' : Sparse Line} {cfgStore' : Sparse Word} {kept' : Kept} {leases' : Sparse Lease}
    {mgp' : Mgp} {flt' : Flt} {recd' : Recorder} {rst' : Rst} {pwr' : Pwr}
    {pers' : Pers} {save' : Save} {arr' : Arr} {farr' : Farr} {mov' : Mov}
    {rstr' : Rstr} {hlk' : Hlk} {drc' : Drc} {strt' : Strt} {atol' : Atol}
    {twl' : Twl} {mbox' : Mbox} {svc' : Svc} {tst' : Tst} {dscr' : Dscr}
    {upk' : Upk} {out' : List Out} {pending' : List Instr}
    (h : s.Fits) (h1 : pers'.hold.length ≤ 256) (h2 : pers'.barriers.length ≤ 16) (h3 : pers'.posts.length ≤ 64)
    (h4 : rstr'.heldTable.length ≤ 512) :
    State.Fits (State.mk
      s.mdl regs' late' latch' now' freeCtr' dram' cfgStore' kept' leases' mgp' flt' recd' rst' pwr' pers' save' arr'
      farr' mov' rstr' hlk' drc' strt' atol' twl' mbox' svc' tst' dscr' upk' out' pending') :=
  ⟨h1, h4, h2, h3⟩

/-- What Atoll keeps is replaced. -/
theorem State.setKept_fits {s : State} (h : s.Fits) (x : Kept) : (s.setKept x).Fits := fits_mk h rfl rfl rfl rfl

/-- A table through a map. -/
theorem map_fits {α β : Type} {l : List α} {f : α → β} {n : Nat} (h : l.length ≤ n) : (l.map f).length ≤ n :=
  (List.length_map f).symm ▸ h

/-- A table through a filter. -/
theorem filter_fits {α : Type} {l : List α} {f : α → Bool} {n : Nat} (h : l.length ≤ n) : (l.filter f).length ≤ n :=
  Nat.le_trans (List.length_filter_le f l) h

/-- An empty table. -/
theorem nil_fits {α : Type} {n : Nat} : ([] : List α).length ≤ n := Nat.zero_le _

/-- PERS at its start holds nothing. -/
theorem init_hold : Pers.init.hold.length ≤ 256 := Nat.zero_le _

/-- PERS at its start has no open barrier. -/
theorem init_barriers : Pers.init.barriers.length ≤ 16 := Nat.zero_le _

/-- PERS at its start keeps no post. -/
theorem init_posts : Pers.init.posts.length ≤ 64 := Nat.zero_le _

/-- RSTR at its start holds no request. -/
theorem init_held : Rstr.init.heldTable.length ≤ 512 := Nat.zero_le _

/-- Barriers discharged. -/
theorem discharge_fits {e : Nat} {r : Option Nat} {l : List Barrier} {n : Nat} (h : l.length ≤ n) :
    (dischargeBars e r l).length ≤ n := map_fits h

/-- Either way. -/
theorem fits_ite {a b : State} {c : Prop} [Decidable c] (ha : a.Fits) (hb : b.Fits) : (if c then a else b).Fits := by
  split <;> assumption

/-- The first part of either pair. -/
theorem fits_ite_fst {β : Type} {a b : State × β} {c : Prop} [Decidable c] (ha : a.1.Fits) (hb : b.1.Fits) :
    (if c then a else b).1.Fits := by split <;> assumption

/-- A fold. -/
theorem fits_foldl {α : Type} (f : State → α → State) (l : List α) (s : State) (h : s.Fits)
    (hf : ∀ t a, t.Fits → (f t a).Fits) : (l.foldl f s).Fits := by
  induction l generalizing s with
  | nil => exact h
  | cons a l ih => exact ih _ (hf s a h)

/-- A fold over a state and a value. -/
theorem fits_foldl_fst {α β : Type} (f : State × β → α → State × β) (l : List α) (s : State × β) (h : s.1.Fits)
    (hf : ∀ t a, t.1.Fits → (f t a).1.Fits) : (l.foldl f s).1.Fits := by
  induction l generalizing s with
  | nil => exact h
  | cons a l ih => exact ih _ (hf s a h)

theorem State.setWord_fits {s : State} (hz : s.Fits) (k : ℕ) (w : Word) : (State.setWord s k w).Fits := fits_mk hz rfl rfl rfl rfl

theorem State.setLine_fits {s : State} (hz : s.Fits) (l : ℕ) (v : Line) : (State.setLine s l v).Fits := fits_mk hz rfl rfl rfl rfl

theorem State.setSave_fits {s : State} (hz : s.Fits) (x : Save) : State.Fits (State.setSave s x) :=
  fits_of (State.setSave_touches (m := 0x10000) (touches_refl _ s) (by decide) x) (by decide) (by decide) hz

theorem State.setArr_fits {s : State} (hz : s.Fits) (x : Arr) : State.Fits (State.setArr s x) :=
  fits_of (State.setArr_touches (m := 0x20000) (touches_refl _ s) (by decide) x) (by decide) (by decide) hz

theorem State.setFarr_fits {s : State} (hz : s.Fits) (x : Farr) : State.Fits (State.setFarr s x) :=
  fits_of (State.setFarr_touches (m := 0x40000) (touches_refl _ s) (by decide) x) (by decide) (by decide) hz

theorem State.setFlt_fits {s : State} (hz : s.Fits) (x : Flt) : State.Fits (State.setFlt s x) :=
  fits_of (State.setFlt_touches (m := 0x800) (touches_refl _ s) (by decide) x) (by decide) (by decide) hz

theorem State.setRecd_fits {s : State} (hz : s.Fits) (x : Recorder) : State.Fits (State.setRecd s x) :=
  fits_of (State.setRecd_touches (m := 0x1000) (touches_refl _ s) (by decide) x) (by decide) (by decide) hz

theorem State.setRst_fits {s : State} (hz : s.Fits) (x : Rst) : State.Fits (State.setRst s x) :=
  fits_of (State.setRst_touches (m := 0x2000) (touches_refl _ s) (by decide) x) (by decide) (by decide) hz

theorem State.setPwr_fits {s : State} (hz : s.Fits) (x : Pwr) : State.Fits (State.setPwr s x) :=
  fits_of (State.setPwr_touches (m := 0x4000) (touches_refl _ s) (by decide) x) (by decide) (by decide) hz

theorem State.setHlk_fits {s : State} (hz : s.Fits) (x : Hlk) : State.Fits (State.setHlk s x) :=
  fits_of (State.setHlk_touches (m := 0x200000) (touches_refl _ s) (by decide) x) (by decide) (by decide) hz

theorem State.setDrc_fits {s : State} (hz : s.Fits) (x : Drc) : State.Fits (State.setDrc s x) :=
  fits_of (State.setDrc_touches (m := 0x400000) (touches_refl _ s) (by decide) x) (by decide) (by decide) hz

theorem State.setStrt_fits {s : State} (hz : s.Fits) (x : Strt) : State.Fits (State.setStrt s x) :=
  fits_of (State.setStrt_touches (m := 0x800000) (touches_refl _ s) (by decide) x) (by decide) (by decide) hz

theorem State.setAtol_fits {s : State} (hz : s.Fits) (x : Atol) : State.Fits (State.setAtol s x) :=
  fits_of (State.setAtol_touches (m := 0x1000000) (touches_refl _ s) (by decide) x) (by decide) (by decide) hz

theorem State.setTwl_fits {s : State} (hz : s.Fits) (x : Twl) : State.Fits (State.setTwl s x) :=
  fits_of (State.setTwl_touches (m := 0x2000000) (touches_refl _ s) (by decide) x) (by decide) (by decide) hz

theorem State.setTst_fits {s : State} (hz : s.Fits) (x : Tst) : State.Fits (State.setTst s x) :=
  fits_of (State.setTst_touches (m := 0x10000000) (touches_refl _ s) (by decide) x) (by decide) (by decide) hz

theorem State.setDscr_fits {s : State} (hz : s.Fits) (x : Dscr) : State.Fits (State.setDscr s x) :=
  fits_of (State.setDscr_touches (m := 0x20000000) (touches_refl _ s) (by decide) x) (by decide) (by decide) hz

theorem State.setUpk_fits {s : State} (hz : s.Fits) (x : Upk) : State.Fits (State.setUpk s x) :=
  fits_of (State.setUpk_touches (m := 0x40000000) (touches_refl _ s) (by decide) x) (by decide) (by decide) hz

theorem State.put_fits {s : State} (hz : s.Fits) (f : Fld) (v : ℕ) : State.Fits (State.put s f v) :=
  fits_of (State.put_touches (m := 0x2) (touches_refl _ s) (by decide) f v) (by decide) (by decide) hz

theorem State.put64_fits {s : State} (hz : s.Fits) (f : Fld) (v : ℕ) : State.Fits (State.put64 s f v) :=
  fits_of (State.put64_touches (m := 0x2) (touches_refl _ s) (by decide) f v) (by decide) (by decide) hz

theorem State.drawn_fits {s : State} (hz : s.Fits) : State.Fits (State.drawn s) :=
  fits_of (State.drawn_touches (m := 0x20) (touches_refl _ s) (by decide)) (by decide) (by decide) hz

theorem State.bumpSat_fits {s : State} (hz : s.Fits) (f : Fld) : State.Fits (State.bumpSat s f) :=
  fits_of (State.bumpSat_touches (m := 0x2) (touches_refl _ s) (by decide) f) (by decide) (by decide) hz

theorem State.bumpBy_fits {s : State} (hz : s.Fits) (f : Fld) (n : ℕ) : State.Fits (State.bumpBy s f n) :=
  fits_of (State.bumpBy_touches (m := 0x22) (touches_refl _ s) (by decide) f n) (by decide) (by decide) hz

theorem State.bump_fits {s : State} (hz : s.Fits) (f : Fld) : State.Fits (State.bump s f) :=
  fits_of (State.bump_touches (m := 0x22) (touches_refl _ s) (by decide) f) (by decide) (by decide) hz

theorem State.bump64By_fits {s : State} (hz : s.Fits) (f : Fld) (n : ℕ) : State.Fits (State.bump64By s f n) :=
  fits_of (State.bump64By_touches (m := 0x2) (touches_refl _ s) (by decide) f n) (by decide) (by decide) hz

theorem State.bump64_fits {s : State} (hz : s.Fits) (f : Fld) : State.Fits (State.bump64 s f) :=
  fits_of (State.bump64_touches (m := 0x2) (touches_refl _ s) (by decide) f) (by decide) (by decide) hz

theorem State.send_fits {s : State} (hz : s.Fits) (o : Out) : State.Fits (State.send s o) :=
  fits_of (State.send_touches (m := 0x80000000) (touches_refl _ s) (by decide) o) (by decide) (by decide) hz

theorem State.lateOk_fits {s : State} (hz : s.Fits) (p : ℕ) : State.Fits (State.lateOk s p) :=
  fits_of (State.lateOk_touches (m := 0x2) (touches_refl _ s) (by decide) p) (by decide) (by decide) hz

theorem State.release_fits {s : State} (hz : s.Fits) (e : ℕ) (b : ℕ) : State.Fits (State.release s e b) :=
  fits_of (State.release_touches (m := 0x2) (touches_refl _ s) (by decide) e b) (by decide) (by decide) hz

theorem State.enableFeature_fits {s : State} (hz : s.Fits) (f : Feature) (on : Bool) :
    State.Fits (State.enableFeature s f on) :=
  fits_of (State.enableFeature_touches (m := 0x2) (touches_refl _ s) (by decide) f on) (by decide) (by decide) hz

theorem State.preempt_fits {s : State} (hz : s.Fits) (e : ℕ) : State.Fits (State.preempt s e) :=
  fits_of (State.preempt_touches (m := 0x2) (touches_refl _ s) (by decide) e) (by decide) (by decide) hz

theorem State.setIslet_fits {s : State} (hz : s.Fits) (i : ℕ) (ls : List (ℕ × Line)) : State.Fits (State.setIslet s i ls) :=
  fits_of (State.setIslet_touches (m := 0x40) (touches_refl _ s) (by decide) i ls) (by decide) (by decide) hz

theorem State.wake_fits {s : State} (hz : s.Fits) (c : ℕ) : State.Fits (State.wake s c) :=
  fits_of (State.wake_touches (m := 0x4802) (touches_refl _ s) (by decide) c) (by decide) (by decide) hz

theorem State.settle_fits {s : State} (hz : s.Fits) : State.Fits (State.settle s) :=
  fits_of (State.settle_touches (m := 0x80004C02) (touches_refl _ s) (by decide)) (by decide) (by decide) hz

theorem State.raiseMask_fits {s : State} (hz : s.Fits) (p : ℕ) (m : ℕ) : State.Fits (State.raiseMask s p m) :=
  fits_of (State.raiseMask_touches (m₀ := 0x80004C02) (touches_refl _ s) (by decide) p m) (by decide) (by decide) hz

theorem State.raiseInt_fits {s : State} (hz : s.Fits) (p : ℕ) (b : ℕ) : State.Fits (State.raiseInt s p b) :=
  fits_of (State.raiseInt_touches (m := 0x80004C02) (touches_refl _ s) (by decide) p b) (by decide) (by decide) hz

theorem State.flush_fits {s : State} (hz : s.Fits) : State.Fits (State.flush s) :=
  fits_of (State.flush_touches (m := 0x1022) (touches_refl _ s) (by decide)) (by decide) (by decide) hz

theorem State.note_fits {s : State} (hz : s.Fits) (n : ℕ) (detail : ℕ) : State.Fits (State.note s n detail) :=
  fits_of (State.note_touches (m := 0x80005C22) (touches_refl _ s) (by decide) n detail) (by decide) (by decide) hz

theorem State.endFreeze_fits {s : State} (hz : s.Fits) : State.Fits (State.endFreeze s) :=
  fits_of (State.endFreeze_touches (m := 0x80005C22) (touches_refl _ s) (by decide)) (by decide) (by decide) hz

theorem State.event_fits {s : State} (hz : s.Fits) (k : EventKind) (block : ℕ) (detail : List ℕ) :
    State.Fits (State.event s k block detail) :=
  fits_of (State.event_touches (m := 0x80005C22) (touches_refl _ s) (by decide) k block detail) (by decide) (by decide) hz

theorem State.drcWrite_fits {s : State} (hz : s.Fits) (cls : DramClass) (line : ℕ) (hint : ℕ) :
    State.Fits (State.drcWrite s cls line hint) :=
  fits_of (State.drcWrite_touches (m := 0x400022) (touches_refl _ s) (by decide) cls line hint) (by decide) (by decide) hz

theorem State.drcIslet_fits {s : State} (hz : s.Fits) (i : ℕ) (write : Bool) : State.Fits (State.drcIslet s i write) :=
  fits_of (State.drcIslet_touches (m := 0x400002) (touches_refl _ s) (by decide) i write) (by decide) (by decide) hz

theorem State.storeLine_fits {s : State} (hz : s.Fits) (cls : DramClass) (line : ℕ) (hint : ℕ) (data : LineData) (be : BitVec 64) (poison : Bool) :
    State.Fits (State.storeLine s cls line hint data be poison) :=
  fits_of (State.storeLine_touches (m := 0x400062) (touches_refl _ s) (by decide) cls line hint data be poison) (by decide) (by decide) hz

theorem State.dscErr_fits {s : State} (hz : s.Fits) (line : ℕ) (r : Requester) (ue : Bool) (psn : Bool) (device : ℕ) (nsym : ℕ) :
    State.Fits (State.dscErr s line r ue psn device nsym) :=
  fits_of (State.dscErr_touches (m := 0x2) (touches_refl _ s) (by decide) line r ue psn device nsym) (by decide) (by decide) hz

theorem State.readPoison_fits {s : State} (hz : s.Fits) (line : ℕ) (r : Requester) : State.Fits (State.readPoison s line r) :=
  fits_of (State.readPoison_touches (m := 0x80005C22) (touches_refl _ s) (by decide) line r) (by decide) (by decide) hz

theorem State.setRec_fits {s : State} (hz : s.Fits) (i : ℕ) (r : IsletRec) : State.Fits (State.setRec s i r) := by
  unfold State.setRec
  with_reducible repeat' first
    | assumption | exact nil_fits | exact init_hold | exact init_barriers | exact init_posts | exact init_held | apply map_fits
    | apply filter_fits | apply discharge_fits | apply State.Fits.hold | apply State.Fits.held | apply State.Fits.barriers
    | apply State.Fits.posts | apply setPlane_hold | apply setPlane_barriers | apply setPlane_posts | apply fits_setPers
    | extract_lets

theorem State.setBit_fits {s : State} (hz : s.Fits) (i : ℕ) : State.Fits (State.setBit s i) := by
  unfold State.setBit
  with_reducible repeat' first
    | assumption | exact nil_fits | exact init_hold | exact init_barriers | exact init_posts | exact init_held | apply map_fits
    | apply filter_fits | apply discharge_fits | apply State.Fits.hold | apply State.Fits.held | apply State.Fits.barriers
    | apply State.Fits.posts | apply setPlane_hold | apply setPlane_barriers | apply setPlane_posts | apply fits_setPers

theorem State.refreshBars_fits {s : State} (hz : s.Fits) : State.Fits (State.refreshBars s) :=
  fits_of (State.refreshBars_touches (m := 0x2) (touches_refl _ s) (by decide)) (by decide) (by decide) hz

theorem State.refreshQueues_fits {s : State} (hz : s.Fits) : State.Fits (State.refreshQueues s) :=
  fits_of (State.refreshQueues_touches (m := 0x2) (touches_refl _ s) (by decide)) (by decide) (by decide) hz

theorem State.refreshArmed_fits {s : State} (hz : s.Fits) : State.Fits (State.refreshArmed s) :=
  fits_of (State.refreshArmed_touches (m := 0x80004C02) (touches_refl _ s) (by decide)) (by decide) (by decide) hz

theorem State.refresh_fits {s : State} (hz : s.Fits) : State.Fits (State.refresh s) :=
  fits_of (State.refresh_touches (m := 0x80004C02) (touches_refl _ s) (by decide)) (by decide) (by decide) hz

theorem State.setRes_fits {s : State} (hz : s.Fits) (n : ℕ) : State.Fits (State.setRes s n) :=
  fits_of (State.setRes_touches (m := 0xC0004C02) (touches_refl _ s) (by decide) n) (by decide) (by decide) hz

theorem State.markProvisional_fits {s : State} (hz : s.Fits) (i : ℕ) : State.Fits (State.markProvisional s i) := by
  unfold State.markProvisional
  with_reducible repeat' first
    | assumption | exact nil_fits | exact init_hold | exact init_barriers | exact init_posts | exact init_held | apply map_fits
    | apply filter_fits | apply discharge_fits | apply State.Fits.hold | apply State.Fits.held | apply State.Fits.barriers
    | apply State.Fits.posts | apply setPlane_hold | apply setPlane_barriers | apply setPlane_posts | apply State.bump_fits
    | apply fits_ite | extract_lets | apply fits_state

theorem State.firstWrite_fits {s : State} (hz : s.Fits) (i : ℕ) : State.Fits (State.firstWrite s i) := by
  unfold State.firstWrite
  with_reducible repeat' first
    | assumption | apply State.setRec_fits | apply State.markProvisional_fits | apply State.setRes_fits | apply fits_ite
    | extract_lets

theorem State.touch_fits {s : State} (hz : s.Fits) (i : ℕ) : State.Fits (State.touch s i) := by
  unfold State.touch
  with_reducible repeat' first
    | assumption | apply State.firstWrite_fits | apply State.setBit_fits | apply fits_ite

theorem State.recordLost_fits {s : State} (hz : s.Fits) (i : ℕ) : State.Fits (State.recordLost s i) := by
  unfold State.recordLost
  with_reducible repeat' first
    | assumption | apply State.setRec_fits | apply State.setRes_fits | apply fits_ite | extract_lets

theorem State.mapWordLost_fits {s : State} (hz : s.Fits) (word : ℕ) : State.Fits (State.mapWordLost s word) := by
  unfold State.mapWordLost
  with_reducible repeat' first
    | assumption | apply State.firstWrite_fits | apply State.setBit_fits | apply fits_ite | apply fits_foldl | intro t a ht
    | extract_lets

theorem State.computeBudget_fits {s : State} (hz : s.Fits) (tj : ℤ) : State.Fits (State.computeBudget s tj) := by
  unfold State.computeBudget
  with_reducible repeat' first
    | assumption | exact nil_fits | exact init_hold | exact init_barriers | exact init_posts | exact init_held | apply map_fits
    | apply filter_fits | apply discharge_fits | apply State.Fits.hold | apply State.Fits.held | apply State.Fits.barriers
    | apply State.Fits.posts | apply setPlane_hold | apply setPlane_barriers | apply setPlane_posts | apply State.refresh_fits
    | apply State.put_fits | apply fits_setPers | apply State.raiseInt_fits | apply fits_ite | extract_lets

theorem State.evalLevel_fits {s : State} (hz : s.Fits) : State.Fits (State.evalLevel s) :=
  fits_of (State.evalLevel_touches (m := 0x80004C02) (touches_refl _ s) (by decide)) (by decide) (by decide) hz

/-- A post is accepted only while fewer than 16 barriers are open. -/
theorem State.barriers_of_accepted {s : State} (h : s.barRefusal = none) : s.pers.barriers.length < 16 := by
  unfold State.barRefusal at h
  split at h
  · cases h
  · split at h
    · cases h
    · split at h
      · cases h
      · next hn => exact Nat.lt_of_not_le hn

/-- The last 64 posts. -/
theorem keep64_fits (l : List BarrierPost) : (keep64 l).length ≤ 64 := by
  unfold keep64
  rw [List.length_drop]
  omega

/-- A barrier is posted. -/
theorem State.postBarrier_fits {s : State} (hz : s.Fits) (tag : Nat) : (s.postBarrier tag).Fits := by
  unfold State.postBarrier
  split
  · with_reducible repeat' first | assumption | apply State.raiseInt_fits | apply State.put_fits
  · next e =>
    have h1 : (s.pers.barriers ++ [(⟨s.pers.nextSeq, tag, s.epoch, none⟩ : Barrier)]).length ≤ 16 := by
      rw [List.length_append]
      exact State.barriers_of_accepted e
    have h2 : State.Fits (s.setPers { s.pers with
        barriers := s.pers.barriers ++ [⟨s.pers.nextSeq, tag, s.epoch, none⟩]
        posts := keep64 (s.pers.posts ++ [⟨s.pers.nextSeq, tag, false⟩]), nextSeq := nextBarSeq s.pers.nextSeq }) :=
      ⟨hz.hold, hz.held, h1, keep64_fits _⟩
    exact State.refresh_fits (State.put_fits h2 _ _)

/-- Completing barriers of a list that fits. -/
theorem State.completeBarriers_fits {s : State} (hz : s.Fits) (l : List Barrier) (hl : l.length ≤ 16) :
    (State.completeBarriers l s).Fits := by
  induction l generalizing s with
  | nil => exact hz
  | cons b t ih =>
    have ht : t.length ≤ 16 := Nat.le_of_succ_le hl
    unfold State.completeBarriers
    have h1 : State.Fits (s.setPers { s.pers with
        barriers := t, posts := s.pers.posts.map (fun p => if p.seq = b.seq then { p with done := true } else p) }) :=
      ⟨hz.hold, hz.held, ht, map_fits hz.posts⟩
    exact fits_ite (ih (State.raiseInt_fits (State.put_fits (State.put_fits h1 _ _) _ _) _ _) ht) hz

theorem State.startBarCounts_fits {s : State} (hz : s.Fits) (e : ℕ) : State.Fits (State.startBarCounts s e) := by
  unfold State.startBarCounts
  with_reducible repeat' first
    | assumption | exact nil_fits | exact init_hold | exact init_barriers | exact init_posts | exact init_held | apply map_fits
    | apply filter_fits | apply discharge_fits | apply State.Fits.hold | apply State.Fits.held | apply State.Fits.barriers
    | apply State.Fits.posts | apply setPlane_hold | apply setPlane_barriers | apply setPlane_posts | apply fits_setPers
    | apply fits_ite | extract_lets

theorem State.endLookup_fits {s : State} (hz : s.Fits) (i : ℕ) : State.Fits (State.endLookup s i) := by
  unfold State.endLookup
  with_reducible repeat' first
    | assumption | exact nil_fits | exact init_hold | exact init_barriers | exact init_posts | exact init_held | apply map_fits
    | apply filter_fits | apply discharge_fits | apply State.Fits.hold | apply State.Fits.held | apply State.Fits.barriers
    | apply State.Fits.posts | apply setPlane_hold | apply setPlane_barriers | apply setPlane_posts | apply State.put_fits
    | apply fits_setPers | apply fits_ite | extract_lets

theorem State.vector0_fits {s : State} (hz : s.Fits) : State.Fits (State.vector0 s) :=
  fits_of (State.vector0_touches (m := 0x80000000) (touches_refl _ s) (by decide)) (by decide) (by decide) hz

theorem State.cxlEvent_fits {s : State} (hz : s.Fits) (w : CxlWhat) (dpa : ℕ) : State.Fits (State.cxlEvent s w dpa) :=
  fits_of (State.cxlEvent_touches (m := 0x84000000) (touches_refl _ s) (by decide) w dpa) (by decide) (by decide) hz

theorem State.needsCare_fits {s : State} (hz : s.Fits) : State.Fits (State.needsCare s) :=
  fits_of (State.needsCare_touches (m := 0x4000000) (touches_refl _ s) (by decide)) (by decide) (by decide) hz

theorem State.degraded_fits {s : State} (hz : s.Fits) : State.Fits (State.degraded s) :=
  fits_of (State.degraded_touches (m := 0x84000000) (touches_refl _ s) (by decide)) (by decide) (by decide) hz

theorem State.wearLog_fits {s : State} (hz : s.Fits) : State.Fits (State.wearLog s) :=
  fits_of (State.wearLog_touches (m := 0x84000000) (touches_refl _ s) (by decide)) (by decide) (by decide) hz

theorem State.markPoison_fits {s : State} (hz : s.Fits) (lines : List ℕ) (source : ℕ) :
    State.Fits (State.markPoison s lines source) :=
  fits_of (State.markPoison_touches (m := 0x4000000) (touches_refl _ s) (by decide) lines source) (by decide) (by decide) hz

theorem State.poisonIslet_fits {s : State} (hz : s.Fits) (i : ℕ) : State.Fits (State.poisonIslet s i) :=
  fits_of (State.poisonIslet_touches (m := 0x4000040) (touches_refl _ s) (by decide) i) (by decide) (by decide) hz

theorem State.reply_fits {s : State} (hz : s.Fits) (r : MemReq) (o : ℕ → Out) : State.Fits (State.reply s r o) :=
  fits_of (State.reply_touches (m := 0x80000000) (touches_refl _ s) (by decide) r o) (by decide) (by decide) hz

theorem State.hostRead_fits {s : State} (hz : s.Fits) (r : MemReq) : State.Fits (State.hostRead s r) :=
  fits_of (State.hostRead_touches (m := 0x80400022) (touches_refl _ s) (by decide) r) (by decide) (by decide) hz

theorem State.hostWrite_fits {s : State} (hz : s.Fits) (r : MemReq) : State.Fits (State.hostWrite s r) := by
  unfold State.hostWrite
  with_reducible repeat' first
    | assumption | apply State.storeLine_fits | apply State.touch_fits | apply State.markPoison_fits | apply State.reply_fits
    | apply fits_ite | extract_lets

theorem State.refreshHeld_fits {s : State} (hz : s.Fits) : State.Fits (State.refreshHeld s) :=
  fits_of (State.refreshHeld_touches (m := 0x2) (touches_refl _ s) (by decide)) (by decide) (by decide) hz

theorem State.grantSlots_fits {s : State} (hz : s.Fits) : State.Fits (State.grantSlots s) := by
  unfold State.grantSlots
  with_reducible repeat' first
    | assumption | exact nil_fits | exact init_hold | exact init_barriers | exact init_posts | exact init_held | apply map_fits
    | apply filter_fits | apply discharge_fits | apply State.Fits.hold | apply State.Fits.held | apply State.Fits.barriers
    | apply State.Fits.posts | apply setPlane_hold | apply setPlane_barriers | apply setPlane_posts
    | apply State.refreshHeld_fits | apply fits_setRstr | apply fits_ite | extract_lets

theorem State.requestFaultIn_fits {s : State} (hz : s.Fits) (i : ℕ) : State.Fits (State.requestFaultIn s i) := by
  unfold State.requestFaultIn
  with_reducible repeat' first
    | assumption | exact nil_fits | exact init_hold | exact init_barriers | exact init_posts | exact init_held | apply map_fits
    | apply filter_fits | apply discharge_fits | apply State.Fits.hold | apply State.Fits.held | apply State.Fits.barriers
    | apply State.Fits.posts | apply setPlane_hold | apply setPlane_barriers | apply setPlane_posts
    | apply State.grantSlots_fits | apply fits_setRstr | apply fits_ite | extract_lets

/-- A request enters a held-request table that has a place. -/
theorem State.holdForRestore_fits {s : State} (hz : s.Fits) (r : MemReq) (hl : s.rstr.heldTable.length < 512) :
    (s.holdForRestore r).Fits := by
  unfold State.holdForRestore
  refine State.requestFaultIn_fits (fits_setRstr hz ?_) _
  rw [List.length_append]
  exact hl

/-- A write enters a hold queue that has a place. -/
theorem State.enterHold_fits {s : State} (hz : s.Fits) (r : MemReq) (hl : s.pers.hold.length < 256) : (s.enterHold r).Fits := by
  unfold State.enterHold
  refine fits_setPers (State.bump_fits hz _) ?_ hz.barriers hz.posts
  rw [List.length_append]
  exact hl

/-- What a request's disposal leaves, if it is disposed of. -/
theorem State.dispose_fits {s u : State} {r : MemReq} (hu : State.dispose s r = some u) (hz : s.Fits) : u.Fits := by
  unfold State.dispose at hu
  repeat' split at hu
  all_goals first
    | contradiction
    | (cases hu; first
        | exact State.hostRead_fits hz _
        | exact State.enterHold_fits hz _ ‹_›
        | exact State.hostWrite_fits hz _)

/-- The requests of a held-request table are served, or stay. -/
theorem State.serveTable_fits {s : State} (hz : s.Fits) (l kept : List MemReq) (hl : kept.length + l.length ≤ 512) :
    (State.serveTable l kept s).Fits := by
  induction l generalizing s kept with
  | nil => exact fits_setRstr hz hl
  | cons r t ih =>
    rw [List.length_cons] at hl
    have h1 : (kept ++ [r]).length + t.length ≤ 512 := by rw [List.length_append, List.length_singleton]; omega
    have h2 : kept.length + t.length ≤ 512 := by omega
    unfold State.serveTable
    split
    · split
      · next u hu => exact ih (State.dispose_fits hu hz) _ h2
      · exact ih hz _ h1
    · exact ih hz _ h1

/-- The requests of the receive buffer are served, or stay. -/
theorem State.serveBuf_fits {s : State} (hz : s.Fits) (l kept : List MemReq) : (State.serveBuf l kept s).Fits := by
  induction l generalizing s kept with
  | nil => exact fits_mk hz rfl rfl rfl rfl
  | cons r t ih =>
    unfold State.serveBuf
    split
    · exact ih hz _
    · split
      · split
        · next h => exact ih (State.holdForRestore_fits hz r h) _
        · exact ih hz _
      · split
        · exact ih hz _
        · split
          · next u hu => exact ih (State.dispose_fits hu hz) _
          · exact ih hz _

theorem State.refreshHlk_fits {s : State} (hz : s.Fits) : State.Fits (State.refreshHlk s) :=
  fits_of (State.refreshHlk_touches (m := 0x80204C02) (touches_refl _ s) (by decide)) (by decide) (by decide) hz

/-- The waiting requests are served. -/
theorem State.serve_fits {s : State} (hz : s.Fits) : s.serve.Fits := by
  unfold State.serve
  exact State.refreshHlk_fits (State.refreshHeld_fits (State.serveBuf_fits (State.serveTable_fits hz _ _
    (by rw [List.length_nil, Nat.zero_add]; exact hz.held)) _ _))

theorem State.countReq_fits {s : State} (hz : s.Fits) (r : MemReq) : State.Fits (State.countReq s r) :=
  fits_of (State.countReq_touches (m := 0x40000022) (touches_refl _ s) (by decide) r) (by decide) (by decide) hz

theorem State.buffer_fits {s : State} (hz : s.Fits) (r : MemReq) : State.Fits (State.buffer s r) :=
  fits_of (State.buffer_touches (m := 0x200000) (touches_refl _ s) (by decide) r) (by decide) (by decide) hz

theorem State.arrive_fits {s : State} (hz : s.Fits) (r : MemReq) : State.Fits (State.arrive s r) := by
  unfold State.arrive
  with_reducible repeat' first
    | assumption | exact nil_fits | exact init_hold | exact init_barriers | exact init_posts | exact init_held | apply map_fits
    | apply filter_fits | apply discharge_fits | apply State.Fits.hold | apply State.Fits.held | apply State.Fits.barriers
    | apply State.Fits.posts | apply setPlane_hold | apply setPlane_barriers | apply setPlane_posts | apply State.buffer_fits
    | apply State.holdForRestore_fits | apply State.hostRead_fits | apply fits_setPers | apply State.hostWrite_fits
    | apply State.refreshHlk_fits | split | extract_lets

/-- Judging the heads of a queue that fits. -/
theorem State.judgeHead_fits {s : State} (hz : s.Fits) (l : List HeldWrite) (hl : l.length ≤ 256) :
    (State.judgeHead l s).Fits := by
  induction l generalizing s with
  | nil => exact fits_setPers hz (Nat.zero_le _) hz.barriers hz.posts
  | cons h t ih =>
    unfold State.judgeHead
    exact fits_ite (fits_setPers hz hl hz.barriers hz.posts)
      (ih (State.hostWrite_fits hz _) (Nat.le_of_succ_le hl))

/-- The oldest waiting record is read. -/
theorem State.recordRead_fits {s : State} (hz : s.Fits) : s.recordRead.Fits := by
  unfold State.recordRead
  split
  · exact hz
  · next h t e =>
    have hu : (s.setPers { s.pers with recWait := t }).Fits := fits_setPers hz hz.hold hz.barriers hz.posts
    dsimp only
    refine State.serve_fits ?_
    split
    · next v hv => exact State.dispose_fits hv hu
    · exact State.buffer_fits hu _

/-- The head of the hold queue is admitted. -/
theorem State.admitHead_fits {s : State} (hz : s.Fits) : s.admitHead.Fits := by
  unfold State.admitHead
  split
  · exact hz
  · rename_i h t e
    have ht : t.length ≤ 256 := by
      have := hz.hold
      rw [e] at this
      exact Nat.le_of_succ_le this
    have h1 : State.Fits (s.setPers { s.pers with hold := t, lastAdmit := s.now }) := ⟨ht, hz.held, hz.barriers, hz.posts⟩
    exact State.serve_fits (State.judgeHead_fits (State.hostWrite_fits h1 _) _ ht)

theorem State.admitAll_fits {s : State} (hz : s.Fits) : State.Fits (State.admitAll s) := by
  unfold State.admitAll
  with_reducible repeat' first
    | assumption | exact nil_fits | exact init_hold | exact init_barriers | exact init_posts | exact init_held | apply map_fits
    | apply filter_fits | apply discharge_fits | apply State.Fits.hold | apply State.Fits.held | apply State.Fits.barriers
    | apply State.Fits.posts | apply setPlane_hold | apply setPlane_barriers | apply setPlane_posts | apply State.serve_fits
    | apply State.hostWrite_fits | apply fits_setPers | apply fits_foldl | intro t a ht | extract_lets

theorem State.setDie_fits {s : State} (hz : s.Fits) (c : ℕ) (d : ℕ) (x : DieRec) : State.Fits (State.setDie s c d x) :=
  fits_of (State.setDie_touches (m := 0x40000) (touches_refl _ s) (by decide) c d x) (by decide) (by decide) hz

theorem State.setBlock_fits {s : State} (hz : s.Fits) (c : ℕ) (d : ℕ) (p : ℕ) (b : ℕ) (x : BlkRec) :
    State.Fits (State.setBlock s c d p b x) :=
  fits_of (State.setBlock_touches (m := 0x40000) (touches_refl _ s) (by decide) c d p b x) (by decide) (by decide) hz

theorem State.setMedia_fits {s : State} (hz : s.Fits) (m : Media) : State.Fits (State.setMedia s m) :=
  fits_of (State.setMedia_touches (m₀ := 0x40000) (touches_refl _ s) (by decide) m) (by decide) (by decide) hz

theorem State.setSk_fits {s : State} (hz : s.Fits) (k : ℕ) (x : SkRec) : State.Fits (State.setSk s k x) :=
  fits_of (State.setSk_touches (m := 0x40000) (touches_refl _ s) (by decide) k x) (by decide) (by decide) hz

theorem State.moveBand_fits {s : State} (hz : s.Fits) (k : ℕ) (band : ℕ) : State.Fits (State.moveBand s k band) :=
  fits_of (State.moveBand_touches (m := 0x40000) (touches_refl _ s) (by decide) k band) (by decide) (by decide) hz

theorem State.takeRows_fits {s : State} (hz : s.Fits) (band : ℕ) (slc : Bool) (n : ℕ) (k : ℕ) (row : ℕ) :
    State.Fits (State.takeRows s band slc n k row) :=
  fits_of (State.takeRows_touches (m := 0x40000) (touches_refl _ s) (by decide) band slc n k row) (by decide) (by decide) hz

theorem State.refreshFarr_fits {s : State} (hz : s.Fits) : State.Fits (State.refreshFarr s) :=
  fits_of (State.refreshFarr_touches (m := 0x2) (touches_refl _ s) (by decide)) (by decide) (by decide) hz

theorem State.refreshDie_fits {s : State} (hz : s.Fits) (c : ℕ) (d : ℕ) : State.Fits (State.refreshDie s c d) :=
  fits_of (State.refreshDie_touches (m := 0x2) (touches_refl _ s) (by decide) c d) (by decide) (by decide) hz

theorem State.eraseBlocks_fits {s : State} (hz : s.Fits) (failed : List ℕ) : State.Fits (State.eraseBlocks s failed) :=
  fits_of (State.eraseBlocks_touches (m := 0x40000) (touches_refl _ s) (by decide) failed) (by decide) (by decide) hz

theorem State.substitute_fits {s : State} (hz : s.Fits) (k : ℕ) (c : ℕ) (b : ℕ) : State.Fits (State.substitute s k c b) :=
  fits_of (State.substitute_touches (m := 0x40000) (touches_refl _ s) (by decide) k c b) (by decide) (by decide) hz

theorem State.sealJournal_fits {s : State} (hz : s.Fits) (n : ℕ) (typ : ℕ) (save : Option SaveSeal) (again : ℕ) :
    State.Fits (State.sealJournal s n typ save again) :=
  fits_of (State.sealJournal_touches (m := 0x40000) (touches_refl _ s) (by decide) n typ save again) (by decide) (by decide) hz

theorem State.dropVoid_fits {s : State} (hz : s.Fits) : State.Fits (State.dropVoid s) :=
  fits_of (State.dropVoid_touches (m := 0x60000) (touches_refl _ s) (by decide)) (by decide) (by decide) hz

theorem State.noteCopy_fits {s : State} (hz : s.Fits) (n : ℕ) (islet : ℕ) (reloc : Bool) (loc : Loc64) (lines : List (ℕ × Line)) :
    State.Fits (State.noteCopy s n islet reloc loc lines) :=
  fits_of (State.noteCopy_touches (m := 0x40000) (touches_refl _ s) (by decide) n islet reloc loc lines) (by decide) (by decide) hz

theorem State.replayTables_fits {s : State} (hz : s.Fits) (g : Gen) (p : ℕ) : State.Fits (State.replayTables s g p) :=
  fits_of (State.replayTables_touches (m := 0x40000) (touches_refl _ s) (by decide) g p) (by decide) (by decide) hz

theorem State.enterSweep_fits {s : State} (hz : s.Fits) : State.Fits (State.enterSweep s) := by
  unfold State.enterSweep
  with_reducible repeat' first
    | assumption | exact nil_fits | exact init_hold | exact init_barriers | exact init_posts | exact init_held | apply map_fits
    | apply filter_fits | apply discharge_fits | apply State.Fits.hold | apply State.Fits.held | apply State.Fits.barriers
    | apply State.Fits.posts | apply setPlane_hold | apply setPlane_barriers | apply setPlane_posts | apply State.raiseInt_fits
    | apply fits_setPers | apply State.bump_fits | apply State.put_fits | extract_lets

theorem State.appendCool_fits {s : State} (hz : s.Fits) (e : CoolEntry) : State.Fits (State.appendCool s e) := by
  unfold State.appendCool
  with_reducible repeat' first
    | assumption | exact nil_fits | exact init_hold | exact init_barriers | exact init_posts | exact init_held | apply map_fits
    | apply filter_fits | apply discharge_fits | apply State.Fits.hold | apply State.Fits.held | apply State.Fits.barriers
    | apply State.Fits.posts | apply setPlane_hold | apply setPlane_barriers | apply setPlane_posts
    | apply State.enterSweep_fits | apply fits_setPers | apply fits_ite | extract_lets

theorem State.appendReturn_fits {s : State} (hz : s.Fits) (e : CoolEntry) : State.Fits (State.appendReturn s e) := by
  unfold State.appendReturn
  with_reducible repeat' first
    | assumption | exact nil_fits | exact init_hold | exact init_barriers | exact init_posts | exact init_held | apply map_fits
    | apply filter_fits | apply discharge_fits | apply State.Fits.hold | apply State.Fits.held | apply State.Fits.barriers
    | apply State.Fits.posts | apply setPlane_hold | apply setPlane_barriers | apply setPlane_posts | apply fits_setPers
    | apply State.appendCool_fits | apply fits_ite | extract_lets

theorem State.discardStale_fits {s : State} (hz : s.Fits) (k : ℕ) : State.Fits (State.discardStale k s) := by
  induction k generalizing s with
  | zero =>
    unfold State.discardStale
    with_reducible repeat' first
      | assumption | exact nil_fits | exact init_hold | exact init_barriers | exact init_posts | exact init_held
      | apply map_fits | apply filter_fits | apply discharge_fits | apply State.Fits.hold | apply State.Fits.held
      | apply State.Fits.barriers | apply State.Fits.posts | apply setPlane_hold | apply setPlane_barriers
      | apply setPlane_posts | apply State.bump_fits | apply fits_setPers
  | succ k ih =>
    unfold State.discardStale
    with_reducible repeat' first
      | assumption | apply ih | exact nil_fits | exact init_hold | exact init_barriers | exact init_posts | exact init_held
      | apply map_fits | apply filter_fits | apply discharge_fits | apply State.Fits.hold | apply State.Fits.held
      | apply State.Fits.barriers | apply State.Fits.posts | apply setPlane_hold | apply setPlane_barriers
      | apply setPlane_posts | apply State.bump_fits | apply fits_setPers | apply fits_ite | split

theorem State.takeOffer_fits {s : State} (hz : s.Fits) (src : Source) (i : ℕ) : State.Fits (State.takeOffer s src i) := by
  unfold State.takeOffer
  with_reducible repeat' first
    | assumption | exact nil_fits | exact init_hold | exact init_barriers | exact init_posts | exact init_held | apply map_fits
    | apply filter_fits | apply discharge_fits | apply State.Fits.hold | apply State.Fits.held | apply State.Fits.barriers
    | apply State.Fits.posts | apply setPlane_hold | apply setPlane_barriers | apply setPlane_posts | apply fits_setPers | split
    | extract_lets

theorem State.startRead_fits {s : State} (hz : s.Fits) (src : Source) (i : ℕ) (n : ℕ) : State.Fits (State.startRead s src i n) := by
  unfold State.startRead
  with_reducible repeat' first
    | assumption | exact nil_fits | exact init_hold | exact init_barriers | exact init_posts | exact init_held | apply map_fits
    | apply filter_fits | apply discharge_fits | apply State.Fits.hold | apply State.Fits.held | apply State.Fits.barriers
    | apply State.Fits.posts | apply setPlane_hold | apply setPlane_barriers | apply setPlane_posts | apply State.setRec_fits
    | apply State.bump_fits | apply fits_setPers | apply State.refresh_fits | apply State.takeOffer_fits
    | apply State.raiseInt_fits | apply State.put_fits | apply fits_ite | extract_lets

theorem State.startOne_fits {s : State} (hz : s.Fits) : State.Fits (State.startOne s) := by
  unfold State.startOne
  with_reducible repeat' first
    | assumption | apply State.put_fits | apply State.startRead_fits | apply fits_ite | split

theorem State.startCopies_fits {s : State} (hz : s.Fits) (n : ℕ) (k : ℕ) : State.Fits (State.startCopies n k s) := by
  induction n generalizing s k with
  | zero =>
    unfold State.startCopies
    with_reducible repeat' first
      | assumption | exact nil_fits | exact init_hold | exact init_barriers | exact init_posts | exact init_held
      | apply map_fits | apply filter_fits | apply discharge_fits | apply State.Fits.hold | apply State.Fits.held
      | apply State.Fits.barriers | apply State.Fits.posts | apply setPlane_hold | apply setPlane_barriers
      | apply setPlane_posts | apply State.discardStale_fits | apply State.startOne_fits
  | succ k ih =>
    unfold State.startCopies
    with_reducible repeat' first
      | assumption | apply ih | exact nil_fits | exact init_hold | exact init_barriers | exact init_posts | exact init_held
      | apply map_fits | apply filter_fits | apply discharge_fits | apply State.Fits.hold | apply State.Fits.held
      | apply State.Fits.barriers | apply State.Fits.posts | apply setPlane_hold | apply setPlane_barriers
      | apply setPlane_posts | apply State.discardStale_fits | apply State.startOne_fits | extract_lets | apply fits_ite | split

theorem State.addTokens_fits {s : State} (hz : s.Fits) : State.Fits (State.addTokens s) := by
  unfold State.addTokens
  with_reducible repeat' first
    | assumption | exact nil_fits | exact init_hold | exact init_barriers | exact init_posts | exact init_held | apply map_fits
    | apply filter_fits | apply discharge_fits | apply State.Fits.hold | apply State.Fits.held | apply State.Fits.barriers
    | apply State.Fits.posts | apply setPlane_hold | apply setPlane_barriers | apply setPlane_posts | apply fits_setPers
    | apply fits_ite | extract_lets

theorem State.shadowTick_fits {s : State} (hz : s.Fits) (starts : ℕ) (hit : List ℕ) :
    State.Fits (State.shadowTick s starts hit) := by
  unfold State.shadowTick
  with_reducible repeat' first
    | assumption | exact nil_fits | exact init_hold | exact init_barriers | exact init_posts | exact init_held | apply map_fits
    | apply filter_fits | apply discharge_fits | apply State.Fits.hold | apply State.Fits.held | apply State.Fits.barriers
    | apply State.Fits.posts | apply setPlane_hold | apply setPlane_barriers | apply setPlane_posts | apply State.put_fits
    | apply State.addTokens_fits | apply fits_setPers | apply State.refresh_fits | apply State.startCopies_fits
    | apply State.discardStale_fits | apply fits_ite | extract_lets

theorem State.setReading_fits {s : State} (hz : s.Fits) (i : ℕ) (c : Copy) : State.Fits (State.setReading s i c) := by
  unfold State.setReading
  with_reducible repeat' first
    | assumption | exact nil_fits | exact init_hold | exact init_barriers | exact init_posts | exact init_held | apply map_fits
    | apply filter_fits | apply discharge_fits | apply State.Fits.hold | apply State.Fits.held | apply State.Fits.barriers
    | apply State.Fits.posts | apply setPlane_hold | apply setPlane_barriers | apply setPlane_posts | apply fits_setPers
    | apply fits_ite | extract_lets

theorem State.backToDirty_fits {s : State} (hz : s.Fits) (i : ℕ) : State.Fits (State.backToDirty s i) := by
  unfold State.backToDirty
  with_reducible repeat' first
    | assumption | apply State.setRec_fits | apply State.appendReturn_fits | apply fits_ite | extract_lets

theorem State.refund_fits {s : State} (hz : s.Fits) (c : Copy) : State.Fits (State.refund s c) := by
  unfold State.refund
  with_reducible repeat' first
    | assumption | exact nil_fits | exact init_hold | exact init_barriers | exact init_posts | exact init_held | apply map_fits
    | apply filter_fits | apply discharge_fits | apply State.Fits.hold | apply State.Fits.held | apply State.Fits.barriers
    | apply State.Fits.posts | apply setPlane_hold | apply setPlane_barriers | apply setPlane_posts | apply fits_setPers
    | apply fits_ite | extract_lets

theorem State.fillStaging_fits {s : State} (hz : s.Fits) (c : Copy) (lines : List (ℕ × Line)) :
    State.Fits (State.fillStaging s c lines) :=
  fits_of (State.fillStaging_touches (m := 0x80000) (touches_refl _ s) (by decide) c lines) (by decide) (by decide) hz

theorem State.endRead_fits {s : State} (hz : s.Fits) (i : ℕ) : State.Fits (State.endRead s i) := by
  unfold State.endRead
  with_reducible repeat' first
    | assumption | exact nil_fits | exact init_hold | exact init_barriers | exact init_posts | exact init_held | apply map_fits
    | apply filter_fits | apply discharge_fits | apply State.Fits.hold | apply State.Fits.held | apply State.Fits.barriers
    | apply State.Fits.posts | apply setPlane_hold | apply setPlane_barriers | apply setPlane_posts | apply State.drcIslet_fits
    | apply State.setReading_fits | apply State.setRec_fits | apply State.noteCopy_fits | apply State.refund_fits
    | apply State.bump64_fits | apply State.refresh_fits | apply fits_setPers | apply State.fillStaging_fits
    | apply State.backToDirty_fits | apply fits_ite | split | extract_lets

theorem State.formStripe_fits {s : State} (hz : s.Fits) (slc : Bool) (forced : Bool) :
    State.Fits (State.formStripe s slc forced) :=
  fits_of (State.formStripe_touches (m := 0x40000) (touches_refl _ s) (by decide) slc forced) (by decide) (by decide) hz

theorem State.copyProgrammed_fits {s : State} (hz : s.Fits) (slc : Bool) (place : ℕ × ℕ × ℕ) (i : ℕ × ℕ) :
    State.Fits (State.copyProgrammed s slc place i) := by
  unfold State.copyProgrammed
  with_reducible repeat' first
    | assumption | exact nil_fits | exact init_hold | exact init_barriers | exact init_posts | exact init_held | apply map_fits
    | apply filter_fits | apply discharge_fits | apply State.Fits.hold | apply State.Fits.held | apply State.Fits.barriers
    | apply State.Fits.posts | apply setPlane_hold | apply setPlane_barriers | apply setPlane_posts | apply State.bump64_fits
    | apply State.noteCopy_fits | apply fits_setPers | apply fits_ite | split | extract_lets

theorem State.abandonCopy_fits {s : State} (hz : s.Fits) (c : Copy) : State.Fits (State.abandonCopy s c) := by
  unfold State.abandonCopy
  with_reducible repeat' first
    | assumption | exact nil_fits | exact init_hold | exact init_barriers | exact init_posts | exact init_held | apply map_fits
    | apply filter_fits | apply discharge_fits | apply State.Fits.hold | apply State.Fits.held | apply State.Fits.barriers
    | apply State.Fits.posts | apply setPlane_hold | apply setPlane_barriers | apply setPlane_posts | apply fits_setPers
    | apply State.bump_fits | apply State.backToDirty_fits | apply fits_ite | extract_lets

theorem State.startBarSweep_fits {s : State} (hz : s.Fits) : State.Fits (State.startBarSweep s) := by
  unfold State.startBarSweep
  with_reducible repeat' first
    | assumption | exact nil_fits | exact init_hold | exact init_barriers | exact init_posts | exact init_held | apply map_fits
    | apply filter_fits | apply discharge_fits | apply State.Fits.hold | apply State.Fits.held | apply State.Fits.barriers
    | apply State.Fits.posts | apply setPlane_hold | apply setPlane_barriers | apply setPlane_posts | apply fits_setPers
    | apply State.put_fits | apply State.bump_fits | apply fits_ite | apply fits_foldl | intro t a ht | extract_lets

theorem State.endBarSweep_fits {s : State} (hz : s.Fits) : State.Fits (State.endBarSweep s) := by
  unfold State.endBarSweep
  with_reducible repeat' first
    | assumption | exact nil_fits | exact init_hold | exact init_barriers | exact init_posts | exact init_held | apply map_fits
    | apply filter_fits | apply discharge_fits | apply State.Fits.hold | apply State.Fits.held | apply State.Fits.barriers
    | apply State.Fits.posts | apply setPlane_hold | apply setPlane_barriers | apply setPlane_posts
    | apply State.startBarSweep_fits | apply fits_setPers | apply State.put_fits | apply fits_ite | extract_lets

theorem State.beginEpochs_fits {s : State} (hz : s.Fits) (e : ℕ) : State.Fits (State.beginEpochs s e) := by
  unfold State.beginEpochs
  with_reducible repeat' first
    | assumption | exact nil_fits | exact init_hold | exact init_barriers | exact init_posts | exact init_held | apply map_fits
    | apply filter_fits | apply discharge_fits | apply State.Fits.hold | apply State.Fits.held | apply State.Fits.barriers
    | apply State.Fits.posts | apply setPlane_hold | apply setPlane_barriers | apply setPlane_posts | apply fits_setPers
    | apply State.put64_fits | extract_lets

theorem State.resumeAppends_fits {s : State} (hz : s.Fits) : State.Fits (State.resumeAppends s) := by
  unfold State.resumeAppends
  with_reducible repeat' first
    | assumption | exact nil_fits | exact init_hold | exact init_barriers | exact init_posts | exact init_held | apply map_fits
    | apply filter_fits | apply discharge_fits | apply State.Fits.hold | apply State.Fits.held | apply State.Fits.barriers
    | apply State.Fits.posts | apply setPlane_hold | apply setPlane_barriers | apply setPlane_posts | apply fits_setPers
    | apply fits_ite | extract_lets

theorem State.closeEpoch_fits {s : State} (hz : s.Fits) : State.Fits (State.closeEpoch s) := by
  unfold State.closeEpoch
  with_reducible repeat' first
    | assumption | exact nil_fits | exact init_hold | exact init_barriers | exact init_posts | exact init_held | apply map_fits
    | apply filter_fits | apply discharge_fits | apply State.Fits.hold | apply State.Fits.held | apply State.Fits.barriers
    | apply State.Fits.posts | apply setPlane_hold | apply setPlane_barriers | apply setPlane_posts | apply State.put64_fits
    | apply State.startBarCounts_fits | apply fits_setPers | apply State.resumeAppends_fits | apply State.refresh_fits
    | apply State.startBarSweep_fits | apply fits_ite | extract_lets

theorem State.deferClose_fits {s : State} (hz : s.Fits) : State.Fits (State.deferClose s) := by
  unfold State.deferClose
  with_reducible repeat' first
    | assumption | exact nil_fits | exact init_hold | exact init_barriers | exact init_posts | exact init_held | apply map_fits
    | apply filter_fits | apply discharge_fits | apply State.Fits.hold | apply State.Fits.held | apply State.Fits.barriers
    | apply State.Fits.posts | apply setPlane_hold | apply setPlane_barriers | apply setPlane_posts | apply fits_setPers
    | apply State.bump64_fits | apply State.raiseInt_fits | apply fits_ite | extract_lets

theorem State.tryClose_fits {s : State} (hz : s.Fits) : State.Fits (State.tryClose s) := by
  unfold State.tryClose
  with_reducible repeat' first
    | assumption | apply State.deferClose_fits | apply State.closeEpoch_fits | apply fits_ite | split

theorem State.walkPlane_fits {s : State} (hz : s.Fits) (n : ℕ) : State.Fits (State.walkPlane s n) := by
  unfold State.walkPlane
  with_reducible repeat' first
    | assumption | apply State.refresh_fits | apply State.appendCool_fits | apply fits_ite | apply fits_foldl | intro t a ht

theorem State.endWalk_fits {s : State} (hz : s.Fits) : State.Fits (State.endWalk s) := by
  unfold State.endWalk
  with_reducible repeat' first
    | assumption | exact nil_fits | exact init_hold | exact init_barriers | exact init_posts | exact init_held | apply map_fits
    | apply filter_fits | apply discharge_fits | apply State.Fits.hold | apply State.Fits.held | apply State.Fits.barriers
    | apply State.Fits.posts | apply setPlane_hold | apply setPlane_barriers | apply setPlane_posts | apply fits_setPers
    | apply State.walkPlane_fits | apply fits_ite | split | extract_lets

theorem State.sealCopy_fits {s : State} (hz : s.Fits) (n : ℕ) (c : Copy) : State.Fits (State.sealCopy n s c) := by
  unfold State.sealCopy
  with_reducible repeat' first
    | assumption | exact nil_fits | exact init_hold | exact init_barriers | exact init_posts | exact init_held | apply map_fits
    | apply filter_fits | apply discharge_fits | apply State.Fits.hold | apply State.Fits.held | apply State.Fits.barriers
    | apply State.Fits.posts | apply setPlane_hold | apply setPlane_barriers | apply setPlane_posts | apply State.setRec_fits
    | apply State.setRes_fits | apply fits_setPers | apply fits_ite | extract_lets | apply fits_state

theorem State.eraseFolded_fits {s : State} (hz : s.Fits) (n : ℕ) : State.Fits (State.eraseFolded s n) := by
  unfold State.eraseFolded
  with_reducible repeat' first
    | assumption | exact nil_fits | exact init_hold | exact init_barriers | exact init_posts | exact init_held | apply map_fits
    | apply filter_fits | apply discharge_fits | apply State.Fits.hold | apply State.Fits.held | apply State.Fits.barriers
    | apply State.Fits.posts | apply setPlane_hold | apply setPlane_barriers | apply setPlane_posts | apply fits_setPers
    | apply fits_foldl | intro t a ht | split | extract_lets

theorem State.rearmPlan_fits {s : State} (hz : s.Fits) : State.Fits (State.rearmPlan s) :=
  fits_of (State.rearmPlan_touches (m := 0x10002) (touches_refl _ s) (by decide)) (by decide) (by decide) hz

theorem State.arraySeal_fits {s : State} (hz : s.Fits) (n : ℕ) : State.Fits (State.arraySeal s n) :=
  fits_of (State.arraySeal_touches (m := 0x20000) (touches_refl _ s) (by decide) n) (by decide) (by decide) hz

theorem State.sealEpoch_fits {s : State} (hz : s.Fits) (n : ℕ) (rearmed : Bool) : State.Fits (State.sealEpoch s n rearmed) := by
  unfold State.sealEpoch
  with_reducible repeat' first
    | assumption | exact nil_fits | exact init_hold | exact init_barriers | exact init_posts | exact init_held | apply map_fits
    | apply filter_fits | apply discharge_fits | apply State.Fits.hold | apply State.Fits.held | apply State.Fits.barriers
    | apply State.Fits.posts | apply setPlane_hold | apply setPlane_barriers | apply setPlane_posts | apply State.sealCopy_fits
    | apply State.completeBarriers_fits | apply State.arraySeal_fits | apply State.put64_fits | apply State.eraseFolded_fits
    | apply State.rearmPlan_fits | apply State.setSave_fits | apply State.refresh_fits | apply State.startBarSweep_fits
    | apply fits_ite | apply fits_foldl | intro t a ht | extract_lets

theorem State.clearPlane_fits {s : State} (hz : s.Fits) : State.Fits (State.clearPlane s) := by
  unfold State.clearPlane
  with_reducible repeat' first
    | assumption | exact nil_fits | exact init_hold | exact init_barriers | exact init_posts | exact init_held | apply map_fits
    | apply filter_fits | apply discharge_fits | apply State.Fits.hold | apply State.Fits.held | apply State.Fits.barriers
    | apply State.Fits.posts | apply setPlane_hold | apply setPlane_barriers | apply setPlane_posts | apply fits_setPers
    | apply fits_ite | split | extract_lets

theorem State.dropFold_fits {s : State} (hz : s.Fits) : State.Fits (State.dropFold s) :=
  fits_of (State.dropFold_touches (m := 0x40000) (touches_refl _ s) (by decide)) (by decide) (by decide) hz

theorem State.foldRewrite_fits {s : State} (hz : s.Fits) (i : ℕ) (r : ℕ) (p : ℕ × ℕ × ℕ) :
    State.Fits (State.foldRewrite s i r p) :=
  fits_of (State.foldRewrite_touches (m := 0x60000) (touches_refl _ s) (by decide) i r p) (by decide) (by decide) hz

theorem State.setUnit_fits {s : State} (hz : s.Fits) (u : BandUnit) (v : BandUnit) : State.Fits (State.setUnit s u v) := by
  unfold State.setUnit
  with_reducible repeat' first
    | assumption | exact nil_fits | exact init_hold | exact init_barriers | exact init_posts | exact init_held | apply map_fits
    | apply filter_fits | apply discharge_fits | apply State.Fits.hold | apply State.Fits.held | apply State.Fits.barriers
    | apply State.Fits.posts | apply setPlane_hold | apply setPlane_barriers | apply setPlane_posts | apply fits_setPers
    | apply fits_ite | extract_lets

theorem State.foldCopy_fits {s : State} (hz : s.Fits) (u : BandUnit) (e : ℕ × ℕ) (t : List (ℕ × ℕ)) :
    State.Fits (State.foldCopy s u e t) := by
  unfold State.foldCopy
  with_reducible repeat' first
    | assumption | exact nil_fits | exact init_hold | exact init_barriers | exact init_posts | exact init_held | apply map_fits
    | apply filter_fits | apply discharge_fits | apply State.Fits.hold | apply State.Fits.held | apply State.Fits.barriers
    | apply State.Fits.posts | apply setPlane_hold | apply setPlane_barriers | apply setPlane_posts | apply State.setUnit_fits
    | apply State.bump64_fits | apply State.foldRewrite_fits | apply fits_setPers | apply State.put_fits | apply fits_ite
    | split | extract_lets

theorem State.foldOne_fits {s : State} (hz : s.Fits) : State.Fits (State.foldOne s) := by
  unfold State.foldOne
  with_reducible repeat' first
    | assumption | apply State.foldCopy_fits | apply State.setUnit_fits | apply State.setSk_fits | apply fits_ite | split
    | extract_lets

theorem State.relocSteps_fits {s : State} (hz : s.Fits) (x0 : ℕ) : State.Fits (State.relocSteps x0 s) :=
  fits_of (State.relocSteps_touches (m := 0x60000) (touches_refl _ s) (by decide) x0) (by decide) (by decide) hz

theorem State.wearLevel_fits {s : State} (hz : s.Fits) : State.Fits (State.wearLevel s) :=
  fits_of (State.wearLevel_touches (m := 0x40000) (touches_refl _ s) (by decide)) (by decide) (by decide) hz

theorem State.foldSteps_fits {s : State} (hz : s.Fits) (k : ℕ) : State.Fits (State.foldSteps k s) := by
  induction k generalizing s with
  | zero =>
    unfold State.foldSteps
    with_reducible repeat' first
      | assumption | exact nil_fits | exact init_hold | exact init_barriers | exact init_posts | exact init_held
      | apply map_fits | apply filter_fits | apply discharge_fits | apply State.Fits.hold | apply State.Fits.held
      | apply State.Fits.barriers | apply State.Fits.posts | apply setPlane_hold | apply setPlane_barriers
      | apply setPlane_posts | apply State.put_fits | apply State.foldOne_fits
  | succ k ih =>
    unfold State.foldSteps
    with_reducible repeat' first
      | assumption | apply ih | exact nil_fits | exact init_hold | exact init_barriers | exact init_posts | exact init_held
      | apply map_fits | apply filter_fits | apply discharge_fits | apply State.Fits.hold | apply State.Fits.held
      | apply State.Fits.barriers | apply State.Fits.posts | apply setPlane_hold | apply setPlane_barriers
      | apply setPlane_posts | apply State.put_fits | apply State.foldOne_fits | apply fits_ite | split

theorem State.setChan_fits {s : State} (hz : s.Fits) (c : ℕ) (x : MovChan) : State.Fits (State.setChan s c x) :=
  fits_of (State.setChan_touches (m := 0x80000) (touches_refl _ s) (by decide) c x) (by decide) (by decide) hz

theorem State.setStage_fits {s : State} (hz : s.Fits) (l : ℕ) (v : Line) : State.Fits (State.setStage s l v) :=
  fits_of (State.setStage_touches (m := 0x80000) (touches_refl _ s) (by decide) l v) (by decide) (by decide) hz

theorem State.writeLoc_fits {s : State} (hz : s.Fits) (c : ℕ) (hint : ℕ) (l : Loc) (v : Line) :
    State.Fits (State.writeLoc s c hint l v) := by
  unfold State.writeLoc
  with_reducible repeat' first
    | assumption | apply State.touch_fits | apply State.storeLine_fits | apply State.setStage_fits | apply fits_ite | split
    | extract_lets

theorem State.readFor_fits {s : State} (hz : s.Fits) (c : ℕ) (hint : ℕ) (x : Loc) : State.Fits (State.readFor s c hint x) :=
  fits_of (State.readFor_touches (m := 0x400022) (touches_refl _ s) (by decide) c hint x) (by decide) (by decide) hz

theorem State.moveLine_fits {s : State} (hz : s.Fits) (c : ℕ) (w : BitVec 64) (k : ℕ) : State.Fits (State.moveLine c w s k) := by
  unfold State.moveLine
  with_reducible repeat' first
    | assumption | apply State.readFor_fits | apply State.writeLoc_fits | apply fits_ite | split | extract_lets

theorem State.zscan_fits {s : State} (hz : s.Fits) (c : ℕ) (w : BitVec 64) : State.Fits (State.zscan s c w) :=
  fits_of (State.zscan_touches (m := 0x80000) (touches_refl _ s) (by decide) c w) (by decide) (by decide) hz

theorem State.moveLines_fits {s : State} (hz : s.Fits) (c : ℕ) (w : BitVec 64) (n : ℕ) : State.Fits (State.moveLines s c w n) := by
  unfold State.moveLines
  with_reducible repeat' first
    | assumption | apply State.bump64By_fits | apply State.moveLine_fits | apply fits_foldl | intro t a ht

theorem State.spreadLines_fits {s : State} (hz : s.Fits) (c : ℕ) (w : BitVec 64) (v : BitVec 64) (n : ℕ) :
    State.Fits (State.spreadLines s c w v n) :=
  fits_of (State.spreadLines_touches (m := 0x80002) (touches_refl _ s) (by decide) c w v n) (by decide) (by decide) hz

theorem State.xfer_fits {s : State} (hz : s.Fits) (c : ℕ) (w : BitVec 64) (v : BitVec 64) (n : ℕ) :
    State.Fits (State.xfer s c w v n) := by
  unfold State.xfer
  with_reducible repeat' first
    | assumption | apply State.moveLines_fits | apply State.zscan_fits | apply State.spreadLines_fits | apply fits_ite
    | extract_lets

theorem State.produce_fits {s : State} (hz : s.Fits) (r : MovRec) : State.Fits (State.produce s r) :=
  fits_of (State.produce_touches (m := 0x80084C02) (touches_refl _ s) (by decide) r) (by decide) (by decide) hz

theorem State.freePort_fits {s : State} (hz : s.Fits) (c : ℕ) : State.Fits (State.freePort s c) :=
  fits_of (State.freePort_touches (m := 0x80000) (touches_refl _ s) (by decide) c) (by decide) (by decide) hz

theorem State.abortAfter_fits {s : State} (hz : s.Fits) (c : ℕ) (cause : ℕ) (moved : ℕ) (cycle : ℕ) :
    State.Fits (State.abortAfter s c cause moved cycle) := by
  unfold State.abortAfter
  with_reducible repeat' first
    | assumption | apply State.xfer_fits | apply State.bump_fits | apply State.put_fits | apply State.produce_fits
    | apply State.setChan_fits | apply State.freePort_fits | apply State.raiseInt_fits | apply fits_ite | split | extract_lets

theorem State.abortChan_fits {s : State} (hz : s.Fits) (c : ℕ) (cause : ℕ) : State.Fits (State.abortChan s c cause) := by
  unfold State.abortChan
  with_reducible repeat' first
    | assumption | apply State.abortAfter_fits | apply State.drawn_fits | apply fits_ite

theorem State.moversToSave_fits {s : State} (hz : s.Fits) : State.Fits (State.moversToSave s) := by
  unfold State.moversToSave
  with_reducible repeat' first
    | assumption | apply State.put_fits | apply State.abortChan_fits | apply fits_foldl | intro t a ht

theorem State.resetChan_fits {s : State} (hz : s.Fits) (c : ℕ) : State.Fits (State.resetChan s c) := by
  unfold State.resetChan
  with_reducible repeat' first
    | assumption | apply State.setChan_fits | apply State.abortChan_fits | extract_lets

theorem State.setPeer_fits {s : State} (hz : s.Fits) (d : ℕ) (p : Peer) : State.Fits (State.setPeer s d p) :=
  fits_of (State.setPeer_touches (m := 0x800000) (touches_refl _ s) (by decide) d p) (by decide) (by decide) hz

theorem State.sendOn_fits {s : State} (hz : s.Fits) (ports : List ℕ) (typ : ℕ) (dst : Option ℕ) (payload : List (BitVec 8)) :
    State.Fits (State.sendOn s ports typ dst payload) :=
  fits_of (State.sendOn_touches (m := 0x80800002) (touches_refl _ s) (by decide) ports typ dst payload) (by decide) (by decide) hz

theorem State.sendFrame_fits {s : State} (hz : s.Fits) (typ : ℕ) (dst : Option ℕ) (payload : List (BitVec 8)) :
    State.Fits (State.sendFrame s typ dst payload) :=
  fits_of (State.sendFrame_touches (m := 0x80800002) (touches_refl _ s) (by decide) typ dst payload) (by decide) (by decide) hz

theorem State.fence_fits {s : State} (hz : s.Fits) : State.Fits (State.fence s) := by
  unfold State.fence
  with_reducible repeat' first
    | assumption | apply State.admitAll_fits | apply State.setHlk_fits | extract_lets

theorem State.dropBarriers_fits {s : State} (hz : s.Fits) : State.Fits (State.dropBarriers s) := by
  unfold State.dropBarriers
  with_reducible repeat' first
    | assumption | exact nil_fits | exact init_hold | exact init_barriers | exact init_posts | exact init_held | apply map_fits
    | apply filter_fits | apply discharge_fits | apply State.Fits.hold | apply State.Fits.held | apply State.Fits.barriers
    | apply State.Fits.posts | apply setPlane_hold | apply setPlane_barriers | apply setPlane_posts | apply State.put_fits
    | apply State.refreshBars_fits | apply fits_setPers | extract_lets

theorem State.abandonUnsealed_fits {s : State} (hz : s.Fits) : State.Fits (State.abandonUnsealed s) := by
  unfold State.abandonUnsealed
  with_reducible repeat' first
    | assumption | exact nil_fits | exact init_hold | exact init_barriers | exact init_posts | exact init_held | apply map_fits
    | apply filter_fits | apply discharge_fits | apply State.Fits.hold | apply State.Fits.held | apply State.Fits.barriers
    | apply State.Fits.posts | apply setPlane_hold | apply setPlane_barriers | apply setPlane_posts
    | apply State.abandonCopy_fits | apply State.dropFold_fits | apply State.setMedia_fits | apply State.put_fits
    | apply State.refresh_fits | apply fits_setPers | apply fits_ite | apply fits_foldl | intro t a ht | extract_lets

theorem State.flashFence_fits {s : State} (hz : s.Fits) : State.Fits (State.flashFence s) :=
  fits_of (State.flashFence_touches (m := 0x40000) (touches_refl _ s) (by decide)) (by decide) (by decide) hz

theorem State.svcFail_fits {s : State} (hz : s.Fits) (status : ℕ) : State.Fits (State.svcFail s status) :=
  fits_of (State.svcFail_touches (m := 0x89005C22) (touches_refl _ s) (by decide) status) (by decide) (by decide) hz

theorem State.abortCapTest_fits {s : State} (hz : s.Fits) : State.Fits (State.abortCapTest s) :=
  fits_of (State.abortCapTest_touches (m := 0x2) (touches_refl _ s) (by decide)) (by decide) (by decide) hz

theorem State.atolFence_fits {s : State} (hz : s.Fits) : State.Fits (State.atolFence s) :=
  fits_of (State.atolFence_touches (m := 0x1000022) (touches_refl _ s) (by decide)) (by decide) (by decide) hz

theorem State.twlFence_fits {s : State} (hz : s.Fits) : State.Fits (State.twlFence s) :=
  fits_of (State.twlFence_touches (m := 0x82004C02) (touches_refl _ s) (by decide)) (by decide) (by decide) hz

theorem State.restoreFence_fits {s : State} (hz : s.Fits) : State.Fits (State.restoreFence s) := by
  unfold State.restoreFence
  with_reducible repeat' first
    | assumption | exact nil_fits | exact init_hold | exact init_barriers | exact init_posts | exact init_held | apply map_fits
    | apply filter_fits | apply discharge_fits | apply State.Fits.hold | apply State.Fits.held | apply State.Fits.barriers
    | apply State.Fits.posts | apply setPlane_hold | apply setPlane_barriers | apply setPlane_posts | apply fits_setRstr
    | apply State.refreshHeld_fits | apply State.requestFaultIn_fits | apply fits_foldl | intro t a ht | extract_lets

theorem State.pwrRefuse_fits {s : State} (hz : s.Fits) (block : ℕ) (target : ℕ) (aborted : Bool) :
    State.Fits (State.pwrRefuse s block target aborted) :=
  fits_of (State.pwrRefuse_touches (m := 0x80004C22) (touches_refl _ s) (by decide) block target aborted) (by decide) (by decide) hz

theorem State.pwrToSave_fits {s : State} (hz : s.Fits) : State.Fits (State.pwrToSave s) :=
  fits_of (State.pwrToSave_touches (m := 0x80006C22) (touches_refl _ s) (by decide)) (by decide) (by decide) hz

theorem State.quiesceToHeld_fits {s : State} (hz : s.Fits) : State.Fits (State.quiesceToHeld s) :=
  fits_of (State.quiesceToHeld_touches (m := 0x2002) (touches_refl _ s) (by decide)) (by decide) (by decide) hz

theorem State.saveStatus_fits {s : State} (hz : s.Fits) (cause : ℕ) : State.Fits (State.saveStatus s cause) :=
  fits_of (State.saveStatus_touches (m := 0x10002) (touches_refl _ s) (by decide) cause) (by decide) (by decide) hz

theorem State.saveMessage_fits {s : State} (hz : s.Fits) (cause : ℕ) : State.Fits (State.saveMessage s cause) :=
  fits_of (State.saveMessage_touches (m := 0x80800002) (touches_refl _ s) (by decide) cause) (by decide) (by decide) hz

theorem State.endEmpty_fits {s : State} (hz : s.Fits) : State.Fits (State.endEmpty s) :=
  fits_of (State.endEmpty_touches (m := 0x14002) (touches_refl _ s) (by decide)) (by decide) (by decide) hz

theorem State.tieTrigger_fits {s : State} (hz : s.Fits) (cause : ℕ) (t0 : ℕ) : State.Fits (State.tieTrigger s cause t0) :=
  fits_of (State.tieTrigger_touches (m := 0x10022) (touches_refl _ s) (by decide) cause t0) (by decide) (by decide) hz

theorem State.startSave_fits {s : State} (hz : s.Fits) (cause : ℕ) (t0 : ℕ) : State.Fits (State.startSave s cause t0) := by
  unfold State.startSave
  with_reducible repeat' first
    | assumption | apply State.put_fits | apply State.tieTrigger_fits | apply State.abortCapTest_fits
    | apply State.quiesceToHeld_fits | apply State.endFreeze_fits | apply State.saveStatus_fits | apply State.setSave_fits
    | apply State.pwrToSave_fits | apply State.twlFence_fits | apply State.atolFence_fits | apply State.svcFail_fits
    | apply State.flush_fits | apply State.flashFence_fits | apply State.abandonUnsealed_fits | apply State.dropBarriers_fits
    | apply State.fence_fits | apply State.saveMessage_fits | apply State.restoreFence_fits | apply State.moversToSave_fits
    | apply State.refresh_fits | apply State.endEmpty_fits | apply fits_ite | extract_lets

theorem State.dropLink_fits {s : State} (hz : s.Fits) : State.Fits (State.dropLink s) :=
  fits_of (State.dropLink_touches (m := 0x80205E22) (touches_refl _ s) (by decide)) (by decide) (by decide) hz

theorem State.fltStatus_fits {s : State} (hz : s.Fits) (m : ℕ) : State.Fits (State.fltStatus s m) :=
  fits_of (State.fltStatus_touches (m₀ := 0x2) (touches_refl _ s) (by decide) m) (by decide) (by decide) hz

theorem State.resetNote_fits {s : State} (hz : s.Fits) (c : Scope) (p : ℕ) (cycle : ℕ) :
    State.Fits (State.resetNote s c p cycle) :=
  fits_of (State.resetNote_touches (m := 0x80005C22) (touches_refl _ s) (by decide) c p cycle) (by decide) (by decide) hz

theorem State.failSave_fits {s : State} (hz : s.Fits) : State.Fits (State.failSave s) :=
  fits_of (State.failSave_touches (m := 0x10002) (touches_refl _ s) (by decide)) (by decide) (by decide) hz

theorem State.safeLanes_fits {s : State} (hz : s.Fits) : State.Fits (State.safeLanes s) :=
  fits_of (State.safeLanes_touches (m := 0x80205E22) (touches_refl _ s) (by decide)) (by decide) (by decide) hz

theorem State.enterSafe_fits {s : State} (hz : s.Fits) : State.Fits (State.enterSafe s) := by
  unfold State.enterSafe
  with_reducible repeat' first
    | assumption | apply State.fltStatus_fits | apply State.put_fits | apply State.setFlt_fits | apply State.setSave_fits
    | apply State.setRst_fits | apply State.flush_fits | apply State.endFreeze_fits | apply State.setHlk_fits
    | apply State.startSave_fits | apply State.safeLanes_fits | apply State.setPwr_fits | apply fits_ite | extract_lets

theorem State.postMsg_fits {s : State} (hz : s.Fits) (m : FltMsg) : State.Fits (State.postMsg s m) :=
  fits_of (State.postMsg_touches (m₀ := 0x802) (touches_refl _ s) (by decide) m) (by decide) (by decide) hz

theorem State.seqInternal_fits {s : State} (hz : s.Fits) : State.Fits (State.seqInternal s) :=
  fits_of (State.seqInternal_touches (m := 0x80014C02) (touches_refl _ s) (by decide)) (by decide) (by decide) hz

theorem State.raiseFaultSev_fits {s : State} (hz : s.Fits) (p : ℕ) (n : ℕ) (sev : ℕ) (kind : ℕ) (addr : ℕ) (cycle : ℕ) (inj : Bool) :
    State.Fits (State.raiseFaultSev s p n sev kind addr cycle inj) := by
  unfold State.raiseFaultSev
  with_reducible repeat' first
    | assumption | apply State.put_fits | apply State.bumpSat_fits | apply State.setFlt_fits | apply State.resetNote_fits
    | apply State.postMsg_fits | apply State.enterSafe_fits | apply State.seqInternal_fits | apply fits_ite | split
    | extract_lets

theorem State.raiseFaultAt_fits {s : State} (hz : s.Fits) (p : ℕ) (n : ℕ) (kind : ℕ) (addr : ℕ) (cycle : ℕ) (inj : Bool) :
    State.Fits (State.raiseFaultAt s p n kind addr cycle inj) := by
  unfold State.raiseFaultAt
  with_reducible repeat' first
    | assumption | apply State.raiseFaultSev_fits

theorem State.raiseFault_fits {s : State} (hz : s.Fits) (p : ℕ) (n : ℕ) (kind : ℕ) (addr : ℕ) :
    State.Fits (State.raiseFault s p n kind addr) := by
  unfold State.raiseFault
  with_reducible repeat' first
    | assumption | apply State.raiseFaultAt_fits | apply State.drawn_fits

theorem State.abandonRaised_fits {s : State} (hz : s.Fits) (c : Copy) : State.Fits (State.abandonRaised s c) := by
  unfold State.abandonRaised
  with_reducible repeat' first
    | assumption | apply State.raiseFault_fits | apply State.raiseInt_fits | apply State.abandonCopy_fits

theorem State.abandonStripe_fits {s : State} (hz : s.Fits) (slc : Bool) (l : List (ℕ × ℕ)) :
    State.Fits (State.abandonStripe s slc l) := by
  unfold State.abandonStripe
  with_reducible repeat' first
    | assumption | apply State.refresh_fits | apply State.abandonRaised_fits | apply fits_foldl | intro t a ht

theorem State.stagingLost_fits {s : State} (hz : s.Fits) (f : State → Copy → State) (own : ℕ → Bool) (i : ℕ) (hf : ∀ (t : State) (c : Copy), t.Fits → (f t c).Fits) :
    State.Fits (State.stagingLost s f own i) := by
  unfold State.stagingLost
  with_reducible repeat' first
    | assumption | apply State.refresh_fits | apply fits_foldl | intro t a ht | apply hf

theorem State.store_fits {s : State} (hz : s.Fits) (f : Fld) (v : ℕ) : State.Fits (State.store s f v) :=
  fits_of (State.store_touches (m := 0x80) (touches_refl _ s) (by decide) f v) (by decide) (by decide) hz

theorem State.resetPages_fits {s : State} (hz : s.Fits) (covered : ℕ → Bool) : State.Fits (State.resetPages s covered) :=
  fits_of (State.resetPages_touches (m := 0x80004C0E) (touches_refl _ s) (by decide) covered) (by decide) (by decide) hz

theorem State.resetMovers_fits {s : State} (hz : s.Fits) (covered : ℕ → Bool) : State.Fits (State.resetMovers s covered) := by
  unfold State.resetMovers
  with_reducible repeat' first
    | assumption | apply State.resetChan_fits | apply fits_foldl | intro t a ht

theorem State.resetUpkeep_fits {s : State} (hz : s.Fits) (covered : ℕ → Bool) : State.Fits (State.resetUpkeep s covered) :=
  fits_of (State.resetUpkeep_touches (m := 0x21880800) (touches_refl _ s) (by decide) covered) (by decide) (by decide) hz

theorem State.resetBlocks_fits {s : State} (hz : s.Fits) (covered : ℕ → Bool) : State.Fits (State.resetBlocks s covered) := by
  unfold State.resetBlocks
  with_reducible repeat' first
    | assumption | apply State.refreshHlk_fits | apply State.resetUpkeep_fits | apply State.resetPages_fits
    | apply State.resetMovers_fits

theorem State.escalated_fits {s : State} (hz : s.Fits) : State.Fits (State.escalated s) :=
  fits_of (State.escalated_touches (m := 0x22) (touches_refl _ s) (by decide)) (by decide) (by decide) hz

theorem State.callReset_fits {s : State} (hz : s.Fits) (what : ScopeOf) (parent : ℕ) :
    State.Fits (State.callReset s what parent) :=
  fits_of (State.callReset_touches (m := 0x800) (touches_refl _ s) (by decide) what parent) (by decide) (by decide) hz

theorem State.discardBad_fits {s : State} (hz : s.Fits) : State.Fits (State.discardBad s) :=
  fits_of (State.discardBad_touches (m := 0x80205C22) (touches_refl _ s) (by decide)) (by decide) (by decide) hz

theorem State.discardQueues_fits {s : State} (hz : s.Fits) (d : ℕ) : State.Fits (State.discardQueues s d) := by
  unfold State.discardQueues
  with_reducible repeat' first
    | assumption | exact nil_fits | exact init_hold | exact init_barriers | exact init_posts | exact init_held | apply map_fits
    | apply filter_fits | apply discharge_fits | apply State.Fits.hold | apply State.Fits.held | apply State.Fits.barriers
    | apply State.Fits.posts | apply setPlane_hold | apply setPlane_barriers | apply setPlane_posts
    | apply State.refreshHeld_fits | apply fits_setRstr | apply fits_setPers | apply State.setHlk_fits | apply State.setDrc_fits
    | apply State.setFarr_fits | apply fits_ite | extract_lets

theorem State.coreReset_fits {s : State} (hz : s.Fits) (k : ℕ) : State.Fits (State.coreReset s k) :=
  fits_of (State.coreReset_touches (m := 0x8B015C22) (touches_refl _ s) (by decide) k) (by decide) (by decide) hz

theorem State.assertReset_fits {s : State} (hz : s.Fits) (w : ScopeOf) : State.Fits (State.assertReset s w) := by
  unfold State.assertReset
  with_reducible repeat' first
    | assumption | apply State.coreReset_fits | apply State.refreshHlk_fits | apply State.resetMovers_fits
    | apply State.discardBad_fits | apply State.discardQueues_fits | apply fits_ite | apply fits_foldl | intro t a ht | split
    | extract_lets

theorem State.assertResets_fits {s : State} (hz : s.Fits) : State.Fits (State.assertResets s) := by
  unfold State.assertResets
  with_reducible repeat' first
    | assumption | apply State.setFlt_fits | apply State.assertReset_fits | apply fits_ite | apply fits_foldl | intro t a ht
    | split | extract_lets

theorem State.recordStall_fits {s : State} (hz : s.Fits) (fseq : ℕ) (us : ℕ) : State.Fits (State.recordStall s fseq us) := by
  unfold State.recordStall
  with_reducible repeat' first
    | assumption | apply State.setFlt_fits | apply State.put_fits | apply State.raiseFault_fits | apply State.raiseInt_fits
    | apply State.fltStatus_fits | apply fits_ite | extract_lets

theorem State.endShadow_fits {s : State} (hz : s.Fits) (w : ScopeOf) (us : ℕ) : State.Fits (State.endShadow s w us) := by
  unfold State.endShadow
  with_reducible repeat' first
    | assumption | apply State.setFlt_fits | apply State.recordStall_fits | apply fits_ite | split | extract_lets

theorem State.resetOverrun_fits {s : State} (hz : s.Fits) (b : ℕ) : State.Fits (State.resetOverrun s b) := by
  unfold State.resetOverrun
  with_reducible repeat' first
    | assumption | apply State.raiseFault_fits | apply State.setFlt_fits | apply State.callReset_fits
    | apply State.escalated_fits | apply fits_ite | split | extract_lets

theorem State.resetStuck_fits {s : State} (hz : s.Fits) (d : ℕ) : State.Fits (State.resetStuck s d) := by
  unfold State.resetStuck
  with_reducible repeat' first
    | assumption | apply State.raiseFault_fits | apply State.escalated_fits | apply fits_ite | split

theorem State.tickStall_fits {s : State} (hz : s.Fits) : State.Fits (State.tickStall s) := by
  unfold State.tickStall
  with_reducible repeat' first
    | assumption | apply State.raiseFault_fits | apply fits_ite

theorem State.coreCrash_fits {s : State} (hz : s.Fits) (k : ℕ) (n : ℕ) : State.Fits (State.coreCrash s k n) :=
  fits_of (State.coreCrash_touches (m := 0x822) (touches_refl _ s) (by decide) k n) (by decide) (by decide) hz

theorem State.fltPop_fits {s : State} (hz : s.Fits) : State.Fits (State.fltPop s) :=
  fits_of (State.fltPop_touches (m := 0x800) (touches_refl _ s) (by decide)) (by decide) (by decide) hz

theorem State.fltFirstClr_fits {s : State} (hz : s.Fits) : State.Fits (State.fltFirstClr s) :=
  fits_of (State.fltFirstClr_touches (m := 0x800) (touches_refl _ s) (by decide)) (by decide) (by decide) hz

theorem State.setCell_fits {s : State} (hz : s.Fits) (cw : ℕ) (c : CodeWord) : State.Fits (State.setCell s cw c) :=
  fits_of (State.setCell_touches (m := 0x1000000) (touches_refl _ s) (by decide) cw c) (by decide) (by decide) hz

theorem State.setAtolBlk_fits {s : State} (hz : s.Fits) (b : ℕ) (x : AtolBlk) : State.Fits (State.setAtolBlk s b x) :=
  fits_of (State.setAtolBlk_touches (m := 0x1000000) (touches_refl _ s) (by decide) b x) (by decide) (by decide) hz

theorem State.setErr_fits {s : State} (hz : s.Fits) (p : Port) (f : Fld) : State.Fits (State.setErr s p f) :=
  fits_of (State.setErr_touches (m := 0x2) (touches_refl _ s) (by decide) p f) (by decide) (by decide) hz

theorem State.srcErr_fits {s : State} (hz : s.Fits) (n : ℕ) (f : Fld) : State.Fits (State.srcErr s n f) :=
  fits_of (State.srcErr_touches (m := 0x2) (touches_refl _ s) (by decide) n f) (by decide) (by decide) hz

theorem State.opEnded_fits {s : State} (hz : s.Fits) (n : ℕ) : State.Fits (State.opEnded s n) :=
  fits_of (State.opEnded_touches (m := 0x80004C02) (touches_refl _ s) (by decide) n) (by decide) (by decide) hz

theorem State.runArray_fits {s : State} (hz : s.Fits) (x0 : ℕ) : State.Fits (State.runArray x0 s) :=
  fits_of (State.runArray_touches (m := 0x81004C22) (touches_refl _ s) (by decide) x0) (by decide) (by decide) hz

theorem State.abandonSeq_fits {s : State} (hz : s.Fits) (p : Port) : State.Fits (State.abandonSeq s p) :=
  fits_of (State.abandonSeq_touches (m := 0x1000022) (touches_refl _ s) (by decide) p) (by decide) (by decide) hz

theorem State.beginCmd_fits {s : State} (hz : s.Fits) (p : Port) (op : ℕ) (level : ℕ) :
    State.Fits (State.beginCmd s p op level) :=
  fits_of (State.beginCmd_touches (m := 0x81004C22) (touches_refl _ s) (by decide) p op level) (by decide) (by decide) hz

theorem State.winWrite_fits {s : State} (hz : s.Fits) (p : Port) (w : ℕ) (data : Word) :
    State.Fits (State.winWrite s p w data) :=
  fits_of (State.winWrite_touches (m := 0x81004C22) (touches_refl _ s) (by decide) p w data) (by decide) (by decide) hz

theorem State.readReport_fits {s : State} (hz : s.Fits) (p : Port) (w : ℕ) (cbits : ℕ) (ue : Bool) :
    State.Fits (State.readReport s p w cbits ue) := by
  unfold State.readReport
  with_reducible repeat' first
    | assumption | apply State.put_fits | apply State.bump_fits | apply State.raiseFault_fits | apply State.raiseInt_fits
    | apply State.setAtolBlk_fits | apply fits_ite | extract_lets

theorem State.arrayRead_fits {s : State} (hz : s.Fits) (p : Port) (w : ℕ) (cbits : ℕ) (ue : Bool) :
    State.Fits (State.arrayRead s p w cbits ue).1 := by
  unfold State.arrayRead
  with_reducible repeat' first
    | assumption | apply State.setErr_fits | apply State.put_fits | apply State.bump_fits | apply State.readReport_fits
    | apply State.drawn_fits | apply fits_ite | apply fits_ite_fst | split | extract_lets

theorem State.winRead_fits {s : State} (hz : s.Fits) (p : Port) (w : ℕ) (cbits : ℕ) (ue : Bool) :
    State.Fits (State.winRead s p w cbits ue).1 := by
  unfold State.winRead
  with_reducible repeat' first
    | assumption | apply State.abandonSeq_fits | apply State.put_fits | apply State.setErr_fits | apply State.arrayRead_fits
    | apply fits_ite | apply fits_ite_fst | extract_lets

theorem State.markWorn_fits {s : State} (hz : s.Fits) (b : ℕ) : State.Fits (State.markWorn s b) :=
  fits_of (State.markWorn_touches (m := 0x1000002) (touches_refl _ s) (by decide) b) (by decide) (by decide) hz

theorem State.programEnded_fits {s : State} (hz : s.Fits) (src : ℕ) (cw : ℕ) (data : BitVec 256) (pulses : ℕ) (ok : Bool) :
    State.Fits (State.programEnded s src cw data pulses ok) := by
  unfold State.programEnded
  with_reducible repeat' first
    | assumption | apply State.bump64_fits | apply State.setCell_fits | apply State.setAtolBlk_fits | apply State.markWorn_fits
    | apply State.raiseFault_fits | apply State.srcErr_fits | apply fits_ite | extract_lets

theorem State.clearBlock_fits {s : State} (hz : s.Fits) (b : ℕ) : State.Fits (State.clearBlock s b) :=
  fits_of (State.clearBlock_touches (m := 0x1000022) (touches_refl _ s) (by decide) b) (by decide) (by decide) hz

theorem State.setSelector_fits {s : State} (hz : s.Fits) (y : Selector) : State.Fits (State.setSelector s y) :=
  fits_of (State.setSelector_touches (m := 0x1000022) (touches_refl _ s) (by decide) y) (by decide) (by decide) hz

theorem State.bootSwap_fits {s : State} (hz : s.Fits) (src : ℕ) : State.Fits (State.bootSwap s src) :=
  fits_of (State.bootSwap_touches (m := 0x1000022) (touches_refl _ s) (by decide) src) (by decide) (by decide) hz

theorem State.progDone_fits {s : State} (hz : s.Fits) (pulses : ℕ) (ok : Bool) : State.Fits (State.progDone s pulses ok) := by
  unfold State.progDone
  with_reducible repeat' first
    | assumption | apply State.put_fits | apply State.setAtol_fits | apply State.programEnded_fits | apply State.bootSwap_fits
    | apply State.setSelector_fits | apply State.runArray_fits | apply State.opEnded_fits | apply fits_ite | split
    | extract_lets

theorem State.retire_fits {s : State} (hz : s.Fits) (b : ℕ) (failed : Bool) : State.Fits (State.retire s b failed) := by
  unfold State.retire
  with_reducible repeat' first
    | assumption | apply State.setAtolBlk_fits | apply State.put_fits | apply State.setAtol_fits | apply State.bumpSat_fits
    | apply State.raiseFault_fits | apply State.raiseInt_fits | apply fits_ite | split | extract_lets

theorem State.eraseDone_fits {s : State} (hz : s.Fits) (ok : Bool) : State.Fits (State.eraseDone s ok) := by
  unfold State.eraseDone
  with_reducible repeat' first
    | assumption | apply State.clearBlock_fits | apply State.put_fits | apply State.setAtol_fits | apply State.raiseFault_fits
    | apply State.retire_fits | apply State.runArray_fits | apply State.opEnded_fits | apply fits_ite | split | extract_lets

theorem State.atolResume_fits {s : State} (hz : s.Fits) : State.Fits (State.atolResume s) :=
  fits_of (State.atolResume_touches (m := 0x81004C22) (touches_refl _ s) (by decide)) (by decide) (by decide) hz

theorem State.atolCut_fits {s : State} (hz : s.Fits) : State.Fits (State.atolCut s) :=
  fits_of (State.atolCut_touches (m := 0x1000022) (touches_refl _ s) (by decide)) (by decide) (by decide) hz

theorem State.atolAbort_fits {s : State} (hz : s.Fits) : State.Fits (State.atolAbort s) :=
  fits_of (State.atolAbort_touches (m := 0x81004C22) (touches_refl _ s) (by decide)) (by decide) (by decide) hz

theorem State.wiped_fits {s : State} (hz : s.Fits) : State.Fits (State.wiped s) :=
  fits_of (State.wiped_touches (m := 0x1001182) (touches_refl _ s) (by decide)) (by decide) (by decide) hz

theorem State.resetAll_fits {s : State} (hz : s.Fits) (warm : Bool) : State.Fits (State.resetAll s warm) :=
  fits_of (State.resetAll_touches (m := 0x20E) (touches_refl _ s) (by decide) warm) (by decide) (by decide) hz

theorem State.assertDevice_fits {s : State} (hz : s.Fits) (warm : Bool) : State.Fits (State.assertDevice s warm) := by
  unfold State.assertDevice
  with_reducible repeat' first
    | assumption | exact nil_fits | exact init_hold | exact init_barriers | exact init_posts | exact init_held | apply map_fits
    | apply filter_fits | apply discharge_fits | apply State.Fits.hold | apply State.Fits.held | apply State.Fits.barriers
    | apply State.Fits.posts | apply setPlane_hold | apply setPlane_barriers | apply setPlane_posts | apply State.resetAll_fits
    | apply State.atolCut_fits | apply fits_ite | apply fits_foldl | intro t a ht | extract_lets | apply fits_state

theorem State.startFields_fits {s : State} (hz : s.Fits) (start : ℕ) (src : ℕ) : State.Fits (State.startFields s start src) :=
  fits_of (State.startFields_touches (m := 0x2) (touches_refl _ s) (by decide) start src) (by decide) (by decide) hz

theorem State.recoveryStart_fits {s : State} (hz : s.Fits) (cause : ℕ) : State.Fits (State.recoveryStart s cause) :=
  fits_of (State.recoveryStart_touches (m := 0x12022) (touches_refl _ s) (by decide) cause) (by decide) (by decide) hz

theorem State.coldStart_fits {s : State} (hz : s.Fits) : State.Fits (State.coldStart s) :=
  fits_of (State.coldStart_touches (m := 0x40052062) (touches_refl _ s) (by decide)) (by decide) (by decide) hz

theorem State.resumeWipe_fits {s : State} (hz : s.Fits) : State.Fits (State.resumeWipe s) :=
  fits_of (State.resumeWipe_touches (m := 0x2) (touches_refl _ s) (by decide)) (by decide) (by decide) hz

theorem State.startAfterReset_fits {s : State} (hz : s.Fits) (src : ℕ) (warm : Bool) (recovery : Bool) :
    State.Fits (State.startAfterReset s src warm recovery) :=
  fits_of (State.startAfterReset_touches (m := 0x40052062) (touches_refl _ s) (by decide) src warm recovery) (by decide) (by decide) hz

theorem State.deviceReset_fits {s : State} (hz : s.Fits) (src : ℕ) : State.Fits (State.deviceReset s src) := by
  unfold State.deviceReset
  with_reducible repeat' first
    | assumption | apply State.startAfterReset_fits | apply State.assertDevice_fits | apply State.put_fits
    | apply State.setSave_fits | extract_lets

theorem State.beginQuiesce_fits {s : State} (hz : s.Fits) (src : ℕ) : State.Fits (State.beginQuiesce s src) := by
  unfold State.beginQuiesce
  with_reducible repeat' first
    | assumption | apply State.setRst_fits | apply State.put_fits | apply State.dropLink_fits | apply State.resetMovers_fits
    | apply State.dropBarriers_fits | apply State.fence_fits | apply fits_ite | extract_lets

theorem State.requestReset_fits {s : State} (hz : s.Fits) (src : ℕ) : State.Fits (State.requestReset s src) := by
  unfold State.requestReset
  with_reducible repeat' first
    | assumption | apply State.setRst_fits | apply State.put_fits | apply State.beginQuiesce_fits | apply fits_ite | split
    | extract_lets

theorem State.quiesceDone_fits {s : State} (hz : s.Fits) (refreshed : Bool) (stored : Bool) :
    State.Fits (State.quiesceDone s refreshed stored) := by
  unfold State.quiesceDone
  with_reducible repeat' first
    | assumption | apply State.setRst_fits | apply State.deviceReset_fits | apply fits_ite | split | extract_lets

theorem State.releaseHeld_fits {s : State} (hz : s.Fits) : State.Fits (State.releaseHeld s) := by
  unfold State.releaseHeld
  with_reducible repeat' first
    | assumption | apply State.deviceReset_fits | apply State.beginQuiesce_fits | apply fits_ite | split

theorem State.powerReturn_fits {s : State} (hz : s.Fits) : State.Fits (State.powerReturn s) := by
  unfold State.powerReturn
  with_reducible repeat' first
    | assumption | apply State.deviceReset_fits | apply State.setSave_fits | apply fits_ite | split | extract_lets

theorem State.pfailTrigger_fits {s : State} (hz : s.Fits) : State.Fits (State.pfailTrigger s) := by
  unfold State.pfailTrigger
  with_reducible repeat' first
    | assumption | apply State.startSave_fits | apply fits_ite

theorem State.goodNow_fits {s : State} (hz : s.Fits) : State.Fits (State.goodNow s) :=
  fits_of (State.goodNow_touches (m := 0x10000) (touches_refl _ s) (by decide)) (by decide) (by decide) hz

theorem State.pfailGlitch_fits {s : State} (hz : s.Fits) (n : ℕ) : State.Fits (State.pfailGlitch s n) := by
  unfold State.pfailGlitch
  with_reducible repeat' first
    | assumption | apply State.goodNow_fits | apply State.setSave_fits | apply State.raiseFault_fits | apply State.raiseInt_fits
    | apply State.bumpSat_fits | apply fits_ite | extract_lets

theorem State.railTrip_fits {s : State} (hz : s.Fits) : State.Fits (State.railTrip s) := by
  unfold State.railTrip
  with_reducible repeat' first
    | assumption | apply State.setSave_fits | apply State.startSave_fits | apply fits_ite | extract_lets

theorem State.saveIslets_fits {s : State} (hz : s.Fits) (x0 : ℕ) : State.Fits (State.saveIslets x0 s) :=
  fits_of (State.saveIslets_touches (m := 0x450002) (touches_refl _ s) (by decide) x0) (by decide) (by decide) hz

theorem State.joinSave_fits {s : State} (hz : s.Fits) (i : ℕ) : State.Fits (State.joinSave s i) :=
  fits_of (State.joinSave_touches (m := 0x10002) (touches_refl _ s) (by decide) i) (by decide) (by decide) hz

theorem State.saveEntries_fits {s : State} (hz : s.Fits) (r : SaveRun) : State.Fits (State.saveEntries s r) :=
  fits_of (State.saveEntries_touches (m := 0x40000) (touches_refl _ s) (by decide) r) (by decide) (by decide) hz

theorem State.sealSaved_fits {s : State} (hz : s.Fits) (r : SaveRun) : State.Fits (State.sealSaved s r) := by
  unfold State.sealSaved
  with_reducible repeat' first
    | assumption | exact nil_fits | exact init_hold | exact init_barriers | exact init_posts | exact init_held | apply map_fits
    | apply filter_fits | apply discharge_fits | apply State.Fits.hold | apply State.Fits.held | apply State.Fits.barriers
    | apply State.Fits.posts | apply setPlane_hold | apply setPlane_barriers | apply setPlane_posts | apply fits_setPers
    | apply State.setArr_fits | apply fits_ite | apply fits_foldl | intro t a ht | extract_lets

theorem State.saveEnd_fits {s : State} (hz : s.Fits) (x : SaveSeal) : State.Fits (State.saveEnd s x) :=
  fits_of (State.saveEnd_touches (m := 0x80800002) (touches_refl _ s) (by decide) x) (by decide) (by decide) hz

theorem State.saveDone_fits {s : State} (hz : s.Fits) : State.Fits (State.saveDone s) := by
  unfold State.saveDone
  with_reducible repeat' first
    | assumption | apply State.dropVoid_fits | apply State.sealJournal_fits | apply State.saveEntries_fits
    | apply State.put64_fits | apply State.sealSaved_fits | apply State.setPwr_fits | apply State.setSave_fits
    | apply State.put_fits | apply State.atolResume_fits | apply State.saveEnd_fits | apply fits_ite | split | extract_lets

theorem State.suppliesGone_fits {s : State} (hz : s.Fits) : State.Fits (State.suppliesGone s) := by
  unfold State.suppliesGone
  with_reducible repeat' first
    | assumption | exact nil_fits | exact init_hold | exact init_barriers | exact init_posts | exact init_held | apply map_fits
    | apply filter_fits | apply discharge_fits | apply State.Fits.hold | apply State.Fits.held | apply State.Fits.barriers
    | apply State.Fits.posts | apply setPlane_hold | apply setPlane_barriers | apply setPlane_posts | apply State.atolCut_fits
    | apply fits_foldl | intro t a ht | extract_lets | apply fits_state

theorem State.tearRecord_fits {s : State} (hz : s.Fits) : State.Fits (State.tearRecord s) :=
  fits_of (State.tearRecord_touches (m := 0x1000) (touches_refl _ s) (by decide)) (by decide) (by decide) hz

theorem State.powerLoss_fits {s : State} (hz : s.Fits) (torn : Bool) : State.Fits (State.powerLoss s torn) := by
  unfold State.powerLoss
  with_reducible repeat' first
    | assumption | apply State.suppliesGone_fits | apply State.tearRecord_fits | apply fits_ite

theorem State.readMarks_fits {s : State} (hz : s.Fits) (f : Found) : State.Fits (State.readMarks s f) :=
  fits_of (State.readMarks_touches (m := 0x40000) (touches_refl _ s) (by decide) f) (by decide) (by decide) hz

theorem State.startArray_fits {s : State} (hz : s.Fits) (b : Superblock) : State.Fits (State.startArray s b) :=
  fits_of (State.startArray_touches (m := 0x60000) (touches_refl _ s) (by decide) b) (by decide) (by decide) hz

theorem State.formatArray_fits {s : State} (hz : s.Fits) : State.Fits (State.formatArray s) := by
  unfold State.formatArray
  with_reducible repeat' first
    | assumption | exact nil_fits | exact init_hold | exact init_barriers | exact init_posts | exact init_held | apply map_fits
    | apply filter_fits | apply discharge_fits | apply State.Fits.hold | apply State.Fits.held | apply State.Fits.barriers
    | apply State.Fits.posts | apply setPlane_hold | apply setPlane_barriers | apply setPlane_posts | apply State.drawn_fits
    | apply fits_setPers | apply State.setArr_fits | apply State.setKept_fits | apply State.startArray_fits | apply fits_ite
    | extract_lets

theorem State.loadLast_fits {s : State} (hz : s.Fits) (o : Option SaveSeal) : State.Fits (State.loadLast s o) :=
  fits_of (State.loadLast_touches (m := 0x2) (touches_refl _ s) (by decide) o) (by decide) (by decide) hz

theorem State.raiseDsc_fits {s : State} (hz : s.Fits) (h : ℕ) : State.Fits (State.raiseDsc s h) :=
  fits_of (State.raiseDsc_touches (m := 0x102) (touches_refl _ s) (by decide) h) (by decide) (by decide) hz

theorem State.settleClass_fits {s : State} (hz : s.Fits) (cls : ℕ) (p : ℕ) (h : ℕ) : State.Fits (State.settleClass s cls p h) := by
  unfold State.settleClass
  with_reducible repeat' first
    | assumption | exact nil_fits | exact init_hold | exact init_barriers | exact init_posts | exact init_held | apply map_fits
    | apply filter_fits | apply discharge_fits | apply State.Fits.hold | apply State.Fits.held | apply State.Fits.barriers
    | apply State.Fits.posts | apply setPlane_hold | apply setPlane_barriers | apply setPlane_posts | apply State.put64_fits
    | apply State.put_fits | apply fits_setRstr | apply State.raiseDsc_fits | apply State.raiseInt_fits
    | apply State.cxlEvent_fits | apply State.raiseFault_fits | apply State.setSave_fits | apply fits_ite | extract_lets

theorem State.imagePage_fits {s : State} (hz : s.Fits) (f : Found) : State.Fits (State.imagePage s f) :=
  fits_of (State.imagePage_touches (m := 0x40002) (touches_refl _ s) (by decide) f) (by decide) (by decide) hz

theorem State.readForward_fits {s : State} (hz : s.Fits) (e : ℕ × ℕ × Bool) : State.Fits (State.readForward s e) :=
  fits_of (State.readForward_touches (m := 0x40000) (touches_refl _ s) (by decide) e) (by decide) (by decide) hz

theorem State.detect_fits {s : State} (hz : s.Fits) (f : Found) : State.Fits (State.detect s f) := by
  unfold State.detect
  with_reducible repeat' first
    | assumption | exact nil_fits | exact init_hold | exact init_barriers | exact init_posts | exact init_held | apply map_fits
    | apply filter_fits | apply discharge_fits | apply State.Fits.hold | apply State.Fits.held | apply State.Fits.barriers
    | apply State.Fits.posts | apply setPlane_hold | apply setPlane_barriers | apply setPlane_posts | apply State.readMarks_fits
    | apply State.imagePage_fits | apply State.formatArray_fits | apply State.readForward_fits | apply State.refreshFarr_fits
    | apply fits_setRstr | apply State.loadLast_fits | apply fits_ite | apply fits_foldl | intro t a ht | extract_lets

theorem State.loadTables_fits {s : State} (hz : s.Fits) : State.Fits (State.loadTables s) := by
  unfold State.loadTables
  with_reducible repeat' first
    | assumption | exact nil_fits | exact init_hold | exact init_barriers | exact init_posts | exact init_held | apply map_fits
    | apply filter_fits | apply discharge_fits | apply State.Fits.hold | apply State.Fits.held | apply State.Fits.barriers
    | apply State.Fits.posts | apply setPlane_hold | apply setPlane_barriers | apply setPlane_posts
    | apply State.refreshFarr_fits | apply fits_setRstr | apply State.replayTables_fits | split | extract_lets

theorem State.cutJournal_fits {s : State} (hz : s.Fits) : State.Fits (State.cutJournal s) :=
  fits_of (State.cutJournal_touches (m := 0x60000) (touches_refl _ s) (by decide)) (by decide) (by decide) hz

theorem State.activate_fits {s : State} (hz : s.Fits) : State.Fits (State.activate s) := by
  unfold State.activate
  with_reducible repeat' first
    | assumption | exact nil_fits | exact init_hold | exact init_barriers | exact init_posts | exact init_held | apply map_fits
    | apply filter_fits | apply discharge_fits | apply State.Fits.hold | apply State.Fits.held | apply State.Fits.barriers
    | apply State.Fits.posts | apply setPlane_hold | apply setPlane_barriers | apply setPlane_posts | apply State.put64_fits
    | apply State.put_fits | apply State.beginEpochs_fits | apply fits_setRstr | extract_lets

theorem State.memoryActive_fits {s : State} (hz : s.Fits) : State.Fits (State.memoryActive s) :=
  fits_of (State.memoryActive_touches (m := 0x80206C02) (touches_refl _ s) (by decide)) (by decide) (by decide) hz

theorem State.claimBanks_fits {s : State} (hz : s.Fits) : State.Fits (State.claimBanks s) := by
  unfold State.claimBanks
  with_reducible repeat' first
    | assumption | exact nil_fits | exact init_hold | exact init_barriers | exact init_posts | exact init_held | apply map_fits
    | apply filter_fits | apply discharge_fits | apply State.Fits.hold | apply State.Fits.held | apply State.Fits.barriers
    | apply State.Fits.posts | apply setPlane_hold | apply setPlane_barriers | apply setPlane_posts | apply State.preempt_fits
    | apply fits_setRstr | extract_lets

theorem State.metadataLoaded_fits {s : State} (hz : s.Fits) : State.Fits (State.metadataLoaded s) := by
  unfold State.metadataLoaded
  with_reducible repeat' first
    | assumption | exact nil_fits | exact init_hold | exact init_barriers | exact init_posts | exact init_held | apply map_fits
    | apply filter_fits | apply discharge_fits | apply State.Fits.hold | apply State.Fits.held | apply State.Fits.barriers
    | apply State.Fits.posts | apply setPlane_hold | apply setPlane_barriers | apply setPlane_posts | apply fits_setPers
    | apply State.activate_fits | apply State.cutJournal_fits | apply State.loadTables_fits | apply fits_setRstr
    | apply State.put_fits | apply State.grantSlots_fits | apply State.memoryActive_fits | apply State.claimBanks_fits
    | apply State.setRes_fits | apply fits_ite | extract_lets

theorem State.rstrTick_fits {s : State} (hz : s.Fits) : State.Fits (State.rstrTick s) := by
  unfold State.rstrTick
  with_reducible repeat' first
    | assumption | exact nil_fits | exact init_hold | exact init_barriers | exact init_posts | exact init_held | apply map_fits
    | apply filter_fits | apply discharge_fits | apply State.Fits.hold | apply State.Fits.held | apply State.Fits.barriers
    | apply State.Fits.posts | apply setPlane_hold | apply setPlane_barriers | apply setPlane_posts
    | apply State.enableFeature_fits | apply fits_setRstr | apply State.release_fits | apply fits_ite | extract_lets

theorem State.startDirty_fits {s : State} (hz : s.Fits) (i : ℕ) : State.Fits (State.startDirty s i) := by
  unfold State.startDirty
  with_reducible repeat' first
    | assumption | apply State.setRec_fits | apply State.setBit_fits | apply State.appendReturn_fits | apply State.refresh_fits
    | apply State.setRes_fits | apply fits_ite | extract_lets

theorem State.restoreUnsaved_fits {s : State} (hz : s.Fits) (i : ℕ) : State.Fits (State.restoreUnsaved s i) := by
  unfold State.restoreUnsaved
  with_reducible repeat' first
    | assumption | exact nil_fits | exact init_hold | exact init_barriers | exact init_posts | exact init_held | apply map_fits
    | apply filter_fits | apply discharge_fits | apply State.Fits.hold | apply State.Fits.held | apply State.Fits.barriers
    | apply State.Fits.posts | apply setPlane_hold | apply setPlane_barriers | apply setPlane_posts | apply State.setRec_fits
    | apply State.poisonIslet_fits | apply fits_setPers | apply fits_setRstr | apply State.noteCopy_fits
    | apply State.setRes_fits | extract_lets

theorem State.mediaPoison_fits {s : State} (hz : s.Fits) (i : ℕ) (lost : List ℕ) : State.Fits (State.mediaPoison s i lost) := by
  unfold State.mediaPoison
  with_reducible repeat' first
    | assumption | apply State.setLine_fits | apply State.cxlEvent_fits | apply State.markPoison_fits
    | apply State.raiseFault_fits | apply State.raiseInt_fits | apply State.bumpBy_fits | apply fits_ite | apply fits_foldl
    | intro t a ht | extract_lets

theorem State.bringBack_fits {s : State} (hz : s.Fits) (i : ℕ) (rebuilt : ℕ) (lost : List ℕ) :
    State.Fits (State.bringBack s i rebuilt lost) := by
  unfold State.bringBack
  with_reducible repeat' first
    | assumption | apply State.bumpBy_fits | apply State.drcIslet_fits | apply State.setIslet_fits
    | apply State.restoreUnsaved_fits | apply State.setRec_fits | apply State.poisonIslet_fits | apply State.startDirty_fits
    | apply State.mediaPoison_fits | apply fits_ite | split | extract_lets

theorem State.restoreDone_fits {s : State} (hz : s.Fits) : State.Fits (State.restoreDone s) := by
  unfold State.restoreDone
  with_reducible repeat' first
    | assumption | exact nil_fits | exact init_hold | exact init_barriers | exact init_posts | exact init_held | apply map_fits
    | apply filter_fits | apply discharge_fits | apply State.Fits.hold | apply State.Fits.held | apply State.Fits.barriers
    | apply State.Fits.posts | apply setPlane_hold | apply setPlane_barriers | apply setPlane_posts | apply State.put_fits
    | apply fits_setRstr | apply State.raiseInt_fits | apply fits_ite | extract_lets

theorem State.setRestored_fits {s : State} (hz : s.Fits) (i : ℕ) : State.Fits (State.setRestored s i) := by
  unfold State.setRestored
  with_reducible repeat' first
    | assumption | exact nil_fits | exact init_hold | exact init_barriers | exact init_posts | exact init_held | apply map_fits
    | apply filter_fits | apply discharge_fits | apply State.Fits.hold | apply State.Fits.held | apply State.Fits.barriers
    | apply State.Fits.posts | apply setPlane_hold | apply setPlane_barriers | apply setPlane_posts | apply fits_setRstr
    | apply State.grantSlots_fits | apply State.put_fits | apply State.serve_fits | apply State.restoreDone_fits | extract_lets

theorem State.fillFaultIn_fits {s : State} (hz : s.Fits) (i : ℕ) : State.Fits (State.fillFaultIn s i) :=
  fits_of (State.fillFaultIn_touches (m := 0x80000) (touches_refl _ s) (by decide) i) (by decide) (by decide) hz

theorem State.faultInDone_fits {s : State} (hz : s.Fits) (i : ℕ) (us : ℕ) (rebuilt : ℕ) (lost : List ℕ) (late : Bool) :
    State.Fits (State.faultInDone s i us rebuilt lost late) := by
  unfold State.faultInDone
  with_reducible repeat' first
    | assumption | apply State.bump64_fits | apply State.bringBack_fits | apply State.fillFaultIn_fits | apply State.bump_fits
    | apply State.put_fits | apply State.joinSave_fits | apply State.setRestored_fits | apply State.lateOk_fits | apply fits_ite
    | extract_lets

theorem State.setStep_fits {s : State} (hz : s.Fits) (zero : Bool) (k : ℕ) : State.Fits (State.setStep s zero k) := by
  unfold State.setStep
  refine fits_setRstr hz ?_
  split <;> exact hz.held

theorem State.restoreNext_fits {s : State} (hz : s.Fits) (zero : Bool) (rebuilt : ℕ) (lost : List ℕ) :
    State.Fits (State.restoreNext s zero rebuilt lost) := by
  unfold State.restoreNext
  with_reducible repeat' first
    | assumption | apply State.setRestored_fits | apply State.bringBack_fits | apply State.setStep_fits | apply fits_ite | split

theorem State.cutWarm_fits {s : State} (hz : s.Fits) : State.Fits (State.cutWarm s) :=
  fits_of (State.cutWarm_touches (m := 0x60000) (touches_refl _ s) (by decide)) (by decide) (by decide) hz

theorem State.warmStates_fits {s : State} (hz : s.Fits) : State.Fits (State.warmStates s) := by
  unfold State.warmStates
  with_reducible repeat' first
    | assumption | exact nil_fits | exact init_hold | exact init_barriers | exact init_posts | exact init_held | apply map_fits
    | apply filter_fits | apply discharge_fits | apply State.Fits.hold | apply State.Fits.held | apply State.Fits.barriers
    | apply State.Fits.posts | apply setPlane_hold | apply setPlane_barriers | apply setPlane_posts | apply State.activate_fits
    | apply State.cutWarm_fits | apply State.setRes_fits | apply fits_setPers | extract_lets

theorem State.warmCheck_fits {s : State} (hz : s.Fits) (ok : Bool) : State.Fits (State.warmCheck s ok) := by
  unfold State.warmCheck
  with_reducible repeat' first
    | assumption | apply State.put_fits | apply State.loadLast_fits | apply State.warmStates_fits
    | apply State.memoryActive_fits | apply State.setSave_fits | apply State.setRst_fits | apply State.raiseInt_fits
    | apply fits_ite | extract_lets

theorem State.drainFill_fits {s : State} (hz : s.Fits) (c : ℕ) (n : ℕ) : State.Fits (State.drainFill s c n) :=
  fits_of (State.drainFill_touches (m := 0x2) (touches_refl _ s) (by decide) c n) (by decide) (by decide) hz

theorem State.rewriteRate_fits {s : State} (hz : s.Fits) : State.Fits (State.rewriteRate s) :=
  fits_of (State.rewriteRate_touches (m := 0x2) (touches_refl _ s) (by decide)) (by decide) (by decide) hz

theorem State.markFailed_fits {s : State} (hz : s.Fits) (c : ℕ) (d : ℕ) : State.Fits (State.markFailed s c d) :=
  fits_of (State.markFailed_touches (m := 0x40002) (touches_refl _ s) (by decide) c d) (by decide) (by decide) hz

theorem State.queueReloc_fits {s : State} (hz : s.Fits) (c : ℕ) (d : ℕ) : State.Fits (State.queueReloc s c d) :=
  fits_of (State.queueReloc_touches (m := 0x40000) (touches_refl _ s) (by decide) c d) (by decide) (by decide) hz

theorem State.dieFailed_fits {s : State} (hz : s.Fits) (c : ℕ) (d : ℕ) : State.Fits (State.dieFailed s c d) :=
  fits_of (State.dieFailed_touches (m := 0x50000) (touches_refl _ s) (by decide) c d) (by decide) (by decide) hz

theorem State.placeLost_fits {s : State} (hz : s.Fits) (t : Stripe) : State.Fits (State.placeLost s t) :=
  fits_of (State.placeLost_touches (m := 0x40000) (touches_refl _ s) (by decide) t) (by decide) (by decide) hz

theorem State.stripeDone_fits {s : State} (hz : s.Fits) (t : Stripe) : State.Fits (State.stripeDone s t) := by
  unfold State.stripeDone
  with_reducible repeat' first
    | assumption | apply State.placeLost_fits | apply State.setFarr_fits | apply State.refresh_fits
    | apply State.copyProgrammed_fits | apply State.setUpk_fits | apply fits_foldl | intro t a ht | extract_lets

theorem State.tryStripe_fits {s : State} (hz : s.Fits) (t : Stripe) : State.Fits (State.tryStripe s t) := by
  unfold State.tryStripe
  with_reducible repeat' first
    | assumption | apply State.stripeDone_fits | apply fits_ite

theorem State.stripeColumn_fits {s : State} (hz : s.Fits) (id : ℕ) (c : ℕ) : State.Fits (State.stripeColumn s id c) := by
  unfold State.stripeColumn
  with_reducible repeat' first
    | assumption | apply State.tryStripe_fits | apply State.setFarr_fits | apply fits_ite | split | extract_lets

theorem State.stripesOn_fits {s : State} (hz : s.Fits) (d : ℕ) : State.Fits (State.stripesOn s d) := by
  unfold State.stripesOn
  with_reducible repeat' first
    | assumption | apply State.tryStripe_fits | apply fits_foldl | intro t a ht

theorem State.dropStripeOps_fits {s : State} (hz : s.Fits) (id : ℕ) : State.Fits (State.dropStripeOps s id) :=
  fits_of (State.dropStripeOps_touches (m := 0x40000) (touches_refl _ s) (by decide) id) (by decide) (by decide) hz

theorem State.moveStripe_fits {s : State} (hz : s.Fits) (t : Stripe) (again : ℕ) : State.Fits (State.moveStripe s t again) := by
  unfold State.moveStripe
  with_reducible repeat' first
    | assumption | apply State.dropStripeOps_fits | apply State.abandonStripe_fits | apply State.setFarr_fits
    | apply State.takeRows_fits | apply fits_ite | split | extract_lets

theorem State.redirectStripe_fits {s : State} (hz : s.Fits) (id : ℕ) : State.Fits (State.redirectStripe s id) := by
  unfold State.redirectStripe
  with_reducible repeat' first
    | assumption | apply State.setSk_fits | apply State.abandonStripe_fits | apply State.setFarr_fits
    | apply State.dropStripeOps_fits | apply State.bump_fits | apply State.moveStripe_fits | apply fits_ite | split
    | extract_lets

theorem State.memberAgain_fits {s : State} (hz : s.Fits) (c : ℕ) (o : FOp) : State.Fits (State.memberAgain s c o) :=
  fits_of (State.memberAgain_touches (m := 0x50000) (touches_refl _ s) (by decide) c o) (by decide) (by decide) hz

theorem State.saveMedia_fits {s : State} (hz : s.Fits) (c : ℕ) (addr : ℕ) : State.Fits (State.saveMedia s c addr) := by
  unfold State.saveMedia
  with_reducible repeat' first
    | assumption | apply State.raiseFault_fits | apply State.put_fits

theorem State.channelDown_fits {s : State} (hz : s.Fits) (c : ℕ) : State.Fits (State.channelDown s c) := by
  unfold State.channelDown
  with_reducible repeat' first
    | assumption | apply State.raiseFault_fits | apply State.raiseInt_fits | apply State.put_fits | apply State.dieFailed_fits
    | apply State.queueReloc_fits | apply State.markFailed_fits | apply State.saveMedia_fits | apply State.refreshFarr_fits
    | apply State.rewriteRate_fits | apply State.stripesOn_fits | apply State.degraded_fits | apply fits_ite | apply fits_foldl
    | intro t a ht | extract_lets

theorem State.dieFails_fits {s : State} (hz : s.Fits) (c : ℕ) (d : ℕ) (addr : ℕ) : State.Fits (State.dieFails s c d addr) := by
  unfold State.dieFails
  with_reducible repeat' first
    | assumption | apply State.raiseInt_fits | apply State.dieFailed_fits | apply State.queueReloc_fits
    | apply State.markFailed_fits | apply State.saveMedia_fits | apply State.refreshFarr_fits | apply State.rewriteRate_fits
    | apply State.stripesOn_fits | apply State.raiseFault_fits | apply State.degraded_fits | apply State.channelDown_fits
    | apply fits_ite | extract_lets

theorem State.knownFailures_fits {s : State} (hz : s.Fits) : State.Fits (State.knownFailures s) :=
  fits_of (State.knownFailures_touches (m := 0x40002) (touches_refl _ s) (by decide)) (by decide) (by decide) hz

theorem State.dropFop_fits {s : State} (hz : s.Fits) (c : ℕ) (o : FOp) : State.Fits (State.dropFop s c o) :=
  fits_of (State.dropFop_touches (m := 0x40002) (touches_refl _ s) (by decide) c o) (by decide) (by decide) hz

theorem State.notFree_fits {s : State} (hz : s.Fits) (c : ℕ) (o : FOp) : State.Fits (State.notFree s c o) := by
  unfold State.notFree
  with_reducible repeat' first
    | assumption | apply State.raiseFault_fits | apply State.raiseInt_fits | apply State.bump_fits
    | apply State.memberAgain_fits | apply State.moveStripe_fits | apply fits_ite | split | extract_lets

theorem State.startDie_fits {s : State} (hz : s.Fits) (k : ℕ) (c : ℕ) (d : ℕ) (q : FQueue) : State.Fits (State.startDie k c d q s) := by
  induction k generalizing s with
  | zero =>
    unfold State.startDie
    with_reducible repeat' first
      | assumption | exact nil_fits | exact init_hold | exact init_barriers | exact init_posts | exact init_held
      | apply map_fits | apply filter_fits | apply discharge_fits | apply State.Fits.hold | apply State.Fits.held
      | apply State.Fits.barriers | apply State.Fits.posts | apply setPlane_hold | apply setPlane_barriers
      | apply setPlane_posts | apply State.dropFop_fits | apply State.notFree_fits | apply State.setDie_fits
  | succ k ih =>
    unfold State.startDie
    with_reducible repeat' first
      | assumption | apply ih | exact nil_fits | exact init_hold | exact init_barriers | exact init_posts | exact init_held
      | apply map_fits | apply filter_fits | apply discharge_fits | apply State.Fits.hold | apply State.Fits.held
      | apply State.Fits.barriers | apply State.Fits.posts | apply setPlane_hold | apply setPlane_barriers
      | apply setPlane_posts | apply State.dropFop_fits | apply State.notFree_fits | apply State.setDie_fits | extract_lets
      | apply fits_ite | split

theorem State.suspendFor_fits {s : State} (hz : s.Fits) (c : ℕ) (d : ℕ) : State.Fits (State.suspendFor s c d) := by
  unfold State.suspendFor
  with_reducible repeat' first
    | assumption | apply State.startDie_fits | apply State.bump_fits | apply State.setDie_fits | apply fits_ite | extract_lets

theorem State.noteServed_fits {s : State} (hz : s.Fits) (c : ℕ) (q : FQueue) (d : ℕ) :
    State.Fits (State.noteServed s c q d) :=
  fits_of (State.noteServed_touches (m := 0x40000) (touches_refl _ s) (by decide) c q d) (by decide) (by decide) hz

theorem State.serveDie_fits {s : State} (hz : s.Fits) (c : ℕ) (q : FQueue) (d : ℕ) : State.Fits (State.serveDie s c q d) := by
  unfold State.serveDie
  with_reducible repeat' first
    | assumption | apply State.startDie_fits | apply State.suspendFor_fits | apply State.noteServed_fits | apply fits_ite
    | extract_lets

theorem State.serveChannel_fits {s : State} (hz : s.Fits) (c : ℕ) : State.Fits (State.serveChannel s c) := by
  unfold State.serveChannel
  with_reducible repeat' first
    | assumption | apply State.serveDie_fits | apply fits_foldl | intro t a ht

theorem State.dieIdle_fits {s : State} (hz : s.Fits) (c : ℕ) (d : ℕ) : State.Fits (State.dieIdle s c d) :=
  fits_of (State.dieIdle_touches (m := 0x40000) (touches_refl _ s) (by decide) c d) (by decide) (by decide) hz

theorem State.controlEnds_fits {s : State} (hz : s.Fits) (c : ℕ) (d : ℕ) : State.Fits (State.controlEnds s c d) :=
  fits_of (State.controlEnds_touches (m := 0x40002) (touches_refl _ s) (by decide) c d) (by decide) (by decide) hz

theorem State.flashTick_fits {s : State} (hz : s.Fits) : State.Fits (State.flashTick s) := by
  unfold State.flashTick
  with_reducible repeat' first
    | assumption | apply State.controlEnds_fits | apply State.serveChannel_fits | apply fits_ite | apply fits_foldl
    | intro t a ht | split | extract_lets

theorem State.resumeExpired_fits {s : State} (hz : s.Fits) (c : ℕ) (d : ℕ) : State.Fits (State.resumeExpired s c d) := by
  unfold State.resumeExpired
  with_reducible repeat' first
    | assumption | apply State.suspendFor_fits

theorem State.wearEvent_fits {s : State} (hz : s.Fits) (c : ℕ) (d : ℕ) : State.Fits (State.wearEvent s c d) := by
  unfold State.wearEvent
  with_reducible repeat' first
    | assumption | apply State.raiseFault_fits | apply State.raiseInt_fits | apply State.wearLog_fits | apply State.setDie_fits
    | apply fits_ite | extract_lets

theorem State.refreshSkerry_fits {s : State} (hz : s.Fits) (k : ℕ) : State.Fits (State.refreshSkerry s k) :=
  fits_of (State.refreshSkerry_touches (m := 0x40022) (touches_refl _ s) (by decide) k) (by decide) (by decide) hz

theorem State.countRead_fits {s : State} (hz : s.Fits) (c : ℕ) (r : ReadResult) : State.Fits (State.countRead s c r) := by
  unfold State.countRead
  with_reducible repeat' first
    | assumption | apply State.bump64_fits | apply State.bump_fits | apply State.raiseFault_fits | apply State.raiseInt_fits
    | apply fits_ite | extract_lets

theorem State.scanRead_fits {s : State} (hz : s.Fits) (k : ℕ) (scan : Bool) (full : Bool) :
    State.Fits (State.scanRead s k scan full) :=
  fits_of (State.scanRead_touches (m := 0x40000002) (touches_refl _ s) (by decide) k scan full) (by decide) (by decide) hz

theorem State.noteLost_fits {s : State} (hz : s.Fits) (r : ReadResult) (x : ℕ × ℕ × ℕ × ℕ) :
    State.Fits (State.noteLost s r x) :=
  fits_of (State.noteLost_touches (m := 0x40000) (touches_refl _ s) (by decide) r x) (by decide) (by decide) hz

theorem State.markRetire_fits {s : State} (hz : s.Fits) (k : ℕ) : State.Fits (State.markRetire s k) :=
  fits_of (State.markRetire_touches (m := 0x40002) (touches_refl _ s) (by decide) k) (by decide) (by decide) hz

theorem State.readEnds_fits {s : State} (hz : s.Fits) (c : ℕ) (d : ℕ) (p : ℕ) (b : ℕ) (r : ReadEnd) (last : Bool) (scan : Bool) :
    State.Fits (State.readEnds s c d p b r last scan) := by
  unfold State.readEnds
  with_reducible repeat' first
    | assumption | apply State.noteLost_fits | apply State.countRead_fits | apply State.scanRead_fits
    | apply State.setBlock_fits | apply State.bump64_fits | apply State.setFarr_fits | apply State.markRetire_fits
    | apply State.refreshSkerry_fits | apply State.dieIdle_fits | apply fits_ite | split | extract_lets

theorem State.programCounted_fits {s : State} (hz : s.Fits) (c : ℕ) (slc : Bool) :
    State.Fits (State.programCounted s c slc) :=
  fits_of (State.programCounted_touches (m := 0x40000002) (touches_refl _ s) (by decide) c slc) (by decide) (by decide) hz

theorem State.closeFailed_fits {s : State} (hz : s.Fits) (k : ℕ) : State.Fits (State.closeFailed s k) :=
  fits_of (State.closeFailed_touches (m := 0x40002) (touches_refl _ s) (by decide) k) (by decide) (by decide) hz

theorem State.programEnds_fits {s : State} (hz : s.Fits) (c : ℕ) (d : ℕ) (ok : Bool) (us : ℕ) :
    State.Fits (State.programEnds s c d ok us) := by
  unfold State.programEnds
  with_reducible repeat' first
    | assumption | apply State.setBlock_fits | apply State.programCounted_fits | apply State.wearEvent_fits
    | apply State.setDie_fits | apply State.dieIdle_fits | apply State.refreshFarr_fits | apply State.stripeColumn_fits
    | apply State.raiseFault_fits | apply State.closeFailed_fits | apply State.memberAgain_fits | apply State.dieFails_fits
    | apply State.redirectStripe_fits | apply fits_ite | apply fits_foldl | intro t a ht | split | extract_lets

theorem State.retired_fits {s : State} (hz : s.Fits) (c : ℕ) (d : ℕ) (n : ℕ) : State.Fits (State.retired s c d n) := by
  unfold State.retired
  with_reducible repeat' first
    | assumption | apply State.wearEvent_fits | apply State.setDie_fits | apply State.raiseFault_fits
    | apply State.raiseInt_fits | apply State.wearLog_fits | apply State.dieFails_fits | apply fits_ite | extract_lets

theorem State.retireBlocks_fits {s : State} (hz : s.Fits) (k : ℕ) : State.Fits (State.retireBlocks s k) := by
  unfold State.retireBlocks
  with_reducible repeat' first
    | assumption | apply State.refreshDie_fits | apply State.retired_fits | apply State.setFarr_fits | apply fits_ite
    | apply fits_foldl | intro t a ht | extract_lets

theorem State.retireAll_fits {s : State} (hz : s.Fits) : State.Fits (State.retireAll s) := by
  unfold State.retireAll
  with_reducible repeat' first
    | assumption | apply State.refreshFarr_fits | apply State.retireBlocks_fits | apply fits_foldl | intro t a ht

theorem State.serveColumn_fits {s : State} (hz : s.Fits) (k : ℕ) (c : ℕ) : State.Fits (State.serveColumn k s c) := by
  unfold State.serveColumn
  with_reducible repeat' first
    | assumption | apply State.substitute_fits | apply State.raiseFault_fits | apply State.raiseInt_fits
    | apply State.wearLog_fits | apply State.moveBand_fits | apply fits_ite | split

theorem State.leaveRing_fits {s : State} (hz : s.Fits) (k : ℕ) : State.Fits (State.leaveRing s k) :=
  fits_of (State.leaveRing_touches (m := 0x40000) (touches_refl _ s) (by decide) k) (by decide) (by decide) hz

theorem State.bandAfterErase_fits {s : State} (hz : s.Fits) (k : ℕ) : State.Fits (State.bandAfterErase s k) :=
  fits_of (State.bandAfterErase_touches (m := 0x40000) (touches_refl _ s) (by decide) k) (by decide) (by decide) hz

theorem State.skerryErased_fits {s : State} (hz : s.Fits) (k : ℕ) : State.Fits (State.skerryErased s k) := by
  unfold State.skerryErased
  with_reducible repeat' first
    | assumption | apply State.setArr_fits | apply State.leaveRing_fits | apply State.setFarr_fits
    | apply State.bandAfterErase_fits | apply State.setSk_fits | apply State.serveColumn_fits | apply fits_foldl | intro t a ht
    | extract_lets

theorem State.eraseEnds_fits {s : State} (hz : s.Fits) (c : ℕ) (d : ℕ) (ok : Bool) (us : ℕ) :
    State.Fits (State.eraseEnds s c d ok us) := by
  unfold State.eraseEnds
  with_reducible repeat' first
    | assumption | apply State.setBlock_fits | apply State.bump_fits | apply State.setDie_fits | apply State.raiseFault_fits
    | apply State.refreshDie_fits | apply State.retired_fits | apply State.dieIdle_fits | apply State.refreshFarr_fits
    | apply State.skerryErased_fits | apply fits_ite | apply fits_foldl | intro t a ht | split | extract_lets

theorem State.eraseArray_fits {s : State} (hz : s.Fits) (failed : List ℕ) : State.Fits (State.eraseArray s failed) := by
  unfold State.eraseArray
  with_reducible repeat' first
    | assumption | exact nil_fits | exact init_hold | exact init_barriers | exact init_posts | exact init_held | apply map_fits
    | apply filter_fits | apply discharge_fits | apply State.Fits.hold | apply State.Fits.held | apply State.Fits.barriers
    | apply State.Fits.posts | apply setPlane_hold | apply setPlane_barriers | apply setPlane_posts
    | apply State.eraseBlocks_fits | apply State.refreshDie_fits | apply State.retired_fits | apply State.refreshFarr_fits
    | apply State.setFarr_fits | apply fits_setPers | apply State.setArr_fits | apply State.setMedia_fits | apply fits_foldl
    | intro t a ht | extract_lets

theorem State.finishErase_fits {s : State} (hz : s.Fits) (failed : List ℕ) : State.Fits (State.finishErase s failed) := by
  unfold State.finishErase
  with_reducible repeat' first
    | assumption | apply State.setKept_fits | apply State.eraseArray_fits | apply fits_ite | extract_lets

theorem State.dieTimeout_fits {s : State} (hz : s.Fits) (c : ℕ) (d : ℕ) (late : Bool) :
    State.Fits (State.dieTimeout s c d late) := by
  unfold State.dieTimeout
  with_reducible repeat' first
    | assumption | apply State.lateOk_fits | apply State.raiseFault_fits | apply State.bump_fits | apply State.dieFails_fits
    | apply State.setDie_fits | apply fits_ite | extract_lets

theorem State.retrainChannel_fits {s : State} (hz : s.Fits) (c : ℕ) : State.Fits (State.retrainChannel s c) :=
  fits_of (State.retrainChannel_touches (m := 0x2) (touches_refl _ s) (by decide) c) (by decide) (by decide) hz

theorem State.dieFound_fits {s : State} (hz : s.Fits) (c : ℕ) (d : ℕ) (o : Option DieFound) :
    State.Fits (State.dieFound s c d o) :=
  fits_of (State.dieFound_touches (m := 0x40000) (touches_refl _ s) (by decide) c d o) (by decide) (by decide) hz

theorem State.channelTrained_fits {s : State} (hz : s.Fits) (c : ℕ) (ok : Bool) (found : List (Option DieFound)) :
    State.Fits (State.channelTrained s c ok found) := by
  unfold State.channelTrained
  with_reducible repeat' first
    | assumption | apply State.put_fits | apply State.setFarr_fits | apply State.dieFound_fits | apply State.refreshFarr_fits
    | apply State.rewriteRate_fits | apply State.refreshDie_fits | apply State.channelDown_fits | apply fits_ite
    | apply fits_foldl | intro t a ht | extract_lets

theorem State.queryBlock_fits {s : State} (hz : s.Fits) (v : ℕ) : State.Fits (State.queryBlock s v) :=
  fits_of (State.queryBlock_touches (m := 0x40002) (touches_refl _ s) (by decide) v) (by decide) (by decide) hz

theorem State.movStart_fits {s : State} (hz : s.Fits) (c : ℕ) : State.Fits (State.movStart s c) :=
  fits_of (State.movStart_touches (m := 0x80002) (touches_refl _ s) (by decide) c) (by decide) (by decide) hz

theorem State.movCmd_fits {s : State} (hz : s.Fits) (c : ℕ) (data : ℕ) : State.Fits (State.movCmd s c data) := by
  unfold State.movCmd
  with_reducible repeat' first
    | assumption | apply State.abortChan_fits | apply State.movStart_fits | apply fits_ite

theorem State.startChans_fits {s : State} (hz : s.Fits) : State.Fits (State.startChans s) :=
  fits_of (State.startChans_touches (m := 0x80002) (touches_refl _ s) (by decide)) (by decide) (by decide) hz

theorem State.skip_fits {s : State} (hz : s.Fits) (c : ℕ) (n : ℕ) : State.Fits (State.skip s c n) :=
  fits_of (State.skip_touches (m := 0x80002) (touches_refl _ s) (by decide) c n) (by decide) (by decide) hz

theorem State.moverTick_fits {s : State} (hz : s.Fits) : State.Fits (State.moverTick s) :=
  fits_of (State.moverTick_touches (m := 0x80002) (touches_refl _ s) (by decide)) (by decide) (by decide) hz

theorem State.increments_fits {s : State} (hz : s.Fits) (c : ℕ) (w : BitVec 64) : State.Fits (State.increments s c w) :=
  fits_of (State.increments_touches (m := 0x2) (touches_refl _ s) (by decide) c w) (by decide) (by decide) hz

theorem State.setStatus_fits {s : State} (hz : s.Fits) (c : ℕ) (pc : ℕ) (e : ℕ) : State.Fits (State.setStatus s c pc e) :=
  fits_of (State.setStatus_touches (m := 0x80020) (touches_refl _ s) (by decide) c pc e) (by decide) (by decide) hz

theorem State.busError_fits {s : State} (hz : s.Fits) (c : ℕ) (w : BitVec 64) (k : ℕ) (e : ℕ) :
    State.Fits (State.busError s c w k e) := by
  unfold State.busError
  with_reducible repeat' first
    | assumption | apply State.setStatus_fits | apply State.bump_fits | apply State.put64_fits | apply State.put_fits
    | apply State.raiseFault_fits | apply State.raiseInt_fits | extract_lets

theorem State.transferDone_fits {s : State} (hz : s.Fits) (c : ℕ) (err : Option (ℕ × ℕ)) :
    State.Fits (State.transferDone s c err) := by
  unfold State.transferDone
  with_reducible repeat' first
    | assumption | apply State.xfer_fits | apply State.busError_fits | apply State.increments_fits | apply State.skip_fits
    | apply State.put_fits | apply State.setChan_fits | apply fits_ite | split | extract_lets

theorem State.movIllegal_fits {s : State} (hz : s.Fits) (c : ℕ) (cycle : ℕ) : State.Fits (State.movIllegal s c cycle) := by
  unfold State.movIllegal
  with_reducible repeat' first
    | assumption | apply State.raiseFault_fits | apply State.abortAfter_fits | apply fits_ite

theorem State.movPcRange_fits {s : State} (hz : s.Fits) (c : ℕ) (cycle : ℕ) : State.Fits (State.movPcRange s c cycle) := by
  unfold State.movPcRange
  with_reducible repeat' first
    | assumption | apply State.abortAfter_fits | apply fits_ite

theorem State.movPmUe_fits {s : State} (hz : s.Fits) (c : ℕ) (cycle : ℕ) : State.Fits (State.movPmUe s c cycle) := by
  unfold State.movPmUe
  with_reducible repeat' first
    | assumption | apply State.raiseFaultAt_fits | apply State.abortAfter_fits | apply fits_ite

theorem State.waitTimeout_fits {s : State} (hz : s.Fits) (c : ℕ) (cycle : ℕ) : State.Fits (State.waitTimeout s c cycle) := by
  unfold State.waitTimeout
  with_reducible repeat' first
    | assumption | apply State.abortAfter_fits | apply fits_ite

theorem State.ringPop_fits {s : State} (hz : s.Fits) : State.Fits (State.ringPop s) :=
  fits_of (State.ringPop_touches (m := 0x80000) (touches_refl _ s) (by decide)) (by decide) (by decide) hz

theorem State.pmStore_fits {s : State} (hz : s.Fits) (hi : ℕ) : State.Fits (State.pmStore s hi) :=
  fits_of (State.pmStore_touches (m := 0x80002) (touches_refl _ s) (by decide) hi) (by decide) (by decide) hz

theorem State.preemptMovers_fits {s : State} (hz : s.Fits) : State.Fits (State.preemptMovers s) := by
  unfold State.preemptMovers
  with_reducible repeat' first
    | assumption | apply State.abortChan_fits | apply fits_ite | apply fits_foldl | intro t a ht

theorem State.devFailed_fits {s : State} (hz : s.Fits) (sc : ℕ) (lrank : ℕ) (device : ℕ) :
    State.Fits (State.devFailed s sc lrank device) := by
  unfold State.devFailed
  with_reducible repeat' first
    | assumption | apply State.put_fits | apply State.store_fits | apply State.raiseFault_fits | apply State.raiseInt_fits
    | apply State.cxlEvent_fits | apply State.needsCare_fits | apply fits_ite | extract_lets

theorem State.countDevice_fits {s : State} (hz : s.Fits) (line : ℕ) (device : ℕ) :
    State.Fits (State.countDevice s line device) := by
  unfold State.countDevice
  with_reducible repeat' first
    | assumption | apply State.bump_fits | apply State.devFailed_fits | apply State.setDrc_fits | extract_lets

theorem State.readCorrected_fits {s : State} (hz : s.Fits) (line : ℕ) (r : Requester) (syms : List ℕ) (written : Bool) :
    State.Fits (State.readCorrected s line r syms written) := by
  unfold State.readCorrected
  with_reducible repeat' first
    | assumption | apply State.raiseFault_fits | apply State.dscErr_fits | apply State.bump64_fits
    | apply State.countDevice_fits | apply State.drcWrite_fits | apply fits_ite | split | extract_lets

theorem State.markIslet_fits {s : State} (hz : s.Fits) (i : ℕ) : State.Fits (State.markIslet s i) :=
  fits_of (State.markIslet_touches (m := 0xA0004C22) (touches_refl _ s) (by decide) i) (by decide) (by decide) hz

theorem State.requestRepair_fits {s : State} (hz : s.Fits) (line : ℕ) : State.Fits (State.requestRepair s line) :=
  fits_of (State.requestRepair_touches (m := 0x400000) (touches_refl _ s) (by decide) line) (by decide) (by decide) hz

theorem State.readUe_fits {s : State} (hz : s.Fits) (line : ℕ) (r : Requester) (record : ℕ) :
    State.Fits (State.readUe s line r record) := by
  unfold State.readUe
  with_reducible repeat' first
    | assumption | apply State.dscErr_fits | apply State.bump_fits | apply State.setLine_fits | apply State.event_fits
    | apply State.raiseFault_fits | apply State.raiseInt_fits | apply State.requestRepair_fits | apply State.cxlEvent_fits
    | apply State.markIslet_fits | apply State.markPoison_fits | apply State.drcWrite_fits | apply State.recordLost_fits | split
    | extract_lets

theorem State.dramReadDone_fits {s : State} (hz : s.Fits) (line : ℕ) (r : Requester) (o : ReadOutcome) (record : ℕ) :
    State.Fits (State.dramReadDone s line r o record) := by
  unfold State.dramReadDone
  with_reducible repeat' first
    | assumption | apply State.readCorrected_fits | apply State.recordLost_fits | apply State.readPoison_fits
    | apply State.readUe_fits | apply fits_ite | split

theorem State.drainQueue_fits {s : State} (hz : s.Fits) (sc : ℕ) : State.Fits (State.drainQueue s sc) :=
  fits_of (State.drainQueue_touches (m := 0x40400022) (touches_refl _ s) (by decide) sc) (by decide) (by decide) hz

theorem State.caAlert_fits {s : State} (hz : s.Fits) (sc : ℕ) : State.Fits (State.caAlert s sc) := by
  unfold State.caAlert
  with_reducible repeat' first
    | assumption | apply State.setDrc_fits | apply State.raiseFault_fits | apply State.raiseInt_fits | apply fits_ite
    | extract_lets

theorem State.dtrnGo_fits {s : State} (hz : s.Fits) : State.Fits (State.dtrnGo s) :=
  fits_of (State.dtrnGo_touches (m := 0x400002) (touches_refl _ s) (by decide)) (by decide) (by decide) hz

theorem State.dtrnHalt_fits {s : State} (hz : s.Fits) : State.Fits (State.dtrnHalt s) :=
  fits_of (State.dtrnHalt_touches (m := 0x400000) (touches_refl _ s) (by decide)) (by decide) (by decide) hz

theorem State.eventNo_fits {s : State} (hz : s.Fits) (block : ℕ) (code : ℕ) (detail : List ℕ) :
    State.Fits (State.eventNo s block code detail) :=
  fits_of (State.eventNo_touches (m := 0x80005C22) (touches_refl _ s) (by decide) block code detail) (by decide) (by decide) hz

theorem State.linkLost_fits {s : State} (hz : s.Fits) : State.Fits (State.linkLost s) :=
  fits_of (State.linkLost_touches (m := 0x80205E22) (touches_refl _ s) (by decide)) (by decide) (by decide) hz

theorem State.refLoss_fits {s : State} (hz : s.Fits) : State.Fits (State.refLoss s) := by
  unfold State.refLoss
  with_reducible repeat' first
    | assumption | apply State.put_fits | apply State.bump_fits | apply State.raiseFault_fits | apply State.raiseInt_fits
    | apply State.linkLost_fits | apply fits_ite | extract_lets

theorem State.aonLoss_fits {s : State} (hz : s.Fits) : State.Fits (State.aonLoss s) := by
  unfold State.aonLoss
  with_reducible repeat' first
    | assumption | apply State.raiseFault_fits | apply State.put_fits | apply fits_ite

theorem State.pllUnlock_fits {s : State} (hz : s.Fits) (k : ℕ) : State.Fits (State.pllUnlock s k) := by
  unfold State.pllUnlock
  with_reducible repeat' first
    | assumption | apply State.raiseInt_fits | apply State.bump_fits | apply State.put_fits | apply State.raiseFault_fits
    | apply State.linkLost_fits | apply State.setRst_fits | apply fits_ite | extract_lets

theorem State.recRange_fits {s : State} (hz : s.Fits) : State.Fits (State.recRange s) :=
  fits_of (State.recRange_touches (m := 0x2) (touches_refl _ s) (by decide)) (by decide) (by decide) hz

theorem State.refreshHours_fits {s : State} (hz : s.Fits) : State.Fits (State.refreshHours s) :=
  fits_of (State.refreshHours_touches (m := 0x2) (touches_refl _ s) (by decide)) (by decide) (by decide) hz

theorem State.recPowerOn_fits {s : State} (hz : s.Fits) : State.Fits (State.recPowerOn s) := by
  unfold State.recPowerOn
  with_reducible repeat' first
    | assumption | apply State.put_fits | apply State.setRecd_fits | apply State.refreshHours_fits | apply State.recRange_fits
    | apply State.raiseFault_fits | apply State.flush_fits | apply State.note_fits | apply fits_ite | extract_lets

theorem State.loadFuses_fits {s : State} (hz : s.Fits) (retries : Option ℕ) : State.Fits (State.loadFuses s retries) :=
  fits_of (State.loadFuses_touches (m := 0x2002) (touches_refl _ s) (by decide) retries) (by decide) (by decide) hz

theorem State.sampleStraps_fits {s : State} (hz : s.Fits) : State.Fits (State.sampleStraps s) :=
  fits_of (State.sampleStraps_touches (m := 0x2) (touches_refl _ s) (by decide)) (by decide) (by decide) hz

theorem State.loadStored_fits {s : State} (hz : s.Fits) : State.Fits (State.loadStored s) :=
  fits_of (State.loadStored_touches (m := 0x2) (touches_refl _ s) (by decide)) (by decide) (by decide) hz

theorem State.powerOn_fits {s : State} (hz : s.Fits) (retries : Option ℕ) : State.Fits (State.powerOn s retries) := by
  unfold State.powerOn
  with_reducible repeat' first
    | assumption | apply State.put_fits | apply State.loadStored_fits | apply State.loadFuses_fits
    | apply State.sampleStraps_fits | apply State.resumeWipe_fits | apply State.setRst_fits | apply State.startFields_fits
    | apply State.coldStart_fits | apply State.recoveryStart_fits | apply State.raiseFault_fits | apply State.recPowerOn_fits
    | apply fits_ite | extract_lets

theorem State.verifyFailed_fits {s : State} (hz : s.Fits) (isle : ℕ) (stage : ℕ) :
    State.Fits (State.verifyFailed s isle stage) := by
  unfold State.verifyFailed
  with_reducible repeat' first
    | assumption | apply State.raiseFault_fits | apply State.eventNo_fits

theorem State.bootVerified_fits {s : State} (hz : s.Fits) (active : ℕ) (other : ℕ) :
    State.Fits (State.bootVerified s active other) := by
  unfold State.bootVerified
  with_reducible repeat' first
    | assumption | apply State.eventNo_fits | apply State.setSelector_fits | apply State.setRst_fits | apply State.put_fits
    | apply State.bootSwap_fits | apply State.verifyFailed_fits | apply State.raiseInt_fits | apply State.recoveryStart_fits
    | apply fits_ite | extract_lets

theorem State.clearDevFail_fits {s : State} (hz : s.Fits) (sc : ℕ) : State.Fits (State.clearDevFail s sc) :=
  fits_of (State.clearDevFail_touches (m := 0x82) (touches_refl _ s) (by decide) sc) (by decide) (by decide) hz

theorem State.drcTrained_fits {s : State} (hz : s.Fits) (full : List ℕ) (failed : List ℕ) (fell : List ℕ) (d : ℕ) :
    State.Fits (State.drcTrained full failed fell s d) := by
  unfold State.drcTrained
  with_reducible repeat' first
    | assumption | apply State.put_fits | apply State.raiseInt_fits | apply State.raiseFault_fits | apply State.cxlEvent_fits
    | apply fits_ite | extract_lets

theorem State.trainingDone_fits {s : State} (hz : s.Fits) (fell : List ℕ) (lowered : Bool) (failed : List ℕ) :
    State.Fits (State.trainingDone s fell lowered failed) := by
  unfold State.trainingDone
  with_reducible repeat' first
    | assumption | apply State.put_fits | apply State.drcTrained_fits | apply State.clearDevFail_fits | apply State.setDrc_fits
    | apply State.setKept_fits | apply State.setRst_fits | apply State.setHlk_fits | apply fits_ite | apply fits_foldl
    | intro t a ht | extract_lets

theorem State.portTrained_fits {s : State} (hz : s.Fits) (port : ℕ) (partner : ℕ) (ring : Bool) :
    State.Fits (State.portTrained s port partner ring) := by
  unfold State.portTrained
  with_reducible repeat' first
    | assumption | apply State.setStrt_fits | apply State.put_fits | apply State.sendOn_fits | apply State.raiseFault_fits
    | apply State.raiseInt_fits | apply fits_ite | extract_lets

theorem State.portDown_fits {s : State} (hz : s.Fits) (port : ℕ) : State.Fits (State.portDown s port) := by
  unfold State.portDown
  with_reducible repeat' first
    | assumption | apply State.raiseFault_fits | apply State.put_fits | apply fits_ite

theorem State.strtRetrain_fits {s : State} (hz : s.Fits) : State.Fits (State.strtRetrain s) :=
  fits_of (State.strtRetrain_touches (m := 0x2) (touches_refl _ s) (by decide)) (by decide) (by decide) hz

theorem State.newMaster_fits {s : State} (hz : s.Fits) (d : ℕ) : State.Fits (State.newMaster s d) :=
  fits_of (State.newMaster_touches (m := 0x80804C02) (touches_refl _ s) (by decide) d) (by decide) (by decide) hz

theorem State.sendTickSync_fits {s : State} (hz : s.Fits) : State.Fits (State.sendTickSync s) :=
  fits_of (State.sendTickSync_touches (m := 0x80800002) (touches_refl _ s) (by decide)) (by decide) (by decide) hz

theorem State.sendGroupSealed_fits {s : State} (hz : s.Fits) : State.Fits (State.sendGroupSealed s) :=
  fits_of (State.sendGroupSealed_touches (m := 0x80800002) (touches_refl _ s) (by decide)) (by decide) (by decide) hz

theorem State.checkGroupSealed_fits {s : State} (hz : s.Fits) : State.Fits (State.checkGroupSealed s) :=
  fits_of (State.checkGroupSealed_touches (m := 0x80804C02) (touches_refl _ s) (by decide)) (by decide) (by decide) hz

theorem State.takeShare_fits {s : State} (hz : s.Fits) (mj : ℕ) (age : ℕ) : State.Fits (State.takeShare s mj age) := by
  unfold State.takeShare
  with_reducible repeat' first
    | assumption | exact nil_fits | exact init_hold | exact init_barriers | exact init_posts | exact init_held | apply map_fits
    | apply filter_fits | apply discharge_fits | apply State.Fits.hold | apply State.Fits.held | apply State.Fits.barriers
    | apply State.Fits.posts | apply setPlane_hold | apply setPlane_barriers | apply setPlane_posts | apply State.setStrt_fits
    | apply State.put_fits | apply State.setSave_fits | apply fits_setPers | apply fits_ite | split | extract_lets

theorem State.sendShares_fits {s : State} (hz : s.Fits) : State.Fits (State.sendShares s) :=
  fits_of (State.sendShares_touches (m := 0x80810002) (touches_refl _ s) (by decide)) (by decide) (by decide) hz

theorem State.takeMastership_fits {s : State} (hz : s.Fits) (late : Bool) : State.Fits (State.takeMastership s late) := by
  unfold State.takeMastership
  with_reducible repeat' first
    | assumption | exact nil_fits | exact init_hold | exact init_barriers | exact init_posts | exact init_held | apply map_fits
    | apply filter_fits | apply discharge_fits | apply State.Fits.hold | apply State.Fits.held | apply State.Fits.barriers
    | apply State.Fits.posts | apply setPlane_hold | apply setPlane_barriers | apply setPlane_posts | apply State.lateOk_fits
    | apply State.setStrt_fits | apply State.put_fits | apply State.newMaster_fits | apply State.sendTickSync_fits
    | apply State.sendFrame_fits | apply fits_setRstr | apply fits_setPers | apply State.sendGroupSealed_fits | apply fits_ite
    | extract_lets

theorem State.sendTailDone_fits {s : State} (hz : s.Fits) (e : ℕ) : State.Fits (State.sendTailDone s e) :=
  fits_of (State.sendTailDone_touches (m := 0x80800002) (touches_refl _ s) (by decide) e) (by decide) (by decide) hz

theorem State.sendSealed_fits {s : State} (hz : s.Fits) (e : ℕ) : State.Fits (State.sendSealed s e) :=
  fits_of (State.sendSealed_touches (m := 0x80800002) (touches_refl _ s) (by decide) e) (by decide) (by decide) hz

theorem State.noteFrame_fits {s : State} (hz : s.Fits) (h : FrameHdr) : State.Fits (State.noteFrame s h) :=
  fits_of (State.noteFrame_touches (m := 0x80814C02) (touches_refl _ s) (by decide) h) (by decide) (by decide) hz

theorem State.forwardFrame_fits {s : State} (hz : s.Fits) (h : FrameHdr) (typ : ℕ) (payload : List (BitVec 8)) :
    State.Fits (State.forwardFrame s h typ payload) :=
  fits_of (State.forwardFrame_touches (m := 0x80000000) (touches_refl _ s) (by decide) h typ payload) (by decide) (by decide) hz

theorem State.receive_fits {s : State} (hz : s.Fits) (h : FrameHdr) (typ : ℕ) (relay : List (BitVec 8)) (f : State → State) (hf : ∀ t : State, t.Fits → (f t).Fits) :
    State.Fits (State.receive s h typ relay f) := by
  unfold State.receive
  with_reducible repeat' first
    | assumption | apply State.bump_fits | apply State.forwardFrame_fits | apply State.noteFrame_fits | apply State.bump64_fits
    | apply State.wake_fits | apply fits_ite | extract_lets | apply hf

theorem State.setOffset_fits {s : State} (hz : s.Fits) (ps : ℤ) : State.Fits (State.setOffset s ps) :=
  fits_of (State.setOffset_touches (m := 0x2) (touches_refl _ s) (by decide) ps) (by decide) (by decide) hz

theorem State.tickSync_fits {s : State} (hz : s.Fits) (offset : ℤ) (pass : ℕ) : State.Fits (State.tickSync s offset pass) := by
  unfold State.tickSync
  with_reducible repeat' first
    | assumption | apply State.setStrt_fits | apply State.setOffset_fits | apply State.raiseFault_fits
    | apply State.raiseInt_fits | apply fits_ite | extract_lets

theorem State.onTickSync_fits {s : State} (hz : s.Fits) (h : FrameHdr) (p : List (BitVec 8)) (arrival : ℤ) (lag : ℕ) (resid : ℕ) :
    State.Fits (State.onTickSync s h p arrival lag resid) := by
  unfold State.onTickSync
  with_reducible repeat' first
    | assumption | apply State.receive_fits | apply State.tickSync_fits | apply fits_ite | extract_lets | intro t ht

theorem State.alignTick_fits {s : State} (hz : s.Fits) : State.Fits (State.alignTick s) :=
  fits_of (State.alignTick_touches (m := 0x800022) (touches_refl _ s) (by decide)) (by decide) (by decide) hz

theorem State.onShare_fits {s : State} (hz : s.Fits) (h : FrameHdr) (p : List (BitVec 8)) : State.Fits (State.onShare s h p) := by
  unfold State.onShare
  with_reducible repeat' first
    | assumption | apply State.receive_fits | apply State.takeShare_fits | apply fits_ite | intro t ht

theorem State.issueClose_fits {s : State} (hz : s.Fits) : State.Fits (State.issueClose s) := by
  unfold State.issueClose
  with_reducible repeat' first
    | assumption | exact nil_fits | exact init_hold | exact init_barriers | exact init_posts | exact init_held | apply map_fits
    | apply filter_fits | apply discharge_fits | apply State.Fits.hold | apply State.Fits.held | apply State.Fits.barriers
    | apply State.Fits.posts | apply setPlane_hold | apply setPlane_barriers | apply setPlane_posts | apply State.sendFrame_fits
    | apply fits_setPers | apply State.deferClose_fits | apply fits_ite | extract_lets

theorem State.setClose_fits {s : State} (hz : s.Fits) (t : ℕ) (n : ℕ) : State.Fits (State.setClose s t n) := by
  unfold State.setClose
  with_reducible repeat' first
    | assumption | exact nil_fits | exact init_hold | exact init_barriers | exact init_posts | exact init_held | apply map_fits
    | apply filter_fits | apply discharge_fits | apply State.Fits.hold | apply State.Fits.held | apply State.Fits.barriers
    | apply State.Fits.posts | apply setPlane_hold | apply setPlane_barriers | apply setPlane_posts | apply fits_setPers
    | apply State.bump64By_fits | apply State.raiseInt_fits | apply fits_ite | extract_lets

theorem State.onClose_fits {s : State} (hz : s.Fits) (h : FrameHdr) (p : List (BitVec 8)) : State.Fits (State.onClose s h p) := by
  unfold State.onClose
  with_reducible repeat' first
    | assumption | apply State.receive_fits | apply State.setClose_fits | apply State.bump_fits | apply fits_ite | extract_lets
    | intro t ht

theorem State.onSave_fits {s : State} (hz : s.Fits) (h : FrameHdr) : State.Fits (State.onSave s h) := by
  unfold State.onSave
  with_reducible repeat' first
    | assumption | apply State.receive_fits | apply State.startSave_fits | apply fits_ite | intro t ht

theorem State.takePoint_fits {s : State} (hz : s.Fits) : State.Fits (State.takePoint s) := by
  unfold State.takePoint
  with_reducible repeat' first
    | assumption | apply State.settleClass_fits | apply State.event_fits | apply State.put_fits | apply fits_ite | split

theorem State.sendPoint_fits {s : State} (hz : s.Fits) (dst : Option ℕ) : State.Fits (State.sendPoint s dst) :=
  fits_of (State.sendPoint_touches (m := 0x80800002) (touches_refl _ s) (by decide) dst) (by decide) (by decide) hz

theorem State.settlePoint_fits {s : State} (hz : s.Fits) : State.Fits (State.settlePoint s) := by
  unfold State.settlePoint
  with_reducible repeat' first
    | assumption | exact nil_fits | exact init_hold | exact init_barriers | exact init_posts | exact init_held | apply map_fits
    | apply filter_fits | apply discharge_fits | apply State.Fits.hold | apply State.Fits.held | apply State.Fits.barriers
    | apply State.Fits.posts | apply setPlane_hold | apply setPlane_barriers | apply setPlane_posts | apply State.put_fits
    | apply fits_setRstr | apply State.takePoint_fits | apply State.sendPoint_fits | apply fits_ite | apply fits_foldl
    | intro t a ht | extract_lets

theorem State.addStatus_fits {s : State} (hz : s.Fits) (m : MemberImage) : State.Fits (State.addStatus s m) := by
  unfold State.addStatus
  with_reducible repeat' first
    | assumption | exact nil_fits | exact init_hold | exact init_barriers | exact init_posts | exact init_held | apply map_fits
    | apply filter_fits | apply discharge_fits | apply State.Fits.hold | apply State.Fits.held | apply State.Fits.barriers
    | apply State.Fits.posts | apply setPlane_hold | apply setPlane_barriers | apply setPlane_posts | apply fits_setRstr
    | extract_lets

theorem State.trySettle_fits {s : State} (hz : s.Fits) : State.Fits (State.trySettle s) := by
  unfold State.trySettle
  with_reducible repeat' first
    | assumption | apply State.settlePoint_fits | apply fits_ite

theorem State.reportImage_fits {s : State} (hz : s.Fits) : State.Fits (State.reportImage s) := by
  unfold State.reportImage
  with_reducible repeat' first
    | assumption | exact nil_fits | exact init_hold | exact init_barriers | exact init_posts | exact init_held | apply map_fits
    | apply filter_fits | apply discharge_fits | apply State.Fits.hold | apply State.Fits.held | apply State.Fits.barriers
    | apply State.Fits.posts | apply setPlane_hold | apply setPlane_barriers | apply setPlane_posts
    | apply State.settleClass_fits | apply State.sendFrame_fits | apply State.setPeer_fits | apply State.addStatus_fits
    | apply State.takePoint_fits | apply State.trySettle_fits | apply fits_setRstr | apply fits_ite | extract_lets

theorem State.onStatus_fits {s : State} (hz : s.Fits) (h : FrameHdr) (p : List (BitVec 8)) : State.Fits (State.onStatus s h p) := by
  unfold State.onStatus
  with_reducible repeat' first
    | assumption | apply State.receive_fits | apply State.setPeer_fits | apply State.addStatus_fits | apply State.trySettle_fits
    | apply State.event_fits | apply State.sendPoint_fits | apply fits_ite | split | extract_lets | intro t ht

theorem State.cascadeWaitExpired_fits {s : State} (hz : s.Fits) : State.Fits (State.cascadeWaitExpired s) := by
  unfold State.cascadeWaitExpired
  with_reducible repeat' first
    | assumption | apply State.settlePoint_fits | apply fits_ite

theorem State.onPoint_fits {s : State} (hz : s.Fits) (h : FrameHdr) (p : List (BitVec 8)) : State.Fits (State.onPoint s h p) := by
  unfold State.onPoint
  with_reducible repeat' first
    | assumption | exact nil_fits | exact init_hold | exact init_barriers | exact init_posts | exact init_held | apply map_fits
    | apply filter_fits | apply discharge_fits | apply State.Fits.hold | apply State.Fits.held | apply State.Fits.barriers
    | apply State.Fits.posts | apply setPlane_hold | apply setPlane_barriers | apply setPlane_posts | apply State.receive_fits
    | apply fits_setRstr | apply State.takePoint_fits | apply State.put_fits | apply fits_ite | extract_lets | intro t ht

theorem State.linkTrained_fits {s : State} (hz : s.Fits) (rate : ℕ) (flit256 : Bool) (lanes : List LaneEnd) :
    State.Fits (State.linkTrained s rate flit256 lanes) :=
  fits_of (State.linkTrained_touches (m := 0x84004C02) (touches_refl _ s) (by decide) rate flit256 lanes) (by decide) (by decide) hz

theorem State.linkFail_fits {s : State} (hz : s.Fits) : State.Fits (State.linkFail s) := by
  unfold State.linkFail
  with_reducible repeat' first
    | assumption | apply State.put_fits | apply State.setHlk_fits | apply State.raiseFault_fits | apply State.raiseInt_fits
    | apply fits_ite | extract_lets

/-- Answers are discarded: reads leave the tables. -/
theorem State.discardAnswers_fits {s : State} (hz : s.Fits) : s.discardAnswers.Fits := by
  unfold State.discardAnswers
  extract_lets f g
  have h1 : (f s.rstr.heldTable).length ≤ 512 := map_fits (filter_fits hz.held)
  have h2 : (g s.pers.hold).length ≤ 256 := map_fits hz.hold
  clear_value f g
  exact ⟨h2, h1, hz.barriers, hz.posts⟩

theorem State.functionReset_fits {s : State} (hz : s.Fits) : State.Fits (State.functionReset s) := by
  unfold State.functionReset
  with_reducible repeat' first
    | assumption | exact nil_fits | exact init_hold | exact init_barriers | exact init_posts | exact init_held | apply map_fits
    | apply filter_fits | apply discharge_fits | apply State.Fits.hold | apply State.Fits.held | apply State.Fits.barriers
    | apply State.Fits.posts | apply setPlane_hold | apply setPlane_barriers | apply setPlane_posts | apply State.setHlk_fits
    | apply State.discardAnswers_fits | apply State.setWord_fits | apply State.put_fits | apply fits_foldl | intro t a ht
    | extract_lets | apply fits_state

theorem State.perstAssert_fits {s : State} (hz : s.Fits) : State.Fits (State.perstAssert s) := by
  unfold State.perstAssert
  with_reducible repeat' first
    | assumption | apply State.setHlk_fits | apply State.requestReset_fits | apply State.functionReset_fits
    | apply State.linkLost_fits | apply State.refreshHeld_fits | apply State.refreshHlk_fits | apply State.resetPages_fits
    | apply fits_ite | extract_lets

theorem State.hotReset_fits {s : State} (hz : s.Fits) : State.Fits (State.hotReset s) := by
  unfold State.hotReset
  with_reducible repeat' first
    | assumption | apply State.refreshHlk_fits | apply State.functionReset_fits | apply State.linkLost_fits | apply fits_ite

theorem State.linkRecovery_fits {s : State} (hz : s.Fits) (errors : List (ℕ × ℕ)) (down : Option (ℕ × List LaneEnd)) :
    State.Fits (State.linkRecovery s errors down) := by
  unfold State.linkRecovery
  with_reducible repeat' first
    | assumption | apply State.put_fits | apply State.bump_fits | apply State.linkTrained_fits | apply State.raiseFault_fits
    | apply fits_ite | apply fits_foldl | intro t a ht | split | extract_lets

theorem State.memRequest_fits {s : State} (hz : s.Fits) (n : ℕ) (r : MemReq) : State.Fits (State.memRequest s n r) := by
  unfold State.memRequest
  with_reducible repeat' first
    | assumption | apply State.arrive_fits | apply State.countReq_fits | apply State.setHlk_fits | apply fits_ite | extract_lets

theorem State.creditStall_fits {s : State} (hz : s.Fits) : State.Fits (State.creditStall s) := by
  unfold State.creditStall
  with_reducible repeat' first
    | assumption | apply State.raiseFault_fits | apply fits_ite

theorem State.requestState_fits {s : State} (hz : s.Fits) (target : ℕ) : State.Fits (State.requestState s target) :=
  fits_of (State.requestState_touches (m := 0x80004C22) (touches_refl _ s) (by decide) target) (by decide) (by decide) hz

theorem State.settleScopes_fits {s : State} (hz : s.Fits) : State.Fits (State.settleScopes s) :=
  fits_of (State.settleScopes_touches (m := 0x800) (touches_refl _ s) (by decide)) (by decide) (by decide) hz

theorem State.domainTimeout_fits {s : State} (hz : s.Fits) (d : ℕ) (late : Bool) : State.Fits (State.domainTimeout s d late) := by
  unfold State.domainTimeout
  with_reducible repeat' first
    | assumption | apply State.lateOk_fits | apply State.settleScopes_fits | apply State.setPwr_fits | apply State.put_fits
    | apply State.pwrRefuse_fits | apply State.raiseFault_fits | apply fits_ite | split | extract_lets

theorem State.freezeWritten_fits {s : State} (hz : s.Fits) : State.Fits (State.freezeWritten s) :=
  fits_of (State.freezeWritten_touches (m := 0x80005C22) (touches_refl _ s) (by decide)) (by decide) (by decide) hz

theorem State.setTouched_fits {s : State} (hz : s.Fits) (n : ℕ) : State.Fits (State.setTouched s n) :=
  fits_of (State.setTouched_touches (m := 0x1000) (touches_refl _ s) (by decide) n) (by decide) (by decide) hz

theorem State.putSlot_fits {s : State} (hz : s.Fits) (r : RecRec) : State.Fits (State.putSlot s r) :=
  fits_of (State.putSlot_touches (m := 0x1001022) (touches_refl _ s) (by decide) r) (by decide) (by decide) hz

theorem State.flushRecord_fits {s : State} (hz : s.Fits) (failed : List ℕ) (r : RecRec) :
    State.Fits (State.flushRecord failed s r) := by
  unfold State.flushRecord
  with_reducible repeat' first
    | assumption | apply State.put_fits | apply State.raiseFault_fits | apply State.putSlot_fits | apply State.setRecd_fits
    | apply fits_ite | extract_lets

theorem State.flushDone_fits {s : State} (hz : s.Fits) (failed : List ℕ) : State.Fits (State.flushDone s failed) := by
  unfold State.flushDone
  with_reducible repeat' first
    | assumption | apply State.recRange_fits | apply State.flushRecord_fits | apply State.put_fits | apply State.raiseInt_fits
    | apply State.setRecd_fits | apply fits_ite | apply fits_foldl | intro t a ht | extract_lets

theorem State.beginRecRead_fits {s : State} (hz : s.Fits) (p : Port) : State.Fits (State.beginRecRead s p) :=
  fits_of (State.beginRecRead_touches (m := 0x1002) (touches_refl _ s) (by decide) p) (by decide) (by decide) hz

theorem State.ringUe_fits {s : State} (hz : s.Fits) (k : ℕ) : State.Fits (State.ringUe s k) :=
  fits_of (State.ringUe_touches (m := 0x1022) (touches_refl _ s) (by decide) k) (by decide) (by decide) hz

theorem State.recTick_fits {s : State} (hz : s.Fits) : State.Fits (State.recTick s) :=
  fits_of (State.recTick_touches (m := 0x1001022) (touches_refl _ s) (by decide)) (by decide) (by decide) hz

theorem State.allotAll_fits {s : State} (hz : s.Fits) (used : List ℕ) (pending : ℕ) :
    State.Fits (State.allotAll s used pending) := by
  unfold State.allotAll
  with_reducible repeat' first
    | assumption | exact nil_fits | exact init_hold | exact init_barriers | exact init_posts | exact init_held | apply map_fits
    | apply filter_fits | apply discharge_fits | apply State.Fits.hold | apply State.Fits.held | apply State.Fits.barriers
    | apply State.Fits.posts | apply setPlane_hold | apply setPlane_barriers | apply setPlane_posts | apply fits_setPers
    | extract_lets

theorem State.passOverrun_fits {s : State} (hz : s.Fits) (e : ℕ × ℕ) : State.Fits (State.passOverrun s e) := by
  unfold State.passOverrun
  with_reducible repeat' first
    | assumption | exact nil_fits | exact init_hold | exact init_barriers | exact init_posts | exact init_held | apply map_fits
    | apply filter_fits | apply discharge_fits | apply State.Fits.hold | apply State.Fits.held | apply State.Fits.barriers
    | apply State.Fits.posts | apply setPlane_hold | apply setPlane_barriers | apply setPlane_posts
    | apply State.raiseFault_fits | apply State.bump_fits | apply fits_setPers | extract_lets

theorem State.budgetDue_fits {s : State} (hz : s.Fits) (tj : ℤ) : State.Fits (State.budgetDue s tj) := by
  unfold State.budgetDue
  with_reducible repeat' first
    | assumption | apply State.sendShares_fits | apply State.computeBudget_fits | apply fits_ite

theorem State.gaugeStale_fits {s : State} (hz : s.Fits) (late : Bool) : State.Fits (State.gaugeStale s late) := by
  unfold State.gaugeStale
  with_reducible repeat' first
    | assumption | apply State.lateOk_fits | apply State.raiseFault_fits | apply State.raiseInt_fits | apply State.put_fits
    | apply fits_ite | split

theorem State.goodReading_fits {s : State} (hz : s.Fits) (mj : ℕ) (ago : ℕ) : State.Fits (State.goodReading s mj ago) := by
  unfold State.goodReading
  with_reducible repeat' first
    | assumption | exact nil_fits | exact init_hold | exact init_barriers | exact init_posts | exact init_held | apply map_fits
    | apply filter_fits | apply discharge_fits | apply State.Fits.hold | apply State.Fits.held | apply State.Fits.barriers
    | apply State.Fits.posts | apply setPlane_hold | apply setPlane_barriers | apply setPlane_posts | apply State.put_fits
    | apply fits_setPers | extract_lets

theorem State.paceAdmit_fits {s : State} (hz : s.Fits) : State.Fits (State.paceAdmit s) := by
  unfold State.paceAdmit
  with_reducible repeat' first
    | assumption | apply State.admitHead_fits | apply fits_ite

theorem State.holdMaxAdmit_fits {s : State} (hz : s.Fits) : State.Fits (State.holdMaxAdmit s) := by
  unfold State.holdMaxAdmit
  with_reducible repeat' first
    | assumption | apply State.raiseFault_fits | apply State.raiseInt_fits | apply State.bump_fits | apply State.admitHead_fits
    | apply State.event_fits | apply fits_ite | split | extract_lets

theorem State.levelTick_fits {s : State} (hz : s.Fits) : State.Fits (State.levelTick s) := by
  unfold State.levelTick
  with_reducible repeat' first
    | assumption | apply State.evalLevel_fits | apply State.admitAll_fits | apply State.refreshHlk_fits | apply fits_ite
    | extract_lets

theorem State.journalEpoch_fits {s : State} (hz : s.Fits) (n : ℕ) (again : ℕ) : State.Fits (State.journalEpoch s n again) :=
  fits_of (State.journalEpoch_touches (m := 0x60000) (touches_refl _ s) (by decide) n again) (by decide) (by decide) hz

theorem State.planStale_fits {s : State} (hz : s.Fits) : State.Fits (State.planStale s) := by
  unfold State.planStale
  with_reducible repeat' first
    | assumption | apply State.raiseFault_fits | apply fits_ite

theorem State.sealRead_fits {s : State} (hz : s.Fits) (rearmed : Bool) (again : ℕ) :
    State.Fits (State.sealRead s rearmed again) := by
  unfold State.sealRead
  with_reducible repeat' first
    | assumption | exact nil_fits | exact init_hold | exact init_barriers | exact init_posts | exact init_held | apply map_fits
    | apply filter_fits | apply discharge_fits | apply State.Fits.hold | apply State.Fits.held | apply State.Fits.barriers
    | apply State.Fits.posts | apply setPlane_hold | apply setPlane_barriers | apply setPlane_posts | apply State.sealEpoch_fits
    | apply State.journalEpoch_fits | apply fits_setPers | apply State.planStale_fits | apply State.checkGroupSealed_fits
    | apply State.sendSealed_fits | apply fits_ite | split | extract_lets

theorem State.walkDone_fits {s : State} (hz : s.Fits) : State.Fits (State.walkDone s) := by
  unfold State.walkDone
  with_reducible repeat' first
    | assumption | apply State.endWalk_fits | apply fits_ite

theorem State.planeCleared_fits {s : State} (hz : s.Fits) : State.Fits (State.planeCleared s) := by
  unfold State.planeCleared
  with_reducible repeat' first
    | assumption | exact nil_fits | exact init_hold | exact init_barriers | exact init_posts | exact init_held | apply map_fits
    | apply filter_fits | apply discharge_fits | apply State.Fits.hold | apply State.Fits.held | apply State.Fits.barriers
    | apply State.Fits.posts | apply setPlane_hold | apply setPlane_barriers | apply setPlane_posts
    | apply State.sendTailDone_fits | apply State.clearPlane_fits | apply fits_setPers | apply fits_ite | split | extract_lets

theorem State.sweepRoundDone_fits {s : State} (hz : s.Fits) : State.Fits (State.sweepRoundDone s) := by
  unfold State.sweepRoundDone
  with_reducible repeat' first
    | assumption | exact nil_fits | exact init_hold | exact init_barriers | exact init_posts | exact init_held | apply map_fits
    | apply filter_fits | apply discharge_fits | apply State.Fits.hold | apply State.Fits.held | apply State.Fits.barriers
    | apply State.Fits.posts | apply setPlane_hold | apply setPlane_barriers | apply setPlane_posts | apply fits_setPers
    | apply State.put_fits | apply fits_ite | extract_lets

theorem State.barSweepDone_fits {s : State} (hz : s.Fits) : State.Fits (State.barSweepDone s) := by
  unfold State.barSweepDone
  with_reducible repeat' first
    | assumption | apply State.endBarSweep_fits | apply fits_ite

theorem State.readEnded_fits {s : State} (hz : s.Fits) (i : ℕ) : State.Fits (State.readEnded s i) := by
  unfold State.readEnded
  with_reducible repeat' first
    | assumption | apply State.formStripe_fits | apply State.endRead_fits | apply fits_ite

theorem State.scrubTick_fits {s : State} (hz : s.Fits) : State.Fits (State.scrubTick s) :=
  fits_of (State.scrubTick_touches (m := 0x20000002) (touches_refl _ s) (by decide)) (by decide) (by decide) hz

theorem State.drawnBy_fits {s : State} (hz : s.Fits) (n : ℕ) : State.Fits (State.drawnBy s n) :=
  fits_of (State.drawnBy_touches (m := 0x20) (touches_refl _ s) (by decide) n) (by decide) (by decide) hz

theorem State.roundLate_fits {s : State} (hz : s.Fits) : State.Fits (State.roundLate s) := by
  unfold State.roundLate
  with_reducible repeat' first
    | assumption | apply State.raiseFault_fits | apply State.raiseInt_fits | apply State.setDscr_fits | apply fits_ite
    | extract_lets

theorem State.markPop_fits {s : State} (hz : s.Fits) : State.Fits (State.markPop s) :=
  fits_of (State.markPop_touches (m := 0x20000000) (touches_refl _ s) (by decide)) (by decide) (by decide) hz

theorem State.scanLate_fits {s : State} (hz : s.Fits) : State.Fits (State.scanLate s) := by
  unfold State.scanLate
  with_reducible repeat' first
    | assumption | apply State.raiseFault_fits | apply State.raiseInt_fits | apply State.put_fits | apply fits_ite

theorem State.tempTrigger_fits {s : State} (hz : s.Fits) (lo : ℕ) (hi : ℕ) (temp : ℤ) :
    State.Fits (State.tempTrigger s lo hi temp) :=
  fits_of (State.tempTrigger_touches (m := 0x40000000) (touches_refl _ s) (by decide) lo hi temp) (by decide) (by decide) hz

theorem State.glenTransaction_fits {s : State} (hz : s.Fits) : State.Fits (State.glenTransaction s) :=
  fits_of (State.glenTransaction_touches (m := 0x2000000) (touches_refl _ s) (by decide)) (by decide) (by decide) hz

theorem State.capBegin_fits {s : State} (hz : s.Fits) : State.Fits (State.capBegin s) :=
  fits_of (State.capBegin_touches (m := 0x42010002) (touches_refl _ s) (by decide)) (by decide) (by decide) hz

theorem State.capFinish_fits {s : State} (hz : s.Fits) : State.Fits (State.capFinish s) := by
  unfold State.capFinish
  with_reducible repeat' first
    | assumption | apply State.put_fits | apply State.drawnBy_fits | apply State.raiseInt_fits
    | apply State.glenTransaction_fits | apply State.setSave_fits | apply State.event_fits | apply State.raiseFault_fits
    | apply fits_ite | split | extract_lets

theorem State.capReading_fits {s : State} (hz : s.Fits) (mj : ℕ) : State.Fits (State.capReading s mj) := by
  unfold State.capReading
  with_reducible repeat' first
    | assumption | apply State.setUpk_fits | apply State.capFinish_fits | apply fits_ite | extract_lets

theorem State.capExpired_fits {s : State} (hz : s.Fits) (late : Option ℕ) : State.Fits (State.capExpired s late) := by
  unfold State.capExpired
  with_reducible repeat' first
    | assumption | apply State.capFinish_fits | apply State.setUpk_fits | apply State.lateOk_fits | apply fits_ite | split
    | extract_lets

theorem State.budgetCompute_fits {s : State} (hz : s.Fits) (tj : ℤ) : State.Fits (State.budgetCompute s tj) := by
  unfold State.budgetCompute
  with_reducible repeat' first
    | assumption | apply State.tempTrigger_fits | apply State.budgetDue_fits

theorem State.gaugeRead_fits {s : State} (hz : s.Fits) (mj : ℕ) : State.Fits (State.gaugeRead s mj) := by
  unfold State.gaugeRead
  with_reducible repeat' first
    | assumption | exact nil_fits | exact init_hold | exact init_barriers | exact init_posts | exact init_held | apply map_fits
    | apply filter_fits | apply discharge_fits | apply State.Fits.hold | apply State.Fits.held | apply State.Fits.barriers
    | apply State.Fits.posts | apply setPlane_hold | apply setPlane_barriers | apply setPlane_posts | apply fits_setPers
    | apply State.sendShares_fits | apply State.setSave_fits | apply State.capReading_fits | apply State.goodReading_fits
    | apply fits_ite | split | extract_lets

theorem State.useReading_fits {s : State} (hz : s.Fits) (n : ℕ) : State.Fits (State.useReading s n) := by
  unfold State.useReading
  with_reducible repeat' first
    | assumption | exact nil_fits | exact init_hold | exact init_barriers | exact init_posts | exact init_held | apply map_fits
    | apply filter_fits | apply discharge_fits | apply State.Fits.hold | apply State.Fits.held | apply State.Fits.barriers
    | apply State.Fits.posts | apply setPlane_hold | apply setPlane_barriers | apply setPlane_posts | apply State.gaugeRead_fits
    | apply fits_setPers | apply State.tempTrigger_fits | apply State.setUpk_fits | apply fits_ite | extract_lets

theorem State.pollGood_fits {s : State} (hz : s.Fits) (n : ℕ) (bytes : List (BitVec 8)) :
    State.Fits (State.pollGood s n bytes) := by
  unfold State.pollGood
  with_reducible repeat' first
    | assumption | apply State.put_fits | apply State.drawn_fits | apply State.useReading_fits | apply State.setTwl_fits
    | apply fits_ite | extract_lets

theorem State.twlGo_fits {s : State} (hz : s.Fits) : State.Fits (State.twlGo s) :=
  fits_of (State.twlGo_touches (m := 0x82004C02) (touches_refl _ s) (by decide)) (by decide) (by decide) hz

theorem State.mgmtEnds_fits {s : State} (hz : s.Fits) (outcome : ℕ) (bytes : List (BitVec 8)) :
    State.Fits (State.mgmtEnds s outcome bytes) :=
  fits_of (State.mgmtEnds_touches (m := 0x82004C02) (touches_refl _ s) (by decide) outcome bytes) (by decide) (by decide) hz

theorem State.araAnswered_fits {s : State} (hz : s.Fits) (addr : ℕ) : State.Fits (State.araAnswered s addr) :=
  fits_of (State.araAnswered_touches (m := 0x82004C02) (touches_refl _ s) (by decide) addr) (by decide) (by decide) hz

theorem State.twlIdle_fits {s : State} (hz : s.Fits) : State.Fits (State.twlIdle s) :=
  fits_of (State.twlIdle_touches (m := 0x2000002) (touches_refl _ s) (by decide)) (by decide) (by decide) hz

theorem State.twlFailed_fits {s : State} (hz : s.Fits) (w : TwlWork) (outcome : ℕ) :
    State.Fits (State.twlFailed s w outcome) :=
  fits_of (State.twlFailed_touches (m := 0x82004C22) (touches_refl _ s) (by decide) w outcome) (by decide) (by decide) hz

theorem State.twlGood_fits {s : State} (hz : s.Fits) (w : TwlWork) (bytes : List (BitVec 8)) :
    State.Fits (State.twlGood s w bytes) := by
  unfold State.twlGood
  with_reducible repeat' first
    | assumption | apply State.pollGood_fits | apply State.twlIdle_fits | apply State.araAnswered_fits
    | apply State.mgmtEnds_fits | split

theorem State.twlLost_fits {s : State} (hz : s.Fits) (w : TwlWork) (bit : ℕ) (inAddr : Bool) (winner08 : Bool) :
    State.Fits (State.twlLost s w bit inAddr winner08) := by
  unfold State.twlLost
  with_reducible repeat' first
    | assumption | apply State.bump_fits | apply State.put_fits | apply State.setTwl_fits | apply State.raiseFault_fits
    | apply State.twlFailed_fits | apply fits_ite | extract_lets

theorem State.twlDone_fits {s : State} (hz : s.Fits) (e : TwlEnd) : State.Fits (State.twlDone s e) := by
  unfold State.twlDone
  with_reducible repeat' first
    | assumption | apply State.twlGood_fits | apply State.twlFailed_fits | apply State.twlLost_fits | apply fits_ite | split

theorem State.twlTimeout_fits {s : State} (hz : s.Fits) (stuck : Bool) : State.Fits (State.twlTimeout s stuck) := by
  unfold State.twlTimeout
  with_reducible repeat' first
    | assumption | apply State.twlFailed_fits | apply State.put_fits | apply State.raiseFault_fits | apply State.raiseInt_fits
    | apply fits_ite | apply fits_foldl | intro t a ht | split | extract_lets

theorem State.notifyPop_fits {s : State} (hz : s.Fits) : State.Fits (State.notifyPop s) :=
  fits_of (State.notifyPop_touches (m := 0x2000000) (touches_refl _ s) (by decide)) (by decide) (by decide) hz

theorem State.svcAnswer_fits {s : State} (hz : s.Fits) (status : ℕ) (payload : List (BitVec 8)) :
    State.Fits (State.svcAnswer s status payload) :=
  fits_of (State.svcAnswer_touches (m := 0x80000022) (touches_refl _ s) (by decide) status payload) (by decide) (by decide) hz

theorem State.badFrame_fits {s : State} (hz : s.Fits) : State.Fits (State.badFrame s) := by
  unfold State.badFrame
  with_reducible repeat' first
    | assumption | apply State.svcAnswer_fits | apply State.raiseFault_fits | apply State.raiseInt_fits | apply State.bump_fits

theorem State.svcFrame_fits {s : State} (hz : s.Fits) (tag : Nat) (good : Bool) (f : State → State)
    (hf : ∀ t : State, t.Fits → (f t).Fits) : (s.svcFrame tag good f).Fits := by
  unfold State.svcFrame
  refine fits_ite hz (fits_ite (State.badFrame_fits hz) ?_)
  have h := hf _ (State.bump_fits hz SVC_FRAMES_COUNT)
  exact ⟨h.hold, h.held, h.barriers, h.posts⟩

theorem State.svcCommand_fits {s : State} (hz : s.Fits) (tag : Nat) (good inRun inRcv isAbort : Bool) (f : State → State)
    (hf : ∀ t : State, t.Fits → (f t).Fits) : (s.svcCommand tag good inRun inRcv isAbort f).Fits := by
  unfold State.svcCommand
  refine State.svcFrame_fits hz _ _ _ (fun t ht => ?_)
  split
  · exact State.svcAnswer_fits ht _ _
  · exact hf t ht

theorem State.svcIdent_fits {s : State} (hz : s.Fits) : State.Fits (State.svcIdent s) :=
  fits_of (State.svcIdent_touches (m := 0x80000022) (touches_refl _ s) (by decide)) (by decide) (by decide) hz

theorem State.svcStatus_fits {s : State} (hz : s.Fits) : State.Fits (State.svcStatus s) :=
  fits_of (State.svcStatus_touches (m := 0x80000022) (touches_refl _ s) (by decide)) (by decide) (by decide) hz

theorem State.releaseBuffers_fits {s : State} (hz : s.Fits) : State.Fits (State.releaseBuffers s) :=
  fits_of (State.releaseBuffers_touches (m := 0x8000000) (touches_refl _ s) (by decide)) (by decide) (by decide) hz

theorem State.svcFeed_fits {s : State} (hz : s.Fits) : State.Fits (State.svcFeed s) :=
  fits_of (State.svcFeed_touches (m := 0x89005C22) (touches_refl _ s) (by decide)) (by decide) (by decide) hz

theorem State.atolProgramDone_fits {s : State} (hz : s.Fits) (pulses : ℕ) (ok : Bool) :
    State.Fits (State.atolProgramDone s pulses ok) := by
  unfold State.atolProgramDone
  with_reducible repeat' first
    | assumption | apply State.progDone_fits | apply State.svcFeed_fits | apply State.releaseBuffers_fits | apply State.put_fits
    | apply State.svcFail_fits | apply fits_ite | split | extract_lets

theorem State.atolEraseDone_fits {s : State} (hz : s.Fits) (ok : Bool) : State.Fits (State.atolEraseDone s ok) := by
  unfold State.atolEraseDone
  with_reducible repeat' first
    | assumption | apply State.eraseDone_fits | apply State.svcFail_fits | apply fits_ite | split | extract_lets

theorem State.pkgBegin_fits {s : State} (hz : s.Fits) (h : List (BitVec 8)) : State.Fits (State.pkgBegin s h) :=
  fits_of (State.pkgBegin_touches (m := 0x88000022) (touches_refl _ s) (by decide) h) (by decide) (by decide) hz

theorem State.svcData_fits {s : State} (hz : s.Fits) (rcv : Bool) (payload : List (BitVec 8)) :
    State.Fits (State.svcData s rcv payload) :=
  fits_of (State.svcData_touches (m := 0x89005C22) (touches_refl _ s) (by decide) rcv payload) (by decide) (by decide) hz

theorem State.svcEnd_fits {s : State} (hz : s.Fits) (rcv : Bool) : State.Fits (State.svcEnd s rcv) :=
  fits_of (State.svcEnd_touches (m := 0x88000022) (touches_refl _ s) (by decide) rcv) (by decide) (by decide) hz

theorem State.svcActivate_fits {s : State} (hz : s.Fits) : State.Fits (State.svcActivate s) :=
  fits_of (State.svcActivate_touches (m := 0x81005C22) (touches_refl _ s) (by decide)) (by decide) (by decide) hz

theorem State.svcAbort_fits {s : State} (hz : s.Fits) : State.Fits (State.svcAbort s) :=
  fits_of (State.svcAbort_touches (m := 0x89005C22) (touches_refl _ s) (by decide)) (by decide) (by decide) hz

theorem State.rcvBegin_fits {s : State} (hz : s.Fits) (p : List (BitVec 8)) : State.Fits (State.rcvBegin s p) :=
  fits_of (State.rcvBegin_touches (m := 0x89004C22) (touches_refl _ s) (by decide) p) (by decide) (by decide) hz

theorem State.protSet_fits {s : State} (hz : s.Fits) (p : List (BitVec 8)) : State.Fits (State.protSet s p) :=
  fits_of (State.protSet_touches (m := 0x81005C22) (touches_refl _ s) (by decide) p) (by decide) (by decide) hz

theorem State.svcEc_fits {s : State} (hz : s.Fits) (p : List (BitVec 8)) : State.Fits (State.svcEc s p) :=
  fits_of (State.svcEc_touches (m := 0x80000022) (touches_refl _ s) (by decide) p) (by decide) (by decide) hz

theorem State.enterTest_fits {s : State} (hz : s.Fits) : State.Fits (State.enterTest s) := by
  unfold State.enterTest
  with_reducible repeat' first
    | assumption | apply State.assertDevice_fits | apply State.put_fits | apply State.bump_fits | apply State.setRst_fits
    | apply fits_ite | extract_lets

theorem State.leaveTest_fits {s : State} (hz : s.Fits) : State.Fits (State.leaveTest s) :=
  fits_of (State.leaveTest_touches (m := 0xC0056C62) (touches_refl _ s) (by decide)) (by decide) (by decide) hz

theorem State.loadIr_fits {s : State} (hz : s.Fits) (code : ℕ) : State.Fits (State.loadIr s code) := by
  unfold State.loadIr
  with_reducible repeat' first
    | assumption | apply State.put_fits | apply State.setTst_fits | apply State.enterTest_fits | apply State.leaveTest_fits
    | apply fits_ite | extract_lets

theorem State.heldTest_fits {s : State} (hz : s.Fits) : State.Fits (State.heldTest s) := by
  unfold State.heldTest
  with_reducible repeat' first
    | assumption | apply State.enterTest_fits | apply State.put_fits | apply State.setTst_fits | apply fits_ite | split
    | extract_lets

theorem State.boundary_fits {s : State} (hz : s.Fits) (pins : ℕ) (shifted : Option ℕ) :
    State.Fits (State.boundary s pins shifted) :=
  fits_of (State.boundary_touches (m := 0x90000000) (touches_refl _ s) (by decide) pins shifted) (by decide) (by decide) hz

theorem State.jtagOut_fits {s : State} (hz : s.Fits) (v : ℕ) : State.Fits (State.jtagOut s v) :=
  fits_of (State.jtagOut_touches (m := 0x80000000) (touches_refl _ s) (by decide) v) (by decide) (by decide) hz

theorem State.tstReset_fits {s : State} (hz : s.Fits) : State.Fits (State.tstReset s) := by
  unfold State.tstReset
  with_reducible repeat' first
    | assumption | apply State.requestReset_fits | apply State.loadIr_fits

theorem State.tstRead_fits {s : State} (hz : s.Fits) (w : ℕ) (cbits : ℕ) (ue : Bool) (ready : Bool) :
    State.Fits (State.tstRead s w cbits ue ready) := by
  unfold State.tstRead
  with_reducible repeat' first
    | assumption | apply State.loadIr_fits | apply State.jtagOut_fits | apply State.setErr_fits | apply State.arrayRead_fits
    | apply State.put_fits | apply State.setTst_fits | apply fits_ite | extract_lets

theorem State.tstEc_fits {s : State} (hz : s.Fits) (block : ℕ) : State.Fits (State.tstEc s block) := by
  unfold State.tstEc
  with_reducible repeat' first
    | assumption | apply State.setTst_fits | apply State.jtagOut_fits | apply State.loadIr_fits | apply fits_ite | extract_lets

theorem State.frozenWordLost_fits {s : State} (hz : s.Fits) (word : ℕ) : State.Fits (State.frozenWordLost s word) := by
  unfold State.frozenWordLost
  with_reducible repeat' first
    | assumption | exact nil_fits | exact init_hold | exact init_barriers | exact init_posts | exact init_held | apply map_fits
    | apply filter_fits | apply discharge_fits | apply State.Fits.hold | apply State.Fits.held | apply State.Fits.barriers
    | apply State.Fits.posts | apply setPlane_hold | apply setPlane_barriers | apply setPlane_posts | apply fits_setPers
    | apply fits_ite | apply fits_foldl | intro t a ht | split

theorem State.coolEntryLost_fits {s : State} (hz : s.Fits) (k : ℕ) (fromReturn : Bool) :
    State.Fits (State.coolEntryLost s k fromReturn) := by
  unfold State.coolEntryLost
  with_reducible repeat' first
    | assumption | exact nil_fits | exact init_hold | exact init_barriers | exact init_posts | exact init_held | apply map_fits
    | apply filter_fits | apply discharge_fits | apply State.Fits.hold | apply State.Fits.held | apply State.Fits.barriers
    | apply State.Fits.posts | apply setPlane_hold | apply setPlane_barriers | apply setPlane_posts | apply fits_setPers
    | apply State.refreshQueues_fits | apply State.enterSweep_fits | apply fits_ite | extract_lets

theorem State.rxEntryBad_fits {s : State} (hz : s.Fits) (k : ℕ) : State.Fits (State.rxEntryBad s k) :=
  fits_of (State.rxEntryBad_touches (m := 0x200000) (touches_refl _ s) (by decide) k) (by decide) (by decide) hz

theorem State.blockRecordLost_fits {s : State} (hz : s.Fits) (k : ℕ) : State.Fits (State.blockRecordLost s k) :=
  fits_of (State.blockRecordLost_touches (m := 0x40000) (touches_refl _ s) (by decide) k) (by decide) (by decide) hz

theorem State.faultEffect_fits {s : State} (hz : s.Fits) (p : ℕ) (n : ℕ) (place : ℕ) (alt : Bool) :
    State.Fits (State.faultEffect s p n place alt) := by
  unfold State.faultEffect
  with_reducible repeat' first
    | assumption | apply State.recordLost_fits | apply State.frozenWordLost_fits | apply State.mapWordLost_fits
    | apply State.coolEntryLost_fits | apply State.stagingLost_fits | apply State.abandonCopy_fits
    | apply State.abandonRaised_fits | apply State.rxEntryBad_fits | apply State.ringUe_fits | apply State.blockRecordLost_fits
    | apply State.svcFail_fits | apply fits_ite | intro t c ht

theorem State.faultFound_fits {s : State} (hz : s.Fits) (p : ℕ) (n : ℕ) (place : ℕ) (alt : Bool) :
    State.Fits (State.faultFound s p n place alt) := by
  unfold State.faultFound
  with_reducible repeat' first
    | assumption | apply State.faultEffect_fits | apply State.coreCrash_fits | apply fits_ite | extract_lets

theorem State.injectedEffect_fits {s : State} (hz : s.Fits) (p : ℕ) (n : ℕ) : State.Fits (State.injectedEffect s p n) :=
  fits_of (State.injectedEffect_touches (m := 0x89005C22) (touches_refl _ s) (by decide) p n) (by decide) (by decide) hz

theorem State.detectFault_fits {s : State} (hz : s.Fits) (p : ℕ) (n : ℕ) (kind : ℕ) (addr : ℕ) (cycle : ℕ) (place : ℕ) (alt : Bool) :
    State.Fits (State.detectFault s p n kind addr cycle place alt) := by
  unfold State.detectFault
  with_reducible repeat' first
    | assumption | apply State.faultFound_fits | apply State.raiseFaultSev_fits | apply fits_ite

theorem State.injectFault_fits {s : State} (hz : s.Fits) (p : ℕ) (n : ℕ) : State.Fits (State.injectFault s p n) := by
  unfold State.injectFault
  with_reducible repeat' first
    | assumption | apply State.raiseFaultAt_fits | apply State.injectedEffect_fits | apply fits_ite | extract_lets

theorem State.injectAll_fits {s : State} (hz : s.Fits) : State.Fits (State.injectAll s) := by
  unfold State.injectAll
  with_reducible repeat' first
    | assumption | apply State.injectFault_fits | apply State.setWord_fits | apply fits_foldl | intro t a ht | extract_lets

theorem State.railOut_fits {s : State} (hz : s.Fits) (rail : ℕ) : State.Fits (State.railOut s rail) := by
  unfold State.railOut
  with_reducible repeat' first
    | assumption | apply State.failSave_fits | apply State.raiseFault_fits | apply fits_ite

theorem State.noteDrop_fits {s : State} (hz : s.Fits) (p : Port) (a : ℕ) (cause : ℕ) :
    State.Fits (State.noteDrop s p a cause) :=
  fits_of (State.noteDrop_touches (m := 0x2) (touches_refl _ s) (by decide) p a cause) (by decide) (by decide) hz

theorem State.noteOff_fits {s : State} (hz : s.Fits) (p : Port) (a : ℕ) (wr : Bool) : State.Fits (State.noteOff s p a wr) :=
  fits_of (State.noteOff_touches (m := 0x2) (touches_refl _ s) (by decide) p a wr) (by decide) (by decide) hz

theorem State.countWrite_fits {s : State} (hz : s.Fits) (p : ℕ) : State.Fits (State.countWrite s p) :=
  fits_of (State.countWrite_touches (m := 0x2) (touches_refl _ s) (by decide) p) (by decide) (by decide) hz

theorem State.grantSem_fits {s : State} (hz : s.Fits) (n : ℕ) (p : Port) : State.Fits (State.grantSem s n p) :=
  fits_of (State.grantSem_touches (m := 0x202) (touches_refl _ s) (by decide) n p) (by decide) (by decide) hz

theorem State.semWrite_fits {s : State} (hz : s.Fits) (p : Port) (n : ℕ) (data : Word) :
    State.Fits (State.semWrite s p n data) :=
  fits_of (State.semWrite_touches (m := 0x80005E22) (touches_refl _ s) (by decide) p n data) (by decide) (by decide) hz

theorem State.storeFields_fits {s : State} (hz : s.Fits) (p : Port) (a : ℕ) (r : Row) (data : Word) :
    State.Fits (State.storeFields s p a r data) :=
  fits_of (State.storeFields_touches (m := 0x6) (touches_refl _ s) (by decide) p a r data) (by decide) (by decide) hz

theorem State.softReset_fits {s : State} (hz : s.Fits) (b : ℕ) : State.Fits (State.softReset s b) := by
  unfold State.softReset
  with_reducible repeat' first
    | assumption | apply State.resetBlocks_fits | apply State.atolAbort_fits | apply State.setFlt_fits | apply fits_ite
    | extract_lets

theorem State.pageCtrlWritten_fits {s : State} (hz : s.Fits) (old : State) (pg : ℕ) (data : Word) :
    State.Fits (State.pageCtrlWritten s old pg data) := by
  unfold State.pageCtrlWritten
  with_reducible repeat' first
    | assumption | apply State.abortChan_fits | apply State.put_fits | apply State.softReset_fits | apply fits_ite
    | extract_lets

theorem State.discardShadows_fits {s : State} (hz : s.Fits) (pg : ℕ) : State.Fits (State.discardShadows s pg) :=
  fits_of (State.discardShadows_touches (m := 0x2) (touches_refl _ s) (by decide) pg) (by decide) (by decide) hz

theorem State.eoi_fits {s : State} (hz : s.Fits) (v : ℕ) : State.Fits (State.eoi s v) :=
  fits_of (State.eoi_touches (m := 0x80000400) (touches_refl _ s) (by decide) v) (by decide) (by decide) hz

theorem State.devRst_fits {s : State} (hz : s.Fits) (p : Port) : State.Fits (State.devRst s p) := by
  unfold State.devRst
  with_reducible repeat' first
    | assumption | apply State.requestReset_fits | apply State.noteDrop_fits | apply fits_ite | split

theorem State.enableFeatures_fits {s : State} (hz : s.Fits) (p : Port) (a : ℕ) (data : Word) :
    State.Fits (State.enableFeatures s p a data) :=
  fits_of (State.enableFeatures_touches (m := 0x422) (touches_refl _ s) (by decide) p a data) (by decide) (by decide) hz

theorem State.written_fits {s : State} (hz : s.Fits) (old : State) (p : Port) (a : ℕ) (data : Word) :
    State.Fits (State.written s old p a data) := by
  unfold State.written
  with_reducible repeat' first
    | assumption | exact nil_fits | exact init_hold | exact init_barriers | exact init_posts | exact init_held | apply map_fits
    | apply filter_fits | apply discharge_fits | apply State.Fits.hold | apply State.Fits.held | apply State.Fits.barriers
    | apply State.Fits.posts | apply setPlane_hold | apply setPlane_barriers | apply setPlane_posts
    | apply State.enableFeatures_fits | apply State.pageCtrlWritten_fits | apply State.settle_fits | apply State.raiseMask_fits
    | apply State.discardShadows_fits | apply State.setWord_fits | apply State.eoi_fits | apply State.devRst_fits
    | apply State.setRst_fits | apply State.requestState_fits | apply State.postBarrier_fits | apply fits_setPers
    | apply State.put_fits | apply State.queryBlock_fits | apply State.retrainChannel_fits | apply State.movCmd_fits
    | apply State.pmStore_fits | apply State.ringPop_fits | apply State.dtrnGo_fits | apply State.dtrnHalt_fits
    | apply State.strtRetrain_fits | apply State.fltPop_fits | apply State.fltFirstClr_fits | apply State.freezeWritten_fits
    | apply State.flush_fits | apply State.setTouched_fits | apply State.beginRecRead_fits | apply State.twlGo_fits
    | apply State.notifyPop_fits | apply State.markPop_fits | apply State.capBegin_fits | apply fits_ite | extract_lets

theorem State.storeWord_fits {s : State} (hz : s.Fits) (p : Port) (a : ℕ) (r : Row) (data : Word) :
    State.Fits (State.storeWord s p a r data) := by
  unfold State.storeWord
  with_reducible repeat' first
    | assumption | apply State.noteDrop_fits | apply State.put_fits | apply State.refreshArmed_fits | apply State.written_fits
    | apply State.countWrite_fits | apply State.storeFields_fits | apply fits_ite | extract_lets

theorem State.busWrite_fits {s : State} (hz : s.Fits) (p : Port) (a : ℕ) (data : Word) :
    State.Fits (State.busWrite s p a data) := by
  unfold State.busWrite
  with_reducible repeat' first
    | assumption | apply State.noteDrop_fits | apply State.noteOff_fits | apply State.countWrite_fits
    | apply State.winWrite_fits | apply State.semWrite_fits | apply State.storeWord_fits | apply fits_ite | split | extract_lets

theorem State.portWrite_fits {s : State} (hz : s.Fits) (p : Port) (addr : ℕ) (mask : ℕ) (data : Word) :
    State.Fits (State.portWrite s p addr mask data) := by
  unfold State.portWrite
  with_reducible repeat' first
    | assumption | apply State.busWrite_fits | apply State.noteDrop_fits | apply State.noteOff_fits | apply fits_ite
    | extract_lets

theorem State.portWord_fits {s : State} (hz : s.Fits) (p : Port) (a : ℕ) (data : Word) :
    State.Fits (State.portWord s p a data) := by
  unfold State.portWord
  with_reducible repeat' first
    | assumption | apply State.busWrite_fits | apply fits_ite

theorem State.portBits_fits {s : State} (hz : s.Fits) (p : Port) (a : ℕ) (lo : ℕ) (w : ℕ) (v : ℕ) :
    State.Fits (State.portBits s p a lo w v) := by
  unfold State.portBits
  with_reducible repeat' first
    | assumption | apply State.portWord_fits

theorem State.readWord_fits {s : State} (hz : s.Fits) (p : Port) (a : ℕ) : State.Fits (State.readWord s p a).1 :=
  fits_of (State.readWord_touches (m := 0xA) (touches_refl _ s) (by decide) p a) (by decide) (by decide) hz

theorem State.windowAny_fits {s : State} (hz : s.Fits) (p : Port) (o : ℕ) : State.Fits (State.windowAny s p o).1 := by
  unfold State.windowAny
  with_reducible repeat' first
    | assumption | apply State.winRead_fits | apply State.drawn_fits

theorem State.busRead_fits {s : State} (hz : s.Fits) (p : Port) (a : ℕ) : State.Fits (State.busRead s p a).1 := by
  unfold State.busRead
  with_reducible repeat' first
    | assumption | apply State.noteOff_fits | apply State.windowAny_fits | apply State.grantSem_fits | apply State.readWord_fits
    | apply fits_ite | apply fits_ite_fst | extract_lets

theorem State.portRead_fits {s : State} (hz : s.Fits) (p : Port) (addr : ℕ) : State.Fits (State.portRead s p addr) := by
  unfold State.portRead
  with_reducible repeat' first
    | assumption | apply State.busRead_fits | apply State.send_fits | apply fits_ite | split | extract_lets

theorem State.windowData_fits {s : State} (hz : s.Fits) (p : Port) (offset : ℕ) (data : Word) (late : Bool) :
    State.Fits (State.windowData s p offset data late) := by
  unfold State.windowData
  with_reducible repeat' first
    | assumption | apply State.portWord_fits | apply State.lateOk_fits | apply fits_ite | extract_lets

theorem State.windowRead_fits {s : State} (hz : s.Fits) (p : Port) (offset : ℕ) (cbits : ℕ) (ue : Bool) :
    State.Fits (State.windowRead s p offset cbits ue) := by
  unfold State.windowRead
  with_reducible repeat' first
    | assumption | apply State.noteOff_fits | apply State.send_fits | apply State.winRead_fits | apply fits_ite | extract_lets

theorem State.sbNack_fits {s : State} (hz : s.Fits) (cause : ℕ) (addr : ℕ) : State.Fits (State.sbNack s cause addr) :=
  fits_of (State.sbNack_touches (m := 0x22) (touches_refl _ s) (by decide) cause addr) (by decide) (by decide) hz

theorem State.sbPecError_fits {s : State} (hz : s.Fits) (addr : ℕ) : State.Fits (State.sbPecError s addr) := by
  unfold State.sbPecError
  with_reducible repeat' first
    | assumption | apply State.raiseFault_fits | apply State.raiseInt_fits | apply State.bump_fits | apply State.sbNack_fits

theorem State.sbWake_fits {s : State} (hz : s.Fits) (pg : ℕ) : State.Fits (State.sbWake s pg) :=
  fits_of (State.sbWake_touches (m := 0x4802) (touches_refl _ s) (by decide) pg) (by decide) (by decide) hz

theorem State.writeWords_fits {s : State} (hz : s.Fits) (p : Port) (a : ℕ) (l : List Word) : State.Fits (State.writeWords p s a l) := by
  induction l generalizing s a with
  | nil =>
    unfold State.writeWords
    with_reducible repeat' first
      | assumption | exact nil_fits | exact init_hold | exact init_barriers | exact init_posts | exact init_held
      | apply map_fits | apply filter_fits | apply discharge_fits | apply State.Fits.hold | apply State.Fits.held
      | apply State.Fits.barriers | apply State.Fits.posts | apply setPlane_hold | apply setPlane_barriers
      | apply setPlane_posts | apply State.busWrite_fits
  | cons a t ih =>
    unfold State.writeWords
    with_reducible repeat' first
      | assumption | apply ih | exact nil_fits | exact init_hold | exact init_barriers | exact init_posts | exact init_held
      | apply map_fits | apply filter_fits | apply discharge_fits | apply State.Fits.hold | apply State.Fits.held
      | apply State.Fits.barriers | apply State.Fits.posts | apply setPlane_hold | apply setPlane_barriers
      | apply setPlane_posts | apply State.busWrite_fits | apply fits_ite | split

theorem State.sbWrite_fits {s : State} (hz : s.Fits) (count : ℕ) (a0 : BitVec 8) (a1 : BitVec 8) (a2 : BitVec 8) (words : List Word) (pecOk : Bool) :
    State.Fits (State.sbWrite s count a0 a1 a2 words pecOk) := by
  unfold State.sbWrite
  with_reducible repeat' first
    | assumption | apply State.sbNack_fits | apply State.sbWake_fits | apply State.noteDrop_fits | apply State.noteOff_fits
    | apply State.sbPecError_fits | apply State.bump_fits | apply State.writeWords_fits | apply fits_ite | extract_lets

theorem State.readWords_fits {s : State} (hz : s.Fits) (p : Port) (k : ℕ) (a : ℕ) : State.Fits (State.readWords p k s a).1 := by
  induction k generalizing s a with
  | zero =>
    unfold State.readWords
    with_reducible repeat' first
      | assumption | exact nil_fits | exact init_hold | exact init_barriers | exact init_posts | exact init_held
      | apply map_fits | apply filter_fits | apply discharge_fits | apply State.Fits.hold | apply State.Fits.held
      | apply State.Fits.barriers | apply State.Fits.posts | apply setPlane_hold | apply setPlane_barriers
      | apply setPlane_posts | apply State.busRead_fits
  | succ k ih =>
    unfold State.readWords
    with_reducible repeat' first
      | assumption | apply ih | exact nil_fits | exact init_hold | exact init_barriers | exact init_posts | exact init_held
      | apply map_fits | apply filter_fits | apply discharge_fits | apply State.Fits.hold | apply State.Fits.held
      | apply State.Fits.barriers | apply State.Fits.posts | apply setPlane_hold | apply setPlane_barriers
      | apply setPlane_posts | apply State.busRead_fits | apply fits_ite | split

theorem State.sbAnswer_fits {s : State} (hz : s.Fits) (sent : List (BitVec 8)) (data : List (BitVec 8)) :
    State.Fits (State.sbAnswer s sent data) :=
  fits_of (State.sbAnswer_touches (m := 0x80000000) (touches_refl _ s) (by decide) sent data) (by decide) (by decide) hz

theorem State.sbRead_fits {s : State} (hz : s.Fits) (count : ℕ) (a0 : BitVec 8) (a1 : BitVec 8) (a2 : BitVec 8) (k : ℕ) :
    State.Fits (State.sbRead s count a0 a1 a2 k) := by
  unfold State.sbRead
  with_reducible repeat' first
    | assumption | apply State.sbNack_fits | apply State.sbWake_fits | apply State.noteOff_fits | apply State.readWords_fits
    | apply State.sbAnswer_fits | apply State.bump_fits | apply fits_ite | extract_lets

theorem State.sbReset_fits {s : State} (hz : s.Fits) (count : ℕ) (bytes : List (BitVec 8)) (pecOk : Bool) :
    State.Fits (State.sbReset s count bytes pecOk) := by
  unfold State.sbReset
  with_reducible repeat' first
    | assumption | apply State.sbNack_fits | apply State.sbPecError_fits | apply State.requestReset_fits | apply State.bump_fits
    | apply fits_ite

theorem State.sbAbandon_fits {s : State} (hz : s.Fits) : State.Fits (State.sbAbandon s) := by
  unfold State.sbAbandon
  with_reducible repeat' first
    | assumption | apply State.raiseFault_fits | apply State.raiseInt_fits | apply State.bump_fits | apply fits_ite

theorem State.commitAll_fits {s : State} (hz : s.Fits) : State.Fits (State.commitAll s) :=
  fits_of (State.commitAll_touches (m := 0x82) (touches_refl _ s) (by decide)) (by decide) (by decide) hz

theorem State.judgeTerrace_fits {s : State} (hz : s.Fits) : State.Fits (State.judgeTerrace s) :=
  fits_of (State.judgeTerrace_touches (m := 0x2) (touches_refl _ s) (by decide)) (by decide) (by decide) hz

theorem State.takeWrites_fits {s : State} (hz : s.Fits) : State.Fits (State.takeWrites s) :=
  fits_of (State.takeWrites_touches (m := 0x86) (touches_refl _ s) (by decide)) (by decide) (by decide) hz

theorem State.takeBanks_fits {s : State} (hz : s.Fits) : State.Fits (State.takeBanks s) := by
  unfold State.takeBanks
  with_reducible repeat' first
    | assumption | apply State.rstrTick_fits | apply State.preemptMovers_fits | apply fits_ite | extract_lets

theorem State.resetsDue_fits {s : State} (hz : s.Fits) : State.Fits (State.resetsDue s) := by
  unfold State.resetsDue
  with_reducible repeat' first
    | assumption | apply State.assertResets_fits | apply State.atolAbort_fits | apply State.svcFail_fits | apply fits_ite
    | extract_lets

theorem State.countDrc_fits {s : State} (hz : s.Fits) (e : ℕ × ℕ × ℕ) : State.Fits (State.countDrc s e) :=
  fits_of (State.countDrc_touches (m := 0x22) (touches_refl _ s) (by decide) e) (by decide) (by decide) hz

theorem State.countStalls_fits {s : State} (hz : s.Fits) : State.Fits (State.countStalls s) :=
  fits_of (State.countStalls_touches (m := 0x22) (touches_refl _ s) (by decide)) (by decide) (by decide) hz

theorem State.classWork_fits {s : State} (hz : s.Fits) (w : TickWork) : State.Fits (State.classWork s w) := by
  unfold State.classWork
  with_reducible repeat' first
    | assumption | apply State.saveIslets_fits | apply State.levelTick_fits | apply State.passOverrun_fits
    | apply State.allotAll_fits | apply State.shadowTick_fits | apply State.foldSteps_fits | apply State.wearLevel_fits
    | apply State.retireAll_fits | apply State.relocSteps_fits | apply fits_ite | apply fits_foldl | intro t a ht | extract_lets

theorem State.passWork_fits {s : State} (hz : s.Fits) (w : TickWork) : State.Fits (State.passWork s w) := by
  unfold State.passWork
  with_reducible repeat' first
    | assumption | apply State.alignTick_fits | apply State.bump64_fits | apply State.refreshArmed_fits
    | apply State.judgeTerrace_fits | apply State.takeWrites_fits | apply State.commitAll_fits | apply State.resetsDue_fits
    | apply State.injectAll_fits | apply State.takeBanks_fits | apply State.drainQueue_fits | apply State.flashTick_fits
    | apply State.scrubTick_fits | apply State.moverTick_fits | apply State.startChans_fits | apply State.classWork_fits
    | apply State.drainFill_fits | apply State.refreshHlk_fits | apply State.recTick_fits | apply State.countStalls_fits
    | apply State.countDrc_fits | apply fits_ite | apply fits_foldl | intro t a ht | extract_lets

theorem State.countTime_fits {s : State} (hz : s.Fits) : State.Fits (State.countTime s) :=
  fits_of (State.countTime_touches (m := 0x1002) (touches_refl _ s) (by decide)) (by decide) (by decide) hz

theorem State.passTick_fits {s : State} (hz : s.Fits) (w : TickWork) : State.Fits (State.passTick s w) := by
  unfold State.passTick
  with_reducible repeat' first
    | assumption | exact nil_fits | exact init_hold | exact init_barriers | exact init_posts | exact init_held | apply map_fits
    | apply filter_fits | apply discharge_fits | apply State.Fits.hold | apply State.Fits.held | apply State.Fits.barriers
    | apply State.Fits.posts | apply setPlane_hold | apply setPlane_barriers | apply setPlane_posts | apply State.countTime_fits
    | apply State.passWork_fits | apply fits_ite | extract_lets | apply fits_state

theorem State.glenWdog_fits {s : State} (hz : s.Fits) (k : ℕ) (cycle : ℕ) : State.Fits (State.glenWdog s k cycle) := by
  unfold State.glenWdog
  with_reducible repeat' first
    | assumption | apply State.detectFault_fits | apply fits_ite

theorem State.lookupDone_fits {s : State} (hz : s.Fits) : State.Fits (State.lookupDone s) := by
  unfold State.lookupDone
  with_reducible repeat' first
    | assumption | apply State.endLookup_fits | apply fits_ite | split

theorem State.imageDetected_fits {s : State} (hz : s.Fits) (f : Found) : State.Fits (State.imageDetected s f) := by
  unfold State.imageDetected
  with_reducible repeat' first
    | assumption | apply State.detect_fits | apply State.finishErase_fits | apply State.reportImage_fits
    | apply State.knownFailures_fits | apply fits_ite | extract_lets

theorem State.loadEnded_fits {s : State} (hz : s.Fits) : State.Fits (State.loadEnded s) := by
  unfold State.loadEnded
  with_reducible repeat' first
    | assumption | apply State.metadataLoaded_fits | apply State.preemptMovers_fits | apply fits_ite | extract_lets

theorem State.forgetDefects_fits {s : State} (hz : s.Fits) : State.Fits (State.forgetDefects s) :=
  fits_of (State.forgetDefects_touches (m := 0x40000) (touches_refl _ s) (by decide)) (by decide) (by decide) hz

theorem State.wipeDone_fits {s : State} (hz : s.Fits) : State.Fits (State.wipeDone s) := by
  unfold State.wipeDone
  with_reducible repeat' first
    | assumption | apply State.deviceReset_fits | apply State.drawn_fits | apply State.forgetDefects_fits
    | apply State.recRange_fits | apply State.wiped_fits | apply fits_ite

theorem State.refuse_fits {s : State} (hz : s.Fits) (code : ℕ) : State.Fits (State.refuse s code).1 :=
  fits_of (State.refuse_touches (m := 0x0) (touches_refl _ s) code) (by decide) (by decide) hz

theorem State.success_fits {s : State} (hz : s.Fits) (payload : List (BitVec 8)) : State.Fits (State.success s payload).1 :=
  fits_of (State.success_touches (m := 0x0) (touches_refl _ s) payload) (by decide) (by decide) hz

theorem State.mailbox_fits {s : State} (hz : s.Fits) (f : State → Reply) (hf : ∀ t : State, t.Fits → (f t).1.Fits) :
    State.Fits (State.mailbox s f) := by
  unfold State.mailbox
  with_reducible repeat' first
    | assumption | apply State.vector0_fits | apply State.send_fits | apply fits_ite | apply hf

theorem State.ownWrite_fits {s : State} (hz : s.Fits) (line : ℕ) (data : LineData) (poison : Bool) :
    State.Fits (State.ownWrite s line data poison) := by
  unfold State.ownWrite
  with_reducible repeat' first
    | assumption | apply State.arrive_fits | apply State.setHlk_fits | extract_lets

theorem State.injectPoison_fits {s : State} (hz : s.Fits) (dpa : ℕ) : State.Fits (State.injectPoison s dpa).1 := by
  unfold State.injectPoison
  with_reducible repeat' first
    | assumption | apply State.refuse_fits | apply State.success_fits | apply State.ownWrite_fits | apply State.drawn_fits
    | apply fits_ite | apply fits_ite_fst

theorem State.clearPoison_fits {s : State} (hz : s.Fits) (dpa : ℕ) (data : LineData) :
    State.Fits (State.clearPoison s dpa data).1 := by
  unfold State.clearPoison
  with_reducible repeat' first
    | assumption | apply State.refuse_fits | apply State.success_fits | apply State.ownWrite_fits | apply fits_ite
    | apply fits_ite_fst

theorem State.backgroundEnds_fits {s : State} (hz : s.Fits) : State.Fits (State.backgroundEnds s) :=
  fits_of (State.backgroundEnds_touches (m := 0x84000000) (touches_refl _ s) (by decide)) (by decide) (by decide) hz

theorem State.arrayErased_fits {s : State} (hz : s.Fits) : State.Fits (State.arrayErased s) := by
  unfold State.arrayErased
  with_reducible repeat' first
    | assumption | apply State.drawn_fits | apply State.eraseArray_fits

theorem State.sanitizeDone_fits {s : State} (hz : s.Fits) : State.Fits (State.sanitizeDone s) := by
  unfold State.sanitizeDone
  with_reducible repeat' first
    | assumption | apply State.backgroundEnds_fits | apply State.setKept_fits | apply State.arrayErased_fits | apply fits_ite
    | extract_lets

theorem State.formatDone_fits {s : State} (hz : s.Fits) : State.Fits (State.formatDone s) := by
  unfold State.formatDone
  with_reducible repeat' first
    | assumption | apply State.backgroundEnds_fits | apply State.arrayErased_fits | apply fits_ite

theorem State.barrierPost_fits {s : State} (hz : s.Fits) (tag : ℕ) : State.Fits (State.barrierPost s tag).1 := by
  unfold State.barrierPost
  with_reducible repeat' first
    | assumption | apply State.refuse_fits | apply State.postBarrier_fits | apply State.success_fits | apply fits_ite
    | apply fits_ite_fst | split | extract_lets

end Sys2Proof.Machine
end

