-- ==== Sys2Proof/Laws/FitsExec.lean ====
section
/-! SUPPORT. Where `exec` answers a next state, the tables of waiting work still fit: one lemma for each command. -/

set_option linter.unreachableTactic false
set_option linter.unusedTactic false
set_option linter.unusedVariables false

namespace Sys2Proof.Machine

theorem execPassTick_fits (w : TickWork) {s t : State} (h : execPassTick w s = .next t) (hz : s.Fits) : t.Fits := by
  unfold execPassTick at h
  cases h
  with_reducible repeat' first
    | assumption | apply State.passTick_fits | intro t ht | extract_lets

theorem execAliveEdge_fits {s t : State} (h : execAliveEdge s = .next t) (hz : s.Fits) : t.Fits :=
  fits_of (execAliveEdge_touches h) (by decide) (by decide) hz

theorem execMastershipTakeover_fits (late : Bool) {s t : State} (h : execMastershipTakeover late s = .next t) (hz : s.Fits) :
    t.Fits := by
  unfold execMastershipTakeover at h
  cases h
  with_reducible repeat' first
    | assumption | apply State.takeMastership_fits | intro t ht | extract_lets

theorem execStraitPortTrained_fits (port : ℕ) (partner : ℕ) (ring : Bool) {s t : State} (h : execStraitPortTrained port
    partner ring s = .next t) (hz : s.Fits) : t.Fits := by
  unfold execStraitPortTrained at h
  cases h
  with_reducible repeat' first
    | assumption | apply State.portTrained_fits | intro t ht | extract_lets

theorem execCensusDone_fits {s t : State} (h : execCensusDone s = .next t) (hz : s.Fits) : t.Fits :=
  fits_of (execCensusDone_touches h) (by decide) (by decide) hz

theorem execMasterElection_fits {s t : State} (h : execMasterElection s = .next t) (hz : s.Fits) : t.Fits :=
  fits_of (execMasterElection_touches h) (by decide) (by decide) hz

theorem execStraitPeriodicSend_fits (k : Periodic) {s t : State} (h : execStraitPeriodicSend k s = .next t) (hz : s.Fits) :
    t.Fits :=
  fits_of (execStraitPeriodicSend_touches k h) (by decide) (by decide) hz

theorem execStraitFrameBad_fits (mine : Bool) {s t : State} (h : execStraitFrameBad mine s = .next t) (hz : s.Fits) : t.Fits
    :=
  fits_of (execStraitFrameBad_touches mine h) (by decide) (by decide) hz

theorem execHeartbeat_fits (h1 : FrameHdr) (payload : List (BitVec 8)) {s t : State} (h : execHeartbeat h1 payload s = .next
    t) (hz : s.Fits) : t.Fits :=
  fits_of (execHeartbeat_touches h1 payload h) (by decide) (by decide) hz

theorem execProbe_fits (h1 : FrameHdr) (turn : ℕ) {s t : State} (h : execProbe h1 turn s = .next t) (hz : s.Fits) : t.Fits :=
  fits_of (execProbe_touches h1 turn h) (by decide) (by decide) hz

theorem execEcho_fits (h1 : FrameHdr) (payload : List (BitVec 8)) (trip : ℕ) {s t : State} (h : execEcho h1 payload trip s =
    .next t) (hz : s.Fits) : t.Fits :=
  fits_of (execEcho_touches h1 payload trip h) (by decide) (by decide) hz

theorem execTickSync_fits (h1 : FrameHdr) (payload : List (BitVec 8)) (offset : ℤ) (lag : ℕ) (residence : ℕ) {s t : State} (h
    : execTickSync h1 payload offset lag residence s = .next t) (hz : s.Fits) : t.Fits := by
  unfold execTickSync at h
  cases h
  with_reducible repeat' first
    | assumption | apply State.onTickSync_fits | intro t ht | extract_lets

theorem execMemberInfo_fits (h1 : FrameHdr) (payload : List (BitVec 8)) {s t : State} (h : execMemberInfo h1 payload s = .next
    t) (hz : s.Fits) : t.Fits :=
  fits_of (execMemberInfo_touches h1 payload h) (by decide) (by decide) hz

theorem execShare_fits (h1 : FrameHdr) (payload : List (BitVec 8)) {s t : State} (h : execShare h1 payload s = .next t) (hz :
    s.Fits) : t.Fits := by
  unfold execShare at h
  cases h
  with_reducible repeat' first
    | assumption | apply State.onShare_fits | intro t ht | extract_lets

theorem execTailDone_fits (h1 : FrameHdr) (payload : List (BitVec 8)) {s t : State} (h : execTailDone h1 payload s = .next t)
    (hz : s.Fits) : t.Fits :=
  fits_of (execTailDone_touches h1 payload h) (by decide) (by decide) hz

theorem execCloseIssue_fits {s t : State} (h : execCloseIssue s = .next t) (hz : s.Fits) : t.Fits := by
  unfold execCloseIssue at h
  cases h
  with_reducible repeat' first
    | assumption | apply State.issueClose_fits | intro t ht | extract_lets

theorem execClose_fits (h1 : FrameHdr) (payload : List (BitVec 8)) {s t : State} (h : execClose h1 payload s = .next t) (hz :
    s.Fits) : t.Fits := by
  unfold execClose at h
  cases h
  with_reducible repeat' first
    | assumption | apply State.onClose_fits | intro t ht | extract_lets

theorem execSealedFrame_fits (h1 : FrameHdr) (payload : List (BitVec 8)) {s t : State} (h : execSealedFrame h1 payload s =
    .next t) (hz : s.Fits) : t.Fits :=
  fits_of (execSealedFrame_touches h1 payload h) (by decide) (by decide) hz

theorem execGroupSealed_fits (h1 : FrameHdr) (payload : List (BitVec 8)) {s t : State} (h : execGroupSealed h1 payload s =
    .next t) (hz : s.Fits) : t.Fits :=
  fits_of (execGroupSealed_touches h1 payload h) (by decide) (by decide) hz

theorem execStraitSave_fits (h1 : FrameHdr) {s t : State} (h : execStraitSave h1 s = .next t) (hz : s.Fits) : t.Fits := by
  unfold execStraitSave at h
  cases h
  with_reducible repeat' first
    | assumption | apply State.onSave_fits | intro t ht | extract_lets

theorem execSaveStart_fits (h1 : FrameHdr) (payload : List (BitVec 8)) {s t : State} (h : execSaveStart h1 payload s = .next
    t) (hz : s.Fits) : t.Fits :=
  fits_of (execSaveStart_touches h1 payload h) (by decide) (by decide) hz

theorem execSaveEnd_fits (h1 : FrameHdr) (payload : List (BitVec 8)) {s t : State} (h : execSaveEnd h1 payload s = .next t)
    (hz : s.Fits) : t.Fits :=
  fits_of (execSaveEnd_touches h1 payload h) (by decide) (by decide) hz

theorem execImageStatusFrame_fits (h1 : FrameHdr) (payload : List (BitVec 8)) {s t : State} (h : execImageStatusFrame h1
    payload s = .next t) (hz : s.Fits) : t.Fits := by
  unfold execImageStatusFrame at h
  cases h
  with_reducible repeat' first
    | assumption | apply State.onStatus_fits | intro t ht | extract_lets

theorem execGroupPoint_fits (h1 : FrameHdr) (payload : List (BitVec 8)) {s t : State} (h : execGroupPoint h1 payload s = .next
    t) (hz : s.Fits) : t.Fits := by
  unfold execGroupPoint at h
  cases h
  with_reducible repeat' first
    | assumption | apply State.onPoint_fits | intro t ht | extract_lets

theorem execMasterClaim_fits (h1 : FrameHdr) (payload : List (BitVec 8)) {s t : State} (h : execMasterClaim h1 payload s =
    .next t) (hz : s.Fits) : t.Fits :=
  fits_of (execMasterClaim_touches h1 payload h) (by decide) (by decide) hz

theorem execEventFrame_fits (h1 : FrameHdr) (payload : List (BitVec 8)) {s t : State} (h : execEventFrame h1 payload s = .next
    t) (hz : s.Fits) : t.Fits :=
  fits_of (execEventFrame_touches h1 payload h) (by decide) (by decide) hz

theorem execPeerSilent_fits (d : ℕ) (late : Bool) {s t : State} (h : execPeerSilent d late s = .next t) (hz : s.Fits) : t.Fits
    :=
  fits_of (execPeerSilent_touches d late h) (by decide) (by decide) hz

theorem execStrtRetrain_fits (p : Port) {s t : State} (h : execStrtRetrain p s = .next t) (hz : s.Fits) : t.Fits := by
  unfold execStrtRetrain at h
  cases h
  with_reducible repeat' first
    | assumption | apply State.portBits_fits | intro t ht | extract_lets

theorem execPortDown_fits (port : ℕ) {s t : State} (h : execPortDown port s = .next t) (hz : s.Fits) : t.Fits := by
  unfold execPortDown at h
  cases h
  with_reducible repeat' first
    | assumption | apply State.portDown_fits | intro t ht | extract_lets

theorem execShareTimeout_fits {s t : State} (h : execShareTimeout s = .next t) (hz : s.Fits) : t.Fits :=
  fits_of (execShareTimeout_touches h) (by decide) (by decide) hz

theorem execUnlistedFrameType_fits (h1 : FrameHdr) {s t : State} (h : execUnlistedFrameType h1 s = .next t) (hz : s.Fits) :
    t.Fits :=
  fits_of (execUnlistedFrameType_touches h1 h) (by decide) (by decide) hz

theorem execRegisterWrite_fits (p : Port) (addr : ℕ) (mask : ℕ) (data : Word) {s t : State} (h : execRegisterWrite p addr mask
    data s = .next t) (hz : s.Fits) : t.Fits := by
  unfold execRegisterWrite at h
  cases h
  with_reducible repeat' first
    | assumption | apply State.portWrite_fits | intro t ht | extract_lets

theorem execCounterLoRead_fits (p : Port) (addr : ℕ) {s t : State} (h : execCounterLoRead p addr s = .next t) (hz : s.Fits) :
    t.Fits := by
  unfold execCounterLoRead at h
  cases h
  with_reducible repeat' first
    | assumption | apply State.portRead_fits | intro t ht | extract_lets

theorem execRcRead_fits (p : Port) (addr : ℕ) {s t : State} (h : execRcRead p addr s = .next t) (hz : s.Fits) : t.Fits := by
  unfold execRcRead at h
  cases h
  with_reducible repeat' first
    | assumption | apply State.portRead_fits | intro t ht | extract_lets

theorem execSemClaim_fits (n : ℕ) (readers : List Port) {s t : State} (h : execSemClaim n readers s = .next t) (hz : s.Fits) :
    t.Fits :=
  fits_of (execSemClaim_touches n readers h) (by decide) (by decide) hz

theorem execSemRelease_fits (p : Port) (n : ℕ) (owner : ℕ) {s t : State} (h : execSemRelease p n owner s = .next t) (hz :
    s.Fits) : t.Fits := by
  unfold execSemRelease at h
  cases h
  with_reducible repeat' first
    | assumption | apply State.portWord_fits | intro t ht | extract_lets

theorem execSemBreak_fits (p : Port) (n : ℕ) (owner : ℕ) {s t : State} (h : execSemBreak p n owner s = .next t) (hz : s.Fits)
    : t.Fits := by
  unfold execSemBreak at h
  cases h
  with_reducible repeat' first
    | assumption | apply State.portWord_fits | intro t ht | extract_lets

theorem execSemLeaseExpiry_fits (n : ℕ) {s t : State} (h : execSemLeaseExpiry n s = .next t) (hz : s.Fits) : t.Fits :=
  fits_of (execSemLeaseExpiry_touches n h) (by decide) (by decide) hz

theorem execShadowArm_fits (p : Port) (page : ℕ) {s t : State} (h : execShadowArm p page s = .next t) (hz : s.Fits) : t.Fits
    := by
  unfold execShadowArm at h
  cases h
  with_reducible repeat' first
    | assumption | apply State.portBits_fits | intro t ht | extract_lets

theorem execShadowDiscard_fits (p : Port) (page : ℕ) {s t : State} (h : execShadowDiscard p page s = .next t) (hz : s.Fits) :
    t.Fits := by
  unfold execShadowDiscard at h
  cases h
  with_reducible repeat' first
    | assumption | apply State.portBits_fits | intro t ht | extract_lets

theorem execSoftRst_fits (p : Port) (page : ℕ) {s t : State} (h : execSoftRst p page s = .next t) (hz : s.Fits) : t.Fits := by
  unfold execSoftRst at h
  cases h
  with_reducible repeat' first
    | assumption | apply State.portBits_fits | intro t ht | extract_lets

theorem execClkGate_fits (p : Port) (page : ℕ) (on : Bool) {s t : State} (h : execClkGate p page on s = .next t) (hz : s.Fits)
    : t.Fits := by
  unfold execClkGate at h
  cases h
  with_reducible repeat' first
    | assumption | apply State.portBits_fits | intro t ht | extract_lets

theorem execPageEn_fits (p : Port) (page : ℕ) (on : Bool) {s t : State} (h : execPageEn p page on s = .next t) (hz : s.Fits) :
    t.Fits := by
  unfold execPageEn at h
  cases h
  with_reducible repeat' first
    | assumption | apply State.portBits_fits | intro t ht | extract_lets

theorem execIntForce_fits (p : Port) (page : ℕ) (causes : Word) {s t : State} (h : execIntForce p page causes s = .next t) (hz
    : s.Fits) : t.Fits := by
  unfold execIntForce at h
  cases h
  with_reducible repeat' first
    | assumption | apply State.portWord_fits | intro t ht | extract_lets

theorem execErrForce_fits (p : Port) (page : ℕ) (sources : Word) {s t : State} (h : execErrForce p page sources s = .next t)
    (hz : s.Fits) : t.Fits := by
  unfold execErrForce at h
  cases h
  with_reducible repeat' first
    | assumption | apply State.portWord_fits | intro t ht | extract_lets

theorem execMgpEoi_fits (p : Port) (v : ℕ) {s t : State} (h : execMgpEoi p v s = .next t) (hz : s.Fits) : t.Fits := by
  unfold execMgpEoi at h
  cases h
  with_reducible repeat' first
    | assumption | apply State.portWord_fits | intro t ht | extract_lets

theorem execMsixHeldSend_fits {s t : State} (h : execMsixHeldSend s = .next t) (hz : s.Fits) : t.Fits :=
  fits_of (execMsixHeldSend_touches h) (by decide) (by decide) hz

theorem execCxlMemWrite_fits (n : ℕ) (line : ℕ) (tag : ℕ) (data : LineData) (be : BitVec 64) (poison : Bool) {s t : State} (h
    : execCxlMemWrite n line tag data be poison s = .next t) (hz : s.Fits) : t.Fits := by
  unfold execCxlMemWrite at h
  split at h
  · cases h
  · cases h
    with_reducible repeat' first
      | assumption | apply State.memRequest_fits | apply fits_ite | intro t ht | extract_lets

theorem execCxlMemRead_fits (n : ℕ) (line : ℕ) (tag : ℕ) {s t : State} (h : execCxlMemRead n line tag s = .next t) (hz :
    s.Fits) : t.Fits := by
  unfold execCxlMemRead at h
  split at h
  · cases h
  · cases h
    with_reducible repeat' first
      | assumption | apply State.memRequest_fits | apply fits_ite | intro t ht | extract_lets

theorem execIsletRecordReadDone_fits {s t : State} (h : execIsletRecordReadDone s = .next t) (hz : s.Fits) : t.Fits := by
  unfold execIsletRecordReadDone at h
  cases h
  with_reducible repeat' first
    | assumption | apply State.recordRead_fits | intro t ht | extract_lets

theorem execPaceAdmit_fits {s t : State} (h : execPaceAdmit s = .next t) (hz : s.Fits) : t.Fits := by
  unfold execPaceAdmit at h
  cases h
  with_reducible repeat' first
    | assumption | apply State.paceAdmit_fits | intro t ht | extract_lets

theorem execHoldMaxAdmit_fits {s t : State} (h : execHoldMaxAdmit s = .next t) (hz : s.Fits) : t.Fits := by
  unfold execHoldMaxAdmit at h
  cases h
  with_reducible repeat' first
    | assumption | apply State.holdMaxAdmit_fits | intro t ht | extract_lets

theorem execBudgetCompute_fits (tj : ℤ) {s t : State} (h : execBudgetCompute tj s = .next t) (hz : s.Fits) : t.Fits := by
  unfold execBudgetCompute at h
  cases h
  with_reducible repeat' first
    | assumption | apply State.budgetCompute_fits | intro t ht | extract_lets

theorem execGaugeStale_fits (late : Bool) {s t : State} (h : execGaugeStale late s = .next t) (hz : s.Fits) : t.Fits := by
  unfold execGaugeStale at h
  cases h
  with_reducible repeat' first
    | assumption | apply State.gaugeStale_fits | intro t ht | extract_lets

theorem execEpochClose_fits {s t : State} (h : execEpochClose s = .next t) (hz : s.Fits) : t.Fits := by
  unfold execEpochClose at h
  cases h
  with_reducible repeat' first
    | assumption | apply State.tryClose_fits | intro t ht | extract_lets

theorem execCoolingWalkDone_fits {s t : State} (h : execCoolingWalkDone s = .next t) (hz : s.Fits) : t.Fits := by
  unfold execCoolingWalkDone at h
  cases h
  with_reducible repeat' first
    | assumption | apply State.walkDone_fits | intro t ht | extract_lets

theorem execEpochSeal_fits (rearmed : Bool) (again : ℕ) {s t : State} (h : execEpochSeal rearmed again s = .next t) (hz :
    s.Fits) : t.Fits := by
  unfold execEpochSeal at h
  cases h
  with_reducible repeat' first
    | assumption | apply State.sealRead_fits | intro t ht | extract_lets

theorem execPlaneClearDone_fits {s t : State} (h : execPlaneClearDone s = .next t) (hz : s.Fits) : t.Fits := by
  unfold execPlaneClearDone at h
  cases h
  with_reducible repeat' first
    | assumption | apply State.planeCleared_fits | intro t ht | extract_lets

theorem execPersBarPost_fits (p : Port) (tag : Word) {s t : State} (h : execPersBarPost p tag s = .next t) (hz : s.Fits) :
    t.Fits := by
  unfold execPersBarPost at h
  cases h
  with_reducible repeat' first
    | assumption | apply State.portWord_fits | intro t ht | extract_lets

theorem execPersQIslet_fits (p : Port) (islet : ℕ) {s t : State} (h : execPersQIslet p islet s = .next t) (hz : s.Fits) :
    t.Fits := by
  unfold execPersQIslet at h
  cases h
  with_reducible repeat' first
    | assumption | apply State.portWord_fits | intro t ht | extract_lets

theorem execIsletLookupDone_fits {s t : State} (h : execIsletLookupDone s = .next t) (hz : s.Fits) : t.Fits := by
  unfold execIsletLookupDone at h
  cases h
  with_reducible repeat' first
    | assumption | apply State.lookupDone_fits | intro t ht | extract_lets

theorem execShadowReadEnd_fits (islet : ℕ) {s t : State} (h : execShadowReadEnd islet s = .next t) (hz : s.Fits) : t.Fits := by
  unfold execShadowReadEnd at h
  cases h
  with_reducible repeat' first
    | assumption | apply State.readEnded_fits | intro t ht | extract_lets

theorem execStripeAgeExpiry_fits (slc : Bool) {s t : State} (h : execStripeAgeExpiry slc s = .next t) (hz : s.Fits) : t.Fits
    :=
  fits_of (execStripeAgeExpiry_touches slc h) (by decide) (by decide) hz

theorem execSweepRoundDone_fits {s t : State} (h : execSweepRoundDone s = .next t) (hz : s.Fits) : t.Fits := by
  unfold execSweepRoundDone at h
  cases h
  with_reducible repeat' first
    | assumption | apply State.sweepRoundDone_fits | intro t ht | extract_lets

theorem execBarrierSweepDone_fits {s t : State} (h : execBarrierSweepDone s = .next t) (hz : s.Fits) : t.Fits := by
  unfold execBarrierSweepDone at h
  cases h
  with_reducible repeat' first
    | assumption | apply State.barSweepDone_fits | intro t ht | extract_lets

theorem execPfailInFall_fits {s t : State} (h : execPfailInFall s = .next t) (hz : s.Fits) : t.Fits :=
  fits_of (execPfailInFall_touches h) (by decide) (by decide) hz

theorem execPfailDebounceDone_fits {s t : State} (h : execPfailDebounceDone s = .next t) (hz : s.Fits) : t.Fits := by
  unfold execPfailDebounceDone at h
  cases h
  with_reducible repeat' first
    | assumption | apply State.pfailTrigger_fits | intro t ht | extract_lets

theorem execPfailGlitch_fits (samples : ℕ) {s t : State} (h : execPfailGlitch samples s = .next t) (hz : s.Fits) : t.Fits := by
  unfold execPfailGlitch at h
  cases h
  with_reducible repeat' first
    | assumption | apply State.pfailGlitch_fits | intro t ht | extract_lets

theorem execPfailInRise_fits {s t : State} (h : execPfailInRise s = .next t) (hz : s.Fits) : t.Fits :=
  fits_of (execPfailInRise_touches h) (by decide) (by decide) hz

theorem execHoldRailTrip_fits {s t : State} (h : execHoldRailTrip s = .next t) (hz : s.Fits) : t.Fits := by
  unfold execHoldRailTrip at h
  cases h
  with_reducible repeat' first
    | assumption | apply State.railTrip_fits | intro t ht | extract_lets

theorem execHoldRailClose_fits (started : ℕ) {s t : State} (h : execHoldRailClose started s = .next t) (hz : s.Fits) : t.Fits
    :=
  fits_of (execHoldRailClose_touches started h) (by decide) (by decide) hz

theorem execSaveWritesApplied_fits {s t : State} (h : execSaveWritesApplied s = .next t) (hz : s.Fits) : t.Fits :=
  fits_of (execSaveWritesApplied_touches h) (by decide) (by decide) hz

theorem execSaveDataDone_fits {s t : State} (h : execSaveDataDone s = .next t) (hz : s.Fits) : t.Fits :=
  fits_of (execSaveDataDone_touches h) (by decide) (by decide) hz

theorem execEnergyCutoff_fits (started : ℕ) {s t : State} (h : execEnergyCutoff started s = .next t) (hz : s.Fits) : t.Fits :=
  fits_of (execEnergyCutoff_touches started h) (by decide) (by decide) hz

theorem execSaveSealProgrammed_fits {s t : State} (h : execSaveSealProgrammed s = .next t) (hz : s.Fits) : t.Fits :=
  fits_of (execSaveSealProgrammed_touches h) (by decide) (by decide) hz

theorem execSaveSealReadback_fits {s t : State} (h : execSaveSealReadback s = .next t) (hz : s.Fits) : t.Fits := by
  unfold execSaveSealReadback at h
  cases h
  with_reducible repeat' first
    | assumption | apply State.heldTest_fits | apply State.saveDone_fits | intro t ht | extract_lets

theorem execSaveBasinEntry_fits (refreshed : Bool) {s t : State} (h : execSaveBasinEntry refreshed s = .next t) (hz : s.Fits)
    : t.Fits :=
  fits_of (execSaveBasinEntry_touches refreshed h) (by decide) (by decide) hz

theorem execSelfTestDone_fits (pass : Bool) {s t : State} (h : execSelfTestDone pass s = .next t) (hz : s.Fits) : t.Fits :=
  fits_of (execSelfTestDone_touches pass h) (by decide) (by decide) hz

theorem execPowerReturn_fits {s t : State} (h : execPowerReturn s = .next t) (hz : s.Fits) : t.Fits := by
  unfold execPowerReturn at h
  cases h
  with_reducible repeat' first
    | assumption | apply State.powerReturn_fits | intro t ht | extract_lets

theorem execPowerLoss_fits (torn : Bool) {s t : State} (h : execPowerLoss torn s = .next t) (hz : s.Fits) : t.Fits := by
  unfold execPowerLoss at h
  cases h
  with_reducible repeat' first
    | assumption | apply State.powerLoss_fits | intro t ht | extract_lets

theorem execRailOutOfBand_fits (rail : ℕ) {s t : State} (h : execRailOutOfBand rail s = .next t) (hz : s.Fits) : t.Fits := by
  unfold execRailOutOfBand at h
  cases h
  with_reducible repeat' first
    | assumption | apply State.railOut_fits | intro t ht | extract_lets

theorem execDramRailFault_fits {s t : State} (h : execDramRailFault s = .next t) (hz : s.Fits) : t.Fits :=
  fits_of (execDramRailFault_touches h) (by decide) (by decide) hz

theorem execGpfPhase1_fits {s t : State} (h : execGpfPhase1 s = .next t) (hz : s.Fits) : t.Fits :=
  fits_of (execGpfPhase1_touches h) (by decide) (by decide) hz

theorem execGpfPhase2_fits {s t : State} (h : execGpfPhase2 s = .next t) (hz : s.Fits) : t.Fits :=
  fits_of (execGpfPhase2_touches h) (by decide) (by decide) hz

theorem execGpfPhase2Done_fits {s t : State} (h : execGpfPhase2Done s = .next t) (hz : s.Fits) : t.Fits :=
  fits_of (execGpfPhase2Done_touches h) (by decide) (by decide) hz

theorem execHoldRailReturn_fits {s t : State} (h : execHoldRailReturn s = .next t) (hz : s.Fits) : t.Fits :=
  fits_of (execHoldRailReturn_touches h) (by decide) (by decide) hz

theorem execDramTrainingDone_fits (fell : List ℕ) (lowered : Bool) (failed : List ℕ) {s t : State} (h : execDramTrainingDone
    fell lowered failed s = .next t) (hz : s.Fits) : t.Fits := by
  unfold execDramTrainingDone at h
  cases h
  with_reducible repeat' first
    | assumption | apply State.trainingDone_fits | intro t ht | extract_lets

theorem execImageDetectDone_fits (found : Found) {s t : State} (h : execImageDetectDone found s = .next t) (hz : s.Fits) :
    t.Fits := by
  unfold execImageDetectDone at h
  cases h
  with_reducible repeat' first
    | assumption | apply State.imageDetected_fits | intro t ht | extract_lets

theorem execMetadataLoadDone_fits {s t : State} (h : execMetadataLoadDone s = .next t) (hz : s.Fits) : t.Fits := by
  unfold execMetadataLoadDone at h
  cases h
  with_reducible repeat' first
    | assumption | apply State.loadEnded_fits | intro t ht | extract_lets

theorem execFaultInDone_fits (islet : ℕ) (us : ℕ) (rebuilt : ℕ) (lost : List ℕ) (late : Bool) {s t : State} (h :
    execFaultInDone islet us rebuilt lost late s = .next t) (hz : s.Fits) : t.Fits := by
  unfold execFaultInDone at h
  cases h
  with_reducible repeat' first
    | assumption | apply State.faultInDone_fits | intro t ht | extract_lets

theorem execRestoreIsletDone_fits (zero : Bool) (rebuilt : ℕ) (lost : List ℕ) {s t : State} (h : execRestoreIsletDone zero
    rebuilt lost s = .next t) (hz : s.Fits) : t.Fits := by
  unfold execRestoreIsletDone at h
  cases h
  with_reducible repeat' first
    | assumption | apply State.restoreNext_fits | intro t ht | extract_lets

theorem execWarmCheckDone_fits (good : Bool) {s t : State} (h : execWarmCheckDone good s = .next t) (hz : s.Fits) : t.Fits := by
  unfold execWarmCheckDone at h
  cases h
  with_reducible repeat' first
    | assumption | apply State.warmCheck_fits | intro t ht | extract_lets

theorem execCascadeWaitExpiry_fits {s t : State} (h : execCascadeWaitExpiry s = .next t) (hz : s.Fits) : t.Fits := by
  unfold execCascadeWaitExpiry at h
  cases h
  with_reducible repeat' first
    | assumption | apply State.cascadeWaitExpired_fits | intro t ht | extract_lets

theorem execFlashOpEnqueue_fits (c : ℕ) (o : FOp) {s t : State} (h : execFlashOpEnqueue c o s = .next t) (hz : s.Fits) :
    t.Fits :=
  fits_of (execFlashOpEnqueue_touches c o h) (by decide) (by decide) hz

theorem execResumeWindowExpiry_fits (c : ℕ) (d : ℕ) {s t : State} (h : execResumeWindowExpiry c d s = .next t) (hz : s.Fits) :
    t.Fits := by
  unfold execResumeWindowExpiry at h
  cases h
  with_reducible repeat' first
    | assumption | apply State.resumeExpired_fits | intro t ht | extract_lets

theorem execFlashReadDone_fits (c : ℕ) (d : ℕ) (plane : ℕ) (b : ℕ) (r : ReadEnd) (last : Bool) (scan : Bool) {s t : State} (h
    : execFlashReadDone c d plane b r last scan s = .next t) (hz : s.Fits) : t.Fits := by
  unfold execFlashReadDone at h
  cases h
  with_reducible repeat' first
    | assumption | apply State.readEnds_fits | intro t ht | extract_lets

theorem execFlashProgramDone_fits (c : ℕ) (d : ℕ) (good : Bool) (us : ℕ) {s t : State} (h : execFlashProgramDone c d good us s
    = .next t) (hz : s.Fits) : t.Fits := by
  unfold execFlashProgramDone at h
  cases h
  with_reducible repeat' first
    | assumption | apply State.programEnds_fits | intro t ht | extract_lets

theorem execFlashEraseDone_fits (c : ℕ) (d : ℕ) (e : EraseEnd) {s t : State} (h : execFlashEraseDone c d e s = .next t) (hz :
    s.Fits) : t.Fits := by
  unfold execFlashEraseDone at h
  cases h
  with_reducible repeat' first
    | assumption | apply State.eraseEnds_fits | intro t ht | extract_lets

theorem execDieReadyTimeout_fits (c : ℕ) (d : ℕ) (late : Bool) {s t : State} (h : execDieReadyTimeout c d late s = .next t)
    (hz : s.Fits) : t.Fits := by
  unfold execDieReadyTimeout at h
  cases h
  with_reducible repeat' first
    | assumption | apply State.dieTimeout_fits | intro t ht | extract_lets

theorem execFchRetrain_fits (p : Port) (c : ℕ) {s t : State} (h : execFchRetrain p c s = .next t) (hz : s.Fits) : t.Fits := by
  unfold execFchRetrain at h
  cases h
  with_reducible repeat' first
    | assumption | apply State.portBits_fits | intro t ht | extract_lets

theorem execFlashChannelTrained_fits (c : ℕ) (good : Bool) (found : List (Option DieFound)) {s t : State} (h :
    execFlashChannelTrained c good found s = .next t) (hz : s.Fits) : t.Fits := by
  unfold execFlashChannelTrained at h
  cases h
  with_reducible repeat' first
    | assumption | apply State.channelTrained_fits | intro t ht | extract_lets

theorem execFarrQBlock_fits (p : Port) (query : Word) {s t : State} (h : execFarrQBlock p query s = .next t) (hz : s.Fits) :
    t.Fits := by
  unfold execFarrQBlock at h
  cases h
  with_reducible repeat' first
    | assumption | apply State.portWord_fits | intro t ht | extract_lets

theorem execBlockLookupDone_fits {s t : State} (h : execBlockLookupDone s = .next t) (hz : s.Fits) : t.Fits :=
  fits_of (execBlockLookupDone_touches h) (by decide) (by decide) hz

theorem execMovStart_fits (p : Port) (c : ℕ) {s t : State} (h : execMovStart p c s = .next t) (hz : s.Fits) : t.Fits := by
  unfold execMovStart at h
  cases h
  with_reducible repeat' first
    | assumption | apply State.portWord_fits | intro t ht | extract_lets

theorem execMovAbort_fits (p : Port) (c : ℕ) {s t : State} (h : execMovAbort p c s = .next t) (hz : s.Fits) : t.Fits := by
  unfold execMovAbort at h
  cases h
  with_reducible repeat' first
    | assumption | apply State.portWord_fits | intro t ht | extract_lets

theorem execMove_fits (c : ℕ) {s t : State} (h : execMove c s = .next t) (hz : s.Fits) : t.Fits :=
  fits_of (execMove_touches c h) (by decide) (by decide) hz

theorem execSpread_fits (c : ℕ) {s t : State} (h : execSpread c s = .next t) (hz : s.Fits) : t.Fits :=
  fits_of (execSpread_touches c h) (by decide) (by decide) hz

theorem execLoop_fits (c : ℕ) {s t : State} (h : execLoop c s = .next t) (hz : s.Fits) : t.Fits :=
  fits_of (execLoop_touches c h) (by decide) (by decide) hz

theorem execWait_fits (c : ℕ) {s t : State} (h : execWait c s = .next t) (hz : s.Fits) : t.Fits :=
  fits_of (execWait_touches c h) (by decide) (by decide) hz

theorem execSignal_fits (c : ℕ) (cycle : ℕ) {s t : State} (h : execSignal c cycle s = .next t) (hz : s.Fits) : t.Fits :=
  fits_of (execSignal_touches c cycle h) (by decide) (by decide) hz

theorem execHalt_fits (c : ℕ) (cycle : ℕ) {s t : State} (h : execHalt c cycle s = .next t) (hz : s.Fits) : t.Fits :=
  fits_of (execHalt_touches c cycle h) (by decide) (by decide) hz

theorem execNop_fits (c : ℕ) {s t : State} (h : execNop c s = .next t) (hz : s.Fits) : t.Fits :=
  fits_of (execNop_touches c h) (by decide) (by decide) hz

theorem execIllegal_fits (c : ℕ) (cycle : ℕ) {s t : State} (h : execIllegal c cycle s = .next t) (hz : s.Fits) : t.Fits := by
  unfold execIllegal at h
  cases h
  with_reducible repeat' first
    | assumption | apply State.movIllegal_fits | intro t ht | extract_lets

theorem execPcRange_fits (c : ℕ) (cycle : ℕ) {s t : State} (h : execPcRange c cycle s = .next t) (hz : s.Fits) : t.Fits := by
  unfold execPcRange at h
  cases h
  with_reducible repeat' first
    | assumption | apply State.movPcRange_fits | intro t ht | extract_lets

theorem execPmUe_fits (c : ℕ) (cycle : ℕ) {s t : State} (h : execPmUe c cycle s = .next t) (hz : s.Fits) : t.Fits := by
  unfold execPmUe at h
  cases h
  with_reducible repeat' first
    | assumption | apply State.movPmUe_fits | intro t ht | extract_lets

theorem execMoverTransferDone_fits (c : ℕ) (hit : Option ℕ) (why : ℕ) {s t : State} (h : execMoverTransferDone c hit why s =
    .next t) (hz : s.Fits) : t.Fits := by
  unfold execMoverTransferDone at h
  cases h
  with_reducible repeat' first
    | assumption | apply State.transferDone_fits | intro t ht | extract_lets

theorem execWaitEnd_fits (c : ℕ) {s t : State} (h : execWaitEnd c s = .next t) (hz : s.Fits) : t.Fits :=
  fits_of (execWaitEnd_touches c h) (by decide) (by decide) hz

theorem execWaitTimeout_fits (c : ℕ) (cycle : ℕ) {s t : State} (h : execWaitTimeout c cycle s = .next t) (hz : s.Fits) :
    t.Fits := by
  unfold execWaitTimeout at h
  cases h
  with_reducible repeat' first
    | assumption | apply State.waitTimeout_fits | intro t ht | extract_lets

theorem execPmDataHiWrite_fits (p : Port) (hi : Word) {s t : State} (h : execPmDataHiWrite p hi s = .next t) (hz : s.Fits) :
    t.Fits := by
  unfold execPmDataHiWrite at h
  cases h
  with_reducible repeat' first
    | assumption | apply State.portWord_fits | intro t ht | extract_lets

theorem execPmDataLoRead_fits (p : Port) {s t : State} (h : execPmDataLoRead p s = .next t) (hz : s.Fits) : t.Fits := by
  unfold execPmDataLoRead at h
  cases h
  with_reducible repeat' first
    | assumption | apply State.portRead_fits | intro t ht | extract_lets

theorem execPmDataHiRead_fits (p : Port) {s t : State} (h : execPmDataHiRead p s = .next t) (hz : s.Fits) : t.Fits := by
  unfold execPmDataHiRead at h
  cases h
  with_reducible repeat' first
    | assumption | apply State.portRead_fits | intro t ht | extract_lets

theorem execCollectorDrain_fits (cycle : ℕ) {s t : State} (h : execCollectorDrain cycle s = .next t) (hz : s.Fits) : t.Fits :=
  fits_of (execCollectorDrain_touches cycle h) (by decide) (by decide) hz

theorem execMvgCpop_fits (p : Port) {s t : State} (h : execMvgCpop p s = .next t) (hz : s.Fits) : t.Fits := by
  unfold execMvgCpop at h
  cases h
  with_reducible repeat' first
    | assumption | apply State.portWord_fits | intro t ht | extract_lets

theorem execDramReadDone_fits (line : ℕ) (r : Requester) (o : ReadOutcome) (record : ℕ) {s t : State} (h : execDramReadDone
    line r o record s = .next t) (hz : s.Fits) : t.Fits := by
  unfold execDramReadDone at h
  cases h
  with_reducible repeat' first
    | assumption | apply State.dramReadDone_fits | intro t ht | extract_lets

theorem execRepairWrite_fits (line : ℕ) {s t : State} (h : execRepairWrite line s = .next t) (hz : s.Fits) : t.Fits :=
  fits_of (execRepairWrite_touches line h) (by decide) (by decide) hz

theorem execRefreshDue_fits (sc : ℕ) (lrank : ℕ) (queued : Bool) {s t : State} (h : execRefreshDue sc lrank queued s = .next
    t) (hz : s.Fits) : t.Fits :=
  fits_of (execRefreshDue_touches sc lrank queued h) (by decide) (by decide) hz

theorem execMr4Poll_fits (d : ℕ) (doubled : Bool) {s t : State} (h : execMr4Poll d doubled s = .next t) (hz : s.Fits) : t.Fits
    :=
  fits_of (execMr4Poll_touches d doubled h) (by decide) (by decide) hz

theorem execRankPowerDown_fits (d : ℕ) (r : ℕ) (late : Bool) {s t : State} (h : execRankPowerDown d r late s = .next t) (hz :
    s.Fits) : t.Fits :=
  fits_of (execRankPowerDown_touches d r late h) (by decide) (by decide) hz

theorem execRowIdleClose_fits (bank : ℕ) {s t : State} (h : execRowIdleClose bank s = .next t) (hz : s.Fits) : t.Fits :=
  fits_of (execRowIdleClose_touches bank h) (by decide) (by decide) hz

theorem execCaParityAlert_fits (sc : ℕ) {s t : State} (h : execCaParityAlert sc s = .next t) (hz : s.Fits) : t.Fits := by
  unfold execCaParityAlert at h
  cases h
  with_reducible repeat' first
    | assumption | apply State.caAlert_fits | intro t ht | extract_lets

theorem execCaAlertClear_fits (sc : ℕ) {s t : State} (h : execCaAlertClear sc s = .next t) (hz : s.Fits) : t.Fits :=
  fits_of (execCaAlertClear_touches sc h) (by decide) (by decide) hz

theorem execInPlaceRetrainDone_fits (sc : ℕ) (margin : Bool) {s t : State} (h : execInPlaceRetrainDone sc margin s = .next t)
    (hz : s.Fits) : t.Fits :=
  fits_of (execInPlaceRetrainDone_touches sc margin h) (by decide) (by decide) hz

theorem execDtrnGo_fits (p : Port) {s t : State} (h : execDtrnGo p s = .next t) (hz : s.Fits) : t.Fits := by
  unfold execDtrnGo at h
  cases h
  with_reducible repeat' first
    | assumption | apply State.portBits_fits | intro t ht | extract_lets

theorem execDtrnStop_fits (p : Port) {s t : State} (h : execDtrnStop p s = .next t) (hz : s.Fits) : t.Fits := by
  unfold execDtrnStop at h
  cases h
  with_reducible repeat' first
    | assumption | apply State.portBits_fits | intro t ht | extract_lets

theorem execDtrnDone_fits (lanes : ℕ) (mismatches : ℕ) {s t : State} (h : execDtrnDone lanes mismatches s = .next t) (hz :
    s.Fits) : t.Fits :=
  fits_of (execDtrnDone_touches lanes mismatches h) (by decide) (by decide) hz

theorem execPerstAssert_fits {s t : State} (h : execPerstAssert s = .next t) (hz : s.Fits) : t.Fits := by
  unfold execPerstAssert at h
  cases h
  with_reducible repeat' first
    | assumption | apply State.perstAssert_fits | intro t ht | extract_lets

theorem execPerstRelease_fits {s t : State} (h : execPerstRelease s = .next t) (hz : s.Fits) : t.Fits :=
  fits_of (execPerstRelease_touches h) (by decide) (by decide) hz

theorem execLinkUp_fits (rate : ℕ) (flit256 : Bool) (lanes : List LaneEnd) {s t : State} (h : execLinkUp rate flit256 lanes s
    = .next t) (hz : s.Fits) : t.Fits :=
  fits_of (execLinkUp_touches rate flit256 lanes h) (by decide) (by decide) hz

theorem execLinkDown_fits {s t : State} (h : execLinkDown s = .next t) (hz : s.Fits) : t.Fits :=
  fits_of (execLinkDown_touches h) (by decide) (by decide) hz

theorem execLinkFail_fits {s t : State} (h : execLinkFail s = .next t) (hz : s.Fits) : t.Fits := by
  unfold execLinkFail at h
  cases h
  with_reducible repeat' first
    | assumption | apply State.linkFail_fits | intro t ht | extract_lets

theorem execL1Exit_fits {s t : State} (h : execL1Exit s = .next t) (hz : s.Fits) : t.Fits :=
  fits_of (execL1Exit_touches h) (by decide) (by decide) hz

theorem execConfigRequest_fits (q : CfgReq) {s t : State} (h : execConfigRequest q s = .next t) (hz : s.Fits) : t.Fits :=
  fits_of (execConfigRequest_touches q h) (by decide) (by decide) hz

theorem execCreditStall_fits {s t : State} (h : execCreditStall s = .next t) (hz : s.Fits) : t.Fits := by
  unfold execCreditStall at h
  cases h
  with_reducible repeat' first
    | assumption | apply State.creditStall_fits | intro t ht | extract_lets

theorem execDecoderCommit_fits (n : ℕ) (base : ℕ) (size : ℕ) (dpa : ℕ) (iw : ℕ) (ig : ℕ) {s t : State} (h : execDecoderCommit
    n base size dpa iw ig s = .next t) (hz : s.Fits) : t.Fits :=
  fits_of (execDecoderCommit_touches n base size dpa iw ig h) (by decide) (by decide) hz

theorem execMemEnable_fits {s t : State} (h : execMemEnable s = .next t) (hz : s.Fits) : t.Fits :=
  fits_of (execMemEnable_touches h) (by decide) (by decide) hz

theorem execLinkRecovery_fits (errors : List (ℕ × ℕ)) (down : Option (ℕ × List LaneEnd)) {s t : State} (h : execLinkRecovery
    errors down s = .next t) (hz : s.Fits) : t.Fits := by
  unfold execLinkRecovery at h
  cases h
  with_reducible repeat' first
    | assumption | apply State.linkRecovery_fits | intro t ht | extract_lets

theorem execL1Entry_fits {s t : State} (h : execL1Entry s = .next t) (hz : s.Fits) : t.Fits :=
  fits_of (execL1Entry_touches h) (by decide) (by decide) hz

theorem execHotReset_fits {s t : State} (h : execHotReset s = .next t) (hz : s.Fits) : t.Fits := by
  unfold execHotReset at h
  cases h
  with_reducible repeat' first
    | assumption | apply State.hotReset_fits | intro t ht | extract_lets

theorem execGetEventRecords_fits (log : ℕ) {s t : State} (h : execGetEventRecords log s = .next t) (hz : s.Fits) : t.Fits :=
  fits_of (execGetEventRecords_touches log h) (by decide) (by decide) hz

theorem execClearEventRecords_fits (log : ℕ) (every : Bool) (handles : List ℕ) {s t : State} (h : execClearEventRecords log
    every handles s = .next t) (hz : s.Fits) : t.Fits :=
  fits_of (execClearEventRecords_touches log every handles h) (by decide) (by decide) hz

theorem execGetEventInterruptPolicy_fits {s t : State} (h : execGetEventInterruptPolicy s = .next t) (hz : s.Fits) : t.Fits :=
  fits_of (execGetEventInterruptPolicy_touches h) (by decide) (by decide) hz

theorem execSetEventInterruptPolicy_fits (modes : List ℕ) {s t : State} (h : execSetEventInterruptPolicy modes s = .next t)
    (hz : s.Fits) : t.Fits :=
  fits_of (execSetEventInterruptPolicy_touches modes h) (by decide) (by decide) hz

theorem execGetFwInfo_fits {s t : State} (h : execGetFwInfo s = .next t) (hz : s.Fits) : t.Fits :=
  fits_of (execGetFwInfo_touches h) (by decide) (by decide) hz

theorem execUnsupportedCommand_fits {s t : State} (h : execUnsupportedCommand s = .next t) (hz : s.Fits) : t.Fits :=
  fits_of (execUnsupportedCommand_touches h) (by decide) (by decide) hz

theorem execGetTimestamp_fits {s t : State} (h : execGetTimestamp s = .next t) (hz : s.Fits) : t.Fits :=
  fits_of (execGetTimestamp_touches h) (by decide) (by decide) hz

theorem execSetTimestamp_fits (ns : ℕ) {s t : State} (h : execSetTimestamp ns s = .next t) (hz : s.Fits) : t.Fits :=
  fits_of (execSetTimestamp_touches ns h) (by decide) (by decide) hz

theorem execGetSupportedLogs_fits {s t : State} (h : execGetSupportedLogs s = .next t) (hz : s.Fits) : t.Fits :=
  fits_of (execGetSupportedLogs_touches h) (by decide) (by decide) hz

theorem execGetLog_fits (uuid : List (BitVec 8)) (offset : ℕ) (length : ℕ) {s t : State} (h : execGetLog uuid offset length s
    = .next t) (hz : s.Fits) : t.Fits :=
  fits_of (execGetLog_touches uuid offset length h) (by decide) (by decide) hz

theorem execIdentifyMemoryDevice_fits {s t : State} (h : execIdentifyMemoryDevice s = .next t) (hz : s.Fits) : t.Fits :=
  fits_of (execIdentifyMemoryDevice_touches h) (by decide) (by decide) hz

theorem execGetHealthInfo_fits {s t : State} (h : execGetHealthInfo s = .next t) (hz : s.Fits) : t.Fits :=
  fits_of (execGetHealthInfo_touches h) (by decide) (by decide) hz

theorem execGetAlertConfig_fits {s t : State} (h : execGetAlertConfig s = .next t) (hz : s.Fits) : t.Fits :=
  fits_of (execGetAlertConfig_touches h) (by decide) (by decide) hz

theorem execSetAlertConfig_fits (config : List (BitVec 8)) {s t : State} (h : execSetAlertConfig config s = .next t) (hz :
    s.Fits) : t.Fits :=
  fits_of (execSetAlertConfig_touches config h) (by decide) (by decide) hz

theorem execGetShutdownState_fits {s t : State} (h : execGetShutdownState s = .next t) (hz : s.Fits) : t.Fits :=
  fits_of (execGetShutdownState_touches h) (by decide) (by decide) hz

theorem execSetShutdownState_fits (v : ℕ) {s t : State} (h : execSetShutdownState v s = .next t) (hz : s.Fits) : t.Fits :=
  fits_of (execSetShutdownState_touches v h) (by decide) (by decide) hz

theorem execGetPoisonList_fits (dpa : ℕ) (length : ℕ) {s t : State} (h : execGetPoisonList dpa length s = .next t) (hz :
    s.Fits) : t.Fits :=
  fits_of (execGetPoisonList_touches dpa length h) (by decide) (by decide) hz

theorem execInjectPoison_fits (dpa : ℕ) {s t : State} (h : execInjectPoison dpa s = .next t) (hz : s.Fits) : t.Fits := by
  unfold execInjectPoison at h
  cases h
  with_reducible repeat' first
    | assumption | apply State.mailbox_fits | apply State.injectPoison_fits | intro t ht | extract_lets

theorem execClearPoison_fits (dpa : ℕ) (data : LineData) {s t : State} (h : execClearPoison dpa data s = .next t) (hz :
    s.Fits) : t.Fits := by
  unfold execClearPoison at h
  cases h
  with_reducible repeat' first
    | assumption | apply State.mailbox_fits | apply State.clearPoison_fits | intro t ht | extract_lets

theorem execSanitize_fits {s t : State} (h : execSanitize s = .next t) (hz : s.Fits) : t.Fits :=
  fits_of (execSanitize_touches h) (by decide) (by decide) hz

theorem execSanitizeDone_fits {s t : State} (h : execSanitizeDone s = .next t) (hz : s.Fits) : t.Fits := by
  unfold execSanitizeDone at h
  cases h
  with_reducible repeat' first
    | assumption | apply State.sanitizeDone_fits | intro t ht | extract_lets

theorem execBarrierPost_fits (tag : ℕ) {s t : State} (h : execBarrierPost tag s = .next t) (hz : s.Fits) : t.Fits := by
  unfold execBarrierPost at h
  cases h
  with_reducible repeat' first
    | assumption | apply State.mailbox_fits | apply State.barrierPost_fits | intro t ht | extract_lets

theorem execBarrierStatus_fits (seq : ℕ) {s t : State} (h : execBarrierStatus seq s = .next t) (hz : s.Fits) : t.Fits :=
  fits_of (execBarrierStatus_touches seq h) (by decide) (by decide) hz

theorem execBudgetQuery_fits {s t : State} (h : execBudgetQuery s = .next t) (hz : s.Fits) : t.Fits :=
  fits_of (execBudgetQuery_touches h) (by decide) (by decide) hz

theorem execImageStatus_fits {s t : State} (h : execImageStatus s = .next t) (hz : s.Fits) : t.Fits :=
  fits_of (execImageStatus_touches h) (by decide) (by decide) hz

theorem execCascadeStatus_fits {s t : State} (h : execCascadeStatus s = .next t) (hz : s.Fits) : t.Fits :=
  fits_of (execCascadeStatus_touches h) (by decide) (by decide) hz

theorem execFormatArray_fits (confirm : ℕ) (flags : ℕ) (tag : ℕ) (size : ℕ) {s t : State} (h : execFormatArray confirm flags
    tag size s = .next t) (hz : s.Fits) : t.Fits :=
  fits_of (execFormatArray_touches confirm flags tag size h) (by decide) (by decide) hz

theorem execFormatArrayDone_fits {s t : State} (h : execFormatArrayDone s = .next t) (hz : s.Fits) : t.Fits := by
  unfold execFormatArrayDone at h
  cases h
  with_reducible repeat' first
    | assumption | apply State.formatDone_fits | intro t ht | extract_lets

theorem execKeyImportBegin_fits {s t : State} (h : execKeyImportBegin s = .next t) (hz : s.Fits) : t.Fits :=
  fits_of (execKeyImportBegin_touches h) (by decide) (by decide) hz

theorem execKeyExport_fits (slot : ℕ) (receiver : ℕ) {s t : State} (h : execKeyExport slot receiver s = .next t) (hz : s.Fits)
    : t.Fits :=
  fits_of (execKeyExport_touches slot receiver h) (by decide) (by decide) hz

theorem execKeyImport_fits (sender : ℕ) (keyId : ℕ) (wrapped : ℕ) {s t : State} (h : execKeyImport sender keyId wrapped s =
    .next t) (hz : s.Fits) : t.Fits :=
  fits_of (execKeyImport_touches sender keyId wrapped h) (by decide) (by decide) hz

theorem execRefLoss_fits {s t : State} (h : execRefLoss s = .next t) (hz : s.Fits) : t.Fits := by
  unfold execRefLoss at h
  cases h
  with_reducible repeat' first
    | assumption | apply State.refLoss_fits | intro t ht | extract_lets

theorem execRefBack_fits (ppm : ℕ) {s t : State} (h : execRefBack ppm s = .next t) (hz : s.Fits) : t.Fits :=
  fits_of (execRefBack_touches ppm h) (by decide) (by decide) hz

theorem execAonClkLoss_fits {s t : State} (h : execAonClkLoss s = .next t) (hz : s.Fits) : t.Fits := by
  unfold execAonClkLoss at h
  cases h
  with_reducible repeat' first
    | assumption | apply State.aonLoss_fits | intro t ht | extract_lets

theorem execPllLock_fits (k : ℕ) {s t : State} (h : execPllLock k s = .next t) (hz : s.Fits) : t.Fits :=
  fits_of (execPllLock_touches k h) (by decide) (by decide) hz

theorem execPllUnlock_fits (k : ℕ) {s t : State} (h : execPllUnlock k s = .next t) (hz : s.Fits) : t.Fits := by
  unfold execPllUnlock at h
  cases h
  with_reducible repeat' first
    | assumption | apply State.pllUnlock_fits | intro t ht | extract_lets

theorem execPowerOnReset_fits (retries : Option ℕ) {s t : State} (h : execPowerOnReset retries s = .next t) (hz : s.Fits) :
    t.Fits := by
  unfold execPowerOnReset at h
  cases h
  with_reducible repeat' first
    | assumption | apply State.powerOn_fits | intro t ht | extract_lets

theorem execBootImageVerified_fits (active : ℕ) (other : ℕ) {s t : State} (h : execBootImageVerified active other s = .next t)
    (hz : s.Fits) : t.Fits := by
  unfold execBootImageVerified at h
  cases h
  with_reducible repeat' first
    | assumption | apply State.bootVerified_fits | intro t ht | extract_lets

theorem execConfigurationDone_fits (ver : ℕ) (kinds : ℕ) {s t : State} (h : execConfigurationDone ver kinds s = .next t) (hz :
    s.Fits) : t.Fits :=
  fits_of (execConfigurationDone_touches ver kinds h) (by decide) (by decide) hz

theorem execRstKey_fits (p : Port) (key : Word) {s t : State} (h : execRstKey p key s = .next t) (hz : s.Fits) : t.Fits := by
  unfold execRstKey at h
  cases h
  with_reducible repeat' first
    | assumption | apply State.portWord_fits | intro t ht | extract_lets

theorem execDevRst_fits (p : Port) {s t : State} (h : execDevRst p s = .next t) (hz : s.Fits) : t.Fits := by
  unfold execDevRst at h
  cases h
  with_reducible repeat' first
    | assumption | apply State.portBits_fits | intro t ht | extract_lets

theorem execQuiesceDone_fits (refreshed : Bool) (stored : Bool) {s t : State} (h : execQuiesceDone refreshed stored s = .next
    t) (hz : s.Fits) : t.Fits := by
  unfold execQuiesceDone at h
  cases h
  with_reducible repeat' first
    | assumption | apply State.quiesceDone_fits | intro t ht | extract_lets

theorem execResetHoldRelease_fits {s t : State} (h : execResetHoldRelease s = .next t) (hz : s.Fits) : t.Fits := by
  unfold execResetHoldRelease at h
  cases h
  with_reducible repeat' first
    | assumption | apply State.releaseHeld_fits | intro t ht | extract_lets

theorem execRecoverySample_fits (first : Bool) (second : Bool) {s t : State} (h : execRecoverySample first second s = .next t)
    (hz : s.Fits) : t.Fits :=
  fits_of (execRecoverySample_touches first second h) (by decide) (by decide) hz

theorem execFaultDetect_fits (page : ℕ) (src : ℕ) (kind : ℕ) (addr : ℕ) (cycle : ℕ) (place : ℕ) (alt : Bool) {s t : State} (h
    : execFaultDetect page src kind addr cycle place alt s = .next t) (hz : s.Fits) : t.Fits := by
  unfold execFaultDetect at h
  cases h
  with_reducible repeat' first
    | assumption | apply State.detectFault_fits | intro t ht | extract_lets

theorem execFaultRecord_fits {s t : State} (h : execFaultRecord s = .next t) (hz : s.Fits) : t.Fits :=
  fits_of (execFaultRecord_touches h) (by decide) (by decide) hz

theorem execBlockResetDone_fits (w : ScopeOf) (late : Bool) {s t : State} (h : execBlockResetDone w late s = .next t) (hz :
    s.Fits) : t.Fits :=
  fits_of (execBlockResetDone_touches w late h) (by decide) (by decide) hz

theorem execResetOverrun_fits (b : ℕ) {s t : State} (h : execResetOverrun b s = .next t) (hz : s.Fits) : t.Fits := by
  unfold execResetOverrun at h
  cases h
  with_reducible repeat' first
    | assumption | apply State.resetOverrun_fits | intro t ht | extract_lets

theorem execResetStuck_fits (d : ℕ) {s t : State} (h : execResetStuck d s = .next t) (hz : s.Fits) : t.Fits := by
  unfold execResetStuck at h
  cases h
  with_reducible repeat' first
    | assumption | apply State.resetStuck_fits | intro t ht | extract_lets

theorem execResetShadowEnd_fits (w : ScopeOf) (us : ℕ) {s t : State} (h : execResetShadowEnd w us s = .next t) (hz : s.Fits) :
    t.Fits := by
  unfold execResetShadowEnd at h
  cases h
  with_reducible repeat' first
    | assumption | apply State.endShadow_fits | intro t ht | extract_lets

theorem execTickStall_fits {s t : State} (h : execTickStall s = .next t) (hz : s.Fits) : t.Fits := by
  unfold execTickStall at h
  cases h
  with_reducible repeat' first
    | assumption | apply State.tickStall_fits | intro t ht | extract_lets

theorem execGlenWdog_fits (k : ℕ) (cycle : ℕ) {s t : State} (h : execGlenWdog k cycle s = .next t) (hz : s.Fits) : t.Fits := by
  unfold execGlenWdog at h
  cases h
  with_reducible repeat' first
    | assumption | apply State.glenWdog_fits | intro t ht | extract_lets

theorem execGlenRestartDone_fits (k : ℕ) (us : ℕ) {s t : State} (h : execGlenRestartDone k us s = .next t) (hz : s.Fits) :
    t.Fits :=
  fits_of (execGlenRestartDone_touches k us h) (by decide) (by decide) hz

theorem execFltPop_fits (p : Port) {s t : State} (h : execFltPop p s = .next t) (hz : s.Fits) : t.Fits := by
  unfold execFltPop at h
  cases h
  with_reducible repeat' first
    | assumption | apply State.portWord_fits | intro t ht | extract_lets

theorem execFltFirstClr_fits (p : Port) {s t : State} (h : execFltFirstClr p s = .next t) (hz : s.Fits) : t.Fits := by
  unfold execFltFirstClr at h
  cases h
  with_reducible repeat' first
    | assumption | apply State.portWord_fits | intro t ht | extract_lets

theorem execRecEvent_fits (b : ℕ) (code : ℕ) (coincident : Bool) (detail : List Word) {s t : State} (h : execRecEvent b code
    coincident detail s = .next t) (hz : s.Fits) : t.Fits :=
  fits_of (execRecEvent_touches b code coincident detail h) (by decide) (by decide) hz

theorem execHoursNote_fits {s t : State} (h : execHoursNote s = .next t) (hz : s.Fits) : t.Fits :=
  fits_of (execHoursNote_touches h) (by decide) (by decide) hz

theorem execFlush_fits (p : Port) {s t : State} (h : execFlush p s = .next t) (hz : s.Fits) : t.Fits := by
  unfold execFlush at h
  cases h
  with_reducible repeat' first
    | assumption | apply State.portBits_fits | intro t ht | extract_lets

theorem execFlushDone_fits (failed : List ℕ) {s t : State} (h : execFlushDone failed s = .next t) (hz : s.Fits) : t.Fits := by
  unfold execFlushDone at h
  cases h
  with_reducible repeat' first
    | assumption | apply State.flushDone_fits | intro t ht | extract_lets

theorem execFreeze_fits (p : Port) (on : Bool) {s t : State} (h : execFreeze p on s = .next t) (hz : s.Fits) : t.Fits := by
  unfold execFreeze at h
  cases h
  with_reducible repeat' first
    | assumption | apply State.portBits_fits | intro t ht | extract_lets

theorem execFreezeTimeout_fits {s t : State} (h : execFreezeTimeout s = .next t) (hz : s.Fits) : t.Fits :=
  fits_of (execFreezeTimeout_touches h) (by decide) (by decide) hz

theorem execRecRdSeq_fits (p : Port) (rseq : Word) {s t : State} (h : execRecRdSeq p rseq s = .next t) (hz : s.Fits) : t.Fits
    := by
  unfold execRecRdSeq at h
  cases h
  with_reducible repeat' first
    | assumption | apply State.portWord_fits | intro t ht | extract_lets

theorem execRecReadDone_fits (p : Port) (bad : Bool) (early : Bool) {s t : State} (h : execRecReadDone p bad early s = .next
    t) (hz : s.Fits) : t.Fits :=
  fits_of (execRecReadDone_touches p bad early h) (by decide) (by decide) hz

theorem execAtolProgram_fits (p : Port) {s t : State} (h : execAtolProgram p s = .next t) (hz : s.Fits) : t.Fits := by
  unfold execAtolProgram at h
  cases h
  with_reducible repeat' first
    | assumption | apply State.portWord_fits | intro t ht | extract_lets

theorem execAtolErase_fits (p : Port) {s t : State} (h : execAtolErase p s = .next t) (hz : s.Fits) : t.Fits := by
  unfold execAtolErase at h
  cases h
  with_reducible repeat' first
    | assumption | apply State.portWord_fits | intro t ht | extract_lets

theorem execAtolHalt_fits (p : Port) {s t : State} (h : execAtolHalt p s = .next t) (hz : s.Fits) : t.Fits := by
  unfold execAtolHalt at h
  cases h
  with_reducible repeat' first
    | assumption | apply State.portWord_fits | intro t ht | extract_lets

theorem execAtolContinue_fits (p : Port) {s t : State} (h : execAtolContinue p s = .next t) (hz : s.Fits) : t.Fits := by
  unfold execAtolContinue at h
  cases h
  with_reducible repeat' first
    | assumption | apply State.portWord_fits | intro t ht | extract_lets

theorem execAtolStatus_fits (p : Port) {s t : State} (h : execAtolStatus p s = .next t) (hz : s.Fits) : t.Fits := by
  unfold execAtolStatus at h
  cases h
  with_reducible repeat' first
    | assumption | apply State.portWord_fits | intro t ht | extract_lets

theorem execAtolCounts_fits (p : Port) {s t : State} (h : execAtolCounts p s = .next t) (hz : s.Fits) : t.Fits := by
  unfold execAtolCounts at h
  cases h
  with_reducible repeat' first
    | assumption | apply State.portWord_fits | apply State.beginCmd_fits | apply fits_ite | intro t ht | extract_lets

theorem execAtolFlip_fits (p : Port) {s t : State} (h : execAtolFlip p s = .next t) (hz : s.Fits) : t.Fits := by
  unfold execAtolFlip at h
  cases h
  with_reducible repeat' first
    | assumption | apply State.portWord_fits | intro t ht | extract_lets

theorem execAtolProtect_fits (p : Port) (lvl : ℕ) {s t : State} (h : execAtolProtect p lvl s = .next t) (hz : s.Fits) : t.Fits
    := by
  unfold execAtolProtect at h
  cases h
  with_reducible repeat' first
    | assumption | apply State.portWord_fits | intro t ht | extract_lets

theorem execAtolIdle_fits (p : Port) {s t : State} (h : execAtolIdle p s = .next t) (hz : s.Fits) : t.Fits := by
  unfold execAtolIdle at h
  cases h
  with_reducible repeat' first
    | assumption | apply State.portWord_fits | intro t ht | extract_lets

theorem execAtolWindowData_fits (p : Port) (offset : ℕ) (data : Word) (late : Bool) {s t : State} (h : execAtolWindowData p
    offset data late s = .next t) (hz : s.Fits) : t.Fits := by
  unfold execAtolWindowData at h
  cases h
  with_reducible repeat' first
    | assumption | apply State.windowData_fits | intro t ht | extract_lets

theorem execAtolWindowRead_fits (p : Port) (offset : ℕ) (cbits : ℕ) (ue : Bool) {s t : State} (h : execAtolWindowRead p offset
    cbits ue s = .next t) (hz : s.Fits) : t.Fits := by
  unfold execAtolWindowRead at h
  cases h
  with_reducible repeat' first
    | assumption | apply State.windowRead_fits | intro t ht | extract_lets

theorem execAtolSeqTimeout_fits (p : Port) {s t : State} (h : execAtolSeqTimeout p s = .next t) (hz : s.Fits) : t.Fits :=
  fits_of (execAtolSeqTimeout_touches p h) (by decide) (by decide) hz

theorem execAtolProgramDone_fits (pulses : ℕ) (good : Bool) {s t : State} (h : execAtolProgramDone pulses good s = .next t)
    (hz : s.Fits) : t.Fits := by
  unfold execAtolProgramDone at h
  cases h
  with_reducible repeat' first
    | assumption | apply State.atolProgramDone_fits | intro t ht | extract_lets

theorem execAtolEraseDone_fits (good : Bool) {s t : State} (h : execAtolEraseDone good s = .next t) (hz : s.Fits) : t.Fits := by
  unfold execAtolEraseDone at h
  cases h
  with_reducible repeat' first
    | assumption | apply State.atolEraseDone_fits | intro t ht | extract_lets

theorem execWipeDone_fits {s t : State} (h : execWipeDone s = .next t) (hz : s.Fits) : t.Fits := by
  unfold execWipeDone at h
  cases h
  with_reducible repeat' first
    | assumption | apply State.wipeDone_fits | intro t ht | extract_lets

theorem execPollDue_fits (n : ℕ) {s t : State} (h : execPollDue n s = .next t) (hz : s.Fits) : t.Fits :=
  fits_of (execPollDue_touches n h) (by decide) (by decide) hz

theorem execTwlTransactionStart_fits {s t : State} (h : execTwlTransactionStart s = .next t) (hz : s.Fits) : t.Fits :=
  fits_of (execTwlTransactionStart_touches h) (by decide) (by decide) hz

theorem execTwlTransactionDone_fits (e : TwlEnd) {s t : State} (h : execTwlTransactionDone e s = .next t) (hz : s.Fits) :
    t.Fits := by
  unfold execTwlTransactionDone at h
  cases h
  with_reducible repeat' first
    | assumption | apply State.twlDone_fits | intro t ht | extract_lets

theorem execTwlTimeout_fits (stuck : Bool) {s t : State} (h : execTwlTimeout stuck s = .next t) (hz : s.Fits) : t.Fits := by
  unfold execTwlTimeout at h
  cases h
  with_reducible repeat' first
    | assumption | apply State.twlTimeout_fits | intro t ht | extract_lets

theorem execBusStuckRetry_fits (freed : Bool) {s t : State} (h : execBusStuckRetry freed s = .next t) (hz : s.Fits) : t.Fits
    :=
  fits_of (execBusStuckRetry_touches freed h) (by decide) (by decide) hz

theorem execHostNotify_fits (addr : ℕ) (status : ℕ) {s t : State} (h : execHostNotify addr status s = .next t) (hz : s.Fits) :
    t.Fits :=
  fits_of (execHostNotify_touches addr status h) (by decide) (by decide) hz

theorem execTwlNpop_fits (p : Port) {s t : State} (h : execTwlNpop p s = .next t) (hz : s.Fits) : t.Fits := by
  unfold execTwlNpop at h
  cases h
  with_reducible repeat' first
    | assumption | apply State.portWord_fits | intro t ht | extract_lets

theorem execLocAlert_fits (low : Bool) {s t : State} (h : execLocAlert low s = .next t) (hz : s.Fits) : t.Fits :=
  fits_of (execLocAlert_touches low h) (by decide) (by decide) hz

theorem execAraBackoff_fits {s t : State} (h : execAraBackoff s = .next t) (hz : s.Fits) : t.Fits :=
  fits_of (execAraBackoff_touches h) (by decide) (by decide) hz

theorem execTwlXcmdGo_fits (p : Port) {s t : State} (h : execTwlXcmdGo p s = .next t) (hz : s.Fits) : t.Fits := by
  unfold execTwlXcmdGo at h
  cases h
  with_reducible repeat' first
    | assumption | apply State.portBits_fits | intro t ht | extract_lets

theorem execRegWrite_fits (count : ℕ) (a0 : BitVec 8) (a1 : BitVec 8) (a2 : BitVec 8) (words : List Word) (pecOk : Bool) {s t
    : State} (h : execRegWrite count a0 a1 a2 words pecOk s = .next t) (hz : s.Fits) : t.Fits := by
  unfold execRegWrite at h
  cases h
  with_reducible repeat' first
    | assumption | apply State.sbWrite_fits | intro t ht | extract_lets

theorem execRegRead_fits (count : ℕ) (a0 : BitVec 8) (a1 : BitVec 8) (a2 : BitVec 8) (k : ℕ) {s t : State} (h : execRegRead
    count a0 a1 a2 k s = .next t) (hz : s.Fits) : t.Fits := by
  unfold execRegRead at h
  cases h
  with_reducible repeat' first
    | assumption | apply State.sbRead_fits | intro t ht | extract_lets

theorem execReset_fits (count : ℕ) (bytes : List (BitVec 8)) (pecOk : Bool) {s t : State} (h : execReset count bytes pecOk s =
    .next t) (hz : s.Fits) : t.Fits := by
  unfold execReset at h
  cases h
  with_reducible repeat' first
    | assumption | apply State.sbReset_fits | intro t ht | extract_lets

theorem execSbAra_fits {s t : State} (h : execSbAra s = .next t) (hz : s.Fits) : t.Fits :=
  fits_of (execSbAra_touches h) (by decide) (by decide) hz

theorem execSbTimeout_fits {s t : State} (h : execSbTimeout s = .next t) (hz : s.Fits) : t.Fits :=
  fits_of (execSbTimeout_touches h) (by decide) (by decide) hz

theorem execSbProtocolAbandon_fits {s t : State} (h : execSbProtocolAbandon s = .next t) (hz : s.Fits) : t.Fits := by
  unfold execSbProtocolAbandon at h
  cases h
  with_reducible repeat' first
    | assumption | apply State.sbAbandon_fits | intro t ht | extract_lets

theorem execGatedPageRead_fits (p : Port) (addr : ℕ) {s t : State} (h : execGatedPageRead p addr s = .next t) (hz : s.Fits) :
    t.Fits := by
  unfold execGatedPageRead at h
  cases h
  with_reducible repeat' first
    | assumption | apply State.portRead_fits | intro t ht | extract_lets

theorem execSbCommandRefused_fits (code : ℕ) {s t : State} (h : execSbCommandRefused code s = .next t) (hz : s.Fits) : t.Fits
    :=
  fits_of (execSbCommandRefused_touches code h) (by decide) (by decide) hz

theorem execIdent_fits (tag : ℕ) (good : Bool) {s t : State} (h : execIdent tag good s = .next t) (hz : s.Fits) : t.Fits := by
  unfold execIdent at h
  cases h
  with_reducible repeat' first
    | assumption | apply State.svcFrame_fits | apply State.svcIdent_fits | intro t ht | extract_lets

theorem execSvcFrameShort_fits {s t : State} (h : execSvcFrameShort s = .next t) (hz : s.Fits) : t.Fits :=
  fits_of (execSvcFrameShort_touches h) (by decide) (by decide) hz

theorem execStatus_fits (tag : ℕ) (good : Bool) {s t : State} (h : execStatus tag good s = .next t) (hz : s.Fits) : t.Fits := by
  unfold execStatus at h
  cases h
  with_reducible repeat' first
    | assumption | apply State.svcFrame_fits | apply State.svcStatus_fits | intro t ht | extract_lets

theorem execPkgBegin_fits (tag : ℕ) (good : Bool) (payload : List (BitVec 8)) {s t : State} (h : execPkgBegin tag good payload
    s = .next t) (hz : s.Fits) : t.Fits := by
  unfold execPkgBegin at h
  cases h
  with_reducible repeat' first
    | assumption | apply State.svcCommand_fits | apply State.pkgBegin_fits | intro t ht | extract_lets

theorem execUpdHashDone_fits {s t : State} (h : execUpdHashDone s = .next t) (hz : s.Fits) : t.Fits :=
  fits_of (execUpdHashDone_touches h) (by decide) (by decide) hz

theorem execUpdEraseDone_fits {s t : State} (h : execUpdEraseDone s = .next t) (hz : s.Fits) : t.Fits :=
  fits_of (execUpdEraseDone_touches h) (by decide) (by decide) hz

theorem execPkgData_fits (tag : ℕ) (good : Bool) (payload : List (BitVec 8)) {s t : State} (h : execPkgData tag good payload s
    = .next t) (hz : s.Fits) : t.Fits := by
  unfold execPkgData at h
  cases h
  with_reducible repeat' first
    | assumption | apply State.svcCommand_fits | apply State.svcData_fits | intro t ht | extract_lets

theorem execPkgEnd_fits (tag : ℕ) (good : Bool) {s t : State} (h : execPkgEnd tag good s = .next t) (hz : s.Fits) : t.Fits := by
  unfold execPkgEnd at h
  cases h
  with_reducible repeat' first
    | assumption | apply State.svcCommand_fits | apply State.svcEnd_fits | intro t ht | extract_lets

theorem execUpdCheckDone_fits {s t : State} (h : execUpdCheckDone s = .next t) (hz : s.Fits) : t.Fits :=
  fits_of (execUpdCheckDone_touches h) (by decide) (by decide) hz

theorem execActivate_fits (tag : ℕ) (good : Bool) {s t : State} (h : execActivate tag good s = .next t) (hz : s.Fits) : t.Fits
    := by
  unfold execActivate at h
  cases h
  with_reducible repeat' first
    | assumption | apply State.svcCommand_fits | apply State.svcActivate_fits | intro t ht | extract_lets

theorem execAbort_fits (tag : ℕ) (good : Bool) {s t : State} (h : execAbort tag good s = .next t) (hz : s.Fits) : t.Fits := by
  unfold execAbort at h
  cases h
  with_reducible repeat' first
    | assumption | apply State.svcCommand_fits | apply State.svcAbort_fits | intro t ht | extract_lets

theorem execRcvBegin_fits (tag : ℕ) (good : Bool) (payload : List (BitVec 8)) {s t : State} (h : execRcvBegin tag good payload
    s = .next t) (hz : s.Fits) : t.Fits := by
  unfold execRcvBegin at h
  cases h
  with_reducible repeat' first
    | assumption | apply State.svcCommand_fits | apply State.rcvBegin_fits | intro t ht | extract_lets

theorem execRcvData_fits (tag : ℕ) (good : Bool) (payload : List (BitVec 8)) {s t : State} (h : execRcvData tag good payload s
    = .next t) (hz : s.Fits) : t.Fits := by
  unfold execRcvData at h
  cases h
  with_reducible repeat' first
    | assumption | apply State.svcCommand_fits | apply State.svcData_fits | intro t ht | extract_lets

theorem execRcvEnd_fits (tag : ℕ) (good : Bool) {s t : State} (h : execRcvEnd tag good s = .next t) (hz : s.Fits) : t.Fits := by
  unfold execRcvEnd at h
  cases h
  with_reducible repeat' first
    | assumption | apply State.svcCommand_fits | apply State.svcEnd_fits | intro t ht | extract_lets

theorem execRcvCheckDone_fits {s t : State} (h : execRcvCheckDone s = .next t) (hz : s.Fits) : t.Fits :=
  fits_of (execRcvCheckDone_touches h) (by decide) (by decide) hz

theorem execProtSet_fits (tag : ℕ) (good : Bool) (payload : List (BitVec 8)) {s t : State} (h : execProtSet tag good payload s
    = .next t) (hz : s.Fits) : t.Fits := by
  unfold execProtSet at h
  cases h
  with_reducible repeat' first
    | assumption | apply State.svcCommand_fits | apply State.protSet_fits | intro t ht | extract_lets

theorem execEcRead_fits (tag : ℕ) (good : Bool) (payload : List (BitVec 8)) {s t : State} (h : execEcRead tag good payload s =
    .next t) (hz : s.Fits) : t.Fits := by
  unfold execEcRead at h
  cases h
  with_reducible repeat' first
    | assumption | apply State.svcCommand_fits | apply State.svcEc_fits | intro t ht | extract_lets

theorem execBadOp_fits (tag : ℕ) (good : Bool) {s t : State} (h : execBadOp tag good s = .next t) (hz : s.Fits) : t.Fits := by
  unfold execBadOp at h
  cases h
  with_reducible repeat' first
    | assumption | apply State.svcFrame_fits | apply State.svcAnswer_fits | intro t ht | extract_lets

theorem execRequestTerrace_fits (p : Port) {s t : State} (h : execRequestTerrace p s = .next t) (hz : s.Fits) : t.Fits := by
  unfold execRequestTerrace at h
  cases h
  with_reducible repeat' first
    | assumption | apply State.portBits_fits | intro t ht | extract_lets

theorem execRequestBasin_fits (p : Port) {s t : State} (h : execRequestBasin p s = .next t) (hz : s.Fits) : t.Fits := by
  unfold execRequestBasin at h
  cases h
  with_reducible repeat' first
    | assumption | apply State.portBits_fits | intro t ht | extract_lets

theorem execRequestRun_fits (p : Port) {s t : State} (h : execRequestRun p s = .next t) (hz : s.Fits) : t.Fits := by
  unfold execRequestRun at h
  cases h
  with_reducible repeat' first
    | assumption | apply State.portBits_fits | intro t ht | extract_lets

theorem execAutoTerrace_fits (leaves : Bool) {s t : State} (h : execAutoTerrace leaves s = .next t) (hz : s.Fits) : t.Fits :=
  fits_of (execAutoTerrace_touches leaves h) (by decide) (by decide) hz

theorem execL2Entry_fits {s t : State} (h : execL2Entry s = .next t) (hz : s.Fits) : t.Fits :=
  fits_of (execL2Entry_touches h) (by decide) (by decide) hz

theorem execStopPointReached_fits {s t : State} (h : execStopPointReached s = .next t) (hz : s.Fits) : t.Fits :=
  fits_of (execStopPointReached_touches h) (by decide) (by decide) hz

theorem execDomainReady_fits {s t : State} (h : execDomainReady s = .next t) (hz : s.Fits) : t.Fits :=
  fits_of (execDomainReady_touches h) (by decide) (by decide) hz

theorem execDomainTimeout_fits (d : ℕ) (late : Bool) {s t : State} (h : execDomainTimeout d late s = .next t) (hz : s.Fits) :
    t.Fits := by
  unfold execDomainTimeout at h
  cases h
  with_reducible repeat' first
    | assumption | apply State.domainTimeout_fits | intro t ht | extract_lets

theorem execExitDone_fits {s t : State} (h : execExitDone s = .next t) (hz : s.Fits) : t.Fits :=
  fits_of (execExitDone_touches h) (by decide) (by decide) hz

theorem execScrubLineDue_fits {s t : State} (h : execScrubLineDue s = .next t) (hz : s.Fits) : t.Fits :=
  fits_of (execScrubLineDue_touches h) (by decide) (by decide) hz

theorem execRoundLate_fits {s t : State} (h : execRoundLate s = .next t) (hz : s.Fits) : t.Fits := by
  unfold execRoundLate at h
  cases h
  with_reducible repeat' first
    | assumption | apply State.roundLate_fits | intro t ht | extract_lets

theorem execRetentionScanDue_fits (restored : Bool) {s t : State} (h : execRetentionScanDue restored s = .next t) (hz :
    s.Fits) : t.Fits :=
  fits_of (execRetentionScanDue_touches restored h) (by decide) (by decide) hz

theorem execScanLate_fits {s t : State} (h : execScanLate s = .next t) (hz : s.Fits) : t.Fits := by
  unfold execScanLate at h
  cases h
  with_reducible repeat' first
    | assumption | apply State.scanLate_fits | intro t ht | extract_lets

theorem execZqDue_fits (sc : ℕ) (lrank : ℕ) {s t : State} (h : execZqDue sc lrank s = .next t) (hz : s.Fits) : t.Fits :=
  fits_of (execZqDue_touches sc lrank h) (by decide) (by decide) hz

theorem execOscDue_fits (sc : ℕ) (lrank : ℕ) (drift : ℕ) {s t : State} (h : execOscDue sc lrank drift s = .next t) (hz :
    s.Fits) : t.Fits :=
  fits_of (execOscDue_touches sc lrank drift h) (by decide) (by decide) hz

theorem execFcalDue_fits (c : ℕ) (d : ℕ) (plane : ℕ) (group : ℕ) (below : ℕ) (present : ℕ) (above : ℕ) {s t : State} (h :
    execFcalDue c d plane group below present above s = .next t) (hz : s.Fits) : t.Fits :=
  fits_of (execFcalDue_touches c d plane group below present above h) (by decide) (by decide) hz

theorem execOnfiZqDue_fits (c : ℕ) {s t : State} (h : execOnfiZqDue c s = .next t) (hz : s.Fits) : t.Fits :=
  fits_of (execOnfiZqDue_touches c h) (by decide) (by decide) hz

theorem execCapTestDue_fits {s t : State} (h : execCapTestDue s = .next t) (hz : s.Fits) : t.Fits :=
  fits_of (execCapTestDue_touches h) (by decide) (by decide) hz

theorem execCapGo_fits (p : Port) {s t : State} (h : execCapGo p s = .next t) (hz : s.Fits) : t.Fits := by
  unfold execCapGo at h
  cases h
  with_reducible repeat' first
    | assumption | apply State.portBits_fits | intro t ht | extract_lets

theorem execCapMaxExpiry_fits (late : Option ℕ) {s t : State} (h : execCapMaxExpiry late s = .next t) (hz : s.Fits) : t.Fits
    := by
  unfold execCapMaxExpiry at h
  cases h
  with_reducible repeat' first
    | assumption | apply State.capExpired_fits | intro t ht | extract_lets

theorem execWearHorizonUpdate_fits {s t : State} (h : execWearHorizonUpdate s = .next t) (hz : s.Fits) : t.Fits :=
  fits_of (execWearHorizonUpdate_touches h) (by decide) (by decide) hz

theorem execTelemetrySample_fits (tj : ℤ) (mw : ℕ) {s t : State} (h : execTelemetrySample tj mw s = .next t) (hz : s.Fits) :
    t.Fits :=
  fits_of (execTelemetrySample_touches tj mw h) (by decide) (by decide) hz

theorem execDscrMpop_fits (p : Port) {s t : State} (h : execDscrMpop p s = .next t) (hz : s.Fits) : t.Fits := by
  unfold execDscrMpop at h
  cases h
  with_reducible repeat' first
    | assumption | apply State.portWord_fits | intro t ht | extract_lets

theorem execTapReset_fits {s t : State} (h : execTapReset s = .next t) (hz : s.Fits) : t.Fits :=
  fits_of (execTapReset_touches h) (by decide) (by decide) hz

theorem execExtest_fits (pins : ℕ) (shifted : Option ℕ) {s t : State} (h : execExtest pins shifted s = .next t) (hz : s.Fits)
    : t.Fits := by
  unfold execExtest at h
  cases h
  with_reducible repeat' first
    | assumption | apply State.boundary_fits | apply State.loadIr_fits | intro t ht | extract_lets

theorem execSample_fits (pins : ℕ) {s t : State} (h : execSample pins s = .next t) (hz : s.Fits) : t.Fits := by
  unfold execSample at h
  cases h
  with_reducible repeat' first
    | assumption | apply State.boundary_fits | apply State.loadIr_fits | intro t ht | extract_lets

theorem execPreload_fits (pins : ℕ) (shifted : Option ℕ) {s t : State} (h : execPreload pins shifted s = .next t) (hz :
    s.Fits) : t.Fits := by
  unfold execPreload at h
  cases h
  with_reducible repeat' first
    | assumption | apply State.boundary_fits | apply State.loadIr_fits | intro t ht | extract_lets

theorem execIdcode_fits {s t : State} (h : execIdcode s = .next t) (hz : s.Fits) : t.Fits := by
  unfold execIdcode at h
  cases h
  with_reducible repeat' first
    | assumption | apply State.jtagOut_fits | apply State.loadIr_fits | intro t ht | extract_lets

theorem execClamp_fits {s t : State} (h : execClamp s = .next t) (hz : s.Fits) : t.Fits := by
  unfold execClamp at h
  cases h
  with_reducible repeat' first
    | assumption | apply State.jtagOut_fits | apply State.loadIr_fits | intro t ht | extract_lets

theorem execHighz_fits {s t : State} (h : execHighz s = .next t) (hz : s.Fits) : t.Fits := by
  unfold execHighz at h
  cases h
  with_reducible repeat' first
    | assumption | apply State.jtagOut_fits | apply State.loadIr_fits | intro t ht | extract_lets

theorem execExtestPulse_fits (pins : ℕ) (shifted : Option ℕ) {s t : State} (h : execExtestPulse pins shifted s = .next t) (hz
    : s.Fits) : t.Fits := by
  unfold execExtestPulse at h
  cases h
  with_reducible repeat' first
    | assumption | apply State.boundary_fits | apply State.loadIr_fits | intro t ht | extract_lets

theorem execExtestTrain_fits (pins : ℕ) (shifted : Option ℕ) {s t : State} (h : execExtestTrain pins shifted s = .next t) (hz
    : s.Fits) : t.Fits := by
  unfold execExtestTrain at h
  cases h
  with_reducible repeat' first
    | assumption | apply State.boundary_fits | apply State.loadIr_fits | intro t ht | extract_lets

theorem execSysId_fits {s t : State} (h : execSysId s = .next t) (hz : s.Fits) : t.Fits := by
  unfold execSysId at h
  cases h
  with_reducible repeat' first
    | assumption | apply State.jtagOut_fits | apply State.loadIr_fits | intro t ht | extract_lets

theorem execTstReset_fits {s t : State} (h : execTstReset s = .next t) (hz : s.Fits) : t.Fits := by
  unfold execTstReset at h
  cases h
  with_reducible repeat' first
    | assumption | apply State.tstReset_fits | intro t ht | extract_lets

theorem execAtolRead_fits (word : ℕ) (cbits : ℕ) (ue : Bool) (ready : Bool) {s t : State} (h : execAtolRead word cbits ue
    ready s = .next t) (hz : s.Fits) : t.Fits := by
  unfold execAtolRead at h
  cases h
  with_reducible repeat' first
    | assumption | apply State.tstRead_fits | intro t ht | extract_lets

theorem execAtolEc_fits (b : ℕ) {s t : State} (h : execAtolEc b s = .next t) (hz : s.Fits) : t.Fits := by
  unfold execAtolEc at h
  cases h
  with_reducible repeat' first
    | assumption | apply State.tstEc_fits | intro t ht | extract_lets

theorem execBypass_fits (code : ℕ) {s t : State} (h : execBypass code s = .next t) (hz : s.Fits) : t.Fits := by
  unfold execBypass at h
  split at h <;> cases h <;> (with_reducible repeat' first
    | assumption | apply State.jtagOut_fits | apply State.loadIr_fits | apply fits_ite | intro t ht | extract_lets)

end Sys2Proof.Machine
end

