-- ==== Sys2Proof/Laws/Footprint.lean ====
section
/-! SUPPORT. From a mask to a list of parts: what `Touches` says of the parts outside a list. -/

namespace Sys2Proof.Machine

/-- A bit of the mask of a list is the bit of one of its parts. -/
theorem mem_of_partMask {p : Part} (l : List Part) : (partMask l).testBit p.bit = true → p ∈ l := by
  have g : ∀ (l : List Part) (n : Nat), (l.foldl (fun m p => m ||| 2 ^ p.bit) n).testBit p.bit = true →
      n.testBit p.bit = true ∨ p ∈ l := by
    intro l
    induction l with
    | nil => intro n hn; exact .inl hn
    | cons q l ih =>
      intro n hn
      rcases ih _ hn with h | h
      · rw [Nat.testBit_or, Bool.or_eq_true] at h
        rcases h with h | h
        · exact .inl h
        · right
          rw [Nat.testBit_two_pow, decide_eq_true_eq] at h
          have : q = p := by cases q <;> cases p <;> first | rfl | (exact absurd h (by decide))
          rw [this]; exact List.mem_cons_self
      · exact .inr (List.mem_cons_of_mem _ h)
  intro h
  rcases g l 0 h with h | h
  · rw [Nat.zero_testBit] at h; cases h
  · exact h

/-- What touches only parts of a list leaves every other part alone. -/
theorem Touches.outside {m : Nat} {l : List Part} {s t : State} (h : Touches m s t) (e : partMask l &&& m = m) {p : Part}
    (hp : p ∉ l) : p.same s t := by
  apply h.frame
  by_contra hb
  rw [Bool.not_eq_false] at hb
  exact hp (mem_of_partMask l (mask_bit (by rw [Nat.and_comm]; exact e) hb))

end Sys2Proof.Machine
end

