-- ==== Sys2Proof/Laws/Frames.lean ====
section
/-! SUPPORT. What receiving a Strait frame comes to, stated once for every message. -/

namespace Sys2Proof.Machine

/-- A frame that the controller takes has its effect, and wakes the controller where its message does (R371, R527). -/
theorem State.receive_of_takesFrame {s : State} {h : FrameHdr} (k : s.takesFrame h = true) (typ : Nat)
    (relay : List (BitVec 8)) (f : State → State) : s.receive h typ relay f =
      (if typ ≠ 1 ∧ typ ≠ 2 ∧ typ ≠ 3 ∧ typ ≠ 4 ∧ (f (s.frameTaken h typ relay)).saving = false
       then (f (s.frameTaken h typ relay)).wake 5 else f (s.frameTaken h typ relay)) := by
  unfold State.takesFrame at k
  simp only [Bool.and_eq_true, Bool.not_eq_true', decide_eq_true_eq] at k
  obtain ⟨⟨⟨⟨⟨k1, k2⟩, k3⟩, k4, k5, k6⟩, k7⟩, k8⟩ := k
  unfold State.receive
  rw [if_neg (by simp [k1, k3]; omega), if_neg (by simp only [not_or]; omega), if_neg (by simp [k7])]
  simp only [k8, if_true]
  rfl

end Sys2Proof.Machine
end

