-- ==== Sys2Proof/Laws/Regs.lean ====
section
/-! SUPPORT. Registers and fields: what a read gives after a store of the same field, of another field of the same register,
and of another register. -/

namespace Sys2Proof.Machine

/-! ### Bits of a word -/

/-- The number whose bits `lo` to `lo + w - 1` are replaced fits the word it came from. -/
theorem putBits_toNat (x : Word) (lo w v : Nat) (h : lo + w ≤ 32) : (putBits x lo w v).toNat =
    x.toNat / 2 ^ (lo + w) * 2 ^ (lo + w) + v % 2 ^ w * 2 ^ lo + x.toNat % 2 ^ lo := by
  have hx : x.toNat < 2 ^ 32 := x.isLt
  have hlo : x.toNat % 2 ^ lo < 2 ^ lo := Nat.mod_lt _ (Nat.two_pow_pos lo)
  have hv : v % 2 ^ w < 2 ^ w := Nat.mod_lt _ (Nat.two_pow_pos w)
  have hm : v % 2 ^ w * 2 ^ lo + x.toNat % 2 ^ lo < 2 ^ (lo + w) := by
    have : (v % 2 ^ w + 1) * 2 ^ lo ≤ 2 ^ w * 2 ^ lo := Nat.mul_le_mul_right _ hv
    rw [Nat.add_mul, Nat.one_mul, ← Nat.pow_add, Nat.add_comm w lo] at this
    omega
  have hq : x.toNat / 2 ^ (lo + w) + 1 ≤ 2 ^ (32 - (lo + w)) := by
    rw [Nat.add_one_le_iff, Nat.div_lt_iff_lt_mul (Nat.two_pow_pos _), ← Nat.pow_add, show 32 - (lo + w) + (lo + w) = 32 by omega]
    exact hx
  have ht : (x.toNat / 2 ^ (lo + w) + 1) * 2 ^ (lo + w) ≤ 2 ^ 32 := by
    have := Nat.mul_le_mul_right (2 ^ (lo + w)) hq
    rwa [← Nat.pow_add, show 32 - (lo + w) + (lo + w) = 32 by omega] at this
  rw [Nat.add_mul, Nat.one_mul] at ht
  unfold putBits
  rw [BitVec.toNat_ofNat, Nat.mod_eq_of_lt]
  omega

/-- Bits just stored. -/
theorem getBits_putBits_same (x : Word) (lo w v : Nat) (h : lo + w ≤ 32) : getBits (putBits x lo w v) lo w = v % 2 ^ w := by
  unfold getBits
  rw [putBits_toNat x lo w v h]
  have hlo : x.toNat % 2 ^ lo < 2 ^ lo := Nat.mod_lt _ (Nat.two_pow_pos lo)
  have e : x.toNat / 2 ^ (lo + w) * 2 ^ (lo + w) + v % 2 ^ w * 2 ^ lo + x.toNat % 2 ^ lo
      = (x.toNat / 2 ^ (lo + w) * 2 ^ w + v % 2 ^ w) * 2 ^ lo + x.toNat % 2 ^ lo := by
    rw [Nat.pow_add]; ring
  rw [e, Nat.add_comm, Nat.add_mul_div_right _ _ (Nat.two_pow_pos lo), Nat.div_eq_of_lt hlo, Nat.zero_add,
    Nat.add_comm, Nat.add_mul_mod_self_right, Nat.mod_mod]

/-- Bits below those stored. -/
theorem getBits_putBits_low (x : Word) (lo w v j u : Nat) (h : lo + w ≤ 32) (hj : j + u ≤ lo) :
    getBits (putBits x lo w v) j u = getBits x j u := by
  unfold getBits
  rw [putBits_toNat x lo w v h]
  obtain ⟨d, rfl⟩ := Nat.exists_eq_add_of_le hj
  have e : x.toNat / 2 ^ (j + u + d + w) * 2 ^ (j + u + d + w) + v % 2 ^ w * 2 ^ (j + u + d) + x.toNat % 2 ^ (j + u + d)
      = (x.toNat / 2 ^ (j + u + d + w) * 2 ^ w + v % 2 ^ w) * 2 ^ d * 2 ^ u * 2 ^ j + x.toNat % 2 ^ (j + u + d) := by
    simp only [Nat.pow_add]; ring
  rw [e, Nat.add_comm, Nat.add_mul_div_right _ _ (Nat.two_pow_pos j), Nat.add_mul_mod_self_right,
    show j + u + d = j + (u + d) by omega, Nat.pow_add, Nat.mod_mul_right_div_self, Nat.pow_add,
    Nat.mod_mul_right_mod]

/-- Bits above those stored. -/
theorem getBits_putBits_high (x : Word) (lo w v j u : Nat) (h : lo + w ≤ 32) (hj : lo + w ≤ j) :
    getBits (putBits x lo w v) j u = getBits x j u := by
  unfold getBits
  rw [putBits_toNat x lo w v h]
  have hlo : x.toNat % 2 ^ lo < 2 ^ lo := Nat.mod_lt _ (Nat.two_pow_pos lo)
  have hv : v % 2 ^ w < 2 ^ w := Nat.mod_lt _ (Nat.two_pow_pos w)
  have hm : v % 2 ^ w * 2 ^ lo + x.toNat % 2 ^ lo < 2 ^ (lo + w) := by
    have : (v % 2 ^ w + 1) * 2 ^ lo ≤ 2 ^ w * 2 ^ lo := Nat.mul_le_mul_right _ hv
    rw [Nat.add_mul, Nat.one_mul, ← Nat.pow_add, Nat.add_comm w lo] at this
    omega
  obtain ⟨d, rfl⟩ := Nat.exists_eq_add_of_le hj
  rw [Nat.pow_add _ (lo + w) d, ← Nat.div_div_eq_div_mul, ← Nat.div_div_eq_div_mul, Nat.add_assoc, Nat.add_comm,
    Nat.add_mul_div_right _ _ (Nat.two_pow_pos _), Nat.div_eq_of_lt hm, Nat.zero_add]

/-! ### Registers of a state -/

/-- Another register than the one stored. -/
theorem State.word_setWord_other (s : State) (k j : Nat) (w : Word) (h : j ≠ k) : (s.setWord k w).word j = s.word j :=
  Sparse.get_set_other _ _ _ _ h

/-- The register just stored. -/
theorem State.word_setWord_same (s : State) (k : Nat) (w : Word) (h : s.Canon) : (s.setWord k w).word k = w := by
  have := h.regs
  rw [Sparse.wf, Bool.and_eq_true] at this
  exact Sparse.get_set_same_from _ 0 _ _ this.1

/-- Another register than that of the field stored. -/
theorem State.word_put_other (s : State) (f : Fld) (v k : Nat) (h : k ≠ f.addr) : (s.put f v).word k = s.word k :=
  s.word_setWord_other _ _ _ h

/-- A field of another register. -/
theorem State.get_put_other (s : State) (f g : Fld) (v : Nat) (h : g.addr ≠ f.addr) : (s.put f v).get g = s.get g := by
  unfold State.get; rw [s.word_put_other f v _ h]

/-- The field just stored. -/
theorem State.get_put_same (s : State) (f : Fld) (v : Nat) (h : s.Canon) (hf : f.lo + f.w ≤ 32) :
    (s.put f v).get f = v % 2 ^ f.w := by
  unfold State.get State.put
  rw [s.word_setWord_same _ _ h, getBits_putBits_same _ _ _ _ hf]

/-- Another field of the same register. -/
theorem State.get_put_field (s : State) (f g : Fld) (v : Nat) (h : s.Canon) (hf : f.lo + f.w ≤ 32) (ha : g.addr = f.addr)
    (hd : g.lo + g.w ≤ f.lo ∨ f.lo + f.w ≤ g.lo) : (s.put f v).get g = s.get g := by
  unfold State.get State.put
  rw [ha, s.word_setWord_same _ _ h]
  rcases hd with hd | hd
  · rw [getBits_putBits_low _ _ _ _ _ _ hf hd]
  · rw [getBits_putBits_high _ _ _ _ _ _ hf hd]

/-- A configuration field of another register. -/
theorem State.cfg_put_other (s : State) (f g : Fld) (v : Nat) (h : g.addr ≠ f.addr) : (s.put f v).cfg g = s.cfg g := by
  have hl : (s.put f v).late = s.late := rfl
  unfold State.cfg State.actWord
  rw [hl, s.word_put_other f v _ h]

/-- A pair stored leaves every register but its two. -/
theorem State.word_put64_other (s : State) (f : Fld) (v k : Nat) (h : k ≠ f.addr) (h' : k ≠ f.addr + 4) :
    (s.put64 f v).word k = s.word k := by
  unfold State.put64
  rw [State.word_put_other _ _ _ _ (show k ≠ f.hi.addr from h'), State.word_put_other _ _ _ _ h]

/-- A 64-bit count leaves every register but its two. -/
theorem State.word_bump64_other (s : State) (f : Fld) (k : Nat) (h : k ≠ f.addr) (h' : k ≠ f.addr + 4) :
    (s.bump64 f).word k = s.word k := s.word_put64_other f _ k h h'

/-- A count leaves every other register. -/
theorem State.word_bump_other (s : State) (f : Fld) (k : Nat) (h : k ≠ f.addr) : (s.bump f).word k = s.word k := by
  unfold State.bump State.bumpBy
  split
  · exact s.word_put_other f _ k h
  · exact s.word_put_other f _ k h

/-- A saturating count leaves every other register. -/
theorem State.word_bumpSat_other (s : State) (f : Fld) (k : Nat) (h : k ≠ f.addr) : (s.bumpSat f).word k = s.word k := by
  unfold State.bumpSat
  split
  · exact s.word_put_other f _ k h
  · rfl

end Sys2Proof.Machine
end

