-- ==== Sys2Proof/Laws/Memory.lean ====
section
/-! SUPPORT. The host's requests to memory: what the merge of a line does byte by byte, and how a request that nothing holds up
is disposed of. -/

namespace Sys2Proof.Machine

/-- One bit of the merge of the first `m` bytes. -/
theorem merge_bit (be : BitVec 64) (old new : LineData) (m : Nat) (hm : m ≤ 64) (b : Nat) (hb : b < 512) :
    ((List.range m).foldl (fun (d : LineData) i =>
      if be.getLsbD i then
        let m : LineData := (0xFF : LineData) <<< (8 * i)
        (d &&& ~~~ m) ||| (new &&& m)
      else d) old).getLsbD b = if b / 8 < m ∧ be.getLsbD (b / 8) = true then new.getLsbD b else old.getLsbD b := by
  induction m with
  | zero => simp
  | succ m ih =>
    rw [List.range_succ, List.foldl_append]
    simp only [List.foldl_cons, List.foldl_nil]
    have ih := ih (by omega)
    have hF : ((0xFF : LineData) <<< (8 * m)).getLsbD b = decide (b / 8 = m) := by
      rw [BitVec.getLsbD_shiftLeft]
      have : (0xFF : LineData).getLsbD (b - 8 * m) = decide (b - 8 * m < 8) := by
        rw [show (0xFF : LineData) = BitVec.ofNat 512 (2 ^ 8 - 1) by rfl, BitVec.getLsbD_ofNat, Nat.testBit_two_pow_sub_one]
        have : b - 8 * m < 512 := by omega
        simp [this]
      rw [this]
      by_cases h1 : b / 8 = m
      · simp [h1, hb]; omega
      · simp [h1]; omega
    split
    · rename_i h
      simp only [BitVec.getLsbD_or, BitVec.getLsbD_and, BitVec.getLsbD_not, hF, ih]
      by_cases h1 : b / 8 = m
      · subst h1
        simp [hb, h]
      · have : b / 8 < m + 1 ↔ b / 8 < m := by omega
        simp [h1, hb, this]
    · rename_i h
      rw [ih]
      by_cases h1 : b / 8 = m
      · subst h1; simp [h]
      · have : b / 8 < m + 1 ↔ b / 8 < m := by omega
        simp [this]

/-- A byte of a merged line: the new byte where it is enabled, else the old one (R320). -/
theorem mergeBytes_byte (be : BitVec 64) (old new : LineData) (k : Nat) (hk : k < 64) :
    lineByte (mergeBytes be old new) k = if be.getLsbD k then lineByte new k else lineByte old k := by
  unfold lineByte
  ext j hj
  have e : (8 * k + j) / 8 = k := by omega
  have := merge_bit be old new 64 (le_refl _) (8 * k + j) (by omega)
  rw [e] at this
  simp only [BitVec.getElem_extractLsb']
  unfold mergeBytes
  rw [this]
  simp only [hk, true_and]
  split <;> simp

/-- Counting a request leaves what decides how it is disposed of. -/
theorem State.countReq_keeps (s : State) (q : MemReq) :
    (s.countReq q).pers = s.pers ∧ (s.countReq q).rstr = s.rstr ∧ (s.countReq q).hlk = s.hlk ∧ (s.countReq q).save = s.save ∧
    (s.countReq q).rst = s.rst ∧ (s.countReq q).late = s.late ∧ (∀ k, k ≠ HLK_WR_LO_COUNT.addr → k ≠ HLK_WR_LO_COUNT.addr + 4 → k ≠ HLK_RD_LO_COUNT.addr →
        k ≠ HLK_RD_LO_COUNT.addr + 4 → k ≠ HLK_PSN_RX_COUNT.addr → (s.countReq q).word k = s.word k) := by
  have t := State.countReq_touches (m := 0x40000022) (touches_refl _ s) (by decide) q
  refine ⟨t.frame .pers (by decide), t.frame .rstr (by decide), t.frame .hlk (by decide), t.frame .save (by decide), t.frame
      .rst (by decide), t.frame .late (by decide), ?_⟩
  intro k h1 h2 h3 h4 h5
  unfold State.countReq
  split
  · extract_lets _ u
    have hu : u.word k = s.word k := State.word_bump64_other _ _ _ h1 h2
    split
    · rw [State.word_bump_other _ _ _ h5, hu]
    · exact hu
  · exact State.word_bump64_other _ _ _ h3 h4

/-- A request that nothing holds up is served as it arrives. -/
theorem State.arrive_once (s : State) (q : MemReq) (n : Nat) (h : s.servesAtOnce n q.line q.write = true) (x : State)
    (hx : x = (s.setHlk { s.hlk with nextReq := s.hlk.nextReq + 1 }).countReq q) :
    x.arrive q = (if q.write then x.hostWrite q else x.hostRead q).refreshHlk := by
  have k := State.countReq_keeps (s.setHlk { s.hlk with nextReq := s.hlk.nextReq + 1 }) q
  rw [← hx] at k
  obtain ⟨k1, k2, k3, k4, k7, k5, k6⟩ := k
  have e1 : x.pers = s.pers := k1
  have e2 : x.rstr = s.rstr := k2
  have e3 : x.hlk.buf = s.hlk.buf := by rw [k3]; rfl
  have e4 : x.save = s.save := k4
  have g : ∀ f : Fld, f.addr ≠ HLK_WR_LO_COUNT.addr → f.addr ≠ HLK_WR_LO_COUNT.addr + 4 → f.addr ≠ HLK_RD_LO_COUNT.addr →
      f.addr ≠ HLK_RD_LO_COUNT.addr + 4 → f.addr ≠ HLK_PSN_RX_COUNT.addr → x.get f = s.get f := by
    intro f a b c d e
    unfold State.get; rw [k6 _ a b c d e]; rfl
  have hl : x.level = s.level := g _ (by decide) (by decide) (by decide) (by decide) (by decide)
  have ha : x.active = s.active := by unfold State.active State.flag; rw [g _ (by decide) (by decide) (by decide) (by decide)
      (by decide)]
  have hc : x.cfgOn PERS_CTRL_BP_EN = s.cfgOn PERS_CTRL_BP_EN := by
    unfold State.cfgOn State.cfg State.actWord
    rw [k5, k6 _ (by decide) (by decide) (by decide) (by decide) (by decide)]; rfl
  have he : x.epoch = s.epoch := by unfold State.epoch State.get64; rw [g _ (by decide) (by decide) (by decide) (by decide)
      (by decide), g _ (by decide) (by decide) (by decide) (by decide) (by decide)]
  simp only [State.servesAtOnce, Bool.and_eq_true, Bool.not_eq_true', Bool.or_eq_true] at h
  obtain ⟨⟨⟨⟨-, h2⟩, h3⟩, h4⟩, h5⟩ := h
  have e5 : x.rst = s.rst := k7
  have hst : x.get RST_STAT_START = s.get RST_STAT_START := g _ (by decide) (by decide) (by decide) (by decide) (by decide)
  have hb : x.beforeLoad = s.beforeLoad := by unfold State.beforeLoad; rw [e5, hst]
  have i3 : x.isRestored (q.line / 1024) = true := by unfold State.isRestored at *; rw [e2, hb]; exact h3
  have i4 : x.lineHeld q.line = false := by unfold State.lineHeld at *; rw [e1, e2]; exact h4
  unfold State.arrive
  simp only [e3, h2, i3, i4]
  cases hw : q.write
  · simp
  · rw [hw] at h5
    have h6 : (s.holding && s.active && !s.collects (q.line / 1024)) = false := by simpa using h5
    have i5 : (x.holding && x.active && !x.collects (q.line / 1024)) = false := by
      unfold State.holding State.collects State.saving at *
      rw [hl, ha, hc, he, e1, e4]; exact h6
    simp [i5]

end Sys2Proof.Machine
end

