-- ==== Sys2Proof/Laws/PerInstr.lean ====
section
/-! SUPPORT. What holds of every command as syntax: the family Footprint, one lemma for each command. -/

namespace Sys2Proof.Laws.Footprint

open Sys2Proof.Machine

/-- No command touches the module or the queue, and the clock is in the footprint of PASS_TICK alone (R5). -/
def Statement (c : Instr) : Prop :=
  Part.mdl ∉ footprint c ∧ Part.pending ∉ footprint c ∧ (Part.now ∈ footprint c → ∃ w, c = .passTick w)

/-- Is a part neither the module, nor the queue, nor the clock? -/
def plain (p : Part) : Bool :=
  match p with
  | .mdl | .pending | .now => false
  | _ => true

/-- A footprint of plain parts. -/
theorem of_plain {c : Instr} (h : (footprint c).all plain = true) : Statement c := by
  rw [List.all_eq_true] at h
  exact ⟨fun k => Bool.noConfusion (h _ k), fun k => Bool.noConfusion (h _ k), fun k => Bool.noConfusion (h _ k)⟩

theorem passTick (w : TickWork) : Statement (.passTick w) :=
  ⟨by simp [footprint, faultParts], by simp [footprint, faultParts], fun _ => ⟨w, rfl⟩⟩
theorem aliveEdge : Statement (.aliveEdge) := of_plain rfl
theorem mastershipTakeover (late : Bool) : Statement (.mastershipTakeover late) := of_plain rfl
theorem registerWrite (p : Port) (addr : Nat) (mask : Nat) (data : Word) :
    Statement (.registerWrite p addr mask data) := of_plain rfl
theorem counterLoRead (p : Port) (addr : Nat) : Statement (.counterLoRead p addr) := of_plain rfl
theorem rcRead (p : Port) (addr : Nat) : Statement (.rcRead p addr) := of_plain rfl
theorem semClaim (n : Nat) (readers : List Port) : Statement (.semClaim n readers) := of_plain rfl
theorem semRelease (p : Port) (n : Nat) (owner : Nat) : Statement (.semRelease p n owner) := of_plain rfl
theorem semBreak (p : Port) (n : Nat) (owner : Nat) : Statement (.semBreak p n owner) := of_plain rfl
theorem semLeaseExpiry (n : Nat) : Statement (.semLeaseExpiry n) := of_plain rfl
theorem shadowArm (p : Port) (page : Nat) : Statement (.shadowArm p page) := of_plain rfl
theorem shadowDiscard (p : Port) (page : Nat) : Statement (.shadowDiscard p page) := of_plain rfl
theorem softRst (p : Port) (page : Nat) : Statement (.softRst p page) := of_plain rfl
theorem clkGate (p : Port) (page : Nat) (on : Bool) : Statement (.clkGate p page on) := of_plain rfl
theorem pageEn (p : Port) (page : Nat) (on : Bool) : Statement (.pageEn p page on) := of_plain rfl
theorem intForce (p : Port) (page : Nat) (causes : Word) : Statement (.intForce p page causes) := of_plain rfl
theorem errForce (p : Port) (page : Nat) (sources : Word) : Statement (.errForce p page sources) := of_plain rfl
theorem mgpEoi (p : Port) (v : Nat) : Statement (.mgpEoi p v) := of_plain rfl
theorem msixHeldSend : Statement (.msixHeldSend) := of_plain rfl
theorem cxlMemWrite (n : Nat) (line : Nat) (tag : Nat) (data : LineData) (be : BitVec 64) (poison : Bool) :
    Statement (.cxlMemWrite n line tag data be poison) := of_plain rfl
theorem cxlMemRead (n : Nat) (line : Nat) (tag : Nat) : Statement (.cxlMemRead n line tag) := of_plain rfl
theorem isletRecordReadDone : Statement (.isletRecordReadDone) := of_plain rfl
theorem paceAdmit : Statement (.paceAdmit) := of_plain rfl
theorem holdMaxAdmit : Statement (.holdMaxAdmit) := of_plain rfl
theorem budgetCompute (tj : Int) : Statement (.budgetCompute tj) := of_plain rfl
theorem gaugeStale (late : Bool) : Statement (.gaugeStale late) := of_plain rfl
theorem epochClose : Statement (.epochClose) := of_plain rfl
theorem coolingWalkDone : Statement (.coolingWalkDone) := of_plain rfl
theorem epochSeal (rearmed : Bool) (again : Nat) : Statement (.epochSeal rearmed again) := of_plain rfl
theorem planeClearDone : Statement (.planeClearDone) := of_plain rfl
theorem persBarPost (p : Port) (tag : Word) : Statement (.persBarPost p tag) := of_plain rfl
theorem persQIslet (p : Port) (islet : Nat) : Statement (.persQIslet p islet) := of_plain rfl
theorem isletLookupDone : Statement (.isletLookupDone) := of_plain rfl
theorem shadowReadEnd (islet : Nat) : Statement (.shadowReadEnd islet) := of_plain rfl
theorem stripeAgeExpiry (slc : Bool) : Statement (.stripeAgeExpiry slc) := of_plain rfl
theorem sweepRoundDone : Statement (.sweepRoundDone) := of_plain rfl
theorem barrierSweepDone : Statement (.barrierSweepDone) := of_plain rfl
theorem pfailInFall : Statement (.pfailInFall) := of_plain rfl
theorem pfailDebounceDone : Statement (.pfailDebounceDone) := of_plain rfl
theorem pfailGlitch (samples : Nat) : Statement (.pfailGlitch samples) := of_plain rfl
theorem pfailInRise : Statement (.pfailInRise) := of_plain rfl
theorem holdRailTrip : Statement (.holdRailTrip) := of_plain rfl
theorem holdRailClose (started : Nat) : Statement (.holdRailClose started) := of_plain rfl
theorem saveWritesApplied : Statement (.saveWritesApplied) := of_plain rfl
theorem saveDataDone : Statement (.saveDataDone) := of_plain rfl
theorem energyCutoff (started : Nat) : Statement (.energyCutoff started) := of_plain rfl
theorem saveSealProgrammed : Statement (.saveSealProgrammed) := of_plain rfl
theorem saveSealReadback : Statement (.saveSealReadback) := of_plain rfl
theorem saveBasinEntry (refreshed : Bool) : Statement (.saveBasinEntry refreshed) := of_plain rfl
theorem selfTestDone (pass : Bool) : Statement (.selfTestDone pass) := of_plain rfl
theorem powerReturn : Statement (.powerReturn) := of_plain rfl
theorem powerLoss (torn : Bool) : Statement (.powerLoss torn) := of_plain rfl
theorem railOutOfBand (rail : Nat) : Statement (.railOutOfBand rail) := of_plain rfl
theorem dramRailFault : Statement (.dramRailFault) := of_plain rfl
theorem gpfPhase1 : Statement (.gpfPhase1) := of_plain rfl
theorem gpfPhase2 : Statement (.gpfPhase2) := of_plain rfl
theorem gpfPhase2Done : Statement (.gpfPhase2Done) := of_plain rfl
theorem dramTrainingDone (fell : List Nat) (lowered : Bool) (failed : List Nat) :
    Statement (.dramTrainingDone fell lowered failed) := of_plain rfl
theorem imageDetectDone (found : Found) : Statement (.imageDetectDone found) := of_plain rfl
theorem metadataLoadDone : Statement (.metadataLoadDone) := of_plain rfl
theorem faultInDone (islet : Nat) (us : Nat) (rebuilt : Nat) (lost : List Nat) (late : Bool) :
    Statement (.faultInDone islet us rebuilt lost late) := of_plain rfl
theorem restoreIsletDone (zero : Bool) (rebuilt : Nat) (lost : List Nat) :
    Statement (.restoreIsletDone zero rebuilt lost) := of_plain rfl
theorem warmCheckDone (good : Bool) : Statement (.warmCheckDone good) := of_plain rfl
theorem cascadeWaitExpiry : Statement (.cascadeWaitExpiry) := of_plain rfl
theorem flashOpEnqueue (c : Nat) (o : FOp) : Statement (.flashOpEnqueue c o) := of_plain rfl
theorem resumeWindowExpiry (c : Nat) (d : Nat) : Statement (.resumeWindowExpiry c d) := of_plain rfl
theorem flashReadDone (c : Nat) (d : Nat) (plane : Nat) (b : Nat) (r : ReadEnd) (last : Bool) (scan : Bool) :
    Statement (.flashReadDone c d plane b r last scan) := of_plain rfl
theorem flashProgramDone (c : Nat) (d : Nat) (good : Bool) (us : Nat) :
    Statement (.flashProgramDone c d good us) := of_plain rfl
theorem flashEraseDone (c : Nat) (d : Nat) (e : EraseEnd) : Statement (.flashEraseDone c d e) := of_plain rfl
theorem dieReadyTimeout (c : Nat) (d : Nat) (late : Bool) : Statement (.dieReadyTimeout c d late) := of_plain rfl
theorem fchRetrain (p : Port) (c : Nat) : Statement (.fchRetrain p c) := of_plain rfl
theorem flashChannelTrained (c : Nat) (good : Bool) (found : List (Option DieFound)) :
    Statement (.flashChannelTrained c good found) := of_plain rfl
theorem farrQBlock (p : Port) (query : Word) : Statement (.farrQBlock p query) := of_plain rfl
theorem blockLookupDone : Statement (.blockLookupDone) := of_plain rfl
theorem movStart (p : Port) (c : Nat) : Statement (.movStart p c) := of_plain rfl
theorem movAbort (p : Port) (c : Nat) : Statement (.movAbort p c) := of_plain rfl
theorem move (c : Nat) : Statement (.move c) := of_plain rfl
theorem spread (c : Nat) : Statement (.spread c) := of_plain rfl
theorem loop (c : Nat) : Statement (.loop c) := of_plain rfl
theorem wait (c : Nat) : Statement (.wait c) := of_plain rfl
theorem signal (c : Nat) (cycle : Nat) : Statement (.signal c cycle) := of_plain rfl
theorem halt (c : Nat) (cycle : Nat) : Statement (.halt c cycle) := of_plain rfl
theorem nop (c : Nat) : Statement (.nop c) := of_plain rfl
theorem illegal (c : Nat) (cycle : Nat) : Statement (.illegal c cycle) := of_plain rfl
theorem pcRange (c : Nat) (cycle : Nat) : Statement (.pcRange c cycle) := of_plain rfl
theorem pmUe (c : Nat) (cycle : Nat) : Statement (.pmUe c cycle) := of_plain rfl
theorem moverTransferDone (c : Nat) (hit : Option Nat) (why : Nat) : Statement (.moverTransferDone c hit why) := of_plain rfl
theorem waitEnd (c : Nat) : Statement (.waitEnd c) := of_plain rfl
theorem waitTimeout (c : Nat) (cycle : Nat) : Statement (.waitTimeout c cycle) := of_plain rfl
theorem pmDataHiWrite (p : Port) (hi : Word) : Statement (.pmDataHiWrite p hi) := of_plain rfl
theorem pmDataLoRead (p : Port) : Statement (.pmDataLoRead p) := of_plain rfl
theorem pmDataHiRead (p : Port) : Statement (.pmDataHiRead p) := of_plain rfl
theorem collectorDrain (cycle : Nat) : Statement (.collectorDrain cycle) := of_plain rfl
theorem mvgCpop (p : Port) : Statement (.mvgCpop p) := of_plain rfl
theorem dramReadDone (line : Nat) (r : Requester) (o : ReadOutcome) (record : Nat) :
    Statement (.dramReadDone line r o record) := of_plain rfl
theorem repairWrite (line : Nat) : Statement (.repairWrite line) := of_plain rfl
theorem refreshDue (sc : Nat) (lrank : Nat) (queued : Bool) : Statement (.refreshDue sc lrank queued) := of_plain rfl
theorem mr4Poll (d : Nat) (doubled : Bool) : Statement (.mr4Poll d doubled) := of_plain rfl
theorem rankPowerDown (d : Nat) (r : Nat) (late : Bool) : Statement (.rankPowerDown d r late) := of_plain rfl
theorem rowIdleClose (bank : Nat) : Statement (.rowIdleClose bank) := of_plain rfl
theorem caParityAlert (sc : Nat) : Statement (.caParityAlert sc) := of_plain rfl
theorem caAlertClear (sc : Nat) : Statement (.caAlertClear sc) := of_plain rfl
theorem inPlaceRetrainDone (sc : Nat) (margin : Bool) : Statement (.inPlaceRetrainDone sc margin) := of_plain rfl
theorem dtrnGo (p : Port) : Statement (.dtrnGo p) := of_plain rfl
theorem dtrnStop (p : Port) : Statement (.dtrnStop p) := of_plain rfl
theorem dtrnDone (lanes : Nat) (mismatches : Nat) : Statement (.dtrnDone lanes mismatches) := of_plain rfl
theorem perstAssert : Statement (.perstAssert) := of_plain rfl
theorem perstRelease : Statement (.perstRelease) := of_plain rfl
theorem linkUp (rate : Nat) (flit256 : Bool) (lanes : List LaneEnd) : Statement (.linkUp rate flit256 lanes) := of_plain rfl
theorem linkDown : Statement (.linkDown) := of_plain rfl
theorem linkFail : Statement (.linkFail) := of_plain rfl
theorem l1Exit : Statement (.l1Exit) := of_plain rfl
theorem configRequest (q : CfgReq) : Statement (.configRequest q) := of_plain rfl
theorem creditStall : Statement (.creditStall) := of_plain rfl
theorem decoderCommit (n : Nat) (base : Nat) (size : Nat) (dpa : Nat) (iw : Nat) (ig : Nat) :
    Statement (.decoderCommit n base size dpa iw ig) := of_plain rfl
theorem memEnable : Statement (.memEnable) := of_plain rfl
theorem getEventRecords (log : Nat) : Statement (.getEventRecords log) := of_plain rfl
theorem clearEventRecords (log : Nat) (every : Bool) (handles : List Nat) :
    Statement (.clearEventRecords log every handles) := of_plain rfl
theorem getEventInterruptPolicy : Statement (.getEventInterruptPolicy) := of_plain rfl
theorem setEventInterruptPolicy (modes : List Nat) : Statement (.setEventInterruptPolicy modes) := of_plain rfl
theorem getFwInfo : Statement (.getFwInfo) := of_plain rfl
theorem unsupportedCommand : Statement (.unsupportedCommand) := of_plain rfl
theorem getTimestamp : Statement (.getTimestamp) := of_plain rfl
theorem setTimestamp (ns : Nat) : Statement (.setTimestamp ns) := of_plain rfl
theorem getSupportedLogs : Statement (.getSupportedLogs) := of_plain rfl
theorem getLog (uuid : List (BitVec 8)) (offset : Nat) (length : Nat) : Statement (.getLog uuid offset length) := of_plain rfl
theorem identifyMemoryDevice : Statement (.identifyMemoryDevice) := of_plain rfl
theorem getHealthInfo : Statement (.getHealthInfo) := of_plain rfl
theorem getAlertConfig : Statement (.getAlertConfig) := of_plain rfl
theorem setAlertConfig (config : List (BitVec 8)) : Statement (.setAlertConfig config) := of_plain rfl
theorem getShutdownState : Statement (.getShutdownState) := of_plain rfl
theorem setShutdownState (v : Nat) : Statement (.setShutdownState v) := of_plain rfl
theorem getPoisonList (dpa : Nat) (length : Nat) : Statement (.getPoisonList dpa length) := of_plain rfl
theorem injectPoison (dpa : Nat) : Statement (.injectPoison dpa) := of_plain rfl
theorem clearPoison (dpa : Nat) (data : LineData) : Statement (.clearPoison dpa data) := of_plain rfl
theorem sanitize : Statement (.sanitize) := of_plain rfl
theorem sanitizeDone : Statement (.sanitizeDone) := of_plain rfl
theorem barrierPost (tag : Nat) : Statement (.barrierPost tag) := of_plain rfl
theorem barrierStatus (seq : Nat) : Statement (.barrierStatus seq) := of_plain rfl
theorem budgetQuery : Statement (.budgetQuery) := of_plain rfl
theorem imageStatus : Statement (.imageStatus) := of_plain rfl
theorem cascadeStatus : Statement (.cascadeStatus) := of_plain rfl
theorem formatArray (confirm : Nat) (flags : Nat) (tag : Nat) (size : Nat) :
    Statement (.formatArray confirm flags tag size) := of_plain rfl
theorem formatArrayDone : Statement (.formatArrayDone) := of_plain rfl
theorem keyImportBegin : Statement (.keyImportBegin) := of_plain rfl
theorem keyExport (slot : Nat) (receiver : Nat) : Statement (.keyExport slot receiver) := of_plain rfl
theorem keyImport (sender : Nat) (keyId : Nat) (wrapped : Nat) : Statement (.keyImport sender keyId wrapped) := of_plain rfl
theorem straitPortTrained (port : Nat) (partner : Nat) (ring : Bool) :
    Statement (.straitPortTrained port partner ring) := of_plain rfl
theorem censusDone : Statement (.censusDone) := of_plain rfl
theorem masterElection : Statement (.masterElection) := of_plain rfl
theorem straitPeriodicSend (k : Periodic) : Statement (.straitPeriodicSend k) := of_plain rfl
theorem straitFrameBad (mine : Bool) : Statement (.straitFrameBad mine) := of_plain rfl
theorem heartbeat (h : FrameHdr) (payload : List (BitVec 8)) : Statement (.heartbeat h payload) := of_plain rfl
theorem probe (h : FrameHdr) (turn : Nat) : Statement (.probe h turn) := of_plain rfl
theorem echo (h : FrameHdr) (payload : List (BitVec 8)) (trip : Nat) : Statement (.echo h payload trip) := of_plain rfl
theorem tickSync (h : FrameHdr) (payload : List (BitVec 8)) (arrival : Int) (lag : Nat) (residence : Nat) :
    Statement (.tickSync h payload arrival lag residence) := of_plain rfl
theorem memberInfo (h : FrameHdr) (payload : List (BitVec 8)) : Statement (.memberInfo h payload) := of_plain rfl
theorem share (h : FrameHdr) (payload : List (BitVec 8)) : Statement (.share h payload) := of_plain rfl
theorem tailDone (h : FrameHdr) (payload : List (BitVec 8)) : Statement (.tailDone h payload) := of_plain rfl
theorem closeIssue : Statement (.closeIssue) := of_plain rfl
theorem close (h : FrameHdr) (payload : List (BitVec 8)) : Statement (.close h payload) := of_plain rfl
theorem sealedFrame (h : FrameHdr) (payload : List (BitVec 8)) : Statement (.sealedFrame h payload) := of_plain rfl
theorem groupSealed (h : FrameHdr) (payload : List (BitVec 8)) : Statement (.groupSealed h payload) := of_plain rfl
theorem straitSave (h : FrameHdr) : Statement (.straitSave h) := of_plain rfl
theorem saveStart (h : FrameHdr) (payload : List (BitVec 8)) : Statement (.saveStart h payload) := of_plain rfl
theorem saveEnd (h : FrameHdr) (payload : List (BitVec 8)) : Statement (.saveEnd h payload) := of_plain rfl
theorem imageStatusFrame (h : FrameHdr) (payload : List (BitVec 8)) : Statement (.imageStatusFrame h payload) := of_plain rfl
theorem groupPoint (h : FrameHdr) (payload : List (BitVec 8)) : Statement (.groupPoint h payload) := of_plain rfl
theorem masterClaim (h : FrameHdr) (payload : List (BitVec 8)) : Statement (.masterClaim h payload) := of_plain rfl
theorem eventFrame (h : FrameHdr) (payload : List (BitVec 8)) : Statement (.eventFrame h payload) := of_plain rfl
theorem peerSilent (d : Nat) (late : Bool) : Statement (.peerSilent d late) := of_plain rfl
theorem strtRetrain (p : Port) : Statement (.strtRetrain p) := of_plain rfl
theorem refLoss : Statement (.refLoss) := of_plain rfl
theorem refBack (ppm : Nat) : Statement (.refBack ppm) := of_plain rfl
theorem aonClkLoss : Statement (.aonClkLoss) := of_plain rfl
theorem pllLock (k : Nat) : Statement (.pllLock k) := of_plain rfl
theorem pllUnlock (k : Nat) : Statement (.pllUnlock k) := of_plain rfl
theorem powerOnReset (retries : Option Nat) : Statement (.powerOnReset retries) := of_plain rfl
theorem bootImageVerified (active : Nat) (other : Nat) : Statement (.bootImageVerified active other) := of_plain rfl
theorem configurationDone (ver : Nat) (kinds : Nat) : Statement (.configurationDone ver kinds) := of_plain rfl
theorem rstKey (p : Port) (key : Word) : Statement (.rstKey p key) := of_plain rfl
theorem devRst (p : Port) : Statement (.devRst p) := of_plain rfl
theorem quiesceDone (refreshed : Bool) (stored : Bool) : Statement (.quiesceDone refreshed stored) := of_plain rfl
theorem resetHoldRelease : Statement (.resetHoldRelease) := of_plain rfl
theorem recoverySample (first : Bool) (second : Bool) : Statement (.recoverySample first second) := of_plain rfl
theorem faultDetect (page : Nat) (src : Nat) (kind : Nat) (addr : Nat) (cycle : Nat) (place : Nat) (alt : Bool) :
    Statement (.faultDetect page src kind addr cycle place alt) := of_plain rfl
theorem faultRecord : Statement (.faultRecord) := of_plain rfl
theorem blockResetDone (w : ScopeOf) (late : Bool) : Statement (.blockResetDone w late) := of_plain rfl
theorem resetOverrun (b : Nat) : Statement (.resetOverrun b) := of_plain rfl
theorem resetStuck (d : Nat) : Statement (.resetStuck d) := of_plain rfl
theorem resetShadowEnd (w : ScopeOf) (us : Nat) : Statement (.resetShadowEnd w us) := of_plain rfl
theorem tickStall : Statement (.tickStall) := of_plain rfl
theorem glenWdog (k : Nat) (cycle : Nat) : Statement (.glenWdog k cycle) := of_plain rfl
theorem glenRestartDone (k : Nat) (us : Nat) : Statement (.glenRestartDone k us) := of_plain rfl
theorem fltPop (p : Port) : Statement (.fltPop p) := of_plain rfl
theorem fltFirstClr (p : Port) : Statement (.fltFirstClr p) := of_plain rfl
theorem recEvent (b : Nat) (code : Nat) (coincident : Bool) (detail : List Word) :
    Statement (.recEvent b code coincident detail) := of_plain rfl
theorem hoursNote : Statement (.hoursNote) := of_plain rfl
theorem flush (p : Port) : Statement (.flush p) := of_plain rfl
theorem flushDone (failed : List Nat) : Statement (.flushDone failed) := of_plain rfl
theorem freeze (p : Port) (on : Bool) : Statement (.freeze p on) := of_plain rfl
theorem freezeTimeout : Statement (.freezeTimeout) := of_plain rfl
theorem recRdSeq (p : Port) (rseq : Word) : Statement (.recRdSeq p rseq) := of_plain rfl
theorem recReadDone (p : Port) (bad : Bool) (early : Bool) : Statement (.recReadDone p bad early) := of_plain rfl
theorem atolProgram (p : Port) : Statement (.atolProgram p) := of_plain rfl
theorem atolErase (p : Port) : Statement (.atolErase p) := of_plain rfl
theorem atolHalt (p : Port) : Statement (.atolHalt p) := of_plain rfl
theorem atolContinue (p : Port) : Statement (.atolContinue p) := of_plain rfl
theorem atolStatus (p : Port) : Statement (.atolStatus p) := of_plain rfl
theorem atolCounts (p : Port) : Statement (.atolCounts p) := of_plain rfl
theorem atolFlip (p : Port) : Statement (.atolFlip p) := of_plain rfl
theorem atolProtect (p : Port) (lvl : Nat) : Statement (.atolProtect p lvl) := of_plain rfl
theorem atolIdle (p : Port) : Statement (.atolIdle p) := of_plain rfl
theorem atolWindowData (p : Port) (offset : Nat) (data : Word) (late : Bool) :
    Statement (.atolWindowData p offset data late) := of_plain rfl
theorem atolWindowRead (p : Port) (offset : Nat) (cbits : Nat) (ue : Bool) :
    Statement (.atolWindowRead p offset cbits ue) := of_plain rfl
theorem atolSeqTimeout (p : Port) : Statement (.atolSeqTimeout p) := of_plain rfl
theorem atolProgramDone (pulses : Nat) (good : Bool) : Statement (.atolProgramDone pulses good) := of_plain rfl
theorem atolEraseDone (good : Bool) : Statement (.atolEraseDone good) := of_plain rfl
theorem wipeDone : Statement (.wipeDone) := of_plain rfl
theorem pollDue (n : Nat) : Statement (.pollDue n) := of_plain rfl
theorem twlTransactionStart : Statement (.twlTransactionStart) := of_plain rfl
theorem twlTransactionDone (e : TwlEnd) : Statement (.twlTransactionDone e) := of_plain rfl
theorem twlTimeout (stuck : Bool) : Statement (.twlTimeout stuck) := of_plain rfl
theorem busStuckRetry (freed : Bool) : Statement (.busStuckRetry freed) := of_plain rfl
theorem hostNotify (addr : Nat) (status : Nat) : Statement (.hostNotify addr status) := of_plain rfl
theorem twlNpop (p : Port) : Statement (.twlNpop p) := of_plain rfl
theorem locAlert (low : Bool) : Statement (.locAlert low) := of_plain rfl
theorem araBackoff : Statement (.araBackoff) := of_plain rfl
theorem twlXcmdGo (p : Port) : Statement (.twlXcmdGo p) := of_plain rfl
theorem regWrite (count : Nat) (a0 : BitVec 8) (a1 : BitVec 8) (a2 : BitVec 8) (words : List Word) (pecOk : Bool) :
    Statement (.regWrite count a0 a1 a2 words pecOk) := of_plain rfl
theorem regRead (count : Nat) (a0 : BitVec 8) (a1 : BitVec 8) (a2 : BitVec 8) (k : Nat) :
    Statement (.regRead count a0 a1 a2 k) := of_plain rfl
theorem reset (count : Nat) (bytes : List (BitVec 8)) (pecOk : Bool) : Statement (.reset count bytes pecOk) := of_plain rfl
theorem sbAra : Statement (.sbAra) := of_plain rfl
theorem sbTimeout : Statement (.sbTimeout) := of_plain rfl
theorem sbProtocolAbandon : Statement (.sbProtocolAbandon) := of_plain rfl
theorem ident (tag : Nat) (good : Bool) : Statement (.ident tag good) := of_plain rfl
theorem svcFrameShort : Statement (.svcFrameShort) := of_plain rfl
theorem status (tag : Nat) (good : Bool) : Statement (.status tag good) := of_plain rfl
theorem pkgBegin (tag : Nat) (good : Bool) (payload : List (BitVec 8)) : Statement (.pkgBegin tag good payload) := of_plain rfl
theorem updHashDone : Statement (.updHashDone) := of_plain rfl
theorem updEraseDone : Statement (.updEraseDone) := of_plain rfl
theorem pkgData (tag : Nat) (good : Bool) (payload : List (BitVec 8)) : Statement (.pkgData tag good payload) := of_plain rfl
theorem pkgEnd (tag : Nat) (good : Bool) : Statement (.pkgEnd tag good) := of_plain rfl
theorem updCheckDone : Statement (.updCheckDone) := of_plain rfl
theorem activate (tag : Nat) (good : Bool) : Statement (.activate tag good) := of_plain rfl
theorem abort (tag : Nat) (good : Bool) : Statement (.abort tag good) := of_plain rfl
theorem rcvBegin (tag : Nat) (good : Bool) (payload : List (BitVec 8)) : Statement (.rcvBegin tag good payload) := of_plain rfl
theorem rcvData (tag : Nat) (good : Bool) (payload : List (BitVec 8)) : Statement (.rcvData tag good payload) := of_plain rfl
theorem rcvEnd (tag : Nat) (good : Bool) : Statement (.rcvEnd tag good) := of_plain rfl
theorem rcvCheckDone : Statement (.rcvCheckDone) := of_plain rfl
theorem protSet (tag : Nat) (good : Bool) (payload : List (BitVec 8)) : Statement (.protSet tag good payload) := of_plain rfl
theorem ecRead (tag : Nat) (good : Bool) (payload : List (BitVec 8)) : Statement (.ecRead tag good payload) := of_plain rfl
theorem requestTerrace (p : Port) : Statement (.requestTerrace p) := of_plain rfl
theorem requestBasin (p : Port) : Statement (.requestBasin p) := of_plain rfl
theorem requestRun (p : Port) : Statement (.requestRun p) := of_plain rfl
theorem autoTerrace (leaves : Bool) : Statement (.autoTerrace leaves) := of_plain rfl
theorem l2Entry : Statement (.l2Entry) := of_plain rfl
theorem stopPointReached : Statement (.stopPointReached) := of_plain rfl
theorem domainReady : Statement (.domainReady) := of_plain rfl
theorem domainTimeout (d : Nat) (late : Bool) : Statement (.domainTimeout d late) := of_plain rfl
theorem exitDone : Statement (.exitDone) := of_plain rfl
theorem scrubLineDue : Statement (.scrubLineDue) := of_plain rfl
theorem roundLate : Statement (.roundLate) := of_plain rfl
theorem retentionScanDue (restored : Bool) : Statement (.retentionScanDue restored) := of_plain rfl
theorem scanLate : Statement (.scanLate) := of_plain rfl
theorem zqDue (sc : Nat) (lrank : Nat) : Statement (.zqDue sc lrank) := of_plain rfl
theorem oscDue (sc : Nat) (lrank : Nat) (drift : Nat) : Statement (.oscDue sc lrank drift) := of_plain rfl
theorem fcalDue (c : Nat) (d : Nat) (plane : Nat) (group : Nat) (below : Nat) (present : Nat) (above : Nat) :
    Statement (.fcalDue c d plane group below present above) := of_plain rfl
theorem onfiZqDue (c : Nat) : Statement (.onfiZqDue c) := of_plain rfl
theorem capTestDue : Statement (.capTestDue) := of_plain rfl
theorem capGo (p : Port) : Statement (.capGo p) := of_plain rfl
theorem capMaxExpiry (late : Option Nat) : Statement (.capMaxExpiry late) := of_plain rfl
theorem wearHorizonUpdate : Statement (.wearHorizonUpdate) := of_plain rfl
theorem telemetrySample (tj : Int) (mw : Nat) : Statement (.telemetrySample tj mw) := of_plain rfl
theorem dscrMpop (p : Port) : Statement (.dscrMpop p) := of_plain rfl
theorem tapReset : Statement (.tapReset) := of_plain rfl
theorem extest (pins : Nat) (shifted : Option Nat) : Statement (.extest pins shifted) := of_plain rfl
theorem sample (pins : Nat) : Statement (.sample pins) := of_plain rfl
theorem preload (pins : Nat) (shifted : Option Nat) : Statement (.preload pins shifted) := of_plain rfl
theorem idcode : Statement (.idcode) := of_plain rfl
theorem clamp : Statement (.clamp) := of_plain rfl
theorem highz : Statement (.highz) := of_plain rfl
theorem extestPulse (pins : Nat) (shifted : Option Nat) : Statement (.extestPulse pins shifted) := of_plain rfl
theorem extestTrain (pins : Nat) (shifted : Option Nat) : Statement (.extestTrain pins shifted) := of_plain rfl
theorem sysId : Statement (.sysId) := of_plain rfl
theorem tstReset : Statement (.tstReset) := of_plain rfl
theorem atolRead (word : Nat) (cbits : Nat) (ue : Bool) (ready : Bool) :
    Statement (.atolRead word cbits ue ready) := of_plain rfl
theorem atolEc (b : Nat) : Statement (.atolEc b) := of_plain rfl
theorem bypass (code : Nat) : Statement (.bypass code) := of_plain rfl
theorem portDown (port : Nat) : Statement (.portDown port) := of_plain rfl
theorem linkRecovery (errors : List (Nat × Nat)) (down : Option (Nat × List LaneEnd)) :
    Statement (.linkRecovery errors down) := of_plain rfl
theorem l1Entry : Statement (.l1Entry) := of_plain rfl
theorem hotReset : Statement (.hotReset) := of_plain rfl
theorem holdRailReturn : Statement (.holdRailReturn) := of_plain rfl
theorem shareTimeout : Statement (.shareTimeout) := of_plain rfl
theorem gatedPageRead (p : Port) (addr : Nat) : Statement (.gatedPageRead p addr) := of_plain rfl
theorem unlistedFrameType (h : FrameHdr) : Statement (.unlistedFrameType h) := of_plain rfl
theorem badOp (tag : Nat) (good : Bool) : Statement (.badOp tag good) := of_plain rfl
theorem sbCommandRefused (code : Nat) : Statement (.sbCommandRefused code) := of_plain rfl

end Sys2Proof.Laws.Footprint
end

