-- ==== Sys2Proof/Laws/Rows.lean ====
section
/-! SUPPORT. The register map: the fields of every register lie in its 32 bits and do not overlap. -/

namespace Sys2Proof.Machine

/-- The fields of a register lie within 32 bits, and no two of them overlap. -/
abbrev FieldsApart (l : List FSpec) : Prop :=
  (∀ f ∈ l, f.lo + f.w ≤ 32) ∧ l.Pairwise (fun f g => f.lo + f.w ≤ g.lo ∨ g.lo + g.w ≤ f.lo)

/-- Every row of the register map. -/
theorem rows_apart : ∀ t ∈ regTables, ∀ r ∈ t.2.2, FieldsApart r.flds := by decide +kernel

/-- Every header register. -/
theorem header_apart : ∀ p, p < 256 → implemented p = true → ∀ k, k < 16 → FieldsApart (headerFields p (4 * k)) := by
  have h : ∀ p ∈ List.range 256, implemented p = true → ∀ k ∈ List.range 16, FieldsApart (headerFields p (4 * k)) := by
    decide +kernel
  exact fun p hp hi k hk => h p (List.mem_range.mpr hp) hi k (List.mem_range.mpr hk)

/-- Every register at an aligned address. -/
theorem regRow_apart {a : Nat} {r : Row} (ha : a % 4 = 0) (hb : a < 0x100000) (h : regRow a = some r) :
    FieldsApart r.flds := by
  unfold regRow at h
  split at h
  · cases h
  · next hi =>
    split at h
    · next ho =>
      cases h
      have := header_apart (a / 0x1000) (by omega) (by simpa using hi) (a % 0x1000 / 4) (by omega)
      rwa [show 4 * (a % 0x1000 / 4) = a % 0x1000 by omega] at this
    · unfold rowOf at h
      split at h
      · cases h
      · next t ht =>
        exact rows_apart t (List.mem_of_find?_eq_some ht) r (List.mem_of_find?_eq_some h)

end Sys2Proof.Machine
end

