-- ==== Sys2Proof/Laws/State.lean ====
section
/-! SUPPORT. What each update of the state leaves: one lemma for each field and update, true by definition. -/

namespace Sys2Proof.Machine

variable (s : State)

/-! ### setPers -/

@[simp] theorem State.setPers_mdl (x : Pers) : (s.setPers x).mdl = s.mdl := rfl
@[simp] theorem State.setPers_regs (x : Pers) : (s.setPers x).regs = s.regs := rfl
@[simp] theorem State.setPers_late (x : Pers) : (s.setPers x).late = s.late := rfl
@[simp] theorem State.setPers_latch (x : Pers) : (s.setPers x).latch = s.latch := rfl
@[simp] theorem State.setPers_now (x : Pers) : (s.setPers x).now = s.now := rfl
@[simp] theorem State.setPers_freeCtr (x : Pers) : (s.setPers x).freeCtr = s.freeCtr := rfl
@[simp] theorem State.setPers_dram (x : Pers) : (s.setPers x).dram = s.dram := rfl
@[simp] theorem State.setPers_cfgStore (x : Pers) : (s.setPers x).cfgStore = s.cfgStore := rfl
@[simp] theorem State.setPers_kept (x : Pers) : (s.setPers x).kept = s.kept := rfl
@[simp] theorem State.setPers_leases (x : Pers) : (s.setPers x).leases = s.leases := rfl
@[simp] theorem State.setPers_mgp (x : Pers) : (s.setPers x).mgp = s.mgp := rfl
@[simp] theorem State.setPers_flt (x : Pers) : (s.setPers x).flt = s.flt := rfl
@[simp] theorem State.setPers_recd (x : Pers) : (s.setPers x).recd = s.recd := rfl
@[simp] theorem State.setPers_rst (x : Pers) : (s.setPers x).rst = s.rst := rfl
@[simp] theorem State.setPers_pwr (x : Pers) : (s.setPers x).pwr = s.pwr := rfl
@[simp] theorem State.setPers_pers (x : Pers) : (s.setPers x).pers = x := rfl
@[simp] theorem State.setPers_save (x : Pers) : (s.setPers x).save = s.save := rfl
@[simp] theorem State.setPers_arr (x : Pers) : (s.setPers x).arr = s.arr := rfl
@[simp] theorem State.setPers_farr (x : Pers) : (s.setPers x).farr = s.farr := rfl
@[simp] theorem State.setPers_mov (x : Pers) : (s.setPers x).mov = s.mov := rfl
@[simp] theorem State.setPers_rstr (x : Pers) : (s.setPers x).rstr = s.rstr := rfl
@[simp] theorem State.setPers_hlk (x : Pers) : (s.setPers x).hlk = s.hlk := rfl
@[simp] theorem State.setPers_drc (x : Pers) : (s.setPers x).drc = s.drc := rfl
@[simp] theorem State.setPers_strt (x : Pers) : (s.setPers x).strt = s.strt := rfl
@[simp] theorem State.setPers_atol (x : Pers) : (s.setPers x).atol = s.atol := rfl
@[simp] theorem State.setPers_twl (x : Pers) : (s.setPers x).twl = s.twl := rfl
@[simp] theorem State.setPers_mbox (x : Pers) : (s.setPers x).mbox = s.mbox := rfl
@[simp] theorem State.setPers_svc (x : Pers) : (s.setPers x).svc = s.svc := rfl
@[simp] theorem State.setPers_tst (x : Pers) : (s.setPers x).tst = s.tst := rfl
@[simp] theorem State.setPers_dscr (x : Pers) : (s.setPers x).dscr = s.dscr := rfl
@[simp] theorem State.setPers_upk (x : Pers) : (s.setPers x).upk = s.upk := rfl
@[simp] theorem State.setPers_out (x : Pers) : (s.setPers x).out = s.out := rfl
@[simp] theorem State.setPers_pending (x : Pers) : (s.setPers x).pending = s.pending := rfl

/-! ### setSave -/

@[simp] theorem State.setSave_mdl (x : Save) : (s.setSave x).mdl = s.mdl := rfl
@[simp] theorem State.setSave_regs (x : Save) : (s.setSave x).regs = s.regs := rfl
@[simp] theorem State.setSave_late (x : Save) : (s.setSave x).late = s.late := rfl
@[simp] theorem State.setSave_latch (x : Save) : (s.setSave x).latch = s.latch := rfl
@[simp] theorem State.setSave_now (x : Save) : (s.setSave x).now = s.now := rfl
@[simp] theorem State.setSave_freeCtr (x : Save) : (s.setSave x).freeCtr = s.freeCtr := rfl
@[simp] theorem State.setSave_dram (x : Save) : (s.setSave x).dram = s.dram := rfl
@[simp] theorem State.setSave_cfgStore (x : Save) : (s.setSave x).cfgStore = s.cfgStore := rfl
@[simp] theorem State.setSave_kept (x : Save) : (s.setSave x).kept = s.kept := rfl
@[simp] theorem State.setSave_leases (x : Save) : (s.setSave x).leases = s.leases := rfl
@[simp] theorem State.setSave_mgp (x : Save) : (s.setSave x).mgp = s.mgp := rfl
@[simp] theorem State.setSave_flt (x : Save) : (s.setSave x).flt = s.flt := rfl
@[simp] theorem State.setSave_recd (x : Save) : (s.setSave x).recd = s.recd := rfl
@[simp] theorem State.setSave_rst (x : Save) : (s.setSave x).rst = s.rst := rfl
@[simp] theorem State.setSave_pwr (x : Save) : (s.setSave x).pwr = s.pwr := rfl
@[simp] theorem State.setSave_pers (x : Save) : (s.setSave x).pers = s.pers := rfl
@[simp] theorem State.setSave_save (x : Save) : (s.setSave x).save = x := rfl
@[simp] theorem State.setSave_arr (x : Save) : (s.setSave x).arr = s.arr := rfl
@[simp] theorem State.setSave_farr (x : Save) : (s.setSave x).farr = s.farr := rfl
@[simp] theorem State.setSave_mov (x : Save) : (s.setSave x).mov = s.mov := rfl
@[simp] theorem State.setSave_rstr (x : Save) : (s.setSave x).rstr = s.rstr := rfl
@[simp] theorem State.setSave_hlk (x : Save) : (s.setSave x).hlk = s.hlk := rfl
@[simp] theorem State.setSave_drc (x : Save) : (s.setSave x).drc = s.drc := rfl
@[simp] theorem State.setSave_strt (x : Save) : (s.setSave x).strt = s.strt := rfl
@[simp] theorem State.setSave_atol (x : Save) : (s.setSave x).atol = s.atol := rfl
@[simp] theorem State.setSave_twl (x : Save) : (s.setSave x).twl = s.twl := rfl
@[simp] theorem State.setSave_mbox (x : Save) : (s.setSave x).mbox = s.mbox := rfl
@[simp] theorem State.setSave_svc (x : Save) : (s.setSave x).svc = s.svc := rfl
@[simp] theorem State.setSave_tst (x : Save) : (s.setSave x).tst = s.tst := rfl
@[simp] theorem State.setSave_dscr (x : Save) : (s.setSave x).dscr = s.dscr := rfl
@[simp] theorem State.setSave_upk (x : Save) : (s.setSave x).upk = s.upk := rfl
@[simp] theorem State.setSave_out (x : Save) : (s.setSave x).out = s.out := rfl
@[simp] theorem State.setSave_pending (x : Save) : (s.setSave x).pending = s.pending := rfl

/-! ### setArr -/

@[simp] theorem State.setArr_mdl (x : Arr) : (s.setArr x).mdl = s.mdl := rfl
@[simp] theorem State.setArr_regs (x : Arr) : (s.setArr x).regs = s.regs := rfl
@[simp] theorem State.setArr_late (x : Arr) : (s.setArr x).late = s.late := rfl
@[simp] theorem State.setArr_latch (x : Arr) : (s.setArr x).latch = s.latch := rfl
@[simp] theorem State.setArr_now (x : Arr) : (s.setArr x).now = s.now := rfl
@[simp] theorem State.setArr_freeCtr (x : Arr) : (s.setArr x).freeCtr = s.freeCtr := rfl
@[simp] theorem State.setArr_dram (x : Arr) : (s.setArr x).dram = s.dram := rfl
@[simp] theorem State.setArr_cfgStore (x : Arr) : (s.setArr x).cfgStore = s.cfgStore := rfl
@[simp] theorem State.setArr_kept (x : Arr) : (s.setArr x).kept = s.kept := rfl
@[simp] theorem State.setArr_leases (x : Arr) : (s.setArr x).leases = s.leases := rfl
@[simp] theorem State.setArr_mgp (x : Arr) : (s.setArr x).mgp = s.mgp := rfl
@[simp] theorem State.setArr_flt (x : Arr) : (s.setArr x).flt = s.flt := rfl
@[simp] theorem State.setArr_recd (x : Arr) : (s.setArr x).recd = s.recd := rfl
@[simp] theorem State.setArr_rst (x : Arr) : (s.setArr x).rst = s.rst := rfl
@[simp] theorem State.setArr_pwr (x : Arr) : (s.setArr x).pwr = s.pwr := rfl
@[simp] theorem State.setArr_pers (x : Arr) : (s.setArr x).pers = s.pers := rfl
@[simp] theorem State.setArr_save (x : Arr) : (s.setArr x).save = s.save := rfl
@[simp] theorem State.setArr_arr (x : Arr) : (s.setArr x).arr = x := rfl
@[simp] theorem State.setArr_farr (x : Arr) : (s.setArr x).farr = s.farr := rfl
@[simp] theorem State.setArr_mov (x : Arr) : (s.setArr x).mov = s.mov := rfl
@[simp] theorem State.setArr_rstr (x : Arr) : (s.setArr x).rstr = s.rstr := rfl
@[simp] theorem State.setArr_hlk (x : Arr) : (s.setArr x).hlk = s.hlk := rfl
@[simp] theorem State.setArr_drc (x : Arr) : (s.setArr x).drc = s.drc := rfl
@[simp] theorem State.setArr_strt (x : Arr) : (s.setArr x).strt = s.strt := rfl
@[simp] theorem State.setArr_atol (x : Arr) : (s.setArr x).atol = s.atol := rfl
@[simp] theorem State.setArr_twl (x : Arr) : (s.setArr x).twl = s.twl := rfl
@[simp] theorem State.setArr_mbox (x : Arr) : (s.setArr x).mbox = s.mbox := rfl
@[simp] theorem State.setArr_svc (x : Arr) : (s.setArr x).svc = s.svc := rfl
@[simp] theorem State.setArr_tst (x : Arr) : (s.setArr x).tst = s.tst := rfl
@[simp] theorem State.setArr_dscr (x : Arr) : (s.setArr x).dscr = s.dscr := rfl
@[simp] theorem State.setArr_upk (x : Arr) : (s.setArr x).upk = s.upk := rfl
@[simp] theorem State.setArr_out (x : Arr) : (s.setArr x).out = s.out := rfl
@[simp] theorem State.setArr_pending (x : Arr) : (s.setArr x).pending = s.pending := rfl

/-! ### setFarr -/

@[simp] theorem State.setFarr_mdl (x : Farr) : (s.setFarr x).mdl = s.mdl := rfl
@[simp] theorem State.setFarr_regs (x : Farr) : (s.setFarr x).regs = s.regs := rfl
@[simp] theorem State.setFarr_late (x : Farr) : (s.setFarr x).late = s.late := rfl
@[simp] theorem State.setFarr_latch (x : Farr) : (s.setFarr x).latch = s.latch := rfl
@[simp] theorem State.setFarr_now (x : Farr) : (s.setFarr x).now = s.now := rfl
@[simp] theorem State.setFarr_freeCtr (x : Farr) : (s.setFarr x).freeCtr = s.freeCtr := rfl
@[simp] theorem State.setFarr_dram (x : Farr) : (s.setFarr x).dram = s.dram := rfl
@[simp] theorem State.setFarr_cfgStore (x : Farr) : (s.setFarr x).cfgStore = s.cfgStore := rfl
@[simp] theorem State.setFarr_kept (x : Farr) : (s.setFarr x).kept = s.kept := rfl
@[simp] theorem State.setFarr_leases (x : Farr) : (s.setFarr x).leases = s.leases := rfl
@[simp] theorem State.setFarr_mgp (x : Farr) : (s.setFarr x).mgp = s.mgp := rfl
@[simp] theorem State.setFarr_flt (x : Farr) : (s.setFarr x).flt = s.flt := rfl
@[simp] theorem State.setFarr_recd (x : Farr) : (s.setFarr x).recd = s.recd := rfl
@[simp] theorem State.setFarr_rst (x : Farr) : (s.setFarr x).rst = s.rst := rfl
@[simp] theorem State.setFarr_pwr (x : Farr) : (s.setFarr x).pwr = s.pwr := rfl
@[simp] theorem State.setFarr_pers (x : Farr) : (s.setFarr x).pers = s.pers := rfl
@[simp] theorem State.setFarr_save (x : Farr) : (s.setFarr x).save = s.save := rfl
@[simp] theorem State.setFarr_arr (x : Farr) : (s.setFarr x).arr = s.arr := rfl
@[simp] theorem State.setFarr_farr (x : Farr) : (s.setFarr x).farr = x := rfl
@[simp] theorem State.setFarr_mov (x : Farr) : (s.setFarr x).mov = s.mov := rfl
@[simp] theorem State.setFarr_rstr (x : Farr) : (s.setFarr x).rstr = s.rstr := rfl
@[simp] theorem State.setFarr_hlk (x : Farr) : (s.setFarr x).hlk = s.hlk := rfl
@[simp] theorem State.setFarr_drc (x : Farr) : (s.setFarr x).drc = s.drc := rfl
@[simp] theorem State.setFarr_strt (x : Farr) : (s.setFarr x).strt = s.strt := rfl
@[simp] theorem State.setFarr_atol (x : Farr) : (s.setFarr x).atol = s.atol := rfl
@[simp] theorem State.setFarr_twl (x : Farr) : (s.setFarr x).twl = s.twl := rfl
@[simp] theorem State.setFarr_mbox (x : Farr) : (s.setFarr x).mbox = s.mbox := rfl
@[simp] theorem State.setFarr_svc (x : Farr) : (s.setFarr x).svc = s.svc := rfl
@[simp] theorem State.setFarr_tst (x : Farr) : (s.setFarr x).tst = s.tst := rfl
@[simp] theorem State.setFarr_dscr (x : Farr) : (s.setFarr x).dscr = s.dscr := rfl
@[simp] theorem State.setFarr_upk (x : Farr) : (s.setFarr x).upk = s.upk := rfl
@[simp] theorem State.setFarr_out (x : Farr) : (s.setFarr x).out = s.out := rfl
@[simp] theorem State.setFarr_pending (x : Farr) : (s.setFarr x).pending = s.pending := rfl

/-! ### setMov -/

@[simp] theorem State.setMov_mdl (x : Mov) : (s.setMov x).mdl = s.mdl := rfl
@[simp] theorem State.setMov_regs (x : Mov) : (s.setMov x).regs = s.regs := rfl
@[simp] theorem State.setMov_late (x : Mov) : (s.setMov x).late = s.late := rfl
@[simp] theorem State.setMov_latch (x : Mov) : (s.setMov x).latch = s.latch := rfl
@[simp] theorem State.setMov_now (x : Mov) : (s.setMov x).now = s.now := rfl
@[simp] theorem State.setMov_freeCtr (x : Mov) : (s.setMov x).freeCtr = s.freeCtr := rfl
@[simp] theorem State.setMov_dram (x : Mov) : (s.setMov x).dram = s.dram := rfl
@[simp] theorem State.setMov_cfgStore (x : Mov) : (s.setMov x).cfgStore = s.cfgStore := rfl
@[simp] theorem State.setMov_kept (x : Mov) : (s.setMov x).kept = s.kept := rfl
@[simp] theorem State.setMov_leases (x : Mov) : (s.setMov x).leases = s.leases := rfl
@[simp] theorem State.setMov_mgp (x : Mov) : (s.setMov x).mgp = s.mgp := rfl
@[simp] theorem State.setMov_flt (x : Mov) : (s.setMov x).flt = s.flt := rfl
@[simp] theorem State.setMov_recd (x : Mov) : (s.setMov x).recd = s.recd := rfl
@[simp] theorem State.setMov_rst (x : Mov) : (s.setMov x).rst = s.rst := rfl
@[simp] theorem State.setMov_pwr (x : Mov) : (s.setMov x).pwr = s.pwr := rfl
@[simp] theorem State.setMov_pers (x : Mov) : (s.setMov x).pers = s.pers := rfl
@[simp] theorem State.setMov_save (x : Mov) : (s.setMov x).save = s.save := rfl
@[simp] theorem State.setMov_arr (x : Mov) : (s.setMov x).arr = s.arr := rfl
@[simp] theorem State.setMov_farr (x : Mov) : (s.setMov x).farr = s.farr := rfl
@[simp] theorem State.setMov_mov (x : Mov) : (s.setMov x).mov = x := rfl
@[simp] theorem State.setMov_rstr (x : Mov) : (s.setMov x).rstr = s.rstr := rfl
@[simp] theorem State.setMov_hlk (x : Mov) : (s.setMov x).hlk = s.hlk := rfl
@[simp] theorem State.setMov_drc (x : Mov) : (s.setMov x).drc = s.drc := rfl
@[simp] theorem State.setMov_strt (x : Mov) : (s.setMov x).strt = s.strt := rfl
@[simp] theorem State.setMov_atol (x : Mov) : (s.setMov x).atol = s.atol := rfl
@[simp] theorem State.setMov_twl (x : Mov) : (s.setMov x).twl = s.twl := rfl
@[simp] theorem State.setMov_mbox (x : Mov) : (s.setMov x).mbox = s.mbox := rfl
@[simp] theorem State.setMov_svc (x : Mov) : (s.setMov x).svc = s.svc := rfl
@[simp] theorem State.setMov_tst (x : Mov) : (s.setMov x).tst = s.tst := rfl
@[simp] theorem State.setMov_dscr (x : Mov) : (s.setMov x).dscr = s.dscr := rfl
@[simp] theorem State.setMov_upk (x : Mov) : (s.setMov x).upk = s.upk := rfl
@[simp] theorem State.setMov_out (x : Mov) : (s.setMov x).out = s.out := rfl
@[simp] theorem State.setMov_pending (x : Mov) : (s.setMov x).pending = s.pending := rfl

/-! ### setRstr -/

@[simp] theorem State.setRstr_mdl (x : Rstr) : (s.setRstr x).mdl = s.mdl := rfl
@[simp] theorem State.setRstr_regs (x : Rstr) : (s.setRstr x).regs = s.regs := rfl
@[simp] theorem State.setRstr_late (x : Rstr) : (s.setRstr x).late = s.late := rfl
@[simp] theorem State.setRstr_latch (x : Rstr) : (s.setRstr x).latch = s.latch := rfl
@[simp] theorem State.setRstr_now (x : Rstr) : (s.setRstr x).now = s.now := rfl
@[simp] theorem State.setRstr_freeCtr (x : Rstr) : (s.setRstr x).freeCtr = s.freeCtr := rfl
@[simp] theorem State.setRstr_dram (x : Rstr) : (s.setRstr x).dram = s.dram := rfl
@[simp] theorem State.setRstr_cfgStore (x : Rstr) : (s.setRstr x).cfgStore = s.cfgStore := rfl
@[simp] theorem State.setRstr_kept (x : Rstr) : (s.setRstr x).kept = s.kept := rfl
@[simp] theorem State.setRstr_leases (x : Rstr) : (s.setRstr x).leases = s.leases := rfl
@[simp] theorem State.setRstr_mgp (x : Rstr) : (s.setRstr x).mgp = s.mgp := rfl
@[simp] theorem State.setRstr_flt (x : Rstr) : (s.setRstr x).flt = s.flt := rfl
@[simp] theorem State.setRstr_recd (x : Rstr) : (s.setRstr x).recd = s.recd := rfl
@[simp] theorem State.setRstr_rst (x : Rstr) : (s.setRstr x).rst = s.rst := rfl
@[simp] theorem State.setRstr_pwr (x : Rstr) : (s.setRstr x).pwr = s.pwr := rfl
@[simp] theorem State.setRstr_pers (x : Rstr) : (s.setRstr x).pers = s.pers := rfl
@[simp] theorem State.setRstr_save (x : Rstr) : (s.setRstr x).save = s.save := rfl
@[simp] theorem State.setRstr_arr (x : Rstr) : (s.setRstr x).arr = s.arr := rfl
@[simp] theorem State.setRstr_farr (x : Rstr) : (s.setRstr x).farr = s.farr := rfl
@[simp] theorem State.setRstr_mov (x : Rstr) : (s.setRstr x).mov = s.mov := rfl
@[simp] theorem State.setRstr_rstr (x : Rstr) : (s.setRstr x).rstr = x := rfl
@[simp] theorem State.setRstr_hlk (x : Rstr) : (s.setRstr x).hlk = s.hlk := rfl
@[simp] theorem State.setRstr_drc (x : Rstr) : (s.setRstr x).drc = s.drc := rfl
@[simp] theorem State.setRstr_strt (x : Rstr) : (s.setRstr x).strt = s.strt := rfl
@[simp] theorem State.setRstr_atol (x : Rstr) : (s.setRstr x).atol = s.atol := rfl
@[simp] theorem State.setRstr_twl (x : Rstr) : (s.setRstr x).twl = s.twl := rfl
@[simp] theorem State.setRstr_mbox (x : Rstr) : (s.setRstr x).mbox = s.mbox := rfl
@[simp] theorem State.setRstr_svc (x : Rstr) : (s.setRstr x).svc = s.svc := rfl
@[simp] theorem State.setRstr_tst (x : Rstr) : (s.setRstr x).tst = s.tst := rfl
@[simp] theorem State.setRstr_dscr (x : Rstr) : (s.setRstr x).dscr = s.dscr := rfl
@[simp] theorem State.setRstr_upk (x : Rstr) : (s.setRstr x).upk = s.upk := rfl
@[simp] theorem State.setRstr_out (x : Rstr) : (s.setRstr x).out = s.out := rfl
@[simp] theorem State.setRstr_pending (x : Rstr) : (s.setRstr x).pending = s.pending := rfl

/-! ### setFlt -/

@[simp] theorem State.setFlt_mdl (x : Flt) : (s.setFlt x).mdl = s.mdl := rfl
@[simp] theorem State.setFlt_regs (x : Flt) : (s.setFlt x).regs = s.regs := rfl
@[simp] theorem State.setFlt_late (x : Flt) : (s.setFlt x).late = s.late := rfl
@[simp] theorem State.setFlt_latch (x : Flt) : (s.setFlt x).latch = s.latch := rfl
@[simp] theorem State.setFlt_now (x : Flt) : (s.setFlt x).now = s.now := rfl
@[simp] theorem State.setFlt_freeCtr (x : Flt) : (s.setFlt x).freeCtr = s.freeCtr := rfl
@[simp] theorem State.setFlt_dram (x : Flt) : (s.setFlt x).dram = s.dram := rfl
@[simp] theorem State.setFlt_cfgStore (x : Flt) : (s.setFlt x).cfgStore = s.cfgStore := rfl
@[simp] theorem State.setFlt_kept (x : Flt) : (s.setFlt x).kept = s.kept := rfl
@[simp] theorem State.setFlt_leases (x : Flt) : (s.setFlt x).leases = s.leases := rfl
@[simp] theorem State.setFlt_mgp (x : Flt) : (s.setFlt x).mgp = s.mgp := rfl
@[simp] theorem State.setFlt_flt (x : Flt) : (s.setFlt x).flt = x := rfl
@[simp] theorem State.setFlt_recd (x : Flt) : (s.setFlt x).recd = s.recd := rfl
@[simp] theorem State.setFlt_rst (x : Flt) : (s.setFlt x).rst = s.rst := rfl
@[simp] theorem State.setFlt_pwr (x : Flt) : (s.setFlt x).pwr = s.pwr := rfl
@[simp] theorem State.setFlt_pers (x : Flt) : (s.setFlt x).pers = s.pers := rfl
@[simp] theorem State.setFlt_save (x : Flt) : (s.setFlt x).save = s.save := rfl
@[simp] theorem State.setFlt_arr (x : Flt) : (s.setFlt x).arr = s.arr := rfl
@[simp] theorem State.setFlt_farr (x : Flt) : (s.setFlt x).farr = s.farr := rfl
@[simp] theorem State.setFlt_mov (x : Flt) : (s.setFlt x).mov = s.mov := rfl
@[simp] theorem State.setFlt_rstr (x : Flt) : (s.setFlt x).rstr = s.rstr := rfl
@[simp] theorem State.setFlt_hlk (x : Flt) : (s.setFlt x).hlk = s.hlk := rfl
@[simp] theorem State.setFlt_drc (x : Flt) : (s.setFlt x).drc = s.drc := rfl
@[simp] theorem State.setFlt_strt (x : Flt) : (s.setFlt x).strt = s.strt := rfl
@[simp] theorem State.setFlt_atol (x : Flt) : (s.setFlt x).atol = s.atol := rfl
@[simp] theorem State.setFlt_twl (x : Flt) : (s.setFlt x).twl = s.twl := rfl
@[simp] theorem State.setFlt_mbox (x : Flt) : (s.setFlt x).mbox = s.mbox := rfl
@[simp] theorem State.setFlt_svc (x : Flt) : (s.setFlt x).svc = s.svc := rfl
@[simp] theorem State.setFlt_tst (x : Flt) : (s.setFlt x).tst = s.tst := rfl
@[simp] theorem State.setFlt_dscr (x : Flt) : (s.setFlt x).dscr = s.dscr := rfl
@[simp] theorem State.setFlt_upk (x : Flt) : (s.setFlt x).upk = s.upk := rfl
@[simp] theorem State.setFlt_out (x : Flt) : (s.setFlt x).out = s.out := rfl
@[simp] theorem State.setFlt_pending (x : Flt) : (s.setFlt x).pending = s.pending := rfl

/-! ### setRecd -/

@[simp] theorem State.setRecd_mdl (x : Recorder) : (s.setRecd x).mdl = s.mdl := rfl
@[simp] theorem State.setRecd_regs (x : Recorder) : (s.setRecd x).regs = s.regs := rfl
@[simp] theorem State.setRecd_late (x : Recorder) : (s.setRecd x).late = s.late := rfl
@[simp] theorem State.setRecd_latch (x : Recorder) : (s.setRecd x).latch = s.latch := rfl
@[simp] theorem State.setRecd_now (x : Recorder) : (s.setRecd x).now = s.now := rfl
@[simp] theorem State.setRecd_freeCtr (x : Recorder) : (s.setRecd x).freeCtr = s.freeCtr := rfl
@[simp] theorem State.setRecd_dram (x : Recorder) : (s.setRecd x).dram = s.dram := rfl
@[simp] theorem State.setRecd_cfgStore (x : Recorder) : (s.setRecd x).cfgStore = s.cfgStore := rfl
@[simp] theorem State.setRecd_kept (x : Recorder) : (s.setRecd x).kept = s.kept := rfl
@[simp] theorem State.setRecd_leases (x : Recorder) : (s.setRecd x).leases = s.leases := rfl
@[simp] theorem State.setRecd_mgp (x : Recorder) : (s.setRecd x).mgp = s.mgp := rfl
@[simp] theorem State.setRecd_flt (x : Recorder) : (s.setRecd x).flt = s.flt := rfl
@[simp] theorem State.setRecd_recd (x : Recorder) : (s.setRecd x).recd = x := rfl
@[simp] theorem State.setRecd_rst (x : Recorder) : (s.setRecd x).rst = s.rst := rfl
@[simp] theorem State.setRecd_pwr (x : Recorder) : (s.setRecd x).pwr = s.pwr := rfl
@[simp] theorem State.setRecd_pers (x : Recorder) : (s.setRecd x).pers = s.pers := rfl
@[simp] theorem State.setRecd_save (x : Recorder) : (s.setRecd x).save = s.save := rfl
@[simp] theorem State.setRecd_arr (x : Recorder) : (s.setRecd x).arr = s.arr := rfl
@[simp] theorem State.setRecd_farr (x : Recorder) : (s.setRecd x).farr = s.farr := rfl
@[simp] theorem State.setRecd_mov (x : Recorder) : (s.setRecd x).mov = s.mov := rfl
@[simp] theorem State.setRecd_rstr (x : Recorder) : (s.setRecd x).rstr = s.rstr := rfl
@[simp] theorem State.setRecd_hlk (x : Recorder) : (s.setRecd x).hlk = s.hlk := rfl
@[simp] theorem State.setRecd_drc (x : Recorder) : (s.setRecd x).drc = s.drc := rfl
@[simp] theorem State.setRecd_strt (x : Recorder) : (s.setRecd x).strt = s.strt := rfl
@[simp] theorem State.setRecd_atol (x : Recorder) : (s.setRecd x).atol = s.atol := rfl
@[simp] theorem State.setRecd_twl (x : Recorder) : (s.setRecd x).twl = s.twl := rfl
@[simp] theorem State.setRecd_mbox (x : Recorder) : (s.setRecd x).mbox = s.mbox := rfl
@[simp] theorem State.setRecd_svc (x : Recorder) : (s.setRecd x).svc = s.svc := rfl
@[simp] theorem State.setRecd_tst (x : Recorder) : (s.setRecd x).tst = s.tst := rfl
@[simp] theorem State.setRecd_dscr (x : Recorder) : (s.setRecd x).dscr = s.dscr := rfl
@[simp] theorem State.setRecd_upk (x : Recorder) : (s.setRecd x).upk = s.upk := rfl
@[simp] theorem State.setRecd_out (x : Recorder) : (s.setRecd x).out = s.out := rfl
@[simp] theorem State.setRecd_pending (x : Recorder) : (s.setRecd x).pending = s.pending := rfl

/-! ### setRst -/

@[simp] theorem State.setRst_mdl (x : Rst) : (s.setRst x).mdl = s.mdl := rfl
@[simp] theorem State.setRst_regs (x : Rst) : (s.setRst x).regs = s.regs := rfl
@[simp] theorem State.setRst_late (x : Rst) : (s.setRst x).late = s.late := rfl
@[simp] theorem State.setRst_latch (x : Rst) : (s.setRst x).latch = s.latch := rfl
@[simp] theorem State.setRst_now (x : Rst) : (s.setRst x).now = s.now := rfl
@[simp] theorem State.setRst_freeCtr (x : Rst) : (s.setRst x).freeCtr = s.freeCtr := rfl
@[simp] theorem State.setRst_dram (x : Rst) : (s.setRst x).dram = s.dram := rfl
@[simp] theorem State.setRst_cfgStore (x : Rst) : (s.setRst x).cfgStore = s.cfgStore := rfl
@[simp] theorem State.setRst_kept (x : Rst) : (s.setRst x).kept = s.kept := rfl
@[simp] theorem State.setRst_leases (x : Rst) : (s.setRst x).leases = s.leases := rfl
@[simp] theorem State.setRst_mgp (x : Rst) : (s.setRst x).mgp = s.mgp := rfl
@[simp] theorem State.setRst_flt (x : Rst) : (s.setRst x).flt = s.flt := rfl
@[simp] theorem State.setRst_recd (x : Rst) : (s.setRst x).recd = s.recd := rfl
@[simp] theorem State.setRst_rst (x : Rst) : (s.setRst x).rst = x := rfl
@[simp] theorem State.setRst_pwr (x : Rst) : (s.setRst x).pwr = s.pwr := rfl
@[simp] theorem State.setRst_pers (x : Rst) : (s.setRst x).pers = s.pers := rfl
@[simp] theorem State.setRst_save (x : Rst) : (s.setRst x).save = s.save := rfl
@[simp] theorem State.setRst_arr (x : Rst) : (s.setRst x).arr = s.arr := rfl
@[simp] theorem State.setRst_farr (x : Rst) : (s.setRst x).farr = s.farr := rfl
@[simp] theorem State.setRst_mov (x : Rst) : (s.setRst x).mov = s.mov := rfl
@[simp] theorem State.setRst_rstr (x : Rst) : (s.setRst x).rstr = s.rstr := rfl
@[simp] theorem State.setRst_hlk (x : Rst) : (s.setRst x).hlk = s.hlk := rfl
@[simp] theorem State.setRst_drc (x : Rst) : (s.setRst x).drc = s.drc := rfl
@[simp] theorem State.setRst_strt (x : Rst) : (s.setRst x).strt = s.strt := rfl
@[simp] theorem State.setRst_atol (x : Rst) : (s.setRst x).atol = s.atol := rfl
@[simp] theorem State.setRst_twl (x : Rst) : (s.setRst x).twl = s.twl := rfl
@[simp] theorem State.setRst_mbox (x : Rst) : (s.setRst x).mbox = s.mbox := rfl
@[simp] theorem State.setRst_svc (x : Rst) : (s.setRst x).svc = s.svc := rfl
@[simp] theorem State.setRst_tst (x : Rst) : (s.setRst x).tst = s.tst := rfl
@[simp] theorem State.setRst_dscr (x : Rst) : (s.setRst x).dscr = s.dscr := rfl
@[simp] theorem State.setRst_upk (x : Rst) : (s.setRst x).upk = s.upk := rfl
@[simp] theorem State.setRst_out (x : Rst) : (s.setRst x).out = s.out := rfl
@[simp] theorem State.setRst_pending (x : Rst) : (s.setRst x).pending = s.pending := rfl

/-! ### setPwr -/

@[simp] theorem State.setPwr_mdl (x : Pwr) : (s.setPwr x).mdl = s.mdl := rfl
@[simp] theorem State.setPwr_regs (x : Pwr) : (s.setPwr x).regs = s.regs := rfl
@[simp] theorem State.setPwr_late (x : Pwr) : (s.setPwr x).late = s.late := rfl
@[simp] theorem State.setPwr_latch (x : Pwr) : (s.setPwr x).latch = s.latch := rfl
@[simp] theorem State.setPwr_now (x : Pwr) : (s.setPwr x).now = s.now := rfl
@[simp] theorem State.setPwr_freeCtr (x : Pwr) : (s.setPwr x).freeCtr = s.freeCtr := rfl
@[simp] theorem State.setPwr_dram (x : Pwr) : (s.setPwr x).dram = s.dram := rfl
@[simp] theorem State.setPwr_cfgStore (x : Pwr) : (s.setPwr x).cfgStore = s.cfgStore := rfl
@[simp] theorem State.setPwr_kept (x : Pwr) : (s.setPwr x).kept = s.kept := rfl
@[simp] theorem State.setPwr_leases (x : Pwr) : (s.setPwr x).leases = s.leases := rfl
@[simp] theorem State.setPwr_mgp (x : Pwr) : (s.setPwr x).mgp = s.mgp := rfl
@[simp] theorem State.setPwr_flt (x : Pwr) : (s.setPwr x).flt = s.flt := rfl
@[simp] theorem State.setPwr_recd (x : Pwr) : (s.setPwr x).recd = s.recd := rfl
@[simp] theorem State.setPwr_rst (x : Pwr) : (s.setPwr x).rst = s.rst := rfl
@[simp] theorem State.setPwr_pwr (x : Pwr) : (s.setPwr x).pwr = x := rfl
@[simp] theorem State.setPwr_pers (x : Pwr) : (s.setPwr x).pers = s.pers := rfl
@[simp] theorem State.setPwr_save (x : Pwr) : (s.setPwr x).save = s.save := rfl
@[simp] theorem State.setPwr_arr (x : Pwr) : (s.setPwr x).arr = s.arr := rfl
@[simp] theorem State.setPwr_farr (x : Pwr) : (s.setPwr x).farr = s.farr := rfl
@[simp] theorem State.setPwr_mov (x : Pwr) : (s.setPwr x).mov = s.mov := rfl
@[simp] theorem State.setPwr_rstr (x : Pwr) : (s.setPwr x).rstr = s.rstr := rfl
@[simp] theorem State.setPwr_hlk (x : Pwr) : (s.setPwr x).hlk = s.hlk := rfl
@[simp] theorem State.setPwr_drc (x : Pwr) : (s.setPwr x).drc = s.drc := rfl
@[simp] theorem State.setPwr_strt (x : Pwr) : (s.setPwr x).strt = s.strt := rfl
@[simp] theorem State.setPwr_atol (x : Pwr) : (s.setPwr x).atol = s.atol := rfl
@[simp] theorem State.setPwr_twl (x : Pwr) : (s.setPwr x).twl = s.twl := rfl
@[simp] theorem State.setPwr_mbox (x : Pwr) : (s.setPwr x).mbox = s.mbox := rfl
@[simp] theorem State.setPwr_svc (x : Pwr) : (s.setPwr x).svc = s.svc := rfl
@[simp] theorem State.setPwr_tst (x : Pwr) : (s.setPwr x).tst = s.tst := rfl
@[simp] theorem State.setPwr_dscr (x : Pwr) : (s.setPwr x).dscr = s.dscr := rfl
@[simp] theorem State.setPwr_upk (x : Pwr) : (s.setPwr x).upk = s.upk := rfl
@[simp] theorem State.setPwr_out (x : Pwr) : (s.setPwr x).out = s.out := rfl
@[simp] theorem State.setPwr_pending (x : Pwr) : (s.setPwr x).pending = s.pending := rfl

/-! ### setMgp -/

@[simp] theorem State.setMgp_mdl (x : Mgp) : (s.setMgp x).mdl = s.mdl := rfl
@[simp] theorem State.setMgp_regs (x : Mgp) : (s.setMgp x).regs = s.regs := rfl
@[simp] theorem State.setMgp_late (x : Mgp) : (s.setMgp x).late = s.late := rfl
@[simp] theorem State.setMgp_latch (x : Mgp) : (s.setMgp x).latch = s.latch := rfl
@[simp] theorem State.setMgp_now (x : Mgp) : (s.setMgp x).now = s.now := rfl
@[simp] theorem State.setMgp_freeCtr (x : Mgp) : (s.setMgp x).freeCtr = s.freeCtr := rfl
@[simp] theorem State.setMgp_dram (x : Mgp) : (s.setMgp x).dram = s.dram := rfl
@[simp] theorem State.setMgp_cfgStore (x : Mgp) : (s.setMgp x).cfgStore = s.cfgStore := rfl
@[simp] theorem State.setMgp_kept (x : Mgp) : (s.setMgp x).kept = s.kept := rfl
@[simp] theorem State.setMgp_leases (x : Mgp) : (s.setMgp x).leases = s.leases := rfl
@[simp] theorem State.setMgp_mgp (x : Mgp) : (s.setMgp x).mgp = x := rfl
@[simp] theorem State.setMgp_flt (x : Mgp) : (s.setMgp x).flt = s.flt := rfl
@[simp] theorem State.setMgp_recd (x : Mgp) : (s.setMgp x).recd = s.recd := rfl
@[simp] theorem State.setMgp_rst (x : Mgp) : (s.setMgp x).rst = s.rst := rfl
@[simp] theorem State.setMgp_pwr (x : Mgp) : (s.setMgp x).pwr = s.pwr := rfl
@[simp] theorem State.setMgp_pers (x : Mgp) : (s.setMgp x).pers = s.pers := rfl
@[simp] theorem State.setMgp_save (x : Mgp) : (s.setMgp x).save = s.save := rfl
@[simp] theorem State.setMgp_arr (x : Mgp) : (s.setMgp x).arr = s.arr := rfl
@[simp] theorem State.setMgp_farr (x : Mgp) : (s.setMgp x).farr = s.farr := rfl
@[simp] theorem State.setMgp_mov (x : Mgp) : (s.setMgp x).mov = s.mov := rfl
@[simp] theorem State.setMgp_rstr (x : Mgp) : (s.setMgp x).rstr = s.rstr := rfl
@[simp] theorem State.setMgp_hlk (x : Mgp) : (s.setMgp x).hlk = s.hlk := rfl
@[simp] theorem State.setMgp_drc (x : Mgp) : (s.setMgp x).drc = s.drc := rfl
@[simp] theorem State.setMgp_strt (x : Mgp) : (s.setMgp x).strt = s.strt := rfl
@[simp] theorem State.setMgp_atol (x : Mgp) : (s.setMgp x).atol = s.atol := rfl
@[simp] theorem State.setMgp_twl (x : Mgp) : (s.setMgp x).twl = s.twl := rfl
@[simp] theorem State.setMgp_mbox (x : Mgp) : (s.setMgp x).mbox = s.mbox := rfl
@[simp] theorem State.setMgp_svc (x : Mgp) : (s.setMgp x).svc = s.svc := rfl
@[simp] theorem State.setMgp_tst (x : Mgp) : (s.setMgp x).tst = s.tst := rfl
@[simp] theorem State.setMgp_dscr (x : Mgp) : (s.setMgp x).dscr = s.dscr := rfl
@[simp] theorem State.setMgp_upk (x : Mgp) : (s.setMgp x).upk = s.upk := rfl
@[simp] theorem State.setMgp_out (x : Mgp) : (s.setMgp x).out = s.out := rfl
@[simp] theorem State.setMgp_pending (x : Mgp) : (s.setMgp x).pending = s.pending := rfl

/-! ### setHlk -/

@[simp] theorem State.setHlk_mdl (x : Hlk) : (s.setHlk x).mdl = s.mdl := rfl
@[simp] theorem State.setHlk_regs (x : Hlk) : (s.setHlk x).regs = s.regs := rfl
@[simp] theorem State.setHlk_late (x : Hlk) : (s.setHlk x).late = s.late := rfl
@[simp] theorem State.setHlk_latch (x : Hlk) : (s.setHlk x).latch = s.latch := rfl
@[simp] theorem State.setHlk_now (x : Hlk) : (s.setHlk x).now = s.now := rfl
@[simp] theorem State.setHlk_freeCtr (x : Hlk) : (s.setHlk x).freeCtr = s.freeCtr := rfl
@[simp] theorem State.setHlk_dram (x : Hlk) : (s.setHlk x).dram = s.dram := rfl
@[simp] theorem State.setHlk_cfgStore (x : Hlk) : (s.setHlk x).cfgStore = s.cfgStore := rfl
@[simp] theorem State.setHlk_kept (x : Hlk) : (s.setHlk x).kept = s.kept := rfl
@[simp] theorem State.setHlk_leases (x : Hlk) : (s.setHlk x).leases = s.leases := rfl
@[simp] theorem State.setHlk_mgp (x : Hlk) : (s.setHlk x).mgp = s.mgp := rfl
@[simp] theorem State.setHlk_flt (x : Hlk) : (s.setHlk x).flt = s.flt := rfl
@[simp] theorem State.setHlk_recd (x : Hlk) : (s.setHlk x).recd = s.recd := rfl
@[simp] theorem State.setHlk_rst (x : Hlk) : (s.setHlk x).rst = s.rst := rfl
@[simp] theorem State.setHlk_pwr (x : Hlk) : (s.setHlk x).pwr = s.pwr := rfl
@[simp] theorem State.setHlk_pers (x : Hlk) : (s.setHlk x).pers = s.pers := rfl
@[simp] theorem State.setHlk_save (x : Hlk) : (s.setHlk x).save = s.save := rfl
@[simp] theorem State.setHlk_arr (x : Hlk) : (s.setHlk x).arr = s.arr := rfl
@[simp] theorem State.setHlk_farr (x : Hlk) : (s.setHlk x).farr = s.farr := rfl
@[simp] theorem State.setHlk_mov (x : Hlk) : (s.setHlk x).mov = s.mov := rfl
@[simp] theorem State.setHlk_rstr (x : Hlk) : (s.setHlk x).rstr = s.rstr := rfl
@[simp] theorem State.setHlk_hlk (x : Hlk) : (s.setHlk x).hlk = x := rfl
@[simp] theorem State.setHlk_drc (x : Hlk) : (s.setHlk x).drc = s.drc := rfl
@[simp] theorem State.setHlk_strt (x : Hlk) : (s.setHlk x).strt = s.strt := rfl
@[simp] theorem State.setHlk_atol (x : Hlk) : (s.setHlk x).atol = s.atol := rfl
@[simp] theorem State.setHlk_twl (x : Hlk) : (s.setHlk x).twl = s.twl := rfl
@[simp] theorem State.setHlk_mbox (x : Hlk) : (s.setHlk x).mbox = s.mbox := rfl
@[simp] theorem State.setHlk_svc (x : Hlk) : (s.setHlk x).svc = s.svc := rfl
@[simp] theorem State.setHlk_tst (x : Hlk) : (s.setHlk x).tst = s.tst := rfl
@[simp] theorem State.setHlk_dscr (x : Hlk) : (s.setHlk x).dscr = s.dscr := rfl
@[simp] theorem State.setHlk_upk (x : Hlk) : (s.setHlk x).upk = s.upk := rfl
@[simp] theorem State.setHlk_out (x : Hlk) : (s.setHlk x).out = s.out := rfl
@[simp] theorem State.setHlk_pending (x : Hlk) : (s.setHlk x).pending = s.pending := rfl

/-! ### setDrc -/

@[simp] theorem State.setDrc_mdl (x : Drc) : (s.setDrc x).mdl = s.mdl := rfl
@[simp] theorem State.setDrc_regs (x : Drc) : (s.setDrc x).regs = s.regs := rfl
@[simp] theorem State.setDrc_late (x : Drc) : (s.setDrc x).late = s.late := rfl
@[simp] theorem State.setDrc_latch (x : Drc) : (s.setDrc x).latch = s.latch := rfl
@[simp] theorem State.setDrc_now (x : Drc) : (s.setDrc x).now = s.now := rfl
@[simp] theorem State.setDrc_freeCtr (x : Drc) : (s.setDrc x).freeCtr = s.freeCtr := rfl
@[simp] theorem State.setDrc_dram (x : Drc) : (s.setDrc x).dram = s.dram := rfl
@[simp] theorem State.setDrc_cfgStore (x : Drc) : (s.setDrc x).cfgStore = s.cfgStore := rfl
@[simp] theorem State.setDrc_kept (x : Drc) : (s.setDrc x).kept = s.kept := rfl
@[simp] theorem State.setDrc_leases (x : Drc) : (s.setDrc x).leases = s.leases := rfl
@[simp] theorem State.setDrc_mgp (x : Drc) : (s.setDrc x).mgp = s.mgp := rfl
@[simp] theorem State.setDrc_flt (x : Drc) : (s.setDrc x).flt = s.flt := rfl
@[simp] theorem State.setDrc_recd (x : Drc) : (s.setDrc x).recd = s.recd := rfl
@[simp] theorem State.setDrc_rst (x : Drc) : (s.setDrc x).rst = s.rst := rfl
@[simp] theorem State.setDrc_pwr (x : Drc) : (s.setDrc x).pwr = s.pwr := rfl
@[simp] theorem State.setDrc_pers (x : Drc) : (s.setDrc x).pers = s.pers := rfl
@[simp] theorem State.setDrc_save (x : Drc) : (s.setDrc x).save = s.save := rfl
@[simp] theorem State.setDrc_arr (x : Drc) : (s.setDrc x).arr = s.arr := rfl
@[simp] theorem State.setDrc_farr (x : Drc) : (s.setDrc x).farr = s.farr := rfl
@[simp] theorem State.setDrc_mov (x : Drc) : (s.setDrc x).mov = s.mov := rfl
@[simp] theorem State.setDrc_rstr (x : Drc) : (s.setDrc x).rstr = s.rstr := rfl
@[simp] theorem State.setDrc_hlk (x : Drc) : (s.setDrc x).hlk = s.hlk := rfl
@[simp] theorem State.setDrc_drc (x : Drc) : (s.setDrc x).drc = x := rfl
@[simp] theorem State.setDrc_strt (x : Drc) : (s.setDrc x).strt = s.strt := rfl
@[simp] theorem State.setDrc_atol (x : Drc) : (s.setDrc x).atol = s.atol := rfl
@[simp] theorem State.setDrc_twl (x : Drc) : (s.setDrc x).twl = s.twl := rfl
@[simp] theorem State.setDrc_mbox (x : Drc) : (s.setDrc x).mbox = s.mbox := rfl
@[simp] theorem State.setDrc_svc (x : Drc) : (s.setDrc x).svc = s.svc := rfl
@[simp] theorem State.setDrc_tst (x : Drc) : (s.setDrc x).tst = s.tst := rfl
@[simp] theorem State.setDrc_dscr (x : Drc) : (s.setDrc x).dscr = s.dscr := rfl
@[simp] theorem State.setDrc_upk (x : Drc) : (s.setDrc x).upk = s.upk := rfl
@[simp] theorem State.setDrc_out (x : Drc) : (s.setDrc x).out = s.out := rfl
@[simp] theorem State.setDrc_pending (x : Drc) : (s.setDrc x).pending = s.pending := rfl

/-! ### setStrt -/

@[simp] theorem State.setStrt_mdl (x : Strt) : (s.setStrt x).mdl = s.mdl := rfl
@[simp] theorem State.setStrt_regs (x : Strt) : (s.setStrt x).regs = s.regs := rfl
@[simp] theorem State.setStrt_late (x : Strt) : (s.setStrt x).late = s.late := rfl
@[simp] theorem State.setStrt_latch (x : Strt) : (s.setStrt x).latch = s.latch := rfl
@[simp] theorem State.setStrt_now (x : Strt) : (s.setStrt x).now = s.now := rfl
@[simp] theorem State.setStrt_freeCtr (x : Strt) : (s.setStrt x).freeCtr = s.freeCtr := rfl
@[simp] theorem State.setStrt_dram (x : Strt) : (s.setStrt x).dram = s.dram := rfl
@[simp] theorem State.setStrt_cfgStore (x : Strt) : (s.setStrt x).cfgStore = s.cfgStore := rfl
@[simp] theorem State.setStrt_kept (x : Strt) : (s.setStrt x).kept = s.kept := rfl
@[simp] theorem State.setStrt_leases (x : Strt) : (s.setStrt x).leases = s.leases := rfl
@[simp] theorem State.setStrt_mgp (x : Strt) : (s.setStrt x).mgp = s.mgp := rfl
@[simp] theorem State.setStrt_flt (x : Strt) : (s.setStrt x).flt = s.flt := rfl
@[simp] theorem State.setStrt_recd (x : Strt) : (s.setStrt x).recd = s.recd := rfl
@[simp] theorem State.setStrt_rst (x : Strt) : (s.setStrt x).rst = s.rst := rfl
@[simp] theorem State.setStrt_pwr (x : Strt) : (s.setStrt x).pwr = s.pwr := rfl
@[simp] theorem State.setStrt_pers (x : Strt) : (s.setStrt x).pers = s.pers := rfl
@[simp] theorem State.setStrt_save (x : Strt) : (s.setStrt x).save = s.save := rfl
@[simp] theorem State.setStrt_arr (x : Strt) : (s.setStrt x).arr = s.arr := rfl
@[simp] theorem State.setStrt_farr (x : Strt) : (s.setStrt x).farr = s.farr := rfl
@[simp] theorem State.setStrt_mov (x : Strt) : (s.setStrt x).mov = s.mov := rfl
@[simp] theorem State.setStrt_rstr (x : Strt) : (s.setStrt x).rstr = s.rstr := rfl
@[simp] theorem State.setStrt_hlk (x : Strt) : (s.setStrt x).hlk = s.hlk := rfl
@[simp] theorem State.setStrt_drc (x : Strt) : (s.setStrt x).drc = s.drc := rfl
@[simp] theorem State.setStrt_strt (x : Strt) : (s.setStrt x).strt = x := rfl
@[simp] theorem State.setStrt_atol (x : Strt) : (s.setStrt x).atol = s.atol := rfl
@[simp] theorem State.setStrt_twl (x : Strt) : (s.setStrt x).twl = s.twl := rfl
@[simp] theorem State.setStrt_mbox (x : Strt) : (s.setStrt x).mbox = s.mbox := rfl
@[simp] theorem State.setStrt_svc (x : Strt) : (s.setStrt x).svc = s.svc := rfl
@[simp] theorem State.setStrt_tst (x : Strt) : (s.setStrt x).tst = s.tst := rfl
@[simp] theorem State.setStrt_dscr (x : Strt) : (s.setStrt x).dscr = s.dscr := rfl
@[simp] theorem State.setStrt_upk (x : Strt) : (s.setStrt x).upk = s.upk := rfl
@[simp] theorem State.setStrt_out (x : Strt) : (s.setStrt x).out = s.out := rfl
@[simp] theorem State.setStrt_pending (x : Strt) : (s.setStrt x).pending = s.pending := rfl

/-! ### setAtol -/

@[simp] theorem State.setAtol_mdl (x : Atol) : (s.setAtol x).mdl = s.mdl := rfl
@[simp] theorem State.setAtol_regs (x : Atol) : (s.setAtol x).regs = s.regs := rfl
@[simp] theorem State.setAtol_late (x : Atol) : (s.setAtol x).late = s.late := rfl
@[simp] theorem State.setAtol_latch (x : Atol) : (s.setAtol x).latch = s.latch := rfl
@[simp] theorem State.setAtol_now (x : Atol) : (s.setAtol x).now = s.now := rfl
@[simp] theorem State.setAtol_freeCtr (x : Atol) : (s.setAtol x).freeCtr = s.freeCtr := rfl
@[simp] theorem State.setAtol_dram (x : Atol) : (s.setAtol x).dram = s.dram := rfl
@[simp] theorem State.setAtol_cfgStore (x : Atol) : (s.setAtol x).cfgStore = s.cfgStore := rfl
@[simp] theorem State.setAtol_kept (x : Atol) : (s.setAtol x).kept = s.kept := rfl
@[simp] theorem State.setAtol_leases (x : Atol) : (s.setAtol x).leases = s.leases := rfl
@[simp] theorem State.setAtol_mgp (x : Atol) : (s.setAtol x).mgp = s.mgp := rfl
@[simp] theorem State.setAtol_flt (x : Atol) : (s.setAtol x).flt = s.flt := rfl
@[simp] theorem State.setAtol_recd (x : Atol) : (s.setAtol x).recd = s.recd := rfl
@[simp] theorem State.setAtol_rst (x : Atol) : (s.setAtol x).rst = s.rst := rfl
@[simp] theorem State.setAtol_pwr (x : Atol) : (s.setAtol x).pwr = s.pwr := rfl
@[simp] theorem State.setAtol_pers (x : Atol) : (s.setAtol x).pers = s.pers := rfl
@[simp] theorem State.setAtol_save (x : Atol) : (s.setAtol x).save = s.save := rfl
@[simp] theorem State.setAtol_arr (x : Atol) : (s.setAtol x).arr = s.arr := rfl
@[simp] theorem State.setAtol_farr (x : Atol) : (s.setAtol x).farr = s.farr := rfl
@[simp] theorem State.setAtol_mov (x : Atol) : (s.setAtol x).mov = s.mov := rfl
@[simp] theorem State.setAtol_rstr (x : Atol) : (s.setAtol x).rstr = s.rstr := rfl
@[simp] theorem State.setAtol_hlk (x : Atol) : (s.setAtol x).hlk = s.hlk := rfl
@[simp] theorem State.setAtol_drc (x : Atol) : (s.setAtol x).drc = s.drc := rfl
@[simp] theorem State.setAtol_strt (x : Atol) : (s.setAtol x).strt = s.strt := rfl
@[simp] theorem State.setAtol_atol (x : Atol) : (s.setAtol x).atol = x := rfl
@[simp] theorem State.setAtol_twl (x : Atol) : (s.setAtol x).twl = s.twl := rfl
@[simp] theorem State.setAtol_mbox (x : Atol) : (s.setAtol x).mbox = s.mbox := rfl
@[simp] theorem State.setAtol_svc (x : Atol) : (s.setAtol x).svc = s.svc := rfl
@[simp] theorem State.setAtol_tst (x : Atol) : (s.setAtol x).tst = s.tst := rfl
@[simp] theorem State.setAtol_dscr (x : Atol) : (s.setAtol x).dscr = s.dscr := rfl
@[simp] theorem State.setAtol_upk (x : Atol) : (s.setAtol x).upk = s.upk := rfl
@[simp] theorem State.setAtol_out (x : Atol) : (s.setAtol x).out = s.out := rfl
@[simp] theorem State.setAtol_pending (x : Atol) : (s.setAtol x).pending = s.pending := rfl

/-! ### setKept -/

@[simp] theorem State.setKept_mdl (x : Kept) : (s.setKept x).mdl = s.mdl := rfl
@[simp] theorem State.setKept_regs (x : Kept) : (s.setKept x).regs = s.regs := rfl
@[simp] theorem State.setKept_late (x : Kept) : (s.setKept x).late = s.late := rfl
@[simp] theorem State.setKept_latch (x : Kept) : (s.setKept x).latch = s.latch := rfl
@[simp] theorem State.setKept_now (x : Kept) : (s.setKept x).now = s.now := rfl
@[simp] theorem State.setKept_freeCtr (x : Kept) : (s.setKept x).freeCtr = s.freeCtr := rfl
@[simp] theorem State.setKept_dram (x : Kept) : (s.setKept x).dram = s.dram := rfl
@[simp] theorem State.setKept_cfgStore (x : Kept) : (s.setKept x).cfgStore = s.cfgStore := rfl
@[simp] theorem State.setKept_kept (x : Kept) : (s.setKept x).kept = x := rfl
@[simp] theorem State.setKept_leases (x : Kept) : (s.setKept x).leases = s.leases := rfl
@[simp] theorem State.setKept_mgp (x : Kept) : (s.setKept x).mgp = s.mgp := rfl
@[simp] theorem State.setKept_flt (x : Kept) : (s.setKept x).flt = s.flt := rfl
@[simp] theorem State.setKept_recd (x : Kept) : (s.setKept x).recd = s.recd := rfl
@[simp] theorem State.setKept_rst (x : Kept) : (s.setKept x).rst = s.rst := rfl
@[simp] theorem State.setKept_pwr (x : Kept) : (s.setKept x).pwr = s.pwr := rfl
@[simp] theorem State.setKept_pers (x : Kept) : (s.setKept x).pers = s.pers := rfl
@[simp] theorem State.setKept_save (x : Kept) : (s.setKept x).save = s.save := rfl
@[simp] theorem State.setKept_arr (x : Kept) : (s.setKept x).arr = s.arr := rfl
@[simp] theorem State.setKept_farr (x : Kept) : (s.setKept x).farr = s.farr := rfl
@[simp] theorem State.setKept_mov (x : Kept) : (s.setKept x).mov = s.mov := rfl
@[simp] theorem State.setKept_rstr (x : Kept) : (s.setKept x).rstr = s.rstr := rfl
@[simp] theorem State.setKept_hlk (x : Kept) : (s.setKept x).hlk = s.hlk := rfl
@[simp] theorem State.setKept_drc (x : Kept) : (s.setKept x).drc = s.drc := rfl
@[simp] theorem State.setKept_strt (x : Kept) : (s.setKept x).strt = s.strt := rfl
@[simp] theorem State.setKept_atol (x : Kept) : (s.setKept x).atol = s.atol := rfl
@[simp] theorem State.setKept_twl (x : Kept) : (s.setKept x).twl = s.twl := rfl
@[simp] theorem State.setKept_mbox (x : Kept) : (s.setKept x).mbox = s.mbox := rfl
@[simp] theorem State.setKept_svc (x : Kept) : (s.setKept x).svc = s.svc := rfl
@[simp] theorem State.setKept_tst (x : Kept) : (s.setKept x).tst = s.tst := rfl
@[simp] theorem State.setKept_dscr (x : Kept) : (s.setKept x).dscr = s.dscr := rfl
@[simp] theorem State.setKept_upk (x : Kept) : (s.setKept x).upk = s.upk := rfl
@[simp] theorem State.setKept_out (x : Kept) : (s.setKept x).out = s.out := rfl
@[simp] theorem State.setKept_pending (x : Kept) : (s.setKept x).pending = s.pending := rfl

/-! ### setTwl -/

@[simp] theorem State.setTwl_mdl (x : Twl) : (s.setTwl x).mdl = s.mdl := rfl
@[simp] theorem State.setTwl_regs (x : Twl) : (s.setTwl x).regs = s.regs := rfl
@[simp] theorem State.setTwl_late (x : Twl) : (s.setTwl x).late = s.late := rfl
@[simp] theorem State.setTwl_latch (x : Twl) : (s.setTwl x).latch = s.latch := rfl
@[simp] theorem State.setTwl_now (x : Twl) : (s.setTwl x).now = s.now := rfl
@[simp] theorem State.setTwl_freeCtr (x : Twl) : (s.setTwl x).freeCtr = s.freeCtr := rfl
@[simp] theorem State.setTwl_dram (x : Twl) : (s.setTwl x).dram = s.dram := rfl
@[simp] theorem State.setTwl_cfgStore (x : Twl) : (s.setTwl x).cfgStore = s.cfgStore := rfl
@[simp] theorem State.setTwl_kept (x : Twl) : (s.setTwl x).kept = s.kept := rfl
@[simp] theorem State.setTwl_leases (x : Twl) : (s.setTwl x).leases = s.leases := rfl
@[simp] theorem State.setTwl_mgp (x : Twl) : (s.setTwl x).mgp = s.mgp := rfl
@[simp] theorem State.setTwl_flt (x : Twl) : (s.setTwl x).flt = s.flt := rfl
@[simp] theorem State.setTwl_recd (x : Twl) : (s.setTwl x).recd = s.recd := rfl
@[simp] theorem State.setTwl_rst (x : Twl) : (s.setTwl x).rst = s.rst := rfl
@[simp] theorem State.setTwl_pwr (x : Twl) : (s.setTwl x).pwr = s.pwr := rfl
@[simp] theorem State.setTwl_pers (x : Twl) : (s.setTwl x).pers = s.pers := rfl
@[simp] theorem State.setTwl_save (x : Twl) : (s.setTwl x).save = s.save := rfl
@[simp] theorem State.setTwl_arr (x : Twl) : (s.setTwl x).arr = s.arr := rfl
@[simp] theorem State.setTwl_farr (x : Twl) : (s.setTwl x).farr = s.farr := rfl
@[simp] theorem State.setTwl_mov (x : Twl) : (s.setTwl x).mov = s.mov := rfl
@[simp] theorem State.setTwl_rstr (x : Twl) : (s.setTwl x).rstr = s.rstr := rfl
@[simp] theorem State.setTwl_hlk (x : Twl) : (s.setTwl x).hlk = s.hlk := rfl
@[simp] theorem State.setTwl_drc (x : Twl) : (s.setTwl x).drc = s.drc := rfl
@[simp] theorem State.setTwl_strt (x : Twl) : (s.setTwl x).strt = s.strt := rfl
@[simp] theorem State.setTwl_atol (x : Twl) : (s.setTwl x).atol = s.atol := rfl
@[simp] theorem State.setTwl_twl (x : Twl) : (s.setTwl x).twl = x := rfl
@[simp] theorem State.setTwl_mbox (x : Twl) : (s.setTwl x).mbox = s.mbox := rfl
@[simp] theorem State.setTwl_svc (x : Twl) : (s.setTwl x).svc = s.svc := rfl
@[simp] theorem State.setTwl_tst (x : Twl) : (s.setTwl x).tst = s.tst := rfl
@[simp] theorem State.setTwl_dscr (x : Twl) : (s.setTwl x).dscr = s.dscr := rfl
@[simp] theorem State.setTwl_upk (x : Twl) : (s.setTwl x).upk = s.upk := rfl
@[simp] theorem State.setTwl_out (x : Twl) : (s.setTwl x).out = s.out := rfl
@[simp] theorem State.setTwl_pending (x : Twl) : (s.setTwl x).pending = s.pending := rfl

/-! ### setMbox -/

@[simp] theorem State.setMbox_mdl (x : Mbox) : (s.setMbox x).mdl = s.mdl := rfl
@[simp] theorem State.setMbox_regs (x : Mbox) : (s.setMbox x).regs = s.regs := rfl
@[simp] theorem State.setMbox_late (x : Mbox) : (s.setMbox x).late = s.late := rfl
@[simp] theorem State.setMbox_latch (x : Mbox) : (s.setMbox x).latch = s.latch := rfl
@[simp] theorem State.setMbox_now (x : Mbox) : (s.setMbox x).now = s.now := rfl
@[simp] theorem State.setMbox_freeCtr (x : Mbox) : (s.setMbox x).freeCtr = s.freeCtr := rfl
@[simp] theorem State.setMbox_dram (x : Mbox) : (s.setMbox x).dram = s.dram := rfl
@[simp] theorem State.setMbox_cfgStore (x : Mbox) : (s.setMbox x).cfgStore = s.cfgStore := rfl
@[simp] theorem State.setMbox_kept (x : Mbox) : (s.setMbox x).kept = s.kept := rfl
@[simp] theorem State.setMbox_leases (x : Mbox) : (s.setMbox x).leases = s.leases := rfl
@[simp] theorem State.setMbox_mgp (x : Mbox) : (s.setMbox x).mgp = s.mgp := rfl
@[simp] theorem State.setMbox_flt (x : Mbox) : (s.setMbox x).flt = s.flt := rfl
@[simp] theorem State.setMbox_recd (x : Mbox) : (s.setMbox x).recd = s.recd := rfl
@[simp] theorem State.setMbox_rst (x : Mbox) : (s.setMbox x).rst = s.rst := rfl
@[simp] theorem State.setMbox_pwr (x : Mbox) : (s.setMbox x).pwr = s.pwr := rfl
@[simp] theorem State.setMbox_pers (x : Mbox) : (s.setMbox x).pers = s.pers := rfl
@[simp] theorem State.setMbox_save (x : Mbox) : (s.setMbox x).save = s.save := rfl
@[simp] theorem State.setMbox_arr (x : Mbox) : (s.setMbox x).arr = s.arr := rfl
@[simp] theorem State.setMbox_farr (x : Mbox) : (s.setMbox x).farr = s.farr := rfl
@[simp] theorem State.setMbox_mov (x : Mbox) : (s.setMbox x).mov = s.mov := rfl
@[simp] theorem State.setMbox_rstr (x : Mbox) : (s.setMbox x).rstr = s.rstr := rfl
@[simp] theorem State.setMbox_hlk (x : Mbox) : (s.setMbox x).hlk = s.hlk := rfl
@[simp] theorem State.setMbox_drc (x : Mbox) : (s.setMbox x).drc = s.drc := rfl
@[simp] theorem State.setMbox_strt (x : Mbox) : (s.setMbox x).strt = s.strt := rfl
@[simp] theorem State.setMbox_atol (x : Mbox) : (s.setMbox x).atol = s.atol := rfl
@[simp] theorem State.setMbox_twl (x : Mbox) : (s.setMbox x).twl = s.twl := rfl
@[simp] theorem State.setMbox_mbox (x : Mbox) : (s.setMbox x).mbox = x := rfl
@[simp] theorem State.setMbox_svc (x : Mbox) : (s.setMbox x).svc = s.svc := rfl
@[simp] theorem State.setMbox_tst (x : Mbox) : (s.setMbox x).tst = s.tst := rfl
@[simp] theorem State.setMbox_dscr (x : Mbox) : (s.setMbox x).dscr = s.dscr := rfl
@[simp] theorem State.setMbox_upk (x : Mbox) : (s.setMbox x).upk = s.upk := rfl
@[simp] theorem State.setMbox_out (x : Mbox) : (s.setMbox x).out = s.out := rfl
@[simp] theorem State.setMbox_pending (x : Mbox) : (s.setMbox x).pending = s.pending := rfl

/-! ### setSvc -/

@[simp] theorem State.setSvc_mdl (x : Svc) : (s.setSvc x).mdl = s.mdl := rfl
@[simp] theorem State.setSvc_regs (x : Svc) : (s.setSvc x).regs = s.regs := rfl
@[simp] theorem State.setSvc_late (x : Svc) : (s.setSvc x).late = s.late := rfl
@[simp] theorem State.setSvc_latch (x : Svc) : (s.setSvc x).latch = s.latch := rfl
@[simp] theorem State.setSvc_now (x : Svc) : (s.setSvc x).now = s.now := rfl
@[simp] theorem State.setSvc_freeCtr (x : Svc) : (s.setSvc x).freeCtr = s.freeCtr := rfl
@[simp] theorem State.setSvc_dram (x : Svc) : (s.setSvc x).dram = s.dram := rfl
@[simp] theorem State.setSvc_cfgStore (x : Svc) : (s.setSvc x).cfgStore = s.cfgStore := rfl
@[simp] theorem State.setSvc_kept (x : Svc) : (s.setSvc x).kept = s.kept := rfl
@[simp] theorem State.setSvc_leases (x : Svc) : (s.setSvc x).leases = s.leases := rfl
@[simp] theorem State.setSvc_mgp (x : Svc) : (s.setSvc x).mgp = s.mgp := rfl
@[simp] theorem State.setSvc_flt (x : Svc) : (s.setSvc x).flt = s.flt := rfl
@[simp] theorem State.setSvc_recd (x : Svc) : (s.setSvc x).recd = s.recd := rfl
@[simp] theorem State.setSvc_rst (x : Svc) : (s.setSvc x).rst = s.rst := rfl
@[simp] theorem State.setSvc_pwr (x : Svc) : (s.setSvc x).pwr = s.pwr := rfl
@[simp] theorem State.setSvc_pers (x : Svc) : (s.setSvc x).pers = s.pers := rfl
@[simp] theorem State.setSvc_save (x : Svc) : (s.setSvc x).save = s.save := rfl
@[simp] theorem State.setSvc_arr (x : Svc) : (s.setSvc x).arr = s.arr := rfl
@[simp] theorem State.setSvc_farr (x : Svc) : (s.setSvc x).farr = s.farr := rfl
@[simp] theorem State.setSvc_mov (x : Svc) : (s.setSvc x).mov = s.mov := rfl
@[simp] theorem State.setSvc_rstr (x : Svc) : (s.setSvc x).rstr = s.rstr := rfl
@[simp] theorem State.setSvc_hlk (x : Svc) : (s.setSvc x).hlk = s.hlk := rfl
@[simp] theorem State.setSvc_drc (x : Svc) : (s.setSvc x).drc = s.drc := rfl
@[simp] theorem State.setSvc_strt (x : Svc) : (s.setSvc x).strt = s.strt := rfl
@[simp] theorem State.setSvc_atol (x : Svc) : (s.setSvc x).atol = s.atol := rfl
@[simp] theorem State.setSvc_twl (x : Svc) : (s.setSvc x).twl = s.twl := rfl
@[simp] theorem State.setSvc_mbox (x : Svc) : (s.setSvc x).mbox = s.mbox := rfl
@[simp] theorem State.setSvc_svc (x : Svc) : (s.setSvc x).svc = x := rfl
@[simp] theorem State.setSvc_tst (x : Svc) : (s.setSvc x).tst = s.tst := rfl
@[simp] theorem State.setSvc_dscr (x : Svc) : (s.setSvc x).dscr = s.dscr := rfl
@[simp] theorem State.setSvc_upk (x : Svc) : (s.setSvc x).upk = s.upk := rfl
@[simp] theorem State.setSvc_out (x : Svc) : (s.setSvc x).out = s.out := rfl
@[simp] theorem State.setSvc_pending (x : Svc) : (s.setSvc x).pending = s.pending := rfl

/-! ### setTst -/

@[simp] theorem State.setTst_mdl (x : Tst) : (s.setTst x).mdl = s.mdl := rfl
@[simp] theorem State.setTst_regs (x : Tst) : (s.setTst x).regs = s.regs := rfl
@[simp] theorem State.setTst_late (x : Tst) : (s.setTst x).late = s.late := rfl
@[simp] theorem State.setTst_latch (x : Tst) : (s.setTst x).latch = s.latch := rfl
@[simp] theorem State.setTst_now (x : Tst) : (s.setTst x).now = s.now := rfl
@[simp] theorem State.setTst_freeCtr (x : Tst) : (s.setTst x).freeCtr = s.freeCtr := rfl
@[simp] theorem State.setTst_dram (x : Tst) : (s.setTst x).dram = s.dram := rfl
@[simp] theorem State.setTst_cfgStore (x : Tst) : (s.setTst x).cfgStore = s.cfgStore := rfl
@[simp] theorem State.setTst_kept (x : Tst) : (s.setTst x).kept = s.kept := rfl
@[simp] theorem State.setTst_leases (x : Tst) : (s.setTst x).leases = s.leases := rfl
@[simp] theorem State.setTst_mgp (x : Tst) : (s.setTst x).mgp = s.mgp := rfl
@[simp] theorem State.setTst_flt (x : Tst) : (s.setTst x).flt = s.flt := rfl
@[simp] theorem State.setTst_recd (x : Tst) : (s.setTst x).recd = s.recd := rfl
@[simp] theorem State.setTst_rst (x : Tst) : (s.setTst x).rst = s.rst := rfl
@[simp] theorem State.setTst_pwr (x : Tst) : (s.setTst x).pwr = s.pwr := rfl
@[simp] theorem State.setTst_pers (x : Tst) : (s.setTst x).pers = s.pers := rfl
@[simp] theorem State.setTst_save (x : Tst) : (s.setTst x).save = s.save := rfl
@[simp] theorem State.setTst_arr (x : Tst) : (s.setTst x).arr = s.arr := rfl
@[simp] theorem State.setTst_farr (x : Tst) : (s.setTst x).farr = s.farr := rfl
@[simp] theorem State.setTst_mov (x : Tst) : (s.setTst x).mov = s.mov := rfl
@[simp] theorem State.setTst_rstr (x : Tst) : (s.setTst x).rstr = s.rstr := rfl
@[simp] theorem State.setTst_hlk (x : Tst) : (s.setTst x).hlk = s.hlk := rfl
@[simp] theorem State.setTst_drc (x : Tst) : (s.setTst x).drc = s.drc := rfl
@[simp] theorem State.setTst_strt (x : Tst) : (s.setTst x).strt = s.strt := rfl
@[simp] theorem State.setTst_atol (x : Tst) : (s.setTst x).atol = s.atol := rfl
@[simp] theorem State.setTst_twl (x : Tst) : (s.setTst x).twl = s.twl := rfl
@[simp] theorem State.setTst_mbox (x : Tst) : (s.setTst x).mbox = s.mbox := rfl
@[simp] theorem State.setTst_svc (x : Tst) : (s.setTst x).svc = s.svc := rfl
@[simp] theorem State.setTst_tst (x : Tst) : (s.setTst x).tst = x := rfl
@[simp] theorem State.setTst_dscr (x : Tst) : (s.setTst x).dscr = s.dscr := rfl
@[simp] theorem State.setTst_upk (x : Tst) : (s.setTst x).upk = s.upk := rfl
@[simp] theorem State.setTst_out (x : Tst) : (s.setTst x).out = s.out := rfl
@[simp] theorem State.setTst_pending (x : Tst) : (s.setTst x).pending = s.pending := rfl

/-! ### setDscr -/

@[simp] theorem State.setDscr_mdl (x : Dscr) : (s.setDscr x).mdl = s.mdl := rfl
@[simp] theorem State.setDscr_regs (x : Dscr) : (s.setDscr x).regs = s.regs := rfl
@[simp] theorem State.setDscr_late (x : Dscr) : (s.setDscr x).late = s.late := rfl
@[simp] theorem State.setDscr_latch (x : Dscr) : (s.setDscr x).latch = s.latch := rfl
@[simp] theorem State.setDscr_now (x : Dscr) : (s.setDscr x).now = s.now := rfl
@[simp] theorem State.setDscr_freeCtr (x : Dscr) : (s.setDscr x).freeCtr = s.freeCtr := rfl
@[simp] theorem State.setDscr_dram (x : Dscr) : (s.setDscr x).dram = s.dram := rfl
@[simp] theorem State.setDscr_cfgStore (x : Dscr) : (s.setDscr x).cfgStore = s.cfgStore := rfl
@[simp] theorem State.setDscr_kept (x : Dscr) : (s.setDscr x).kept = s.kept := rfl
@[simp] theorem State.setDscr_leases (x : Dscr) : (s.setDscr x).leases = s.leases := rfl
@[simp] theorem State.setDscr_mgp (x : Dscr) : (s.setDscr x).mgp = s.mgp := rfl
@[simp] theorem State.setDscr_flt (x : Dscr) : (s.setDscr x).flt = s.flt := rfl
@[simp] theorem State.setDscr_recd (x : Dscr) : (s.setDscr x).recd = s.recd := rfl
@[simp] theorem State.setDscr_rst (x : Dscr) : (s.setDscr x).rst = s.rst := rfl
@[simp] theorem State.setDscr_pwr (x : Dscr) : (s.setDscr x).pwr = s.pwr := rfl
@[simp] theorem State.setDscr_pers (x : Dscr) : (s.setDscr x).pers = s.pers := rfl
@[simp] theorem State.setDscr_save (x : Dscr) : (s.setDscr x).save = s.save := rfl
@[simp] theorem State.setDscr_arr (x : Dscr) : (s.setDscr x).arr = s.arr := rfl
@[simp] theorem State.setDscr_farr (x : Dscr) : (s.setDscr x).farr = s.farr := rfl
@[simp] theorem State.setDscr_mov (x : Dscr) : (s.setDscr x).mov = s.mov := rfl
@[simp] theorem State.setDscr_rstr (x : Dscr) : (s.setDscr x).rstr = s.rstr := rfl
@[simp] theorem State.setDscr_hlk (x : Dscr) : (s.setDscr x).hlk = s.hlk := rfl
@[simp] theorem State.setDscr_drc (x : Dscr) : (s.setDscr x).drc = s.drc := rfl
@[simp] theorem State.setDscr_strt (x : Dscr) : (s.setDscr x).strt = s.strt := rfl
@[simp] theorem State.setDscr_atol (x : Dscr) : (s.setDscr x).atol = s.atol := rfl
@[simp] theorem State.setDscr_twl (x : Dscr) : (s.setDscr x).twl = s.twl := rfl
@[simp] theorem State.setDscr_mbox (x : Dscr) : (s.setDscr x).mbox = s.mbox := rfl
@[simp] theorem State.setDscr_svc (x : Dscr) : (s.setDscr x).svc = s.svc := rfl
@[simp] theorem State.setDscr_tst (x : Dscr) : (s.setDscr x).tst = s.tst := rfl
@[simp] theorem State.setDscr_dscr (x : Dscr) : (s.setDscr x).dscr = x := rfl
@[simp] theorem State.setDscr_upk (x : Dscr) : (s.setDscr x).upk = s.upk := rfl
@[simp] theorem State.setDscr_out (x : Dscr) : (s.setDscr x).out = s.out := rfl
@[simp] theorem State.setDscr_pending (x : Dscr) : (s.setDscr x).pending = s.pending := rfl

/-! ### setUpk -/

@[simp] theorem State.setUpk_mdl (x : Upk) : (s.setUpk x).mdl = s.mdl := rfl
@[simp] theorem State.setUpk_regs (x : Upk) : (s.setUpk x).regs = s.regs := rfl
@[simp] theorem State.setUpk_late (x : Upk) : (s.setUpk x).late = s.late := rfl
@[simp] theorem State.setUpk_latch (x : Upk) : (s.setUpk x).latch = s.latch := rfl
@[simp] theorem State.setUpk_now (x : Upk) : (s.setUpk x).now = s.now := rfl
@[simp] theorem State.setUpk_freeCtr (x : Upk) : (s.setUpk x).freeCtr = s.freeCtr := rfl
@[simp] theorem State.setUpk_dram (x : Upk) : (s.setUpk x).dram = s.dram := rfl
@[simp] theorem State.setUpk_cfgStore (x : Upk) : (s.setUpk x).cfgStore = s.cfgStore := rfl
@[simp] theorem State.setUpk_kept (x : Upk) : (s.setUpk x).kept = s.kept := rfl
@[simp] theorem State.setUpk_leases (x : Upk) : (s.setUpk x).leases = s.leases := rfl
@[simp] theorem State.setUpk_mgp (x : Upk) : (s.setUpk x).mgp = s.mgp := rfl
@[simp] theorem State.setUpk_flt (x : Upk) : (s.setUpk x).flt = s.flt := rfl
@[simp] theorem State.setUpk_recd (x : Upk) : (s.setUpk x).recd = s.recd := rfl
@[simp] theorem State.setUpk_rst (x : Upk) : (s.setUpk x).rst = s.rst := rfl
@[simp] theorem State.setUpk_pwr (x : Upk) : (s.setUpk x).pwr = s.pwr := rfl
@[simp] theorem State.setUpk_pers (x : Upk) : (s.setUpk x).pers = s.pers := rfl
@[simp] theorem State.setUpk_save (x : Upk) : (s.setUpk x).save = s.save := rfl
@[simp] theorem State.setUpk_arr (x : Upk) : (s.setUpk x).arr = s.arr := rfl
@[simp] theorem State.setUpk_farr (x : Upk) : (s.setUpk x).farr = s.farr := rfl
@[simp] theorem State.setUpk_mov (x : Upk) : (s.setUpk x).mov = s.mov := rfl
@[simp] theorem State.setUpk_rstr (x : Upk) : (s.setUpk x).rstr = s.rstr := rfl
@[simp] theorem State.setUpk_hlk (x : Upk) : (s.setUpk x).hlk = s.hlk := rfl
@[simp] theorem State.setUpk_drc (x : Upk) : (s.setUpk x).drc = s.drc := rfl
@[simp] theorem State.setUpk_strt (x : Upk) : (s.setUpk x).strt = s.strt := rfl
@[simp] theorem State.setUpk_atol (x : Upk) : (s.setUpk x).atol = s.atol := rfl
@[simp] theorem State.setUpk_twl (x : Upk) : (s.setUpk x).twl = s.twl := rfl
@[simp] theorem State.setUpk_mbox (x : Upk) : (s.setUpk x).mbox = s.mbox := rfl
@[simp] theorem State.setUpk_svc (x : Upk) : (s.setUpk x).svc = s.svc := rfl
@[simp] theorem State.setUpk_tst (x : Upk) : (s.setUpk x).tst = s.tst := rfl
@[simp] theorem State.setUpk_dscr (x : Upk) : (s.setUpk x).dscr = s.dscr := rfl
@[simp] theorem State.setUpk_upk (x : Upk) : (s.setUpk x).upk = x := rfl
@[simp] theorem State.setUpk_out (x : Upk) : (s.setUpk x).out = s.out := rfl
@[simp] theorem State.setUpk_pending (x : Upk) : (s.setUpk x).pending = s.pending := rfl

/-! ### setWord -/

@[simp] theorem State.setWord_mdl (k : Nat) (w : Word) : (s.setWord k w).mdl = s.mdl := rfl
@[simp] theorem State.setWord_regs (k : Nat) (w : Word) : (s.setWord k w).regs = Sparse.set resetWord s.regs k w := rfl
@[simp] theorem State.setWord_late (k : Nat) (w : Word) : (s.setWord k w).late = s.late := rfl
@[simp] theorem State.setWord_latch (k : Nat) (w : Word) : (s.setWord k w).latch = s.latch := rfl
@[simp] theorem State.setWord_now (k : Nat) (w : Word) : (s.setWord k w).now = s.now := rfl
@[simp] theorem State.setWord_freeCtr (k : Nat) (w : Word) : (s.setWord k w).freeCtr = s.freeCtr := rfl
@[simp] theorem State.setWord_dram (k : Nat) (w : Word) : (s.setWord k w).dram = s.dram := rfl
@[simp] theorem State.setWord_cfgStore (k : Nat) (w : Word) : (s.setWord k w).cfgStore = s.cfgStore := rfl
@[simp] theorem State.setWord_kept (k : Nat) (w : Word) : (s.setWord k w).kept = s.kept := rfl
@[simp] theorem State.setWord_leases (k : Nat) (w : Word) : (s.setWord k w).leases = s.leases := rfl
@[simp] theorem State.setWord_mgp (k : Nat) (w : Word) : (s.setWord k w).mgp = s.mgp := rfl
@[simp] theorem State.setWord_flt (k : Nat) (w : Word) : (s.setWord k w).flt = s.flt := rfl
@[simp] theorem State.setWord_recd (k : Nat) (w : Word) : (s.setWord k w).recd = s.recd := rfl
@[simp] theorem State.setWord_rst (k : Nat) (w : Word) : (s.setWord k w).rst = s.rst := rfl
@[simp] theorem State.setWord_pwr (k : Nat) (w : Word) : (s.setWord k w).pwr = s.pwr := rfl
@[simp] theorem State.setWord_pers (k : Nat) (w : Word) : (s.setWord k w).pers = s.pers := rfl
@[simp] theorem State.setWord_save (k : Nat) (w : Word) : (s.setWord k w).save = s.save := rfl
@[simp] theorem State.setWord_arr (k : Nat) (w : Word) : (s.setWord k w).arr = s.arr := rfl
@[simp] theorem State.setWord_farr (k : Nat) (w : Word) : (s.setWord k w).farr = s.farr := rfl
@[simp] theorem State.setWord_mov (k : Nat) (w : Word) : (s.setWord k w).mov = s.mov := rfl
@[simp] theorem State.setWord_rstr (k : Nat) (w : Word) : (s.setWord k w).rstr = s.rstr := rfl
@[simp] theorem State.setWord_hlk (k : Nat) (w : Word) : (s.setWord k w).hlk = s.hlk := rfl
@[simp] theorem State.setWord_drc (k : Nat) (w : Word) : (s.setWord k w).drc = s.drc := rfl
@[simp] theorem State.setWord_strt (k : Nat) (w : Word) : (s.setWord k w).strt = s.strt := rfl
@[simp] theorem State.setWord_atol (k : Nat) (w : Word) : (s.setWord k w).atol = s.atol := rfl
@[simp] theorem State.setWord_twl (k : Nat) (w : Word) : (s.setWord k w).twl = s.twl := rfl
@[simp] theorem State.setWord_mbox (k : Nat) (w : Word) : (s.setWord k w).mbox = s.mbox := rfl
@[simp] theorem State.setWord_svc (k : Nat) (w : Word) : (s.setWord k w).svc = s.svc := rfl
@[simp] theorem State.setWord_tst (k : Nat) (w : Word) : (s.setWord k w).tst = s.tst := rfl
@[simp] theorem State.setWord_dscr (k : Nat) (w : Word) : (s.setWord k w).dscr = s.dscr := rfl
@[simp] theorem State.setWord_upk (k : Nat) (w : Word) : (s.setWord k w).upk = s.upk := rfl
@[simp] theorem State.setWord_out (k : Nat) (w : Word) : (s.setWord k w).out = s.out := rfl
@[simp] theorem State.setWord_pending (k : Nat) (w : Word) : (s.setWord k w).pending = s.pending := rfl

/-! ### put -/

@[simp] theorem State.put_mdl (f : Fld) (v : Nat) : (s.put f v).mdl = s.mdl := rfl
@[simp] theorem State.put_regs (f : Fld) (v : Nat) : (s.put f v).regs = (s.setWord f.addr (putBits (s.word f.addr) f.lo f.w v)).regs := rfl
@[simp] theorem State.put_late (f : Fld) (v : Nat) : (s.put f v).late = s.late := rfl
@[simp] theorem State.put_latch (f : Fld) (v : Nat) : (s.put f v).latch = s.latch := rfl
@[simp] theorem State.put_now (f : Fld) (v : Nat) : (s.put f v).now = s.now := rfl
@[simp] theorem State.put_freeCtr (f : Fld) (v : Nat) : (s.put f v).freeCtr = s.freeCtr := rfl
@[simp] theorem State.put_dram (f : Fld) (v : Nat) : (s.put f v).dram = s.dram := rfl
@[simp] theorem State.put_cfgStore (f : Fld) (v : Nat) : (s.put f v).cfgStore = s.cfgStore := rfl
@[simp] theorem State.put_kept (f : Fld) (v : Nat) : (s.put f v).kept = s.kept := rfl
@[simp] theorem State.put_leases (f : Fld) (v : Nat) : (s.put f v).leases = s.leases := rfl
@[simp] theorem State.put_mgp (f : Fld) (v : Nat) : (s.put f v).mgp = s.mgp := rfl
@[simp] theorem State.put_flt (f : Fld) (v : Nat) : (s.put f v).flt = s.flt := rfl
@[simp] theorem State.put_recd (f : Fld) (v : Nat) : (s.put f v).recd = s.recd := rfl
@[simp] theorem State.put_rst (f : Fld) (v : Nat) : (s.put f v).rst = s.rst := rfl
@[simp] theorem State.put_pwr (f : Fld) (v : Nat) : (s.put f v).pwr = s.pwr := rfl
@[simp] theorem State.put_pers (f : Fld) (v : Nat) : (s.put f v).pers = s.pers := rfl
@[simp] theorem State.put_save (f : Fld) (v : Nat) : (s.put f v).save = s.save := rfl
@[simp] theorem State.put_arr (f : Fld) (v : Nat) : (s.put f v).arr = s.arr := rfl
@[simp] theorem State.put_farr (f : Fld) (v : Nat) : (s.put f v).farr = s.farr := rfl
@[simp] theorem State.put_mov (f : Fld) (v : Nat) : (s.put f v).mov = s.mov := rfl
@[simp] theorem State.put_rstr (f : Fld) (v : Nat) : (s.put f v).rstr = s.rstr := rfl
@[simp] theorem State.put_hlk (f : Fld) (v : Nat) : (s.put f v).hlk = s.hlk := rfl
@[simp] theorem State.put_drc (f : Fld) (v : Nat) : (s.put f v).drc = s.drc := rfl
@[simp] theorem State.put_strt (f : Fld) (v : Nat) : (s.put f v).strt = s.strt := rfl
@[simp] theorem State.put_atol (f : Fld) (v : Nat) : (s.put f v).atol = s.atol := rfl
@[simp] theorem State.put_twl (f : Fld) (v : Nat) : (s.put f v).twl = s.twl := rfl
@[simp] theorem State.put_mbox (f : Fld) (v : Nat) : (s.put f v).mbox = s.mbox := rfl
@[simp] theorem State.put_svc (f : Fld) (v : Nat) : (s.put f v).svc = s.svc := rfl
@[simp] theorem State.put_tst (f : Fld) (v : Nat) : (s.put f v).tst = s.tst := rfl
@[simp] theorem State.put_dscr (f : Fld) (v : Nat) : (s.put f v).dscr = s.dscr := rfl
@[simp] theorem State.put_upk (f : Fld) (v : Nat) : (s.put f v).upk = s.upk := rfl
@[simp] theorem State.put_out (f : Fld) (v : Nat) : (s.put f v).out = s.out := rfl
@[simp] theorem State.put_pending (f : Fld) (v : Nat) : (s.put f v).pending = s.pending := rfl

/-! ### setLine -/

@[simp] theorem State.setLine_mdl (l : Nat) (v : Line) : (s.setLine l v).mdl = s.mdl := rfl
@[simp] theorem State.setLine_regs (l : Nat) (v : Line) : (s.setLine l v).regs = s.regs := rfl
@[simp] theorem State.setLine_late (l : Nat) (v : Line) : (s.setLine l v).late = s.late := rfl
@[simp] theorem State.setLine_latch (l : Nat) (v : Line) : (s.setLine l v).latch = s.latch := rfl
@[simp] theorem State.setLine_now (l : Nat) (v : Line) : (s.setLine l v).now = s.now := rfl
@[simp] theorem State.setLine_freeCtr (l : Nat) (v : Line) : (s.setLine l v).freeCtr = s.freeCtr := rfl
@[simp] theorem State.setLine_dram (l : Nat) (v : Line) : (s.setLine l v).dram = Sparse.set (fun _ => zeroLine) s.dram l v := rfl
@[simp] theorem State.setLine_cfgStore (l : Nat) (v : Line) : (s.setLine l v).cfgStore = s.cfgStore := rfl
@[simp] theorem State.setLine_kept (l : Nat) (v : Line) : (s.setLine l v).kept = s.kept := rfl
@[simp] theorem State.setLine_leases (l : Nat) (v : Line) : (s.setLine l v).leases = s.leases := rfl
@[simp] theorem State.setLine_mgp (l : Nat) (v : Line) : (s.setLine l v).mgp = s.mgp := rfl
@[simp] theorem State.setLine_flt (l : Nat) (v : Line) : (s.setLine l v).flt = s.flt := rfl
@[simp] theorem State.setLine_recd (l : Nat) (v : Line) : (s.setLine l v).recd = s.recd := rfl
@[simp] theorem State.setLine_rst (l : Nat) (v : Line) : (s.setLine l v).rst = s.rst := rfl
@[simp] theorem State.setLine_pwr (l : Nat) (v : Line) : (s.setLine l v).pwr = s.pwr := rfl
@[simp] theorem State.setLine_pers (l : Nat) (v : Line) : (s.setLine l v).pers = s.pers := rfl
@[simp] theorem State.setLine_save (l : Nat) (v : Line) : (s.setLine l v).save = s.save := rfl
@[simp] theorem State.setLine_arr (l : Nat) (v : Line) : (s.setLine l v).arr = s.arr := rfl
@[simp] theorem State.setLine_farr (l : Nat) (v : Line) : (s.setLine l v).farr = s.farr := rfl
@[simp] theorem State.setLine_mov (l : Nat) (v : Line) : (s.setLine l v).mov = s.mov := rfl
@[simp] theorem State.setLine_rstr (l : Nat) (v : Line) : (s.setLine l v).rstr = s.rstr := rfl
@[simp] theorem State.setLine_hlk (l : Nat) (v : Line) : (s.setLine l v).hlk = s.hlk := rfl
@[simp] theorem State.setLine_drc (l : Nat) (v : Line) : (s.setLine l v).drc = s.drc := rfl
@[simp] theorem State.setLine_strt (l : Nat) (v : Line) : (s.setLine l v).strt = s.strt := rfl
@[simp] theorem State.setLine_atol (l : Nat) (v : Line) : (s.setLine l v).atol = s.atol := rfl
@[simp] theorem State.setLine_twl (l : Nat) (v : Line) : (s.setLine l v).twl = s.twl := rfl
@[simp] theorem State.setLine_mbox (l : Nat) (v : Line) : (s.setLine l v).mbox = s.mbox := rfl
@[simp] theorem State.setLine_svc (l : Nat) (v : Line) : (s.setLine l v).svc = s.svc := rfl
@[simp] theorem State.setLine_tst (l : Nat) (v : Line) : (s.setLine l v).tst = s.tst := rfl
@[simp] theorem State.setLine_dscr (l : Nat) (v : Line) : (s.setLine l v).dscr = s.dscr := rfl
@[simp] theorem State.setLine_upk (l : Nat) (v : Line) : (s.setLine l v).upk = s.upk := rfl
@[simp] theorem State.setLine_out (l : Nat) (v : Line) : (s.setLine l v).out = s.out := rfl
@[simp] theorem State.setLine_pending (l : Nat) (v : Line) : (s.setLine l v).pending = s.pending := rfl

/-! ### setLease -/

@[simp] theorem State.setLease_mdl (n : Nat) (l : Lease) : (s.setLease n l).mdl = s.mdl := rfl
@[simp] theorem State.setLease_regs (n : Nat) (l : Lease) : (s.setLease n l).regs = s.regs := rfl
@[simp] theorem State.setLease_late (n : Nat) (l : Lease) : (s.setLease n l).late = s.late := rfl
@[simp] theorem State.setLease_latch (n : Nat) (l : Lease) : (s.setLease n l).latch = s.latch := rfl
@[simp] theorem State.setLease_now (n : Nat) (l : Lease) : (s.setLease n l).now = s.now := rfl
@[simp] theorem State.setLease_freeCtr (n : Nat) (l : Lease) : (s.setLease n l).freeCtr = s.freeCtr := rfl
@[simp] theorem State.setLease_dram (n : Nat) (l : Lease) : (s.setLease n l).dram = s.dram := rfl
@[simp] theorem State.setLease_cfgStore (n : Nat) (l : Lease) : (s.setLease n l).cfgStore = s.cfgStore := rfl
@[simp] theorem State.setLease_kept (n : Nat) (l : Lease) : (s.setLease n l).kept = s.kept := rfl
@[simp] theorem State.setLease_mgp (n : Nat) (l : Lease) : (s.setLease n l).mgp = s.mgp := rfl
@[simp] theorem State.setLease_flt (n : Nat) (l : Lease) : (s.setLease n l).flt = s.flt := rfl
@[simp] theorem State.setLease_recd (n : Nat) (l : Lease) : (s.setLease n l).recd = s.recd := rfl
@[simp] theorem State.setLease_rst (n : Nat) (l : Lease) : (s.setLease n l).rst = s.rst := rfl
@[simp] theorem State.setLease_pwr (n : Nat) (l : Lease) : (s.setLease n l).pwr = s.pwr := rfl
@[simp] theorem State.setLease_pers (n : Nat) (l : Lease) : (s.setLease n l).pers = s.pers := rfl
@[simp] theorem State.setLease_save (n : Nat) (l : Lease) : (s.setLease n l).save = s.save := rfl
@[simp] theorem State.setLease_arr (n : Nat) (l : Lease) : (s.setLease n l).arr = s.arr := rfl
@[simp] theorem State.setLease_farr (n : Nat) (l : Lease) : (s.setLease n l).farr = s.farr := rfl
@[simp] theorem State.setLease_mov (n : Nat) (l : Lease) : (s.setLease n l).mov = s.mov := rfl
@[simp] theorem State.setLease_rstr (n : Nat) (l : Lease) : (s.setLease n l).rstr = s.rstr := rfl
@[simp] theorem State.setLease_hlk (n : Nat) (l : Lease) : (s.setLease n l).hlk = s.hlk := rfl
@[simp] theorem State.setLease_drc (n : Nat) (l : Lease) : (s.setLease n l).drc = s.drc := rfl
@[simp] theorem State.setLease_strt (n : Nat) (l : Lease) : (s.setLease n l).strt = s.strt := rfl
@[simp] theorem State.setLease_atol (n : Nat) (l : Lease) : (s.setLease n l).atol = s.atol := rfl
@[simp] theorem State.setLease_twl (n : Nat) (l : Lease) : (s.setLease n l).twl = s.twl := rfl
@[simp] theorem State.setLease_mbox (n : Nat) (l : Lease) : (s.setLease n l).mbox = s.mbox := rfl
@[simp] theorem State.setLease_svc (n : Nat) (l : Lease) : (s.setLease n l).svc = s.svc := rfl
@[simp] theorem State.setLease_tst (n : Nat) (l : Lease) : (s.setLease n l).tst = s.tst := rfl
@[simp] theorem State.setLease_dscr (n : Nat) (l : Lease) : (s.setLease n l).dscr = s.dscr := rfl
@[simp] theorem State.setLease_upk (n : Nat) (l : Lease) : (s.setLease n l).upk = s.upk := rfl
@[simp] theorem State.setLease_out (n : Nat) (l : Lease) : (s.setLease n l).out = s.out := rfl
@[simp] theorem State.setLease_pending (n : Nat) (l : Lease) : (s.setLease n l).pending = s.pending := rfl

/-! ### drawn -/

@[simp] theorem State.drawn_mdl : (s.drawn).mdl = s.mdl := rfl
@[simp] theorem State.drawn_regs : (s.drawn).regs = s.regs := rfl
@[simp] theorem State.drawn_late : (s.drawn).late = s.late := rfl
@[simp] theorem State.drawn_latch : (s.drawn).latch = s.latch := rfl
@[simp] theorem State.drawn_now : (s.drawn).now = s.now := rfl
@[simp] theorem State.drawn_freeCtr : (s.drawn).freeCtr = s.freeCtr + 1 := rfl
@[simp] theorem State.drawn_dram : (s.drawn).dram = s.dram := rfl
@[simp] theorem State.drawn_cfgStore : (s.drawn).cfgStore = s.cfgStore := rfl
@[simp] theorem State.drawn_kept : (s.drawn).kept = s.kept := rfl
@[simp] theorem State.drawn_leases : (s.drawn).leases = s.leases := rfl
@[simp] theorem State.drawn_mgp : (s.drawn).mgp = s.mgp := rfl
@[simp] theorem State.drawn_flt : (s.drawn).flt = s.flt := rfl
@[simp] theorem State.drawn_recd : (s.drawn).recd = s.recd := rfl
@[simp] theorem State.drawn_rst : (s.drawn).rst = s.rst := rfl
@[simp] theorem State.drawn_pwr : (s.drawn).pwr = s.pwr := rfl
@[simp] theorem State.drawn_pers : (s.drawn).pers = s.pers := rfl
@[simp] theorem State.drawn_save : (s.drawn).save = s.save := rfl
@[simp] theorem State.drawn_arr : (s.drawn).arr = s.arr := rfl
@[simp] theorem State.drawn_farr : (s.drawn).farr = s.farr := rfl
@[simp] theorem State.drawn_mov : (s.drawn).mov = s.mov := rfl
@[simp] theorem State.drawn_rstr : (s.drawn).rstr = s.rstr := rfl
@[simp] theorem State.drawn_hlk : (s.drawn).hlk = s.hlk := rfl
@[simp] theorem State.drawn_drc : (s.drawn).drc = s.drc := rfl
@[simp] theorem State.drawn_strt : (s.drawn).strt = s.strt := rfl
@[simp] theorem State.drawn_atol : (s.drawn).atol = s.atol := rfl
@[simp] theorem State.drawn_twl : (s.drawn).twl = s.twl := rfl
@[simp] theorem State.drawn_mbox : (s.drawn).mbox = s.mbox := rfl
@[simp] theorem State.drawn_svc : (s.drawn).svc = s.svc := rfl
@[simp] theorem State.drawn_tst : (s.drawn).tst = s.tst := rfl
@[simp] theorem State.drawn_dscr : (s.drawn).dscr = s.dscr := rfl
@[simp] theorem State.drawn_upk : (s.drawn).upk = s.upk := rfl
@[simp] theorem State.drawn_out : (s.drawn).out = s.out := rfl
@[simp] theorem State.drawn_pending : (s.drawn).pending = s.pending := rfl

/-! ### send -/

@[simp] theorem State.send_mdl (x : Out) : (s.send x).mdl = s.mdl := rfl
@[simp] theorem State.send_regs (x : Out) : (s.send x).regs = s.regs := rfl
@[simp] theorem State.send_late (x : Out) : (s.send x).late = s.late := rfl
@[simp] theorem State.send_latch (x : Out) : (s.send x).latch = s.latch := rfl
@[simp] theorem State.send_now (x : Out) : (s.send x).now = s.now := rfl
@[simp] theorem State.send_freeCtr (x : Out) : (s.send x).freeCtr = s.freeCtr := rfl
@[simp] theorem State.send_dram (x : Out) : (s.send x).dram = s.dram := rfl
@[simp] theorem State.send_cfgStore (x : Out) : (s.send x).cfgStore = s.cfgStore := rfl
@[simp] theorem State.send_kept (x : Out) : (s.send x).kept = s.kept := rfl
@[simp] theorem State.send_leases (x : Out) : (s.send x).leases = s.leases := rfl
@[simp] theorem State.send_mgp (x : Out) : (s.send x).mgp = s.mgp := rfl
@[simp] theorem State.send_flt (x : Out) : (s.send x).flt = s.flt := rfl
@[simp] theorem State.send_recd (x : Out) : (s.send x).recd = s.recd := rfl
@[simp] theorem State.send_rst (x : Out) : (s.send x).rst = s.rst := rfl
@[simp] theorem State.send_pwr (x : Out) : (s.send x).pwr = s.pwr := rfl
@[simp] theorem State.send_pers (x : Out) : (s.send x).pers = s.pers := rfl
@[simp] theorem State.send_save (x : Out) : (s.send x).save = s.save := rfl
@[simp] theorem State.send_arr (x : Out) : (s.send x).arr = s.arr := rfl
@[simp] theorem State.send_farr (x : Out) : (s.send x).farr = s.farr := rfl
@[simp] theorem State.send_mov (x : Out) : (s.send x).mov = s.mov := rfl
@[simp] theorem State.send_rstr (x : Out) : (s.send x).rstr = s.rstr := rfl
@[simp] theorem State.send_hlk (x : Out) : (s.send x).hlk = s.hlk := rfl
@[simp] theorem State.send_drc (x : Out) : (s.send x).drc = s.drc := rfl
@[simp] theorem State.send_strt (x : Out) : (s.send x).strt = s.strt := rfl
@[simp] theorem State.send_atol (x : Out) : (s.send x).atol = s.atol := rfl
@[simp] theorem State.send_twl (x : Out) : (s.send x).twl = s.twl := rfl
@[simp] theorem State.send_mbox (x : Out) : (s.send x).mbox = s.mbox := rfl
@[simp] theorem State.send_svc (x : Out) : (s.send x).svc = s.svc := rfl
@[simp] theorem State.send_tst (x : Out) : (s.send x).tst = s.tst := rfl
@[simp] theorem State.send_dscr (x : Out) : (s.send x).dscr = s.dscr := rfl
@[simp] theorem State.send_upk (x : Out) : (s.send x).upk = s.upk := rfl
@[simp] theorem State.send_out (x : Out) : (s.send x).out = x :: s.out := rfl
@[simp] theorem State.send_pending (x : Out) : (s.send x).pending = s.pending := rfl

end Sys2Proof.Machine
end

