-- ==== Sys2Proof/WellFormed.lean ====
section
/-! DEFINITION. Which commands are well formed: every operand in the range its field has in the spec. The meanings are total on every
term; a term that is not well formed is no command that a bus, a pin or a unit of the controller can produce. -/

namespace Sys2Proof

open Machine

/-- A port that carries register accesses: the test port has none of its own (R33, R562). -/
def Port.isBus (p : Port) : Bool := decide (p ≠ .tst)

/-- A word address of the register space, 1 MiB (R24, R30). -/
def regAddr (a : Nat) : Bool := decide (a < 2 ^ 20 ∧ a % 4 = 0)

/-- A frame from one of the two ports, between two of the eight devices (R365, R369). -/
def FrameHdr.wf (h : FrameHdr) : Bool := decide (h.port < 2 ∧ h.src < 8 ∧ h.hops < 256 ∧ h.seq < 256) && h.dst.all (fun d => decide (d < 8))

/-- An MSI-X vector of the function's 32 (R51). -/
def CfgReq.wf (q : CfgReq) : Bool :=
  match q with
  | .vectorMask v _ => decide (v < 32)
  | .read => true
  | .msix _ _ => true
  | .rangeStatus => true
  | .gpfDvsec => true
  | .other => true

/-- One of sixteen lanes (R336). -/
def LaneEnd.wf (e : LaneEnd) : Bool := decide (e.lane < 16)

namespace Machine

/-- A die, up to four planes and a 14-bit block (R234, R265). -/
def FOp.wf (o : FOp) : Bool := decide (o.die < 16 ∧ o.block < 2 ^ 14) && o.planes.all (fun p => decide (p < 4))

/-- An implemented kind of scope: a block number, one of nine domains, one of four cores (R425, R528). -/
def ScopeOf.wf (w : ScopeOf) : Bool :=
  match w with
  | .block b => decide (b < 256)
  | .domain d => decide (d < 9)
  | .core k => decide (k < 4)

/-- Four resources, five classes, sixteen channels, two DRAM controllers (R66, R67, R302). -/
def TickWork.wf (w : TickWork) : Bool :=
  w.used.all (fun n => decide (n ≤ 64)) && w.overrun.all (fun e => decide (e.1 < 5 ∧ e.2 ≤ 64))
    && w.sent.all (fun e => decide (e.1 < 16)) && w.drcEvents.all (fun e => decide (e.1 < 2))

/-- At most 32 bytes of read data (R497). -/
def TwlEnd.wf (e : TwlEnd) : Bool :=
  match e with
  | .data b => decide (b.length ≤ 32)
  | .nack => true
  | .pec => true
  | .arb bit _ _ => decide (bit < 512)

/-- The corrected symbols are some of the 80, each named once, in rising order, and 12 at most: an erased device and four more (R319,
R320, R322). -/
def ReadOutcome.wf (o : ReadOutcome) : Bool :=
  match o with
  | .corrected l _ => decide (0 < l.length ∧ l.length ≤ 12 ∧ l.Pairwise (· < ·)) && l.all (fun x => decide (x < 80))
  | .clean => true
  | .poison => true
  | .ue => true

end Machine

/-- Is the command well formed? -/
def Instr.wf : Instr → Bool
  | .passTick w => w.wf
  | .aliveEdge => true
  | .mastershipTakeover _ => true
  | .registerWrite p addr mask _ => p.isBus && regAddr addr && decide (mask < 16)
  | .counterLoRead p addr => p.isBus && regAddr addr
  | .rcRead p addr => p.isBus && regAddr addr
  | .semClaim n readers => decide (n < 64) && !readers.isEmpty && readers.all Port.isBus
  | .semRelease p n owner => p.isBus && decide (n < 64) && decide (0 < owner ∧ owner < 4)
  | .semBreak p n owner => p.isBus && decide (n < 64) && decide (0 < owner ∧ owner < 4)
  | .semLeaseExpiry n => decide (n < 64)
  | .shadowArm p page => p.isBus && decide (page < 256)
  | .shadowDiscard p page => p.isBus && decide (page < 256)
  | .softRst p page => p.isBus && decide (page < 256)
  | .clkGate p page _ => p.isBus && decide (page < 256)
  | .pageEn p page _ => p.isBus && decide (page < 256)
  | .intForce p page _ => p.isBus && decide (page < 256)
  | .errForce p page _ => p.isBus && decide (page < 256)
  | .mgpEoi p v => p.isBus && decide (v < 2 ^ 32)
  | .msixHeldSend => true
  | .cxlMemWrite n line tag _ _ _ => decide (n < 4) && decide (line < 2 ^ 46) && decide (tag < 2 ^ 16)
  | .cxlMemRead n line tag => decide (n < 4) && decide (line < 2 ^ 46) && decide (tag < 2 ^ 16)
  | .isletRecordReadDone => true
  | .paceAdmit => true
  | .holdMaxAdmit => true
  | .budgetCompute tj => decide (-128 ≤ tj ∧ tj < 128)
  | .gaugeStale _ => true
  | .epochClose => true
  | .coolingWalkDone => true
  | .epochSeal _ _ => true
  | .planeClearDone => true
  | .persBarPost p _ => p.isBus
  | .persQIslet p islet => p.isBus && decide (islet < 2 ^ 32)
  | .isletLookupDone => true
  | .shadowReadEnd islet => decide (islet < 2 ^ 32)
  | .stripeAgeExpiry _ => true
  | .sweepRoundDone => true
  | .barrierSweepDone => true
  | .pfailInFall => true
  | .pfailDebounceDone => true
  | .pfailGlitch samples => decide (0 < samples ∧ samples < 256)
  | .pfailInRise => true
  | .holdRailTrip => true
  | .holdRailClose _ => true
  | .saveWritesApplied => true
  | .saveDataDone => true
  | .energyCutoff _ => true
  | .saveSealProgrammed => true
  | .saveSealReadback => true
  | .saveBasinEntry _ => true
  | .selfTestDone _ => true
  | .powerReturn => true
  | .powerLoss _ => true
  | .railOutOfBand rail => decide (1 ≤ rail ∧ rail ≤ 11)
  | .dramRailFault => true
  | .gpfPhase1 => true
  | .gpfPhase2 => true
  | .gpfPhase2Done => true
  | .dramTrainingDone fell _ failed => fell.all (fun sc => decide (sc < 4)) && failed.all (fun sc => decide (sc < 4))
  | .imageDetectDone _ => true
  | .metadataLoadDone => true
  | .faultInDone islet _ _ lost _ => decide (islet < 2 ^ 32) && lost.all (fun o => decide (o < 1024))
  | .restoreIsletDone _ _ lost => lost.all (fun o => decide (o < 1024))
  | .warmCheckDone _ => true
  | .cascadeWaitExpiry => true
  | .flashOpEnqueue c o => decide (c < 16) && o.wf
  | .resumeWindowExpiry c d => decide (c < 16) && decide (d < 16)
  | .flashReadDone c d plane b r _ _ => decide (c < 16) && decide (d < 16) && decide (plane < 4) && decide (b < 2 ^ 14) && decide (r.cw < 4)
  | .flashProgramDone c d _ _ => decide (c < 16) && decide (d < 16)
  | .flashEraseDone c d _ => decide (c < 16) && decide (d < 16)
  | .dieReadyTimeout c d _ => decide (c < 16) && decide (d < 16)
  | .fchRetrain p c => p.isBus && decide (c < 16)
  | .flashChannelTrained c _ found => decide (c < 16) && decide (found.length ≤ 16)
  | .farrQBlock p _ => p.isBus
  | .blockLookupDone => true
  | .movStart p c => p.isBus && decide (c < 32)
  | .movAbort p c => p.isBus && decide (c < 32)
  | .move c => decide (c < 32)
  | .spread c => decide (c < 32)
  | .loop c => decide (c < 32)
  | .wait c => decide (c < 32)
  | .signal c cycle => decide (c < 32) && decide (cycle < 3000)
  | .halt c cycle => decide (c < 32) && decide (cycle < 3000)
  | .nop c => decide (c < 32)
  | .illegal c cycle => decide (c < 32) && decide (cycle < 3000)
  | .pcRange c cycle => decide (c < 32) && decide (cycle < 3000)
  | .pmUe c cycle => decide (c < 32) && decide (cycle < 3000)
  | .moverTransferDone c _ why => decide (c < 32) && decide (why < 16)
  | .waitEnd c => decide (c < 32)
  | .waitTimeout c cycle => decide (c < 32) && decide (cycle < 3000)
  | .pmDataHiWrite p _ => p.isBus
  | .pmDataLoRead p => p.isBus
  | .pmDataHiRead p => p.isBus
  | .collectorDrain cycle => decide (cycle < 3000)
  | .mvgCpop p => p.isBus
  | .dramReadDone line _ o _ => decide (line < 2 ^ 46) && o.wf
  | .repairWrite line => decide (line < 2 ^ 46)
  | .refreshDue sc lrank _ => decide (sc < 4) && decide (lrank < 16)
  | .mr4Poll d _ => decide (d < 2)
  | .rankPowerDown d r _ => decide (d < 2) && decide (r < 2)
  | .rowIdleClose _ => true
  | .caParityAlert sc => decide (sc < 4)
  | .caAlertClear sc => decide (sc < 4)
  | .inPlaceRetrainDone sc _ => decide (sc < 4)
  | .dtrnGo p => p.isBus
  | .dtrnStop p => p.isBus
  | .dtrnDone lanes _ => decide (lanes < 2 ^ 16)
  | .perstAssert => true
  | .perstRelease => true
  | .linkUp rate _ lanes => decide (rate < 4) && lanes.all LaneEnd.wf
  | .linkDown => true
  | .linkFail => true
  | .l1Exit => true
  | .configRequest q => q.wf
  | .creditStall => true
  | .decoderCommit n base size dpa iw ig => decide (n < 4) && decide (base < 2 ^ 64) && decide (size < 2 ^ 64) && decide (dpa < 2 ^ 64) && decide (iw < 16) && decide (ig < 16)
  | .memEnable => true
  | .getEventRecords log => decide (log < 256)
  | .clearEventRecords log _ _ => decide (log < 256)
  | .getEventInterruptPolicy => true
  | .setEventInterruptPolicy modes => decide (modes.length = 4)
  | .getFwInfo => true
  | .unsupportedCommand => true
  | .getTimestamp => true
  | .setTimestamp ns => decide (ns < 2 ^ 64)
  | .getSupportedLogs => true
  | .getLog uuid offset length => decide (uuid.length = 16) && decide (offset < 2 ^ 32) && decide (length < 2 ^ 32)
  | .identifyMemoryDevice => true
  | .getHealthInfo => true
  | .getAlertConfig => true
  | .setAlertConfig config => decide (config.length = 12)
  | .getShutdownState => true
  | .setShutdownState v => decide (v < 256)
  | .getPoisonList dpa length => decide (dpa < 2 ^ 64) && decide (length < 2 ^ 64)
  | .injectPoison dpa => decide (dpa < 2 ^ 64)
  | .clearPoison dpa _ => decide (dpa < 2 ^ 64)
  | .sanitize => true
  | .sanitizeDone => true
  | .barrierPost tag => decide (tag < 2 ^ 32)
  | .barrierStatus seq => decide (seq < 2 ^ 16)
  | .budgetQuery => true
  | .imageStatus => true
  | .cascadeStatus => true
  | .formatArray confirm flags tag size => decide (confirm < 2 ^ 32) && decide (flags < 2 ^ 32) && decide (tag < 2 ^ 32) && decide (size < 2 ^ 32)
  | .formatArrayDone => true
  | .keyImportBegin => true
  | .keyExport slot _ => decide (slot < 256)
  | .keyImport _ _ _ => true
  | .straitPortTrained port partner _ => decide (port < 2) && decide (partner < 8)
  | .censusDone => true
  | .masterElection => true
  | .straitPeriodicSend _ => true
  | .straitFrameBad _ => true
  | .heartbeat h payload => h.wf && decide (payload.length = 24)
  | .probe h _ => h.wf
  | .echo h payload _ => h.wf && decide (payload.length = 24)
  | .tickSync h payload _ _ _ => h.wf && decide (payload.length = 24)
  | .memberInfo h payload => h.wf && decide (payload.length = 24)
  | .share h payload => h.wf && decide (payload.length = 24)
  | .tailDone h payload => h.wf && decide (payload.length = 24)
  | .closeIssue => true
  | .close h payload => h.wf && decide (payload.length = 24)
  | .sealedFrame h payload => h.wf && decide (payload.length = 24)
  | .groupSealed h payload => h.wf && decide (payload.length = 24)
  | .straitSave h => h.wf
  | .saveStart h payload => h.wf && decide (payload.length = 24)
  | .saveEnd h payload => h.wf && decide (payload.length = 24)
  | .imageStatusFrame h payload => h.wf && decide (payload.length = 24)
  | .groupPoint h payload => h.wf && decide (payload.length = 24)
  | .masterClaim h payload => h.wf && decide (payload.length = 24)
  | .eventFrame h payload => h.wf && decide (payload.length = 24)
  | .peerSilent d _ => decide (d < 8)
  | .strtRetrain p => p.isBus
  | .refLoss => true
  | .refBack _ => true
  | .aonClkLoss => true
  | .pllLock k => decide (k < 6)
  | .pllUnlock k => decide (k < 6)
  | .powerOnReset retries => retries.all (fun v => decide (v < 4))
  | .bootImageVerified _ _ => true
  | .configurationDone _ _ => true
  | .rstKey p _ => p.isBus
  | .devRst p => p.isBus
  | .quiesceDone _ _ => true
  | .resetHoldRelease => true
  | .recoverySample _ _ => true
  | .faultDetect page src kind addr cycle _ _ => decide (page < 256) && decide (src < 32) && decide (kind < 64) && decide (addr < 2 ^ 48) && decide (cycle < 3000)
  | .faultRecord => true
  | .blockResetDone w _ => w.wf
  | .resetOverrun b => decide (b < 256)
  | .resetStuck d => decide (d < 9)
  | .resetShadowEnd w _ => w.wf
  | .tickStall => true
  | .glenWdog k cycle => decide (k < 4) && decide (cycle < 3000)
  | .glenRestartDone k _ => decide (k < 4)
  | .fltPop p => p.isBus
  | .fltFirstClr p => p.isBus
  | .recEvent b code _ detail => decide (b < 256) && decide (code < 2 ^ 16) && decide (detail.length ≤ 7)
  | .hoursNote => true
  | .flush p => p.isBus
  | .flushDone _ => true
  | .freeze p _ => p.isBus
  | .freezeTimeout => true
  | .recRdSeq p _ => p.isBus
  | .recReadDone p _ _ => p.isBus
  | .atolProgram p => p.isBus
  | .atolErase p => p.isBus
  | .atolHalt p => p.isBus
  | .atolContinue p => p.isBus
  | .atolStatus p => p.isBus
  | .atolCounts p => p.isBus
  | .atolFlip p => p.isBus
  | .atolProtect p lvl => p.isBus && decide (lvl < 256)
  | .atolIdle p => p.isBus
  | .atolWindowData p offset _ _ => p.isBus && decide (offset % 4 = 0 ∧ offset < 0xFC0)
  | .atolWindowRead p offset cbits _ => p.isBus && decide (offset % 4 = 0 ∧ offset < 0xFC0) && decide (cbits < 256)
  | .atolSeqTimeout p => p.isBus
  | .atolProgramDone _ _ => true
  | .atolEraseDone _ => true
  | .wipeDone => true
  | .pollDue n => decide (n < 16)
  | .twlTransactionStart => true
  | .twlTransactionDone e => e.wf
  | .twlTimeout _ => true
  | .busStuckRetry _ => true
  | .hostNotify addr statusv => decide (addr < 128) && decide (statusv < 2 ^ 16)
  | .twlNpop p => p.isBus
  | .locAlert _ => true
  | .araBackoff => true
  | .twlXcmdGo p => p.isBus
  | .regWrite count _ _ _ words _ => decide (count < 256) && decide (words.length ≤ 63)
  | .regRead count _ _ _ k => decide (count < 256) && decide (k < 256)
  | .reset count bytes _ => decide (count < 256) && decide (bytes.length ≤ 255)
  | .sbAra => true
  | .sbTimeout => true
  | .sbProtocolAbandon => true
  | .ident tag _ => decide (tag < 2 ^ 16)
  | .svcFrameShort => true
  | .status tag _ => decide (tag < 2 ^ 16)
  | .pkgBegin tag _ payload => decide (tag < 2 ^ 16) && decide (payload.length ≤ 4096)
  | .updHashDone => true
  | .updEraseDone => true
  | .pkgData tag _ payload => decide (tag < 2 ^ 16) && decide (payload.length ≤ 4096)
  | .pkgEnd tag _ => decide (tag < 2 ^ 16)
  | .updCheckDone => true
  | .activate tag _ => decide (tag < 2 ^ 16)
  | .abort tag _ => decide (tag < 2 ^ 16)
  | .rcvBegin tag _ payload => decide (tag < 2 ^ 16) && decide (payload.length ≤ 4096)
  | .rcvData tag _ payload => decide (tag < 2 ^ 16) && decide (payload.length ≤ 4096)
  | .rcvEnd tag _ => decide (tag < 2 ^ 16)
  | .rcvCheckDone => true
  | .protSet tag _ payload => decide (tag < 2 ^ 16) && decide (payload.length ≤ 4096)
  | .ecRead tag _ payload => decide (tag < 2 ^ 16) && decide (payload.length ≤ 4096)
  | .requestTerrace p => p.isBus
  | .requestBasin p => p.isBus
  | .requestRun p => p.isBus
  | .autoTerrace _ => true
  | .l2Entry => true
  | .stopPointReached => true
  | .domainReady => true
  | .domainTimeout d _ => decide (d < 9)
  | .exitDone => true
  | .scrubLineDue => true
  | .roundLate => true
  | .retentionScanDue _ => true
  | .scanLate => true
  | .zqDue sc lrank => decide (sc < 4) && decide (lrank < 16)
  | .oscDue sc lrank _ => decide (sc < 4) && decide (lrank < 16)
  | .fcalDue c d plane group _ _ _ => decide (c < 16) && decide (d < 16) && decide (plane < 4) && decide (group < 2 ^ 14)
  | .onfiZqDue c => decide (c < 16)
  | .capTestDue => true
  | .capGo p => p.isBus
  | .capMaxExpiry _ => true
  | .wearHorizonUpdate => true
  | .telemetrySample tj _ => decide (-128 ≤ tj ∧ tj < 128)
  | .dscrMpop p => p.isBus
  | .tapReset => true
  | .extest pins shifted => decide (pins < 2 ^ 1912) && shifted.all (fun v => decide (v < 2 ^ 1912))
  | .sample pins => decide (pins < 2 ^ 1912)
  | .preload pins shifted => decide (pins < 2 ^ 1912) && shifted.all (fun v => decide (v < 2 ^ 1912))
  | .idcode => true
  | .clamp => true
  | .highz => true
  | .extestPulse pins shifted => decide (pins < 2 ^ 1912) && shifted.all (fun v => decide (v < 2 ^ 1912))
  | .extestTrain pins shifted => decide (pins < 2 ^ 1912) && shifted.all (fun v => decide (v < 2 ^ 1912))
  | .sysId => true
  | .tstReset => true
  | .atolRead word cbits _ _ => decide (word < 2 ^ 25) && decide (cbits < 256)
  | .atolEc b => decide (b < 512)
  | .bypass code => decide (code < 256)
  | .portDown port => decide (port < 2)
  | .linkRecovery errors down => errors.all (fun e => decide (e.1 < 16)) && down.all (fun e => decide (e.1 < 4) && e.2.all LaneEnd.wf)
  | .l1Entry => true
  | .hotReset => true
  | .holdRailReturn => true
  | .shareTimeout => true
  | .gatedPageRead p addr => p.isBus && regAddr addr
  | .unlistedFrameType h => h.wf
  | .badOp tag _ => decide (tag < 2 ^ 16)
  | .sbCommandRefused code => decide (code < 256)

end Sys2Proof
end

