-- ==== Sys2Proof/Tests/Slice0.lean ====
section
/-! SUPPORT. The model's own tests: for every clause of the statements that has hypotheses a state and operands that meet them
all, an ill-formed term for each check, and a few results worked out from the spec. -/

open Sys2Proof Sys2Proof.Machine
set_option linter.unusedVariables false
set_option linter.style.longLine false
set_option Elab.async false

namespace Sys2Proof.Tests

/-! ### States -/

/-- Out of reset with the host link up. -/
def up : State := { State.reset with
  rst := { State.reset.rst with phase := .active }, hlk := { State.reset.hlk with linkUp := true } }
/-- Configured, before DRAM is trained. -/
def conf : State := { State.reset with rst := { State.reset.rst with phase := .configured } }
/-- The master of a group that waits for the image statuses of its members. -/
def grpWait : State := { conf with
  regs := (conf.put STRT_STAT_IN_GROUP 1).regs, now := 10000000, rstr := { conf.rstr with statuses := [⟨0, 0, 0, 0, 1⟩] } }
/-- Channel 0 with its first die working. -/
def chUp : State := up.setDie 0 0 { noDie with st := 1 }
/-- The die runs a program. -/
def chProg : State := chUp.setDie 0 0 { noDie with st := 1, busy := some ⟨.normal, .program, 0, [0], 0, 0, false, 0⟩ }
/-- The die runs an erase. -/
def chErase : State := chUp.setDie 0 0 { noDie with st := 1, busy := some ⟨.normal, .erase, 0, [0], 0, 0, false, 0⟩ }
/-- The die runs a plain read. -/
def chRead0 : State := chUp.setDie 0 0 { noDie with st := 1, busy := some ⟨.normal, .read, 0, [0], 0, 0, false, 0⟩ }
/-- A demand read waits for the die that runs a program. -/
def chRead : State := { chProg with
  farr := { chProg.farr with queues := [(0, [⟨.demand, .read, 0, [0], 0, 0, false, 0⟩])] } }
/-- The die has been reset once and is still busy. -/
def chTried : State := chProg.setDie 0 0 { chProg.die 0 0 with resetTried := true }
/-- The host holds every semaphore. -/
def own : State := (List.range 64).foldl (fun (s : State) n => s.put (semHolder n) 1) up
/-- The state after an accepted write. -/
def acc (s : State) (p : Port) (a : Nat) (d : Word) : State := (s.accepted p a d).getD s
/-- The state after an accepted write of one field. -/
def accB (s : State) (p : Port) (a lo w v : Nat) : State := acc s p a (putBits (s.peek p a) lo w v)
/-- Channel `c` holds a record in its slot. -/
def mvSlot (c : Nat) : State := own.setChan c { own.chan c with slot := some ⟨c, 0, false, 0, 0, 0, 0, 0⟩ }
/-- Channel 0 runs two words of program from word 0, and has its port. -/
def mv2 (w v : BitVec 64) : State :=
  let s := own.put (MOV_STAT_STATE 0) 1
  s.setMov { s.mov with pm := Sparse.set (fun _ => 0) (Sparse.set (fun _ => 0) [] 0 w) 1 v, holders := [(groupOf 0, 0)] }
/-- Channel 0 runs one word. -/
def mv (w : BitVec 64) : State := mv2 w 0
/-- Channel 0 stands at word `n`. -/
def mvAt (w : BitVec 64) (n : Nat) : State := (mv2 0 w).setChan 0 { (mv 0).chan 0 with pc := n }
/-- Channel 0 is in a transfer of one burst. -/
def mvCur : State := (mv 0x1000000000000000).setChan 0 { (mv 0).chan 0 with cur := some (0x1000000000000000, 0) }
/-- Channel 0 waits. -/
def mvWait (w : BitVec 64) : State := (mv w).put (MOV_STAT_STATE 0) 2
/-- The host link may train: down, out of PERST#, with PLL H locked. -/
def linkReady : State :=
  let s := (up.put CLK_STAT_LOCK 63).put HLK_CFG_MAX_RATE 2
  { s with hlk := { s.hlk with linkUp := false, perst := false } }
/-- The host link is up in 256-byte flits at one lane. -/
def linkOn : State := (((up.put HLK_CFG_MAX_RATE 2).put HLK_LINK_FLIT256 1).put HLK_LINK_WIDTH 1)
/-- A barrier may be posted: memory active, in an epoch. -/
def barOk : State := own.put PERS_CTRL_ACTIVE 1
/-- A member of a group of three, device 1, with both Strait ports trained and device 0 as master. -/
def grp : State :=
  let s := ((((own.put (PAGE_CTRL_EN 0x88) 1).put STRT_STAT_IN_GROUP 1).put STRT_STAT_DEV_NO 1).put STRT_STAT_UP_OK 1).put STRT_STAT_DOWN_OK 1
  let t := (s.put STRT_CTRL_EN 1).put STRT_STAT_SIZE 3
  { t with strt := { t.strt with censusDone := true } }
/-- The header of a frame from device 0. -/
def hd : FrameHdr := ⟨0, 0, none, 0, 9⟩
/-- A member that has heard nothing of the others. -/
def grpMember : State := { grp with now := 1000 }
/-- A save that runs. -/
def aRun : SaveRun :=
  ⟨0, .data, false, 1, 0, none, [], [], [], 0, some (0, 0), 0, false, none, 0, 0, none, [], [], 0, [], 0⟩
/-- A master whose epoch is about to end. -/
def closeReady : State :=
  let s := ((grp.put STRT_STAT_MASTER 1).put PERS_CTRL_ACTIVE 1).put STRT_CFG_CLOSE_LEAD 100
  { s with pers := { s.pers with running := true } }
/-- The boot image is being verified. -/
def booting : State := { conf with rst := { conf.rst with phase := .booting } }
/-- The host has written the key of RST_KEY. -/
def keyed : State := { own with rst := { own.rst with keys := [(.host, 0)] } }
/-- Power has been good for RET_MS. -/
def good : State := { up with now := 100000000, save := { up.save with goodSince := some 0 } }
/-- A pending message of a fault. -/
def theMsg : FltMsg := ⟨0x90, 6, 5, 0, 2, false, 0, 0, 1, false, 0⟩
/-- One message is pending. -/
def aFault (m : FltMsg) : State := { own with flt := { own.flt with pend := Sparse.set (fun _ => noMsg) [] (fsrcOf m.page m.src) m } }
/-- A reset of block 0x60 in a phase. -/
def inScope (f : ScopePhase) : State := { up with flt := { up.flt with scopes := [⟨.block 0x60, 1, f, 0, 0⟩] }, now := 1000 }
/-- A record of the recorder. -/
def aRec : RecRec := ⟨6, 2, 0, 0, 0, 0, 0, 1, 0, 0, 0, 0, 0, 0, [], [], true⟩
/-- The host reads record `q`, and the ring holds record 6. -/
def recRead (q old : Nat) : State :=
  let s := (own.put REC_OLDEST_RSEQ old).put REC_NEWEST_RSEQ 6
  { s with recd := { s.recd with reads := [⟨.host, q⟩], ring := [aRec] } }
/-- The host's window stands at the command offset of Atoll. -/
def atl : State := own.put (ATOL_WIN_BASE.at .host) 0x1F
/-- A host erase runs, or is suspended by HALT. -/
def erasing (h : Bool) : State := { atl with atol := { atl.atol with erase := some ⟨0, .erase 450⟩, halted := h } }
/-- The local bus is enabled and polls record 15 for the gauge. -/
def polling : State := ((own.put TWL_CTRL_EN 1).put TWL_CTRL_POLL_EN 1).put (TWL_POLL_A_DEST 15) 1
/-- The service port takes updates. -/
def svcUp : State := (own.put SVC_CTRL_EN 1).put SVC_CTRL_UPD_EN 1
/-- A package header without its CRC, in nine runs of 28 bytes, and with it. -/
def pkgRuns : List (List (BitVec 8)) :=
  [ [77, 66, 83, 66, 0, 1, 1, 0, 0, 0, 0, 0, 0, 0, 0, 0, 0, 0, 0, 0, 0, 0, 0, 0, 0, 0, 0, 0]
  , List.replicate 28 0
  , [0, 0, 0, 0, 0, 16, 0, 0, 0, 0, 0, 0, 0, 0, 0, 0, 0, 0, 0, 0, 0, 0, 0, 0, 0, 0, 0, 0] ]
  ++ List.replicate 6 (List.replicate 28 0)
def pkgHead : List (BitVec 8) := pkgRuns.flatten ++ leBytes 4 0x4F860147
theorem test_crcRun0 : (pkgRuns.getD 0 []).foldl crcByte 0xFFFFFFFF = 0x7CB7CC1F := by decide +kernel
theorem test_crcRun1 : (pkgRuns.getD 1 []).foldl crcByte 0x7CB7CC1F = 0xC3078B46 := by decide +kernel
theorem test_crcRun2 : (pkgRuns.getD 2 []).foldl crcByte 0xC3078B46 = 0x5E641A3F := by decide +kernel
theorem test_crcRun3 : (pkgRuns.getD 3 []).foldl crcByte 0x5E641A3F = 0x54AC20EF := by decide +kernel
theorem test_crcRun4 : (pkgRuns.getD 4 []).foldl crcByte 0x54AC20EF = 0xA71E1C76 := by decide +kernel
theorem test_crcRun5 : (pkgRuns.getD 5 []).foldl crcByte 0xA71E1C76 = 0xBA4E5363 := by decide +kernel
theorem test_crcRun6 : (pkgRuns.getD 6 []).foldl crcByte 0xBA4E5363 = 0xA2569D70 := by decide +kernel
theorem test_crcRun7 : (pkgRuns.getD 7 []).foldl crcByte 0xA2569D70 = 0x691852C := by decide +kernel
theorem test_crcRun8 : (pkgRuns.getD 8 []).foldl crcByte 0x691852C = 0xB079FEB8 := by decide +kernel
/-- The CRC of the header, run by run. -/
theorem test_pkgCrc : (crc32c pkgRuns.flatten).toNat = 0x4F860147 := by
  have h : pkgRuns.flatten.foldl crcByte 0xFFFFFFFF = 0xB079FEB8 := by
    rw [List.foldl_flatten]
    show ([pkgRuns.getD 0 [], pkgRuns.getD 1 [], pkgRuns.getD 2 [], pkgRuns.getD 3 [], pkgRuns.getD 4 [], pkgRuns.getD 5 [],
      pkgRuns.getD 6 [], pkgRuns.getD 7 [], pkgRuns.getD 8 []] : List (List (BitVec 8))).foldl (fun c l => l.foldl crcByte c) _ = _
    simp only [List.foldl_cons, List.foldl_nil, test_crcRun0, test_crcRun1, test_crcRun2, test_crcRun3, test_crcRun4, test_crcRun5, test_crcRun6, test_crcRun7, test_crcRun8]
  unfold crc32c
  rw [h]
  decide
theorem test_pkgHead : headerValid pkgHead 1 = true := by
  have h : pkgHead.take 0xFC = pkgRuns.flatten := by decide +kernel
  unfold headerValid
  rw [h, test_pkgCrc]
  decide +kernel
/-- An update takes its data, of at most 100 bytes. -/
def svcData : State :=
  let s := svcUp.put SVC_STAT_STATE 3
  s.setSvc { s.svc with pkg := { s.svc.pkg with bodyLen := 100 } }
/-- The body of an update has come whole: END alone. -/
def svcCheck : State :=
  let s := svcUp.put SVC_STAT_STATE 4
  s.setSvc { s.svc with body := [0], pkg := { s.svc.pkg with bodyLen := 1, targetLen := 0, bodyCrc := (crc32c [0]).toNat } }
/-- Recovery. -/
def recov : State := { own with rst := { own.rst with phase := .recovery } }
/-- A recovery image of `n` bytes is coming in. -/
def rcvIn (n : Nat) : State :=
  let s := (recov.put SVC_STAT_STATE 3).put SVC_TOTAL_BYTES n
  s.setSvc { s.svc with rcv := true }
/-- A recovery image has come whole. -/
def rcvCheck : State :=
  let s := recov.put SVC_STAT_STATE 4
  s.setSvc { s.svc with rcv := true, imgCrc := (crc32c []).toNat }
/-- TERRACE is being entered and its domains switch. -/
def entering1 : State := { own with pwr := { own.pwr with entering := some 1, switching := true } }
/-- The upkeep of the flash runs, and everything that is periodic is due. -/
def upkA0 : State := { (((own.put (PAGE_CTRL_EN 0xA0) 1).put (PAGE_CTRL_EN 0xA1) 1).put (DRC_STAT_TRAINED 0) 1).put (DRC_STAT_TRAINED 1) 1 with now := 10000000000000000 }
/-- The scrub runs and a line is due. -/
def upk0x5C : State :=
  let s := own.put (PAGE_CTRL_EN 0x5C) 1
  { s with dscr := { s.dscr with due := 1 } }
/-- Memory is active, and decoder 0 covers the first gibibyte. -/
def memOn : State :=
  let s := up.put RSTR_STAT_MEM_ACTIVE 1
  { s with hlk := { s.hlk with memEnable := true, decs := [(0, some ⟨0, 2 ^ 30, 0, 1, 0⟩)] } }
/-- The host write to line 0. -/
def aWrite : MemReq := ⟨false, 0, some 0, 0, 0, true, 0, 0, false⟩
/-- PERS runs, on a controller that is in service. -/
def persOn : State := own.put (PAGE_CTRL_EN 0x20) 1
/-- The budget hold at level `n`, with one write held since reset. -/
def holds (n : Nat) : State :=
  let s := (up.put PERS_STAT_LEVEL n).put PERS_CTRL_BP_EN 1
  { s with now := 1000000, pers := { s.pers with hold := [⟨aWrite, 0⟩] } }
/-- The hold queue is full, and a write to an islet that is not residual waits for its record. -/
def holdFull : State :=
  let s := (holds 5).put PERS_CTRL_ACTIVE 1
  { s with pers := { s.pers with hold := List.replicate 256 ⟨aWrite, 0⟩, recWait := [⟨aWrite, 0⟩] } }
/-- An epoch runs and is due. -/
def epochOn : State :=
  let s := up.put PERS_CTRL_ACTIVE 1
  { s with pers := { s.pers with running := true, closeAt := some (0, 0) } }
/-- Epoch 1 has closed. -/
def tailed (walked isSealed : Bool) : State := { up with pers := { up.pers with tail := some ⟨1, 0, walked, isSealed⟩ } }
/-- PFAIL_IN# is low. -/
def pfLow : State := { up with save := { up.save with pfailLow := true } }
/-- The hold rail is monitored, or is not. -/
def monOn : State := up.put SAVE_CTRL_MON_EN 1
def monOff : State := up.put SAVE_CTRL_MON_EN 0
/-- A save stands at `step`. -/
def aSave (step : SaveStep) : State := { up with save := { up.save with run := some { aRun with step := step } } }
/-- A save has ended. -/
def saved : State := { up with save := { up.save with ended := true, failSeen := true } }
/-- Power has come back for good after a save. -/
def savedGood : State :=
  let s := saved.put SAVE_CTRL_AUTO_WARM 1
  { s with now := 100000000, save := { s.save with goodSince := some 0 } }
/-- Page 0x20 requests vector 1. -/
def requesting1 : State :=
  let s := (own.put (INT_STAT_CAUSE 0x20) 1).put (MGP_ROUTE_HOST_EN 0x20) 1
  (s.put (MGP_ROUTE_VECTOR 0x20) 1).setWord 0x20014 1
theorem test_passTick_1 : ∃ (s : State) (w : TickWork), { s with now := s.now + 1 }.ticks = false :=
  ⟨up, ⟨[], [], [], 0, 0, 0, 0, [], []⟩, by decide +kernel⟩
theorem test_passTick_2 : ∃ (s : State) (w : TickWork), { s with now := s.now + 1 }.ticks = true :=
  ⟨up.put CLK_STAT_LOCK 63, ⟨[], [], [], 0, 0, 0, 0, [], []⟩, by decide +kernel⟩
theorem test_passTick_4 : ∃ (s : State), s.rst.aliveRun = true :=
  ⟨{ up with rst := { up.rst with aliveRun := true } }, by decide +kernel⟩
theorem test_passTick_5 : ∃ (s : State), s.rst.aliveRun = false :=
  ⟨up, by decide +kernel⟩
theorem test_registerWrite_1 : ∃ (s : State) (p : Port) (a : Nat) (d : Word) (u : State), s.accepted p a d = some u ∧ a <
    0x100000 ∧ a % 4 = 0 ∧ (a / 0x1000 ≠ 0x80 ∨ a % 0x1000 < 0x40) ∧ a / 0x100 ≠ 0x41 ∧ (a / 0x1000 ≠ 0xB4 ∨ a % 0x1000 <
    0x40) :=
  ⟨own, .host, 0x20040, 1, acc own .host 0x20040 1, by decide +kernel⟩
theorem test_registerWrite_2 : ∃ (s : State) (p : Port) (a m : Nat) (d : Word), s.portOpen p = true ∧ m % 16 ≠ 15 ∧
    implemented (a % 0x100000 / 4 * 4 / 0x1000) = true ∧ s.gated (a % 0x100000 / 4 * 4 / 0x1000) = false :=
  ⟨own, .host, 0x20040, 3, 1, by decide +kernel⟩
theorem test_registerWrite_3 : ∃ (s : State) (p : Port) (a : Nat) (d : Word) (r : Row), s.portOpen p = true ∧ a < 0x100000
    ∧ a % 4 = 0 ∧ implemented (a / 0x1000) = true ∧ s.gated (a / 0x1000) = false ∧ (a / 0x1000 ≠ 0x80 ∨ a % 0x1000 < 0x40) ∧
    a / 0x100 ≠ 0x41 ∧ regRow a = some r ∧ needsSem a r = true ∧ s.holdsSem p (a / 0x1000) = false :=
  ⟨up, .host, 0x20040, 1, (regRow 0x20040).get (by decide), by decide +kernel⟩
theorem test_registerWrite_4 : ∃ (s : State) (p : Port) (a m : Nat) (d : Word), s.portOpen p = true ∧ implemented (a %
    0x100000 / 4 * 4 / 0x1000) = true ∧ s.gated (a % 0x100000 / 4 * 4 / 0x1000) = true :=
  ⟨own.put (PAGE_CTRL_CLK_GATE 0x5C) 1, .host, 0x5C040, 15, 1, by decide +kernel⟩
theorem test_registerWrite_5 : ∃ (s : State) (p : Port) (a m : Nat) (d : Word), s.portOpen p = false ∨ implemented (a %
    0x100000 / 4 * 4 / 0x1000) = false :=
  ⟨State.reset, .host, 0x20040, 15, 1, by decide +kernel⟩
theorem test_pageCommands_1 : ∃ (s : State) (p : Port) (page : Nat) (u : State), s.accepted p (page % 256 * 0x1000 +
    0x02C) (putBits (s.peek p (page % 256 * 0x1000 + 0x02C)) 0 1 1) = some u ∧ bitOf (putBits (s.peek p (page % 256 * 0x1000
    + 0x02C)) 0 1 1).toNat 1 = false :=
  ⟨own, .host, 0x20, accB own .host 0x2002C 0 1 1, by decide +kernel⟩
theorem test_pageCommands_2 : ∃ (s : State) (p : Port) (page : Nat) (u : State), s.accepted p (page % 256 * 0x1000 +
    0x02C) (putBits (s.peek p (page % 256 * 0x1000 + 0x02C)) 1 1 1) = some u ∧ bitOf (putBits (s.peek p (page % 256 * 0x1000
    + 0x02C)) 1 1 1).toNat 1 = true :=
  ⟨own, .host, 0x20, accB own .host 0x2002C 1 1 1, by decide +kernel⟩
theorem test_pageCommands_3 : ∃ (s : State) (p : Port) (page : Nat) (u : State), s.accepted p (page % 256 * 0x1000 +
    0x008) (putBits (s.peek p (page % 256 * 0x1000 + 0x008)) 2 1 1) = some u :=
  ⟨own, .host, 0x20, accB own .host 0x20008 2 1 1, by decide +kernel⟩
theorem test_pageCommands_4 : ∃ (s : State) (p : Port) (page : Nat) (on : Bool) (u : State), s.accepted p (page % 256 *
    0x1000 + 0x008) (putBits (s.peek p (page % 256 * 0x1000 + 0x008)) 1 1 (b2n on)) = some u :=
  ⟨own, .host, 0x20, true, accB own .host 0x20008 1 1 1, by decide +kernel⟩
theorem test_pageCommands_5 : ∃ (s : State) (p : Port) (page : Nat) (on : Bool) (u : State), s.accepted p (page % 256 *
    0x1000 + 0x008) (putBits (s.peek p (page % 256 * 0x1000 + 0x008)) 0 1 (b2n on)) = some u :=
  ⟨own, .host, 0x20, true, accB own .host 0x20008 0 1 1, by decide +kernel⟩
theorem test_pageCommands_6 : ∃ (s : State) (p : Port) (page : Nat) (d : Word) (u : State), s.accepted p (page % 256 *
    0x1000 + 0x018) d = some u :=
  ⟨own, .host, 0x20, 1, acc own .host 0x20018 1, by decide +kernel⟩
theorem test_pageCommands_7 : ∃ (s : State) (p : Port) (page : Nat) (d : Word) (u : State), s.accepted p (page % 256 *
    0x1000 + 0x01C) d = some u :=
  ⟨own, .host, 0x20, 1, acc own .host 0x2001C 1, by decide +kernel⟩
theorem test_pageCommands_8 : ∃ (s : State) (p : Port) (v : Nat) (u : State), v < 32 ∧ s.accepted p 0xB080 (BitVec.ofNat
    32 v) = some u ∧ u.vectors.contains v = true ∧ u.mgp.held.contains v = false :=
  ⟨requesting1, .host, 1, acc requesting1 .host 0xB080 1, by decide +kernel⟩
theorem test_semaphores_1 : ∃ (s : State) (n : Nat) (p : Port), n < 64 ∧ s.portOpen p = true ∧ (s.get (semHolder n) = 0 ∨
    s.get (semHolder n) = portCode p) :=
  ⟨up, 0, .host, by decide +kernel⟩
theorem test_semaphores_2 : ∃ (s : State) (n : Nat) (p : Port), n < 64 ∧ s.portOpen p = true ∧ s.get (semHolder n) ≠ 0 ∧
    s.get (semHolder n) ≠ portCode p :=
  ⟨own, 63, .sideband, by decide +kernel⟩
theorem test_semaphores_3 : ∃ (s : State) (n : Nat) (t : State), n < 64 ∧ s.portOpen .host = true ∧ s.portOpen .sideband =
    true ∧ s.get (semHolder n) = 0 ∧ t = (if s.flag (semTie n) then (s.put (semTie n) 0).grantSem n .host else (s.put
    (semTie n) 1).grantSem n .sideband) :=
  ⟨up, 63, _, by decide +kernel, by decide +kernel, by decide +kernel, by decide +kernel, rfl⟩
theorem test_semaphores_4 : ∃ (s : State) (p : Port) (n o : Nat), s.portOpen p = true ∧ o % 4 = portCode p ∧ s.get
    (semHolder (n % 64)) = portCode p ∧ portCode p ≠ 0 :=
  ⟨own, .host, 63, 1, by decide +kernel⟩
theorem test_semaphores_5 : ∃ (s : State) (p : Port) (n o : Nat), s.portOpen p = true ∧ (o % 4 ≠ portCode p ∨ s.get
    (semHolder (n % 64)) ≠ portCode p) :=
  ⟨own, .sideband, 0, 1, by decide +kernel⟩
theorem test_semaphores_6 : ∃ (s : State) (p : Port) (n o : Nat), s.portOpen p = true ∧ o % 4 = portCode p ∧ s.get
    (semHolder (n % 64)) ≠ 0 ∧ s.get (semHolder (n % 64)) ≠ portCode p ∧ (s.lease (n % 64)).out = true :=
  ⟨{ own with leases := [(0, ⟨1, 0, true⟩)] }, .sideband, 0, 2, by decide +kernel⟩
theorem test_semaphores_7 : ∃ (s : State) (p : Port) (n o : Nat), s.portOpen p = true ∧ (s.lease (n % 64)).out = false :=
  ⟨own, .sideband, 0, 2, by decide +kernel⟩
theorem test_semaphores_8 : ∃ (s : State) (n : Nat), n < 64 ∧ s.get (semHolder n) ≠ 0 ∧ (s.lease n).since + (s.lease n).ms
    * 1000 ≤ s.now :=
  ⟨{ own with now := 100000000 }, 0, by decide +kernel⟩
theorem test_counterReads_1 : ∃ (s : State) (p : Port) (a : Nat) (r : Row), s.portOpen p = true ∧ a < 0x100000 ∧ a % 4 = 0
    ∧ implemented (a / 0x1000) = true ∧ s.gated (a / 0x1000) = false ∧ (a / 0x1000 ≠ 0x80 ∨ a % 0x1000 < 0x40) ∧ a / 0x100 ≠
    0x41 ∧ a / 0x1000 ≠ 0xB4 ∧ regRow a = some r ∧ r.kind = .lo :=
  ⟨up, .host, HLK_WR_LO_COUNT.addr, (regRow HLK_WR_LO_COUNT.addr).get (by decide), by decide +kernel⟩
theorem test_counterReads_2 : ∃ (s : State) (p : Port) (a : Nat) (r : Row), s.portOpen p = true ∧ a < 0x100000 ∧ a % 4 = 0
    ∧ implemented (a / 0x1000) = true ∧ s.gated (a / 0x1000) = false ∧ (a / 0x1000 ≠ 0x80 ∨ a % 0x1000 < 0x40) ∧ a / 0x100 ≠
    0x41 ∧ a / 0x1000 ≠ 0xB4 ∧ regRow a = some r ∧ r.kind = .plain :=
  ⟨up, .host, 0x20040, (regRow 0x20040).get (by decide), by decide +kernel⟩
theorem test_counterReads_3 : ∃ (s : State) (p : Port) (a : Nat), s.portOpen p = true ∧ a < 0x100000 ∧ a % 4 = 0 ∧
    implemented (a / 0x1000) = true ∧ s.gated (a / 0x1000) = true ∧ a % 0x1000 ≠ 0 :=
  ⟨up.put (PAGE_CTRL_CLK_GATE 0x5C) 1, .host, 0x5C040, by decide +kernel⟩
theorem test_cxlRequests_1 : ∃ (s : State) (n line tag : Nat) (data : LineData) (be : BitVec 64) (poison : Bool), line <
    s.mdl.hostLines ∧ s.servesAtOnce n line true = true :=
  ⟨memOn, 0, 0, 1, 5, 0xFF, false, by decide +kernel⟩
theorem test_cxlRequests_2 : ∃ (s : State) (n line tag : Nat), line < s.mdl.hostLines ∧ s.servesAtOnce n line false = true
    :=
  ⟨memOn, 0, 0, 1, by decide +kernel⟩
theorem test_cxlRequests_3 : ∃ (s : State) (n line tag : Nat) (data : LineData) (be : BitVec 64) (poison : Bool),
    s.mdl.hostLines ≤ line :=
  ⟨up, 0, 2 ^ 60, 0, 0, 0, false, by decide +kernel⟩
theorem test_cxlRequests_4 : ∃ (s : State) (n line tag : Nat), s.mdl.hostLines ≤ line :=
  ⟨up, 0, 2 ^ 60, 0, by decide +kernel⟩
theorem test_budgetHold_1 : ∃ (s : State) (h : HeldWrite) (l : List HeldWrite) (v : State), s.pers.recWait = h :: l ∧
    (s.setPers { s.pers with recWait := l }).dispose h.req = some v :=
  ⟨{ up with pers := { up.pers with recWait := [⟨⟨false, 0, some 0, 0, 0, true, 0, 0, false⟩, 0⟩] } }, ⟨⟨false, 0, some 0, 0, 0, true, 0, 0, false⟩, 0⟩, [], ({ up with pers := { up.pers with recWait := [] } }).hostWrite ⟨false, 0, some 0, 0, 0, true, 0, 0, false⟩, by decide +kernel⟩
theorem test_budgetHold_2 : ∃ (s : State) (h : HeldWrite) (l : List HeldWrite), s.pers.recWait = h :: l ∧ (s.setPers {
    s.pers with recWait := l }).dispose h.req = none :=
  ⟨holdFull, ⟨⟨false, 0, some 0, 0, 0, true, 0, 0, false⟩, 0⟩, [], by decide +kernel⟩
theorem test_budgetHold_3 : ∃ (s : State) (h : HeldWrite) (l : List HeldWrite), s.pers.hold = h :: l ∧ s.level = 4 ∧
    s.holding = true ∧ s.pers.lastAdmit + s.cfg PERS_BP_SPACING ≤ s.now :=
  ⟨(holds 4), ⟨⟨false, 0, some 0, 0, 0, true, 0, 0, false⟩, 0⟩, [], by decide +kernel⟩
theorem test_budgetHold_4 : ∃ (s : State) (h : HeldWrite) (l : List HeldWrite), s.pers.hold = h :: l ∧ s.level = 5 ∧
    s.holding = true ∧ h.since + s.cfg PERS_BP_HOLD_MAX ≤ s.now :=
  ⟨(holds 5), ⟨⟨false, 0, some 0, 0, 0, true, 0, 0, false⟩, 0⟩, [], by decide +kernel⟩
theorem test_budgetHold_5 : ∃ (s : State) (tj : Int), s.persRuns = true :=
  ⟨persOn, 0, by decide +kernel⟩
theorem test_budgetHold_6 : ∃ (s : State) (g : Nat × Nat), s.pers.gauge = some g ∧ s.fresh s.pers.gauge = false ∧ s.flag
    PERS_STAT_GAUGE_STALE = false ∧ s.persRuns = true :=
  ⟨{ persOn with pers := { persOn.pers with gauge := some (1, 0) }, now := 1000000000 }, (1, 0), by decide +kernel⟩
theorem test_epochs_1 : ∃ (s : State), s.active = true ∧ s.pers.running = true ∧ s.saving = false ∧ s.closeDue = true ∧
    s.pers.tail = none ∧ s.pers.clearedAt ≠ some s.now :=
  ⟨epochOn, by decide +kernel⟩
theorem test_epochs_2 : ∃ (s : State) (x : Tail), s.active = true ∧ s.pers.running = true ∧ s.saving = false ∧ s.closeDue
    = true ∧ s.pers.tail = some x ∧ s.pers.stretched = true ∧ s.pers.deferredAt ≠ some s.now :=
  ⟨{ epochOn with pers := { epochOn.pers with tail := some ⟨1, 0, false, false⟩, stretched := true } }, ⟨1, 0, false, false⟩, by decide +kernel⟩
theorem test_epochs_3 : ∃ (s : State), s.active = true ∧ s.pers.running = true ∧ s.saving = false ∧ s.closeDue = true ∧
    s.pers.tail = none ∧ s.pers.clearedAt ≠ some s.now :=
  ⟨epochOn, by decide +kernel⟩
theorem test_epochs_4 : ∃ (s : State) (x : Tail), s.saving = false ∧ s.pers.tail = some x ∧ x.walked = false :=
  ⟨(tailed false false), ⟨1, 0, false, false⟩, by decide +kernel⟩
theorem test_epochs_5 : ∃ (s : State) (rearmed : Bool) (again : Nat) (x : Tail), s.pers.tail = some x ∧ x.sealed = false ∧
    s.saving = false ∧ s.save.ended = false ∧ s.save.failed = false :=
  ⟨(tailed true false), true, 0, ⟨1, 0, true, false⟩, by decide +kernel⟩
theorem test_epochs_6 : ∃ (s : State) (x : Tail), s.pers.tail = some x ∧ x.walked = true ∧ x.sealed = true ∧ s.saving =
    false :=
  ⟨(tailed true true), ⟨1, 0, true, true⟩, by decide +kernel⟩
theorem test_shadowAndBarriers_1 : ∃ (s : State) (p : Port) (tag : Word) (u : State), s.accepted p 0x22040 tag = some u ∧
    u.barRefusal = none :=
  ⟨barOk, .host, 7, acc barOk .host 0x22040 7, by decide +kernel⟩
theorem test_shadowAndBarriers_2 : ∃ (s : State) (p : Port) (tag : Word) (u : State) (c : Nat), s.accepted p 0x22040 tag =
    some u ∧ u.barRefusal = some c :=
  ⟨own, .host, 7, acc own .host 0x22040 7, 7, by decide +kernel⟩
theorem test_shadowAndBarriers_3 : ∃ (s : State) (p : Port) (i : Nat) (u : State), i < 2 ^ 25 ∧ s.accepted p 0x23040
    (BitVec.ofNat 32 i) = some u :=
  ⟨own, .host, 2 ^ 25 - 1, acc own .host 0x23040 (BitVec.ofNat 32 (2 ^ 25 - 1)), by decide +kernel⟩
theorem test_shadowAndBarriers_4 : ∃ (s : State) (i : Nat), s.pers.lookup = some i ∧ s.gated 0x23 = false ∧ i <
    s.mdl.hostIslets :=
  ⟨{ up with pers := { up.pers with lookup := some 3 } }, 3, by decide +kernel⟩
theorem test_shadowAndBarriers_5 : ∃ (s : State) (i : Nat), s.saving = false :=
  ⟨up, 0, by decide +kernel⟩
theorem test_shadowAndBarriers_6 : ∃ (s : State) (slc : Bool) (k row : Nat), s.saving = false ∧ (s.unstriped slc).any (fun
    c => decide (c.stagedAt + 200 ≤ s.now)) = true ∧ s.rowFor (bandFor slc) slc (rowsFor slc) s.save.plan = some (k, row) :=
  ⟨{ up with now := 200, pers := { up.pers with copies := [⟨3, 0, 0, 1, false, true, false, false, .data, .staged, [], 0, ⟨0, false, true, 0, 0, 0, 0⟩⟩] } }, true, 26, 0, by decide +kernel⟩
theorem test_shadowAndBarriers_7 : ∃ (s : State) (slc : Bool), s.rowFor (bandFor slc) slc (rowsFor slc) s.save.plan = none
    :=
  ⟨{ up with mdl := { up.mdl with bpp := 0 } }, true, by decide +kernel⟩
theorem test_shadowAndBarriers_8 : ∃ (s : State), s.flag PERS_SHD_STAT_SWEEP = true ∧ s.saving = false ∧ s.sweepOffer =
    none ∧ s.pers.sweepFresh = true :=
  ⟨let s := up.put PERS_SHD_STAT_SWEEP 1; { s with pers := { s.pers with sweepFresh := true } }, by decide +kernel⟩
theorem test_shadowAndBarriers_9 : ∃ (s : State), s.flag PERS_SHD_STAT_SWEEP = true ∧ s.saving = false ∧ s.sweepOffer =
    none ∧ s.pers.sweepFresh = false :=
  ⟨let s := up.put PERS_SHD_STAT_SWEEP 1; { s with pers := { s.pers with sweepFresh := false } }, by decide +kernel⟩
theorem test_shadowAndBarriers_10 : ∃ (s : State) (b : Nat), s.saving = false ∧ s.pers.barNs = some b ∧ s.barOffer = none
    ∧ s.pers.barOffered = false :=
  ⟨{ up with pers := { up.pers with barNs := some 2, barOffered := false } }, 2, by decide +kernel⟩
theorem test_shadowAndBarriers_11 : ∃ (s : State) (b : Nat), s.saving = false ∧ s.pers.barNs = some b ∧ s.barOffer = none
    ∧ s.pers.barOffered = true :=
  ⟨{ up with pers := { up.pers with barNs := some 2, barOffered := true } }, 2, by decide +kernel⟩
theorem test_powerFailPins_2 : ∃ (s : State), s.save.pfailLow = true :=
  ⟨pfLow, by decide +kernel⟩
theorem test_powerFailPins_3 : ∃ (s : State) (n : Nat), s.save.pfailLow = true :=
  ⟨pfLow, 3, by decide +kernel⟩
theorem test_powerFailPins_4 : ∃ (s : State), s.save.pfailLow = true :=
  ⟨pfLow, by decide +kernel⟩
theorem test_powerFailPins_5 : ∃ (s : State), s.cfgOn SAVE_CTRL_MON_EN = true :=
  ⟨monOn, by decide +kernel⟩
theorem test_powerFailPins_6 : ∃ (s : State), s.cfgOn SAVE_CTRL_MON_EN = false :=
  ⟨monOff, by decide +kernel⟩
theorem test_powerFailPins_7 : ∃ (s : State) (k : Nat), s.saving = true :=
  ⟨aSave .data, 0, by decide +kernel⟩
theorem test_powerFailPins_8 : ∃ (s : State) (k : Nat), s.saving = false ∧ (s.save.ended = true ∨ s.save.failed = true) :=
  ⟨saved, 0, by decide +kernel⟩
theorem test_powerFailPins_9 : ∃ (s : State), s.save.railLow = true :=
  ⟨{ up with save := { up.save with railLow := true } }, by decide +kernel⟩
theorem test_powerFailPins_10 : ∃ (s : State) (r : Nat), s.saving = false ∧ s.rst.phase ≠ .off :=
  ⟨up, 2, by decide +kernel⟩
theorem test_powerFailPins_11 : ∃ (s : State) (r : Nat), s.saving = true :=
  ⟨aSave .data, 2, by decide +kernel⟩
theorem test_saveStarts_1 : ∃ (s : State), s.save.pfailLow = true ∧ s.flag TST_STAT_TEST_MODE = false ∧ s.canSave = true
    :=
  ⟨pfLow, by decide +kernel⟩
theorem test_saveStarts_2 : ∃ (s : State), s.save.pfailLow = true ∧ s.flag TST_STAT_TEST_MODE = true :=
  ⟨pfLow.put TST_STAT_TEST_MODE 1, by decide +kernel⟩
theorem test_saveStarts_3 : ∃ (s : State), s.save.pfailLow = true ∧ s.flag TST_STAT_TEST_MODE = false ∧ s.canSave = false
    ∧ ¬(s.save.startedAt = some s.now ∧ 1 < s.get SAVE_STAT_CAUSE) :=
  ⟨{ pfLow with save := { pfLow.save with ended := true } }, by decide +kernel⟩
theorem test_saveStarts_4 : ∃ (s : State), s.save.pfailLow = true ∧ s.flag TST_STAT_TEST_MODE = false ∧ s.canSave = false
    ∧ s.save.startedAt = some s.now ∧ 1 < s.get SAVE_STAT_CAUSE :=
  ⟨let s := pfLow.put SAVE_STAT_CAUSE 2; { s with save := { s.save with ended := true, startedAt := some s.now } }, by decide +kernel⟩
theorem test_saveSteps_1 : ∃ (s : State) (r : SaveRun), s.save.run = some r ∧ r.step = .fenced ∧ r.cut = none :=
  ⟨aSave .fenced, { aRun with step := .fenced }, by decide +kernel⟩
theorem test_saveSteps_2 : ∃ (s : State) (r : SaveRun) (c : Nat), s.save.run = some r ∧ r.step = .fenced ∧ r.cut = some c
    :=
  ⟨{ up with save := { up.save with run := some { aRun with step := .fenced, cut := some 1 } } }, { aRun with step := .fenced, cut := some 1 }, 1, by decide +kernel⟩
theorem test_saveSteps_3 : ∃ (s : State) (r : SaveRun), s.save.run = some r ∧ r.step = .data ∧ r.todo = [] ∧ s.rstr.slots
    = [] ∧ s.rstr.faultQ = [] :=
  ⟨aSave .data, { aRun with step := .data }, by decide +kernel⟩
theorem test_saveSteps_4 : ∃ (s : State) (r : SaveRun), s.save.run = some r ∧ r.step = .closeOut ∧ s.rstr.slots = [] ∧
    s.rstr.faultQ = [] :=
  ⟨aSave .closeOut, { aRun with step := .closeOut }, by decide +kernel⟩
theorem test_saveSteps_5 : ∃ (s : State) (k : Nat) (r : SaveRun) (c : Nat), s.save.run = some r ∧ s.cfgOn SAVE_CTRL_CUT_EN
    = true ∧ s.cutCause r = some c :=
  ⟨(aSave .data).put SAVE_CTRL_CUT_EN 1, 0, { aRun with step := .data }, 1, by decide +kernel⟩
theorem test_saveSteps_6 : ∃ (s : State) (r : SaveRun), s.save.run = some r ∧ r.step = .metadata :=
  ⟨aSave .metadata, { aRun with step := .metadata }, by decide +kernel⟩
theorem test_saveSteps_7 : ∃ (s : State) (r : SaveRun), s.save.run = some r ∧ r.step = .sealProgrammed ∧ s.tst.waiting =
    none :=
  ⟨aSave .sealProgrammed, { aRun with step := .sealProgrammed }, by decide +kernel⟩
theorem test_saveSteps_8 : ∃ (s : State) (b : Bool), s.save.ended = true ∧ s.get PWR_STAT_STATE = 2 :=
  ⟨saved.put PWR_STAT_STATE 2, true, by decide +kernel⟩
theorem test_saveSteps_9 : ∃ (s : State), s.saving = false ∧ s.save.failed = false ∧ s.flag FLT_SAFE_SAFE = false ∧
    s.rst.phase ≠ .off :=
  ⟨up, by decide +kernel⟩
theorem test_powerReturns_1 : ∃ (s : State) (k : Nat), s.save.ended = true ∧ s.save.failSeen = true ∧ s.goodLong = true ∧
    s.cfgOn SAVE_CTRL_AUTO_WARM = true ∧ s.rst.held = some k :=
  ⟨{ savedGood with rst := { savedGood.rst with held := some 2 } }, 2, by decide +kernel⟩
theorem test_powerReturns_2 : ∃ (s : State), s.save.ended = true ∧ s.save.failSeen = true ∧ s.goodLong = true ∧ s.cfgOn
    SAVE_CTRL_AUTO_WARM = true ∧ s.rst.held = none :=
  ⟨savedGood, by decide +kernel⟩
theorem test_powerReturns_3 : ∃ (s : State), s.save.ended = false ∧ s.saving = false ∧ s.save.holdEn = true ∧ s.goodLong =
    true :=
  ⟨{ good with save := { good.save with holdEn := true } }, by decide +kernel⟩
theorem test_powerReturns_7 : ∃ (s : State) (n : Nat), s.save.gpf = some n ∧ s.writesWait n = false :=
  ⟨{ up with save := { up.save with gpf := some 0 } }, 0, by decide +kernel⟩
theorem test_restoreSteps_1 : ∃ (s : State), s.rst.phase = .configured ∧ s.get RST_STAT_START ≠ 1 ∧ s.startsOn = true ∧
    s.Canon :=
  ⟨conf, by decide +kernel, by decide +kernel, by decide +kernel, ⟨by decide +kernel, by decide +kernel, by decide +kernel, by decide +kernel⟩⟩
theorem test_restoreSteps_2 : ∃ (s : State) (fell bad : List Nat), s.rst.phase = .configured ∧ s.get RST_STAT_START ≠ 1 ∧
    s.startsOn = true ∧ s.kept.trained ≠ some s.trainId ∧ bad.filter (fun sc => decide (sc < 4)) ≠ [] :=
  ⟨conf, [], [1], by decide +kernel⟩
theorem test_restoreSteps_3 : ∃ (s : State) (f : Found), s.detecting = true ∧ s.saving = false ∧ s.save.ended = false :=
  ⟨{ conf with regs := (conf.put RSTR_STAT_PHASE 1).regs }, ⟨true, [], [], [], [], []⟩, by decide +kernel⟩
theorem test_restoreSteps_4 : ∃ (s : State), s.get RSTR_STAT_PHASE = 2 ∧ s.saving = false ∧ s.save.ended = false :=
  ⟨{ conf with regs := (conf.put RSTR_STAT_PHASE 2).regs }, by decide +kernel⟩
theorem test_restoreSteps_5 : ∃ (s : State), s.get RSTR_STAT_PHASE = 2 ∧ s.saving = false ∧ s.save.ended = false ∧
    s.rstr.banks = true :=
  ⟨let s : State := { conf with regs := (conf.put RSTR_STAT_PHASE 2).regs }; { s with rstr := { s.rstr with banks := true } }, by decide +kernel⟩
theorem test_restoreSteps_6 : ∃ (s : State) (i us rebuilt : Nat) (lost : List Nat) (t : State), s.rstr.slots.any (fun e =>
    decide (e.1 = i)) = true ∧ s.isRestored i = false ∧ t = ((s.fillFaultIn i).bringBack i rebuilt lost).bump64
    RSTR_FI_LO_COUNT ∧ us ≤ t.cfg RSTR_FI_SLOW_US :=
  ⟨{ conf with rstr := { conf.rstr with slots := [(3, 0)], interlock := true } }, 3, 100, 0, [], _, by decide +kernel, by decide +kernel, rfl, by decide +kernel⟩
theorem test_restoreSteps_7 : ∃ (s : State) (zero : Bool) (rebuilt : Nat) (lost : List Nat) (k i : Nat), s.rstr.interlock
    = true ∧ s.cfgOn RSTR_CTRL_BG_EN = true ∧ s.saving = false ∧ s.save.ended = false ∧ s.nextRestore zero = some (k, i) :=
  ⟨{ conf with rstr := { conf.rstr with interlock := true, unsaved := [3] } }, false, 0, [], 1, 3, by decide +kernel⟩
theorem test_restoreSteps_8 : ∃ (s : State), s.rst.phase = .configured ∧ s.get RST_STAT_START = 1 ∧ s.flag
    RST_STAT_WARM_FAIL = false ∧ s.rst.volatile = false :=
  ⟨{ conf with regs := (conf.put RST_STAT_START 1).regs }, by decide +kernel⟩
theorem test_restoreSteps_9 : ∃ (s : State), s.rst.phase = .configured ∧ s.get RST_STAT_START = 1 ∧ s.flag
    RST_STAT_WARM_FAIL = false ∧ s.rst.volatile = true :=
  ⟨let s : State := { conf with regs := (conf.put RST_STAT_START 1).regs }; { s with rst := { s.rst with volatile := true } }, by decide +kernel⟩
theorem test_restoreSteps_10 : ∃ (s : State), s.rst.phase = .configured ∧ s.get RST_STAT_START = 1 ∧ s.flag
    RST_STAT_WARM_FAIL = false :=
  ⟨{ conf with regs := (conf.put RST_STAT_START 1).regs }, by decide +kernel⟩
theorem test_restoreSteps_11 : ∃ (s : State), s.isMaster = true ∧ s.rstr.settled = none ∧ s.ownStatus.isSome = true ∧
    s.rstr.waitFrom + s.cfg RSTR_CASC_WAIT_MS * 1000 ≤ s.now :=
  ⟨grpWait, by decide +kernel⟩
theorem test_flashOperations_1 : ∃ (s : State) (c : Nat) (o : FOp), (s.die c o.die).st = 1 ∧ ((Sparse.get (fun _ => [])
    s.farr.queues c).filter (fun q => decide (q.queue = o.queue))).length < 64 ∧ s.saving = false ∧ o.queue ≠ .save ∧
    s.issued c o = true :=
  ⟨chUp, 0, ⟨.normal, .read, 0, [0], 0, 0, false, 0⟩, by decide +kernel⟩
theorem test_flashOperations_2 : ∃ (s : State) (c d : Nat), s.demandWaits c d = true ∧ s.suspendable c d = true :=
  ⟨chRead, 0, 0, by decide +kernel⟩
theorem test_flashOperations_3 : ∃ (s : State) (c d p b : Nat) (r : ReadEnd) (o : FOp) (e : ReadResult), (s.die c d).busy
    = some o ∧ e = s.readResult c d p b r (decide (o.queue = .demand)) ∧ e.step = 0 ∧ s.earlyRead (s.block c d p b).slc 0
    e.bits e.iters = false ∧ (s.block c d p b).reads + 1 < s.cfg UPK_SCAN_RD_LIMIT * 1000 :=
  ⟨chRead0, 0, 0, 0, 0, ⟨0, 0, ⟨some ⟨true, 16, 0, 0⟩, 0, 0⟩, [], none, false, false⟩, _, _, by rfl, rfl, by decide +kernel, by decide +kernel, by decide +kernel⟩
theorem test_flashOperations_4 : ∃ (s : State) (c d us : Nat) (o : FOp) (t : State), (s.die c d).busy = some o ∧ o.kind =
    .program ∧ o.stripe = 0 ∧ t = o.planes.foldl (fun t p => t.setBlock c d p o.block (s.blockProgrammed o (s.slowProgram c
    d o.slc us) true (s.block c d p o.block))) (s.programCounted c o.slc) :=
  ⟨chProg, 0, 0, 100, _, _, by rfl, by decide +kernel, by decide +kernel, rfl⟩
theorem test_flashOperations_5 : ∃ (s : State) (c d : Nat) (e : EraseEnd) (o : FOp) (t u w : State), (s.die c d).busy =
      some o ∧ o.kind = .erase ∧ t = o.planes.foldl (fun t p => t.setBlock c d p o.block ((s.block c d p o.block).afterErase
      e.good)) (s.bump (FCH_ER_COUNT c)) ∧ u = t.setDie c d { t.die c d with
    worn := (t.die c d).worn - (o.planes.filter (fun p => (s.block c d p o.block).worn)).length, eraseUs := e.us } ∧ w =
      (((if e.good then u else u.raiseFault (0x60 + c) 3 7 0).dieIdle c d).retired c d (o.planes.filter (fun p => decide
      ((t.block c d p o.block).bstate = 4))).length).refreshDie c d :=
  ⟨chErase, 0, 0, ⟨false, 100⟩, _, _, _, _, by rfl, by decide +kernel, rfl, rfl, rfl⟩
theorem test_flashOperations_6 : ∃ (s : State) (c d : Nat) (t : State), (s.die c d).busy ≠ none ∧ s.saving = false ∧
    s.rstr.interlock = false ∧ (s.die c d).resetTried = false ∧ t = (s.bump (FCH_TMO_COUNT c)).raiseFault (0x60 + c) 1 7 0
    :=
  ⟨chProg, 0, 0, _, by decide +kernel, by decide +kernel, by decide +kernel, by decide +kernel, rfl⟩
theorem test_flashOperations_7 : ∃ (s : State) (c d : Nat), (s.die c d).busy ≠ none ∧ (s.die c d).resetTried = true :=
  ⟨chTried, 0, 0, by decide +kernel⟩
theorem test_flashOperations_8 : ∃ (s : State) (p : Port) (c : Nat) (u : State), s.accepted p (0x60044 + c % 16 * 0x1000)
    (putBits (s.peek p (0x60044 + c % 16 * 0x1000)) 0 1 1) = some u ∧ bitOf (putBits (s.peek p (0x60044 + c % 16 * 0x1000))
    0 1 1).toNat 0 = true :=
  ⟨own, .host, 3, accB own .host 0x63044 0 1 1, by decide +kernel⟩
theorem test_flashOperations_9 : ∃ (s : State) (c : Nat) (found : List (Option DieFound)) (t : State), Sparse.get (fun _
      => 0) s.farr.trainFails c = 1 ∧ t = s.setFarr { s.farr with
    trainFails := Sparse.set (fun _ => 0) s.farr.trainFails c 2 } :=
  ⟨{ up with farr := { up.farr with trainFails := [(2, 1)] } }, 2, [], _, by decide +kernel, rfl⟩
theorem test_flashOperations_10 : ∃ (s : State) (c : Nat) (found : List (Option DieFound)) (t u : State), t = ((s.put
      (FCH_STAT_TRAINING c) 0).put (FCH_STAT_UP c) 1).put (FCH_STAT_DOWN c) 0 ∧ u = t.setFarr { t.farr with
    trainFails := Sparse.set (fun _ => 0) t.farr.trainFails c 0, rates := Sparse.set (fun _ => 3600) t.farr.rates c
      (modeRate (s.cfg (FCH_MODE_IFACE c)) (s.cfg (FCH_MODE_RATE c))) } :=
  ⟨up, 0, [], _, _, rfl, rfl⟩
theorem test_flashOperations_11 : ∃ (s : State) (p : Port) (q : Word) (u : State), s.accepted p 0x71040 q = some u :=
  ⟨own, .host, 5, acc own .host 0x71040 5, by decide +kernel⟩
theorem test_flashOperations_12 : ∃ (s : State) (v : Nat) (r : BlkRec), s.farr.lookup = some v ∧ (s.die (v % 16) (v / 16 %
    16)).st ≠ 0 ∧ v / 256 % 4 < s.mdl.planes ∧ v / 4096 % 16384 < s.mdl.bpp ∧ r = s.block (v % 16) (v / 16 % 16) (v / 256 %
    4) (v / 4096 % 16384) :=
  ⟨{ chUp with farr := { chUp.farr with lookup := some 0 } }, 0, _, by decide +kernel, by decide +kernel, by decide +kernel, by decide +kernel, rfl⟩
theorem test_moverRegisters_1 : ∃ (s : State) (p : Port) (c : Nat) (u : State), s.accepted p (0x30040 + c % 32 * 0x1000) 1
    = some u :=
  ⟨own, .host, 28, acc own .host 0x4C040 1, by decide +kernel⟩
theorem test_moverRegisters_2 : ∃ (s : State) (p : Port) (c : Nat) (u : State), s.accepted p (0x30040 + c % 32 * 0x1000) 2
    = some u :=
  ⟨own, .host, 31, acc own .host 0x4F040 2, by decide +kernel⟩
theorem test_moverRegisters_3 : ∃ (s : State) (p : Port) (hi : Word) (u : State), s.accepted p 0xB4088 hi = some u ∧
    pmAllowed p (s.get MVG_PM_ADDR_WORD) = true :=
  ⟨{ own with regs := (own.put MVG_PM_ADDR_WORD 0xF000).regs }, .host, 5, acc { own with regs := (own.put MVG_PM_ADDR_WORD 0xF000).regs } .host 0xB4088 5, by decide +kernel⟩
theorem test_moverRegisters_4 : ∃ (s : State) (p : Port), s.portOpen p = true ∧ s.gated 0xB4 = false :=
  ⟨own, .host, by decide +kernel⟩
theorem test_moverRegisters_5 : ∃ (s : State) (p : Port), s.portOpen p = true ∧ s.gated 0xB4 = false :=
  ⟨own, .host, by decide +kernel⟩
theorem test_moverRegisters_6 : ∃ (s : State) (p : Port) (u : State), s.accepted p 0xB7050 0 = some u :=
  ⟨own, .host, acc own .host 0xB7050 0, by decide +kernel⟩
theorem test_moverRegisters_7 : ∃ (s : State) (k c : Nat) (r : MovRec) (t : State), s.nextDrain = some c ∧ (s.chan c).slot
    = some r ∧ mgmtChan c = false ∧ t = s.setChan c { s.chan c with slot := none } :=
  ⟨mvSlot 3, 0, 3, ⟨3, 0, false, 0, 0, 0, 0, 0⟩, _, by decide +kernel, by decide +kernel, by decide +kernel, rfl⟩
theorem test_moverRegisters_8 : ∃ (s : State) (k c : Nat) (r : MovRec) (t : State), s.nextDrain = some c ∧ (s.chan c).slot
    = some r ∧ mgmtChan c = true ∧ s.mov.ring.length < 15 ∧ t = s.setChan c { s.chan c with slot := none } :=
  ⟨mvSlot 28, 0, 28, ⟨28, 0, false, 0, 0, 0, 0, 0⟩, _, by decide +kernel, by decide +kernel, by decide +kernel, by decide +kernel, rfl⟩
theorem test_moverPrograms_1 : ∃ (s : State) (c : Nat), s.canRun c .move = true :=
  ⟨mv 0x1000000000000000, 0, by decide +kernel⟩
theorem test_moverPrograms_2 : ∃ (s : State) (c : Nat), s.canRun c .spread = true :=
  ⟨mv2 0x2000000800000000 0xE000000000000040, 0, by decide +kernel⟩
theorem test_moverPrograms_3 : ∃ (s : State) (c : Nat) (f : Fld) (new : Nat) (t : State), s.canRun c .loop = true ∧ f =
    ctrOf c (bits64 (s.curWord c) 56 2) ∧ new = (if s.get f = 0 then (bits64 (s.curWord c) 40 16 + 65535) % 65536 else s.get
    f - 1) ∧ t = s.put f new ∧ new ≠ 0 :=
  ⟨mvAt 0x3000020000000001 1, 0, _, _, _, by decide +kernel, rfl, rfl, rfl, by decide +kernel⟩
theorem test_moverPrograms_4 : ∃ (s : State) (c : Nat) (f : Fld), s.canRun c .loop = true ∧ f = ctrOf c (bits64 (s.curWord
    c) 56 2) ∧ s.get f = 1 :=
  ⟨{ mvAt 0x3000020000000001 1 with regs := ((mvAt 0x3000020000000001 1).put (ctrOf 0 0) 1).regs }, 0, _, by decide +kernel, rfl, by decide +kernel⟩
theorem test_moverPrograms_5 : ∃ (s : State) (c : Nat) (t : State), s.canRun c .wait = true ∧ t = (s.setChan c { s.chan c
    with waitAt := s.now }).put (MOV_STAT_STATE c) 2 :=
  ⟨mv 0x4100010000000000, 0, _, by decide +kernel, rfl⟩
theorem test_moverPrograms_6 : ∃ (s : State) (c k : Nat), s.canRun c .signal = true ∧ bits64 (s.curWord c) 56 4 = 1 :=
  ⟨mv 0x5100000000000000, 0, 0, by decide +kernel⟩
theorem test_moverPrograms_7 : ∃ (s : State) (c k : Nat), s.canRun c .signal = true ∧ bits64 (s.curWord c) 56 4 = 2 :=
  ⟨mv 0x5200000000000007, 0, 0, by decide +kernel⟩
theorem test_moverPrograms_8 : ∃ (s : State) (c k : Nat), s.canRun c .signal = true ∧ bits64 (s.curWord c) 56 4 = 8 :=
  ⟨mv 0x5800000000000007, 0, 0, by decide +kernel⟩
theorem test_moverPrograms_9 : ∃ (s : State) (c k : Nat) (a b d e : State), s.canRun c .signal = true ∧ a = (if bits64
    (s.curWord c) 56 1 = 1 then s.put MVG_FLAGS_FLAGS (BitVec.ofNat 32 (s.get MVG_FLAGS_FLAGS) ||| BitVec.ofNat 32 (2 ^
    bits64 (s.curWord c) 48 5)).toNat else s) ∧ b = (if bits64 (s.curWord c) 57 1 = 1 then (a.put (MOV_SIGCODE_CODE c)
    (bits64 (s.curWord c) 0 32)).raiseInt (0x30 + c) 1 else a) ∧ d = (if bits64 (s.curWord c) 58 1 = 1 then (b.sendFrame
    0x40 none [BitVec.ofNat 8 (bits64 (s.curWord c) 40 8)]).strtEvent (bits64 (s.curWord c) 40 8) else b) ∧ e = (if bits64
    (s.curWord c) 59 1 = 1 then d.produce (d.movRec c 1 0 (bits64 (s.curWord c) 0 32) k) else d) :=
  ⟨mv 0x5F00000000000007, 0, 0, _, _, _, _, by decide +kernel, rfl, rfl, rfl, rfl⟩
theorem test_moverPrograms_10 : ∃ (s : State) (c k : Nat) (t : State), s.canRun c .halt = true ∧ t = s.produce (s.movRec c
    0 0 (bits64 (s.curWord c) 0 32) k) ∧ (t.chan c).blocked = none :=
  ⟨mv 7, 0, 0, _, by decide +kernel, rfl, by decide +kernel⟩
theorem test_moverPrograms_11 : ∃ (s : State) (c : Nat), s.canRun c .nop = true :=
  ⟨mv 0xF000000000000000, 0, by decide +kernel⟩
theorem test_moverPrograms_12 : ∃ (s : State) (c k : Nat), s.canRun c .illegal = true :=
  ⟨mv 0x6000000000000000, 0, 0, by decide +kernel⟩
theorem test_moverPrograms_13 : ∃ (s : State) (c k : Nat), c < 32 ∧ s.chanReady c = true ∧ s.nextInstr c = none ∧
    s.hasPort c = true :=
  ⟨mvAt 0 0x10000, 0, 0, by decide +kernel⟩
theorem test_moverPrograms_14 : ∃ (s : State) (c k : Nat), c < 32 ∧ s.chanReady c = true ∧ s.hasPort c = true :=
  ⟨mv 0, 0, 0, by decide +kernel⟩
theorem test_moverPrograms_15 : ∃ (s : State) (c y : Nat) (w v : BitVec 64) (t : State), (s.chan c).cur = some (w, v) ∧
    s.gated (0x30 + c) = false ∧ s.firstErr c w v (xferLen w) = none ∧ xferLen w ≤ s.issuedLines c w ∧ t = (s.xfer c w v
    (xferLen w)).increments c w :=
  ⟨mvCur, 0, 0, 0x1000000000000000, 0, _, by decide +kernel, by decide +kernel, by decide +kernel, by decide +kernel, rfl⟩
theorem test_moverPrograms_16 : ∃ (s : State) (c : Nat) (hit : Option Nat) (y : Nat), (s.chan c).cur = none ∨ s.gated
    (0x30 + c) = true :=
  ⟨up, 0, none, 0, by decide +kernel⟩
theorem test_moverPrograms_17 : ∃ (s : State) (c : Nat), s.waits c = true ∧ s.waitHolds c = true ∧ bits64 (s.curWord c) 56
    4 ≠ 3 ∧ s.waitExpired c = false :=
  ⟨{ mvWait 0x4100010000000000 with now := 10 }, 0, by decide +kernel⟩
theorem test_moverPrograms_18 : ∃ (s : State) (c : Nat) (t : State), s.waits c = true ∧ s.waitHolds c = true ∧ bits64
    (s.curWord c) 56 4 = 3 ∧ s.waitExpired c = false ∧ t = (if bits64 (s.curWord c) 39 1 = 1 then s.put MVG_FLAGS_FLAGS
    (s.get MVG_FLAGS_FLAGS - 2 ^ bits64 (s.curWord c) 40 5) else s) :=
  ⟨(let s := mvWait 0x4300018000000000; { s.put MVG_FLAGS_FLAGS 2 with now := 10 }), 0, _, by decide +kernel, by decide +kernel, by decide +kernel, by decide +kernel, rfl⟩
theorem test_moverPrograms_19 : ∃ (s : State) (c k : Nat), s.waits c = true ∧ s.waitExpired c = true ∧ s.waitHolds c =
    false :=
  ⟨{ mvWait 0x4100140000050000 with now := 10 }, 0, 0, by decide +kernel⟩
theorem test_dramCommands_1 : ∃ (s : State) (line n : Nat) (r : Requester) (o : ReadOutcome), s.outcomeOf line o = .clean
    :=
  ⟨up, 0, 0, .host, .clean, by decide +kernel⟩
theorem test_dramCommands_2 : ∃ (s : State) (line n : Nat) (r : Requester) (o : ReadOutcome), r ≠ .dtrn ∧ s.outcomeOf line
    o = .ue :=
  ⟨up, 0, 0, .host, .ue, by decide +kernel⟩
theorem test_dramCommands_3 : ∃ (s : State) (line n : Nat) (r : Requester) (o : ReadOutcome), r ≠ .dtrn ∧ r ≠ .pers ∧
    s.outcomeOf line o = .poison :=
  ⟨{ up with dram := [(0, poisonLine)] }, 0, 0, .host, .poison, by decide +kernel⟩
theorem test_dramCommands_4 : ∃ (s : State) (line n : Nat) (r : Requester) (o : ReadOutcome) (k : List Nat) (w : Bool), r
    ≠ .dtrn ∧ s.outcomeOf line o = .corrected k w :=
  ⟨up, 0, 0, .host, .corrected [3] false, [3], false, by decide +kernel⟩
theorem test_dramCommands_5 : ∃ (s : State) (line : Nat), s.drc.repairs.contains line = true ∧ ((s.recOf (line / 1024)).st
    = .durable ∨ (s.recOf (line / 1024)).st = .zero) :=
  ⟨{ up with drc := { up.drc with repairs := [5] } }, 5, by decide +kernel⟩
theorem test_dramCommands_6 : ∃ (s : State) (line : Nat), s.drc.repairs.contains line = true ∧ (s.recOf (line / 1024)).st
    ≠ .durable ∧ (s.recOf (line / 1024)).st ≠ .zero :=
  ⟨({ up with drc := { up.drc with repairs := [5] } } : State).setRec 0 ⟨.dirty, 1, 1⟩, 5, by decide +kernel⟩
theorem test_dramCommands_7 : ∃ (s : State) (sc l : Nat) (t : State), s.drc.retraining.contains sc = false ∧
    s.drc.stopped.contains sc = false ∧ s.cfgOn (DRC_REF_POSTPONE_EN (sc / 2)) = true ∧ s.owedBy sc l + 1 ≤ s.oweLimit (sc /
    2) ∧ t = (s.setOwed sc l (s.owedBy sc l + 1)).bump (DRC_REF_PP_COUNT (sc / 2)) :=
  ⟨own.put (DRC_REF_POSTPONE_EN 0) 1, 1, 0, _, by decide +kernel, by decide +kernel, by decide +kernel, by decide +kernel, rfl⟩
theorem test_dramCommands_8 : ∃ (s : State) (sc l : Nat), s.drc.retraining.contains sc = false ∧ s.drc.stopped.contains sc
    = false ∧ s.cfgOn (DRC_REF_POSTPONE_EN (sc / 2)) = true ∧ s.oweLimit (sc / 2) ≤ s.owedBy sc l :=
  ⟨(own.put (DRC_REF_POSTPONE_EN 0) 1).setOwed 1 0 8, 1, 0, by decide +kernel⟩
theorem test_dramCommands_9 : ∃ (s : State) (sc l : Nat) (held : Bool), s.drc.retraining.contains sc = false ∧
    s.drc.stopped.contains sc = true :=
  ⟨{ up with drc := { up.drc with stopped := [1] } }, 1, 0, false, by decide +kernel⟩
theorem test_dramCommands_10 : ∃ (s : State) (sc l : Nat), s.drc.retraining.contains sc = false ∧ s.drc.stopped.contains
    sc = false ∧ s.rankQueued sc l = false :=
  ⟨up, 0, 0, by decide +kernel⟩
theorem test_dramCommands_12 : ∃ (s : State) (d r : Nat), s.cfgOn (DRC_PD_EN d) = true ∧ s.saving = false ∧ r < 2 ∧ bitOf
    (s.get (DRC_STAT_PD_RANKS d)) r = false ∧ (s.ranksOf d r).all (fun e => decide (s.owedBy e.1 e.2 = 0) && !s.rankQueued
    e.1 e.2) = true :=
  ⟨own.put (DRC_PD_EN 0) 1, 0, 0, by decide +kernel⟩
theorem test_dramCommands_13 : ∃ (s : State) (b : Nat), s.bankHit b = false :=
  ⟨up, 3, by decide +kernel⟩
theorem test_dramCommands_14 : ∃ (s : State) (b : Nat), s.bankHit b = true :=
  ⟨(let s : State := { up with drc := { up.drc with rows := [(0, 1)] } }; { s with drc := { s.drc with queue := [⟨0, .free, 0, false, 0⟩] } }), 0, by decide +kernel⟩
theorem test_dramCommands_15 : ∃ (s : State) (sc : Nat) (l : List (Nat × Nat)), l = s.drc.alerts.filter (fun e => decide
    (e.2 = s.now)) ++ [(sc, s.now)] ∧ (l.filter (fun e => decide (e.1 = sc))).length ≠ 3 :=
  ⟨up, 1, _, rfl, by decide +kernel⟩
theorem test_dramCommands_16 : ∃ (s : State) (sc : Nat) (l : List (Nat × Nat)) (u : State), l = s.drc.alerts.filter (fun e
    => decide (e.2 = s.now)) ++ [(sc, s.now)] ∧ (l.filter (fun e => decide (e.1 = sc))).length = 3 ∧ u = ((s.setDrc { s.drc
    with alerts := l, stopped := insertNat s.drc.stopped sc }).raiseInt (0x50 + 4 * (sc / 2)) 0).raiseFault (0x50 + 4 * (sc
    / 2)) 1 7 0 :=
  ⟨{ up with drc := { up.drc with alerts := [(1, 0), (1, 0)] } }, 1, _, _, rfl, by decide +kernel, rfl⟩
theorem test_dramCommands_17 : ∃ (s : State) (sc : Nat), s.drc.stopped.contains sc = true ∧ s.drc.storm.contains sc =
    false :=
  ⟨{ up with drc := { up.drc with stopped := [1] } }, 1, by decide +kernel⟩
theorem test_dramCommands_18 : ∃ (s : State) (sc : Nat) (u : State), s.drc.stopped.contains sc = true ∧
    s.drc.storm.contains sc = true ∧ s.saving = false ∧ u = (List.range 16).foldl (fun (u : State) l => (u.setOwed sc l
    0).closeRank sc l) (s.setDrc { s.drc with stopped := dropNat s.drc.stopped sc }) :=
  ⟨{ up with drc := { up.drc with stopped := [1], storm := [1] } }, 1, _, by decide +kernel, by decide +kernel, by decide +kernel, rfl⟩
theorem test_dramCommands_19 : ∃ (s : State) (sc : Nat) (m : Bool), s.drc.retraining.contains sc = true :=
  ⟨{ up with drc := { up.drc with retraining := [1] } }, 1, true, by decide +kernel⟩
theorem test_dramCommands_20 : ∃ (s : State) (p : Port) (d : Word) (u : State), d = putBits (s.peek p 0x58040) 0 1 1 ∧
    s.accepted p 0x58040 d = some u ∧ bitOf d.toNat 0 = true ∧ bitOf d.toNat 1 = false :=
  ⟨own, .host, _, accB own .host 0x58040 0 1 1, rfl, by decide +kernel, by decide +kernel, by decide +kernel⟩
theorem test_dramCommands_21 : ∃ (s : State) (p : Port) (d : Word) (u : State), d = putBits (s.peek p 0x58040) 1 1 1 ∧
    s.accepted p 0x58040 d = some u ∧ bitOf d.toNat 0 = false ∧ bitOf d.toNat 1 = true :=
  ⟨own, .host, _, accB own .host 0x58040 1 1 1, rfl, by decide +kernel, by decide +kernel, by decide +kernel⟩
theorem test_dramCommands_22 : ∃ (s : State) (lanes n : Nat) (t : State), s.flag DTRN_STAT_BUSY = true ∧ s.get DTRN_CMD_OP
    ≠ 0 ∧ t = ((s.put DTRN_STAT_BUSY 0).put DTRN_STAT_DONE 1).setDrc { s.drc with dtrnStop := false } :=
  ⟨(own.put DTRN_STAT_BUSY 1).put DTRN_CMD_OP 1, 0, 0, _, by decide +kernel, by decide +kernel, rfl⟩
theorem test_hostLink_1 : ∃ (s : State), s.rst.phase = .off :=
  ⟨State.reset, by decide +kernel⟩
theorem test_hostLink_2 : ∃ (s : State), s.rst.phase ≠ .off ∧ s.save.ended = true ∧ s.get PWR_STAT_STATE = 2 :=
  ⟨{ up.put PWR_STAT_STATE 2 with save := { up.save with ended := true } }, by decide +kernel⟩
theorem test_hostLink_3 : ∃ (s : State), s.rst.phase ≠ .off ∧ s.saving = true :=
  ⟨aSave .data, by decide +kernel⟩
theorem test_hostLink_4 : ∃ (s : State), s.rst.phase ≠ .off ∧ s.saving = false ∧ s.save.ended = false :=
  ⟨up, by decide +kernel⟩
theorem test_hostLink_5 : ∃ (s : State), s.hlk.perst = true ∧ s.get PWR_STAT_STATE ≠ 2 ∧ s.flag PWR_STAT_ENTERING = false
    :=
  ⟨{ up with hlk := { up.hlk with perst := true } }, by decide +kernel⟩
theorem test_hostLink_6 : ∃ (s : State), s.hlk.perst = true ∧ s.get PWR_STAT_STATE = 2 :=
  ⟨{ up.put PWR_STAT_STATE 2 with hlk := { up.hlk with perst := true } }, by decide +kernel⟩
theorem test_hostLink_7 : ∃ (s : State) (rate : Nat) (f : Bool) (lanes : List LaneEnd), s.mayTrain = true ∧ s.trainable
    rate f lanes = true :=
  ⟨linkReady, 1, true, [⟨0, 0, 0⟩], by decide +kernel⟩
theorem test_hostLink_8 : ∃ (s : State), s.hlk.linkUp = true :=
  ⟨up, by decide +kernel⟩
theorem test_hostLink_9 : ∃ (s : State), s.mayTrain = true :=
  ⟨linkReady, by decide +kernel⟩
theorem test_hostLink_10 : ∃ (s : State), s.hlk.linkUp = true ∧ s.hlk.inL1 = false ∧ s.hlk.inL2 = false :=
  ⟨up, by decide +kernel⟩
theorem test_hostLink_11 : ∃ (s : State), s.hlk.inL1 = true :=
  ⟨{ up with hlk := { up.hlk with inL1 := true } }, by decide +kernel⟩
theorem test_hostLink_12 : ∃ (s : State) (u : State), s.hlk.linkUp = true ∧ s.hlk.inL2 = false ∧ s.served = true ∧ u =
    ((s.setHlk { s.hlk with inL1 := false, inL2 := true }).put HLK_LINK_LTSSM 0x16).setPwr { s.pwr with l1Since := none } :=
  ⟨up, _, by decide +kernel, by decide +kernel, by decide +kernel, rfl⟩
theorem test_hostLink_13 : ∃ (s : State), s.hlk.linkUp = true ∧ s.hlk.fenced = false ∧ s.served = true :=
  ⟨up, by decide +kernel⟩
theorem test_hostLink_14 : ∃ (s : State) (e m : Bool), s.hlk.linkUp = true ∧ s.hlk.fenced = false ∧ s.served = true :=
  ⟨up, true, false, by decide +kernel⟩
theorem test_hostLink_15 : ∃ (s : State) (v : Nat) (b : Bool), s.hlk.linkUp = true ∧ s.hlk.fenced = false ∧ s.served =
    true :=
  ⟨up, 31, true, by decide +kernel⟩
theorem test_hostLink_16 : ∃ (s : State) (q : CfgReq), s.hlk.linkUp = true ∧ s.hlk.fenced = false ∧ s.served = false :=
  ⟨{ up with rst := { up.rst with phase := .verified } }, .read, by decide +kernel⟩
theorem test_hostLink_17 : ∃ (s : State), (s.flag HLK_CREDIT_REQ_STOP = true ∨ s.flag HLK_CREDIT_RWD_STOP = true) ∧ s.now
    = s.hlk.stopSince + 1000 :=
  ⟨{ up.put HLK_CREDIT_REQ_STOP 1 with now := 1000 }, by decide +kernel⟩
theorem test_hostLink_18 : ∃ (s : State) (n base size dpa iw ig : Nat), s.hlk.linkUp = true ∧ s.hlk.fenced = false ∧
    s.served = true ∧ n < 4 ∧ iw < 4 ∧ ig < 7 ∧ dpa + size / 2 ^ iw ≤ s.mdl.hostLines * 64 :=
  ⟨up, 3, 0, 64, 0, 3, 6, by decide +kernel⟩
theorem test_hostLink_19 : ∃ (s : State) (n base size dpa iw ig : Nat), s.hlk.linkUp = true ∧ s.hlk.fenced = false ∧
    s.served = true ∧ n < 4 ∧ (4 ≤ iw ∨ 7 ≤ ig ∨ s.mdl.hostLines * 64 < dpa + size / 2 ^ iw) :=
  ⟨up, 3, 0, 64, 0, 4, 6, by decide +kernel⟩
theorem test_hostLink_20 : ∃ (s : State), s.hlk.linkUp = true ∧ s.hlk.fenced = false ∧ s.served = true :=
  ⟨up, by decide +kernel⟩
theorem test_hostLink_21 : ∃ (s : State), s.hlk.linkUp = true ∧ s.hlk.inL2 = false :=
  ⟨up, by decide +kernel⟩
theorem test_hostLink_22 : ∃ (s : State) (rate : Nat) (lanes : List LaneEnd) (t : State), s.hlk.linkUp = true ∧ s.hlk.inL2
    = false ∧ t = s.bump HLK_RECOV_COUNT ∧ t.trainable rate (t.flag HLK_LINK_FLIT256) lanes = true ∧ lanes.length ≤ t.get
    HLK_LINK_WIDTH :=
  ⟨linkOn, 1, [⟨0, 0, 0⟩], _, by decide +kernel, by decide +kernel, rfl, by decide +kernel, by decide +kernel⟩
theorem test_hostLink_23 : ∃ (s : State), s.hlk.linkUp = true :=
  ⟨up, by decide +kernel⟩
theorem test_mailboxStandard_1 : ∃ (s : State) (l : Nat), s.mailboxOpen = true ∧ (List.range 4).any (fun k => decide
    (s.get (GLC_STAT_STATE k) = 2)) = false ∧ l < 4 :=
  ⟨up, 3, by decide +kernel⟩
theorem test_mailboxStandard_2 : ∃ (s : State) (l : Nat) (handles : List Nat), s.mailboxOpen = true ∧ (List.range 4).any
    (fun k => decide (s.get (GLC_STAT_STATE k) = 2)) = false ∧ l < 4 ∧ handles ≠ [] ∧ ((s.cxlLog l).take handles.length).map
    (fun e => e.handle % 65536) = handles :=
  ⟨{ up with mbox := { up.mbox with logs := [(0, [⟨7, 1, 0, 0⟩])] } }, 0, [7], by decide +kernel⟩
theorem test_mailboxStandard_3 : ∃ (s : State) (l : Nat) (handles : List Nat), s.mailboxOpen = true ∧ (List.range 4).any
    (fun k => decide (s.get (GLC_STAT_STATE k) = 2)) = false ∧ l < 4 ∧ (Sparse.get (fun _ => ((0, 0, 0) : Nat × Nat × Nat))
    s.mbox.overflow l).1 ≠ 0 :=
  ⟨{ up with mbox := { up.mbox with overflow := [(3, (1, 0, 0))] } }, 3, [], by decide +kernel⟩
theorem test_mailboxStandard_4 : ∃ (s : State), s.mailboxOpen = true ∧ (List.range 4).any (fun k => decide (s.get
    (GLC_STAT_STATE k) = 2)) = false :=
  ⟨up, by decide +kernel⟩
theorem test_mailboxStandard_5 : ∃ (s : State) (m : List Nat), s.mailboxOpen = true ∧ (List.range 4).any (fun k => decide
    (s.get (GLC_STAT_STATE k) = 2)) = false ∧ m.length = 4 ∧ m.all (fun m => decide (m < 2)) = true :=
  ⟨up, [0, 1, 0, 1], by decide +kernel⟩
theorem test_mailboxStandard_6 : ∃ (s : State), s.mailboxOpen = true ∧ (List.range 4).any (fun k => decide (s.get
    (GLC_STAT_STATE k) = 2)) = false :=
  ⟨up, by decide +kernel⟩
theorem test_mailboxStandard_7 : ∃ (s : State), s.mailboxOpen = true ∧ (List.range 4).any (fun k => decide (s.get
    (GLC_STAT_STATE k) = 2)) = false :=
  ⟨up, by decide +kernel⟩
theorem test_mailboxStandard_8 : ∃ (s : State), s.mailboxOpen = true ∧ (List.range 4).any (fun k => decide (s.get
    (GLC_STAT_STATE k) = 2)) = false :=
  ⟨up, by decide +kernel⟩
theorem test_mailboxStandard_9 : ∃ (s : State) (ns : Nat), s.mailboxOpen = true ∧ (List.range 4).any (fun k => decide
    (s.get (GLC_STAT_STATE k) = 2)) = false :=
  ⟨up, 5, by decide +kernel⟩
theorem test_mailboxStandard_10 : ∃ (s : State), s.mailboxOpen = true ∧ (List.range 4).any (fun k => decide (s.get
    (GLC_STAT_STATE k) = 2)) = false :=
  ⟨up, by decide +kernel⟩
theorem test_mailboxStandard_11 : ∃ (s : State) (o n : Nat), s.mailboxOpen = true ∧ (List.range 4).any (fun k => decide
    (s.get (GLC_STAT_STATE k) = 2)) = false ∧ o + n ≤ effectsLog.length ∧ n ≤ 4096 :=
  ⟨up, 0, 112, by decide +kernel⟩
theorem test_mailboxStandard_12 : ∃ (s : State) (u : List (BitVec 8)) (o n : Nat), s.mailboxOpen = true ∧ (List.range
    4).any (fun k => decide (s.get (GLC_STAT_STATE k) = 2)) = false ∧ (u ≠ effectsUuid ∨ effectsLog.length < o + n ∨ 4096 <
    n) :=
  ⟨up, [], 0, 0, by decide +kernel⟩
theorem test_mailboxStandard_13 : ∃ (s : State), s.mailboxOpen = true ∧ (List.range 4).any (fun k => decide (s.get
    (GLC_STAT_STATE k) = 2)) = false ∧ 2 ≤ s.get RSTR_STAT_PHASE :=
  ⟨up.put RSTR_STAT_PHASE 2, by decide +kernel⟩
theorem test_mailboxStandard_14 : ∃ (s : State), s.mailboxOpen = true ∧ (List.range 4).any (fun k => decide (s.get
    (GLC_STAT_STATE k) = 2)) = false ∧ s.get RSTR_STAT_PHASE < 2 :=
  ⟨up, by decide +kernel⟩
theorem test_mailboxStandard_15 : ∃ (s : State), s.mailboxOpen = true ∧ (List.range 4).any (fun k => decide (s.get
    (GLC_STAT_STATE k) = 2)) = false :=
  ⟨up, by decide +kernel⟩
theorem test_mailboxStandard_16 : ∃ (s : State), s.mailboxOpen = true ∧ (List.range 4).any (fun k => decide (s.get
    (GLC_STAT_STATE k) = 2)) = false :=
  ⟨up, by decide +kernel⟩
theorem test_mailboxStandard_17 : ∃ (s : State) (c : List (BitVec 8)), s.mailboxOpen = true ∧ (List.range 4).any (fun k =>
    decide (s.get (GLC_STAT_STATE k) = 2)) = false ∧ c.length = 12 :=
  ⟨up, List.replicate 12 1, by decide +kernel⟩
theorem test_mailboxStandard_18 : ∃ (s : State), s.mailboxOpen = true ∧ (List.range 4).any (fun k => decide (s.get
    (GLC_STAT_STATE k) = 2)) = false :=
  ⟨up, by decide +kernel⟩
theorem test_mailboxStandard_19 : ∃ (s : State) (v : Nat), s.mailboxOpen = true ∧ (List.range 4).any (fun k => decide
    (s.get (GLC_STAT_STATE k) = 2)) = false :=
  ⟨up, 1, by decide +kernel⟩
theorem test_mailboxMedia_1 : ∃ (s : State) (a n : Nat) (rest : List (Nat × Nat × Nat)), s.mailboxOpen = true ∧
    (List.range 4).any (fun k => decide (s.get (GLC_STAT_STATE k) = 2)) = false ∧ s.mbox.mediaOff = false ∧ a % 64 = 0 ∧ a +
    n ≤ s.mdl.hostLines * 64 ∧ rest = ((s.poisonIn a n).take 4096).drop s.mbox.poisonAt ∧ rest.length ≤ 256 :=
  ⟨up, 0, 64, _, by decide +kernel, by decide +kernel, by decide +kernel, by decide +kernel, by decide +kernel, rfl, by decide +kernel⟩
theorem test_mailboxMedia_2 : ∃ (s : State) (a : Nat), s.mailboxOpen = true ∧ (List.range 4).any (fun k => decide (s.get
    (GLC_STAT_STATE k) = 2)) = false ∧ s.mbox.mediaOff = false ∧ s.poisonAddr a = true :=
  ⟨up.put RSTR_STAT_MEM_ACTIVE 1, 64, by decide +kernel⟩
theorem test_mailboxMedia_3 : ∃ (s : State) (a : Nat) (d : LineData), s.mailboxOpen = true ∧ (List.range 4).any (fun k =>
    decide (s.get (GLC_STAT_STATE k) = 2)) = false ∧ s.mbox.mediaOff = false ∧ s.poisonAddr a = true :=
  ⟨up.put RSTR_STAT_MEM_ACTIVE 1, 64, 5, by decide +kernel⟩
theorem test_mailboxMedia_4 : ∃ (s : State) (a : Nat) (d : LineData), s.mailboxOpen = true ∧ (List.range 4).any (fun k =>
    decide (s.get (GLC_STAT_STATE k) = 2)) = false ∧ s.mbox.mediaOff = false ∧ s.poisonAddr a = false :=
  ⟨up, 65, 5, by decide +kernel⟩
theorem test_mailboxMedia_5 : ∃ (s : State) (t : State), s.mailboxOpen = true ∧ (List.range 4).any (fun k => decide (s.get
      (GLC_STAT_STATE k) = 2)) = false ∧ s.mbox.background = none ∧ t = s.setKept { s.kept with
    sanitize := true, keys := Sparse.set (fun _ => none) s.kept.keys s.arr.keySlot none } :=
  ⟨up, _, by decide +kernel, by decide +kernel, by decide +kernel, rfl⟩
theorem test_mailboxMedia_6 : ∃ (s : State) (t : State), s.mbox.background = some 0x4400 ∧ t = (s.eraseArray
    (Config.unerased s.freeCtr)).drawn :=
  ⟨{ up with mbox := { up.mbox with background := some 0x4400 } }, _, by decide +kernel, rfl⟩
theorem test_mailboxMedia_7 : ∃ (s : State) (tag c : Nat), s.mailboxOpen = true ∧ (List.range 4).any (fun k => decide
    (s.get (GLC_STAT_STATE k) = 2)) = false ∧ s.mbox.mediaOff = false ∧ s.barRefusal = some c :=
  ⟨up, 5, (up.barRefusal).getD 0, by decide +kernel⟩
theorem test_mailboxMedia_8 : ∃ (s : State) (tag : Nat) (t : State), s.mailboxOpen = true ∧ (List.range 4).any (fun k =>
    decide (s.get (GLC_STAT_STATE k) = 2)) = false ∧ s.mbox.mediaOff = false ∧ s.barRefusal = none ∧ t = s.postBarrier (tag
    % 2 ^ 32) :=
  ⟨barOk, 5, _, by decide +kernel, by decide +kernel, by decide +kernel, by decide +kernel, rfl⟩
theorem test_mailboxMedia_9 : ∃ (s : State) (q : Nat) (b : Barrier), s.mailboxOpen = true ∧ (List.range 4).any (fun k =>
    decide (s.get (GLC_STAT_STATE k) = 2)) = false ∧ q ≠ 0 ∧ s.pers.barriers.find? (fun b => decide (b.seq = q)) = some b :=
  ⟨{ up with pers := { up.pers with barriers := [⟨1, 5, 2, some 3⟩] } }, 1, ⟨1, 5, 2, some 3⟩, by decide +kernel⟩
theorem test_mailboxMedia_10 : ∃ (s : State), s.mailboxOpen = true ∧ (List.range 4).any (fun k => decide (s.get
    (GLC_STAT_STATE k) = 2)) = false :=
  ⟨up, by decide +kernel⟩
theorem test_mailboxMedia_11 : ∃ (s : State), s.mailboxOpen = true ∧ (List.range 4).any (fun k => decide (s.get
    (GLC_STAT_STATE k) = 2)) = false :=
  ⟨up, by decide +kernel⟩
theorem test_mailboxMedia_12 : ∃ (s : State), s.mailboxOpen = true ∧ (List.range 4).any (fun k => decide (s.get
    (GLC_STAT_STATE k) = 2)) = false :=
  ⟨up, by decide +kernel⟩
theorem test_mailboxMedia_13 : ∃ (s : State) (flags tag size : Nat) (t : State), s.mailboxOpen = true ∧ (List.range 4).any
      (fun k => decide (s.get (GLC_STAT_STATE k) = 2)) = false ∧ s.get RSTR_STAT_PHASE = 5 ∧ 4 ≤ s.get RSTR_STAT_VOL_CAUSE ∧
      s.get RSTR_STAT_VOL_CAUSE ≤ 7 ∧ (flags = 1 ∨ flags = 0 ∧ tag % 2 ^ 32 ≠ 0) ∧ 1 ≤ size ∧ size ≤ 8 ∧ s.mbox.background =
      none ∧ t = s.setKept { s.kept with
    format := true, formatTag := if flags = 1 then 0 else tag % 2 ^ 32, formatSize := size } :=
  ⟨(up.put RSTR_STAT_PHASE 5).put RSTR_STAT_VOL_CAUSE 4, 1, 0, 8, _, by decide +kernel, by decide +kernel, by decide +kernel, by decide +kernel, by decide +kernel, by decide +kernel, by decide +kernel, by decide +kernel, by decide +kernel, rfl⟩
theorem test_mailboxMedia_14 : ∃ (s : State), s.mbox.background = some 0xC010 :=
  ⟨{ up with mbox := { up.mbox with background := some 0xC010 } }, by decide +kernel⟩
theorem test_mailboxMedia_15 : ∃ (s : State), s.mailboxOpen = true ∧ (List.range 4).any (fun k => decide (s.get
    (GLC_STAT_STATE k) = 2)) = false :=
  ⟨up, by decide +kernel⟩
theorem test_mailboxMedia_16 : ∃ (s : State) (n r : Nat) (k : KeySlot), s.mailboxOpen = true ∧ (List.range 4).any (fun k
    => decide (s.get (GLC_STAT_STATE k) = 2)) = false ∧ s.protLevel ≠ 2 ∧ Sparse.get (fun _ => none) s.kept.keys n = some k
    ∧ n < 8 :=
  ⟨{ up with kept := { up.kept with keys := [(7, some ⟨1, 2⟩)] } }, 7, 0, ⟨1, 2⟩, by decide +kernel⟩
theorem test_mailboxMedia_17 : ∃ (s : State) (a k w n i : Nat) (t : State), s.mailboxOpen = true ∧ (List.range 4).any (fun
    k => decide (s.get (GLC_STAT_STATE k) = 2)) = false ∧ s.mbox.session = some n ∧ (List.range 8).find? (fun i =>
    (Sparse.get (fun _ => none) s.kept.keys i).isNone) = some i ∧ t = s.setMbox { s.mbox with session := none } :=
  ⟨{ up with mbox := { up.mbox with session := some 0 } }, 0, 0, 0, 0, 0, _, by decide +kernel, by decide +kernel, by decide +kernel, by decide +kernel, rfl⟩
theorem test_straitFrames_1 : ∃ (s : State) (h : FrameHdr) (p : List (BitVec 8)) (t : State), s.takesFrame h = true ∧ t =
    s.frameTaken h 0x01 p ∧ t.strt.masterHeard = true :=
  ⟨{ grp with strt := { grp.strt with masterHeard := true } }, hd, [], _, by decide +kernel, rfl, by decide +kernel⟩
theorem test_straitFrames_2 : ∃ (s : State) (h : FrameHdr) (n : Nat) (t : State), s.takesFrame ({ h with
    dst := some s.devNo }) = true ∧ t = s.frameTaken ({ h with dst := some s.devNo }) 0x02 [] :=
  ⟨grp, hd, 3, _, by decide +kernel, rfl⟩
theorem test_straitFrames_3 : ∃ (s : State) (h : FrameHdr) (p : List (BitVec 8)) (n : Nat) (t : State), s.takesFrame ({ h
    with dst := some s.devNo }) = true ∧ t = s.frameTaken ({ h with dst := some s.devNo }) 0x03 p :=
  ⟨grp, hd, [], 3, _, by decide +kernel, rfl⟩
theorem test_straitFrames_4 : ∃ (s : State) (h : FrameHdr) (p : List (BitVec 8)) (o : Int) (n r : Nat) (t : State),
    s.takesFrame h = true ∧ t = s.frameTaken h 0x04 (p.take 4 ++ leBytes 4 (payAt p 4 4 + s.get (if h.port = 0 then
    STRT_DELAY_UP_PS else STRT_DELAY_DOWN_PS) + r)) ∧ t.inGroup = true ∧ t.isMaster = false ∧ h.src = t.get STRT_STAT_MASTER
    :=
  ⟨grp, hd, [], 5, 0, 0, _, by decide +kernel, rfl, by decide +kernel, by decide +kernel, by decide +kernel⟩
theorem test_straitFrames_5 : ∃ (s : State) (h : FrameHdr) (p : List (BitVec 8)) (t u : State), s.takesFrame h = true ∧ t
      = s.frameTaken h 0x05 p ∧ u = t.setPeer h.src { t.peer h.src with
    power := payAt p 0 4, rate := payAt p 4 4, fixed := payAt p 8 4, res := payAt p 12 4, left := payAt p 16 4, saving :=
      bitOf (payAt p 20 1) 0, saveDone := bitOf (payAt p 20 1) 1 } ∧ u.saving = false :=
  ⟨grp, hd, [], _, _, by decide +kernel, rfl, rfl, by decide +kernel⟩
theorem test_straitFrames_6 : ∃ (s : State) (h : FrameHdr) (p : List (BitVec 8)) (t u : State), s.takesFrame h = true ∧ t
    = s.frameTaken h 0x06 p ∧ t.inGroup = true ∧ t.isMaster = false ∧ h.src = t.get STRT_STAT_MASTER ∧ u = t.takeShare
    (payAt p 0 4 % 2 ^ 20) (payAt p 4 2) ∧ u.saving = false :=
  ⟨grp, hd, [], _, _, by decide +kernel, rfl, by decide +kernel, by decide +kernel, by decide +kernel, rfl, by decide +kernel⟩
theorem test_straitFrames_7 : ∃ (s : State) (h : FrameHdr) (p : List (BitVec 8)) (t u : State), s.takesFrame h = true ∧ t
      = s.frameTaken h 0x07 p ∧ u = t.setPeer h.src { t.peer h.src with
    tailDone := some (payAt p 0 8), collecting := payAt p 8 8 } ∧ u.saving = false :=
  ⟨grp, hd, [], _, _, by decide +kernel, rfl, rfl, by decide +kernel⟩
theorem test_straitFrames_8 : ∃ (s : State) (h : FrameHdr) (p : List (BitVec 8)) (t u : State), s.takesFrame h = true ∧ t
    = s.frameTaken h 0x08 p ∧ t.inGroup = true ∧ t.isMaster = false ∧ h.src = t.get STRT_STAT_MASTER ∧ t.active = true ∧ 0 <
    (payAt p 8 4 + 2 ^ 32 - t.pass32) % 2 ^ 32 ∧ (payAt p 8 4 + 2 ^ 32 - t.pass32) % 2 ^ 32 < 2 ^ 31 ∧ u = t.setClose (t.now
    + (payAt p 8 4 + 2 ^ 32 - t.pass32) % 2 ^ 32) (payAt p 0 8) ∧ u.saving = false :=
  ⟨grp.put PERS_CTRL_ACTIVE 1, hd, List.replicate 8 0 ++ leBytes 4 5, _, _, by decide +kernel, rfl, by decide +kernel, by decide +kernel, by decide +kernel, by decide +kernel, by decide +kernel, by decide +kernel, rfl, by decide +kernel⟩
theorem test_straitFrames_9 : ∃ (s : State) (h : FrameHdr) (p : List (BitVec 8)) (t u : State), s.takesFrame h = true ∧ t
      = s.frameTaken h 0x09 p ∧ u = (t.setPeer h.src { t.peer h.src with
    sealed := max (t.peer h.src).sealed (payAt p 0 8) }).sendGroupSealed ∧ u.saving = false :=
  ⟨grp, hd, [], _, _, by decide +kernel, rfl, rfl, by decide +kernel⟩
theorem test_straitFrames_10 : ∃ (s : State) (h : FrameHdr) (p : List (BitVec 8)) (t u : State), s.takesFrame h = true ∧ t
    = s.frameTaken h 0x0A p ∧ t.inGroup = true ∧ h.src = t.get STRT_STAT_MASTER ∧ u = t.setGroupSealed (payAt p 0 8) ∧
    u.saving = false :=
  ⟨grp, hd, [], _, _, by decide +kernel, rfl, by decide +kernel, by decide +kernel, rfl, by decide +kernel⟩
theorem test_straitFrames_11 : ∃ (s : State) (h : FrameHdr) (t : State), s.takesFrame h = true ∧ t = s.frameTaken h 0x10
    [] ∧ t.inGroup = true ∧ h.src = t.get STRT_STAT_MASTER ∧ (t.startSave 4 t.now).saving = true :=
  ⟨grp.put PERS_CTRL_ACTIVE 1, hd, _, by decide +kernel, rfl, by decide +kernel, by decide +kernel, by decide +kernel⟩
theorem test_straitFrames_12 : ∃ (s : State) (h : FrameHdr) (p : List (BitVec 8)) (t u : State), s.takesFrame h = true ∧ t
    = s.frameTaken h 0x11 p ∧ u = t.setPeer h.src { t.peer h.src with saving := true } ∧ u.saving = false :=
  ⟨grp, hd, [], _, _, by decide +kernel, rfl, rfl, by decide +kernel⟩
theorem test_straitFrames_13 : ∃ (s : State) (h : FrameHdr) (p : List (BitVec 8)) (t u : State), s.takesFrame h = true ∧ t
    = s.frameTaken h 0x12 p ∧ u = t.setPeer h.src { t.peer h.src with saving := false, saveDone := true, left := 0 } ∧
    u.saving = false :=
  ⟨grp, hd, [], _, _, by decide +kernel, rfl, rfl, by decide +kernel⟩
theorem test_straitFrames_14 : ∃ (s : State) (h : FrameHdr) (p : List (BitVec 8)) (t u : State), s.takesFrame h = true ∧ t
    = s.frameTaken h 0x20 p ∧ ((t.addStatus ⟨h.src, payAt p 16 4, payAt p 0 8, payAt p 8 8, payAt p 23 1⟩).setPeer h.src {
    t.peer h.src with xseal := payAt p 20 3 }).rstr.settled = none ∧ u = ((t.addStatus ⟨h.src, payAt p 16 4, payAt p 0 8,
    payAt p 8 8, payAt p 23 1⟩).setPeer h.src { t.peer h.src with xseal := payAt p 20 3 }).trySettle ∧ u.saving = false :=
  ⟨grp, hd, [], _, _, by decide +kernel, rfl, by decide +kernel, rfl, by decide +kernel⟩
theorem test_straitFrames_15 : ∃ (s : State) (h : FrameHdr) (p : List (BitVec 8)) (t u : State), s.takesFrame h = true ∧ t
      = s.frameTaken h 0x21 p ∧ t.inGroup = true ∧ h.src = t.get STRT_STAT_MASTER ∧ u = ((t.setRstr { t.rstr with
    settled := some (payAt p 10 8, payAt p 0 8), heardMask := payAt p 8 1 }).put RSTR_STAT_CASC_PARTIAL (payAt p 9 1 %
      2)).takePoint ∧ u.saving = false :=
  ⟨grp, hd, [], _, _, by decide +kernel, rfl, by decide +kernel, by decide +kernel, rfl, by decide +kernel⟩
theorem test_straitFrames_16 : ∃ (s : State) (h : FrameHdr) (p : List (BitVec 8)) (t u : State), s.takesFrame h = true ∧ t
    = s.frameTaken h 0x30 p ∧ t.inGroup = true ∧ u = t.newMaster h.src ∧ u.saving = false :=
  ⟨grp, hd, [], _, _, by decide +kernel, rfl, by decide +kernel, rfl, by decide +kernel⟩
theorem test_straitFrames_17 : ∃ (s : State) (h : FrameHdr) (p : List (BitVec 8)) (t u : State), s.takesFrame h = true ∧ t
    = s.frameTaken h 0x40 p ∧ u = t.strtEvent (payAt p 0 1) ∧ u.saving = false :=
  ⟨grp, hd, [], _, _, by decide +kernel, rfl, rfl, by decide +kernel⟩
theorem test_straitFrames_18 : ∃ (s : State) (m : Bool), s.strtRuns = true :=
  ⟨grp, true, by decide +kernel⟩
theorem test_straitFrames_19 : ∃ (s : State) (h : FrameHdr), s.strtRuns = true ∧ h.port < 2 ∧ s.flag (portOk h.port) =
    true :=
  ⟨grp, hd, by decide +kernel⟩
theorem test_straitGroup_1 : ∃ (s : State) (port q : Nat) (ring : Bool) (t : State), s.strtRuns = true ∧ port < 2 ∧ s.flag
      (portOk port) = false ∧ s.rightPartner port q ring = true ∧ t = (s.put (portOk port) 1).setStrt { s.strt with
    trainedAt := if s.strt.censusDone then s.strt.trainedAt else some s.now } :=
  ⟨grp.put STRT_STAT_DOWN_OK 0, 1, 2, false, _, by decide +kernel, by decide +kernel, by decide +kernel, by decide +kernel, rfl⟩
theorem test_straitGroup_2 : ∃ (s : State) (port q : Nat) (ring : Bool), s.strtRuns = true ∧ port < 2 ∧ s.flag (portOk
    port) = false ∧ s.rightPartner port q ring = false :=
  ⟨grp.put STRT_STAT_DOWN_OK 0, 1, 5, false, by decide +kernel⟩
theorem test_straitGroup_3 : ∃ (s : State) (t0 : Nat), s.strtRuns = true ∧ s.strt.censusDone = false ∧ s.strt.trainedAt =
    some t0 ∧ t0 + 10000 ≤ s.now :=
  ⟨{ grp with strt := { grp.strt with censusDone := false, trainedAt := some 0 }, now := 10000 }, 0, by decide +kernel⟩
theorem test_straitGroup_4 : ∃ (s : State), s.inGroup = true ∧ s.strt.censusDone = true ∧ s.strt.masterHeard = false :=
  ⟨grp, by decide +kernel⟩
theorem test_straitGroup_5 : ∃ (s : State) (t u : State), s.inGroup = true ∧ s.devNo ≠ 0 ∧ s.get STRT_STAT_MASTER ≠
    s.devNo ∧ s.strt.everMaster = false ∧ s.strtRuns = true ∧ (List.range s.devNo).any (fun d => !s.silentFor d (s.devNo *
    50)) = false ∧ s.silentFor (s.get STRT_STAT_MASTER) 50 = true ∧ s.get RSTR_STAT_PHASE ≠ 1 ∧ t = ((s.newMaster
    s.devNo).put STRT_STAT_TOOK 1).setStrt { s.strt with masterHeard := true, everMaster := true } ∧ u = (t.sendFrame 0x30
    none (leBytes 1 (s.get STRT_STAT_MASTER))).sendTickSync :=
  ⟨grpMember, _, _, by decide +kernel, by decide +kernel, by decide +kernel, by decide +kernel, by decide +kernel, by decide +kernel, by decide +kernel, by decide +kernel, rfl, rfl⟩
theorem test_straitGroup_6 : ∃ (s : State), s.strtRuns = true ∧ s.inGroup = true :=
  ⟨grp, by decide +kernel⟩
theorem test_straitGroup_7 : ∃ (s : State), s.strtRuns = true :=
  ⟨grp, by decide +kernel⟩
theorem test_straitGroup_8 : ∃ (s : State), s.strtRuns = true ∧ s.isMaster = true :=
  ⟨(grp.put STRT_STAT_MASTER 1), by decide +kernel⟩
theorem test_straitGroup_9 : ∃ (s : State), s.strtRuns = true :=
  ⟨grp, by decide +kernel⟩
theorem test_straitGroup_10 : ∃ (s : State) (k n : Nat), s.isMaster = true ∧ s.active = true ∧ s.pers.running = true ∧
    s.saving = false ∧ s.pers.closeAt = none ∧ s.pers.epochBegan + s.pers.epochLen ≤ s.now + s.cfg STRT_CFG_CLOSE_LEAD ∧
    s.pers.tail = none ∧ (s.otherMembers.filter (fun d => s.present.contains d)).all s.tailOk = true ∧ k = max
    (s.pers.epochBegan + s.pers.epochLen) (s.now + s.cfg STRT_CFG_CLOSE_LEAD) ∧ n = s.closeNumber :=
  ⟨closeReady, _, _, by decide +kernel, by decide +kernel, by decide +kernel, by decide +kernel, by decide +kernel, by decide +kernel, by decide +kernel, by decide +kernel, rfl, rfl⟩
theorem test_straitGroup_11 : ∃ (s : State) (d : Nat) (a : State), d ≠ s.devNo ∧ d < 8 ∧ bitOf (s.get STRT_STAT_PRESENT) d
    = true ∧ s.silentFor d 50 = true ∧ s.inGroup = true ∧ a = s.put STRT_STAT_PRESENT (s.get STRT_STAT_PRESENT - 2 ^ d) ∧
    (a.inGroup && a.expected.contains d) = true :=
  ⟨(grp.put STRT_STAT_PRESENT 3).put STRT_EXPECT_MASK 1, 0, _, by decide +kernel, by decide +kernel, by decide +kernel, by decide +kernel, by decide +kernel, rfl, by decide +kernel⟩
theorem test_straitGroup_12 : ∃ (s : State) (d : Nat) (a : State), d ≠ s.devNo ∧ d < 8 ∧ bitOf (s.get STRT_STAT_PRESENT) d
    = true ∧ s.silentFor d 50 = true ∧ s.inGroup = true ∧ a = s.put STRT_STAT_PRESENT (s.get STRT_STAT_PRESENT - 2 ^ d) ∧
    (a.inGroup && a.expected.contains d) = false :=
  ⟨(grp.put STRT_STAT_PRESENT 3).put STRT_EXPECT_MASK 0, 0, _, by decide +kernel, by decide +kernel, by decide +kernel, by decide +kernel, by decide +kernel, rfl, by decide +kernel⟩
theorem test_straitGroup_13 : ∃ (s : State) (p : Port) (d : Word) (u : State), d = putBits (s.peek p 0x88040) 8 1 1 ∧
    s.accepted p 0x88040 d = some u ∧ bitOf d.toNat 8 = true :=
  ⟨own, .host, _, accB own .host 0x88040 8 1 1, rfl, by decide +kernel, by decide +kernel⟩
theorem test_straitGroup_14 : ∃ (s : State) (port : Nat), port < 2 ∧ s.flag (portOk port) = true :=
  ⟨grp, 1, by decide +kernel⟩
theorem test_straitGroup_15 : ∃ (s : State) (r : SaveRun) (g : Nat × Nat), s.save.run = some r ∧ s.inGroup = true ∧
    s.isMaster = false ∧ r.gauge = some g ∧ g.2 + 3 * s.cfg SAVE_CUT_POLL_MS * 1000 ≤ s.now :=
  ⟨{ grp with save := { grp.save with run := some aRun }, now := 1000000 }, aRun, (0, 0), by decide +kernel⟩
theorem test_startAndReset_1 : ∃ (s : State) (n : Nat) (t : State), s.rst.phase = .off ∧ s.flag TST_STAT_TEST_MODE = false
    ∧ t = ((((s.sampleStraps).loadFuses (some n)).loadStored).put ATOL_PROT_LEVEL s.atol.sel.prot).put ATOL_SPARE_FREE
    s.atol.spares.length :=
  ⟨State.reset, 0, _, by decide +kernel, by decide +kernel, rfl⟩
theorem test_startAndReset_2 : ∃ (s : State) (t : State), s.rst.phase = .off ∧ s.flag TST_STAT_TEST_MODE = false ∧ t =
    ((((s.sampleStraps).loadFuses none).loadStored).put ATOL_PROT_LEVEL s.atol.sel.prot).put ATOL_SPARE_FREE
    s.atol.spares.length :=
  ⟨State.reset, _, by decide +kernel, by decide +kernel, rfl⟩
theorem test_startAndReset_3 : ∃ (s : State) (k : Nat), s.rst.phase = .booting ∧ s.startsOn = true ∧ s.get RST_STAT_START
    ≠ 1 ∧ s.atol.sel.updPend = false :=
  ⟨booting, 0, by decide +kernel⟩
theorem test_startAndReset_4 : ∃ (s : State) (k : Nat) (t u : State), k ≠ 0 ∧ s.rst.phase = .booting ∧ s.startsOn = true ∧
    s.get RST_STAT_START ≠ 1 ∧ t = ((s.verifyFailed s.atol.sel.active k).bootSwap 0).put RST_STAT_ISLE_FALLBACK 1 ∧ u =
    ((t.put RST_STAT_ISLE t.atol.sel.active).eventNo 0x02 0x0202 [t.atol.sel.active]).raiseInt 0x02 0 :=
  ⟨booting, 1, _, _, by decide +kernel, by decide +kernel, by decide +kernel, by decide +kernel, rfl, rfl⟩
theorem test_startAndReset_5 : ∃ (s : State) (k j : Nat), k ≠ 0 ∧ j ≠ 0 ∧ s.rst.phase = .booting ∧ s.startsOn = true ∧
    s.get RST_STAT_START ≠ 1 :=
  ⟨booting, 1, 2, by decide +kernel⟩
theorem test_startAndReset_6 : ∃ (s : State) (v k : Nat), s.startsOn = true ∧ s.rst.phase = .verified :=
  ⟨{ conf with rst := { conf.rst with phase := .verified } }, 0, 0, by decide +kernel⟩
theorem test_startAndReset_7 : ∃ (s : State), s.flag CLK_STAT_REF_OK = true :=
  ⟨up.put CLK_STAT_REF_OK 1, by decide +kernel⟩
theorem test_startAndReset_8 : ∃ (s : State) (n : Nat), s.rst.phase ≠ .off ∧ s.flag CLK_STAT_REF_OK = false :=
  ⟨up.put CLK_STAT_REF_OK 0, 0, by decide +kernel⟩
theorem test_startAndReset_9 : ∃ (s : State), s.rst.phase ≠ .off ∧ s.flag CLK_STAT_AON_OK = true :=
  ⟨up.put CLK_STAT_AON_OK 1, by decide +kernel⟩
theorem test_startAndReset_10 : ∃ (s : State) (k : Nat), s.rst.phase = .active ∧ k < 6 ∧ k ≠ 1 ∧ s.locked k = false :=
  ⟨up.put CLK_STAT_LOCK 0, 5, by decide +kernel⟩
theorem test_startAndReset_11 : ∃ (s : State) (k : Nat) (t : State), s.locked k = true ∧ k ≠ 0 ∧ k ≠ 1 ∧ t = (((s.put
    CLK_STAT_LOCK (setBitTo (s.get CLK_STAT_LOCK) k false)).put CLK_STAT_ON_AON (setBitTo (s.get CLK_STAT_ON_AON) k
    false)).bump CLK_UNLOCK_COUNT).raiseInt 0x01 2 :=
  ⟨up.put CLK_STAT_LOCK 63, 5, _, by decide +kernel, by decide +kernel, by decide +kernel, rfl⟩
theorem test_startAndReset_12 : ∃ (s : State) (p : Port) (u : State), s.accepted p 0x2044 0x52535430 = some u :=
  ⟨own, .host, acc own .host 0x2044 0x52535430, by decide +kernel⟩
theorem test_startAndReset_13 : ∃ (s : State) (p : Port) (d : Word) (u : State), d ≠ 0x52535430 ∧ s.accepted p 0x2044 d =
    some u :=
  ⟨own, .host, 5, acc own .host 0x2044 5, by decide +kernel⟩
theorem test_startAndReset_14 : ∃ (s : State) (p : Port) (d : Word) (u : State), d = putBits (s.peek p 0x2040) 0 1 1 ∧
    s.accepted p 0x2040 d = some u ∧ bitOf d.toNat 0 = true ∧ u.keyed p = true :=
  ⟨keyed, .host, _, accB keyed .host 0x2040 0 1 1, rfl, by decide +kernel, by decide +kernel, by decide +kernel⟩
theorem test_startAndReset_15 : ∃ (s : State) (p : Port) (d : Word), d = putBits (s.peek p 0x2040) 0 1 1 ∧ bitOf d.toNat 0
    = true ∧ s.portOpen p = true ∧ s.gated 2 = false ∧ s.keyed p = false :=
  ⟨own, .host, _, rfl, by decide +kernel, by decide +kernel, by decide +kernel, by decide +kernel⟩
theorem test_startAndReset_16 : ∃ (s : State) (b k : Bool) (src : Nat), s.rst.quiesce = some src ∧ s.get PWR_STAT_STATE ≠
    2 ∧ s.rst.phase ≠ .recovery :=
  ⟨{ up with rst := { up.rst with quiesce := some 2 } }, true, true, 2, by decide +kernel⟩
theorem test_startAndReset_17 : ∃ (s : State) (src : Nat), s.rst.held = some src ∧ s.saving = false ∧ s.goodLong = true ∧
    (s.save.ended = true ∨ s.save.failed = true) :=
  ⟨{ good with rst := { good.rst with held := some 2 }, save := { good.save with ended := true } }, 2, by decide +kernel⟩
theorem test_startAndReset_18 : ∃ (s : State) (src : Nat), s.rst.held = some src ∧ s.saving = false ∧ s.goodLong = true ∧
    s.save.ended = false ∧ s.save.failed = false :=
  ⟨{ good with rst := { good.rst with held := some 2 } }, 2, by decide +kernel⟩
theorem test_startAndReset_19 : ∃ (s : State) (a b : Bool) (t : State), s.rst.phase = .booting ∧ s.rst.rcvSampled = false
    ∧ s.startsOn = true ∧ t = s.setRst { s.rst with rcvSampled := true, rcvRequest := a && b } :=
  ⟨booting, true, true, _, by decide +kernel, by decide +kernel, by decide +kernel, rfl⟩
theorem test_faultCollection_1 : ∃ (s : State) (pg n kind addr k place : Nat), s.detects pg n = true ∧ (pg < 0xD0 ∨ 0xD4 ≤
    pg) :=
  ⟨up, 0x90, 6, 0, 0, 0, 0, by decide +kernel⟩
theorem test_faultCollection_2 : ∃ (s : State) (pg n kind addr k place : Nat) (t : State), s.detects pg n = true ∧ 0xD0 ≤
    pg ∧ pg < 0xD4 ∧ t = s.raiseFaultSev pg n (s.severity pg n) kind addr k false ∧ bitOf (t.get (ERR_MASK_MASK pg)) n =
    false :=
  ⟨up, 0xD0, 0, 0, 0, 0, 0, _, by decide +kernel, by decide +kernel, by decide +kernel, rfl, by decide +kernel⟩
theorem test_faultCollection_3 : ∃ (s : State) (m : FltMsg) (t : State), firstMsg s.flt.pend = some m ∧ t = s.setFlt {
      s.flt with
    pend := Sparse.set (fun _ => noMsg) s.flt.pend (fsrcOf m.page m.src) noMsg, lastTime := some (m.pass, m.cycle) } ∧
      m.conseq = true :=
  ⟨aFault { theMsg with conseq := true }, { theMsg with conseq := true }, _, by decide +kernel, rfl, by decide +kernel⟩
theorem test_faultCollection_4 : ∃ (s : State) (m : FltMsg) (t : State), firstMsg s.flt.pend = some m ∧ t = s.setFlt {
      s.flt with
    pend := Sparse.set (fun _ => noMsg) s.flt.pend (fsrcOf m.page m.src) noMsg, lastTime := some (m.pass, m.cycle) } ∧
      m.conseq = false ∧ m.sev ≤ 1 :=
  ⟨aFault { theMsg with sev := 1 }, { theMsg with sev := 1 }, _, by decide +kernel, rfl, by decide +kernel, by decide +kernel⟩
theorem test_faultCollection_5 : ∃ (s : State) (m : FltMsg) (t : State), firstMsg s.flt.pend = some m ∧ t = s.setFlt {
      s.flt with
    pend := Sparse.set (fun _ => noMsg) s.flt.pend (fsrcOf m.page m.src) noMsg, lastTime := some (m.pass, m.cycle) } ∧
      m.conseq = false ∧ m.sev = 3 ∧ s.reacts m.inj = true :=
  ⟨aFault { theMsg with sev := 3 }, { theMsg with sev := 3 }, _, by decide +kernel, rfl, by decide +kernel, by decide +kernel, by decide +kernel⟩
theorem test_faultCollection_6 : ∃ (s : State) (m : FltMsg) (t : State), firstMsg s.flt.pend = some m ∧ t = s.setFlt {
      s.flt with
    pend := Sparse.set (fun _ => noMsg) s.flt.pend (fsrcOf m.page m.src) noMsg, lastTime := some (m.pass, m.cycle) } ∧
      m.conseq = false ∧ m.sev = 2 ∧ s.reacts m.inj = true ∧ s.flag FLT_SAFE_SAFE = false :=
  ⟨aFault theMsg, theMsg, _, by decide +kernel, rfl, by decide +kernel, by decide +kernel, by decide +kernel, by decide +kernel⟩
theorem test_faultCollection_7 : ∃ (s : State) (w : ScopeOf) (t : State), s.flt.scopes.any (fun c => decide (c.what = w ∧
      c.phase = .asserted)) = true ∧ t = s.setFlt { s.flt with
    scopes := s.flt.scopes.map (fun c => if c.what = w ∧ c.phase = .asserted then { c with
    phase := .settling, since := s.now } else c) } :=
  ⟨inScope .asserted, .block 0x60, _, by decide +kernel, rfl⟩
theorem test_faultCollection_8 : ∃ (s : State) (b : Nat) (c : Scope) (t u : State), s.flt.scopes.find? (fun c => decide
    (c.what = .block b ∧ c.phase = .asserted)) = some c ∧ c.since + 200 ≤ s.now ∧ t = s.raiseFault 0x90 0 0x0B b ∧ u =
    t.setFlt { t.flt with scopes := t.flt.scopes.filter (fun d => decide (d ≠ c)) } :=
  ⟨inScope .asserted, 0x60, ⟨.block 0x60, 1, .asserted, 0, 0⟩, _, _, by decide +kernel, by decide +kernel, rfl, rfl⟩
theorem test_faultCollection_9 : ∃ (s : State) (d : Nat) (c : Scope), s.flt.scopes.find? (fun c => decide (c.what =
    .domain d ∧ c.phase = .asserted)) = some c ∧ c.since + 300 ≤ s.now :=
  ⟨{ up with flt := { up.flt with scopes := [⟨.domain 4, 1, .asserted, 0, 0⟩] }, now := 1000 }, 4, ⟨.domain 4, 1, .asserted, 0, 0⟩, by decide +kernel⟩
theorem test_faultCollection_10 : ∃ (s : State) (w : ScopeOf) (us : Nat) (c : Scope), s.flt.scopes.find? (fun c => decide
    (c.what = w ∧ c.phase = .settling)) = some c ∧ c.since + 2 ≤ s.now ∧ c.parent ≠ 0 :=
  ⟨inScope .settling, .block 0x60, 5, ⟨.block 0x60, 1, .settling, 0, 0⟩, by decide +kernel⟩
theorem test_faultCollection_11 : ∃ (s : State), s.get PWR_STAT_STATE ≠ 2 ∧ s.rst.phase ≠ .off ∧ s.rst.phase ≠ .recovery
    :=
  ⟨up, by decide +kernel⟩
theorem test_faultCollection_12 : ∃ (s : State) (k y : Nat), k < 4 ∧ (s.get (GLC_STAT_STATE k) = 1 ∨ s.get (GLC_STAT_STATE
    k) = 3) :=
  ⟨up.put (GLC_STAT_STATE 3) 1, 3, 0, by decide +kernel⟩
theorem test_faultCollection_13 : ∃ (s : State) (k us : Nat), s.get (GLC_STAT_STATE k) = 2 :=
  ⟨up.put (GLC_STAT_STATE 3) 2, 3, 0, by decide +kernel⟩
theorem test_faultCollection_14 : ∃ (s : State) (p : Port) (u : State), s.accepted p 0x92060 0 = some u :=
  ⟨own, .host, acc own .host 0x92060 0, by decide +kernel⟩
theorem test_faultCollection_15 : ∃ (s : State) (p : Port) (u : State), s.accepted p 0x93060 0 = some u :=
  ⟨own, .host, acc own .host 0x93060 0, by decide +kernel⟩
theorem test_eventRecorder_1 : ∃ (s : State) (b code : Nat) (co : Bool) (l : List Word), implemented b = true ∧
    s.rst.phase ≠ .off :=
  ⟨up, 3, 0, false, [], by decide +kernel⟩
theorem test_eventRecorder_2 : ∃ (s : State), s.recd.lastRecordTenths + 36000 ≤ s.recd.tenths ∧ s.cfgOn REC_CTRL_EN = true
    ∧ s.recd.frozen = false :=
  ⟨{ own.put REC_CTRL_EN 1 with recd := { own.recd with tenths := 36000, lastRecordTenths := 0 } }, by decide +kernel⟩
theorem test_eventRecorder_3 : ∃ (s : State) (p : Port) (d : Word) (u : State), d = putBits (s.peek p 0x94040) 8 1 1 ∧
    s.accepted p 0x94040 d = some u ∧ bitOf d.toNat 8 = true :=
  ⟨own, .host, _, accB own .host 0x94040 8 1 1, rfl, by decide +kernel, by decide +kernel⟩
theorem test_eventRecorder_4 : ∃ (s : State) (p : Port) (on : Bool) (d : Word) (u : State), d = putBits (s.peek p 0x94040)
    1 1 (b2n on) ∧ s.accepted p 0x94040 d = some u ∧ bitOf d.toNat 8 = false :=
  ⟨own, .host, true, _, accB own .host 0x94040 1 1 1, rfl, by decide +kernel, by decide +kernel⟩
theorem test_eventRecorder_5 : ∃ (s : State) (failed : List Nat) (t : State), s.recd.flushing = true ∧ t =
    ((s.recd.ring.filter (fun r => decide (r.rseq < s.recd.flushTo % 2 ^ 32))).foldl (State.flushRecord failed) (s.put
    REC_STAT_STALLED 0)).recRange ∧ t.flag REC_STAT_STALLED = false :=
  ⟨{ up with recd := { up.recd with flushing := true } }, [], _, by decide +kernel, rfl, by decide +kernel⟩
theorem test_eventRecorder_6 : ∃ (s : State), s.recd.frozen = true ∧ s.recd.frozenAt + s.cfg REC_CFG_FREEZE_S * 1000000 ≤
    s.now :=
  ⟨{ up with recd := { up.recd with frozen := true }, now := 100000000000 }, by decide +kernel⟩
theorem test_eventRecorder_7 : ∃ (s : State) (p : Port) (d : Word) (u : State), s.accepted p 0x94200 d = some u :=
  ⟨own, .host, 5, acc own .host 0x94200 5, by decide +kernel⟩
theorem test_eventRecorder_8 : ∃ (s : State) (p : Port) (bad early : Bool) (r : RecRead) (t : State), s.recd.reads.find?
      (fun r => decide (r.reader = p)) = some r ∧ r.rseq < s.get REC_OLDEST_RSEQ ∧ t = s.setRecd { s.recd with
    reads := s.recd.reads.filter (fun q => decide (q.reader ≠ p)) } :=
  ⟨recRead 0 5, .host, false, false, ⟨.host, 0⟩, _, by decide +kernel, by decide +kernel, rfl⟩
theorem test_eventRecorder_9 : ∃ (s : State) (p : Port) (bad early : Bool) (r : RecRead) (x : RecRec) (t : State),
      s.recd.reads.find? (fun r => decide (r.reader = p)) = some r ∧ s.get REC_OLDEST_RSEQ ≤ r.rseq ∧ r.rseq ≤ s.get
      REC_NEWEST_RSEQ ∧ s.recordAt r.rseq = some (x, false) ∧ t = s.setRecd { s.recd with
    reads := s.recd.reads.filter (fun q => decide (q.reader ≠ p)) } :=
  ⟨recRead 6 5, .host, false, false, ⟨.host, 6⟩, aRec, _, by decide +kernel, by decide +kernel, by decide +kernel, by decide +kernel, rfl⟩
theorem test_atollCommands_1 : ∃ (s : State) (p : Port), s.portOpen p = true ∧ s.gated 0x80 = false ∧ s.winOffset p 0x820
    = atolC ∧ s.seqOf p = none :=
  ⟨atl, .host, by decide +kernel⟩
theorem test_atollCommands_2 : ∃ (s : State) (p : Port), s.portOpen p = true ∧ s.gated 0x80 = false ∧ s.winOffset p 0x820
    = atolC ∧ s.seqOf p = none :=
  ⟨atl, .host, by decide +kernel⟩
theorem test_atollCommands_3 : ∃ (s : State) (p : Port), s.portOpen p = true ∧ s.gated 0x80 = false ∧ s.winOffset p 0x820
    = atolC ∧ s.seqOf p = none :=
  ⟨atl, .host, by decide +kernel⟩
theorem test_atollCommands_4 : ∃ (s : State) (p : Port) (l : Nat), s.portOpen p = true ∧ s.gated 0x80 = false ∧
    s.winOffset p 0x820 = atolC ∧ s.seqOf p = none ∧ l < 3 :=
  ⟨atl, .host, 2, by decide +kernel⟩
theorem test_atollCommands_5 : ∃ (s : State) (p : Port) (t : State), s.portOpen p = true ∧ s.gated 0x80 = false ∧
    s.winOffset p 0x820 = atolC ∧ s.seqOf p = none ∧ s.atol.erase.isSome = true ∧ s.atol.halted = false ∧ s.atol.running =
    none ∧ t = (((s.put (ATOL_PSTAT_MODE.at p) 0).setAtol { s.atol with halted := true, bySave := false }).put
    ATOL_ARRAY_ERASING 0).put ATOL_ARRAY_SUSPENDED 1 :=
  ⟨erasing false, .host, _, by decide +kernel, by decide +kernel, by decide +kernel, by decide +kernel, by decide +kernel, by decide +kernel, by decide +kernel, rfl⟩
theorem test_atollCommands_6 : ∃ (s : State) (p : Port), s.portOpen p = true ∧ s.gated 0x80 = false ∧ s.winOffset p 0x820
    = atolC ∧ s.seqOf p = none ∧ s.atol.erase.isSome = true ∧ s.atol.halted = true ∧ s.atol.bySave = false :=
  ⟨erasing true, .host, by decide +kernel⟩
theorem test_atollCommands_7 : ∃ (s : State) (p : Port), s.portOpen p = true ∧ s.gated 0x80 = false ∧ s.winOffset p 0x820
    = atolC ∧ s.seqOf p = none :=
  ⟨atl, .host, by decide +kernel⟩
theorem test_atollCommands_8 : ∃ (s : State), s.flag TST_STAT_TEST_MODE = true :=
  ⟨up.put TST_STAT_TEST_MODE 1, by decide +kernel⟩
theorem test_atollCommands_9 : ∃ (s : State) (p : Port), p ≠ .tst ∧ s.portOpen p = true ∧ s.gated 0x80 = false ∧
    s.winOffset p 0x820 = atolC ∧ s.seqOf p = none :=
  ⟨atl, .host, by decide +kernel⟩
theorem test_atollCommands_10 : ∃ (s : State) (p : Port) (q : AtolSeq), s.portOpen p = true ∧ s.gated 0x80 = false ∧
    s.winOffset p 0x820 = atolC ∧ s.seqOf p = some q :=
  ⟨atl.setSeq .host (some ⟨0x22, 0, [], 0, 0⟩), .host, ⟨0x22, 0, [], 0, 0⟩, by decide +kernel⟩
theorem test_atollCommands_11 : ∃ (s : State) (p : Port) (o : Nat) (d : Word), s.portOpen p = true ∧ s.gated 0x80 = false
    :=
  ⟨atl, .host, 0xFBC, 5, by decide +kernel⟩
theorem test_atollCommands_12 : ∃ (s : State) (p : Port) (o c : Nat) (ue : Bool) (w : Nat), s.portOpen p = true ∧ s.gated
    0x80 = false ∧ w = 0x40 + o % 0xFC0 / 4 * 4 :=
  ⟨atl, .host, 0xFBC, 0, false, _, by decide +kernel, by decide +kernel, rfl⟩
theorem test_atollCommands_13 : ∃ (s : State) (p : Port) (q : AtolSeq), s.seqOf p = some q ∧ q.since + s.cfg
    ATOL_CFG_SEQ_TMO_US ≤ s.now :=
  ⟨{ atl.setSeq .host (some ⟨0x22, 0, [], 0, 0⟩) with now := 1000000000 }, .host, ⟨0x22, 0, [], 0, 0⟩, by decide +kernel⟩
theorem test_atollCommands_14 : ∃ (s : State) (n : Nat) (b : Bool) (o : AtolOp), s.atol.running = some o ∧ o.src ≠ 3 :=
  ⟨{ atl with atol := { atl.atol with running := some ⟨0, .swap⟩ } }, 1, true, ⟨0, .swap⟩, by decide +kernel⟩
theorem test_atollCommands_15 : ∃ (s : State) (b : Bool) (o : AtolOp), s.atol.erase = some o ∧ o.src ≠ 3 :=
  ⟨erasing false, true, ⟨0, .erase 450⟩, by decide +kernel⟩
theorem test_atollCommands_16 : ∃ (s : State), s.flag ATOL_PROT_WIPING = true ∧ s.saving = false :=
  ⟨up.put ATOL_PROT_WIPING 1, by decide +kernel⟩
theorem test_atollCommands_17 : ∃ (s : State) (b : Nat), s.flag TST_STAT_TEST_MODE = true :=
  ⟨up.put TST_STAT_TEST_MODE 1, 511, by decide +kernel⟩
theorem test_atollCommands_18 : ∃ (s : State) (b : Nat), s.flag TST_STAT_TEST_MODE = false :=
  ⟨up, 0, by decide +kernel⟩
theorem test_atollCommands_19 : ∃ (s : State) (w c : Nat) (ue : Bool) (o v : Nat) (t u : State) (x : Word), t = s.loadIr
    0x22 ∧ t.saving = false ∧ o = w % 2 ^ 25 / 4 * 4 ∧ o / 0x10000 < 480 ∧ t.mayRead .tst (o / 0x10000) = true ∧ (((t.put
    (ATOL_RD_STAT_CBITS.at .tst) 0).put (ATOL_RD_STAT_EARLY.at .tst) 0).arrayRead .tst o c ue) = (u, x) ∧ v = x.toNat +
    u.get (ATOL_RD_STAT_CBITS.at .tst) * 2 ^ 32 + u.get (ATOL_RD_STAT_EARLY.at .tst) * 2 ^ 36 + u.get (ATOL_RD_STAT_UE.at
    .tst) * 2 ^ 37 :=
  ⟨up, 0x1C00000, 0, false, _, _, _, _, _, rfl, by decide +kernel, rfl, by decide +kernel, by decide +kernel, rfl, rfl⟩
theorem test_localBus_1 : ∃ (s : State) (n : Nat), s.pollAllowed n = true ∧ Sparse.get (fun _ => 0) s.twl.doneAt n +
    s.pollInterval n ≤ s.now :=
  ⟨{ polling with now := 100000000000 }, 15, by decide +kernel⟩
theorem test_localBus_2 : ∃ (s : State) (w : TwlWork) (x : Twl), s.cfgOn TWL_CTRL_EN = true ∧ s.flag TWL_STAT_STUCK =
      false ∧ s.rst.phase ≠ .off ∧ s.twl.cur = none ∧ s.twlChoice = some w ∧ x = { s.twl with
    cur := some w, retries := 0, lost := false, due := (match w with
    | .poll n => dropNat s.twl.due n | _ => s.twl.due), araAt := (if w = .ara then some s.now else s.twl.araAt), glen := (if
      w = .glen then s.twl.glen - 1 else s.twl.glen) } :=
  ⟨{ polling with twl := { polling.twl with due := [15] } }, .poll 15, _, by decide +kernel, by decide +kernel, by decide +kernel, by decide +kernel, by decide +kernel, rfl⟩
theorem test_localBus_3 : ∃ (s : State) (w : TwlWork), s.cfgOn TWL_CTRL_EN = true ∧ s.flag TWL_STAT_STUCK = false ∧
    s.rst.phase ≠ .off ∧ s.twl.cur = some w ∧ s.twl.lost = true :=
  ⟨{ polling with twl := { polling.twl with cur := some .mgmt, lost := true } }, .mgmt, by decide +kernel⟩
theorem test_localBus_4 : ∃ (s : State) (b : List (BitVec 8)) (w : TwlWork), s.twl.cur = some w ∧ s.twl.lost = false :=
  ⟨{ polling with twl := { polling.twl with cur := some .mgmt } }, [], .mgmt, by decide +kernel⟩
theorem test_localBus_5 : ∃ (s : State) (w : TwlWork), s.twl.cur = some w ∧ s.twl.lost = false :=
  ⟨{ polling with twl := { polling.twl with cur := some .mgmt } }, .mgmt, by decide +kernel⟩
theorem test_localBus_6 : ∃ (s : State) (w : TwlWork), s.twl.cur = some w ∧ s.twl.lost = false :=
  ⟨{ polling with twl := { polling.twl with cur := some .mgmt } }, .mgmt, by decide +kernel⟩
theorem test_localBus_7 : ∃ (s : State) (k : Nat) (a g : Bool) (w : TwlWork), s.twl.cur = some w ∧ s.twl.lost = false :=
  ⟨{ polling with twl := { polling.twl with cur := some .mgmt } }, 0, true, false, .mgmt, by decide +kernel⟩
theorem test_localBus_8 : ∃ (s : State) (w : TwlWork), s.twl.cur = some w :=
  ⟨{ polling with twl := { polling.twl with cur := some .mgmt } }, .mgmt, by decide +kernel⟩
theorem test_localBus_9 : ∃ (s : State) (w : TwlWork) (u : State), s.twl.cur = some w ∧ u = (List.range 16).foldl (fun (u
    : State) n => if u.cfg (TWL_POLL_A_DEST n) ≠ 0 then u.put (TWL_RSTAT_OUTCOME n) 4 else u) ((s.twlFailed w 4).put
    TWL_STAT_STUCK 1) :=
  ⟨{ polling with twl := { polling.twl with cur := some .mgmt } }, .mgmt, _, by decide +kernel, rfl⟩
theorem test_localBus_11 : ∃ (s : State) (a v : Nat) (t : State), s.cfgOn TWL_CTRL_EN = true ∧ s.cfgOn TWL_CTRL_TARGET_EN
      = true ∧ s.twl.notifies.length < 8 ∧ t = (s.setTwl { s.twl with
    due := ((List.range 16).filter (fun n => decide (s.cfg (TWL_POLL_A_DEST n) = 1 ∧ s.cfg (TWL_POLL_A_ADDR n) = a %
      128))).foldl insertNat s.twl.due }).put TWL_STAT_TARGET 0 :=
  ⟨polling.put TWL_CTRL_TARGET_EN 1, 5, 6, _, by decide +kernel, by decide +kernel, by decide +kernel, rfl⟩
theorem test_localBus_12 : ∃ (s : State) (p : Port) (u : State), s.accepted p 0x98094 0 = some u :=
  ⟨own, .host, acc own .host 0x98094 0, by decide +kernel⟩
theorem test_localBus_14 : ∃ (s : State) (k : Nat), s.twl.araAt = some k ∧ s.twl.araBackoff = true ∧ k + 10000 ≤ s.now :=
  ⟨{ up with twl := { up.twl with araAt := some 0, araBackoff := true }, now := 10000 }, 0, by decide +kernel⟩
theorem test_localBus_15 : ∃ (s : State) (p : Port) (d : Word) (u : State), d = putBits (s.peek p 0x98060) 31 1 1 ∧
    s.accepted p 0x98060 d = some u ∧ bitOf d.toNat 31 = true ∧ u.saving = false ∧ u.twl.mgmt = none :=
  ⟨own, .host, _, accB own .host 0x98060 31 1 1, rfl, by decide +kernel, by decide +kernel, by decide +kernel, by decide +kernel⟩
theorem test_sidebandBus_1 : ∃ (s : State) (n a : Nat) (x y z : BitVec 8) (ws : List Word) (ok : Bool), s.sbListens = true
    ∧ 7 ≤ n ∧ n ≤ 35 ∧ (n - 3) % 4 = 0 ∧ z.toNat < 16 ∧ a = sbAddr x y z / 4 * 4 ∧ a % 0x1000 + 4 * ((n - 3) / 4) ≤ 0x1000 ∧
    s.sbGated (a / 0x1000) = false ∧ (s.cfgOn TWS_CFG_PEC_REQ = false ∨ ok = true) :=
  ⟨up, 7, _, 0x60, 0, 0, [5], true, by decide +kernel, by decide +kernel, by decide +kernel, by decide +kernel, by decide +kernel, rfl, by decide +kernel, by decide +kernel, by decide +kernel⟩
theorem test_sidebandBus_2 : ∃ (s : State) (n : Nat) (x y z : BitVec 8) (ws : List Word) (ok : Bool), s.sbListens = true ∧
    (n < 7 ∨ 35 < n ∨ (n - 3) % 4 ≠ 0) :=
  ⟨up, 6, 0, 0, 0, [], true, by decide +kernel⟩
theorem test_sidebandBus_3 : ∃ (s : State) (n : Nat) (x y z : BitVec 8) (ws : List Word) (ok : Bool), s.sbListens = true ∧
    7 ≤ n ∧ n ≤ 35 ∧ (n - 3) % 4 = 0 ∧ (16 ≤ z.toNat ∨ 0x1000 < sbAddr x y z / 4 * 4 % 0x1000 + 4 * ((n - 3) / 4)) :=
  ⟨up, 7, 0, 0, 16, [], true, by decide +kernel⟩
theorem test_sidebandBus_4 : ∃ (s : State) (n a : Nat) (x y z : BitVec 8) (ws : List Word) (ok : Bool), s.sbListens = true
    ∧ 7 ≤ n ∧ n ≤ 35 ∧ (n - 3) % 4 = 0 ∧ z.toNat < 16 ∧ a = sbAddr x y z / 4 * 4 ∧ a % 0x1000 + 4 * ((n - 3) / 4) ≤ 0x1000 ∧
    s.sbGated (a / 0x1000) = true :=
  ⟨up.put (PAGE_CTRL_CLK_GATE 0x5C) 1, 7, _, 0x60, 0xC0, 5, [5], true, by decide +kernel, by decide +kernel, by decide +kernel, by decide +kernel, by decide +kernel, rfl, by decide +kernel, by decide +kernel⟩
theorem test_sidebandBus_5 : ∃ (s : State) (a k : Nat) (x y z : BitVec 8) (t : State) (ws : List Word), s.sbListens = true
    ∧ z.toNat < 16 ∧ 1 ≤ k ∧ k ≤ 8 ∧ a = sbAddr x y z / 4 * 4 ∧ a % 0x1000 + 4 * k ≤ 0x1000 ∧ s.sbGated (a / 0x1000) = false
    ∧ State.readWords .sideband k s a = (t, ws) :=
  ⟨up, _, 8, 0x40, 0, 0, _, _, by decide +kernel, by decide +kernel, by decide +kernel, by decide +kernel, rfl, by decide +kernel, by decide +kernel, rfl⟩
theorem test_sidebandBus_6 : ∃ (s : State) (n k : Nat) (x y z : BitVec 8), s.sbListens = true ∧ n ≠ 4 :=
  ⟨up, 5, 1, 0, 0, 0, by decide +kernel⟩
theorem test_sidebandBus_7 : ∃ (s : State) (k : Nat) (x y z : BitVec 8), s.sbListens = true ∧ 16 ≤ z.toNat :=
  ⟨up, 1, 0, 0, 16, by decide +kernel⟩
theorem test_sidebandBus_8 : ∃ (s : State) (k : Nat) (x y z : BitVec 8), s.sbListens = true ∧ z.toNat < 16 ∧ (k = 0 ∨ 8 <
    k) :=
  ⟨up, 9, 0, 0, 0, by decide +kernel⟩
theorem test_sidebandBus_9 : ∃ (s : State) (ok : Bool), s.sbListens = true ∧ (s.cfgOn TWS_CFG_PEC_REQ = false ∨ ok = true)
    :=
  ⟨up, true, by decide +kernel⟩
theorem test_sidebandBus_10 : ∃ (s : State), s.sbListens = true ∧ s.flag TWS_STAT_ALERT = true ∧ s.cfgOn TWS_CFG_ARA_EN =
    true :=
  ⟨(up.put TWS_STAT_ALERT 1).put TWS_CFG_ARA_EN 1, by decide +kernel⟩
theorem test_sidebandBus_11 : ∃ (s : State), s.sbListens = true :=
  ⟨up, by decide +kernel⟩
theorem test_sidebandBus_12 : ∃ (s : State), s.sbListens = true :=
  ⟨up, by decide +kernel⟩
theorem test_sidebandBus_13 : ∃ (s : State) (k : Nat), s.sbListens = true ∧ k ≠ 1 ∧ k ≠ 2 ∧ k ≠ 0x0F :=
  ⟨up, 3, by decide +kernel⟩
theorem test_servicePort_1 : ∃ (s : State), s.rst.phase ≠ .off :=
  ⟨up, by decide +kernel⟩
theorem test_servicePort_2 : ∃ (s : State) (tag : Nat), s.rst.phase ≠ .off :=
  ⟨up, 5, by decide +kernel⟩
theorem test_servicePort_3 : ∃ (s : State) (tag : Nat) (t u : State), s.rst.phase ≠ .off ∧ t = s.bump SVC_FRAMES_COUNT ∧ u
    = t.drawn.svcAnswer 0 t.identPayload :=
  ⟨up, 5, _, _, by decide +kernel, rfl, rfl⟩
theorem test_servicePort_4 : ∃ (s : State) (tag : Nat) (t u : State), s.rst.phase ≠ .off ∧ t = s.bump SVC_FRAMES_COUNT ∧ u
    = t.svcAnswer 0 ([BitVec.ofNat 8 (t.get SVC_STAT_STATE), BitVec.ofNat 8 (t.get SVC_STAT_LAST_STATUS)] ++ leBytes 2
    t.svc.lastTag ++ leBytes 4 (t.get SVC_DONE_BYTES) ++ leBytes 4 (t.get SVC_TOTAL_BYTES) ++ leBytes 4 t.svc.body.length)
    :=
  ⟨up, 5, _, _, by decide +kernel, rfl, rfl⟩
theorem test_servicePort_5 : ∃ (s : State) (tag : Nat) (t u : State), s.rst.phase ≠ .off ∧ t = s.bump SVC_FRAMES_COUNT ∧ u
    = t.svcAnswer 0x04 [] :=
  ⟨up, 5, _, _, by decide +kernel, rfl, rfl⟩
theorem test_servicePort_6 : ∃ (s : State) (tag : Nat) (h : List (BitVec 8)) (t u : State), s.rst.phase ≠ .off ∧ t =
      s.bump SVC_FRAMES_COUNT ∧ t.svcRefusal (s.cfgOn SVC_CTRL_UPD_EN) false false = none ∧ t.cfgOn SVC_CTRL_UPD_EN = true ∧
      h.length = 256 ∧ t.svcFree = true ∧ t.atol.sel.updPend = false ∧ t.get RST_STAT_ISLE = t.atol.sel.active ∧ headerValid h
      t.mdl.romVer = true ∧ (packageOf h).baseLen ≤ 2097152 ∧ u = ((t.svcBegin 1 (packageOf h).targetLen { t.svc with
    rcv := false, pkg := packageOf h }).put SVC_TARGET_VER_VER (packageOf h).targetVer).svcAnswer 1 [] :=
  ⟨svcUp, 5, pkgHead, _, _, by decide +kernel, rfl, by decide +kernel, by decide +kernel, by decide +kernel, by decide +kernel, by decide +kernel, by decide +kernel, test_pkgHead, by decide +kernel, rfl⟩
theorem test_servicePort_7 : ∃ (s : State), s.get SVC_STAT_STATE = 1 :=
  ⟨up.put SVC_STAT_STATE 1, by decide +kernel⟩
theorem test_servicePort_8 : ∃ (s : State), s.get SVC_STAT_STATE = 2 ∧ s.srcBusy 3 = false :=
  ⟨up.put SVC_STAT_STATE 2, by decide +kernel⟩
theorem test_servicePort_9 : ∃ (s : State) (tag : Nat) (p b : List (BitVec 8)) (t u : State), s.rst.phase ≠ .off ∧ t =
      s.bump SVC_FRAMES_COUNT ∧ t.svcRefusal true false false = none ∧ 5 ≤ p.length ∧ p.length ≤ 4096 ∧ t.get SVC_STAT_STATE =
      3 ∧ t.svc.rcv = false ∧ field p 0 4 = t.svc.body.length ∧ t.svc.body.length + (p.drop 4).length ≤ t.svc.pkg.bodyLen ∧
      t.svc.waiting.length < 2 ∧ b = t.svc.body ++ p.drop 4 ∧ u = (((t.setSvc { t.svc with
    body := b, waiting := t.svc.waiting ++ [b.length] }).svcFeed).releaseBuffers).svcAnswer 0 [] :=
  ⟨svcData, 5, [0, 0, 0, 0, 7], _, _, _, by decide +kernel, rfl, by decide +kernel, by decide +kernel, by decide +kernel, by decide +kernel, by decide +kernel, by decide +kernel, by decide +kernel, by decide +kernel, rfl, rfl⟩
theorem test_servicePort_10 : ∃ (s : State) (tag : Nat) (t u : State), s.rst.phase ≠ .off ∧ t = s.bump SVC_FRAMES_COUNT ∧
    t.svcRefusal true false false = none ∧ t.get SVC_STAT_STATE = 3 ∧ t.svc.rcv = false ∧ t.svc.body.length =
    t.svc.pkg.bodyLen ∧ u = ((t.setSvc { t.svc with background := true }).put SVC_STAT_STATE 4).svcAnswer 1 [] :=
  ⟨svcData.setSvc { svcData.svc with pkg := { svcData.svc.pkg with bodyLen := 0 } }, 5, _, _, by decide +kernel, rfl, by decide +kernel, by decide +kernel, by decide +kernel, by decide +kernel, rfl⟩
theorem test_servicePort_11 : ∃ (s : State) (t : State), s.svcSettled = true ∧ s.svc.rcv = false ∧ (s.svcTarget
      s.svc.body.length).2 = .ended ∧ (crc32c s.svc.body).toNat = s.svc.pkg.bodyCrc ∧ t = ((s.setSvc { s.svc with
    background := false }).put SVC_STAT_STATE 5).put SVC_STAT_LAST_STATUS 0 :=
  ⟨svcCheck, _, by decide +kernel, by decide +kernel, by decide +kernel, by decide +kernel, rfl⟩
theorem test_servicePort_12 : ∃ (s : State) (tag : Nat) (v : State) (t u : State), s.rst.phase ≠ .off ∧ t = s.bump
    SVC_FRAMES_COUNT ∧ t.svcRefusal true false false = none ∧ t.get SVC_STAT_STATE = 5 ∧ t.isleBusy = false ∧ v =
    (t.bootSwap 3).put SVC_STAT_STATE 7 ∧ u = ((v.raiseInt 0x9C 2).eventNo 0x9C 0x0904 [v.atol.sel.active, 1]).svcAnswer 0
    [BitVec.ofNat 8 v.atol.sel.active] :=
  ⟨svcUp.put SVC_STAT_STATE 5, 5, _, _, _, by decide +kernel, rfl, by decide +kernel, by decide +kernel, by decide +kernel, rfl, rfl⟩
theorem test_servicePort_13 : ∃ (s : State) (tag : Nat) (t u : State), s.rst.phase ≠ .off ∧ t = s.bump SVC_FRAMES_COUNT ∧
    t.svcRefusal true true true = none ∧ 1 ≤ t.get SVC_STAT_STATE ∧ t.get SVC_STAT_STATE ≤ 4 ∧ u = (t.svcFail
    0x0D).svcAnswer 0 [] :=
  ⟨svcUp.put SVC_STAT_STATE 4, 5, _, _, by decide +kernel, rfl, by decide +kernel, by decide +kernel, by decide +kernel, rfl⟩
theorem test_servicePort_14 : ∃ (s : State) (tag : Nat) (p : List (BitVec 8)) (t u : State), s.rst.phase ≠ .off ∧ t =
      s.bump SVC_FRAMES_COUNT ∧ t.svcRefusal false true false = none ∧ p.length = 8 ∧ 4096 ≤ field p 0 4 ∧ field p 0 4 ≤
      2097152 ∧ t.svcFree = true ∧ u = ((t.svcBegin 2 (field p 0 4) { t.svc with
    rcv := true, imgCrc := field p 4 4 }).eraseTarget).svcAnswer 1 [] :=
  ⟨recov, 5, [0, 0x10, 0, 0, 1, 0, 0, 0], _, _, by decide +kernel, rfl, by decide +kernel, by decide +kernel, by decide +kernel, by decide +kernel, by decide +kernel, rfl⟩
theorem test_servicePort_15 : ∃ (s : State) (tag : Nat) (p b : List (BitVec 8)) (t u : State), s.rst.phase ≠ .off ∧ t =
      s.bump SVC_FRAMES_COUNT ∧ t.svcRefusal false true false = none ∧ 5 ≤ p.length ∧ p.length ≤ 4096 ∧ t.get SVC_STAT_STATE =
      3 ∧ t.svc.rcv = true ∧ field p 0 4 = t.svc.body.length ∧ t.svc.body.length + (p.drop 4).length ≤ t.get SVC_TOTAL_BYTES ∧
      t.svc.waiting.length < 2 ∧ b = t.svc.body ++ p.drop 4 ∧ u = (((t.setSvc { t.svc with
    body := b, waiting := t.svc.waiting ++ [b.length] }).svcFeed).releaseBuffers).svcAnswer 0 [] :=
  ⟨rcvIn 4096, 5, [0, 0, 0, 0, 7], _, _, _, by decide +kernel, rfl, by decide +kernel, by decide +kernel, by decide +kernel, by decide +kernel, by decide +kernel, by decide +kernel, by decide +kernel, by decide +kernel, rfl, rfl⟩
theorem test_servicePort_16 : ∃ (s : State) (tag : Nat) (t u : State), s.rst.phase ≠ .off ∧ t = s.bump SVC_FRAMES_COUNT ∧
    t.svcRefusal false true false = none ∧ t.get SVC_STAT_STATE = 3 ∧ t.svc.rcv = true ∧ t.svc.body.length = t.get
    SVC_TOTAL_BYTES ∧ u = ((t.setSvc { t.svc with background := true }).put SVC_STAT_STATE 4).svcAnswer 1 [BitVec.ofNat 8
    t.svc.target] :=
  ⟨rcvIn 0, 5, _, _, by decide +kernel, rfl, by decide +kernel, by decide +kernel, by decide +kernel, by decide +kernel, rfl⟩
theorem test_servicePort_17 : ∃ (s : State) (t : State), s.svcSettled = true ∧ s.svc.rcv = true ∧ (crc32c (s.isleBytes
      s.svc.target (s.get SVC_TOTAL_BYTES))).toNat = s.svc.imgCrc ∧ t = (((s.bootSwap 3).setSvc { s.svc with
    background := false }).put SVC_STAT_STATE 7).put SVC_STAT_LAST_STATUS 0 :=
  ⟨rcvCheck, _, by decide +kernel, by decide +kernel, by decide +kernel, rfl⟩
theorem test_servicePort_18 : ∃ (s : State) (tag l : Nat) (p : List (BitVec 8)) (t u : State), s.rst.phase ≠ .off ∧ t =
    s.bump SVC_FRAMES_COUNT ∧ t.svcRefusal (s.cfgOn SVC_CTRL_PROT_EN) true false = none ∧ (t.svcMode = 1 ∨ t.cfgOn
    SVC_CTRL_PROT_EN = true) ∧ p.length = 4 ∧ field p 0 4 = 0x4C560000 + l ∧ t.protLevel < l ∧ l ≤ 2 ∧ t.srcBusy 3 = false ∧
    u = ((t.eventNo 0x9C 0x0906 [t.protLevel, l]).protect 3 l).svcAnswer 0 [] :=
  ⟨recov, 5, 1, [1, 0, 0x56, 0x4C], _, _, by decide +kernel, rfl, by decide +kernel, by decide +kernel, by decide +kernel, by decide +kernel, by decide +kernel, by decide +kernel, by decide +kernel, rfl⟩
theorem test_servicePort_19 : ∃ (s : State) (tag : Nat) (p : List (BitVec 8)) (t u : State), s.rst.phase ≠ .off ∧ t =
    s.bump SVC_FRAMES_COUNT ∧ t.svcRefusal false true false = none ∧ p.length = 4 ∧ field p 2 2 ≠ 0 ∧ field p 0 2 + field p
    2 2 ≤ 480 ∧ u = t.svcAnswer 0 ((List.range (field p 2 2)).flatMap (fun k => leBytes 4 (t.atolBlk (field p 0 2 + k)).ec))
    :=
  ⟨recov, 5, [0xDF, 1, 1, 0], _, _, by decide +kernel, rfl, by decide +kernel, by decide +kernel, by decide +kernel, by decide +kernel, rfl⟩
theorem test_powerStates_1 : ∃ (s : State) (p : Port) (u : State), s.accepted p 0x3040 (putBits (s.peek p 0x3040) 0 2 1) =
    some u :=
  ⟨own, .host, accB own .host 0x3040 0 2 1, by decide +kernel⟩
theorem test_powerStates_2 : ∃ (s : State) (p : Port) (u : State), s.accepted p 0x3040 (putBits (s.peek p 0x3040) 0 2 2) =
    some u :=
  ⟨own, .host, accB own .host 0x3040 0 2 2, by decide +kernel⟩
theorem test_powerStates_3 : ∃ (s : State) (p : Port) (u : State), s.accepted p 0x3040 (putBits (s.peek p 0x3040) 0 2 0) =
    some u :=
  ⟨own, .host, accB own .host 0x3040 0 2 0, by decide +kernel⟩
theorem test_powerStates_4 : ∃ (s : State) (k : Nat), s.pwr.l1Since = some k ∧ s.served = true ∧ s.cfgOn
    PWR_MODE_AUTO_TERRACE = true ∧ k + s.cfg PWR_CFG_TERRACE_IDLE_US ≤ s.now ∧ s.get PWR_STAT_STATE = 0 :=
  ⟨{ own.put PWR_MODE_AUTO_TERRACE 1 with pwr := { own.pwr with l1Since := some 0 }, now := 100000000 }, 0, by decide +kernel⟩
theorem test_powerStates_5 : ∃ (s : State), s.pwr.entering = some 1 ∧ s.served = true ∧ s.pwr.switching = false ∧
    s.atStopPoint 1 = true :=
  ⟨{ own with pwr := { own.pwr with entering := some 1 } }, by decide +kernel⟩
theorem test_powerStates_6 : ∃ (s : State), s.pwr.entering = some 2 ∧ s.served = true ∧ s.pwr.switching = false ∧
    s.atStopPoint 2 = true :=
  ⟨{ own with pwr := { own.pwr with entering := some 2 } }, by decide +kernel⟩
theorem test_powerStates_7 : ∃ (s : State) (k : Nat) (t u : State), s.pwr.entering = some k ∧ s.pwr.switching = true ∧ t =
    (s.setPwr { s.pwr with entering := none, switching := false, enteredAt := s.now }).put PWR_STAT_ENTERING 0 ∧ u = (if k =
    2 then t.toBasin else t.toTerrace) :=
  ⟨entering1, 1, _, _, by decide +kernel, by decide +kernel, rfl, rfl⟩
theorem test_powerStates_8 : ∃ (s : State) (d k : Nat) (t : State), s.pwr.entering = some k ∧ s.pwr.switching = true ∧ t =
    (((s.setPwr { s.pwr with entering := none, switching := false, wakeCode := none }).settleScopes).put PWR_STAT_ENTERING
    0).put PWR_STAT_WAKE_LATCHED 0 :=
  ⟨entering1, 3, 1, _, by decide +kernel, by decide +kernel, rfl⟩
theorem test_powerStates_9 : ∃ (s : State) (t : State), s.flag PWR_STAT_EXITING = true ∧ t = (List.range 4).foldl (fun (v
    : State) k => v.put (GLC_STAT_STATE k) 1) (if s.get PWR_STAT_STATE = 2 then s.fromBasin else s) :=
  ⟨(up.put PWR_STAT_EXITING 1).put PWR_STAT_STATE 1, _, by decide +kernel, rfl⟩
theorem test_backgroundUpkeep_1 : ∃ (s : State) (n : Nat) (t : State), s.upkeepRuns 0x5C = true ∧ s.dscr.due ≠ 0 ∧ n =
      s.get64 DSCR_POS_LO_ADDR / 64 ∧ s.isRestored (n / 1024) = true ∧ n + 1 < s.mdl.scrubLines ∧ t = s.setDscr { s.dscr with
    due := s.dscr.due - 1 } :=
  ⟨upk0x5C, 0, _, by decide +kernel, by decide +kernel, by decide +kernel, by decide +kernel, by decide +kernel, rfl⟩
theorem test_backgroundUpkeep_2 : ∃ (s : State), s.dscr.roundOpen = true ∧ s.dscr.lateRaised = false ∧ s.gated 0x5C =
    false ∧ s.cfg DSCR_CFG_ROUND_H * 3600000000 * 9 / 8 < s.now - s.dscr.roundBegan :=
  ⟨{ own with dscr := { own.dscr with roundOpen := true }, now := 10000000000000000 }, by decide +kernel⟩
theorem test_backgroundUpkeep_3 : ∃ (s : State) (r : Bool) (l : List Nat) (t : State), s.upkeepRuns 0xA0 = true ∧ s.flag
    UPK_STAT_RET_RUN = false ∧ (if r then s.upk.retFirst = true ∧ s.get RSTR_STAT_PHASE = 4 else s.upk.retAt + s.cfg
    UPK_SCAN_RET_DAYS * dayUs ≤ s.now) ∧ (l = ((s.farr.blocks.filter (fun e => decide (e.2.bstate = 1 ∨ e.2.bstate = 2) &&
    (s.liveIn (s.skerryOf (e.1 / 1048576) (e.1 / 65536 % 16) (e.1 % 16384))).isSome)).map (·.1)).flatMap (fun k => [k, k,
    k])) ∧ t = s.setUpk { s.upk with scan := l, retAt := s.now, retFirst := false } :=
  ⟨upkA0, false, _, _, by decide +kernel, by decide +kernel, by decide +kernel, rfl, rfl⟩
theorem test_backgroundUpkeep_4 : ∃ (s : State), s.flag UPK_STAT_RET_RUN = true ∧ s.flag UPK_STAT_SCAN_LATE = false ∧
    s.gated 0xA0 = false ∧ s.upk.retAt + s.cfg UPK_SCAN_RET_DAYS * dayUs < s.now :=
  ⟨upkA0.put UPK_STAT_RET_RUN 1, by decide +kernel⟩
theorem test_backgroundUpkeep_5 : ∃ (s : State) (sc l : Nat), s.hasRank sc l = true ∧ s.calDue (zqKey sc l) (s.cfg
    UPK_CAL_ZQ_MS * 1000) = true :=
  ⟨upkA0, 3, 0, by decide +kernel⟩
theorem test_backgroundUpkeep_6 : ∃ (s : State) (sc l d : Nat), s.hasRank sc l = true ∧ s.calDue (oscKey sc l) (s.cfg
    UPK_CAL_OSC_MS * 1000) = true ∧ d ≤ s.cfg UPK_CAL2_DRIFT_PS :=
  ⟨upkA0, 3, 0, 0, by decide +kernel⟩
theorem test_backgroundUpkeep_7 : ∃ (s : State) (c d p g x y z k lv : Nat) (t : State), c < 16 ∧ (s.die c d).st = 1 ∧
    s.calDue (fcalKey c d p g) (s.cfg UPK_CAL2_FCAL_H * 3600000000) = true ∧ k = levelKey c d p g (s.block c d p (g *
    16)).slc ∧ lv = Sparse.get (fun _ => 0) s.farr.levels k ∧ t = (s.calRun (fcalKey c d p g) s.pers.tj).bump64By
    (FCH_RD_LO_COUNT c) (if lv = 0 then 2 else 3) :=
  ⟨upkA0.setDie 0 0 { noDie with st := 1 }, 0, 0, 0, 0, 0, 0, 0, _, _, _, by decide +kernel, by decide +kernel, by decide +kernel, rfl, rfl, rfl⟩
theorem test_backgroundUpkeep_8 : ∃ (s : State) (c : Nat), c < 16 ∧ (List.range 16).all (fun d => (s.die c d).busy.isNone)
    = true ∧ s.calDue (onfiKey c) dayUs = true :=
  ⟨upkA0, 15, by decide +kernel⟩
theorem test_backgroundUpkeep_9 : ∃ (s : State), s.cfg UPK_CAP_CAP_DAYS ≠ 0 ∧ s.upk.capRefused = false ∧ s.upk.capAt +
    s.cfg UPK_CAP_CAP_DAYS * dayUs ≤ s.now ∧ s.flag UPK_STAT_CAP_RUN = false ∧ s.upkeepRuns 0xA0 = true :=
  ⟨upkA0, by decide +kernel⟩
theorem test_backgroundUpkeep_10 : ∃ (s : State) (p : Port) (d : Word) (u : State), d = putBits (s.peek p 0xA004C) 8 1 1 ∧
    s.accepted p 0xA004C d = some u ∧ bitOf d.toNat 8 = true :=
  ⟨own, .host, _, accB own .host 0xA004C 8 1 1, rfl, by decide +kernel, by decide +kernel⟩
theorem test_backgroundUpkeep_11 : ∃ (s : State), s.flag UPK_STAT_CAP_RUN = true ∧ s.upk.capStart + s.cfg
    UPK_CAP2_CAP_MAX_S * 1000000 ≤ s.now :=
  ⟨upkA0.put UPK_STAT_CAP_RUN 1, by decide +kernel⟩
theorem test_backgroundUpkeep_12 : ∃ (s : State) (l : List (Nat × Nat × Nat)) (w : Sparse (List Nat)) (t : State),
    s.upkeepRuns 0xA0 = true ∧ s.upk.wearAt + dayUs ≤ s.now ∧ l = (s.farr.dies.filter (fun e => decide (e.2.st = 1))).map
    (fun e => (e.1, s.lifeOf (e.1 / 16) (e.1 % 16))) ∧ w = l.foldl (fun m e => Sparse.set (fun _ => []) m e.1 ((lifeU e.2 ::
    Sparse.get (fun _ => []) m e.1).take 8)) s.upk.wear ∧ t = s.setUpk { s.upk with wearAt := s.now, wear := w } ∧ limiting
    l = none :=
  ⟨{ upkA0 with farr := { upkA0.farr with dies := [] } }, _, _, _, by decide +kernel, by decide +kernel, rfl, rfl, rfl, by decide +kernel⟩
theorem test_backgroundUpkeep_13 : ∃ (s : State) (l : List (Nat × Nat × Nat)) (w : Sparse (List Nat)) (t : State) (e : Nat
      × Nat × Nat) (n : Nat), s.upkeepRuns 0xA0 = true ∧ s.upk.wearAt + dayUs ≤ s.now ∧ l = (s.farr.dies.filter (fun e =>
      decide (e.2.st = 1))).map (fun e => (e.1, s.lifeOf (e.1 / 16) (e.1 % 16))) ∧ w = l.foldl (fun m e => Sparse.set (fun _
      => []) m e.1 ((lifeU e.2 :: Sparse.get (fun _ => []) m e.1).take 8)) s.upk.wear ∧ t = s.setUpk { s.upk with
    wearAt := s.now, wear := w } ∧ limiting l = some e ∧ n = wearDays (lifeU e.2) ((Sparse.get (fun _ => []) w e.1)[7]?) :=
  ⟨upkA0.setDie 0 0 { noDie with st := 1 }, _, _, _, (0, (upkA0.setDie 0 0 { noDie with st := 1 }).lifeOf 0 0), _, by decide +kernel, by decide +kernel, rfl, rfl, rfl, by decide +kernel, rfl⟩
theorem test_backgroundUpkeep_14 : ∃ (s : State) (tj : Int) (mw : Nat), s.upkeepRuns 0xA1 = true ∧ s.upk.telAt + s.cfg
    TEL_CFG_TEL_MS * 1000 ≤ s.now :=
  ⟨upkA0, 0, 0, by decide +kernel⟩
theorem test_backgroundUpkeep_15 : ∃ (s : State) (p : Port) (u : State), s.accepted p 0x5C0C4 0 = some u :=
  ⟨own, .host, acc own .host 0x5C0C4 0, by decide +kernel⟩
theorem test_testAccess_2 : ∃ (s : State) (pins : Nat) (v : Option Nat) (t : State), s.saving = false ∧ t = (s.put
    TST_STAT_IR 0x00).enterTest :=
  ⟨up, 0, none, _, by decide +kernel, rfl⟩
theorem test_testAccess_3 : ∃ (s : State) (pins : Nat) (v : Option Nat) (t : State), s.saving = true ∧ t = s.put
    TST_STAT_IR 0x00 :=
  ⟨{ up with save := { up.save with run := some aRun } }, 0, none, _, by decide +kernel, rfl⟩
theorem test_testAccess_4 : ∃ (s : State) (pins : Nat) (v : Option Nat) (t : State), s.saving = false ∧ t = (s.put
    TST_STAT_IR 0x08).enterTest :=
  ⟨up, 0, none, _, by decide +kernel, rfl⟩
theorem test_testAccess_5 : ∃ (s : State) (pins : Nat) (v : Option Nat) (t : State), s.saving = false ∧ t = (s.put
    TST_STAT_IR 0x09).enterTest :=
  ⟨up, 0, none, _, by decide +kernel, rfl⟩
theorem test_testAccess_6 : ∃ (s : State) (t : State), s.saving = false ∧ t = (s.put TST_STAT_IR 0x04).enterTest :=
  ⟨up, _, by decide +kernel, rfl⟩
theorem test_testAccess_7 : ∃ (s : State) (t : State), s.saving = false ∧ t = (s.put TST_STAT_IR 0x05).enterTest :=
  ⟨up, _, by decide +kernel, rfl⟩
theorem test_testAccess_8 : ∃ (s : State) (pins : Nat) (t : State), t = s.put TST_STAT_IR 0x01 :=
  ⟨up, 0, _, rfl⟩
theorem test_testAccess_9 : ∃ (s : State) (pins : Nat) (v : Option Nat) (t : State), t = s.put TST_STAT_IR 0x02 :=
  ⟨up, 0, none, _, rfl⟩
theorem test_testAccess_10 : ∃ (s : State) (t : State), t = s.put TST_STAT_IR 0x03 :=
  ⟨up, _, rfl⟩
theorem test_testAccess_11 : ∃ (s : State) (t : State), t = s.put TST_STAT_IR 0x21 :=
  ⟨up, _, rfl⟩
theorem test_testAccess_12 : ∃ (s : State) (t u : State), t = s.put TST_STAT_IR 0x20 ∧ u = ((t.setTst { t.tst with
    waiting := none }).put TST_STAT_HELD 0).leaveTest :=
  ⟨up, _, _, rfl, rfl⟩
theorem test_testAccess_13 : ∃ (s : State) (k : Nat) (t : State), k < 256 ∧ [0x00, 0x01, 0x02, 0x03, 0x04, 0x05, 0x08,
    0x09, 0x20, 0x21, 0x22, 0x23].contains k = false ∧ t = s.put TST_STAT_IR k :=
  ⟨up, 0xFF, _, by decide +kernel, by decide +kernel, rfl⟩

/-! ### Well-formedness: a term for each check that the check refuses, and one that it lets through -/

theorem test_illFormed0 : ([ .passTick ⟨[65], [], [], 0, 0, 0, 0, [], []⟩
  , .passTick ⟨[], [], [(5, 0)], 0, 0, 0, 0, [], []⟩
  , .passTick ⟨[], [], [(0, 65)], 0, 0, 0, 0, [], []⟩
  , .passTick ⟨[], [], [], 0, 0, 0, 0, [(16, 0)], []⟩
  , .passTick ⟨[], [], [], 0, 0, 0, 0, [], [(2, 0, 0)]⟩
  , .registerWrite .tst 0 0 0
  , .registerWrite .host 0x100000 0 0
  , .registerWrite .host 2 0 0
  , .registerWrite .host 0 16 0
  , .counterLoRead .tst 0
  , .counterLoRead .host 0x100000
  , .counterLoRead .host 2
  , .rcRead .tst 0
  , .rcRead .host 0x100000
  , .rcRead .host 2
  , .semClaim 64 [.host]
  , .semClaim 0 []
  , .semClaim 0 [.tst]
  , .semRelease .tst 0 1
  , .semRelease .host 64 1
  , .semRelease .host 0 0
  , .semRelease .host 0 4
  , .semBreak .tst 0 1
  , .semBreak .host 64 1
  , .semBreak .host 0 0
  , .semBreak .host 0 4
  , .semLeaseExpiry 64
  , .shadowArm .tst 0
  , .shadowArm .host 256
  , .shadowDiscard .tst 0
  , .shadowDiscard .host 256
  , .softRst .tst 0
  , .softRst .host 256
  , .clkGate .tst 0 true
  , .clkGate .host 256 true
  , .pageEn .tst 0 true
  , .pageEn .host 256 true
  , .intForce .tst 0 0
  , .intForce .host 256 0
  , .errForce .tst 0 0 ] : List Instr).all (fun i => !i.wf) = true := by decide +kernel
theorem test_illFormed1 : ([ .errForce .host 256 0
  , .mgpEoi .tst 0
  , .mgpEoi .host (2 ^ 32)
  , .cxlMemWrite 4 0 0 0 0 true
  , .cxlMemWrite 0 (2 ^ 46) 0 0 0 true
  , .cxlMemWrite 0 0 (2 ^ 16) 0 0 true
  , .cxlMemRead 4 0 0
  , .cxlMemRead 0 (2 ^ 46) 0
  , .cxlMemRead 0 0 (2 ^ 16)
  , .budgetCompute (-129)
  , .budgetCompute 128
  , .persBarPost .tst 0
  , .persQIslet .tst 0
  , .persQIslet .host (2 ^ 32)
  , .shadowReadEnd (2 ^ 32)
  , .pfailGlitch 0
  , .pfailGlitch 256
  , .railOutOfBand 0
  , .railOutOfBand 12
  , .dramTrainingDone [4] true []
  , .dramTrainingDone [] true [4]
  , .faultInDone (2 ^ 32) 0 0 [] true
  , .faultInDone 0 0 0 [1024] true
  , .restoreIsletDone true 0 [1024]
  , .flashOpEnqueue 16 ⟨.demand, .read, 0, [0], 0, 0, false, 0⟩
  , .flashOpEnqueue 0 ⟨.demand, .read, 16, [0], 0, 0, false, 0⟩
  , .flashOpEnqueue 0 ⟨.demand, .read, 0, [4], 0, 0, false, 0⟩
  , .flashOpEnqueue 0 ⟨.demand, .read, 0, [0], 2 ^ 14, 0, false, 0⟩
  , .resumeWindowExpiry 16 0
  , .resumeWindowExpiry 0 16
  , .flashReadDone 16 0 0 0 ⟨0, 0, ⟨none, 0, 0⟩, [], none, false, false⟩ true true
  , .flashReadDone 0 16 0 0 ⟨0, 0, ⟨none, 0, 0⟩, [], none, false, false⟩ true true
  , .flashReadDone 0 0 4 0 ⟨0, 0, ⟨none, 0, 0⟩, [], none, false, false⟩ true true
  , .flashReadDone 0 0 0 (2 ^ 14) ⟨0, 0, ⟨none, 0, 0⟩, [], none, false, false⟩ true true
  , .flashReadDone 0 0 0 0 ⟨0, 4, ⟨none, 0, 0⟩, [], none, false, false⟩ true true
  , .flashProgramDone 16 0 true 0
  , .flashProgramDone 0 16 true 0
  , .flashEraseDone 16 0 ⟨true, 0⟩
  , .flashEraseDone 0 16 ⟨true, 0⟩
  , .dieReadyTimeout 16 0 true ] : List Instr).all (fun i => !i.wf) = true := by decide +kernel
theorem test_illFormed2 : ([ .dieReadyTimeout 0 16 true
  , .fchRetrain .tst 0
  , .fchRetrain .host 16
  , .flashChannelTrained 16 true []
  , .flashChannelTrained 0 true (List.replicate 17 none)
  , .farrQBlock .tst 0
  , .movStart .tst 0
  , .movStart .host 32
  , .movAbort .tst 0
  , .movAbort .host 32
  , .move 32
  , .spread 32
  , .loop 32
  , .wait 32
  , .signal 32 0
  , .signal 0 3000
  , .halt 32 0
  , .halt 0 3000
  , .nop 32
  , .illegal 32 0
  , .illegal 0 3000
  , .pcRange 32 0
  , .pcRange 0 3000
  , .pmUe 32 0
  , .pmUe 0 3000
  , .moverTransferDone 32 none 0
  , .moverTransferDone 0 none 16
  , .waitEnd 32
  , .waitTimeout 32 0
  , .waitTimeout 0 3000
  , .pmDataHiWrite .tst 0
  , .pmDataLoRead .tst
  , .pmDataHiRead .tst
  , .collectorDrain 3000
  , .mvgCpop .tst
  , .dramReadDone (2 ^ 46) .host .clean 0
  , .dramReadDone 0 .host (.corrected [] false) 0
  , .dramReadDone 0 .host (.corrected [80] false) 0
  , .dramReadDone 0 .host (.corrected [1, 1] false) 0
  , .dramReadDone 0 .host (.corrected [0, 1, 2, 3, 4, 5, 6, 7, 8, 9, 10, 11, 12] false) 0 ] : List Instr).all (fun i => !i.wf) = true := by decide +kernel
theorem test_illFormed3 : ([ .repairWrite (2 ^ 46)
  , .refreshDue 4 0 true
  , .refreshDue 0 16 true
  , .mr4Poll 2 true
  , .rankPowerDown 2 0 true
  , .rankPowerDown 0 2 true
  , .caParityAlert 4
  , .caAlertClear 4
  , .inPlaceRetrainDone 4 true
  , .dtrnGo .tst
  , .dtrnStop .tst
  , .dtrnDone (2 ^ 16) 0
  , .linkUp 4 true []
  , .linkUp 0 true [⟨16, 0, 0⟩]
  , .configRequest (.vectorMask 32 true)
  , .decoderCommit 4 0 0 0 0 0
  , .decoderCommit 0 (2 ^ 64) 0 0 0 0
  , .decoderCommit 0 0 (2 ^ 64) 0 0 0
  , .decoderCommit 0 0 0 (2 ^ 64) 0 0
  , .decoderCommit 0 0 0 0 16 0
  , .decoderCommit 0 0 0 0 0 16
  , .getEventRecords 256
  , .clearEventRecords 256 true []
  , .setEventInterruptPolicy (List.replicate 5 0)
  , .setTimestamp (2 ^ 64)
  , .getLog (List.replicate 17 0) 0 0
  , .getLog (List.replicate 16 0) (2 ^ 32) 0
  , .getLog (List.replicate 16 0) 0 (2 ^ 32)
  , .setAlertConfig (List.replicate 13 0)
  , .setShutdownState 256
  , .getPoisonList (2 ^ 64) 0
  , .getPoisonList 0 (2 ^ 64)
  , .injectPoison (2 ^ 64)
  , .clearPoison (2 ^ 64) 0
  , .barrierPost (2 ^ 32)
  , .barrierStatus (2 ^ 16)
  , .formatArray (2 ^ 32) 0 0 0
  , .formatArray 0 (2 ^ 32) 0 0
  , .formatArray 0 0 (2 ^ 32) 0
  , .formatArray 0 0 0 (2 ^ 32) ] : List Instr).all (fun i => !i.wf) = true := by decide +kernel
theorem test_illFormed4 : ([ .keyExport 256 0
  , .straitPortTrained 2 0 true
  , .straitPortTrained 0 8 true
  , .heartbeat { hd with port := 2 } (List.replicate 24 0)
  , .heartbeat { hd with src := 8 } (List.replicate 24 0)
  , .heartbeat { hd with hops := 256 } (List.replicate 24 0)
  , .heartbeat { hd with seq := 256 } (List.replicate 24 0)
  , .heartbeat { hd with dst := some 8 } (List.replicate 24 0)
  , .heartbeat hd (List.replicate 25 0)
  , .probe { hd with port := 2 } 0
  , .echo { hd with port := 2 } (List.replicate 24 0) 0
  , .echo hd (List.replicate 25 0) 0
  , .tickSync { hd with port := 2 } (List.replicate 24 0) 0 0 0
  , .tickSync hd (List.replicate 25 0) 0 0 0
  , .memberInfo { hd with port := 2 } (List.replicate 24 0)
  , .memberInfo hd (List.replicate 25 0)
  , .share { hd with port := 2 } (List.replicate 24 0)
  , .share hd (List.replicate 25 0)
  , .tailDone { hd with port := 2 } (List.replicate 24 0)
  , .tailDone hd (List.replicate 25 0)
  , .close { hd with port := 2 } (List.replicate 24 0)
  , .close hd (List.replicate 25 0)
  , .sealedFrame { hd with port := 2 } (List.replicate 24 0)
  , .sealedFrame hd (List.replicate 25 0)
  , .groupSealed { hd with port := 2 } (List.replicate 24 0)
  , .groupSealed hd (List.replicate 25 0)
  , .straitSave { hd with port := 2 }
  , .saveStart { hd with port := 2 } (List.replicate 24 0)
  , .saveStart hd (List.replicate 25 0)
  , .saveEnd { hd with port := 2 } (List.replicate 24 0)
  , .saveEnd hd (List.replicate 25 0)
  , .imageStatusFrame { hd with port := 2 } (List.replicate 24 0)
  , .imageStatusFrame hd (List.replicate 25 0)
  , .groupPoint { hd with port := 2 } (List.replicate 24 0)
  , .groupPoint hd (List.replicate 25 0)
  , .masterClaim { hd with port := 2 } (List.replicate 24 0)
  , .masterClaim hd (List.replicate 25 0)
  , .eventFrame { hd with port := 2 } (List.replicate 24 0)
  , .eventFrame hd (List.replicate 25 0)
  , .peerSilent 8 true ] : List Instr).all (fun i => !i.wf) = true := by decide +kernel
theorem test_illFormed5 : ([ .strtRetrain .tst
  , .pllLock 6
  , .pllUnlock 6
  , .powerOnReset (some (4))
  , .rstKey .tst 0
  , .devRst .tst
  , .faultDetect 256 0 0 0 0 0 true
  , .faultDetect 0 32 0 0 0 0 true
  , .faultDetect 0 0 64 0 0 0 true
  , .faultDetect 0 0 0 (2 ^ 48) 0 0 true
  , .faultDetect 0 0 0 0 3000 0 true
  , .blockResetDone (.block 256) true
  , .blockResetDone (.domain 9) true
  , .blockResetDone (.core 4) true
  , .resetOverrun 256
  , .resetStuck 9
  , .resetShadowEnd (.block 256) 0
  , .resetShadowEnd (.domain 9) 0
  , .resetShadowEnd (.core 4) 0
  , .glenWdog 4 0
  , .glenWdog 0 3000
  , .glenRestartDone 4 0
  , .fltPop .tst
  , .fltFirstClr .tst
  , .recEvent 256 0 true []
  , .recEvent 0 (2 ^ 16) true []
  , .recEvent 0 0 true (List.replicate 8 0)
  , .flush .tst
  , .freeze .tst true
  , .recRdSeq .tst 0
  , .recReadDone .tst true true
  , .atolProgram .tst
  , .atolErase .tst
  , .atolHalt .tst
  , .atolContinue .tst
  , .atolStatus .tst
  , .atolCounts .tst
  , .atolFlip .tst
  , .atolProtect .tst 0
  , .atolProtect .host 256 ] : List Instr).all (fun i => !i.wf) = true := by decide +kernel
theorem test_illFormed6 : ([ .atolIdle .tst
  , .atolWindowData .tst 0 0 true
  , .atolWindowData .host 2 0 true
  , .atolWindowData .host 0xFC0 0 true
  , .atolWindowRead .tst 0 0 true
  , .atolWindowRead .host 2 0 true
  , .atolWindowRead .host 0xFC0 0 true
  , .atolWindowRead .host 0 256 true
  , .atolSeqTimeout .tst
  , .pollDue 16
  , .twlTransactionDone (.data (List.replicate 33 0))
  , .twlTransactionDone (.arb 512 false false)
  , .hostNotify 128 0
  , .hostNotify 0 (2 ^ 16)
  , .twlNpop .tst
  , .twlXcmdGo .tst
  , .regWrite 256 0 0 0 [] true
  , .regWrite 0 0 0 0 (List.replicate 64 0) true
  , .regRead 256 0 0 0 0
  , .regRead 0 0 0 0 256
  , .reset 256 [] true
  , .reset 0 (List.replicate 256 0) true
  , .ident (2 ^ 16) true
  , .status (2 ^ 16) true
  , .pkgBegin (2 ^ 16) true []
  , .pkgBegin 0 true (List.replicate 4097 0)
  , .pkgData (2 ^ 16) true []
  , .pkgData 0 true (List.replicate 4097 0)
  , .pkgEnd (2 ^ 16) true
  , .activate (2 ^ 16) true
  , .abort (2 ^ 16) true
  , .rcvBegin (2 ^ 16) true []
  , .rcvBegin 0 true (List.replicate 4097 0)
  , .rcvData (2 ^ 16) true []
  , .rcvData 0 true (List.replicate 4097 0)
  , .rcvEnd (2 ^ 16) true
  , .protSet (2 ^ 16) true []
  , .protSet 0 true (List.replicate 4097 0)
  , .ecRead (2 ^ 16) true []
  , .ecRead 0 true (List.replicate 4097 0) ] : List Instr).all (fun i => !i.wf) = true := by decide +kernel
theorem test_illFormed7 : ([ .requestTerrace .tst
  , .requestBasin .tst
  , .requestRun .tst
  , .domainTimeout 9 true
  , .zqDue 4 0
  , .zqDue 0 16
  , .oscDue 4 0 0
  , .oscDue 0 16 0
  , .fcalDue 16 0 0 0 0 0 0
  , .fcalDue 0 16 0 0 0 0 0
  , .fcalDue 0 0 4 0 0 0 0
  , .fcalDue 0 0 0 (2 ^ 14) 0 0 0
  , .onfiZqDue 16
  , .capGo .tst
  , .telemetrySample (-129) 0
  , .telemetrySample 128 0
  , .dscrMpop .tst
  , .extest (2 ^ 1912) none
  , .extest 0 (some (2 ^ 1912))
  , .sample (2 ^ 1912)
  , .preload (2 ^ 1912) none
  , .preload 0 (some (2 ^ 1912))
  , .extestPulse (2 ^ 1912) none
  , .extestPulse 0 (some (2 ^ 1912))
  , .extestTrain (2 ^ 1912) none
  , .extestTrain 0 (some (2 ^ 1912))
  , .atolRead (2 ^ 25) 0 true true
  , .atolRead 0 256 true true
  , .atolEc 512
  , .bypass 256
  , .portDown 2
  , .linkRecovery [(16, 0)] none
  , .linkRecovery [] (some (4, []))
  , .linkRecovery [] (some (0, [⟨16, 0, 0⟩]))
  , .gatedPageRead .tst 0
  , .gatedPageRead .host 0x100000
  , .gatedPageRead .host 2
  , .unlistedFrameType { hd with port := 2 }
  , .badOp (2 ^ 16) true
  , .sbCommandRefused 256 ] : List Instr).all (fun i => !i.wf) = true := by decide +kernel
theorem test_wellFormed0 : ([ .passTick ⟨[], [], [], 0, 0, 0, 0, [], []⟩
  , .registerWrite .host 0 0 0
  , .counterLoRead .host 0
  , .rcRead .host 0
  , .semClaim 0 [.host]
  , .semRelease .host 0 1
  , .semBreak .host 0 1
  , .semLeaseExpiry 0
  , .shadowArm .host 0
  , .shadowDiscard .host 0
  , .softRst .host 0
  , .clkGate .host 0 true
  , .pageEn .host 0 true
  , .intForce .host 0 0
  , .errForce .host 0 0
  , .mgpEoi .host 0
  , .cxlMemWrite 0 0 0 0 0 true
  , .cxlMemRead 0 0 0
  , .budgetCompute 0
  , .persBarPost .host 0
  , .persQIslet .host 0
  , .shadowReadEnd 0
  , .pfailGlitch 1
  , .railOutOfBand 1
  , .dramTrainingDone [] true []
  , .faultInDone 0 0 0 [] true
  , .restoreIsletDone true 0 []
  , .flashOpEnqueue 0 ⟨.demand, .read, 0, [0], 0, 0, false, 0⟩
  , .resumeWindowExpiry 0 0
  , .flashReadDone 0 0 0 0 ⟨0, 0, ⟨none, 0, 0⟩, [], none, false, false⟩ true true
  , .flashProgramDone 0 0 true 0
  , .flashEraseDone 0 0 ⟨true, 0⟩
  , .dieReadyTimeout 0 0 true
  , .fchRetrain .host 0
  , .flashChannelTrained 0 true []
  , .farrQBlock .host 0
  , .movStart .host 0
  , .movAbort .host 0
  , .move 0
  , .spread 0 ] : List Instr).all Instr.wf = true := by decide +kernel
theorem test_wellFormed1 : ([ .loop 0
  , .wait 0
  , .signal 0 0
  , .halt 0 0
  , .nop 0
  , .illegal 0 0
  , .pcRange 0 0
  , .pmUe 0 0
  , .moverTransferDone 0 none 0
  , .waitEnd 0
  , .waitTimeout 0 0
  , .pmDataHiWrite .host 0
  , .pmDataLoRead .host
  , .pmDataHiRead .host
  , .collectorDrain 0
  , .mvgCpop .host
  , .dramReadDone 0 .host .clean 0
  , .repairWrite 0
  , .refreshDue 0 0 true
  , .mr4Poll 0 true
  , .rankPowerDown 0 0 true
  , .caParityAlert 0
  , .caAlertClear 0
  , .inPlaceRetrainDone 0 true
  , .dtrnGo .host
  , .dtrnStop .host
  , .dtrnDone 0 0
  , .linkUp 0 true []
  , .configRequest .read
  , .decoderCommit 0 0 0 0 0 0
  , .getEventRecords 0
  , .clearEventRecords 0 true []
  , .setEventInterruptPolicy [0, 0, 0, 0]
  , .setTimestamp 0
  , .getLog (List.replicate 16 0) 0 0
  , .setAlertConfig (List.replicate 12 0)
  , .setShutdownState 0
  , .getPoisonList 0 0
  , .injectPoison 0
  , .clearPoison 0 0 ] : List Instr).all Instr.wf = true := by decide +kernel
theorem test_wellFormed2 : ([ .barrierPost 0
  , .barrierStatus 0
  , .formatArray 0 0 0 0
  , .keyExport 0 0
  , .straitPortTrained 0 0 true
  , .heartbeat hd (List.replicate 24 0)
  , .probe hd 0
  , .echo hd (List.replicate 24 0) 0
  , .tickSync hd (List.replicate 24 0) 0 0 0
  , .memberInfo hd (List.replicate 24 0)
  , .share hd (List.replicate 24 0)
  , .tailDone hd (List.replicate 24 0)
  , .close hd (List.replicate 24 0)
  , .sealedFrame hd (List.replicate 24 0)
  , .groupSealed hd (List.replicate 24 0)
  , .straitSave hd
  , .saveStart hd (List.replicate 24 0)
  , .saveEnd hd (List.replicate 24 0)
  , .imageStatusFrame hd (List.replicate 24 0)
  , .groupPoint hd (List.replicate 24 0)
  , .masterClaim hd (List.replicate 24 0)
  , .eventFrame hd (List.replicate 24 0)
  , .peerSilent 0 true
  , .strtRetrain .host
  , .pllLock 0
  , .pllUnlock 0
  , .powerOnReset none
  , .rstKey .host 0
  , .devRst .host
  , .faultDetect 0 0 0 0 0 0 true
  , .blockResetDone (.block 0) true
  , .resetOverrun 0
  , .resetStuck 0
  , .resetShadowEnd (.block 0) 0
  , .glenWdog 0 0
  , .glenRestartDone 0 0
  , .fltPop .host
  , .fltFirstClr .host
  , .recEvent 0 0 true []
  , .flush .host ] : List Instr).all Instr.wf = true := by decide +kernel
theorem test_wellFormed3 : ([ .freeze .host true
  , .recRdSeq .host 0
  , .recReadDone .host true true
  , .atolProgram .host
  , .atolErase .host
  , .atolHalt .host
  , .atolContinue .host
  , .atolStatus .host
  , .atolCounts .host
  , .atolFlip .host
  , .atolProtect .host 0
  , .atolIdle .host
  , .atolWindowData .host 0 0 true
  , .atolWindowRead .host 0 0 true
  , .atolSeqTimeout .host
  , .pollDue 0
  , .twlTransactionDone .nack
  , .hostNotify 0 0
  , .twlNpop .host
  , .twlXcmdGo .host
  , .regWrite 0 0 0 0 [] true
  , .regRead 0 0 0 0 0
  , .reset 0 [] true
  , .ident 0 true
  , .status 0 true
  , .pkgBegin 0 true []
  , .pkgData 0 true []
  , .pkgEnd 0 true
  , .activate 0 true
  , .abort 0 true
  , .rcvBegin 0 true []
  , .rcvData 0 true []
  , .rcvEnd 0 true
  , .protSet 0 true []
  , .ecRead 0 true []
  , .requestTerrace .host
  , .requestBasin .host
  , .requestRun .host
  , .domainTimeout 0 true
  , .zqDue 0 0 ] : List Instr).all Instr.wf = true := by decide +kernel
theorem test_wellFormed4 : ([ .oscDue 0 0 0
  , .fcalDue 0 0 0 0 0 0 0
  , .onfiZqDue 0
  , .capGo .host
  , .telemetrySample 0 0
  , .dscrMpop .host
  , .extest 0 none
  , .sample 0
  , .preload 0 none
  , .extestPulse 0 none
  , .extestTrain 0 none
  , .atolRead 0 0 true true
  , .atolEc 0
  , .bypass 0
  , .portDown 0
  , .linkRecovery [] none
  , .gatedPageRead .host 0
  , .unlistedFrameType hd
  , .badOp 0 true
  , .sbCommandRefused 0 ] : List Instr).all Instr.wf = true := by decide +kernel

/-! ### Witnesses of the statements about the whole machine -/

/-- PFAIL_IN# is about to fall. -/
def waiting : State := { up with pending := [.pfailInFall] }
theorem test_stepIdles : ∃ s : State, s.pending = [] := ⟨State.reset, rfl⟩
theorem test_stepKeepsCanon : ∃ s t : State, s.Canon ∧ s.pending ≠ [] ∧ step s = .next t :=
  ⟨waiting, _, ⟨by decide +kernel, by decide +kernel, by decide +kernel, by decide +kernel⟩, by decide, rfl⟩
theorem test_stepKeepsTables : ∃ s t : State, s.Fits ∧ s.pending ≠ [] ∧ step s = .next t :=
  ⟨waiting, _, ⟨by decide +kernel, by decide +kernel, by decide +kernel, by decide +kernel⟩, by decide, rfl⟩
theorem test_footprints : ∃ (c : Instr) (s t : State), exec c s = .next t ∧ s ≠ t ∧ Part.arr ∉ footprint c :=
  ⟨.pfailInFall, up, _, rfl, by decide +kernel, by decide⟩
theorem test_lastingState : ∃ (c : Instr) (s t : State), exec c s = .next t ∧ s ≠ t :=
  ⟨.pfailInFall, up, _, rfl, by decide +kernel⟩
theorem test_lastingState_tick : ∃ (w : TickWork) (s t : State), exec (.passTick w) s = .next t ∧ t.now = s.now + 1 :=
  ⟨⟨[], [], [], 0, 0, 0, 0, [], []⟩, up, _, rfl, by decide +kernel⟩
theorem test_stepConsumesOne : ∃ (c : Instr) (l : List Instr) (s t : State), s.pending = c :: l ∧ step s = .next t :=
  ⟨_, _, waiting, _, rfl, rfl⟩
theorem test_stopsOnlyOutsideMemory : ∃ (s : State) (line : Nat), s.mdl.hostLines ≤ line ∧
    exec (.cxlMemRead 0 line 0) s = .fault .lineOutsideMemory := ⟨up, up.mdl.hostLines, Nat.le_refl _, by simp [exec, execCxlMemRead]⟩
/-- Decoder 0 covers all of memory. -/
def memAll : State := { memOn with hlk := { memOn.hlk with decs := [(0, some ⟨0, 2 ^ 40, 0, 1, 0⟩)] } }
theorem test_cxlWriteMemory : ∃ (s : State) (n line : Nat), s.Canon ∧ line < s.mdl.hostLines ∧ s.servesAtOnce n line true = true :=
  ⟨memAll, 0, memAll.mdl.hostLines - 1, ⟨by decide +kernel, by decide +kernel, by decide +kernel, by decide +kernel⟩,
    by decide +kernel, by decide +kernel⟩
theorem test_cxlReadMemory : ∃ (s : State) (n line : Nat), line < s.mdl.hostLines ∧ s.servesAtOnce n line false = true ∧
    s.answering = true := ⟨memAll, 0, memAll.mdl.hostLines - 1, by decide +kernel, by decide +kernel, by decide +kernel⟩
theorem test_cxlReadReturnsWrite : ∃ (s : State) (n line m : Nat), s.Canon ∧ line < s.mdl.hostLines ∧
    s.servesAtOnce n line true = true ∧ ∃ t, exec (.cxlMemWrite n line 0 5 (BitVec.allOnes 64) false) s = .next t ∧
      t.servesAtOnce m line false = true ∧ t.answering = true :=
  ⟨memOn, 0, 0, 0, ⟨by decide +kernel, by decide +kernel, by decide +kernel, by decide +kernel⟩,
    by decide +kernel, by decide +kernel, memOn.memRequest 0 ⟨false, 0, some 0, 0, 0, true, 5, BitVec.allOnes 64, false⟩,
    by have h : ¬ memOn.mdl.hostLines ≤ 0 := by decide +kernel
       simp only [exec, execCxlMemWrite, if_neg h], by decide +kernel, by decide +kernel⟩
theorem test_storedFields : ∃ (s u : State) (p : Port) (a : Nat) (d : Word) (r : Row), s.Canon ∧ s.accepted p a d = some u ∧
    regRow a = some r ∧ writeKey p a r ≠ (PAGE_SEQ_COUNT (a / 0x1000)).addr ∧ r.flds ≠ [] :=
  ⟨own, _, .host, 0x20040, 0xFFFFFFFF, _, ⟨by decide +kernel, by decide +kernel, by decide +kernel, by decide +kernel⟩, rfl, rfl,
    by decide +kernel, by decide +kernel⟩
theorem test_semOwnerCodes : ∃ s : State, s.Canon ∧ s.portOpen .host = true ∧ s.portOpen .sideband = true ∧
    s.portOpen .glen = true ∧ s.get (semHolder 63) = 0 :=
  ⟨up, ⟨by decide +kernel, by decide +kernel, by decide +kernel, by decide +kernel⟩, by decide +kernel, by decide +kernel,
    by decide +kernel, by decide +kernel⟩
theorem test_semReleaseRule : ∃ s : State, s.Canon ∧ s.portOpen .host = true ∧
    (1 : Word).getLsbD 31 = false ∧ getBits (1 : Word) 0 2 = portCode .host ∧ s.get (semHolder 63) = portCode .host :=
  ⟨own, ⟨by decide +kernel, by decide +kernel, by decide +kernel, by decide +kernel⟩, by decide +kernel, by decide +kernel,
    by decide +kernel, by decide +kernel⟩
theorem test_semReleaseRule_other : ∃ s : State, s.Canon ∧ s.portOpen .sideband = true ∧
    ¬ (getBits (2 : Word) 0 2 = portCode .sideband ∧ s.get (semHolder 63) = portCode .sideband) :=
  ⟨own, ⟨by decide +kernel, by decide +kernel, by decide +kernel, by decide +kernel⟩, by decide +kernel, by decide +kernel⟩
theorem test_unlistedPages : ∃ (s : State) (p : Port) (a : Nat), a < 0x100000 ∧ implemented (a / 0x1000) = false ∧
    s.portOpen p = true := ⟨up, .host, 0xFFFFC, by decide, by decide +kernel, by decide +kernel⟩
theorem test_partialAccess : ∃ (s : State) (p : Port) (a m : Nat), a < 0x100000 ∧ s.portOpen p = true ∧ m < 15 ∧
    implemented (a / 0x1000) = true ∧ s.gated (a / 0x1000) = false :=
  ⟨up, .host, 0x20043, 14, by decide, by decide +kernel, by decide, by decide +kernel, by decide +kernel⟩
theorem test_glitchStartsNothing : ∃ s : State, s.save.pfailLow = true :=
  ⟨{ up with save := { up.save with pfailLow := true } }, rfl⟩
theorem test_barrierRefusals_inactive : ∃ s u : State, s.accepted .host 0x22040 5 = some u ∧ s.active = false :=
  ⟨own, _, rfl, by decide +kernel⟩
theorem test_barrierRefusals_off : ∃ s u : State, s.accepted .host 0x22040 5 = some u ∧ s.active = true ∧
    s.saving = false ∧ s.save.ended = false ∧ s.save.failed = false ∧ s.cfgOn PERS_CTRL_BARRIER_EN = false :=
  ⟨barOk.put PERS_CTRL_BARRIER_EN 0, _, rfl, by decide +kernel⟩
theorem test_barrierRefusals_full : ∃ s u : State, s.accepted .host 0x22040 5 = some u ∧ s.active = true ∧
    s.saving = false ∧ s.save.ended = false ∧ s.save.failed = false ∧ s.cfgOn PERS_CTRL_BARRIER_EN = true ∧
    s.pers.barriers.length = 16 :=
  ⟨{ barOk with pers := { barOk.pers with barriers := List.replicate 16 ⟨1, 0, 0, none⟩ } }, _, rfl, by decide +kernel⟩
theorem test_barrierRefusals_taken : ∃ s u : State, s.accepted .host 0x22040 5 = some u ∧ s.active = true ∧
    s.saving = false ∧ s.save.ended = false ∧ s.save.failed = false ∧ s.cfgOn PERS_CTRL_BARRIER_EN = true ∧
    s.pers.barriers.length = 15 :=
  ⟨{ barOk with pers := { barOk.pers with barriers := List.replicate 15 ⟨1, 0, 0, none⟩ } }, _, rfl, by decide +kernel⟩

/-! ### The save array's layout: witnesses, and the worked examples of chapter 7 for LV1 -/

/-- A slot whose column d holds the byte d: the XOR of 1 to 15 is 0. -/
theorem test_parityRebuild : ∃ (cell : Nat → BitVec 8) (c lost : Nat), c < 16 ∧ lost < 16 ∧ c ≠ lost ∧
    cell c = parityByte cell c ∧ cell lost ≠ 0 :=
  ⟨BitVec.ofNat 8, 0, 15, by decide, by decide, by decide, by decide, by decide⟩
theorem test_stripePlacement : cellAt (stripeSlot 14 15) 15 = .codeword 14 15 := by decide
theorem test_ldpcEncodes : (114 : Nat) < 115 ∧ (1031 : Nat) < 1032 ∧ ldpcRow 1031 0 = 111 := by decide
theorem test_journalPlaces : journalPlace 255 = (1, 15, 7, 15) := by decide
/-- The placement example: skerry 1,234 is block 154 of die 2; codeword 9 of the islet in stripe column 5 is in slot 3, which
on a 4-plane die is plane 0, codeword 3. -/
theorem test_placementExample : skerryDie 8 1234 = 2 ∧ skerryBlock 8 1234 = 154 ∧ stripeSlot 5 9 = 3 ∧
    memberSlot 4 7 3 = (0, 7, 3) := by decide
/-- The band table of LV1. -/
theorem test_bandsLv1 : State.reset.mdl.skerries = 3640 ∧ State.reset.mdl.journalBand = 22 ∧ State.reset.mdl.slcBand = 183 ∧
    State.reset.mdl.spareBand = 114 ∧ State.reset.mdl.imageBand = 3313 ∧ unsavedCw State.reset.mdl.hostIslets = 511 := by
  decide +kernel

/-! ### The decoder: the table gives its rows no bits -/

theorem test_decodeNone : decodeTableWord 32 0x00000000 = none ∧ decodeTableWord 64 0xFFFFFFFFFFFFFFFF = none := by decide

/-! ### A few commands, their results worked out from the spec by hand -/

/-- The pages of R24 and the header of a slot without a page. -/
theorem test_pages : ((List.range 256).filter implemented).length = 171 := by decide +kernel
/-- R576: with PFAIL_DEB = 4, 200 ns starts a save, 160 ns does not, and 180 ns may do either. -/
theorem test_pfailWindow : State.reset.pfailStarts 200 = some true ∧ State.reset.pfailStarts 160 = some false ∧
    State.reset.pfailStarts 180 = none := by decide +kernel
/-- R567: what the discrete outputs are in the power-on reset. -/
theorem test_pinsAtReset : State.reset.outputsAtReset true = true := by decide +kernel
/-- R37: a write without the semaphore of its register is dropped. -/
theorem test_writeNeedsSem : ∃ t, exec (.registerWrite .host 0x20040 15 1) up = .next t ∧
    t.get PERS_CTRL_BARRIER_EN = up.get PERS_CTRL_BARRIER_EN := ⟨_, rfl, by decide +kernel⟩
/-- CRC-32C of the empty string. -/
theorem test_crcEmpty : crc32c [] = 0 := by decide

end Sys2Proof.Tests
end

section
/-! SUPPORT. What a command leaves: every part of the state outside its footprint, the clock but at PASS_TICK, and the
record of the save array but at the commands that seal, format, detect or erase. -/

namespace Sys2Proof.Machine

/-- Where a command answers a next state, every part outside its footprint is as before: the law of each meaning, read through
the list of parts. -/
theorem exec_same {c : Instr} {s t : State} (he : exec c s = .next t) {p : Part} (hp : p ∉ footprint c) : p.same s t := by
  cases c
  case' passTick w => refine (execPassTick_touches w he).outside ?_ hp
  case' aliveEdge => refine (execAliveEdge_touches he).outside ?_ hp
  case' mastershipTakeover late => refine (execMastershipTakeover_touches late he).outside ?_ hp
  case' registerWrite p addr mask data => refine (execRegisterWrite_touches p addr mask data he).outside ?_ hp
  case' counterLoRead p addr => refine (execCounterLoRead_touches p addr he).outside ?_ hp
  case' rcRead p addr => refine (execRcRead_touches p addr he).outside ?_ hp
  case' semClaim n readers => refine (execSemClaim_touches n readers he).outside ?_ hp
  case' semRelease p n owner => refine (execSemRelease_touches p n owner he).outside ?_ hp
  case' semBreak p n owner => refine (execSemBreak_touches p n owner he).outside ?_ hp
  case' semLeaseExpiry n => refine (execSemLeaseExpiry_touches n he).outside ?_ hp
  case' shadowArm p page => refine (execShadowArm_touches p page he).outside ?_ hp
  case' shadowDiscard p page => refine (execShadowDiscard_touches p page he).outside ?_ hp
  case' softRst p page => refine (execSoftRst_touches p page he).outside ?_ hp
  case' clkGate p page on => refine (execClkGate_touches p page on he).outside ?_ hp
  case' pageEn p page on => refine (execPageEn_touches p page on he).outside ?_ hp
  case' intForce p page causes => refine (execIntForce_touches p page causes he).outside ?_ hp
  case' errForce p page sources => refine (execErrForce_touches p page sources he).outside ?_ hp
  case' mgpEoi p v => refine (execMgpEoi_touches p v he).outside ?_ hp
  case' msixHeldSend => refine (execMsixHeldSend_touches he).outside ?_ hp
  case' cxlMemWrite n line tag data be poison =>
    refine (execCxlMemWrite_touches n line tag data be poison he).outside ?_ hp
  case' cxlMemRead n line tag => refine (execCxlMemRead_touches n line tag he).outside ?_ hp
  case' isletRecordReadDone => refine (execIsletRecordReadDone_touches he).outside ?_ hp
  case' paceAdmit => refine (execPaceAdmit_touches he).outside ?_ hp
  case' holdMaxAdmit => refine (execHoldMaxAdmit_touches he).outside ?_ hp
  case' budgetCompute tj => refine (execBudgetCompute_touches tj he).outside ?_ hp
  case' gaugeStale late => refine (execGaugeStale_touches late he).outside ?_ hp
  case' epochClose => refine (execEpochClose_touches he).outside ?_ hp
  case' coolingWalkDone => refine (execCoolingWalkDone_touches he).outside ?_ hp
  case' epochSeal rearmed again => refine (execEpochSeal_touches rearmed again he).outside ?_ hp
  case' planeClearDone => refine (execPlaneClearDone_touches he).outside ?_ hp
  case' persBarPost p tag => refine (execPersBarPost_touches p tag he).outside ?_ hp
  case' persQIslet p islet => refine (execPersQIslet_touches p islet he).outside ?_ hp
  case' isletLookupDone => refine (execIsletLookupDone_touches he).outside ?_ hp
  case' shadowReadEnd islet => refine (execShadowReadEnd_touches islet he).outside ?_ hp
  case' stripeAgeExpiry slc => refine (execStripeAgeExpiry_touches slc he).outside ?_ hp
  case' sweepRoundDone => refine (execSweepRoundDone_touches he).outside ?_ hp
  case' barrierSweepDone => refine (execBarrierSweepDone_touches he).outside ?_ hp
  case' pfailInFall => refine (execPfailInFall_touches he).outside ?_ hp
  case' pfailDebounceDone => refine (execPfailDebounceDone_touches he).outside ?_ hp
  case' pfailGlitch samples => refine (execPfailGlitch_touches samples he).outside ?_ hp
  case' pfailInRise => refine (execPfailInRise_touches he).outside ?_ hp
  case' holdRailTrip => refine (execHoldRailTrip_touches he).outside ?_ hp
  case' holdRailClose started => refine (execHoldRailClose_touches started he).outside ?_ hp
  case' saveWritesApplied => refine (execSaveWritesApplied_touches he).outside ?_ hp
  case' saveDataDone => refine (execSaveDataDone_touches he).outside ?_ hp
  case' energyCutoff started => refine (execEnergyCutoff_touches started he).outside ?_ hp
  case' saveSealProgrammed => refine (execSaveSealProgrammed_touches he).outside ?_ hp
  case' saveSealReadback => refine (execSaveSealReadback_touches he).outside ?_ hp
  case' saveBasinEntry refreshed => refine (execSaveBasinEntry_touches refreshed he).outside ?_ hp
  case' selfTestDone pass => refine (execSelfTestDone_touches pass he).outside ?_ hp
  case' powerReturn => refine (execPowerReturn_touches he).outside ?_ hp
  case' powerLoss torn => refine (execPowerLoss_touches torn he).outside ?_ hp
  case' railOutOfBand rail => refine (execRailOutOfBand_touches rail he).outside ?_ hp
  case' dramRailFault => refine (execDramRailFault_touches he).outside ?_ hp
  case' gpfPhase1 => refine (execGpfPhase1_touches he).outside ?_ hp
  case' gpfPhase2 => refine (execGpfPhase2_touches he).outside ?_ hp
  case' gpfPhase2Done => refine (execGpfPhase2Done_touches he).outside ?_ hp
  case' dramTrainingDone fell lowered failed =>
    refine (execDramTrainingDone_touches fell lowered failed he).outside ?_ hp
  case' imageDetectDone found => refine (execImageDetectDone_touches found he).outside ?_ hp
  case' metadataLoadDone => refine (execMetadataLoadDone_touches he).outside ?_ hp
  case' faultInDone islet us rebuilt lost late =>
    refine (execFaultInDone_touches islet us rebuilt lost late he).outside ?_ hp
  case' restoreIsletDone zero rebuilt lost => refine (execRestoreIsletDone_touches zero rebuilt lost he).outside ?_ hp
  case' warmCheckDone good => refine (execWarmCheckDone_touches good he).outside ?_ hp
  case' cascadeWaitExpiry => refine (execCascadeWaitExpiry_touches he).outside ?_ hp
  case' flashOpEnqueue c o => refine (execFlashOpEnqueue_touches c o he).outside ?_ hp
  case' resumeWindowExpiry c d => refine (execResumeWindowExpiry_touches c d he).outside ?_ hp
  case' flashReadDone c d plane b r last scan =>
    refine (execFlashReadDone_touches c d plane b r last scan he).outside ?_ hp
  case' flashProgramDone c d good us => refine (execFlashProgramDone_touches c d good us he).outside ?_ hp
  case' flashEraseDone c d e => refine (execFlashEraseDone_touches c d e he).outside ?_ hp
  case' dieReadyTimeout c d late => refine (execDieReadyTimeout_touches c d late he).outside ?_ hp
  case' fchRetrain p c => refine (execFchRetrain_touches p c he).outside ?_ hp
  case' flashChannelTrained c good found => refine (execFlashChannelTrained_touches c good found he).outside ?_ hp
  case' farrQBlock p query => refine (execFarrQBlock_touches p query he).outside ?_ hp
  case' blockLookupDone => refine (execBlockLookupDone_touches he).outside ?_ hp
  case' movStart p c => refine (execMovStart_touches p c he).outside ?_ hp
  case' movAbort p c => refine (execMovAbort_touches p c he).outside ?_ hp
  case' move c => refine (execMove_touches c he).outside ?_ hp
  case' spread c => refine (execSpread_touches c he).outside ?_ hp
  case' loop c => refine (execLoop_touches c he).outside ?_ hp
  case' wait c => refine (execWait_touches c he).outside ?_ hp
  case' signal c cycle => refine (execSignal_touches c cycle he).outside ?_ hp
  case' halt c cycle => refine (execHalt_touches c cycle he).outside ?_ hp
  case' nop c => refine (execNop_touches c he).outside ?_ hp
  case' illegal c cycle => refine (execIllegal_touches c cycle he).outside ?_ hp
  case' pcRange c cycle => refine (execPcRange_touches c cycle he).outside ?_ hp
  case' pmUe c cycle => refine (execPmUe_touches c cycle he).outside ?_ hp
  case' moverTransferDone c hit why => refine (execMoverTransferDone_touches c hit why he).outside ?_ hp
  case' waitEnd c => refine (execWaitEnd_touches c he).outside ?_ hp
  case' waitTimeout c cycle => refine (execWaitTimeout_touches c cycle he).outside ?_ hp
  case' pmDataHiWrite p hi => refine (execPmDataHiWrite_touches p hi he).outside ?_ hp
  case' pmDataLoRead p => refine (execPmDataLoRead_touches p he).outside ?_ hp
  case' pmDataHiRead p => refine (execPmDataHiRead_touches p he).outside ?_ hp
  case' collectorDrain cycle => refine (execCollectorDrain_touches cycle he).outside ?_ hp
  case' mvgCpop p => refine (execMvgCpop_touches p he).outside ?_ hp
  case' dramReadDone line r o record => refine (execDramReadDone_touches line r o record he).outside ?_ hp
  case' repairWrite line => refine (execRepairWrite_touches line he).outside ?_ hp
  case' refreshDue sc lrank queued => refine (execRefreshDue_touches sc lrank queued he).outside ?_ hp
  case' mr4Poll d doubled => refine (execMr4Poll_touches d doubled he).outside ?_ hp
  case' rankPowerDown d r late => refine (execRankPowerDown_touches d r late he).outside ?_ hp
  case' rowIdleClose bank => refine (execRowIdleClose_touches bank he).outside ?_ hp
  case' caParityAlert sc => refine (execCaParityAlert_touches sc he).outside ?_ hp
  case' caAlertClear sc => refine (execCaAlertClear_touches sc he).outside ?_ hp
  case' inPlaceRetrainDone sc margin => refine (execInPlaceRetrainDone_touches sc margin he).outside ?_ hp
  case' dtrnGo p => refine (execDtrnGo_touches p he).outside ?_ hp
  case' dtrnStop p => refine (execDtrnStop_touches p he).outside ?_ hp
  case' dtrnDone lanes mismatches => refine (execDtrnDone_touches lanes mismatches he).outside ?_ hp
  case' perstAssert => refine (execPerstAssert_touches he).outside ?_ hp
  case' perstRelease => refine (execPerstRelease_touches he).outside ?_ hp
  case' linkUp rate flit256 lanes => refine (execLinkUp_touches rate flit256 lanes he).outside ?_ hp
  case' linkDown => refine (execLinkDown_touches he).outside ?_ hp
  case' linkFail => refine (execLinkFail_touches he).outside ?_ hp
  case' l1Exit => refine (execL1Exit_touches he).outside ?_ hp
  case' configRequest q => refine (execConfigRequest_touches q he).outside ?_ hp
  case' creditStall => refine (execCreditStall_touches he).outside ?_ hp
  case' decoderCommit n base size dpa iw ig =>
    refine (execDecoderCommit_touches n base size dpa iw ig he).outside ?_ hp
  case' memEnable => refine (execMemEnable_touches he).outside ?_ hp
  case' getEventRecords log => refine (execGetEventRecords_touches log he).outside ?_ hp
  case' clearEventRecords log every handles =>
    refine (execClearEventRecords_touches log every handles he).outside ?_ hp
  case' getEventInterruptPolicy => refine (execGetEventInterruptPolicy_touches he).outside ?_ hp
  case' setEventInterruptPolicy modes => refine (execSetEventInterruptPolicy_touches modes he).outside ?_ hp
  case' getFwInfo => refine (execGetFwInfo_touches he).outside ?_ hp
  case' unsupportedCommand => refine (execUnsupportedCommand_touches he).outside ?_ hp
  case' getTimestamp => refine (execGetTimestamp_touches he).outside ?_ hp
  case' setTimestamp ns => refine (execSetTimestamp_touches ns he).outside ?_ hp
  case' getSupportedLogs => refine (execGetSupportedLogs_touches he).outside ?_ hp
  case' getLog uuid offset length => refine (execGetLog_touches uuid offset length he).outside ?_ hp
  case' identifyMemoryDevice => refine (execIdentifyMemoryDevice_touches he).outside ?_ hp
  case' getHealthInfo => refine (execGetHealthInfo_touches he).outside ?_ hp
  case' getAlertConfig => refine (execGetAlertConfig_touches he).outside ?_ hp
  case' setAlertConfig config => refine (execSetAlertConfig_touches config he).outside ?_ hp
  case' getShutdownState => refine (execGetShutdownState_touches he).outside ?_ hp
  case' setShutdownState v => refine (execSetShutdownState_touches v he).outside ?_ hp
  case' getPoisonList dpa length => refine (execGetPoisonList_touches dpa length he).outside ?_ hp
  case' injectPoison dpa => refine (execInjectPoison_touches dpa he).outside ?_ hp
  case' clearPoison dpa data => refine (execClearPoison_touches dpa data he).outside ?_ hp
  case' sanitize => refine (execSanitize_touches he).outside ?_ hp
  case' sanitizeDone => refine (execSanitizeDone_touches he).outside ?_ hp
  case' barrierPost tag => refine (execBarrierPost_touches tag he).outside ?_ hp
  case' barrierStatus seq => refine (execBarrierStatus_touches seq he).outside ?_ hp
  case' budgetQuery => refine (execBudgetQuery_touches he).outside ?_ hp
  case' imageStatus => refine (execImageStatus_touches he).outside ?_ hp
  case' cascadeStatus => refine (execCascadeStatus_touches he).outside ?_ hp
  case' formatArray confirm flags tag size => refine (execFormatArray_touches confirm flags tag size he).outside ?_ hp
  case' formatArrayDone => refine (execFormatArrayDone_touches he).outside ?_ hp
  case' keyImportBegin => refine (execKeyImportBegin_touches he).outside ?_ hp
  case' keyExport slot receiver => refine (execKeyExport_touches slot receiver he).outside ?_ hp
  case' keyImport sender keyId wrapped => refine (execKeyImport_touches sender keyId wrapped he).outside ?_ hp
  case' straitPortTrained port partner ring =>
    refine (execStraitPortTrained_touches port partner ring he).outside ?_ hp
  case' censusDone => refine (execCensusDone_touches he).outside ?_ hp
  case' masterElection => refine (execMasterElection_touches he).outside ?_ hp
  case' straitPeriodicSend k => refine (execStraitPeriodicSend_touches k he).outside ?_ hp
  case' straitFrameBad mine => refine (execStraitFrameBad_touches mine he).outside ?_ hp
  case' heartbeat h payload => refine (execHeartbeat_touches h payload he).outside ?_ hp
  case' probe h turn => refine (execProbe_touches h turn he).outside ?_ hp
  case' echo h payload trip => refine (execEcho_touches h payload trip he).outside ?_ hp
  case' tickSync h payload offset lag residence =>
    refine (execTickSync_touches h payload offset lag residence he).outside ?_ hp
  case' memberInfo h payload => refine (execMemberInfo_touches h payload he).outside ?_ hp
  case' share h payload => refine (execShare_touches h payload he).outside ?_ hp
  case' tailDone h payload => refine (execTailDone_touches h payload he).outside ?_ hp
  case' closeIssue => refine (execCloseIssue_touches he).outside ?_ hp
  case' close h payload => refine (execClose_touches h payload he).outside ?_ hp
  case' sealedFrame h payload => refine (execSealedFrame_touches h payload he).outside ?_ hp
  case' groupSealed h payload => refine (execGroupSealed_touches h payload he).outside ?_ hp
  case' straitSave h => refine (execStraitSave_touches h he).outside ?_ hp
  case' saveStart h payload => refine (execSaveStart_touches h payload he).outside ?_ hp
  case' saveEnd h payload => refine (execSaveEnd_touches h payload he).outside ?_ hp
  case' imageStatusFrame h payload => refine (execImageStatusFrame_touches h payload he).outside ?_ hp
  case' groupPoint h payload => refine (execGroupPoint_touches h payload he).outside ?_ hp
  case' masterClaim h payload => refine (execMasterClaim_touches h payload he).outside ?_ hp
  case' eventFrame h payload => refine (execEventFrame_touches h payload he).outside ?_ hp
  case' peerSilent d late => refine (execPeerSilent_touches d late he).outside ?_ hp
  case' strtRetrain p => refine (execStrtRetrain_touches p he).outside ?_ hp
  case' refLoss => refine (execRefLoss_touches he).outside ?_ hp
  case' refBack ppm => refine (execRefBack_touches ppm he).outside ?_ hp
  case' aonClkLoss => refine (execAonClkLoss_touches he).outside ?_ hp
  case' pllLock k => refine (execPllLock_touches k he).outside ?_ hp
  case' pllUnlock k => refine (execPllUnlock_touches k he).outside ?_ hp
  case' powerOnReset retries => refine (execPowerOnReset_touches retries he).outside ?_ hp
  case' bootImageVerified active other => refine (execBootImageVerified_touches active other he).outside ?_ hp
  case' configurationDone ver kinds => refine (execConfigurationDone_touches ver kinds he).outside ?_ hp
  case' rstKey p key => refine (execRstKey_touches p key he).outside ?_ hp
  case' devRst p => refine (execDevRst_touches p he).outside ?_ hp
  case' quiesceDone refreshed stored => refine (execQuiesceDone_touches refreshed stored he).outside ?_ hp
  case' resetHoldRelease => refine (execResetHoldRelease_touches he).outside ?_ hp
  case' recoverySample first second => refine (execRecoverySample_touches first second he).outside ?_ hp
  case' faultDetect page src kind addr cycle place alt =>
    refine (execFaultDetect_touches page src kind addr cycle place alt he).outside ?_ hp
  case' faultRecord => refine (execFaultRecord_touches he).outside ?_ hp
  case' blockResetDone w late => refine (execBlockResetDone_touches w late he).outside ?_ hp
  case' resetOverrun b => refine (execResetOverrun_touches b he).outside ?_ hp
  case' resetStuck d => refine (execResetStuck_touches d he).outside ?_ hp
  case' resetShadowEnd w us => refine (execResetShadowEnd_touches w us he).outside ?_ hp
  case' tickStall => refine (execTickStall_touches he).outside ?_ hp
  case' glenWdog k cycle => refine (execGlenWdog_touches k cycle he).outside ?_ hp
  case' glenRestartDone k us => refine (execGlenRestartDone_touches k us he).outside ?_ hp
  case' fltPop p => refine (execFltPop_touches p he).outside ?_ hp
  case' fltFirstClr p => refine (execFltFirstClr_touches p he).outside ?_ hp
  case' recEvent b code coincident detail => refine (execRecEvent_touches b code coincident detail he).outside ?_ hp
  case' hoursNote => refine (execHoursNote_touches he).outside ?_ hp
  case' flush p => refine (execFlush_touches p he).outside ?_ hp
  case' flushDone failed => refine (execFlushDone_touches failed he).outside ?_ hp
  case' freeze p on => refine (execFreeze_touches p on he).outside ?_ hp
  case' freezeTimeout => refine (execFreezeTimeout_touches he).outside ?_ hp
  case' recRdSeq p rseq => refine (execRecRdSeq_touches p rseq he).outside ?_ hp
  case' recReadDone p bad early => refine (execRecReadDone_touches p bad early he).outside ?_ hp
  case' atolProgram p => refine (execAtolProgram_touches p he).outside ?_ hp
  case' atolErase p => refine (execAtolErase_touches p he).outside ?_ hp
  case' atolHalt p => refine (execAtolHalt_touches p he).outside ?_ hp
  case' atolContinue p => refine (execAtolContinue_touches p he).outside ?_ hp
  case' atolStatus p => refine (execAtolStatus_touches p he).outside ?_ hp
  case' atolCounts p => refine (execAtolCounts_touches p he).outside ?_ hp
  case' atolFlip p => refine (execAtolFlip_touches p he).outside ?_ hp
  case' atolProtect p lvl => refine (execAtolProtect_touches p lvl he).outside ?_ hp
  case' atolIdle p => refine (execAtolIdle_touches p he).outside ?_ hp
  case' atolWindowData p offset data late => refine (execAtolWindowData_touches p offset data late he).outside ?_ hp
  case' atolWindowRead p offset cbits ue => refine (execAtolWindowRead_touches p offset cbits ue he).outside ?_ hp
  case' atolSeqTimeout p => refine (execAtolSeqTimeout_touches p he).outside ?_ hp
  case' atolProgramDone pulses good => refine (execAtolProgramDone_touches pulses good he).outside ?_ hp
  case' atolEraseDone good => refine (execAtolEraseDone_touches good he).outside ?_ hp
  case' wipeDone => refine (execWipeDone_touches he).outside ?_ hp
  case' pollDue n => refine (execPollDue_touches n he).outside ?_ hp
  case' twlTransactionStart => refine (execTwlTransactionStart_touches he).outside ?_ hp
  case' twlTransactionDone e => refine (execTwlTransactionDone_touches e he).outside ?_ hp
  case' twlTimeout stuck => refine (execTwlTimeout_touches stuck he).outside ?_ hp
  case' busStuckRetry freed => refine (execBusStuckRetry_touches freed he).outside ?_ hp
  case' hostNotify addr status => refine (execHostNotify_touches addr status he).outside ?_ hp
  case' twlNpop p => refine (execTwlNpop_touches p he).outside ?_ hp
  case' locAlert low => refine (execLocAlert_touches low he).outside ?_ hp
  case' araBackoff => refine (execAraBackoff_touches he).outside ?_ hp
  case' twlXcmdGo p => refine (execTwlXcmdGo_touches p he).outside ?_ hp
  case' regWrite count a0 a1 a2 words pecOk =>
    refine (execRegWrite_touches count a0 a1 a2 words pecOk he).outside ?_ hp
  case' regRead count a0 a1 a2 k => refine (execRegRead_touches count a0 a1 a2 k he).outside ?_ hp
  case' reset count bytes pecOk => refine (execReset_touches count bytes pecOk he).outside ?_ hp
  case' sbAra => refine (execSbAra_touches he).outside ?_ hp
  case' sbTimeout => refine (execSbTimeout_touches he).outside ?_ hp
  case' sbProtocolAbandon => refine (execSbProtocolAbandon_touches he).outside ?_ hp
  case' ident tag good => refine (execIdent_touches tag good he).outside ?_ hp
  case' svcFrameShort => refine (execSvcFrameShort_touches he).outside ?_ hp
  case' status tag good => refine (execStatus_touches tag good he).outside ?_ hp
  case' pkgBegin tag good payload => refine (execPkgBegin_touches tag good payload he).outside ?_ hp
  case' updHashDone => refine (execUpdHashDone_touches he).outside ?_ hp
  case' updEraseDone => refine (execUpdEraseDone_touches he).outside ?_ hp
  case' pkgData tag good payload => refine (execPkgData_touches tag good payload he).outside ?_ hp
  case' pkgEnd tag good => refine (execPkgEnd_touches tag good he).outside ?_ hp
  case' updCheckDone => refine (execUpdCheckDone_touches he).outside ?_ hp
  case' activate tag good => refine (execActivate_touches tag good he).outside ?_ hp
  case' abort tag good => refine (execAbort_touches tag good he).outside ?_ hp
  case' rcvBegin tag good payload => refine (execRcvBegin_touches tag good payload he).outside ?_ hp
  case' rcvData tag good payload => refine (execRcvData_touches tag good payload he).outside ?_ hp
  case' rcvEnd tag good => refine (execRcvEnd_touches tag good he).outside ?_ hp
  case' rcvCheckDone => refine (execRcvCheckDone_touches he).outside ?_ hp
  case' protSet tag good payload => refine (execProtSet_touches tag good payload he).outside ?_ hp
  case' ecRead tag good payload => refine (execEcRead_touches tag good payload he).outside ?_ hp
  case' requestTerrace p => refine (execRequestTerrace_touches p he).outside ?_ hp
  case' requestBasin p => refine (execRequestBasin_touches p he).outside ?_ hp
  case' requestRun p => refine (execRequestRun_touches p he).outside ?_ hp
  case' autoTerrace leaves => refine (execAutoTerrace_touches leaves he).outside ?_ hp
  case' l2Entry => refine (execL2Entry_touches he).outside ?_ hp
  case' stopPointReached => refine (execStopPointReached_touches he).outside ?_ hp
  case' domainReady => refine (execDomainReady_touches he).outside ?_ hp
  case' domainTimeout d late => refine (execDomainTimeout_touches d late he).outside ?_ hp
  case' exitDone => refine (execExitDone_touches he).outside ?_ hp
  case' scrubLineDue => refine (execScrubLineDue_touches he).outside ?_ hp
  case' roundLate => refine (execRoundLate_touches he).outside ?_ hp
  case' retentionScanDue restored => refine (execRetentionScanDue_touches restored he).outside ?_ hp
  case' scanLate => refine (execScanLate_touches he).outside ?_ hp
  case' zqDue sc lrank => refine (execZqDue_touches sc lrank he).outside ?_ hp
  case' oscDue sc lrank drift => refine (execOscDue_touches sc lrank drift he).outside ?_ hp
  case' fcalDue c d plane group below present above =>
    refine (execFcalDue_touches c d plane group below present above he).outside ?_ hp
  case' onfiZqDue c => refine (execOnfiZqDue_touches c he).outside ?_ hp
  case' capTestDue => refine (execCapTestDue_touches he).outside ?_ hp
  case' capGo p => refine (execCapGo_touches p he).outside ?_ hp
  case' capMaxExpiry late => refine (execCapMaxExpiry_touches late he).outside ?_ hp
  case' wearHorizonUpdate => refine (execWearHorizonUpdate_touches he).outside ?_ hp
  case' telemetrySample tj mw => refine (execTelemetrySample_touches tj mw he).outside ?_ hp
  case' dscrMpop p => refine (execDscrMpop_touches p he).outside ?_ hp
  case' tapReset => refine (execTapReset_touches he).outside ?_ hp
  case' extest pins shifted => refine (execExtest_touches pins shifted he).outside ?_ hp
  case' sample pins => refine (execSample_touches pins he).outside ?_ hp
  case' preload pins shifted => refine (execPreload_touches pins shifted he).outside ?_ hp
  case' idcode => refine (execIdcode_touches he).outside ?_ hp
  case' clamp => refine (execClamp_touches he).outside ?_ hp
  case' highz => refine (execHighz_touches he).outside ?_ hp
  case' extestPulse pins shifted => refine (execExtestPulse_touches pins shifted he).outside ?_ hp
  case' extestTrain pins shifted => refine (execExtestTrain_touches pins shifted he).outside ?_ hp
  case' sysId => refine (execSysId_touches he).outside ?_ hp
  case' tstReset => refine (execTstReset_touches he).outside ?_ hp
  case' atolRead word cbits ue ready => refine (execAtolRead_touches word cbits ue ready he).outside ?_ hp
  case' atolEc b => refine (execAtolEc_touches b he).outside ?_ hp
  case' bypass code => refine (execBypass_touches code he).outside ?_ hp
  case' portDown port => refine (execPortDown_touches port he).outside ?_ hp
  case' linkRecovery errors down => refine (execLinkRecovery_touches errors down he).outside ?_ hp
  case' l1Entry => refine (execL1Entry_touches he).outside ?_ hp
  case' hotReset => refine (execHotReset_touches he).outside ?_ hp
  case' holdRailReturn => refine (execHoldRailReturn_touches he).outside ?_ hp
  case' shareTimeout => refine (execShareTimeout_touches he).outside ?_ hp
  case' gatedPageRead p addr => refine (execGatedPageRead_touches p addr he).outside ?_ hp
  case' unlistedFrameType h => refine (execUnlistedFrameType_touches h he).outside ?_ hp
  case' badOp tag good => refine (execBadOp_touches tag good he).outside ?_ hp
  case' sbCommandRefused code => refine (execSbCommandRefused_touches code he).outside ?_ hp
  all_goals (simp only [footprint]; decide)

/-- The law of the footprints holds of every command: PASS_TICK has the clock, and every other footprint is of plain parts. -/
theorem footprint_statement (c : Instr) : Laws.Footprint.Statement c := by
  cases c
  case passTick w => exact Laws.Footprint.passTick w
  all_goals exact Laws.Footprint.of_plain rfl

/-! ### The clock, the module and the queue (R5) -/

/-- No command changes the module. -/
theorem exec_mdl {c : Instr} {s t : State} (h : exec c s = .next t) : t.mdl = s.mdl := by
  obtain ⟨hmdl, -, -⟩ := footprint_statement c
  exact exec_same h hmdl

/-- No command changes the queue behind it. -/
theorem exec_pending {c : Instr} {s t : State} (h : exec c s = .next t) : t.pending = s.pending := by
  obtain ⟨-, hpending, -⟩ := footprint_statement c
  exact exec_same h hpending

/-- The meaning of PASS_TICK. -/
theorem exec_passTick (w : TickWork) (s : State) : exec (.passTick w) s = .next (s.passTick w) := rfl

/-- The meaning of ALIVE_EDGE. -/
theorem exec_aliveEdge (s : State) : exec .aliveEdge s = .next s.aliveEdge := rfl

/-- Once the clock has advanced, the rest of a pass tick leaves the clock, the module and the queue alone. -/
theorem State.passTick_touches_advanced (s : State) (w : TickWork) :
    Touches 0xEFFFFEE6 { s with now := s.now + 1 } (s.passTick w) :=
  have h := touches_refl 0xEFFFFEE6 { s with now := s.now + 1 }
  State.countTime_touches (touches_ite (State.passWork_touches h (by decide) w) h) (by decide)

/-- A pass tick advances the clock by one microsecond. -/
theorem State.passTick_now (s : State) (w : TickWork) : (s.passTick w).now = s.now + 1 :=
  (s.passTick_touches_advanced w).frame .now (by decide)

/-- A command advances the clock by one pass where it is PASS_TICK, and else leaves it. -/
theorem exec_now {c : Instr} {s t : State} (h : exec c s = .next t) :
    (∃ w, c = .passTick w) ∧ t.now = s.now + 1 ∨ (¬ ∃ w, c = .passTick w) ∧ t.now = s.now := by
  by_cases hc : ∃ w, c = .passTick w
  · obtain ⟨w, rfl⟩ := hc
    rw [exec_passTick] at h
    cases h
    exact .inl ⟨⟨w, rfl⟩, s.passTick_now w⟩
  · obtain ⟨-, -, hnow⟩ := footprint_statement c
    exact .inr ⟨hc, exec_same h fun k => hc (hnow k)⟩

/-! ### The record of the save array -/

/-- Is this one of the commands that may change the record of the save array: the pass, the seal of an epoch or of a save, a
formatted or sanitized array, a detected or loaded image, a warm start, the erase of a block? -/
def writesArr : Instr → Bool
  | .passTick _ | .epochSeal _ _ | .saveSealReadback | .formatArrayDone | .sanitizeDone | .imageDetectDone _
  | .metadataLoadDone | .warmCheckDone _ | .flashEraseDone _ _ _ => true
  | _ => false

/-- They are the commands whose footprint has the record. -/
theorem contains_arr_footprint (c : Instr) : (footprint c).contains .arr = writesArr c := by cases c <;> rfl

/-- Any other command leaves the record. -/
theorem exec_arr {c : Instr} {s t : State} (h : exec c s = .next t) (hc : writesArr c = false) : t.arr = s.arr := by
  have harr : Part.arr ∉ footprint c := fun k => by
    rw [← contains_arr_footprint, List.contains_iff_mem.mpr k] at hc
    cases hc
  exact exec_same h harr

/-- The commands that may change the record, one by one. -/
theorem writesArr_cases {c : Instr} (h : writesArr c = true) :
    (∃ w, c = .passTick w) ∨ (∃ b k, c = .epochSeal b k) ∨ c = .saveSealReadback ∨ c = .formatArrayDone ∨
      c = .sanitizeDone ∨ (∃ f, c = .imageDetectDone f) ∨ c = .metadataLoadDone ∨ (∃ g, c = .warmCheckDone g) ∨
      ∃ k d e, c = .flashEraseDone k d e := by
  unfold writesArr at h
  split at h
  case h_10 => cases h
  all_goals simp

/-- A step on a queue that begins with a command is that command on the rest of the queue. -/
theorem step_cons {c : Instr} {l : List Instr} {s : State} (h : s.pending = c :: l) :
    step s = exec c { s with pending := l } := by
  unfold step
  rw [h]

end Sys2Proof.Machine

namespace Sys2Proof.Settled

open Sys2Proof.Machine

/-- Settles O7, from the footprint of each command: no footprint has the module or the queue, PASS_TICK's alone has the clock,
and the record of the save array is in those of nine commands. -/
theorem lastingState : Obligations.LastingState := by
  intro c s t h
  refine ⟨exec_mdl h, exec_pending h, ?_, ?_⟩
  · rcases exec_now h with ⟨⟨w, hw⟩, hn⟩ | ⟨-, hn⟩
    · exact .inr ⟨w, hw, hn⟩
    · exact .inl hn
  · cases hc : writesArr c
    · exact .inl (exec_arr h hc)
    · exact .inr (writesArr_cases hc)

/-- Settles O8: the step is the command on the state with the queue's rest, which no command changes further. -/
theorem stepConsumesOne : Obligations.StepConsumesOne := by
  intro c l s t hq h
  rw [step_cons hq] at h
  have hpending := exec_pending h
  have hmdl := exec_mdl h
  have hnow := exec_now h
  exact ⟨hpending, hmdl, hnow⟩

/-- Settles O25: by whether a pass tick occurs, and by whether the controller runs normally. -/
theorem passTick : Obligations.PassTick := by
  refine ⟨fun s w h => ?_, fun s w h => ?_, fun s w => ?_, fun s h => ?_, fun s h => ?_⟩
  · rw [exec_passTick, State.passTick, if_neg (by simp [h])]
  · rw [exec_passTick, State.passTick, if_pos h]
  · exact ⟨_, exec_passTick w s, s.passTick_now w, exec_pending (exec_passTick w s), exec_mdl (exec_passTick w s)⟩
  · rw [exec_aliveEdge, State.aliveEdge, if_pos h]
  · rw [exec_aliveEdge, State.aliveEdge, if_neg (by simp [h])]

end Sys2Proof.Settled
end

section
/-! SUPPORT. What a read of a register answers, latches and clears, and what a read of a page that is off answers. -/

namespace Sys2Proof.Machine

variable {s t : State} {p : Port} {a : Nat} {r : Row}

/-- A read of an aligned address that the bus acknowledges is answered with the bus's word. -/
theorem State.portRead_of_some {w : Word} (hp : s.portOpen p = true) (ha : a < 0x100000) (h4 : a % 4 = 0)
    (h : s.busRead p a = (t, some w)) : s.portRead p a = t.send (.regData p a w) := by
  have hal : a % 0x100000 / 4 * 4 = a := by omega
  unfold State.portRead
  simp only [hal, hp, h, not_true_eq_false, if_false]

/-- A read of an aligned address that the bus does not acknowledge is answered so. -/
theorem State.portRead_of_none (hp : s.portOpen p = true) (ha : a < 0x100000) (h4 : a % 4 = 0)
    (h : s.busRead p a = (t, none)) : s.portRead p a = t.send (.regNack p a) := by
  have hal : a % 0x100000 / 4 * 4 = a := by omega
  unfold State.portRead
  simp only [hal, hp, h, not_true_eq_false, if_false]

/-- A read at a page that is on, outside the Atoll window and the semaphores, reads a register. -/
theorem State.busRead_register (hi : implemented (a / 0x1000) = true) (hg : s.gated (a / 0x1000) = false)
    (hw : a / 0x1000 ≠ 0x80 ∨ a % 0x1000 < 0x40) (hs : a / 0x100 ≠ 0x41) :
    s.busRead p a = ((s.readWord p a).1, some (s.readWord p a).2) := by
  have hw' : ¬ (a / 0x1000 = 0x80 ∧ 0x40 ≤ a % 0x1000) := by omega
  have hs' : ¬ (0x4100 ≤ a ∧ a < 0x4200) := by omega
  unfold State.busRead
  simp only [hi, hg, hw', hs', not_true_eq_false, Bool.false_and, Bool.false_eq_true, if_false]

/-- A read at a page that is gated or off is recorded, and answered with all ones or not acknowledged (R36). -/
theorem State.busRead_gated (hi : implemented (a / 0x1000) = true) (hg : s.gated (a / 0x1000) = true)
    (ho : a % 0x1000 ≠ 0) :
    s.busRead p a = (s.noteOff p a false, if p = .sideband then none else some 0xFFFFFFFF) := by
  unfold State.busRead
  simp [hi, hg, ho]

/-- Reading the low half of a pair latches the high half for the reader and clears what a read clears (R32). -/
theorem State.readWord_lo (hm : a / 0x1000 ≠ 0xB4) (hr : regRow a = some r) (hk : r.kind = .lo) :
    s.readWord p a = ({ s with
      latch := Sparse.set (fun _ => 0) s.latch (perKey p (a + 4)) (s.word (a + 4)) }.clearRead a r, s.peek p a) := by
  have h1 : a ≠ 0xB4084 := by omega
  have h2 : a ≠ 0xB4088 := by omega
  unfold State.readWord
  simp only [h1, h2, hr, hk, if_false]

/-- Reading a register of no pair clears what a read clears (R7). -/
theorem State.readWord_plain (hm : a / 0x1000 ≠ 0xB4) (hr : regRow a = some r) (hk : r.kind = .plain) :
    s.readWord p a = (s.clearRead a r, s.peek p a) := by
  have h1 : a ≠ 0xB4084 := by omega
  have h2 : a ≠ 0xB4088 := by omega
  unfold State.readWord
  simp only [h1, h2, hr, hk, if_false]

/-- The meaning of COUNTER_LO_READ. -/
theorem exec_counterLoRead (p : Port) (a : Nat) (s : State) : exec (.counterLoRead p a) s = .next (s.portRead p a) := rfl

/-- The meaning of RC_READ. -/
theorem exec_rcRead (p : Port) (a : Nat) (s : State) : exec (.rcRead p a) s = .next (s.portRead p a) := rfl

/-- The meaning of GATED_PAGE_READ. -/
theorem exec_gatedPageRead (p : Port) (a : Nat) (s : State) : exec (.gatedPageRead p a) s = .next (s.portRead p a) := rfl

end Sys2Proof.Machine

namespace Sys2Proof.Settled

open Sys2Proof.Machine

/-- Settles O29: a read reaches its register or is refused, and the kind of the register says what it latches and clears. -/
theorem counterReads : Obligations.CounterReads := by
  refine ⟨?_, ?_, ?_⟩
  · intro s p a r hp ha h4 hi hg hw hs hm hr hk
    have hb := State.busRead_register (p := p) hi hg hw hs
    rw [State.readWord_lo hm hr hk] at hb
    rw [exec_counterLoRead, State.portRead_of_some hp ha h4 hb]
  · intro s p a r hp ha h4 hi hg hw hs hm hr hk
    have hb := State.busRead_register (p := p) hi hg hw hs
    rw [State.readWord_plain hm hr hk] at hb
    rw [exec_rcRead, State.portRead_of_some hp ha h4 hb]
  · intro s p a hp ha h4 hi hg ho
    have hb := State.busRead_gated (p := p) hi hg ho
    rw [exec_gatedPageRead]
    by_cases hsb : p = .sideband
    · rw [if_pos hsb] at hb ⊢
      rw [State.portRead_of_none hp ha h4 hb]
    · rw [if_neg hsb] at hb ⊢
      rw [State.portRead_of_some hp ha h4 hb]

end Sys2Proof.Settled
end

section
/-! SUPPORT. What an accepted write stores: the bits of one field, the fold over a register's fields, and the register with
its page's count of writes. -/

namespace Sys2Proof.Machine

/-! ### Bits of a field -/

/-- A field's value is that of the bits cut out of the word. -/
theorem getBits_eq_extract (x : Word) (lo n : Nat) : getBits x lo n = (x.extractLsb' lo n).toNat := by
  rw [BitVec.extractLsb'_toNat, Nat.shiftRight_eq_div_pow, getBits]

/-- One bit of a field's value. -/
theorem testBit_getBits (x : Word) (lo n i : Nat) :
    (getBits x lo n).testBit i = (decide (i < n) && x.getLsbD (lo + i)) := by
  rw [getBits_eq_extract, BitVec.testBit_toNat, BitVec.getLsbD_extractLsb']

/-- A field's value fits its bits. -/
theorem getBits_lt (x : Word) (lo n : Nat) : getBits x lo n < 2 ^ n := Nat.mod_lt _ (Nat.two_pow_pos n)

/-- Taking from a word the bits it shares with another leaves those it does not share. -/
theorem sub_and_eq_and_not {n : Nat} (x y : BitVec n) : x - (x &&& y) = x &&& ~~~y := by
  have e : (x &&& y) + (x &&& ~~~y) = x := by
    rw [BitVec.add_eq_or_of_and_eq_zero]
    · ext i hi
      cases hy : y[i] <;> simp [hy]
    · ext i hi
      cases hy : y[i] <;> simp [hy]
  exact sub_eq_of_eq_add' e.symm

/-- Of a field less the bits it shares with `d`, bit `i` is set where it was and is not in `d`. -/
theorem testBit_getBits_sub_and (x d : Word) (lo n i : Nat) (hi : i < n) :
    (getBits x lo n - getBits (x &&& d) lo n).testBit i = (x.getLsbD (lo + i) && !d.getLsbD (lo + i)) := by
  have hle : x.extractLsb' lo n &&& d.extractLsb' lo n ≤ x.extractLsb' lo n := by
    rw [BitVec.le_def, BitVec.toNat_and]
    exact Nat.and_le_left
  rw [getBits_eq_extract, getBits_eq_extract, BitVec.extractLsb'_and, ← BitVec.toNat_sub_of_le hle, sub_and_eq_and_not,
    BitVec.testBit_toNat]
  simp [hi]

/-! ### The fields of a register -/

/-- Two fields that share no bit. -/
def FSpec.Apart (f g : FSpec) : Prop := f.lo + f.w ≤ g.lo ∨ g.lo + g.w ≤ f.lo

/-- Storing bits leaves a field apart from them. -/
theorem getBits_putBits_apart {f g : FSpec} (x : Word) (v : Nat) (hg : g.lo + g.w ≤ 32) (h : f.Apart g) :
    getBits (putBits x g.lo g.w v) f.lo f.w = getBits x f.lo f.w := by
  rcases h with h | h
  · exact getBits_putBits_low x g.lo g.w v f.lo f.w hg h
  · exact getBits_putBits_high x g.lo g.w v f.lo f.w hg h

variable (s : State) (a : Nat) (d w : Word) {f g : FSpec}

/-- Writing one field leaves a field apart from it. -/
theorem State.getBits_fieldWrite_apart (hg : g.lo + g.w ≤ 32) (h : f.Apart g) :
    getBits (s.fieldWrite a d w g) f.lo f.w = getBits w f.lo f.w := by
  unfold State.fieldWrite
  split
  case h_1 | h_2 | h_3 => exact getBits_putBits_apart w _ hg h
  all_goals rfl

/-- A field of code RW or RW/S takes the bits written, within its limits (R7, R94). -/
theorem State.getBits_fieldWrite_rw (hf : f.lo + f.w ≤ 32) (h : f.acc = .rw ∨ f.acc = .rws) :
    getBits (s.fieldWrite a d w f) f.lo f.w =
      s.adjusted a f.lo (f.limit (getBits d f.lo f.w)) d % 2 ^ f.w := by
  unfold State.fieldWrite
  rcases h with h | h <;> simp only [h, getBits_putBits_same _ _ _ _ hf]

/-- A W1C field keeps the bits that are not written as 1 (R7). -/
theorem State.getBits_fieldWrite_w1c (hf : f.lo + f.w ≤ 32) (h : f.acc = .w1c) :
    getBits (s.fieldWrite a d w f) f.lo f.w = getBits w f.lo f.w - getBits (w &&& d) f.lo f.w := by
  unfold State.fieldWrite
  simp only [h, getBits_putBits_same _ _ _ _ hf]
  exact Nat.mod_eq_of_lt (Nat.lt_of_le_of_lt (Nat.sub_le _ _) (getBits_lt w f.lo f.w))

/-- Every other field keeps its value (R7). -/
theorem State.fieldWrite_of_kept (h : f.acc = .ro ∨ f.acc = .wo ∨ f.acc = .w1s ∨ f.acc = .rc) :
    s.fieldWrite a d w f = w := by
  unfold State.fieldWrite
  rcases h with h | h | h | h <;> simp only [h]

/-- Writing fields apart from `f` leaves `f`. -/
theorem State.getBits_foldl_apart (l : List FSpec) (hl : ∀ g ∈ l, g.lo + g.w ≤ 32 ∧ f.Apart g) :
    getBits (l.foldl (s.fieldWrite a d) w) f.lo f.w = getBits w f.lo f.w := by
  induction l generalizing w with
  | nil => rfl
  | cons g l ih =>
    obtain ⟨hg, hfg⟩ := hl g List.mem_cons_self
    rw [List.foldl_cons, ih _ fun k hk => hl k (List.mem_cons_of_mem g hk), s.getBits_fieldWrite_apart a d w hg hfg]

/-- Of the fields of a register written one after the other, each is written from a word that holds what the field held. -/
theorem State.getBits_foldl_fieldWrite {l : List FSpec} (hl : FieldsApart l) (hf : f ∈ l) :
    ∃ x : Word, getBits x f.lo f.w = getBits w f.lo f.w ∧
      getBits (l.foldl (s.fieldWrite a d) w) f.lo f.w = getBits (s.fieldWrite a d x f) f.lo f.w := by
  induction l generalizing w with
  | nil => cases hf
  | cons g l ih =>
    obtain ⟨hin, hpair⟩ := hl
    obtain ⟨hg, hrest⟩ := List.pairwise_cons.mp hpair
    have hinl : ∀ k ∈ l, k.lo + k.w ≤ 32 := fun k hk => hin k (List.mem_cons_of_mem g hk)
    rw [List.foldl_cons]
    rcases List.mem_cons.mp hf with rfl | hfl
    · exact ⟨w, rfl, s.getBits_foldl_apart a d _ l fun k hk => ⟨hinl k hk, hg k hk⟩⟩
    · obtain ⟨x, hx, he⟩ := ih (s.fieldWrite a d w g) ⟨hinl, hrest⟩ hfl
      have hgf : f.Apart g := (hg f hfl).symm
      exact ⟨x, hx.trans (s.getBits_fieldWrite_apart a d w (hin g List.mem_cons_self) hgf), he⟩

/-! ### The registers with fields -/

/-- An implemented page is one of the 256 of the address space (R24). -/
theorem lt_of_implemented {pg : Nat} (h : implemented pg = true) : pg < 0x100 := by
  obtain ⟨b, hb⟩ := Option.isSome_iff_exists.mp h
  have hin := List.find?_some hb
  have hmem : ∀ b ∈ pageMap, b.first + b.pages ≤ 0x100 := by decide
  have hle := hmem b (List.mem_of_find?_eq_some hb)
  simp only [decide_eq_true_eq] at hin
  omega

/-- A register lies on an implemented page. -/
theorem implemented_of_regRow {a : Nat} {r : Row} (h : regRow a = some r) : implemented (a / 0x1000) = true := by
  by_contra hi
  rw [regRow, if_pos hi] at h
  cases h

/-- A header register has the header's fields, and no shadow or copies. -/
theorem regRow_header {a : Nat} (hi : implemented (a / 0x1000) = true) (ho : a % 0x1000 < 0x40) : regRow a =
    some ⟨a / 0x1000, 1, a % 0x1000, 1, 4, false, false, .plain, headerFields (a / 0x1000) (a % 0x1000)⟩ := by
  rw [regRow, if_neg (not_not.mpr hi), if_pos ho]

/-- A register past the header is a row of the map. -/
theorem regRow_row {a : Nat} (hi : implemented (a / 0x1000) = true) (ho : ¬ a % 0x1000 < 0x40) : regRow a = rowOf a := by
  rw [regRow, if_neg (not_not.mpr hi), if_neg ho]

/-- No field of a header lies at an unaligned offset. -/
theorem headerFields_unaligned (pg : Nat) {o : Nat} (h : o % 4 ≠ 0) : headerFields pg o = [] := by
  unfold headerFields
  repeat rw [if_neg (by omega)]

/-- The fields of a row of the map are apart. -/
theorem rowOf_apart {a : Nat} {r : Row} (h : rowOf a = some r) : FieldsApart r.flds := by
  unfold rowOf at h
  split at h
  · cases h
  · next t ht => exact rows_apart t (List.mem_of_find?_eq_some ht) r (List.mem_of_find?_eq_some h)

/-- The fields of a register at any address are apart. -/
theorem fieldsApart_of_regRow {a : Nat} {r : Row} (h : regRow a = some r) : FieldsApart r.flds := by
  have hi := implemented_of_regRow h
  have ha := lt_of_implemented hi
  by_cases h4 : a % 4 = 0
  · exact regRow_apart h4 (by omega) h
  · by_cases ho : a % 0x1000 < 0x40
    · rw [regRow_header hi ho, headerFields_unaligned _ (by omega)] at h
      cases h
      exact ⟨fun f hf => absurd hf List.not_mem_nil, List.Pairwise.nil⟩
    · rw [regRow_row hi ho] at h
      exact rowOf_apart h

/-! ### The register written and its page's count -/

variable {s a d} {u : State} {p : Port} {r : Row}

/-- The word that a write of register `a` leaves under its key. -/
def State.storedWord (s : State) (p : Port) (a : Nat) (r : Row) (d : Word) : Word :=
  r.flds.foldl (s.fieldWrite a d) (s.word (writeKey p a r))

/-- What an accepted write leaves: the fields stored, and the write counted. -/
theorem State.accepted_eq (h : s.accepted p a d = some u) (hr : regRow a = some r) :
    u = (s.storeFields p a r d).countWrite (a / 0x1000) := by
  unfold State.accepted at h
  rw [hr] at h
  split at h
  · split at h
    · cases h
    · next r' hr' =>
      cases hr'
      split at h
      · cases h
      · exact (Option.some.inj h).symm
  · cases h

/-- Among the registers, storing the fields is storing the word they make. -/
theorem State.word_storeFields (k : Nat) : (s.storeFields p a r d).word k =
    (s.setWord (writeKey p a r) (s.storedWord p a r d)).word k := by
  unfold State.storeFields
  extract_lets k' w t
  split <;> rfl

/-- The key of another register than the one written. -/
theorem State.word_storeFields_other {k : Nat} (hk : k ≠ writeKey p a r) : (s.storeFields p a r d).word k = s.word k := by
  rw [s.word_storeFields, s.word_setWord_other _ _ _ hk]

/-- The key of the register written. -/
theorem State.word_storeFields_same (hs : s.Canon) :
    (s.storeFields p a r d).word (writeKey p a r) = s.storedWord p a r d := by
  rw [s.word_storeFields, s.word_setWord_same _ _ hs]

/-- Storing fields keeps the canonical form. -/
theorem State.canon_storeFields (hs : s.Canon) : (s.storeFields p a r d).Canon :=
  (State.storeFields_touches (m := 0x6) (touches_refl _ s) (by decide) p a r d).canon hs

/-- Only PAGE_SEQ itself has the key of its page's PAGE_SEQ, and its one field is not writable (R27). -/
theorem State.storedWord_pageSeq (hr : regRow a = some r) (hk : writeKey p a r = (PAGE_SEQ_COUNT (a / 0x1000)).addr) :
    s.storedWord p a r d = s.word (writeKey p a r) := by
  have hi := implemented_of_regRow hr
  have hlt := lt_of_implemented hi
  have ho : a % 0x1000 = 0x3C := by
    unfold writeKey perKey at hk
    split_ifs at hk
    · simp only at hk; omega
    · cases p <;> simp only at hk <;> omega
    · simp only at hk; omega
  rw [regRow_header hi (by omega), ho] at hr
  cases hr
  rfl

/-- An accepted write counts in PAGE_SEQ, wrapping (R27). -/
theorem State.get_pageSeq_of_accepted (hs : s.Canon) (h : s.accepted p a d = some u) (hr : regRow a = some r) :
    u.get (PAGE_SEQ_COUNT (a / 0x1000)) = (s.get (PAGE_SEQ_COUNT (a / 0x1000)) + 1) % 2 ^ 32 := by
  have hseq : (s.storeFields p a r d).get (PAGE_SEQ_COUNT (a / 0x1000)) = s.get (PAGE_SEQ_COUNT (a / 0x1000)) := by
    by_cases hk : writeKey p a r = (PAGE_SEQ_COUNT (a / 0x1000)).addr
    · unfold State.get
      rw [← hk, State.word_storeFields_same hs, State.storedWord_pageSeq hr hk]
    · unfold State.get
      rw [State.word_storeFields_other (Ne.symm hk)]
  rw [State.accepted_eq h hr, State.countWrite, State.get_put_same _ _ _ (State.canon_storeFields hs) (by simp),
    hseq, Nat.mod_mod]

/-- An accepted write leaves every register but the one written and PAGE_SEQ. -/
theorem State.word_accepted_other (h : s.accepted p a d = some u) (hr : regRow a = some r) {k : Nat}
    (hk : k ≠ writeKey p a r) (hq : k ≠ (PAGE_SEQ_COUNT (a / 0x1000)).addr) : u.word k = s.word k := by
  rw [State.accepted_eq h hr, State.countWrite, State.word_put_other _ _ _ _ hq, State.word_storeFields_other hk]

/-- The register written, where it is not PAGE_SEQ, holds the word its fields make. -/
theorem State.word_accepted_same (hs : s.Canon) (h : s.accepted p a d = some u) (hr : regRow a = some r)
    (hq : writeKey p a r ≠ (PAGE_SEQ_COUNT (a / 0x1000)).addr) : u.word (writeKey p a r) = s.storedWord p a r d := by
  rw [State.accepted_eq h hr, State.countWrite, State.word_put_other _ _ _ _ hq, State.word_storeFields_same hs]

end Sys2Proof.Machine

namespace Sys2Proof.Settled

open Sys2Proof.Machine

/-- Settles O13: the fields of a register do not overlap, so that each is written as if it stood alone. -/
theorem storedFields : Obligations.StoredFields := by
  intro s u p a d r hs h hr
  refine ⟨fun k => State.word_accepted_other h hr, State.get_pageSeq_of_accepted hs h hr, fun hq f hf => ?_⟩
  have hap := fieldsApart_of_regRow hr
  have h32 : f.lo + f.w ≤ 32 := hap.1 f hf
  have hu := State.word_accepted_same hs h hr hq
  obtain ⟨x, hx, hfold⟩ := s.getBits_foldl_fieldWrite a d (s.word (writeKey p a r)) hap hf
  have hget : getBits (u.word (writeKey p a r)) f.lo f.w = getBits (s.fieldWrite a d x f) f.lo f.w := by
    rw [hu, ← hfold, State.storedWord]
  refine ⟨fun hacc => ?_, fun hacc i hi => ?_, fun hacc => ?_⟩
  · exact hget.trans (s.getBits_fieldWrite_rw a d x h32 hacc)
  · have hold : x.getLsbD (f.lo + i) = (s.word (writeKey p a r)).getLsbD (f.lo + i) := by
      have hbit := congrArg (·.testBit i) hx
      simpa [testBit_getBits, hi] using hbit
    have hbit := congrArg (·.testBit i) (hget.trans (s.getBits_fieldWrite_w1c a d x h32 hacc))
    simpa [testBit_getBits, testBit_getBits_sub_and, hi, hold] using hbit
  · rw [s.fieldWrite_of_kept a d x hacc, hx] at hget
    exact hget

end Sys2Proof.Settled
end

section
/-! SUPPORT. A command that answers a next state keeps the canonical form. -/

namespace Sys2Proof.Machine

/-- Every command has its law: where it answers a next state, it touches some parts of the state and keeps the canonical
form. -/
theorem exec_touches {c : Instr} {s t : State} (he : exec c s = .next t) : ∃ m, Touches m s t := by
  cases c with
  | passTick w => exact ⟨_, execPassTick_touches w he⟩
  | aliveEdge => exact ⟨_, execAliveEdge_touches he⟩
  | mastershipTakeover late => exact ⟨_, execMastershipTakeover_touches late he⟩
  | registerWrite p addr mask data => exact ⟨_, execRegisterWrite_touches p addr mask data he⟩
  | counterLoRead p addr => exact ⟨_, execCounterLoRead_touches p addr he⟩
  | rcRead p addr => exact ⟨_, execRcRead_touches p addr he⟩
  | semClaim n readers => exact ⟨_, execSemClaim_touches n readers he⟩
  | semRelease p n owner => exact ⟨_, execSemRelease_touches p n owner he⟩
  | semBreak p n owner => exact ⟨_, execSemBreak_touches p n owner he⟩
  | semLeaseExpiry n => exact ⟨_, execSemLeaseExpiry_touches n he⟩
  | shadowArm p page => exact ⟨_, execShadowArm_touches p page he⟩
  | shadowDiscard p page => exact ⟨_, execShadowDiscard_touches p page he⟩
  | softRst p page => exact ⟨_, execSoftRst_touches p page he⟩
  | clkGate p page on => exact ⟨_, execClkGate_touches p page on he⟩
  | pageEn p page on => exact ⟨_, execPageEn_touches p page on he⟩
  | intForce p page causes => exact ⟨_, execIntForce_touches p page causes he⟩
  | errForce p page sources => exact ⟨_, execErrForce_touches p page sources he⟩
  | mgpEoi p v => exact ⟨_, execMgpEoi_touches p v he⟩
  | msixHeldSend => exact ⟨_, execMsixHeldSend_touches he⟩
  | cxlMemWrite n line tag data be poison => exact ⟨_, execCxlMemWrite_touches n line tag data be poison he⟩
  | cxlMemRead n line tag => exact ⟨_, execCxlMemRead_touches n line tag he⟩
  | isletRecordReadDone => exact ⟨_, execIsletRecordReadDone_touches he⟩
  | paceAdmit => exact ⟨_, execPaceAdmit_touches he⟩
  | holdMaxAdmit => exact ⟨_, execHoldMaxAdmit_touches he⟩
  | budgetCompute tj => exact ⟨_, execBudgetCompute_touches tj he⟩
  | gaugeStale late => exact ⟨_, execGaugeStale_touches late he⟩
  | epochClose => exact ⟨_, execEpochClose_touches he⟩
  | coolingWalkDone => exact ⟨_, execCoolingWalkDone_touches he⟩
  | epochSeal rearmed again => exact ⟨_, execEpochSeal_touches rearmed again he⟩
  | planeClearDone => exact ⟨_, execPlaneClearDone_touches he⟩
  | persBarPost p tag => exact ⟨_, execPersBarPost_touches p tag he⟩
  | persQIslet p islet => exact ⟨_, execPersQIslet_touches p islet he⟩
  | isletLookupDone => exact ⟨_, execIsletLookupDone_touches he⟩
  | shadowReadEnd islet => exact ⟨_, execShadowReadEnd_touches islet he⟩
  | stripeAgeExpiry slc => exact ⟨_, execStripeAgeExpiry_touches slc he⟩
  | sweepRoundDone => exact ⟨_, execSweepRoundDone_touches he⟩
  | barrierSweepDone => exact ⟨_, execBarrierSweepDone_touches he⟩
  | pfailInFall => exact ⟨_, execPfailInFall_touches he⟩
  | pfailDebounceDone => exact ⟨_, execPfailDebounceDone_touches he⟩
  | pfailGlitch samples => exact ⟨_, execPfailGlitch_touches samples he⟩
  | pfailInRise => exact ⟨_, execPfailInRise_touches he⟩
  | holdRailTrip => exact ⟨_, execHoldRailTrip_touches he⟩
  | holdRailClose started => exact ⟨_, execHoldRailClose_touches started he⟩
  | saveWritesApplied => exact ⟨_, execSaveWritesApplied_touches he⟩
  | saveDataDone => exact ⟨_, execSaveDataDone_touches he⟩
  | energyCutoff started => exact ⟨_, execEnergyCutoff_touches started he⟩
  | saveSealProgrammed => exact ⟨_, execSaveSealProgrammed_touches he⟩
  | saveSealReadback => exact ⟨_, execSaveSealReadback_touches he⟩
  | saveBasinEntry refreshed => exact ⟨_, execSaveBasinEntry_touches refreshed he⟩
  | selfTestDone pass => exact ⟨_, execSelfTestDone_touches pass he⟩
  | powerReturn => exact ⟨_, execPowerReturn_touches he⟩
  | powerLoss torn => exact ⟨_, execPowerLoss_touches torn he⟩
  | railOutOfBand rail => exact ⟨_, execRailOutOfBand_touches rail he⟩
  | dramRailFault => exact ⟨_, execDramRailFault_touches he⟩
  | gpfPhase1 => exact ⟨_, execGpfPhase1_touches he⟩
  | gpfPhase2 => exact ⟨_, execGpfPhase2_touches he⟩
  | gpfPhase2Done => exact ⟨_, execGpfPhase2Done_touches he⟩
  | dramTrainingDone fell lowered failed => exact ⟨_, execDramTrainingDone_touches fell lowered failed he⟩
  | imageDetectDone found => exact ⟨_, execImageDetectDone_touches found he⟩
  | metadataLoadDone => exact ⟨_, execMetadataLoadDone_touches he⟩
  | faultInDone islet us rebuilt lost late => exact ⟨_, execFaultInDone_touches islet us rebuilt lost late he⟩
  | restoreIsletDone zero rebuilt lost => exact ⟨_, execRestoreIsletDone_touches zero rebuilt lost he⟩
  | warmCheckDone good => exact ⟨_, execWarmCheckDone_touches good he⟩
  | cascadeWaitExpiry => exact ⟨_, execCascadeWaitExpiry_touches he⟩
  | flashOpEnqueue c o => exact ⟨_, execFlashOpEnqueue_touches c o he⟩
  | resumeWindowExpiry c d => exact ⟨_, execResumeWindowExpiry_touches c d he⟩
  | flashReadDone c d plane b r last scan => exact ⟨_, execFlashReadDone_touches c d plane b r last scan he⟩
  | flashProgramDone c d good us => exact ⟨_, execFlashProgramDone_touches c d good us he⟩
  | flashEraseDone c d e => exact ⟨_, execFlashEraseDone_touches c d e he⟩
  | dieReadyTimeout c d late => exact ⟨_, execDieReadyTimeout_touches c d late he⟩
  | fchRetrain p c => exact ⟨_, execFchRetrain_touches p c he⟩
  | flashChannelTrained c good found => exact ⟨_, execFlashChannelTrained_touches c good found he⟩
  | farrQBlock p query => exact ⟨_, execFarrQBlock_touches p query he⟩
  | blockLookupDone => exact ⟨_, execBlockLookupDone_touches he⟩
  | movStart p c => exact ⟨_, execMovStart_touches p c he⟩
  | movAbort p c => exact ⟨_, execMovAbort_touches p c he⟩
  | move c => exact ⟨_, execMove_touches c he⟩
  | spread c => exact ⟨_, execSpread_touches c he⟩
  | loop c => exact ⟨_, execLoop_touches c he⟩
  | wait c => exact ⟨_, execWait_touches c he⟩
  | signal c cycle => exact ⟨_, execSignal_touches c cycle he⟩
  | halt c cycle => exact ⟨_, execHalt_touches c cycle he⟩
  | nop c => exact ⟨_, execNop_touches c he⟩
  | illegal c cycle => exact ⟨_, execIllegal_touches c cycle he⟩
  | pcRange c cycle => exact ⟨_, execPcRange_touches c cycle he⟩
  | pmUe c cycle => exact ⟨_, execPmUe_touches c cycle he⟩
  | moverTransferDone c hit why => exact ⟨_, execMoverTransferDone_touches c hit why he⟩
  | waitEnd c => exact ⟨_, execWaitEnd_touches c he⟩
  | waitTimeout c cycle => exact ⟨_, execWaitTimeout_touches c cycle he⟩
  | pmDataHiWrite p hi => exact ⟨_, execPmDataHiWrite_touches p hi he⟩
  | pmDataLoRead p => exact ⟨_, execPmDataLoRead_touches p he⟩
  | pmDataHiRead p => exact ⟨_, execPmDataHiRead_touches p he⟩
  | collectorDrain cycle => exact ⟨_, execCollectorDrain_touches cycle he⟩
  | mvgCpop p => exact ⟨_, execMvgCpop_touches p he⟩
  | dramReadDone line r o record => exact ⟨_, execDramReadDone_touches line r o record he⟩
  | repairWrite line => exact ⟨_, execRepairWrite_touches line he⟩
  | refreshDue sc lrank queued => exact ⟨_, execRefreshDue_touches sc lrank queued he⟩
  | mr4Poll d doubled => exact ⟨_, execMr4Poll_touches d doubled he⟩
  | rankPowerDown d r late => exact ⟨_, execRankPowerDown_touches d r late he⟩
  | rowIdleClose bank => exact ⟨_, execRowIdleClose_touches bank he⟩
  | caParityAlert sc => exact ⟨_, execCaParityAlert_touches sc he⟩
  | caAlertClear sc => exact ⟨_, execCaAlertClear_touches sc he⟩
  | inPlaceRetrainDone sc margin => exact ⟨_, execInPlaceRetrainDone_touches sc margin he⟩
  | dtrnGo p => exact ⟨_, execDtrnGo_touches p he⟩
  | dtrnStop p => exact ⟨_, execDtrnStop_touches p he⟩
  | dtrnDone lanes mismatches => exact ⟨_, execDtrnDone_touches lanes mismatches he⟩
  | perstAssert => exact ⟨_, execPerstAssert_touches he⟩
  | perstRelease => exact ⟨_, execPerstRelease_touches he⟩
  | linkUp rate flit256 lanes => exact ⟨_, execLinkUp_touches rate flit256 lanes he⟩
  | linkDown => exact ⟨_, execLinkDown_touches he⟩
  | linkFail => exact ⟨_, execLinkFail_touches he⟩
  | l1Exit => exact ⟨_, execL1Exit_touches he⟩
  | configRequest q => exact ⟨_, execConfigRequest_touches q he⟩
  | creditStall => exact ⟨_, execCreditStall_touches he⟩
  | decoderCommit n base size dpa iw ig => exact ⟨_, execDecoderCommit_touches n base size dpa iw ig he⟩
  | memEnable => exact ⟨_, execMemEnable_touches he⟩
  | getEventRecords log => exact ⟨_, execGetEventRecords_touches log he⟩
  | clearEventRecords log every handles => exact ⟨_, execClearEventRecords_touches log every handles he⟩
  | getEventInterruptPolicy => exact ⟨_, execGetEventInterruptPolicy_touches he⟩
  | setEventInterruptPolicy modes => exact ⟨_, execSetEventInterruptPolicy_touches modes he⟩
  | getFwInfo => exact ⟨_, execGetFwInfo_touches he⟩
  | unsupportedCommand => exact ⟨_, execUnsupportedCommand_touches he⟩
  | getTimestamp => exact ⟨_, execGetTimestamp_touches he⟩
  | setTimestamp ns => exact ⟨_, execSetTimestamp_touches ns he⟩
  | getSupportedLogs => exact ⟨_, execGetSupportedLogs_touches he⟩
  | getLog uuid offset length => exact ⟨_, execGetLog_touches uuid offset length he⟩
  | identifyMemoryDevice => exact ⟨_, execIdentifyMemoryDevice_touches he⟩
  | getHealthInfo => exact ⟨_, execGetHealthInfo_touches he⟩
  | getAlertConfig => exact ⟨_, execGetAlertConfig_touches he⟩
  | setAlertConfig config => exact ⟨_, execSetAlertConfig_touches config he⟩
  | getShutdownState => exact ⟨_, execGetShutdownState_touches he⟩
  | setShutdownState v => exact ⟨_, execSetShutdownState_touches v he⟩
  | getPoisonList dpa length => exact ⟨_, execGetPoisonList_touches dpa length he⟩
  | injectPoison dpa => exact ⟨_, execInjectPoison_touches dpa he⟩
  | clearPoison dpa data => exact ⟨_, execClearPoison_touches dpa data he⟩
  | sanitize => exact ⟨_, execSanitize_touches he⟩
  | sanitizeDone => exact ⟨_, execSanitizeDone_touches he⟩
  | barrierPost tag => exact ⟨_, execBarrierPost_touches tag he⟩
  | barrierStatus seq => exact ⟨_, execBarrierStatus_touches seq he⟩
  | budgetQuery => exact ⟨_, execBudgetQuery_touches he⟩
  | imageStatus => exact ⟨_, execImageStatus_touches he⟩
  | cascadeStatus => exact ⟨_, execCascadeStatus_touches he⟩
  | formatArray confirm flags tag size => exact ⟨_, execFormatArray_touches confirm flags tag size he⟩
  | formatArrayDone => exact ⟨_, execFormatArrayDone_touches he⟩
  | keyImportBegin => exact ⟨_, execKeyImportBegin_touches he⟩
  | keyExport slot receiver => exact ⟨_, execKeyExport_touches slot receiver he⟩
  | keyImport sender keyId wrapped => exact ⟨_, execKeyImport_touches sender keyId wrapped he⟩
  | straitPortTrained port partner ring => exact ⟨_, execStraitPortTrained_touches port partner ring he⟩
  | censusDone => exact ⟨_, execCensusDone_touches he⟩
  | masterElection => exact ⟨_, execMasterElection_touches he⟩
  | straitPeriodicSend k => exact ⟨_, execStraitPeriodicSend_touches k he⟩
  | straitFrameBad mine => exact ⟨_, execStraitFrameBad_touches mine he⟩
  | heartbeat h payload => exact ⟨_, execHeartbeat_touches h payload he⟩
  | probe h turn => exact ⟨_, execProbe_touches h turn he⟩
  | echo h payload trip => exact ⟨_, execEcho_touches h payload trip he⟩
  | tickSync h payload offset lag residence => exact ⟨_, execTickSync_touches h payload offset lag residence he⟩
  | memberInfo h payload => exact ⟨_, execMemberInfo_touches h payload he⟩
  | share h payload => exact ⟨_, execShare_touches h payload he⟩
  | tailDone h payload => exact ⟨_, execTailDone_touches h payload he⟩
  | closeIssue => exact ⟨_, execCloseIssue_touches he⟩
  | close h payload => exact ⟨_, execClose_touches h payload he⟩
  | sealedFrame h payload => exact ⟨_, execSealedFrame_touches h payload he⟩
  | groupSealed h payload => exact ⟨_, execGroupSealed_touches h payload he⟩
  | straitSave h => exact ⟨_, execStraitSave_touches h he⟩
  | saveStart h payload => exact ⟨_, execSaveStart_touches h payload he⟩
  | saveEnd h payload => exact ⟨_, execSaveEnd_touches h payload he⟩
  | imageStatusFrame h payload => exact ⟨_, execImageStatusFrame_touches h payload he⟩
  | groupPoint h payload => exact ⟨_, execGroupPoint_touches h payload he⟩
  | masterClaim h payload => exact ⟨_, execMasterClaim_touches h payload he⟩
  | eventFrame h payload => exact ⟨_, execEventFrame_touches h payload he⟩
  | peerSilent d late => exact ⟨_, execPeerSilent_touches d late he⟩
  | strtRetrain p => exact ⟨_, execStrtRetrain_touches p he⟩
  | refLoss => exact ⟨_, execRefLoss_touches he⟩
  | refBack ppm => exact ⟨_, execRefBack_touches ppm he⟩
  | aonClkLoss => exact ⟨_, execAonClkLoss_touches he⟩
  | pllLock k => exact ⟨_, execPllLock_touches k he⟩
  | pllUnlock k => exact ⟨_, execPllUnlock_touches k he⟩
  | powerOnReset retries => exact ⟨_, execPowerOnReset_touches retries he⟩
  | bootImageVerified active other => exact ⟨_, execBootImageVerified_touches active other he⟩
  | configurationDone ver kinds => exact ⟨_, execConfigurationDone_touches ver kinds he⟩
  | rstKey p key => exact ⟨_, execRstKey_touches p key he⟩
  | devRst p => exact ⟨_, execDevRst_touches p he⟩
  | quiesceDone refreshed stored => exact ⟨_, execQuiesceDone_touches refreshed stored he⟩
  | resetHoldRelease => exact ⟨_, execResetHoldRelease_touches he⟩
  | recoverySample first second => exact ⟨_, execRecoverySample_touches first second he⟩
  | faultDetect page src kind addr cycle place alt =>
    exact ⟨_, execFaultDetect_touches page src kind addr cycle place alt he⟩
  | faultRecord => exact ⟨_, execFaultRecord_touches he⟩
  | blockResetDone w late => exact ⟨_, execBlockResetDone_touches w late he⟩
  | resetOverrun b => exact ⟨_, execResetOverrun_touches b he⟩
  | resetStuck d => exact ⟨_, execResetStuck_touches d he⟩
  | resetShadowEnd w us => exact ⟨_, execResetShadowEnd_touches w us he⟩
  | tickStall => exact ⟨_, execTickStall_touches he⟩
  | glenWdog k cycle => exact ⟨_, execGlenWdog_touches k cycle he⟩
  | glenRestartDone k us => exact ⟨_, execGlenRestartDone_touches k us he⟩
  | fltPop p => exact ⟨_, execFltPop_touches p he⟩
  | fltFirstClr p => exact ⟨_, execFltFirstClr_touches p he⟩
  | recEvent b code coincident detail => exact ⟨_, execRecEvent_touches b code coincident detail he⟩
  | hoursNote => exact ⟨_, execHoursNote_touches he⟩
  | flush p => exact ⟨_, execFlush_touches p he⟩
  | flushDone failed => exact ⟨_, execFlushDone_touches failed he⟩
  | freeze p on => exact ⟨_, execFreeze_touches p on he⟩
  | freezeTimeout => exact ⟨_, execFreezeTimeout_touches he⟩
  | recRdSeq p rseq => exact ⟨_, execRecRdSeq_touches p rseq he⟩
  | recReadDone p bad early => exact ⟨_, execRecReadDone_touches p bad early he⟩
  | atolProgram p => exact ⟨_, execAtolProgram_touches p he⟩
  | atolErase p => exact ⟨_, execAtolErase_touches p he⟩
  | atolHalt p => exact ⟨_, execAtolHalt_touches p he⟩
  | atolContinue p => exact ⟨_, execAtolContinue_touches p he⟩
  | atolStatus p => exact ⟨_, execAtolStatus_touches p he⟩
  | atolCounts p => exact ⟨_, execAtolCounts_touches p he⟩
  | atolFlip p => exact ⟨_, execAtolFlip_touches p he⟩
  | atolProtect p lvl => exact ⟨_, execAtolProtect_touches p lvl he⟩
  | atolIdle p => exact ⟨_, execAtolIdle_touches p he⟩
  | atolWindowData p offset data late => exact ⟨_, execAtolWindowData_touches p offset data late he⟩
  | atolWindowRead p offset cbits ue => exact ⟨_, execAtolWindowRead_touches p offset cbits ue he⟩
  | atolSeqTimeout p => exact ⟨_, execAtolSeqTimeout_touches p he⟩
  | atolProgramDone pulses good => exact ⟨_, execAtolProgramDone_touches pulses good he⟩
  | atolEraseDone good => exact ⟨_, execAtolEraseDone_touches good he⟩
  | wipeDone => exact ⟨_, execWipeDone_touches he⟩
  | pollDue n => exact ⟨_, execPollDue_touches n he⟩
  | twlTransactionStart => exact ⟨_, execTwlTransactionStart_touches he⟩
  | twlTransactionDone e => exact ⟨_, execTwlTransactionDone_touches e he⟩
  | twlTimeout stuck => exact ⟨_, execTwlTimeout_touches stuck he⟩
  | busStuckRetry freed => exact ⟨_, execBusStuckRetry_touches freed he⟩
  | hostNotify addr status => exact ⟨_, execHostNotify_touches addr status he⟩
  | twlNpop p => exact ⟨_, execTwlNpop_touches p he⟩
  | locAlert low => exact ⟨_, execLocAlert_touches low he⟩
  | araBackoff => exact ⟨_, execAraBackoff_touches he⟩
  | twlXcmdGo p => exact ⟨_, execTwlXcmdGo_touches p he⟩
  | regWrite count a0 a1 a2 words pecOk => exact ⟨_, execRegWrite_touches count a0 a1 a2 words pecOk he⟩
  | regRead count a0 a1 a2 k => exact ⟨_, execRegRead_touches count a0 a1 a2 k he⟩
  | reset count bytes pecOk => exact ⟨_, execReset_touches count bytes pecOk he⟩
  | sbAra => exact ⟨_, execSbAra_touches he⟩
  | sbTimeout => exact ⟨_, execSbTimeout_touches he⟩
  | sbProtocolAbandon => exact ⟨_, execSbProtocolAbandon_touches he⟩
  | ident tag good => exact ⟨_, execIdent_touches tag good he⟩
  | svcFrameShort => exact ⟨_, execSvcFrameShort_touches he⟩
  | status tag good => exact ⟨_, execStatus_touches tag good he⟩
  | pkgBegin tag good payload => exact ⟨_, execPkgBegin_touches tag good payload he⟩
  | updHashDone => exact ⟨_, execUpdHashDone_touches he⟩
  | updEraseDone => exact ⟨_, execUpdEraseDone_touches he⟩
  | pkgData tag good payload => exact ⟨_, execPkgData_touches tag good payload he⟩
  | pkgEnd tag good => exact ⟨_, execPkgEnd_touches tag good he⟩
  | updCheckDone => exact ⟨_, execUpdCheckDone_touches he⟩
  | activate tag good => exact ⟨_, execActivate_touches tag good he⟩
  | abort tag good => exact ⟨_, execAbort_touches tag good he⟩
  | rcvBegin tag good payload => exact ⟨_, execRcvBegin_touches tag good payload he⟩
  | rcvData tag good payload => exact ⟨_, execRcvData_touches tag good payload he⟩
  | rcvEnd tag good => exact ⟨_, execRcvEnd_touches tag good he⟩
  | rcvCheckDone => exact ⟨_, execRcvCheckDone_touches he⟩
  | protSet tag good payload => exact ⟨_, execProtSet_touches tag good payload he⟩
  | ecRead tag good payload => exact ⟨_, execEcRead_touches tag good payload he⟩
  | requestTerrace p => exact ⟨_, execRequestTerrace_touches p he⟩
  | requestBasin p => exact ⟨_, execRequestBasin_touches p he⟩
  | requestRun p => exact ⟨_, execRequestRun_touches p he⟩
  | autoTerrace leaves => exact ⟨_, execAutoTerrace_touches leaves he⟩
  | l2Entry => exact ⟨_, execL2Entry_touches he⟩
  | stopPointReached => exact ⟨_, execStopPointReached_touches he⟩
  | domainReady => exact ⟨_, execDomainReady_touches he⟩
  | domainTimeout d late => exact ⟨_, execDomainTimeout_touches d late he⟩
  | exitDone => exact ⟨_, execExitDone_touches he⟩
  | scrubLineDue => exact ⟨_, execScrubLineDue_touches he⟩
  | roundLate => exact ⟨_, execRoundLate_touches he⟩
  | retentionScanDue restored => exact ⟨_, execRetentionScanDue_touches restored he⟩
  | scanLate => exact ⟨_, execScanLate_touches he⟩
  | zqDue sc lrank => exact ⟨_, execZqDue_touches sc lrank he⟩
  | oscDue sc lrank drift => exact ⟨_, execOscDue_touches sc lrank drift he⟩
  | fcalDue c d plane group below present above => exact ⟨_, execFcalDue_touches c d plane group below present above he⟩
  | onfiZqDue c => exact ⟨_, execOnfiZqDue_touches c he⟩
  | capTestDue => exact ⟨_, execCapTestDue_touches he⟩
  | capGo p => exact ⟨_, execCapGo_touches p he⟩
  | capMaxExpiry late => exact ⟨_, execCapMaxExpiry_touches late he⟩
  | wearHorizonUpdate => exact ⟨_, execWearHorizonUpdate_touches he⟩
  | telemetrySample tj mw => exact ⟨_, execTelemetrySample_touches tj mw he⟩
  | dscrMpop p => exact ⟨_, execDscrMpop_touches p he⟩
  | tapReset => exact ⟨_, execTapReset_touches he⟩
  | extest pins shifted => exact ⟨_, execExtest_touches pins shifted he⟩
  | sample pins => exact ⟨_, execSample_touches pins he⟩
  | preload pins shifted => exact ⟨_, execPreload_touches pins shifted he⟩
  | idcode => exact ⟨_, execIdcode_touches he⟩
  | clamp => exact ⟨_, execClamp_touches he⟩
  | highz => exact ⟨_, execHighz_touches he⟩
  | extestPulse pins shifted => exact ⟨_, execExtestPulse_touches pins shifted he⟩
  | extestTrain pins shifted => exact ⟨_, execExtestTrain_touches pins shifted he⟩
  | sysId => exact ⟨_, execSysId_touches he⟩
  | tstReset => exact ⟨_, execTstReset_touches he⟩
  | atolRead word cbits ue ready => exact ⟨_, execAtolRead_touches word cbits ue ready he⟩
  | atolEc b => exact ⟨_, execAtolEc_touches b he⟩
  | bypass code => exact ⟨_, execBypass_touches code he⟩
  | portDown port => exact ⟨_, execPortDown_touches port he⟩
  | linkRecovery errors down => exact ⟨_, execLinkRecovery_touches errors down he⟩
  | l1Entry => exact ⟨_, execL1Entry_touches he⟩
  | hotReset => exact ⟨_, execHotReset_touches he⟩
  | holdRailReturn => exact ⟨_, execHoldRailReturn_touches he⟩
  | shareTimeout => exact ⟨_, execShareTimeout_touches he⟩
  | gatedPageRead p addr => exact ⟨_, execGatedPageRead_touches p addr he⟩
  | unlistedFrameType h => exact ⟨_, execUnlistedFrameType_touches h he⟩
  | badOp tag good => exact ⟨_, execBadOp_touches tag good he⟩
  | sbCommandRefused code => exact ⟨_, execSbCommandRefused_touches code he⟩

/-- A command keeps the canonical form. -/
theorem exec_canon {c : Instr} {s t : State} (he : exec c s = .next t) (hs : s.Canon) : t.Canon := by
  obtain ⟨m, hm⟩ := exec_touches he
  exact hm.canon hs

/-- A step on an empty queue idles. -/
theorem step_nil {s : State} (h : s.pending = []) : step s = .next s := by
  unfold step
  rw [h]

/-- The canonical form does not depend on the queue. -/
theorem State.Canon.withPending {s : State} (hs : s.Canon) (l : List Instr) : State.Canon { s with pending := l } :=
  canon_same hs rfl rfl rfl rfl

end Sys2Proof.Machine

namespace Sys2Proof.Settled

open Sys2Proof.Machine

/-- Settles O4: an idle step changes nothing, and a command keeps the canonical form by its law. -/
theorem stepKeepsCanon : Obligations.StepKeepsCanon := by
  intro s t hs h
  cases hq : s.pending with
  | nil =>
    rw [step_nil hq] at h
    cases h
    exact hs
  | cons c l =>
    rw [step_cons hq] at h
    exact exec_canon h (hs.withPending l)

end Sys2Proof.Settled
end

section
/-! SUPPORT. Which accesses of a port are refused, and which reach a register or a semaphore (R30 to R37). -/

namespace Sys2Proof.Machine

variable {s : State} {p : Port} {a m : Nat} {d : Word}

/-! ### The requester and the page -/

/-- The owner code of a requester that reaches the bus is not that of a free semaphore (R33, R38). -/
theorem portCode_ne_zero (hp : s.portOpen p = true) : portCode p ≠ 0 := by
  cases p with
  | host | sideband | glen => simp [portCode]
  | tst => cases hp

/-- An owner code fits the two bits of a holder field (R38). -/
theorem portCode_lt_four (p : Port) : portCode p < 4 := by cases p <;> decide

/-- A page in always-on logic is never gated or off (R36). -/
theorem State.gated_of_alwaysOn {pg : Nat} (h : alwaysOn pg = true) : s.gated pg = false := by
  rw [State.gated, h, Bool.not_true, Bool.false_and]

/-! ### Writes -/

/-- A write of a requester that does not reach the bus has no effect (R33). -/
theorem State.portWrite_closed (hp : s.portOpen p = false) : s.portWrite p a m d = s := by
  unfold State.portWrite
  simp only [hp, Bool.false_eq_true, not_false_eq_true, if_true]

/-- A write to a slot without a page has no effect (R24). -/
theorem State.busWrite_unlisted (hi : implemented (a / 0x1000) = false) : s.busWrite p a d = s := by
  unfold State.busWrite
  simp only [hi, Bool.false_eq_true, not_false_eq_true, if_true]

/-- A write to a page that is gated or off is recorded twice: as an access that is off and as a drop with cause 2 (R36). -/
theorem State.busWrite_gated (hi : implemented (a / 0x1000) = true) (hg : s.gated (a / 0x1000) = true) :
    s.busWrite p a d = (s.noteOff p a true).noteDrop p a 2 := by
  unfold State.busWrite
  simp only [hi, hg, not_true_eq_false, if_false, if_true]

/-- A write with byte enables to a slot without a page has no effect (R24). -/
theorem State.portWrite_unlisted (hi : implemented (a % 0x100000 / 4 * 4 / 0x1000) = false) : s.portWrite p a m d = s := by
  unfold State.portWrite
  simp only [State.busWrite_unlisted hi, hi, Bool.false_eq_true, not_false_eq_true, if_true, ite_self]

/-- A write with byte enables to a page that is gated or off is refused, full or partial (R36). -/
theorem State.portWrite_gated (hp : s.portOpen p = true) (hi : implemented (a % 0x100000 / 4 * 4 / 0x1000) = true)
    (hg : s.gated (a % 0x100000 / 4 * 4 / 0x1000) = true) :
    s.portWrite p a m d = (s.noteOff p (a % 0x100000 / 4 * 4) true).noteDrop p (a % 0x100000 / 4 * 4) 2 := by
  unfold State.portWrite
  simp only [State.busWrite_gated hi hg, hp, hi, hg, not_true_eq_false, if_false, if_true, ite_self]

/-- A partial write to a page that is on is dropped with cause 3 (R31). -/
theorem State.portWrite_partial (hp : s.portOpen p = true) (hm : m % 16 ≠ 15)
    (hi : implemented (a % 0x100000 / 4 * 4 / 0x1000) = true) (hg : s.gated (a % 0x100000 / 4 * 4 / 0x1000) = false) :
    s.portWrite p a m d = s.noteDrop p (a % 0x100000 / 4 * 4) 3 := by
  unfold State.portWrite
  simp only [hp, hm, hi, hg, not_true_eq_false, false_and, if_false, Bool.false_eq_true]

/-- A write of a whole aligned word is the write of that word. -/
theorem State.portWrite_full (ha : a < 0x100000) (h4 : a % 4 = 0) : s.portWrite p a 15 d = s.portWord p a d := by
  have hal : a % 0x100000 / 4 * 4 = a := by omega
  unfold State.portWrite State.portWord
  by_cases hp : s.portOpen p = true
  · simp only [hp, h4, hal, not_true_eq_false, and_self, if_false, if_true]
  · simp only [hp, not_false_eq_true, Bool.false_eq_true, if_false, if_true]

/-- A write of a word without the semaphore that its register asks for is dropped with cause 1 (R37). -/
theorem State.portWord_without_sem {r : Row} (hp : s.portOpen p = true) (hi : implemented (a / 0x1000) = true)
    (hg : s.gated (a / 0x1000) = false) (hw : a / 0x1000 ≠ 0x80 ∨ a % 0x1000 < 0x40) (hs : a / 0x100 ≠ 0x41)
    (hr : regRow a = some r) (hn : needsSem a r = true) (hh : s.holdsSem p (a / 0x1000) = false) :
    s.portWord p a d = s.noteDrop p a 1 := by
  have hw' : ¬ (a / 0x1000 = 0x80 ∧ 0x40 ≤ a % 0x1000) := by omega
  have hs' : ¬ (0x4100 ≤ a ∧ a < 0x4200) := by omega
  unfold State.portWord State.busWrite
  simp only [hp, hi, hg, hw', hs', hr, not_true_eq_false, Bool.false_eq_true, if_false, if_true]
  unfold State.storeWord
  simp only [hn, hh, Bool.not_false, Bool.and_self, Bool.true_or, if_true]

/-- The write that a page accepts comes from a requester that reaches the bus. -/
theorem State.portOpen_of_accepted {u : State} (h : s.accepted p a d = some u) : s.portOpen p = true := by
  unfold State.accepted at h
  split at h
  · next hc => simp only [Bool.and_eq_true] at hc; exact hc.1.1
  · cases h

/-! ### Reads -/

/-- A read at any byte of a word is the read of the word (R31). -/
theorem State.portRead_word (ha : a < 0x100000) : s.portRead p a = s.portRead p (a / 4 * 4) := by
  have hal : a / 4 * 4 % 0x100000 / 4 * 4 = a % 0x100000 / 4 * 4 := by omega
  unfold State.portRead
  simp only [hal]

/-- A read of a slot without a page answers what the slot reads as (R24). -/
theorem State.busRead_unlisted (hi : implemented (a / 0x1000) = false) :
    s.busRead p a = (s, some (if a % 0x1000 = 0 then 0xFF000000 else 0)) := by
  unfold State.busRead State.peek
  simp only [hi, Bool.false_eq_true, not_false_eq_true, if_true]

/-- The meaning of REGISTER_WRITE. -/
theorem exec_registerWrite (p : Port) (a m : Nat) (d : Word) (s : State) :
    exec (.registerWrite p a m d) s = .next (s.portWrite p a m d) := rfl

end Sys2Proof.Machine

namespace Sys2Proof.Settled

open Sys2Proof.Machine

/-- Settles O16: the 171 pages are counted, and in any other slot the bus finds no page to read or write. -/
theorem unlistedPages : Obligations.UnlistedPages := by
  refine ⟨by decide +kernel, fun s p a ha hi => ⟨fun m d => ?_, fun hp => ?_⟩⟩
  · have hi' : implemented (a % 0x100000 / 4 * 4 / 0x1000) = false := by
      rwa [show a % 0x100000 / 4 * 4 / 0x1000 = a / 0x1000 by omega]
    rw [exec_registerWrite, State.portWrite_unlisted hi']
  · have hi' : implemented (a / 4 * 4 / 0x1000) = false := by rwa [show a / 4 * 4 / 0x1000 = a / 0x1000 by omega]
    refine ⟨?_, rfl, rfl⟩
    rw [exec_rcRead, State.portRead_word ha,
      State.portRead_of_some hp (by omega) (by omega) (State.busRead_unlisted hi')]

/-- Settles O17: a partial write is dropped, and a read takes the word its byte lies in. -/
theorem partialAccess : Obligations.PartialAccess := by
  refine ⟨fun s p a m d ha hp hm hi hg => ?_, fun s p a ha => ?_⟩
  · have hal : a % 0x100000 / 4 * 4 = a / 4 * 4 := by omega
    have hpg : a / 4 * 4 / 0x1000 = a / 0x1000 := by omega
    rw [exec_registerWrite, State.portWrite_partial hp (by omega) (by rwa [hal, hpg]) (by rwa [hal, hpg]), hal]
  · simp only [exec_rcRead, exec_counterLoRead, exec_gatedPageRead]
    rw [State.portRead_word ha]
    exact ⟨rfl, rfl, rfl⟩

/-- Settles O26: by what the access rules find first. -/
theorem registerWrite : Obligations.RegisterWrite := by
  refine ⟨?_, ?_, ?_, ?_, ?_⟩
  · intro s p a d u hu ha h4 hw hs hm
    rw [exec_registerWrite, State.portWrite_full ha h4, State.portWord_of_accepted hu hw hs hm]
  · intro s p a m d hp hm hi hg
    rw [exec_registerWrite, State.portWrite_partial hp hm hi hg]
  · intro s p a d r hp ha h4 hi hg hw hs hr hn hh
    rw [exec_registerWrite, State.portWrite_full ha h4, State.portWord_without_sem hp hi hg hw hs hr hn hh]
  · intro s p a m d hp hi hg
    rw [exec_registerWrite, State.portWrite_gated hp hi hg]
  · intro s p a m d h
    rcases h with hp | hi
    · rw [exec_registerWrite, State.portWrite_closed hp]
    · rw [exec_registerWrite, State.portWrite_unlisted hi]

end Sys2Proof.Settled
end

section
/-! SUPPORT. The state at reset. -/

namespace Sys2Proof.Machine

/-- At reset every register reads its reset value (R393). -/
theorem State.word_reset (k : Nat) : State.reset.word k = resetWord k := rfl

/-- The registers of the holder fields reset to 0. -/
theorem resetWord_semHolder : ∀ k < 4, resetWord (0x4050 + 4 * k) = 0 := by decide +kernel

/-- At reset no semaphore is held (R38). -/
theorem State.get_semHolder_reset {n : Nat} (hn : n < 64) : State.reset.get (semHolder n) = 0 := by
  have hw : State.reset.word (semHolder n).addr = 0 := resetWord_semHolder (n / 16) (by omega)
  rw [State.get, hw]
  simp [getBits]

/-- At reset memory is not active (R167). -/
theorem State.memActive_reset : State.reset.flag RSTR_STAT_MEM_ACTIVE = false := by decide +kernel

/-- The state at reset is in canonical form: nothing is listed. -/
theorem State.canon_reset : State.reset.Canon := ⟨rfl, rfl, rfl, fun _ he => absurd he List.not_mem_nil⟩

/-- The tables at reset are empty. -/
theorem State.fits_reset : State.reset.Fits where
  hold := Nat.zero_le 256
  held := Nat.zero_le 512
  barriers := Nat.zero_le 16
  posts := Nat.zero_le 64

end Sys2Proof.Machine

namespace Sys2Proof.Settled

open Sys2Proof.Machine

/-- Settles O3: registers read their reset values, and every list and every flag of a block begins empty. -/
theorem resetMachine : Obligations.ResetMachine :=
  ⟨rfl, State.word_reset, State.memActive_reset, rfl, fun _ hn => State.get_semHolder_reset hn, rfl, rfl, rfl, rfl, rfl,
    State.canon_reset, State.fits_reset⟩

end Sys2Proof.Settled
end

section
/-! SUPPORT. The semaphores: what a claim, a release, a break and an expiry leave, and what else leaves the holders alone
(R37 to R42). -/

namespace Sys2Proof.Machine

variable {s : State} {p : Port} {n m : Nat} {d : Word}

/-! ### Where the holder fields lie -/

/-- The holder field of a semaphore ends within its word. -/
theorem semHolder_le_word (n : Nat) : (semHolder n).lo + (semHolder n).w ≤ 32 := by
  simp only [semHolder]; omega

/-- Two holder fields of one word lie apart. -/
theorem semHolder_apart (hmn : m ≠ n) (ha : (semHolder m).addr = (semHolder n).addr) :
    (semHolder m).lo + (semHolder m).w ≤ (semHolder n).lo ∨ (semHolder n).lo + (semHolder n).w ≤ (semHolder m).lo := by
  simp only [semHolder] at ha ⊢; omega

/-- The holder fields lie between the header of the page and its lease register. -/
theorem semHolder_addr_mem (hm : m < 64) : 0x4050 ≤ (semHolder m).addr ∧ (semHolder m).addr < 0x4060 := by
  simp only [semHolder]; omega

/-! ### Reading a holder after an update -/

/-- A store to a register outside the holder words leaves the holders. -/
theorem State.get_semHolder_put (hm : m < 64) (f : Fld) (v : Nat) (hf : f.addr < 0x4050 ∨ 0x4060 ≤ f.addr) :
    (s.put f v).get (semHolder m) = s.get (semHolder m) := by
  have hadr := semHolder_addr_mem hm
  exact s.get_put_other f _ v (by omega)

/-- A semaphore that is freed reads 0. -/
theorem State.get_semHolder_freeSem_same (hs : s.Canon) : (s.freeSem n).get (semHolder n) = 0 := by
  change (s.put (semHolder n) 0).get (semHolder n) = 0
  rw [s.get_put_same _ 0 hs (semHolder_le_word n), Nat.zero_mod]

/-- Freeing a semaphore leaves the holders of the others. -/
theorem State.get_semHolder_freeSem_other (hs : s.Canon) (hmn : m ≠ n) :
    (s.freeSem n).get (semHolder m) = s.get (semHolder m) := by
  change (s.put (semHolder n) 0).get (semHolder m) = s.get (semHolder m)
  by_cases ha : (semHolder m).addr = (semHolder n).addr
  · exact s.get_put_field _ _ 0 hs (semHolder_le_word n) ha (semHolder_apart hmn ha)
  · exact s.get_put_other _ _ 0 ha

/-- A semaphore that is granted reads the owner code of the port (R38). -/
theorem State.get_semHolder_grantSem (hs : s.Canon) : (s.grantSem n p).get (semHolder n) = portCode p := by
  change (s.put (semHolder n) (portCode p)).get (semHolder n) = portCode p
  rw [s.get_put_same _ _ hs (semHolder_le_word n)]
  exact Nat.mod_eq_of_lt (portCode_lt_four p)

/-- Counting a write of the page of the semaphores leaves the holders. -/
theorem State.get_semHolder_countWrite (hm : m < 64) : (s.countWrite 4).get (semHolder m) = s.get (semHolder m) :=
  State.get_semHolder_put hm _ _ (.inl (by decide))

/-- A saturating count outside the holder words leaves the holders. -/
theorem State.get_semHolder_bumpSat (hm : m < 64) (f : Fld) (hf : f.addr < 0x4050 ∨ 0x4060 ≤ f.addr) :
    (s.bumpSat f).get (semHolder m) = s.get (semHolder m) := by
  unfold State.bumpSat
  split
  · exact State.get_semHolder_put hm f _ hf
  · rfl

/-- The record of a dropped write leaves the holders. -/
theorem State.get_semHolder_noteDrop (hm : m < 64) (a cause : Nat) :
    (s.noteDrop p a cause).get (semHolder m) = s.get (semHolder m) := by
  unfold State.noteDrop
  split
  · rfl
  · next k _ =>
    have hk : 0x4060 ≤ 0x8040 + 0x1000 * k := by omega
    dsimp only
    rw [State.get_semHolder_bumpSat hm _ (.inr hk)]
    split
    · rw [State.get_semHolder_put hm _ _ (.inr hk), State.get_semHolder_put hm _ _ (.inr hk)]
    · rfl

/-! ### Writes of SEM_CLAIMn -/

/-- A full write at SEM_CLAIMn is the semaphore's (R40, R41). -/
theorem State.portWord_semClaim (hp : s.portOpen p = true) (hn : n < 64) :
    s.portWord p (0x4100 + 4 * n) d = s.semWrite p n d := by
  have hpg : (0x4100 + 4 * n) / 0x1000 = 4 := by omega
  have hw : ¬ ((4 : Nat) = 0x80 ∧ 0x40 ≤ (0x4100 + 4 * n) % 0x1000) := by omega
  have hs : 0x4100 ≤ 0x4100 + 4 * n ∧ 0x4100 + 4 * n < 0x4200 := by omega
  have hi : implemented 4 = true := by decide
  have hg : s.gated 4 = false := State.gated_of_alwaysOn (by decide)
  have hk : (0x4100 + 4 * n - 0x4100) / 4 = n := by omega
  unfold State.portWord State.busWrite
  simp only [hp, hpg, hi, hg, hw, hs, hk, not_true_eq_false, Bool.false_eq_true, and_self, if_false, if_true]

/-- With bit 31 at 0, the holder's own code frees the semaphore (R40). -/
theorem State.semWrite_release (hb : bitOf d.toNat 31 = false) (ho : getBits d 0 2 = portCode p)
    (hh : s.get (semHolder n) = portCode p) (h0 : portCode p ≠ 0) :
    s.semWrite p n d = (s.freeSem n).countWrite 4 := by
  unfold State.semWrite
  simp only [hb, ho, hh, h0, ne_eq, not_false_eq_true, and_self, Bool.false_eq_true, if_false, if_true]

/-- With bit 31 at 0, any other write is dropped with cause 4 (R40). -/
theorem State.semWrite_release_dropped (hb : bitOf d.toNat 31 = false)
    (hn : ¬ (getBits d 0 2 = portCode p ∧ s.get (semHolder n) = portCode p)) :
    s.semWrite p n d = s.noteDrop p (0x4100 + 4 * n) 4 := by
  have hn' : ¬ (getBits d 0 2 = portCode p ∧ s.get (semHolder n) = portCode p ∧ s.get (semHolder n) ≠ 0) :=
    fun h => hn ⟨h.1, h.2.1⟩
  unfold State.semWrite
  simp only [hb, hn', Bool.false_eq_true, if_false]

/-- With bit 31 at 1, a port breaks another's semaphore whose lease has run out (R41). -/
theorem State.semWrite_break (hb : bitOf d.toNat 31 = true) (ho : getBits d 0 2 = portCode p)
    (h0 : s.get (semHolder n) ≠ 0) (hh : s.get (semHolder n) ≠ portCode p) (hl : (s.lease n).out = true) :
    s.semWrite p n d = (((s.freeSem n).bumpSat SEM_BROKEN_COUNT).event .semBroken 0x04
      [n, s.get (semHolder n), portCode p]).countWrite 4 := by
  unfold State.semWrite
  simp only [hb, ho, h0, hh, hl, ne_eq, not_false_eq_true, and_self, if_true]

/-- With bit 31 at 1, a write before the lease has run out is dropped with cause 4 (R41). -/
theorem State.semWrite_break_dropped (hb : bitOf d.toNat 31 = true) (hl : (s.lease n).out = false) :
    s.semWrite p n d = s.noteDrop p (0x4100 + 4 * n) 4 := by
  unfold State.semWrite
  simp only [hb, hl, Bool.false_eq_true, and_false, if_false, if_true]

/-! ### The words that SEM_RELEASE and SEM_BREAK write -/

/-- The owner field of the word of a release. -/
theorem getBits_releaseWord (o : Nat) : getBits (BitVec.ofNat 32 (o % 4)) 0 2 = o % 4 := by
  rw [getBits, BitVec.toNat_ofNat]; omega

/-- Bit 31 of the word of a release. -/
theorem bitOf_releaseWord (o : Nat) : bitOf (BitVec.ofNat 32 (o % 4)).toNat 31 = false := by
  rw [bitOf, BitVec.toNat_ofNat, decide_eq_false_iff_not]; omega

/-- The owner field of the word of a break. -/
theorem getBits_breakWord (o : Nat) : getBits (BitVec.ofNat 32 (o % 4 + 2 ^ 31)) 0 2 = o % 4 := by
  rw [getBits, BitVec.toNat_ofNat]; omega

/-- Bit 31 of the word of a break. -/
theorem bitOf_breakWord (o : Nat) : bitOf (BitVec.ofNat 32 (o % 4 + 2 ^ 31)).toNat 31 = true := by
  rw [bitOf, BitVec.toNat_ofNat, decide_eq_true_eq]; omega

/-- A bit of a word, read as a number. -/
theorem bitOf_toNat (w : Word) (k : Nat) : bitOf w.toNat k = w.getLsbD k := by
  rw [← BitVec.testBit_toNat, Nat.testBit_eq_decide_div_mod_eq, bitOf]

/-! ### Claims -/

/-- A claim by one port alone (R39). -/
theorem State.semClaim_single (hn : n < 64) (hp : s.portOpen p = true) : s.semClaim n [p] = s.claimOne n p := by
  have hl : [p].filter s.portOpen = [p] := by simp [hp]
  have hn' : ¬ 64 ≤ n := by omega
  unfold State.semClaim
  simp [hl, hn']

/-- A claim of a free semaphore, or by its holder, is granted, and answered with the holder (R39). -/
theorem State.claimOne_granted (h : s.get (semHolder n) = 0 ∨ s.get (semHolder n) = portCode p) :
    s.claimOne n p = (s.grantSem n p).send
      (.regData p (0x4100 + 4 * n) (BitVec.ofNat 32 ((s.grantSem n p).get (semHolder n)))) := by
  unfold State.claimOne
  simp only [h, if_true]

/-- A claim of a semaphore that another holds changes nothing, and is answered with the holder (R39). -/
theorem State.claimOne_refused (h0 : s.get (semHolder n) ≠ 0) (hh : s.get (semHolder n) ≠ portCode p) :
    s.claimOne n p = s.send (.regData p (0x4100 + 4 * n) (BitVec.ofNat 32 (s.get (semHolder n)))) := by
  unfold State.claimOne
  simp only [h0, hh, or_self, if_false]

/-- Of the host port and the sideband port, the one that lost the last tie is granted a free semaphore (R42). -/
theorem State.decideTie_ports : s.decideTie n [.host, .sideband] =
    if s.flag (semTie n) then (s.put (semTie n) 0).grantSem n .host else (s.put (semTie n) 1).grantSem n .sideband := by
  unfold State.decideTie
  exact if_pos (by decide)

/-- A tie for a free semaphore between the two ports is decided, and both are answered with the holder (R42). -/
theorem State.semClaim_tie (hn : n < 64) (hh : s.portOpen .host = true) (hsb : s.portOpen .sideband = true)
    (h0 : s.get (semHolder n) = 0) {t : State} (ht : t = s.decideTie n [.host, .sideband]) :
    s.semClaim n [.host, .sideband] =
      (t.send (.regData .host (0x4100 + 4 * n) (BitVec.ofNat 32 (t.get (semHolder n))))).send
        (.regData .sideband (0x4100 + 4 * n) (BitVec.ofNat 32 (t.get (semHolder n)))) := by
  have hl : [Port.host, Port.sideband].filter s.portOpen = [.host, .sideband] := by simp [hh, hsb]
  have hn' : ¬ 64 ≤ n := by omega
  subst ht
  unfold State.semClaim
  simp [hl, hn', h0]

/-- The lease of a held semaphore runs out when its time has passed (R41). -/
theorem State.leaseExpired_of_passed (hn : n < 64) (h0 : s.get (semHolder n) ≠ 0)
    (hl : (s.lease n).since + (s.lease n).ms * 1000 ≤ s.now) :
    s.leaseExpired n = s.setLease n { s.lease n with out := true } := by
  unfold State.leaseExpired
  rw [if_pos ⟨hn, h0, hl⟩]

/-! ### The commands -/

/-- The meaning of SEM_CLAIM. -/
theorem exec_semClaim (n : Nat) (readers : List Port) (s : State) :
    exec (.semClaim n readers) s = .next (s.semClaim n readers) := rfl

/-- The meaning of SEM_RELEASE, of a port that reaches the bus. -/
theorem exec_semRelease (hp : s.portOpen p = true) (n o : Nat) :
    exec (.semRelease p n o) s = .next (s.semWrite p (n % 64) (BitVec.ofNat 32 (o % 4))) :=
  congrArg _ (State.portWord_semClaim hp (Nat.mod_lt n (by decide)))

/-- The meaning of SEM_BREAK, of a port that reaches the bus. -/
theorem exec_semBreak (hp : s.portOpen p = true) (n o : Nat) :
    exec (.semBreak p n o) s = .next (s.semWrite p (n % 64) (BitVec.ofNat 32 (o % 4 + 2 ^ 31))) :=
  congrArg _ (State.portWord_semClaim hp (Nat.mod_lt n (by decide)))

/-- The meaning of SEM_LEASE_EXPIRY. -/
theorem exec_semLeaseExpiry (n : Nat) (s : State) : exec (.semLeaseExpiry n) s = .next (s.leaseExpired n) := rfl

end Sys2Proof.Machine

namespace Sys2Proof.Settled

open Sys2Proof.Machine

/-- Settles O15: the write reaches the semaphore, which its holder's own code frees; the record of a drop holds no semaphore. -/
theorem semReleaseRule : Obligations.SemReleaseRule := by
  intro s n p d hs hn hp hd
  have hb : bitOf d.toNat 31 = false := by rwa [bitOf_toNat]
  have hx : exec (.registerWrite p (0x4100 + 4 * n) 15 d) s = .next (s.semWrite p n d) := by
    rw [exec_registerWrite, State.portWrite_full (by omega) (by omega), State.portWord_semClaim hp hn]
  refine ⟨_, hx, fun ⟨ho, hh⟩ => ?_, fun hno => ?_⟩
  · rw [State.semWrite_release hb ho hh (portCode_ne_zero hp)]
    refine ⟨?_, fun m hm hmn => ?_⟩
    · rw [State.get_semHolder_countWrite hn, State.get_semHolder_freeSem_same hs]
    · rw [State.get_semHolder_countWrite hm, State.get_semHolder_freeSem_other hs hmn]
  · rw [State.semWrite_release_dropped hb hno]
    exact ⟨rfl, fun m hm => State.get_semHolder_noteDrop hm _ _⟩

/-- Settles O14: the claim is granted, and the holder field then reads the owner code. -/
theorem semOwnerCodes : Obligations.SemOwnerCodes := by
  intro s n p hs hn hp h0
  have hx : exec (.semClaim n [p]) s = .next (s.claimOne n p) := by rw [exec_semClaim, State.semClaim_single hn hp]
  have hcode : (s.claimOne n p).get (semHolder n) = portCode p := by
    rw [State.claimOne_granted (.inl h0)]
    exact State.get_semHolder_grantSem hs
  refine ⟨_, hx, ?_, ?_, ?_⟩ <;> rintro rfl <;> exact hcode

/-- Settles O28: by the rule of each command for a claim, a tie, a release, a break and an expiry. -/
theorem semaphores : Obligations.Semaphores := by
  refine ⟨?_, ?_, ?_, ?_, ?_, ?_, ?_, ?_⟩
  · intro s n p hn hp h
    rw [exec_semClaim, State.semClaim_single hn hp, State.claimOne_granted h]
  · intro s n p hn hp h0 hh
    rw [exec_semClaim, State.semClaim_single hn hp, State.claimOne_refused h0 hh]
  · intro s n t hn hh hsb h0 ht
    rw [exec_semClaim, State.semClaim_tie hn hh hsb h0 (ht.trans State.decideTie_ports.symm)]
  · intro s p n o hp ho hh h0
    rw [exec_semRelease hp,
      State.semWrite_release (bitOf_releaseWord o) ((getBits_releaseWord o).trans ho) hh h0]
  · intro s p n o hp h
    have hno : ¬ (getBits (BitVec.ofNat 32 (o % 4)) 0 2 = portCode p ∧ s.get (semHolder (n % 64)) = portCode p) := by
      rw [getBits_releaseWord, not_and_or]
      exact h
    rw [exec_semRelease hp, State.semWrite_release_dropped (bitOf_releaseWord o) hno]
  · intro s p n o hp ho h0 hh hl
    rw [exec_semBreak hp,
      State.semWrite_break (bitOf_breakWord o) ((getBits_breakWord o).trans ho) h0 hh hl]
  · intro s p n o hp hl
    rw [exec_semBreak hp, State.semWrite_break_dropped (bitOf_breakWord o) hl]
  · intro s n hn h0 hl
    rw [exec_semLeaseExpiry, State.leaseExpired_of_passed hn h0 hl]

end Sys2Proof.Settled
end

section
/-! SUPPORT. What a write of a page's header and of MGP_EOI brings about, and the messages that wait (R27, R29, R45, R51, R427). -/

namespace Sys2Proof.Machine

variable {s u : State} {p : Port} {a page : Nat} {d : Word}

/-! ### The registers with a feature's enable bit -/

/-- No feature's enable bit lies in a page header or in MGP_EOI (R49). -/
theorem features_addr : ∀ f ∈ features, 0x40 ≤ f.enable.addr % 0x1000 ∧ f.enable.addr ≠ 0xB080 := by decide

/-- A write of a register without an enable bit claims and releases nothing (R47). -/
theorem State.enableFeatures_none (h : ∀ f ∈ features, f.enable.addr ≠ a) : s.enableFeatures p a d = s := by
  have hnil : features.filter (fun f => decide (f.enable.addr = a)) = [] := by simpa using h
  unfold State.enableFeatures
  rw [hnil, List.foldl_nil]

/-- A write of a header register claims and releases nothing. -/
theorem State.enableFeatures_header (ho : a % 0x1000 < 0x40) : s.enableFeatures p a d = s :=
  State.enableFeatures_none fun f hf => by have := features_addr f hf; omega

/-! ### What the stored write brings about -/

/-- A write of PAGE_CTRL (R27, R29). -/
theorem State.written_pageCtrl (ho : a % 0x1000 = 0x008) : u.written s p a d = u.pageCtrlWritten s (a / 0x1000) d := by
  unfold State.written
  simp only [State.enableFeatures_header (show a % 0x1000 < 0x40 by omega)]
  rw [if_pos ho]

/-- A write of INT_FORCE (R27). -/
theorem State.written_intForce (ho : a % 0x1000 = 0x018) : u.written s p a d = u.raiseMask (a / 0x1000) d.toNat := by
  unfold State.written
  simp only [State.enableFeatures_header (show a % 0x1000 < 0x40 by omega)]
  rw [if_neg (by omega), if_neg (by omega), if_pos ho]

/-- A write of SHADOW_CTRL (R27, R45). -/
theorem State.written_shadowCtrl (ho : a % 0x1000 = 0x02C) :
    u.written s p a d = if bitOf d.toNat 1 then u.discardShadows (a / 0x1000) else u := by
  unfold State.written
  simp only [State.enableFeatures_header (show a % 0x1000 < 0x40 by omega)]
  rw [if_neg (by omega), if_neg (by omega), if_neg (by omega), if_pos ho]

/-- A write of ERR_FORCE brings nothing about before the next tick (R427). -/
theorem State.written_errForce (ho : a % 0x1000 = 0x01C) : u.written s p a d = u := by
  unfold State.written
  simp only [State.enableFeatures_header (show a % 0x1000 < 0x40 by omega)]
  repeat rw [if_neg (by omega)]

/-- A write of MGP_EOI (R51). -/
theorem State.written_mgpEoi (ha : a = 0xB080) : u.written s p a d = u.eoi (getBits d 0 5) := by
  have hf : ∀ f ∈ features, f.enable.addr ≠ a := ha ▸ fun f hf => (features_addr f hf).2
  unfold State.written
  simp only [State.enableFeatures_none hf]
  repeat rw [if_neg (by omega)]
  rw [if_pos ha]

/-! ### Writes of header registers -/

/-- A full write that a page's header accepts. -/
theorem State.portWord_header {o : Nat} (ho : o < 0x40) (hu : s.accepted p (page % 256 * 0x1000 + o) d = some u) :
    s.portWord p (page % 256 * 0x1000 + o) d = (u.written s p (page % 256 * 0x1000 + o) d).refreshArmed :=
  State.portWord_of_accepted hu (.inr (by omega)) (by omega) (.inr (by omega))

/-- The page of a header register. -/
theorem page_of_header {o : Nat} (ho : o < 0x40) : (page % 256 * 0x1000 + o) / 0x1000 = page % 256 := by omega

/-- A write of PAGE_CTRL that its page accepts. -/
theorem State.portWord_pageCtrl (hu : s.accepted p (page % 256 * 0x1000 + 0x008) d = some u) :
    s.portWord p (page % 256 * 0x1000 + 0x008) d = (u.pageCtrlWritten s (page % 256) d).refreshArmed := by
  rw [State.portWord_header (by decide) hu, State.written_pageCtrl (by omega), page_of_header (by decide)]

/-- A write of SHADOW_CTRL that its page accepts. -/
theorem State.portWord_shadowCtrl (hu : s.accepted p (page % 256 * 0x1000 + 0x02C) d = some u) :
    s.portWord p (page % 256 * 0x1000 + 0x02C) d =
      (if bitOf d.toNat 1 then u.discardShadows (page % 256) else u).refreshArmed := by
  rw [State.portWord_header (by decide) hu, State.written_shadowCtrl (by omega), page_of_header (by decide)]

/-- A write of INT_FORCE that its page accepts. -/
theorem State.portWord_intForce (hu : s.accepted p (page % 256 * 0x1000 + 0x018) d = some u) :
    s.portWord p (page % 256 * 0x1000 + 0x018) d = (u.raiseMask (page % 256) d.toNat).refreshArmed := by
  rw [State.portWord_header (by decide) hu, State.written_intForce (by omega), page_of_header (by decide)]

/-- A write of ERR_FORCE that its page accepts. -/
theorem State.portWord_errForce (hu : s.accepted p (page % 256 * 0x1000 + 0x01C) d = some u) :
    s.portWord p (page % 256 * 0x1000 + 0x01C) d = u.refreshArmed := by
  rw [State.portWord_header (by decide) hu, State.written_errForce (by omega)]

/-! ### Messages -/

/-- A write of the number of a pending vector that holds no message sends its message again (R51). -/
theorem State.eoi_pending {v : Nat} (hv : u.vectors.contains v = true) (hh : u.mgp.held.contains v = false) :
    u.eoi v = u.vectorUp v := by
  unfold State.eoi
  simp only [hv, hh, Bool.not_false, Bool.and_self, if_true]

/-- A write of MGP_EOI that its page accepts. -/
theorem State.portWord_mgpEoi {v : Nat} (hv : v < 32) (hu : s.accepted p 0xB080 (BitVec.ofNat 32 v) = some u) :
    s.portWord p 0xB080 (BitVec.ofNat 32 v) = (u.eoi v).refreshArmed := by
  have hget : getBits (BitVec.ofNat 32 v) 0 5 = v := by rw [getBits, BitVec.toNat_ofNat]; omega
  rw [State.portWord_of_accepted hu (.inl (by decide)) (by decide) (.inl (by decide)), State.written_mgpEoi rfl, hget]

/-- Sending messages leaves MGP's state. -/
theorem State.mgp_foldl_msix (l : List Nat) (s : State) :
    (l.foldl (fun (u : State) v => u.send (.msix v)) s).mgp = s.mgp := by
  induction l generalizing s with
  | nil => rfl
  | cons v l ih => rw [List.foldl_cons, ih, State.send_mgp]

/-- Sending messages sends each of them, after what was sent. -/
theorem State.mem_out_foldl_msix (l : List Nat) (s : State) (o : Out) :
    o ∈ (l.foldl (fun (u : State) v => u.send (.msix v)) s).out ↔ (∃ v ∈ l, o = .msix v) ∨ o ∈ s.out := by
  induction l generalizing s with
  | nil => simp
  | cons v l ih => simp [ih, or_assoc, or_left_comm]

/-- What is held after the held messages are sent: those the function still cannot send (R51). -/
theorem State.mem_held_sendHeld (v : Nat) : v ∈ s.sendHeld.mgp.held ↔ v ∈ s.mgp.held ∧ s.canSend v = false := by
  unfold State.sendHeld
  simp [State.mgp_foldl_msix]

/-- A held message that can be sent, of a vector still pending, is sent (R51). -/
theorem State.msix_mem_sendHeld {v : Nat} (hh : v ∈ s.mgp.held) (hc : s.canSend v = true) (hv : v ∈ s.vectors) :
    .msix v ∈ s.sendHeld.out := by
  unfold State.sendHeld
  rw [State.mem_out_foldl_msix]
  exact .inl ⟨v, by simp [hh, hc, hv], rfl⟩

end Sys2Proof.Machine

namespace Sys2Proof.Settled

open Sys2Proof.Machine

/-- Settles O27: each command is a full write of its register, which the page accepts, and MSIX_HELD_SEND sends what it can. -/
theorem pageCommands : Obligations.PageCommands := by
  refine ⟨?_, ?_, ?_, ?_, ?_, ?_, ?_, ?_, ?_⟩
  · intro s p page u hu hb
    exact congrArg _ ((State.portWord_shadowCtrl hu).trans (by rw [hb]; rfl))
  · intro s p page u hu hb
    exact congrArg _ ((State.portWord_shadowCtrl hu).trans (by rw [hb]; rfl))
  · intro s p page u hu
    exact congrArg _ (State.portWord_pageCtrl hu)
  · intro s p page on u hu
    exact congrArg _ (State.portWord_pageCtrl hu)
  · intro s p page on u hu
    exact congrArg _ (State.portWord_pageCtrl hu)
  · intro s p page d u hu
    exact congrArg _ (State.portWord_intForce hu)
  · intro s p page d u hu
    exact congrArg _ (State.portWord_errForce hu)
  · intro s p v u hv hu hpend hheld
    exact congrArg _ ((State.portWord_mgpEoi hv hu).trans (by rw [State.eoi_pending hpend hheld]))
  · intro s
    exact ⟨s.sendHeld, rfl, fun v => State.mem_held_sendHeld v, fun v hh hc hv => State.msix_mem_sendHeld hh hc hv⟩

end Sys2Proof.Settled
end

section
/-! SUPPORT. The tables of waiting work (R91, R171, R343, R355): a command that reaches neither PERS nor RSTR leaves them, and every
other keeps them within their sizes by its law. -/

namespace Sys2Proof.Machine

/-- May the command change PERS or RSTR, which keep the tables of waiting work? -/
def reachesTables (c : Instr) : Bool := (footprint c).contains .pers || (footprint c).contains .rstr

/-- A command that reaches neither PERS nor RSTR leaves the tables as they are. -/
theorem exec_fits_of_not_reachesTables {c : Instr} {s t : State} (he : exec c s = .next t) (hz : s.Fits)
    (hc : reachesTables c = false) : t.Fits := by
  unfold reachesTables at hc
  simp only [Bool.or_eq_false_iff, List.contains_eq_mem, decide_eq_false_iff_not] at hc
  obtain ⟨hpers, hrstr⟩ := hc
  have hp : t.pers = s.pers := exec_same he hpers
  have hr : t.rstr = s.rstr := exec_same he hrstr
  exact fits_mk hz (by rw [hp]) (by rw [hp]) (by rw [hp]) (by rw [hr])

/-- Every command keeps the tables within their sizes: by its law where it may change PERS or RSTR, else by its footprint. -/
theorem exec_fits {c : Instr} {s t : State} (he : exec c s = .next t) (hz : s.Fits) : t.Fits := by
  cases c with
  | passTick w => exact execPassTick_fits w he hz
  | mastershipTakeover late => exact execMastershipTakeover_fits late he hz
  | registerWrite p addr mask data => exact execRegisterWrite_fits p addr mask data he hz
  | counterLoRead p addr => exact execCounterLoRead_fits p addr he hz
  | rcRead p addr => exact execRcRead_fits p addr he hz
  | semRelease p n owner => exact execSemRelease_fits p n owner he hz
  | semBreak p n owner => exact execSemBreak_fits p n owner he hz
  | shadowArm p page => exact execShadowArm_fits p page he hz
  | shadowDiscard p page => exact execShadowDiscard_fits p page he hz
  | softRst p page => exact execSoftRst_fits p page he hz
  | clkGate p page on => exact execClkGate_fits p page on he hz
  | pageEn p page on => exact execPageEn_fits p page on he hz
  | intForce p page causes => exact execIntForce_fits p page causes he hz
  | errForce p page sources => exact execErrForce_fits p page sources he hz
  | mgpEoi p v => exact execMgpEoi_fits p v he hz
  | cxlMemWrite n line tag data be poison => exact execCxlMemWrite_fits n line tag data be poison he hz
  | cxlMemRead n line tag => exact execCxlMemRead_fits n line tag he hz
  | isletRecordReadDone => exact execIsletRecordReadDone_fits he hz
  | paceAdmit => exact execPaceAdmit_fits he hz
  | holdMaxAdmit => exact execHoldMaxAdmit_fits he hz
  | budgetCompute tj => exact execBudgetCompute_fits tj he hz
  | gaugeStale late => exact execGaugeStale_fits late he hz
  | epochClose => exact execEpochClose_fits he hz
  | coolingWalkDone => exact execCoolingWalkDone_fits he hz
  | epochSeal rearmed again => exact execEpochSeal_fits rearmed again he hz
  | planeClearDone => exact execPlaneClearDone_fits he hz
  | persBarPost p tag => exact execPersBarPost_fits p tag he hz
  | persQIslet p islet => exact execPersQIslet_fits p islet he hz
  | isletLookupDone => exact execIsletLookupDone_fits he hz
  | shadowReadEnd islet => exact execShadowReadEnd_fits islet he hz
  | sweepRoundDone => exact execSweepRoundDone_fits he hz
  | barrierSweepDone => exact execBarrierSweepDone_fits he hz
  | pfailDebounceDone => exact execPfailDebounceDone_fits he hz
  | pfailGlitch samples => exact execPfailGlitch_fits samples he hz
  | holdRailTrip => exact execHoldRailTrip_fits he hz
  | saveSealReadback => exact execSaveSealReadback_fits he hz
  | powerReturn => exact execPowerReturn_fits he hz
  | powerLoss torn => exact execPowerLoss_fits torn he hz
  | railOutOfBand rail => exact execRailOutOfBand_fits rail he hz
  | dramTrainingDone fell lowered failed => exact execDramTrainingDone_fits fell lowered failed he hz
  | imageDetectDone found => exact execImageDetectDone_fits found he hz
  | metadataLoadDone => exact execMetadataLoadDone_fits he hz
  | faultInDone islet us rebuilt lost late => exact execFaultInDone_fits islet us rebuilt lost late he hz
  | restoreIsletDone zero rebuilt lost => exact execRestoreIsletDone_fits zero rebuilt lost he hz
  | warmCheckDone good => exact execWarmCheckDone_fits good he hz
  | cascadeWaitExpiry => exact execCascadeWaitExpiry_fits he hz
  | resumeWindowExpiry c d => exact execResumeWindowExpiry_fits c d he hz
  | flashReadDone c d plane b r last scan => exact execFlashReadDone_fits c d plane b r last scan he hz
  | flashProgramDone c d good us => exact execFlashProgramDone_fits c d good us he hz
  | flashEraseDone c d e => exact execFlashEraseDone_fits c d e he hz
  | dieReadyTimeout c d late => exact execDieReadyTimeout_fits c d late he hz
  | fchRetrain p c => exact execFchRetrain_fits p c he hz
  | flashChannelTrained c good found => exact execFlashChannelTrained_fits c good found he hz
  | farrQBlock p query => exact execFarrQBlock_fits p query he hz
  | movStart p c => exact execMovStart_fits p c he hz
  | movAbort p c => exact execMovAbort_fits p c he hz
  | illegal c cycle => exact execIllegal_fits c cycle he hz
  | pcRange c cycle => exact execPcRange_fits c cycle he hz
  | pmUe c cycle => exact execPmUe_fits c cycle he hz
  | moverTransferDone c hit why => exact execMoverTransferDone_fits c hit why he hz
  | waitTimeout c cycle => exact execWaitTimeout_fits c cycle he hz
  | pmDataHiWrite p hi => exact execPmDataHiWrite_fits p hi he hz
  | pmDataLoRead p => exact execPmDataLoRead_fits p he hz
  | pmDataHiRead p => exact execPmDataHiRead_fits p he hz
  | mvgCpop p => exact execMvgCpop_fits p he hz
  | dramReadDone line r o record => exact execDramReadDone_fits line r o record he hz
  | caParityAlert sc => exact execCaParityAlert_fits sc he hz
  | dtrnGo p => exact execDtrnGo_fits p he hz
  | dtrnStop p => exact execDtrnStop_fits p he hz
  | perstAssert => exact execPerstAssert_fits he hz
  | linkFail => exact execLinkFail_fits he hz
  | creditStall => exact execCreditStall_fits he hz
  | injectPoison dpa => exact execInjectPoison_fits dpa he hz
  | clearPoison dpa data => exact execClearPoison_fits dpa data he hz
  | sanitizeDone => exact execSanitizeDone_fits he hz
  | barrierPost tag => exact execBarrierPost_fits tag he hz
  | formatArrayDone => exact execFormatArrayDone_fits he hz
  | straitPortTrained port partner ring => exact execStraitPortTrained_fits port partner ring he hz
  | tickSync h payload offset lag residence => exact execTickSync_fits h payload offset lag residence he hz
  | share h payload => exact execShare_fits h payload he hz
  | closeIssue => exact execCloseIssue_fits he hz
  | close h payload => exact execClose_fits h payload he hz
  | straitSave h => exact execStraitSave_fits h he hz
  | imageStatusFrame h payload => exact execImageStatusFrame_fits h payload he hz
  | groupPoint h payload => exact execGroupPoint_fits h payload he hz
  | strtRetrain p => exact execStrtRetrain_fits p he hz
  | refLoss => exact execRefLoss_fits he hz
  | aonClkLoss => exact execAonClkLoss_fits he hz
  | pllUnlock k => exact execPllUnlock_fits k he hz
  | powerOnReset retries => exact execPowerOnReset_fits retries he hz
  | bootImageVerified active other => exact execBootImageVerified_fits active other he hz
  | rstKey p key => exact execRstKey_fits p key he hz
  | devRst p => exact execDevRst_fits p he hz
  | quiesceDone refreshed stored => exact execQuiesceDone_fits refreshed stored he hz
  | resetHoldRelease => exact execResetHoldRelease_fits he hz
  | faultDetect page src kind addr cycle place alt => exact execFaultDetect_fits page src kind addr cycle place alt he hz
  | resetOverrun b => exact execResetOverrun_fits b he hz
  | resetStuck d => exact execResetStuck_fits d he hz
  | resetShadowEnd w us => exact execResetShadowEnd_fits w us he hz
  | tickStall => exact execTickStall_fits he hz
  | glenWdog k cycle => exact execGlenWdog_fits k cycle he hz
  | fltPop p => exact execFltPop_fits p he hz
  | fltFirstClr p => exact execFltFirstClr_fits p he hz
  | flush p => exact execFlush_fits p he hz
  | flushDone failed => exact execFlushDone_fits failed he hz
  | freeze p on => exact execFreeze_fits p on he hz
  | recRdSeq p rseq => exact execRecRdSeq_fits p rseq he hz
  | atolProgram p => exact execAtolProgram_fits p he hz
  | atolErase p => exact execAtolErase_fits p he hz
  | atolHalt p => exact execAtolHalt_fits p he hz
  | atolContinue p => exact execAtolContinue_fits p he hz
  | atolStatus p => exact execAtolStatus_fits p he hz
  | atolCounts p => exact execAtolCounts_fits p he hz
  | atolFlip p => exact execAtolFlip_fits p he hz
  | atolProtect p lvl => exact execAtolProtect_fits p lvl he hz
  | atolIdle p => exact execAtolIdle_fits p he hz
  | atolWindowData p offset data late => exact execAtolWindowData_fits p offset data late he hz
  | atolWindowRead p offset cbits ue => exact execAtolWindowRead_fits p offset cbits ue he hz
  | atolProgramDone pulses good => exact execAtolProgramDone_fits pulses good he hz
  | atolEraseDone good => exact execAtolEraseDone_fits good he hz
  | wipeDone => exact execWipeDone_fits he hz
  | twlTransactionDone e => exact execTwlTransactionDone_fits e he hz
  | twlTimeout stuck => exact execTwlTimeout_fits stuck he hz
  | twlNpop p => exact execTwlNpop_fits p he hz
  | twlXcmdGo p => exact execTwlXcmdGo_fits p he hz
  | regWrite count a0 a1 a2 words pecOk => exact execRegWrite_fits count a0 a1 a2 words pecOk he hz
  | regRead count a0 a1 a2 k => exact execRegRead_fits count a0 a1 a2 k he hz
  | reset count bytes pecOk => exact execReset_fits count bytes pecOk he hz
  | sbProtocolAbandon => exact execSbProtocolAbandon_fits he hz
  | ident tag good => exact execIdent_fits tag good he hz
  | status tag good => exact execStatus_fits tag good he hz
  | pkgBegin tag good payload => exact execPkgBegin_fits tag good payload he hz
  | pkgData tag good payload => exact execPkgData_fits tag good payload he hz
  | pkgEnd tag good => exact execPkgEnd_fits tag good he hz
  | activate tag good => exact execActivate_fits tag good he hz
  | abort tag good => exact execAbort_fits tag good he hz
  | rcvBegin tag good payload => exact execRcvBegin_fits tag good payload he hz
  | rcvData tag good payload => exact execRcvData_fits tag good payload he hz
  | rcvEnd tag good => exact execRcvEnd_fits tag good he hz
  | protSet tag good payload => exact execProtSet_fits tag good payload he hz
  | ecRead tag good payload => exact execEcRead_fits tag good payload he hz
  | requestTerrace p => exact execRequestTerrace_fits p he hz
  | requestBasin p => exact execRequestBasin_fits p he hz
  | requestRun p => exact execRequestRun_fits p he hz
  | domainTimeout d late => exact execDomainTimeout_fits d late he hz
  | roundLate => exact execRoundLate_fits he hz
  | scanLate => exact execScanLate_fits he hz
  | capGo p => exact execCapGo_fits p he hz
  | capMaxExpiry late => exact execCapMaxExpiry_fits late he hz
  | dscrMpop p => exact execDscrMpop_fits p he hz
  | extest pins shifted => exact execExtest_fits pins shifted he hz
  | sample pins => exact execSample_fits pins he hz
  | preload pins shifted => exact execPreload_fits pins shifted he hz
  | idcode => exact execIdcode_fits he hz
  | clamp => exact execClamp_fits he hz
  | highz => exact execHighz_fits he hz
  | extestPulse pins shifted => exact execExtestPulse_fits pins shifted he hz
  | extestTrain pins shifted => exact execExtestTrain_fits pins shifted he hz
  | sysId => exact execSysId_fits he hz
  | tstReset => exact execTstReset_fits he hz
  | atolRead word cbits ue ready => exact execAtolRead_fits word cbits ue ready he hz
  | atolEc b => exact execAtolEc_fits b he hz
  | bypass code => exact execBypass_fits code he hz
  | portDown port => exact execPortDown_fits port he hz
  | linkRecovery errors down => exact execLinkRecovery_fits errors down he hz
  | hotReset => exact execHotReset_fits he hz
  | gatedPageRead p addr => exact execGatedPageRead_fits p addr he hz
  | badOp tag good => exact execBadOp_fits tag good he hz
  | _ => exact exec_fits_of_not_reachesTables he hz rfl

/-- The sizes of the tables do not depend on the queue. -/
theorem State.Fits.withPending {s : State} (hz : s.Fits) (l : List Instr) : State.Fits { s with pending := l } :=
  fits_mk hz rfl rfl rfl rfl

end Sys2Proof.Machine

namespace Sys2Proof.Settled

open Sys2Proof.Machine

/-- Settles O5: an idle step changes nothing, and a command keeps the tables within their sizes. -/
theorem stepKeepsTables : Obligations.StepKeepsTables := by
  intro s t hz h
  cases hq : s.pending with
  | nil =>
    rw [step_nil hq] at h
    cases h
    exact hz
  | cons c l =>
    rw [step_cons hq] at h
    exact exec_fits h (hz.withPending l)

end Sys2Proof.Settled
end

section
/-! SUPPORT. What is sent stays sent: neither an interrupt nor the refresh of HLK's registers takes back a message (R27, R51, R344). -/

namespace Sys2Proof.Machine

variable {s : State} {o : Out}

/-- A vector that becomes pending sends its message after what was sent. -/
theorem State.vectorUp_keepsSent (v : Nat) (h : o ∈ s.out) : o ∈ (s.vectorUp v).out := by
  unfold State.vectorUp
  split
  · exact List.mem_cons_of_mem _ h
  · exact h

/-- So do several vectors. -/
theorem State.foldl_vectorUp_keepsSent (l : List Nat) (h : o ∈ s.out) : o ∈ (l.foldl State.vectorUp s).out := by
  induction l generalizing s with
  | nil => exact h
  | cons v l ih => exact ih (State.vectorUp_keepsSent v h)

/-- A wake sends nothing. -/
theorem State.wake_out (s : State) (c : Nat) : (s.wake c).out = s.out :=
  (State.wake_touches (m := 0x4802) (touches_refl _ s) (by decide) c).frame .out (by decide)

/-- Bringing the messages and SB_ALERT# up to date keeps what was sent. -/
theorem State.settle_keepsSent (h : o ∈ s.out) : o ∈ s.settle.out := by
  have hup := State.foldl_vectorUp_keepsSent (s.vectors.filter fun v => !s.mgp.was.contains v) h
  unfold State.settle
  extract_lets t mgp u w
  split
  · rw [State.wake_out]
    exact hup
  · exact hup

/-- Raising interrupt causes keeps what was sent. -/
theorem State.raiseMask_keepsSent (p m : Nat) (h : o ∈ s.out) : o ∈ (s.raiseMask p m).out := by
  unfold State.raiseMask
  apply State.settle_keepsSent
  rw [State.put_out]
  exact h

/-- Raising one interrupt cause keeps what was sent. -/
theorem State.raiseInt_keepsSent (p b : Nat) (h : o ∈ s.out) : o ∈ (s.raiseInt p b).out :=
  State.raiseMask_keepsSent p (2 ^ b) h

/-- Bringing HLK's registers up to date keeps what was sent. -/
theorem State.refreshHlk_keepsSent (h : o ∈ s.out) : o ∈ s.refreshHlk.out := by
  have hq : s.refreshQueues.out = s.out :=
    (State.refreshQueues_touches (m := 0x2) (touches_refl _ s) (by decide)).frame .out (by decide)
  unfold State.refreshHlk
  extract_lets q t u
  have ht : o ∈ t.out := by
    unfold t
    repeat rw [State.put_out]
    rw [hq]
    exact h
  have hu : o ∈ u.out := by
    unfold u
    split
    · exact State.raiseInt_keepsSent _ _ ht
    · exact ht
  split
  · exact State.raiseInt_keepsSent _ _ hu
  · exact hu

end Sys2Proof.Machine
end

section
/-! SUPPORT. A CXL.mem request that nothing holds up (R53, R54, R60, R82, R343, R348): how it is received and served, what a read
answers and what a write leaves in DRAM. -/

namespace Sys2Proof.Machine

variable {s : State}

/-! ### The commands -/

/-- The meaning of CXL_MEM_WRITE. -/
theorem exec_cxlMemWrite (n line tag : Nat) (data : LineData) (be : BitVec 64) (poison : Bool) (s : State) :
    exec (.cxlMemWrite n line tag data be poison) s = if s.mdl.hostLines ≤ line then .fault .lineOutsideMemory
      else .next (s.memRequest n ⟨false, 0, some tag, line, 0, true, data, be, poison⟩) := rfl

/-- The meaning of CXL_MEM_READ. -/
theorem exec_cxlMemRead (n line tag : Nat) (s : State) :
    exec (.cxlMemRead n line tag) s = if s.mdl.hostLines ≤ line then .fault .lineOutsideMemory
      else .next (s.memRequest n ⟨false, 0, some tag, line, 0, false, 0, 0, false⟩) := rfl

/-! ### The request as it is received -/

/-- A write as it waits: with its number of arrival and the hint of its decoder (R309, R343). -/
def State.writeReq (s : State) (n line tag : Nat) (data : LineData) (be : BitVec 64) (poison : Bool) : MemReq :=
  ⟨false, s.hlk.nextReq, some tag, line, s.cfg (HLK_HINT_HINT n), true, data, be, poison⟩

/-- A read as it waits. -/
def State.readReq (s : State) (n line tag : Nat) : MemReq :=
  ⟨false, s.hlk.nextReq, some tag, line, s.cfg (HLK_HINT_HINT n), false, 0, 0, false⟩

/-- The state once a request is numbered and counted. -/
def State.counted (s : State) (q : MemReq) : State := (s.setHlk { s.hlk with nextReq := s.hlk.nextReq + 1 }).countReq q

/-- Receiving a request touches no more than HLK, the counters and the telemetry. -/
theorem State.counted_touches {m : Nat} (hm : 0x40200022 &&& m = 0x40200022) (s : State) (q : MemReq) :
    Touches m s (s.counted q) :=
  State.countReq_touches (State.setHlk_touches (touches_refl m s) (mask_trans (by decide) hm) _) (mask_trans (by decide) hm) q

/-- Receiving a request leaves the link as it is. -/
theorem State.linkUp_counted (s : State) (q : MemReq) : (s.counted q).hlk.linkUp = s.hlk.linkUp := by
  obtain ⟨-, -, hhlk, -⟩ := State.countReq_keeps (s.setHlk { s.hlk with nextReq := s.hlk.nextReq + 1 }) q
  rw [State.counted, hhlk, State.setHlk_hlk]

/-- A request that is served as it arrives is one that the link receives. -/
theorem State.receives_of_servesAtOnce {n line : Nat} {w : Bool} (h : s.servesAtOnce n line w = true) :
    s.receives n line w = true := by
  simp only [State.servesAtOnce, Bool.and_eq_true] at h
  obtain ⟨⟨⟨⟨hrec, -⟩, -⟩, -⟩, -⟩ := h
  exact hrec

/-- A write that nothing holds up is counted and written. -/
theorem exec_cxlMemWrite_served {n line : Nat} (tag : Nat) (data : LineData) (be : BitVec 64) (poison : Bool)
    (hl : line < s.mdl.hostLines) (h : s.servesAtOnce n line true = true) :
    exec (.cxlMemWrite n line tag data be poison) s = .next (((s.counted (s.writeReq n line tag data be poison)).hostWrite
      (s.writeReq n line tag data be poison)).refreshHlk) := by
  rw [exec_cxlMemWrite, if_neg (Nat.not_le.mpr hl), State.memRequest, if_pos (State.receives_of_servesAtOnce h)]
  exact congrArg _ (s.arrive_once (s.writeReq n line tag data be poison) n h _ rfl)

/-- A read that nothing holds up is counted and answered. -/
theorem exec_cxlMemRead_served {n line : Nat} (tag : Nat) (hl : line < s.mdl.hostLines)
    (h : s.servesAtOnce n line false = true) : exec (.cxlMemRead n line tag) s =
      .next (((s.counted (s.readReq n line tag)).hostRead (s.readReq n line tag)).refreshHlk) := by
  rw [exec_cxlMemRead, if_neg (Nat.not_le.mpr hl), State.memRequest, if_pos (State.receives_of_servesAtOnce h)]
  exact congrArg _ (s.arrive_once (s.readReq n line tag) n h _ rfl)

/-! ### Reads -/

/-- Whether answers are sent depends on the link and the save alone. -/
theorem State.answering_congr {t : State} (hlink : t.hlk.linkUp = s.hlk.linkUp) (hsave : t.save = s.save) :
    t.answering = s.answering := by
  unfold State.answering
  rw [hlink, hsave]

/-- The answer to a request that has its tag is sent while answers are. -/
theorem State.reply_mem_out {r : MemReq} {tag : Nat} (hr : r.tag = some tag) (ha : s.answering = true) (o : Nat → Out) :
    o tag ∈ (s.reply r o).out := by
  unfold State.reply State.answer
  rw [hr]
  simp [ha]

/-- A read that is served answers its line, poisoned where the line is poisoned or uncorrectable (R348). -/
theorem State.memData_mem_hostRead {r : MemReq} {tag : Nat} (hr : r.tag = some tag) (ha : s.answering = true) :
    .memData tag (s.dramLine r.line).data ((s.dramLine r.line).poison || (s.dramLine r.line).ue) ∈ (s.hostRead r).out := by
  have hd := State.drcRead_touches (m := 0x400022) (touches_refl _ s) (by decide) .host r.line r.hint
  have hb := State.bump_touches (m := 0x400022) hd (by decide) HLK_PSN_TX_COUNT
  have hlinkd : (s.drcRead .host r.line r.hint).hlk = s.hlk := hd.frame .hlk (by decide)
  have hlinkb : ((s.drcRead .host r.line r.hint).bump HLK_PSN_TX_COUNT).hlk = s.hlk := hb.frame .hlk (by decide)
  have had := (State.answering_congr (by rw [hlinkd]) (hd.frame .save (by decide))).trans ha
  have hab := (State.answering_congr (by rw [hlinkb]) (hb.frame .save (by decide))).trans ha
  unfold State.hostRead
  extract_lets l t
  cases hp : l.poison || l.ue with
  | true => exact State.reply_mem_out hr hab _
  | false => exact State.reply_mem_out hr had _

/-- A read that nothing holds up answers its line. -/
theorem State.memData_mem_served (n line tag : Nat) (ha : s.answering = true) :
    .memData tag (s.dramLine line).data ((s.dramLine line).poison || (s.dramLine line).ue) ∈
      (((s.counted (s.readReq n line tag)).hostRead (s.readReq n line tag)).refreshHlk).out := by
  have hc := State.counted_touches (m := 0x40200022) (by decide) s (s.readReq n line tag)
  have hdram : (s.counted (s.readReq n line tag)).dram = s.dram := hc.frame .dram (by decide)
  have hans := State.answering_congr (s.linkUp_counted (s.readReq n line tag)) (hc.frame .save (by decide))
  have hmem := State.memData_mem_hostRead (r := s.readReq n line tag) rfl (hans.trans ha)
  unfold State.dramLine at hmem ⊢
  rw [hdram] at hmem
  exact State.refreshHlk_keepsSent hmem

/-- A read that nothing holds up leaves DRAM. -/
theorem State.dram_served_read (s : State) (n line tag : Nat) :
    (((s.counted (s.readReq n line tag)).hostRead (s.readReq n line tag)).refreshHlk).dram = s.dram := by
  have hc := State.counted_touches (m := 0xC0604C22) (by decide) s (s.readReq n line tag)
  have hr := State.hostRead_touches hc (by decide) (s.readReq n line tag)
  exact (State.refreshHlk_touches hr (by decide)).frame .dram (by decide)

/-! ### Writes -/

/-- A whole line written holds the data and the poison of the write (R311, R321). -/
theorem State.dramLine_storeLine_whole (hs : s.Canon) (cls : DramClass) (line hint : Nat) (data : LineData) (poison : Bool) :
    (s.storeLine cls line hint data (BitVec.allOnes 64) poison).dramLine line = ⟨data, poison, false⟩ := by
  have hd := (State.drcWrite_touches (m := 0x400022) (touches_refl _ s) (by decide) cls line hint).canon hs
  have hrises := hd.dram
  rw [Sparse.wf, Bool.and_eq_true] at hrises
  rw [State.storeLine, if_pos rfl]
  exact Sparse.get_set_same_from _ 0 line _ hrises.1

/-- What a host write leaves in DRAM is what its line access stores. -/
theorem State.dram_hostWrite (s : State) (r : MemReq) : (s.hostWrite r).dram =
    ((s.touch (r.line / 1024)).storeLine .host r.line r.hint r.data r.be r.poison).dram := by
  unfold State.hostWrite
  extract_lets u t
  have ht : t.dram = u.dram := by
    unfold t
    split
    · exact (State.markPoison_touches (m := 0x4000000) (touches_refl _ u) (by decide) _ _).frame .dram (by decide)
    · rfl
  have hreply := (State.reply_touches (m := 0x80000000) (touches_refl _ t) (by decide) r fun n => .memDone n).frame .dram
    (by decide)
  exact hreply.trans ht

/-- After a write of a whole line that nothing holds up, the line holds its data and its poison. -/
theorem State.dramLine_served_write (hs : s.Canon) (n line tag : Nat) (data : LineData) (poison : Bool) :
    (((s.counted (s.writeReq n line tag data (BitVec.allOnes 64) poison)).hostWrite
      (s.writeReq n line tag data (BitVec.allOnes 64) poison)).refreshHlk).dramLine line = ⟨data, poison, false⟩ := by
  set q := s.writeReq n line tag data (BitVec.allOnes 64) poison
  have hcanon := (State.touch_touches (m := 0xC000CC22) (touches_refl _ (s.counted q)) (by decide) (line / 1024)).canon
    ((State.counted_touches (m := 0x40200022) (by decide) s q).canon hs)
  have hrefresh : (((s.counted q).hostWrite q).refreshHlk).dram = ((s.counted q).hostWrite q).dram :=
    (State.refreshHlk_touches (m := 0x80204C02) (touches_refl _ _) (by decide)).frame .dram (by decide)
  have hline := State.dramLine_storeLine_whole hcanon .host line q.hint data poison
  unfold State.dramLine at hline ⊢
  rw [hrefresh, State.dram_hostWrite]
  exact hline

end Sys2Proof.Machine

namespace Sys2Proof.Settled

open Sys2Proof.Machine

/-- Settles O30: a line outside memory faults, and within memory a request that the link receives and that nothing holds up is
served as it arrives. -/
theorem cxlRequests : Obligations.CxlRequests := by
  refine ⟨?_, ?_, ?_, ?_⟩
  · intro s n line tag data be poison hl h
    exact exec_cxlMemWrite_served tag data be poison hl h
  · intro s n line tag hl h
    exact exec_cxlMemRead_served tag hl h
  · intro s n line tag data be poison hl
    rw [exec_cxlMemWrite, if_pos hl]
  · intro s n line tag hl
    rw [exec_cxlMemRead, if_pos hl]

/-- Settles O9: only the two requests to memory have a case that is not a next state, and it is the line outside memory. -/
theorem stopsOnlyOutsideMemory : Obligations.StopsOnlyOutsideMemory := by
  intro c s
  cases c with
  | cxlMemWrite n line tag data be poison =>
    by_cases hl : s.mdl.hostLines ≤ line
    · exact .inr ⟨by rw [exec_cxlMemWrite, if_pos hl], .inl ⟨n, line, tag, data, be, poison, rfl, hl⟩⟩
    · exact .inl ⟨_, by rw [exec_cxlMemWrite, if_neg hl]⟩
  | cxlMemRead n line tag =>
    by_cases hl : s.mdl.hostLines ≤ line
    · exact .inr ⟨by rw [exec_cxlMemRead, if_pos hl], .inr ⟨n, line, tag, rfl, hl⟩⟩
    · exact .inl ⟨_, by rw [exec_cxlMemRead, if_neg hl]⟩
  | _ => exact .inl ⟨_, rfl⟩

/-- Settles O11: the read is served at once, and what it sends stays sent. -/
theorem cxlReadMemory : Obligations.CxlReadMemory := by
  intro s n line tag hl h ha
  refine ⟨_, exec_cxlMemRead_served tag hl h, fun l => ?_, State.memData_mem_served n line tag ha⟩
  rw [State.dramLine, State.dram_served_read, State.dramLine]

/-- Settles O12: the write leaves its data in the line, which the read answers. -/
theorem cxlReadReturnsWrite : Obligations.CxlReadReturnsWrite := by
  intro s n line tag data poison hs hl h
  have hwrite := exec_cxlMemWrite_served tag data (BitVec.allOnes 64) poison hl h
  have hline := State.dramLine_served_write hs n line tag data poison
  refine ⟨_, hwrite, fun m tag' hserve ha => ⟨_, exec_cxlMemRead_served tag' ?_ hserve, ?_⟩⟩
  · rw [exec_mdl hwrite]
    exact hl
  · have hmem := State.memData_mem_served m line tag' ha
    rw [hline, Bool.or_false] at hmem
    exact hmem

end Sys2Proof.Settled
end

section
/-! SUPPORT. Barrier posts (R87, R91): what an accepted write of PERS_BAR_POST leaves, when its post is refused, and what it
leaves of PERS. -/

namespace Sys2Proof.Machine

variable {s u : State} {p : Port} {a : Nat} {d tag : Word}

/-! ### The write of PERS_BAR_POST -/

/-- The write that a page accepts names a register. -/
theorem State.regRow_of_accepted (h : s.accepted p a d = some u) : ∃ r, regRow a = some r := by
  unfold State.accepted at h
  split at h
  · split at h
    · cases h
    · next r hr => exact ⟨r, hr⟩
  · cases h

/-- The write that a page accepts touches the registers and the values in force until the tick. -/
theorem State.accepted_touches (h : s.accepted p a d = some u) : Touches 0x6 s u := by
  obtain ⟨r, hr⟩ := State.regRow_of_accepted h
  rw [State.accepted_eq h hr]
  exact State.countWrite_touches (State.storeFields_touches (touches_refl _ s) (by decide) p a r d) (by decide) _

/-- A write that acts in its own cycle leaves the values in force until the tick. -/
theorem State.late_accepted {r : Row} (h : s.accepted p a d = some u) (hr : regRow a = some r)
    (hn : actsAtTick a r = false) : u.late = s.late := by
  have hstore : (s.storeFields p a r d).late = s.late := by
    unfold State.storeFields
    extract_lets k w t
    rw [hn, Bool.false_and, if_neg Bool.false_ne_true]
    rfl
  rw [State.accepted_eq h hr, State.countWrite, State.put_late, hstore]

/-- PERS_BAR_POST is written in its place, in the cycle of the write (R94). -/
theorem barPost_row : (regRow 0x22040).all (fun r => !r.shadow && !r.perReader && !actsAtTick 0x22040 r) = true := by decide

/-- A write of PERS_BAR_POST leaves every register but itself and PAGE_SEQ of its page, and no value waits for the tick. -/
theorem State.regs_barPost (h : s.accepted p 0x22040 tag = some u) :
    u.late = s.late ∧ ∀ k, k ≠ 0x22040 → k ≠ 0x2203C → u.word k = s.word k := by
  obtain ⟨r, hr⟩ := State.regRow_of_accepted h
  have hrow := barPost_row
  rw [hr, Option.all_some] at hrow
  simp only [Bool.and_eq_true, Bool.not_eq_true'] at hrow
  obtain ⟨⟨hshadow, hreader⟩, hact⟩ := hrow
  have hkey : writeKey p 0x22040 r = 0x22040 := by simp [writeKey, hshadow, hreader]
  exact ⟨State.late_accepted h hr hact, fun k hk hq => State.word_accepted_other h hr (by rwa [hkey]) hq⟩

/-- A write of PERS_BAR_POST brings a post about. -/
theorem State.written_barPost (ha : a = 0x22040) : u.written s p a d = u.postBarrier d.toNat := by
  have hf : ∀ f ∈ features, f.enable.addr ≠ a := ha ▸ by decide
  unfold State.written
  simp only [State.enableFeatures_none hf]
  repeat rw [if_neg (by omega)]
  rw [if_pos ha]

/-- The meaning of PERS_BAR_POST, where the page accepts the write. -/
theorem exec_persBarPost (h : s.accepted p 0x22040 tag = some u) :
    exec (.persBarPost p tag) s = .next ((u.postBarrier tag.toNat).refreshArmed) := by
  have hw := State.portWord_of_accepted h (.inl (by decide)) (by decide) (.inl (by decide))
  rw [State.written_barPost rfl] at hw
  exact congrArg _ hw

/-! ### Why a post is refused -/

/-- Is persistence not active, in the sense of R91: ACTIVE at 0, or a save runs, has ended or has failed? -/
def State.persIdle (s : State) : Prop :=
  s.active = false ∨ s.saving = true ∨ s.save.ended = true ∨ s.save.failed = true

/-- While persistence is not active a post is refused with code 7, whatever else holds. -/
theorem State.barRefusal_idle (h : s.persIdle) : s.barRefusal = some 7 := by
  unfold State.barRefusal
  rw [if_pos (by rwa [Bool.not_eq_true])]

/-- Past that test BARRIER_EN and the open barriers decide. -/
theorem State.barRefusal_not_idle (h : ¬ s.persIdle) : s.barRefusal =
    if s.cfgOn PERS_CTRL_BARRIER_EN = false then some 3 else if 16 ≤ s.pers.barriers.length then some 6 else none := by
  unfold State.barRefusal
  rw [if_neg (by rwa [Bool.not_eq_true])]
  simp only [Bool.not_eq_true]

/-- A post is accepted where none of the three causes of R91 holds. -/
theorem State.barRefusal_eq_none_iff : s.barRefusal = none ↔
    ¬ (s.persIdle ∨ s.cfgOn PERS_CTRL_BARRIER_EN = false ∨ 16 ≤ s.pers.barriers.length) := by
  by_cases hi : s.persIdle
  · simp [State.barRefusal_idle hi, hi]
  · rw [State.barRefusal_not_idle hi]
    split
    · next he => simp [he]
    · next he =>
      split
      · next hb => simp [hb]
      · next hb => simp [hi, he, hb]

/-- Counting and storing a post's write changes nothing that its refusal depends on. -/
theorem State.barRefusal_accepted (h : s.accepted p 0x22040 tag = some u) : u.barRefusal = s.barRefusal := by
  obtain ⟨hlate, hword⟩ := State.regs_barPost h
  have htouch := State.accepted_touches h
  have hpers : u.pers = s.pers := htouch.frame .pers (by decide)
  have hsave : u.save = s.save := htouch.frame .save (by decide)
  have hctrl : u.word 0x20040 = s.word 0x20040 := hword _ (by decide) (by decide)
  unfold State.barRefusal State.active State.flag State.get State.saving State.cfgOn State.cfg State.actWord
  rw [hlate, hpers, hsave, hctrl]

/-! ### The post -/

/-- A refused post sets REFUSED and raises its interrupt (R91). -/
theorem State.postBarrier_refused {n c : Nat} (h : s.barRefusal = some c) :
    s.postBarrier n = (s.put PERS_BAR_STAT_REFUSED 1).raiseInt 0x22 1 := by
  unfold State.postBarrier
  rw [h]

/-- A post that is not refused opens a barrier bound to the collecting epoch (R87). -/
theorem State.postBarrier_accepted {n : Nat} (h : s.barRefusal = none) : s.postBarrier n = ((s.setPers { s.pers with
    barriers := s.pers.barriers ++ [⟨s.pers.nextSeq, n, s.epoch, none⟩]
    posts := keep64 (s.pers.posts ++ [⟨s.pers.nextSeq, n, false⟩])
    nextSeq := nextBarSeq s.pers.nextSeq }).put PERS_BAR_SEQ_LAST_POST s.pers.nextSeq).refresh := by
  unfold State.postBarrier
  rw [h]

/-- Bringing ARMED up to date leaves PERS. -/
theorem State.refreshArmed_pers (s : State) : s.refreshArmed.pers = s.pers :=
  (State.refreshArmed_touches (m := 0x80004C02) (touches_refl _ s) (by decide)).frame .pers (by decide)

/-- Bringing PERS's registers up to date leaves PERS. -/
theorem State.refresh_pers (s : State) : s.refresh.pers = s.pers :=
  (State.refresh_touches (m := 0x80004C02) (touches_refl _ s) (by decide)).frame .pers (by decide)

/-- Raising an interrupt leaves PERS. -/
theorem State.raiseInt_pers (s : State) (pg b : Nat) : (s.raiseInt pg b).pers = s.pers :=
  (State.raiseInt_touches (m := 0x80004C02) (touches_refl _ s) (by decide) pg b).frame .pers (by decide)

/-- A refused post leaves PERS: it uses no sequence number (R91). -/
theorem State.pers_postBarrier_refused {n c : Nat} (h : s.barRefusal = some c) : (s.postBarrier n).refreshArmed.pers = s.pers := by
  rw [State.refreshArmed_pers, State.postBarrier_refused h, State.raiseInt_pers, State.put_pers]

/-- A post that is not refused opens one barrier and uses one sequence number (R87). -/
theorem State.pers_postBarrier_accepted {n : Nat} (h : s.barRefusal = none) :
    (s.postBarrier n).refreshArmed.pers.barriers.length = s.pers.barriers.length + 1 ∧
    (s.postBarrier n).refreshArmed.pers.nextSeq = nextBarSeq s.pers.nextSeq := by
  rw [State.refreshArmed_pers, State.postBarrier_accepted h, State.refresh_pers, State.put_pers, State.setPers_pers]
  exact ⟨List.length_append, rfl⟩

end Sys2Proof.Machine

namespace Sys2Proof.Settled

open Sys2Proof.Machine

/-- Settles O19: the write leaves what the refusal depends on, and the refusal has R91's three causes in their order. -/
theorem barrierRefusals : Obligations.BarrierRefusals := by
  intro s u p tag h inactive refused
  have hu := State.barRefusal_accepted h
  have hpers : u.pers = s.pers := (State.accepted_touches h).frame .pers (by decide)
  have hrefused : refused → ∃ c, u.barRefusal = some c := fun hr =>
    Option.ne_none_iff_exists'.mp fun hn => State.barRefusal_eq_none_iff.mp (hu ▸ hn) hr
  have hopen : ¬ refused → u.barRefusal = none := fun hr => hu.trans (State.barRefusal_eq_none_iff.mpr hr)
  refine ⟨fun hi => ?_, fun hi he => ?_, fun hi he hb => ?_, _, exec_persBarPost h, fun hr => ?_, fun hr => ?_, fun hle => ?_⟩
  · rw [hu, State.barRefusal_idle hi]
  · rw [hu, State.barRefusal_not_idle hi, if_pos he]
  · rw [hu, State.barRefusal_not_idle hi, if_neg (by simp [he]), if_pos hb]
  · obtain ⟨c, hc⟩ := hrefused hr
    exact ⟨by rw [State.postBarrier_refused hc], (State.pers_postBarrier_refused hc).trans hpers⟩
  · rw [← hpers]
    exact State.pers_postBarrier_accepted (hopen hr)
  · by_cases hr : refused
    · obtain ⟨c, hc⟩ := hrefused hr
      rw [State.pers_postBarrier_refused hc, hpers]
      exact hle
    · obtain ⟨hlength, -⟩ := State.pers_postBarrier_accepted (n := tag.toNat) (hopen hr)
      have hroom : ¬ 16 ≤ s.pers.barriers.length := fun hb => hr (.inr (.inr hb))
      rw [hlength, hpers]
      omega

end Sys2Proof.Settled
end

section
/-! SUPPORT. The budget hold (R76, R78, R82 to R84): what becomes of a write whose record was read, how the head of the hold queue
is admitted, and the timed steps of the budget. -/

namespace Sys2Proof.Machine

variable {s v : State} {h : HeldWrite} {l : List HeldWrite}

/-- The oldest write whose record was being read is disposed of (R82). -/
theorem State.recordRead_disposed (hq : s.pers.recWait = h :: l)
    (hd : (s.setPers { s.pers with recWait := l }).dispose h.req = some v) : s.recordRead = v.serve := by
  unfold State.recordRead
  rw [hq]
  simp only [hd]

/-- Where the hold queue has no place for it, it waits in the receive buffer (R344). -/
theorem State.recordRead_buffered (hq : s.pers.recWait = h :: l)
    (hd : (s.setPers { s.pers with recWait := l }).dispose h.req = none) :
    s.recordRead = ((s.setPers { s.pers with recWait := l }).buffer h.req).serve := by
  unfold State.recordRead
  rw [hq]
  simp only [hd]

/-- The head of the hold queue is admitted, and those behind it are judged (R83). -/
theorem State.admitHead_cons (hq : s.pers.hold = h :: l) : s.admitHead =
    (State.judgeHead l ((s.setPers { s.pers with hold := l, lastAdmit := s.now }).hostWrite h.req)).serve := by
  unfold State.admitHead
  rw [hq]

/-- At level 4, SPACING passes after the last admission, the head is admitted (R83). -/
theorem State.paceAdmit_due (hl : s.level = 4) (hh : s.holding = true)
    (ht : s.pers.lastAdmit + s.cfg PERS_BP_SPACING ≤ s.now) : s.paceAdmit = s.admitHead := by
  rw [State.paceAdmit, if_pos ⟨hl, hh, ht⟩]

/-- At level 5 a head that has waited HOLD_MAX is admitted with its count, its interrupt, its fault and its event (R84). -/
theorem State.holdMaxAdmit_due (hq : s.pers.hold = h :: l) (hl : s.level = 5) (hh : s.holding = true)
    (ht : h.since + s.cfg PERS_BP_HOLD_MAX ≤ s.now) : s.holdMaxAdmit =
      ((((s.bump PERS_BP_OVR_COUNT).raiseInt 0x20 4).raiseFault 0x20 1 0x0A (h.req.line / 1024)).event .budgetOverride 0x20
        [h.req.line / 1024]).admitHead := by
  unfold State.holdMaxAdmit
  rw [hq]
  exact if_pos ⟨hl, hh, ht⟩

/-- The budget is computed while PERS runs (R76). -/
theorem State.budgetCompute_running (hr : s.persRuns = true) (tj : Int) :
    s.budgetCompute tj = ((s.computeBudget tj).sendShares).tempTrigger 0 128 tj := by
  rw [State.budgetCompute, State.budgetDue, if_pos hr]

/-- A gauge that has just gone stale sets GAUGE_STALE with its interrupt and its fault (R78). -/
theorem State.gaugeStale_overdue {g : Nat × Nat} (hg : s.pers.gauge = some g) (hf : s.fresh s.pers.gauge = false)
    (hs : s.flag PERS_STAT_GAUGE_STALE = false) (hr : s.persRuns = true) :
    s.gaugeStale false = ((s.put PERS_STAT_GAUGE_STALE 1).raiseInt 0x20 2).raiseFault 0x20 2 5 0x200CC := by
  rw [hg] at hf
  unfold State.gaugeStale
  rw [hg]
  simp [hf, hs, hr]

end Sys2Proof.Machine

namespace Sys2Proof.Settled

open Sys2Proof.Machine

/-- Settles O31: each step, by the state of the queue and the level in which it acts. -/
theorem budgetHold : Obligations.BudgetHold := by
  refine ⟨?_, ?_, ?_, ?_, ?_, ?_⟩
  · intro s h l v hq hd
    exact congrArg _ (State.recordRead_disposed hq hd)
  · intro s h l hq hd
    exact congrArg _ (State.recordRead_buffered hq hd)
  · intro s h l hq hl hh ht
    exact congrArg _ ((State.paceAdmit_due hl hh ht).trans (State.admitHead_cons hq))
  · intro s h l hq hl hh ht
    exact congrArg _ (State.holdMaxAdmit_due hq hl hh ht)
  · intro s tj hr
    exact congrArg _ (State.budgetCompute_running hr tj)
  · intro s g hg hf hs hr
    exact congrArg _ (State.gaugeStale_overdue hg hf hs hr)

end Sys2Proof.Settled
end

section
/-! SUPPORT. Epochs (R69, R71, R72, R97): the close or its deferral, and the walk, the seal and the clear of the tail. -/

namespace Sys2Proof.Machine

variable {s : State} {x : Tail}

/-! ### The close -/

/-- A close falls due in a run of epochs that is active and that no save has ended (R69, R74). -/
def State.closes (s : State) : Bool := s.active && s.pers.running && !s.saving && s.closeDue

/-- The four conditions of a close. -/
theorem State.closes_of (ha : s.active = true) (hr : s.pers.running = true) (hs : s.saving = false)
    (hd : s.closeDue = true) : s.closes = true := by
  simp [State.closes, ha, hr, hs, hd]

/-- With no tail open the epoch closes (R69). -/
theorem State.tryClose_no_tail (hcl : s.closes = true) (ht : s.pers.tail = none) (hc : s.pers.clearedAt ≠ some s.now) :
    s.tryClose = s.closeEpoch := by
  unfold State.closes at hcl
  rw [State.tryClose, if_pos hcl, ht]
  exact if_neg hc

/-- With a tail open the close is deferred (R72). -/
theorem State.tryClose_tail (hcl : s.closes = true) (ht : s.pers.tail = some x) : s.tryClose = s.deferClose := by
  unfold State.closes at hcl
  rw [State.tryClose, if_pos hcl, ht]

/-- A close that was deferred before is counted once more in this pass (R72). -/
theorem State.deferClose_stretched (hs : s.pers.stretched = true) (hd : s.pers.deferredAt ≠ some s.now) :
    s.deferClose = (s.bump64 PERS_STRETCH_LO_PASSES).setPers { s.pers with deferredAt := some s.now } := by
  unfold State.deferClose
  rw [if_neg hd]
  exact if_pos hs

/-- What a close leaves of PERS that neither appends nor barrier sweeps change: the tail it opened and the epoch it began. -/
structure Pers.ClosedAt (q : Pers) (e now : Nat) : Prop where
  tail : q.tail = some ⟨e, now, false, false⟩
  epochBegan : q.epochBegan = now
  stretched : q.stretched = false

/-- Resuming appends leaves the tail. -/
theorem State.closedAt_resumeAppends {e now : Nat} (h : s.pers.ClosedAt e now) : s.resumeAppends.pers.ClosedAt e now := by
  unfold State.resumeAppends
  split
  · exact ⟨h.tail, h.epochBegan, h.stretched⟩
  · exact h

/-- Starting a barrier sweep leaves the tail. -/
theorem State.closedAt_startBarSweep {e now : Nat} (h : s.pers.ClosedAt e now) : s.startBarSweep.pers.ClosedAt e now := by
  unfold State.startBarSweep
  split
  · exact ⟨h.tail, h.epochBegan, h.stretched⟩
  · exact ⟨h.tail, h.epochBegan, h.stretched⟩

/-- A close opens the tail of the epoch that collected, and the next epoch begins unstretched (R69, R71). -/
theorem State.closedAt_closeEpoch (s : State) : s.closeEpoch.pers.ClosedAt s.epoch s.now := by
  unfold State.closeEpoch
  extract_lets e n t p u v
  have hu : u.pers.ClosedAt e s.now := ⟨rfl, rfl, rfl⟩
  have hv : v.pers.ClosedAt e s.now := State.closedAt_resumeAppends hu
  rw [State.refresh_pers]
  split
  · exact State.closedAt_startBarSweep hv
  · exact hv

/-! ### The tail -/

/-- The walk of the tail's plane completes outside a save (R97). -/
theorem State.walkDone_unwalked (hs : s.saving = false) (ht : s.pers.tail = some x) (hw : x.walked = false) :
    s.walkDone = (s.walkPlane x.epoch).setPers { (s.walkPlane x.epoch).pers with tail := some { x with walked := true } } := by
  rw [State.walkDone, if_neg (by simp [hs]), State.endWalk, ht]
  exact if_neg (by simp [hw])

/-- The seal of the tail's epoch reads back good while no save has taken the journal over (R71). -/
theorem State.sealRead_unsealed {rearmed : Bool} {again : Nat} (ht : s.pers.tail = some x) (hx : x.sealed = false)
    (hs : s.saving = false) (he : s.save.ended = false) (hf : s.save.failed = false) : s.sealRead rearmed again =
      (let v := (s.journalEpoch x.epoch again).sealEpoch x.epoch rearmed
       let u := v.setPers { v.pers with tail := some { x with sealed := true } }
       ((if rearmed then u else u.planStale).sendSealed x.epoch).checkGroupSealed) := by
  rw [State.sealRead, ht]
  exact if_neg (by simp [hx, hs, he, hf])

/-- The clear of the frozen plane completes a tail that is walked and sealed (R71, R377). -/
theorem State.planeCleared_tail (ht : s.pers.tail = some x) (hw : x.walked = true) (hx : x.sealed = true)
    (hs : s.saving = false) : s.planeCleared =
      (let u := s.setPers { s.pers with clearedAt := some s.now }
       (u.setPers { u.pers.setPlane (u.epoch + 1) [] with tail := none }).sendTailDone x.epoch) := by
  have hclear : (s.setPers { s.pers with clearedAt := some s.now }).clearPlane =
      (let u := s.setPers { s.pers with clearedAt := some s.now }
       u.setPers { u.pers.setPlane (u.epoch + 1) [] with tail := none }) := by
    rw [State.clearPlane, State.setPers_pers, ht]
    exact if_pos ⟨hw, hx⟩
  rw [State.planeCleared, ht]
  simp only [hw, hx, hs, and_self, if_true, hclear]

end Sys2Proof.Machine

namespace Sys2Proof.Settled

open Sys2Proof.Machine

/-- Settles O32: a due close by whether a tail is open, and the steps of the tail in their order. -/
theorem epochs : Obligations.Epochs := by
  refine ⟨?_, ?_, ?_, ?_, ?_, ?_⟩
  · intro s ha hr hs hd ht hc
    exact congrArg _ (State.tryClose_no_tail (State.closes_of ha hr hs hd) ht hc)
  · intro s x ha hr hs hd ht hst hdef
    have hdefer := State.tryClose_tail (State.closes_of ha hr hs hd) ht
    exact congrArg _ (hdefer.trans (State.deferClose_stretched hst hdef))
  · intro s ha hr hs hd ht hc
    obtain ⟨htail, hbegan, hstretched⟩ := s.closedAt_closeEpoch
    have hclose := State.tryClose_no_tail (State.closes_of ha hr hs hd) ht hc
    exact ⟨s.closeEpoch, congrArg _ hclose, htail, hbegan, hstretched⟩
  · intro s x hs ht hw
    exact congrArg _ (State.walkDone_unwalked hs ht hw)
  · intro s rearmed again x ht hx hs he hf
    exact congrArg _ (State.sealRead_unsealed ht hx hs he hf)
  · intro s x ht hw hx hs
    exact congrArg _ (State.planeCleared_tail ht hw hx hs)

end Sys2Proof.Settled
end

section
/-! SUPPORT. Queries, copies, stripes and sweeps (R96, R99, R100, R104, R207): what each of them completes. -/

namespace Sys2Proof.Machine

variable {s u : State} {p : Port} {a : Nat} {d : Word}

/-! ### The islet query (R96) -/

/-- A write of PERS_Q_ISLET clears VALID and starts a lookup. -/
theorem State.written_qIslet (ha : a = 0x23040) : u.written s p a d =
    (u.put PERS_Q_STATE_VALID 0).setPers { u.pers with lookup := some (getBits d 0 25) } := by
  have hf : ∀ f ∈ features, f.enable.addr ≠ a := ha ▸ by decide
  unfold State.written
  simp only [State.enableFeatures_none hf]
  repeat rw [if_neg (by omega)]
  rw [if_pos ha]

/-- The write of an islet's number that the page accepts. -/
theorem State.portWord_qIslet {i : Nat} (hi : i < 2 ^ 25) (h : s.accepted p 0x23040 (BitVec.ofNat 32 i) = some u) :
    s.portWord p 0x23040 (BitVec.ofNat 32 i) =
      ((u.put PERS_Q_STATE_VALID 0).setPers { u.pers with lookup := some i }).refreshArmed := by
  have hget : getBits (BitVec.ofNat 32 i) 0 25 = i := by rw [getBits, BitVec.toNat_ofNat]; omega
  rw [State.portWord_of_accepted h (.inl (by decide)) (by decide) (.inl (by decide)), State.written_qIslet rfl, hget]

/-- A lookup completes while its page is on. -/
theorem State.lookupDone_pending {i : Nat} (hl : s.pers.lookup = some i) (hg : s.gated 0x23 = false) :
    s.lookupDone = s.endLookup i := by
  rw [State.lookupDone, hl]
  exact if_neg (by simp [hg])

/-- The lookup of a host-visible islet fills the query registers with its record. -/
theorem State.endLookup_visible {i : Nat} (hi : i < s.mdl.hostIslets) : s.endLookup i =
    (let r := s.recOf i
     let t := s.put PERS_Q_STATE_VALID 1
     (((((((t.setPers { t.pers with lookup := none }).put PERS_Q_STATE_FROZEN_BIT (b2n ((s.pers.plane (s.epoch +
       1)).contains i))).put PERS_Q_STATE_COLLECT_BIT (b2n (s.collects i))).put PERS_Q_STATE_STATE (r.code s.epoch)).put
       PERS_Q_STAMP_LO_STAMP (r.stamp % 2 ^ 32)).put PERS_Q_STAMP_HI_STAMP (r.stamp / 2 ^ 32)).put PERS_Q_ENTRY_LO_ENTRY
       (r.entry % 2 ^ 32)).put PERS_Q_ENTRY_HI_ENTRY (r.entry / 2 ^ 32)) := by
  unfold State.endLookup
  exact if_neg (Nat.not_le.mpr hi)

/-! ### Copies and stripes (R104, R207) -/

/-- Outside a save the end of a copy's read treats its islet and forms stripes of both modes (R104). -/
theorem State.readEnded_running (hs : s.saving = false) (i : Nat) :
    s.readEnded i = ((s.endRead i).formStripe false false).formStripe true false := by
  rw [State.readEnded, if_neg (by simp [hs])]

/-- Without a row in its band no stripe is formed (R207). -/
theorem State.formStripe_no_row {slc : Bool} (hr : s.rowFor (bandFor slc) slc (rowsFor slc) s.save.plan = none)
    (forced : Bool) : s.formStripe slc forced = s := by
  unfold State.formStripe
  simp only [hr, ite_self]

/-- Copies that wait form a stripe with pad cells where their band has a row (R207). -/
theorem State.formStripe_forced {slc : Bool} {k row : Nat} (hl : s.unstriped slc ≠ [])
    (hr : s.rowFor (bandFor slc) slc (rowsFor slc) s.save.plan = some (k, row)) : s.formStripe slc true =
      (let t := s.takeRows (bandFor slc) slc (rowsFor slc) k row
       t.setFarr { t.farr with
         stripes := t.farr.stripes ++ [⟨t.farr.nextStripe, k, row, .shadow, slc,
           ((s.unstriped slc).take (stripeFill slc)).map (fun c => (c.islet, c.r)), [], 0⟩]
         nextStripe := t.farr.nextStripe + 1 }) := by
  unfold State.formStripe
  simp only [hr]
  exact if_pos ⟨hl, .inl trivial⟩

/-- A stripe with a copy that has waited 200 passes is formed (R207). -/
theorem State.stripeAge_expired {slc : Bool} (hs : s.saving = false)
    (hw : (s.unstriped slc).any (fun c => decide (c.stagedAt + 200 ≤ s.now)) = true) :
    s.stripeAge slc = s.formStripe slc true := by
  rw [State.stripeAge, if_pos ⟨by simp [hs], hw⟩]

/-- Without a row an expiry changes nothing (R207). -/
theorem State.stripeAge_no_row {slc : Bool} (hr : s.rowFor (bandFor slc) slc (rowsFor slc) s.save.plan = none) :
    s.stripeAge slc = s := by
  rw [State.stripeAge, State.formStripe_no_row hr, ite_self]

/-! ### Sweeps (R99, R100) -/

/-- A sweep round that has offered every eligible islet ends sweep mode, or another begins (R99). -/
theorem State.sweepRoundDone_offered (hf : s.flag PERS_SHD_STAT_SWEEP = true) (hs : s.saving = false)
    (ho : s.sweepOffer = none) : s.sweepRoundDone =
      if s.pers.sweepFresh then (s.put PERS_SHD_STAT_SWEEP 0).setPers { s.pers with sweepFresh := false, sweepPos := 0 }
      else s.setPers { s.pers with sweepFresh := !s.pers.appendStopped, sweepPos := 0 } := by
  rw [State.sweepRoundDone, if_neg (by simp [hf, hs, ho])]

/-- A barrier sweep that offered an islet is followed by another at once, and one that offered none waits for the next seal
(R100). -/
theorem State.barSweepDone_offered {b : Nat} (hs : s.saving = false) (hb : s.pers.barNs = some b) (ho : s.barOffer = none) :
    s.barSweepDone = if s.pers.barOffered then s.startBarSweep
      else (s.put PERS_SHD_STAT_BAR_SWEEP 0).setPers { s.pers with barNs := none, barWait := true } := by
  rw [State.barSweepDone, if_neg (by simp [hs]), State.endBarSweep, if_neg (by simp [hb, ho])]

end Sys2Proof.Machine

namespace Sys2Proof.Settled

open Sys2Proof.Machine

/-- Settles O33: the posts by their refusal, the stripes by whether the band has a row, and each sweep by how its round went. -/
theorem shadowAndBarriers : Obligations.ShadowAndBarriers := by
  refine ⟨?_, ?_, ?_, ?_, ?_, ?_, ?_, ?_, ?_, ?_, ?_⟩
  · intro s p tag u h hc
    rw [exec_persBarPost h, State.postBarrier_accepted hc]
  · intro s p tag u c h hc
    rw [exec_persBarPost h, State.postBarrier_refused hc]
  · intro s p i u hi h
    exact congrArg _ (State.portWord_qIslet hi h)
  · intro s i hl hg hi
    exact congrArg _ ((State.lookupDone_pending hl hg).trans (State.endLookup_visible hi))
  · intro s i hs
    exact congrArg _ (State.readEnded_running hs i)
  · intro s slc k row hs hw hr
    have hne : s.unstriped slc ≠ [] := fun hnil => by simp [hnil] at hw
    exact congrArg _ ((State.stripeAge_expired hs hw).trans (State.formStripe_forced hne hr))
  · intro s slc hr
    exact congrArg _ (State.stripeAge_no_row hr)
  · intro s hf hs ho hfresh
    exact congrArg _ ((State.sweepRoundDone_offered hf hs ho).trans (if_pos hfresh))
  · intro s hf hs ho hfresh
    exact congrArg _ ((State.sweepRoundDone_offered hf hs ho).trans (if_neg (by simp [hfresh])))
  · intro s b hs hb ho hoff
    exact congrArg _ ((State.barSweepDone_offered hs hb ho).trans (if_neg (by simp [hoff])))
  · intro s b hs hb ho hoff
    exact congrArg _ ((State.barSweepDone_offered hs hb ho).trans (if_pos hoff))

end Sys2Proof.Settled
end

section
/-! SUPPORT. The pins and supplies that start, close out and end a save (R118, R120, R142, R148, R149, R151, R570): what each of them
does, by its own level and by whether a save runs. -/

namespace Sys2Proof.Machine

variable {s : State}

/-! ### PFAIL_IN# -/

/-- PFAIL_IN# low to the end of its debounce is the trigger with cause 1 and the fall as time zero (R118, R119). -/
theorem State.pfailTrigger_low (h : s.save.pfailLow = true) : s.pfailTrigger = s.startSave 1 s.save.pfailFell := if_pos h

/-- A pulse that ends before its debounce is counted, reported and raised (R120). -/
theorem State.pfailGlitch_low (h : s.save.pfailLow = true) (n : Nat) : s.pfailGlitch n =
    (((((s.setSave { s.save with pfailLow := false }).goodNow).bumpSat SAVE_GLITCH_COUNT).raiseInt 0x29 1).raiseFault 0x29 2 9
      (n % 256 * 256)) := if_pos h

/-- PFAIL_IN# rises from low (R148). -/
theorem State.pfailRise_low (h : s.save.pfailLow = true) :
    s.pfailRise = (s.setSave { s.save with pfailLow := false }).goodNow := if_pos h

/-! ### The hold rail -/

/-- The state of SAVE once the hold rail is below V_TRIP. -/
def State.railFallen (s : State) : State :=
  s.setSave { s.save with railLow := true, goodSince := none, failSeen := s.save.failSeen || s.saving }

/-- With MON_EN the fall of the hold rail is the trigger with cause 2 (R118). -/
theorem State.railTrip_monitored (h : s.cfgOn SAVE_CTRL_MON_EN = true) : s.railTrip = s.railFallen.startSave 2 s.now := if_pos h

/-- Without MON_EN it is noted (R118). -/
theorem State.railTrip_unmonitored (h : s.cfgOn SAVE_CTRL_MON_EN = false) : s.railTrip = s.railFallen :=
  if_neg (Bool.eq_false_iff.mp h)

/-- Below V_CLOSE a running save is closed out (R142). -/
theorem State.railClose_saving (h : s.saving = true) (k : Nat) :
    s.railClose k = (s.setSave { s.save with railClosed := true }).closeOut 3 k := if_pos h

/-- Below V_CLOSE HOLD_EN falls after a save (R149). -/
theorem State.railClose_ended (hs : s.saving = false) (he : s.save.ended = true ∨ s.save.failed = true) (k : Nat) :
    s.railClose k = s.setSave { s.save with railClosed := true, holdEn := false } := by
  rw [State.railClose, if_neg (Bool.eq_false_iff.mp hs), if_pos he]
  rfl

/-- The hold rail is back at V_TRIP (R148). -/
theorem State.railReturn_low (h : s.save.railLow = true) :
    s.railReturn = (s.setSave { s.save with railLow := false, railClosed := false }).goodNow := if_pos h

/-! ### The supply rails -/

/-- Outside a save a rail out of band is RAIL_FAULT (R570). -/
theorem State.railOut_running (hs : s.saving = false) (hp : s.rst.phase ≠ .off) (r : Nat) :
    s.railOut r = s.raiseFault 0x03 2 9 r := by
  rw [State.railOut, if_neg (Bool.eq_false_iff.mp hs), if_neg hp]

/-- During a save it ends the save without SAVE_DONE (R151). -/
theorem State.railOut_saving (hs : s.saving = true) (r : Nat) : s.railOut r =
    (s.setSave { s.save with run := none, failed := true, saveActive := false }).put SAVE_STAT_ACTIVE 0 := by
  rw [State.railOut, if_pos hs, State.failSave, if_pos hs]

end Sys2Proof.Machine

namespace Sys2Proof.Settled

open Sys2Proof.Machine

/-- Settles O34: each pin by its own level, and the rails by whether a save runs. -/
theorem powerFailPins : Obligations.PowerFailPins := by
  refine ⟨?_, ?_, ?_, ?_, ?_, ?_, ?_, ?_, ?_, ?_, ?_, ?_⟩
  · intro s
    rfl
  · intro s h
    exact congrArg Host.Outcome.next (State.pfailTrigger_low h)
  · intro s n h
    exact congrArg Host.Outcome.next (State.pfailGlitch_low h n)
  · intro s h
    exact congrArg Host.Outcome.next (State.pfailRise_low h)
  · intro s h
    exact congrArg Host.Outcome.next (State.railTrip_monitored h)
  · intro s h
    exact congrArg Host.Outcome.next (State.railTrip_unmonitored h)
  · intro s k h
    exact congrArg Host.Outcome.next (State.railClose_saving h k)
  · intro s k hs he
    exact congrArg Host.Outcome.next (State.railClose_ended hs he k)
  · intro s h
    exact congrArg Host.Outcome.next (State.railReturn_low h)
  · intro s r hs hp
    exact congrArg Host.Outcome.next (State.railOut_running hs hp r)
  · intro s r hs
    exact congrArg Host.Outcome.next (State.railOut_saving hs r)
  · intro s
    rfl

end Sys2Proof.Settled
end

section
/-! SUPPORT. The start of a save (R118, R121, R122, R127): when a trigger starts one, and what its steps leave of SAVE. -/

namespace Sys2Proof.Machine

variable {s : State} {c t0 : Nat}

/-! ### Triggers that start nothing (R118, R121, R555) -/

/-- In test mode a trigger is only noted (R555). -/
theorem State.startSave_testMode (h : s.flag TST_STAT_TEST_MODE = true) : s.startSave c t0 = s.put TST_STAT_TRIG_SEEN 1 :=
  if_pos h

/-- Where no save may start, a trigger can only tie with the one that started in its pass (R118, R121). -/
theorem State.startSave_barred (ht : s.flag TST_STAT_TEST_MODE = false) (hc : s.canSave = false) :
    s.startSave c t0 = s.tieTrigger c t0 := by
  rw [State.startSave, if_neg (Bool.eq_false_iff.mp ht), if_pos (Bool.eq_false_iff.mp hc)]

/-- A trigger of the pass in which a save of a higher cause started ties with it where both fall in one cycle (R118). -/
theorem State.tieTrigger_same_pass (hs : s.save.startedAt = some s.now) (hc : c < s.get SAVE_STAT_CAUSE) :
    s.tieTrigger c t0 = if s.free % 2 = 1 then (s.drawn.put SAVE_STAT_CAUSE c).setSave { s.save with
      run := s.save.run.map (fun r => { r with t0 := t0 }) } else s.drawn := if_pos ⟨hs, hc⟩

/-- Any other trigger changes nothing (R121). -/
theorem State.tieTrigger_later (h : ¬ (s.save.startedAt = some s.now ∧ c < s.get SAVE_STAT_CAUSE)) :
    s.tieTrigger c t0 = s := if_neg h

/-! ### The steps of a start -/

/-- A save has begun: HOLD_EN is high and CHG_EN low, and it runs or, with nothing to save, has ended (R122, R127). -/
structure Save.Begun (x : Save) : Prop where
  holdEn : x.holdEn = true
  chgEn : x.chgEn = false
  runsOrEnded : x.run.isSome = true ∨ x.ended = true

/-- From the status and the pins of the trigger to PWR's state SAVE (R127 step 2). -/
def State.triggered (s : State) (c : Nat) : State := ((((s.saveStatus c).endFreeze).quiesceToHeld).abortCapTest).pwrToSave

/-- The run of the save is recorded (R119, R135). -/
def State.runBegun (s t : State) (t0 : Nat) : State :=
  t.setSave { t.save with run := some (s.newRun t0), startedAt := some s.now }

/-- What every block does at the fence, in the order of the trigger (R127 step 2). -/
def State.allFenced (s : State) (c : Nat) : State :=
  ((((((((((s.flush).svcFail 0x0E).atolFence).twlFence).fence).dropBarriers).abandonUnsealed).flashFence).moversToSave
    ).restoreFence).saveMessage c

/-- The save runs where there is something to save, and has ended otherwise (R122). -/
def State.runOrEnd (s : State) : State := if s.active then s.refresh else s.endEmpty

/-- A trigger that may start a save starts it in these steps. -/
theorem State.startSave_free (ht : s.flag TST_STAT_TEST_MODE = false) (hc : s.canSave = true) :
    s.startSave c t0 = ((s.runBegun (s.triggered c) t0).allFenced c).runOrEnd := by
  rw [State.startSave, if_neg (Bool.eq_false_iff.mp ht), if_neg (not_not.mpr hc)]
  rfl

/-- The trigger sets HOLD_EN and clears CHG_EN (R127 step 2). -/
theorem State.saveStatus_pins (s : State) (c : Nat) :
    (s.saveStatus c).save.holdEn = true ∧ (s.saveStatus c).save.chgEn = false := ⟨rfl, rfl⟩

/-- From there to PWR's state SAVE nothing changes the pins (R127 step 2). -/
theorem State.triggered_pins (s : State) (c : Nat) :
    (s.triggered c).save.holdEn = true ∧ (s.triggered c).save.chgEn = false := by
  have h₀ := touches_refl 0xFFFEFFFF (s.saveStatus c)
  have h₁ := State.quiesceToHeld_touches (State.endFreeze_touches h₀ (by decide)) (by decide)
  have h₂ := State.pwrToSave_touches (State.abortCapTest_touches h₁ (by decide)) (by decide)
  have hsave : (s.triggered c).save = (s.saveStatus c).save := h₂.frame .save (by decide)
  rw [hsave]
  exact s.saveStatus_pins c

/-- What the blocks do at the fence leaves SAVE. -/
theorem State.allFenced_save (s : State) (c : Nat) : (s.allFenced c).save = s.save :=
  have h₀ := touches_refl 0xFFFEFFFF s
  have h₁ := State.svcFail_touches (State.flush_touches h₀ (by decide)) (by decide) 0x0E
  have h₂ := State.twlFence_touches (State.atolFence_touches h₁ (by decide)) (by decide)
  have h₃ := State.dropBarriers_touches (State.fence_touches h₂ (by decide)) (by decide)
  have h₄ := State.flashFence_touches (State.abandonUnsealed_touches h₃ (by decide)) (by decide)
  have h₅ := State.restoreFence_touches (State.moversToSave_touches h₄ (by decide)) (by decide)
  (State.saveMessage_touches h₅ (by decide) c).frame .save (by decide)

/-- Bringing PERS's registers up to date leaves SAVE. -/
theorem State.refresh_save (s : State) : s.refresh.save = s.save :=
  (State.refresh_touches (m := 0x80004C02) (touches_refl _ s) (by decide)).frame .save (by decide)

/-- A save that has begun runs on, or has ended (R122). -/
theorem State.begun_runOrEnd (h : s.save.Begun) : s.runOrEnd.save.Begun := by
  unfold State.runOrEnd
  split
  · rwa [State.refresh_save]
  · exact ⟨h.holdEn, h.chgEn, .inr rfl⟩

/-- A trigger that may start a save leaves one that has begun. -/
theorem State.begun_startSave (ht : s.flag TST_STAT_TEST_MODE = false) (hc : s.canSave = true) :
    (s.startSave c t0).save.Begun := by
  rw [State.startSave_free ht hc]
  obtain ⟨hhold, hchg⟩ := s.triggered_pins c
  refine State.begun_runOrEnd ?_
  rw [State.allFenced_save]
  exact ⟨hhold, hchg, .inl rfl⟩

end Sys2Proof.Machine

namespace Sys2Proof.Settled

open Sys2Proof.Machine

/-- Settles O35: by whether the trigger finds test mode, a save that may start, or one that started in its pass. -/
theorem saveStarts : Obligations.SaveStarts := by
  refine ⟨?_, ?_, ?_, ?_⟩
  · intro s hl ht hc
    obtain ⟨hhold, hchg, hrun⟩ := State.begun_startSave (c := 1) (t0 := s.save.pfailFell) ht hc
    exact ⟨s.startSave 1 s.save.pfailFell, congrArg Host.Outcome.next (State.pfailTrigger_low hl), hhold, hchg, hrun⟩
  · intro s hl ht
    exact congrArg Host.Outcome.next ((State.pfailTrigger_low hl).trans (State.startSave_testMode ht))
  · intro s hl ht hc hpass
    have hbarred := (State.pfailTrigger_low hl).trans (State.startSave_barred ht hc)
    exact congrArg Host.Outcome.next (hbarred.trans (State.tieTrigger_later hpass))
  · intro s hl ht hc hs hcause
    have hbarred := (State.pfailTrigger_low hl).trans (State.startSave_barred ht hc)
    exact congrArg Host.Outcome.next (hbarred.trans (State.tieTrigger_same_pass hs hcause))

end Sys2Proof.Settled
end

section
/-! SUPPORT. The steps of a save (R126, R127, R135, R139 to R144, R153, R222): what each of them does in its own step of the run,
and what the seal leaves. -/

namespace Sys2Proof.Machine

variable {s t : State} {r : SaveRun} {c : Nat}

/-! ### From the fence to the metadata (R127 steps 3 to 6) -/

/-- Once every write is applied, the save set is fixed and its first reads are issued (R127, R132). -/
def State.dataBegun (s : State) (r : SaveRun) : State :=
  ((s.setRun { r with step := .data, todo := s.saveSet r.nTop, startUs := s.now - r.t0 }).put SAVE_PROGRESS_ISLETS
    (s.saveSet r.nTop).length).dropLink

/-- The data phase begins where no close-out waits for it (R127). -/
theorem State.writesApplied_uncut (hr : s.save.run = some r) (hstep : r.step = .fenced) (hcut : r.cut = none) :
    s.writesApplied = s.dataBegun r := by
  rw [State.writesApplied, hr]
  refine (if_pos hstep).trans ?_
  split
  · next c hc => cases hcut.symm.trans hc
  · rfl

/-- A close-out that fell due before begins at once (R142). -/
theorem State.writesApplied_cut (hr : s.save.run = some r) (hstep : r.step = .fenced) (hcut : r.cut = some c) :
    s.writesApplied = (s.dataBegun r).closeOut c 0 := by
  rw [State.writesApplied, hr]
  refine (if_pos hstep).trans ?_
  split
  · next c' hc =>
    cases hcut.symm.trans hc
    rfl
  · next hc => cases hcut.symm.trans hc

/-- With no islet left and no fault-in under way the data phase ends (R127, R139). -/
theorem State.dataDone_data (hr : s.save.run = some r) (hstep : r.step = .data) (htodo : r.todo = [])
    (hslots : s.rstr.slots = []) (hq : s.rstr.faultQ = []) :
    s.dataDone = (s.setRun { r with step := .metadata, dataUs := s.now - r.t0 }).closeStripe := by
  rw [State.dataDone, hr]
  simp only [hstep, htodo, hslots, hq, and_self, true_or, if_true]

/-- The close-out ends likewise, with its time as it was (R143). -/
theorem State.dataDone_closeOut (hr : s.save.run = some r) (hstep : r.step = .closeOut) (hslots : s.rstr.slots = [])
    (hq : s.rstr.faultQ = []) : s.dataDone = (s.setRun { r with step := .metadata }).closeStripe := by
  rw [State.dataDone, hr]
  simp [hstep, hslots, hq]

/-- At the threshold of the energy account the close-out begins (R142). -/
theorem State.energyCutoff_reached (hr : s.save.run = some r) (hen : s.cfgOn SAVE_CTRL_CUT_EN = true)
    (hcut : s.cutCause r = some c) (k : Nat) : s.energyCutoff k = s.closeOut c k := by
  rw [State.energyCutoff, hr]
  simp only [if_pos hen, hcut]

/-- The seal is programmed once the metadata is (R127 step 6). -/
theorem State.sealProgrammed_metadata (hr : s.save.run = some r) (hstep : r.step = .metadata) :
    s.sealProgrammed = s.setRun { r with step := .sealProgrammed, sealedUs := s.now - r.t0 } := by
  rw [State.sealProgrammed, hr]
  exact if_pos hstep

/-! ### The seal (R140, R153, R222) -/

/-- A field depends on the registers alone. -/
theorem State.get_congr (h : t.regs = s.regs) (f : Fld) : t.get f = s.get f := by
  unfold State.get State.word
  rw [h]

/-- Whether an islet is restored depends on the registers, RST and RSTR alone. -/
theorem State.isRestored_congr (hregs : t.regs = s.regs) (hrst : t.rst = s.rst) (hrstr : t.rstr = s.rstr) (i : Nat) :
    t.isRestored i = s.isRestored i := by
  unfold State.isRestored State.beforeLoad
  rw [hrst, hrstr, State.get_congr hregs]

/-- The unsaved map depends on the registers, RST and RSTR alone. -/
theorem State.unsavedOf_congr (hregs : t.regs = s.regs) (hrst : t.rst = s.rst) (hrstr : t.rstr = s.rstr) :
    t.unsavedOf r = s.unsavedOf r := by
  simp only [State.unsavedOf, State.isRestored_congr hregs hrst hrstr, hrstr]

/-- Whether members of the group were missed depends on the registers alone. -/
theorem State.missedPeers_congr (h : t.regs = s.regs) : t.missedPeers r = s.missedPeers r := by
  unfold State.missedPeers State.inGroup State.otherMembers State.expected State.devNo State.flag
  simp only [State.get_congr h]

/-- The save seal depends on the registers, RST, RSTR, and the array's tag and save number alone. -/
theorem State.sealOf_congr (hregs : t.regs = s.regs) (hrst : t.rst = s.rst) (hrstr : t.rstr = s.rstr)
    (htag : t.arr.groupTag = s.arr.groupTag) (hno : t.arr.saveNo = s.arr.saveNo) : t.sealOf r = s.sealOf r := by
  unfold State.sealOf State.flag
  rw [State.unsavedOf_congr hregs hrst hrstr, State.missedPeers_congr hregs, htag, hno]
  simp only [State.get_congr hregs]

/-- Dropping the voided generations leaves the array's tag and save number. -/
theorem State.dropVoid_numbers (s : State) :
    s.dropVoid.arr.groupTag = s.arr.groupTag ∧ s.dropVoid.arr.saveNo = s.arr.saveNo := by
  unfold State.dropVoid
  split
  · exact ⟨rfl, rfl⟩
  · exact ⟨rfl, rfl⟩

/-- The journal of the save with its seal, and the voided generations dropped (R127 step 6, R163). -/
def State.saveJournal (s : State) (r : SaveRun) : State :=
  ((s.saveEntries r).sealJournal r.ef 2 (some (s.sealOf r)) 0).dropVoid

/-- Writing the journal leaves what the seal says. -/
theorem State.sealOf_saveJournal (s : State) (r : SaveRun) : (s.saveJournal r).sealOf r = s.sealOf r := by
  have hj := State.sealJournal_touches (State.saveEntries_touches (touches_refl 0x40000 s) (by decide) r) (by decide)
    r.ef 2 (some (s.sealOf r)) 0
  have hd : Touches 0x60000 _ (s.saveJournal r) := State.dropVoid_touches (touches_refl _ _) (by decide)
  have harr := hj.frame .arr (by decide)
  obtain ⟨htag, hno⟩ := State.dropVoid_numbers ((s.saveEntries r).sealJournal r.ef 2 (some (s.sealOf r)) 0)
  exact State.sealOf_congr ((hd.frame .regs (by decide)).trans (hj.frame .regs (by decide)))
    ((hd.frame .rst (by decide)).trans (hj.frame .rst (by decide)))
    ((hd.frame .rstr (by decide)).trans (hj.frame .rstr (by decide)))
    (htag.trans (congrArg Arr.groupTag harr)) (hno.trans (congrArg Arr.saveNo harr))

/-- The array once the save's copies have joined it under its seal. -/
theorem State.sealSaved_seal (s : State) (r : SaveRun) :
    (s.sealSaved r).arr.highSealed = r.ef ∧ (s.sealSaved r).arr.sealKind = .save (s.sealOf r) := ⟨rfl, rfl⟩

/-! ### SAVE_DONE (R127 steps 7 and 8, R128) -/

/-- SAVE_DONE rises and SAVE_ACTIVE falls in one cycle (R128). -/
def State.doneRaised (s : State) (now : Nat) : State :=
  (s.setSave { s.save with run := none, ended := true, saveActive := false, saveDone := true }).setPwr
    { s.pwr with enteredAt := now }

/-- In that cycle SAVE takes its last state and the array stays. -/
theorem State.doneRaised_saveArr (s : State) (now : Nat) : (s.doneRaised now).save =
    { s.save with run := none, ended := true, saveActive := false, saveDone := true } ∧ (s.doneRaised now).arr = s.arr :=
  ⟨rfl, rfl⟩

/-- Its status, its report to the group, and Atoll resumed (R127, R384, R470). -/
def State.doneReported (s : State) (x : SaveSeal) (dom : Nat) : State :=
  ((((((s.put SAVE_STAT_ACTIVE 0).put SAVE_STAT_DONE 1).put SAVE_STAT_PEER_LOST (b2n x.peerLost)).put
    PWR_STAT_STATE 2).saveEnd x).put PWR_STAT_DOM_ON (dom % 2 ^ 5 + dom / 2 ^ 6 * 2 ^ 6)).atolResume

/-- A seal that reads back good ends the save in these steps. -/
theorem State.saveDone_sealed (hr : s.save.run = some r) (hstep : r.step = .sealProgrammed) : s.saveDone =
    (((((s.saveJournal r).sealSaved r).put64 PERS_SEALED_LO_EPOCH r.ef).doneRaised s.now).doneReported (s.sealOf r)
      (s.get PWR_STAT_DOM_ON)) := by
  rw [State.saveDone, hr]
  exact if_pos hstep

/-- Reporting the end touches neither SAVE, the array nor TST. -/
theorem State.doneReported_touches (s : State) (x : SaveSeal) (dom : Nat) : Touches 0xEFFCFFFF s (s.doneReported x dom) :=
  have h₀ := touches_refl 0xEFFCFFFF s
  have h₁ := State.put_touches (State.put_touches h₀ (by decide) SAVE_STAT_ACTIVE 0) (by decide) SAVE_STAT_DONE 1
  have h₂ := State.put_touches h₁ (by decide) SAVE_STAT_PEER_LOST (b2n x.peerLost)
  have h₃ := State.saveEnd_touches (State.put_touches h₂ (by decide) PWR_STAT_STATE 2) (by decide) x
  State.atolResume_touches (State.put_touches h₃ (by decide) PWR_STAT_DOM_ON _) (by decide)

/-- What the end of a save leaves: no run, SAVE_DONE, and the array with the save's seal. -/
structure State.SavedAs (t : State) (r : SaveRun) (x : SaveSeal) : Prop where
  run : t.save.run = none
  ended : t.save.ended = true
  saveDone : t.save.saveDone = true
  saveActive : t.save.saveActive = false
  highSealed : t.arr.highSealed = r.ef
  sealKind : t.arr.sealKind = .save x

/-- Once the array holds the seal, the sealed epoch, SAVE_DONE and the report complete the save. -/
theorem State.savedAs_doneReported {x : SaveSeal} (hhigh : s.arr.highSealed = r.ef) (hkind : s.arr.sealKind = .save x)
    (now dom : Nat) : (((s.put64 PERS_SEALED_LO_EPOCH r.ef).doneRaised now).doneReported x dom).SavedAs r x := by
  have hput := (State.put64_touches (touches_refl 0x2 s) (by decide) PERS_SEALED_LO_EPOCH r.ef).frame .arr (by decide)
  obtain ⟨hsave₁, harr₁⟩ := (s.put64 PERS_SEALED_LO_EPOCH r.ef).doneRaised_saveArr now
  have hreport := ((s.put64 PERS_SEALED_LO_EPOCH r.ef).doneRaised now).doneReported_touches x dom
  have hsave := (hreport.frame .save (by decide)).trans hsave₁
  have harr := ((hreport.frame .arr (by decide)).trans harr₁).trans hput
  exact ⟨congrArg Save.run hsave, congrArg Save.ended hsave, congrArg Save.saveDone hsave, congrArg Save.saveActive hsave,
    (congrArg Arr.highSealed harr).trans hhigh, (congrArg Arr.sealKind harr).trans hkind⟩

/-- A seal that reads back good ends the save, sealed with what the run gives. -/
theorem State.savedAs_saveDone (hr : s.save.run = some r) (hstep : r.step = .sealProgrammed) :
    s.saveDone.SavedAs r (s.sealOf r) := by
  obtain ⟨hhigh, hkind⟩ := (s.saveJournal r).sealSaved_seal r
  rw [s.sealOf_saveJournal r] at hkind
  rw [State.saveDone_sealed hr hstep]
  exact State.savedAs_doneReported hhigh hkind _ _

/-- With no test instruction held, none takes effect (R556). -/
theorem State.heldTest_none (h : s.tst.waiting = none) : s.heldTest = s := by
  rw [State.heldTest, h]

/-- The end of a save leaves TST. -/
theorem State.saveDone_tst (s : State) : s.saveDone.tst = s.tst :=
  (State.saveDone_touches (m := 0x8187CC22) (touches_refl _ s) (by decide)).frame .tst (by decide)

/-! ### BASIN and the self-test (R126, R127 step 9) -/

/-- After SAVE_DONE the controller enters BASIN (R127 step 9). -/
theorem State.saveBasin_ended (he : s.save.ended = true) (hp : s.get PWR_STAT_STATE = 2) (b : Bool) : s.saveBasin b =
    (((s.setRst { s.rst with selfRefresh := b, settingsKept := true, checkWord := true }).dropLink).clocksOff).put
      PWR_STAT_DOM_ON 0b000000111 := if_pos ⟨he, hp⟩

/-- A self-test that passes sets SOUND (R126). -/
theorem State.selfTest_passed (hs : s.saving = false) (hf : s.save.failed = false) (hsafe : s.flag FLT_SAFE_SAFE = false)
    (hp : s.rst.phase ≠ .off) : s.selfTest true = (s.put SAVE_STAT_SOUND 1).refreshArmed :=
  if_pos ⟨rfl, hs, hf, hsafe, hp⟩

end Sys2Proof.Machine

namespace Sys2Proof.Settled

open Sys2Proof.Machine

/-- Settles O36: each command by the step of the run that it ends. -/
theorem saveSteps : Obligations.SaveSteps := by
  refine ⟨?_, ?_, ?_, ?_, ?_, ?_, ?_, ?_, ?_⟩
  · intro s r hr hstep hcut
    exact congrArg Host.Outcome.next (State.writesApplied_uncut hr hstep hcut)
  · intro s r c hr hstep hcut
    exact congrArg Host.Outcome.next (State.writesApplied_cut hr hstep hcut)
  · intro s r hr hstep htodo hslots hq
    exact congrArg Host.Outcome.next (State.dataDone_data hr hstep htodo hslots hq)
  · intro s r hr hstep hslots hq
    exact congrArg Host.Outcome.next (State.dataDone_closeOut hr hstep hslots hq)
  · intro s k r c hr hen hcut
    exact congrArg Host.Outcome.next (State.energyCutoff_reached hr hen hcut k)
  · intro s r hr hstep
    exact congrArg Host.Outcome.next (State.sealProgrammed_metadata hr hstep)
  · intro s r hr hstep hw
    obtain ⟨hrun, hended, hdone, hactive, hhigh, hkind⟩ := State.savedAs_saveDone hr hstep
    have htest := State.heldTest_none ((congrArg Tst.waiting s.saveDone_tst).trans hw)
    exact ⟨s.saveDone, congrArg Host.Outcome.next htest, hrun, hended, hdone, hactive, hhigh, hkind⟩
  · intro s b he hp
    exact congrArg Host.Outcome.next (State.saveBasin_ended he hp b)
  · intro s hs hf hsafe hp
    exact congrArg Host.Outcome.next (State.selfTest_passed hs hf hsafe hp)

end Sys2Proof.Settled
end

section
/-! SUPPORT. Power that returns or is lost, and the global persistent flush (R133, R148, R149, R151). -/

namespace Sys2Proof.Machine

variable {s : State}

/-! ### Power returns (R148, R149) -/

/-- With AUTO_WARM the return of power after a power-fail save gives a device reset: the one that is held, or one with code 6 (R148,
R397). -/
theorem State.powerReturn_autoWarm (he : s.save.ended = true) (hf : s.save.failSeen = true) (hg : s.goodLong = true)
    (hw : s.cfgOn SAVE_CTRL_AUTO_WARM = true) : s.powerReturn = s.deviceReset ((s.rst.held.map (min · 6)).getD 6) := by
  rw [State.powerReturn, if_pos ⟨he, hf, hg⟩, if_pos hw]
  cases s.rst.held <;> rfl

/-- With no save running or ended HOLD_EN falls (R149). -/
theorem State.powerReturn_noSave (he : s.save.ended = false) (hs : s.saving = false) (hh : s.save.holdEn = true)
    (hg : s.goodLong = true) : s.powerReturn = s.setSave { s.save with holdEn := false } := by
  rw [State.powerReturn, if_neg (fun h => Bool.eq_false_iff.mp he h.left), if_pos ⟨hh, hs, he, hg⟩]

/-! ### Power is lost (R151) -/

/-- What the loss of the supplies leaves of the volatile parts: their reset values, and the level of PERST#. -/
structure State.Unpowered (t : State) (perst : Bool) : Prop where
  regs : t.regs = []
  dram : t.dram = []
  rst : t.rst = Rst.init
  save : t.save = Save.init
  hlk : t.hlk = { Hlk.init with perst := perst }

/-- Once the supplies are gone nothing volatile is left. -/
theorem State.unpowered_suppliesGone (s : State) : s.suppliesGone.Unpowered s.hlk.perst := ⟨rfl, rfl, rfl, rfl, rfl⟩

/-- A record torn by the loss leaves the link. -/
theorem State.tearRecord_hlk (s : State) : s.tearRecord.hlk = s.hlk :=
  (State.tearRecord_touches (m := 0x1000) (touches_refl _ s) (by decide)).frame .hlk (by decide)

/-- A loss of power leaves nothing volatile, whether or not it tears a record. -/
theorem State.unpowered_powerLoss (s : State) (torn : Bool) : (s.powerLoss torn).Unpowered s.hlk.perst := by
  cases torn
  case false => exact s.unpowered_suppliesGone
  case true =>
    rw [← s.tearRecord_hlk]
    exact s.tearRecord.unpowered_suppliesGone

/-- It leaves the save array, and what Atoll and the stored configuration keep. -/
theorem State.powerLoss_lasting (s : State) (torn : Bool) : (s.powerLoss torn).arr = s.arr ∧
    (s.powerLoss torn).kept = s.kept ∧ (s.powerLoss torn).cfgStore = s.cfgStore := by
  have h := State.powerLoss_touches (m := 0x7FFDFE6E) (touches_refl _ s) (by decide) torn
  exact ⟨h.frame .arr (by decide), h.frame .kept (by decide), h.frame .cfgStore (by decide)⟩

/-! ### The global persistent flush (R133) -/

/-- Phase 2 completes once no earlier write waits. -/
theorem State.gpfDone_applied {n : Nat} (hg : s.save.gpf = some n) (hw : s.writesWait n = false) :
    s.gpfDone = (s.setSave { s.save with gpf := none }).answer (.link 2 0) := by
  rw [State.gpfDone, hg]
  exact if_neg (Bool.eq_false_iff.mp hw)

end Sys2Proof.Machine

namespace Sys2Proof.Settled

open Sys2Proof.Machine

/-- Settles O37: the return by what the save left, the loss by what is volatile, and GPF by the writes that wait. -/
theorem powerReturns : Obligations.PowerReturns := by
  refine ⟨?_, ?_, ?_, ?_, ?_, ?_, ?_⟩
  · intro s k he hf hg hw hk
    have hreset := State.powerReturn_autoWarm he hf hg hw
    rw [hk] at hreset
    exact congrArg Host.Outcome.next hreset
  · intro s he hf hg hw hk
    have hreset := State.powerReturn_autoWarm he hf hg hw
    rw [hk] at hreset
    exact congrArg Host.Outcome.next hreset
  · intro s he hs hh hg
    exact congrArg Host.Outcome.next (State.powerReturn_noSave he hs hh hg)
  · intro s torn
    obtain ⟨hregs, hdram, hrst, hsave, hhlk⟩ := s.unpowered_powerLoss torn
    obtain ⟨harr, hkept, hcfg⟩ := s.powerLoss_lasting torn
    exact ⟨s.powerLoss torn, rfl, hregs, hdram, hrst, hsave, hhlk, harr, hkept, hcfg⟩
  · intro s
    rfl
  · intro s
    rfl
  · intro s n hg hw
    exact congrArg Host.Outcome.next (State.gpfDone_applied hg hw)

end Sys2Proof.Settled
end

section
/-! SUPPORT. The host link (R336, R337, R341, R344, R363, R393, R403, R522, R526): how it goes down, trains, recovers and changes its
power state, and what it answers to the host's configuration. -/

namespace Sys2Proof.Machine

variable {s : State}

/-! ### Resets (R121, R363, R393) -/

/-- A link that is up goes down with its count and its interrupt (R363). -/
theorem State.linkLost_up (h : s.hlk.linkUp = true) : s.linkLost = ((s.dropLink).bump HLK_LINKDN_COUNT).raiseInt 0x10 1 :=
  if_pos h

/-- Before the controller is out of reset PERST# is only noted (R393). -/
theorem State.perstAssert_off (h : s.rst.phase = .off) : s.perstAssert = s.setHlk { s.hlk with perst := true } := if_pos h

/-- During a save, and in BASIN after one, PERST# asks for a device reset (R121). -/
theorem State.perstAssert_saved (hp : s.rst.phase ≠ .off)
    (h : s.saving = true ∨ (s.save.ended = true ∧ s.get PWR_STAT_STATE = 2)) :
    s.perstAssert = (s.setHlk { s.hlk with perst := true }).requestReset 5 := (if_neg hp).trans (if_pos h)

/-- Else it resets the link and its pages (R363, R393). -/
theorem State.perstAssert_running (hp : s.rst.phase ≠ .off) (hs : s.saving = false) (he : s.save.ended = false) :
    s.perstAssert = ((((((s.setHlk { s.hlk with perst := true }).linkLost).functionReset).resetPages (fun
      p => decide (0x10 ≤ p ∧ p < 0x20))).refreshHlk).refreshHeld) :=
  (if_neg hp).trans (if_neg (by simp [hs, he]))

/-- PERST# released, with nothing to wake: training may start (R337, R403). -/
theorem State.perstRelease_awake (h : s.hlk.perst = true) (hb : s.get PWR_STAT_STATE ≠ 2)
    (he : s.flag PWR_STAT_ENTERING = false) : s.perstRelease = s.setHlk { s.hlk with perst := false, held := false } :=
  (if_pos h).trans (if_neg (not_or.mpr ⟨hb, Bool.eq_false_iff.mp he⟩))

/-- PERST# released in BASIN wakes the controller (R526). -/
theorem State.perstRelease_basin (h : s.hlk.perst = true) (hb : s.get PWR_STAT_STATE = 2) :
    s.perstRelease = (s.setHlk { s.hlk with perst := false, held := false }).wake 2 := (if_pos h).trans (if_pos (.inl hb))

/-- A hot reset takes down a link that is up and resets the function (R363). -/
theorem State.hotReset_up (h : s.hlk.linkUp = true) : s.hotReset = ((s.linkLost).functionReset).refreshHlk := if_pos h

/-! ### Training (R336, R337, R363) -/

/-- A training that is allowed and ends within the limits brings the link up (R336, R403). -/
theorem State.linkUp_trained {rate : Nat} {f : Bool} {lanes : List LaneEnd} (hm : s.mayTrain = true)
    (ht : s.trainable rate f lanes = true) : s.linkUp rate f lanes = (((s.setHlk { s.hlk with
      linkUp := true, inL1 := false, inL2 := false }).put HLK_LINK_UP 1).linkTrained rate f lanes).raiseInt 0x10 0 :=
  if_pos (Bool.and_eq_true_iff.mpr ⟨hm, ht⟩)

/-- A training that fails holds the link until PERST# is released (R337). -/
theorem State.linkFail_training (h : s.mayTrain = true) : s.linkFail =
    (((s.setHlk { s.hlk with held := true }).put HLK_LINK_LTSSM 0).raiseInt 0x10 6).raiseFault 0x10 4 7 0 := if_pos h

/-- A recovery that leaves rate and lanes is counted and reported (R363). -/
theorem State.linkRecovery_same (hl : s.hlk.linkUp = true) (h2 : s.hlk.inL2 = false) :
    s.linkRecovery [] none = (s.bump HLK_RECOV_COUNT).raiseFault 0x10 1 7 0 := if_pos ⟨hl, h2⟩

/-- A recovery to another rate and no more lanes trains the link so (R337, R363). -/
theorem State.linkRecovery_retrained {t : State} {rate : Nat} {lanes : List LaneEnd} (hl : s.hlk.linkUp = true)
    (h2 : s.hlk.inL2 = false) (ht : t = s.bump HLK_RECOV_COUNT)
    (hr : t.trainable rate (t.flag HLK_LINK_FLIT256) lanes = true) (hw : lanes.length ≤ t.get HLK_LINK_WIDTH) :
    s.linkRecovery [] (some (rate, lanes)) =
      (t.linkTrained rate (t.flag HLK_LINK_FLIT256) lanes).raiseFault 0x10 1 7 0 := by
  subst ht
  refine (if_pos ⟨hl, h2⟩).trans ?_
  exact congrArg (fun u : State => u.raiseFault 0x10 1 7 0) (if_pos (by simp [hr, hw]))

/-! ### Link power states (R522, R526) -/

/-- The link enters L1 (R522). -/
theorem State.l1Entry_up (hl : s.hlk.linkUp = true) (h1 : s.hlk.inL1 = false) (h2 : s.hlk.inL2 = false) : s.l1Entry =
    ((s.setHlk { s.hlk with inL1 := true }).put HLK_LINK_LTSSM 0x15).setPwr { s.pwr with l1Since := some s.now } :=
  if_pos ⟨hl, h1, h2⟩

/-- The link leaves L1, which wakes the controller (R526). -/
theorem State.l1Exit_l1 (h : s.hlk.inL1 = true) : s.l1Exit =
    (((s.setHlk { s.hlk with inL1 := false }).put HLK_LINK_LTSSM 0x13).setPwr { s.pwr with l1Since := none }).wake 1 :=
  if_pos h

/-- The link enters L2, which asks for BASIN once Glen firmware runs (R522). -/
theorem State.l2Entry_served (hl : s.hlk.linkUp = true) (h2 : s.hlk.inL2 = false) (hs : s.served = true) : s.l2Entry =
    (((s.setHlk { s.hlk with inL1 := false, inL2 := true }).put HLK_LINK_LTSSM 0x16).setPwr { s.pwr with l1Since := none
      }).requestState 2 := (if_pos ⟨hl, h2⟩).trans (if_pos hs)

/-! ### Requests of the host's configuration (R167, R341, R403) -/

/-- The link answers configuration requests: it is up and no save or reset has fenced it (R403). -/
structure State.Answers (s : State) : Prop where
  linkUp : s.hlk.linkUp = true
  unfenced : s.hlk.fenced = false

/-- What a configuration request does besides its answer (R51, R167). -/
def State.configEffect (s : State) : CfgReq → State
  | .read => s
  | .rangeStatus => s.send (.link 5 s.rangeStatus)
  | .gpfDvsec => (s.send (.link 6 10)).send (.link 7 14200)
  | .other => s
  | .msix e m => { s with mgp := { s.mgp with msixEn := e, fnMasked := m } }
  | .vectorMask v b => { s with mgp := { s.mgp with
      masked := if b then insertNat s.mgp.masked (v % 32) else dropNat s.mgp.masked (v % 32) } }

/-- Once the configuration is done a request takes effect and is answered (R403). -/
theorem State.configRequest_served (ha : s.Answers) (hs : s.served = true) (q : CfgReq) :
    s.configRequest q = (s.configEffect q).send (.link 4 1) := by
  unfold State.configRequest
  rw [if_neg (by simp [ha.linkUp, ha.unfenced]), if_neg (not_not.mpr hs)]
  cases q <;> rfl

/-- Before, it is answered with Request Retry Status (R403). -/
theorem State.configRequest_unserved (ha : s.Answers) (hs : s.served = false) (q : CfgReq) :
    s.configRequest q = s.send (.link 4 0) := by
  unfold State.configRequest
  rw [if_neg (by simp [ha.linkUp, ha.unfenced]), if_pos (Bool.eq_false_iff.mp hs)]

/-- Mem_Enable is set (R167). -/
theorem State.memEnable_served (ha : s.Answers) (hs : s.served = true) :
    s.memEnable = (s.setHlk { s.hlk with memEnable := true }).put HLK_LINK_MEM_EN 1 := if_pos ⟨ha.linkUp, ha.unfenced, hs⟩

/-- The commit of one of the four decoders is judged once the configuration is done (R403). -/
theorem State.decoderCommit_judged {n : Nat} (ha : s.Answers) (hs : s.served = true) (hn : n < 4) :
    ¬ (s.hlk.linkUp = false ∨ s.hlk.fenced = true ∨ s.served = false ∨ 4 ≤ n) := by
  simp [ha.linkUp, ha.unfenced, hs, hn]

/-- A decoder within the device space is committed (R341). -/
theorem State.commitDecoder_within {n base size dpa iw ig : Nat} (ha : s.Answers) (hs : s.served = true) (hn : n < 4)
    (h : iw < 4 ∧ ig < 7 ∧ dpa + size / 2 ^ iw ≤ s.mdl.hostLines * 64) : s.commitDecoder n base size dpa iw ig =
      ((((s.setHlk { s.hlk with decs := Sparse.set (fun _ => none) s.hlk.decs n (some ⟨base, size, dpa, 2 ^ iw,
        if s.hlk.memEnable then s.now + 1 else s.now⟩) }).put (HLK_DEC_COMMITTED n) 1).put (HLK_DEC_COMMIT_ERR n) 0).put
          (HLK_DEC_IW n) iw).put (HLK_DEC_IG n) ig :=
  (if_neg (State.decoderCommit_judged ha hs hn)).trans (if_pos h)

/-- One that is not is refused with COMMIT_ERR (R341). -/
theorem State.commitDecoder_outside {n base size dpa iw ig : Nat} (ha : s.Answers) (hs : s.served = true) (hn : n < 4)
    (h : ¬ (iw < 4 ∧ ig < 7 ∧ dpa + size / 2 ^ iw ≤ s.mdl.hostLines * 64)) : s.commitDecoder n base size dpa iw ig =
      (((s.setHlk { s.hlk with decs := Sparse.set (fun _ => none) s.hlk.decs n none }).put (HLK_DEC_COMMITTED n) 0).put
        (HLK_DEC_COMMIT_ERR n) 1).raiseInt 0x10 5 :=
  (if_neg (State.decoderCommit_judged ha hs hn)).trans (if_neg h)

/-! ### Credits (R344) -/

/-- A stop of the credit return that has lasted 1,000 µs is reported (R344). -/
theorem State.creditStall_due (h : s.flag HLK_CREDIT_REQ_STOP = true ∨ s.flag HLK_CREDIT_RWD_STOP = true)
    (ht : s.now = s.hlk.stopSince + 1000) : s.creditStall = s.raiseFault 0x10 3 5 0x10088 :=
  if_pos (by rw [Bool.and_eq_true, Bool.or_eq_true, decide_eq_true_eq]; exact ⟨h, ht⟩)

end Sys2Proof.Machine

namespace Sys2Proof.Settled

open Sys2Proof.Machine

/-- Settles O43: the resets by what the save left, the link's states by the state it is in, and the host's requests by whether the
configuration is done. -/
theorem hostLink : Obligations.HostLink := by
  refine ⟨?_, ?_, ?_, ?_, ?_, ?_, ?_, ?_, ?_, ?_, ?_, ?_, ?_, ?_, ?_, ?_, ?_, ?_, ?_, ?_, ?_, ?_, ?_⟩
  · intro s hp
    exact congrArg Host.Outcome.next (State.perstAssert_off hp)
  · intro s hp he hb
    exact congrArg Host.Outcome.next (State.perstAssert_saved hp (.inr ⟨he, hb⟩))
  · intro s hp hs
    exact congrArg Host.Outcome.next (State.perstAssert_saved hp (.inl hs))
  · intro s hp hs he
    exact congrArg Host.Outcome.next (State.perstAssert_running hp hs he)
  · intro s h hb he
    exact congrArg Host.Outcome.next (State.perstRelease_awake h hb he)
  · intro s h hb
    exact congrArg Host.Outcome.next (State.perstRelease_basin h hb)
  · intro s rate f lanes hm ht
    exact congrArg Host.Outcome.next (State.linkUp_trained hm ht)
  · intro s h
    exact congrArg Host.Outcome.next (State.linkLost_up h)
  · intro s h
    exact congrArg Host.Outcome.next (State.linkFail_training h)
  · intro s hl h1 h2
    exact congrArg Host.Outcome.next (State.l1Entry_up hl h1 h2)
  · intro s h
    exact congrArg Host.Outcome.next (State.l1Exit_l1 h)
  · rintro s u hl h2 hs rfl
    exact congrArg Host.Outcome.next (State.l2Entry_served hl h2 hs)
  · intro s hl hf hs
    exact congrArg Host.Outcome.next (State.configRequest_served ⟨hl, hf⟩ hs .read)
  · intro s e m hl hf hs
    exact congrArg Host.Outcome.next (State.configRequest_served ⟨hl, hf⟩ hs (.msix e m))
  · intro s v b hl hf hs
    exact congrArg Host.Outcome.next (State.configRequest_served ⟨hl, hf⟩ hs (.vectorMask v b))
  · intro s q hl hf hs
    exact congrArg Host.Outcome.next (State.configRequest_unserved ⟨hl, hf⟩ hs q)
  · intro s h ht
    exact congrArg Host.Outcome.next (State.creditStall_due h ht)
  · intro s n base size dpa iw ig hl hf hs hn hiw hig hspan
    exact congrArg Host.Outcome.next (State.commitDecoder_within ⟨hl, hf⟩ hs hn ⟨hiw, hig, hspan⟩)
  · intro s n base size dpa iw ig hl hf hs hn hout
    exact congrArg Host.Outcome.next (State.commitDecoder_outside ⟨hl, hf⟩ hs hn (by omega))
  · intro s hl hf hs
    exact congrArg Host.Outcome.next (State.memEnable_served ⟨hl, hf⟩ hs)
  · intro s hl h2
    exact congrArg Host.Outcome.next (State.linkRecovery_same hl h2)
  · intro s rate lanes t hl h2 ht hr hw
    exact congrArg Host.Outcome.next (State.linkRecovery_retrained hl h2 ht hr hw)
  · intro s h
    exact congrArg Host.Outcome.next (State.hotReset_up h)

end Sys2Proof.Settled
end

section
/-! SUPPORT. The start of memory (R159 to R191, R328, R329): how DRAM training, the metadata load, the restore of an islet and the
check of a warm start end, and what they leave. -/

namespace Sys2Proof.Machine

variable {s u : State}

/-! ### DRAM training (R328, R329) -/

/-- The subchannels that a training with no fallback takes the full path: none where the stored results match (R329). -/
def State.fullPath (s : State) : List Nat := if s.kept.trained = some s.trainId then [] else [0, 1, 2, 3]

/-- Both controllers trained with no failure, and the marks of the subchannels of the full path dropped (R322, R328). -/
def State.drcsTrained (s : State) (full : List Nat) : State :=
  full.foldl State.clearDevFail ([0, 1].foldl (State.drcTrained full [] []) s)

/-- The results are stored, with the settings that took effect (R329). -/
def State.resultsKept (u : State) : State :=
  let w := ((u.setKept { u.kept with trained := some u.trainId }).put RST_T_TRAIN_US_US u.sinceStart).setDrc { u.drc with
    fgr := [0, 1].filter (fun d => u.flag (DRC_CFG_FGR d)), refSb := [0, 1].filter (fun d => u.flag (DRC_CFG_REF_SB d)) }
  w.setRst { w.rst with phase := .trained }

/-- Image detection begins (R159). -/
def State.detectionBegun (u : State) (us : Nat) : State :=
  ((u.put RSTR_STAT_PHASE 1).put RSTR_T_DETECT_US_US us).put PWR_STAT_STATE 4

/-- A training with no failure trains both controllers and stores its results. -/
theorem State.trainingDone_passed (hp : s.rst.phase = .configured) (hs : s.get RST_STAT_START ≠ 1) (ho : s.startsOn = true) :
    s.trainingDone [] false [] = (s.drcsTrained s.fullPath).resultsKept.detectionBegun (s.drcsTrained s.fullPath).sinceStart := by
  unfold State.trainingDone
  rw [if_neg (by simp [hp, hs, ho])]
  simp only [State.fullPath, State.drcsTrained, State.resultsKept, State.detectionBegun, decide_eq_true_eq, List.filter_nil,
    ite_self, List.isEmpty_nil, if_true, Bool.false_eq_true, if_false]

/-- A training of the full path in which subchannels fail raises the fence (R328). -/
theorem State.trainingDone_failed (hp : s.rst.phase = .configured) (hs : s.get RST_STAT_START ≠ 1) (ho : s.startsOn = true)
    (hk : s.kept.trained ≠ some s.trainId) (fell bad : List Nat) (hb : bad.filter (fun sc => decide (sc < 4)) ≠ []) :
    s.trainingDone fell false bad =
      (let v := [0, 1].foldl (State.drcTrained [0, 1, 2, 3] (bad.filter (fun sc => decide (sc < 4))) []) s
       v.setHlk { v.hlk with fenced := true }) := by
  unfold State.trainingDone
  rw [if_neg (by simp [hp, hs, ho])]
  simp only [hk, decide_false, Bool.false_eq_true, if_false]
  exact if_neg (by simpa using hb)

/-- Training keeps the canonical form. -/
theorem State.canon_drcsTrained (hc : s.Canon) (full : List Nat) : (s.drcsTrained full).Canon := by
  have htrained : Touches 0xCFFDFEE2 s ([0, 1].foldl (State.drcTrained full [] []) s) :=
    touches_foldl _ _ _ (touches_refl _ s) (fun t d ht => State.drcTrained_touches ht (by decide) full [] [] d)
  exact (touches_foldl _ full _ htrained (fun t sc ht => State.clearDevFail_touches ht (by decide) sc)).canon hc

/-- What the results must match stands in DRC_CFG alone (R329). -/
theorem State.trainId_put {f : Fld} (hf : f.addr < 0x50040) (v : Nat) : (s.put f v).trainId = s.trainId := by
  have hget (d lo w : Nat) : (s.put f v).get ⟨0x50040 + 0x4000 * d, lo, w⟩ = s.get ⟨0x50040 + 0x4000 * d, lo, w⟩ :=
    s.get_put_other f _ v (by dsimp only; omega)
  simp only [State.trainId, hget]

/-- What a training with no failure leaves: its results stored, and image detection under way (R159, R329). -/
structure State.Trained (t : State) : Prop where
  phase : t.rst.phase = .trained
  stored : t.kept.trained = some t.trainId
  detecting : t.get RSTR_STAT_PHASE = 1
  restoring : t.get PWR_STAT_STATE = 4

/-- The results that are stored match the configuration they were trained with. -/
theorem State.stored_resultsKept (u : State) : u.resultsKept.kept.trained = some u.resultsKept.trainId :=
  congrArg some (u.trainId_put (f := RST_T_TRAIN_US_US) (by decide) u.sinceStart).symm

/-- Detection that begins reads PHASE 1 and STATE 4. -/
theorem State.get_detectionBegun (hc : u.Canon) (us : Nat) :
    (u.detectionBegun us).get RSTR_STAT_PHASE = 1 ∧ (u.detectionBegun us).get PWR_STAT_STATE = 4 := by
  have hphase := State.put_touches (touches_refl 0x2 u) (by decide) RSTR_STAT_PHASE 1
  have hdetect := State.put_touches hphase (by decide) RSTR_T_DETECT_US_US us
  constructor
  · calc (u.detectionBegun us).get RSTR_STAT_PHASE
      _ = ((u.put RSTR_STAT_PHASE 1).put RSTR_T_DETECT_US_US us).get RSTR_STAT_PHASE := State.get_put_other _ _ _ _ (by decide)
      _ = (u.put RSTR_STAT_PHASE 1).get RSTR_STAT_PHASE := State.get_put_other _ _ _ _ (by decide)
      _ = 1 := u.get_put_same _ _ hc (by decide)
  · exact State.get_put_same _ _ _ (hdetect.canon hc) (by decide)

/-- It leaves what the results must match. -/
theorem State.trainId_detectionBegun (u : State) (us : Nat) : (u.detectionBegun us).trainId = u.trainId :=
  calc (u.detectionBegun us).trainId
    _ = ((u.put RSTR_STAT_PHASE 1).put RSTR_T_DETECT_US_US us).trainId := State.trainId_put (by decide) 4
    _ = (u.put RSTR_STAT_PHASE 1).trainId := State.trainId_put (by decide) us
    _ = u.trainId := State.trainId_put (by decide) 1

/-- It leaves RST and what Atoll keeps. -/
theorem State.detectionBegun_rst_kept (u : State) (us : Nat) :
    (u.detectionBegun us).rst = u.rst ∧ (u.detectionBegun us).kept = u.kept := by
  simp only [State.detectionBegun, State.put_rst, State.put_kept, and_self]

/-- Storing the results ends the training. -/
theorem State.resultsKept_phase (u : State) : u.resultsKept.rst.phase = .trained := by
  simp only [State.resultsKept, State.setRst_rst]

/-- Storing the results keeps the canonical form. -/
theorem State.canon_resultsKept (hc : u.Canon) : u.resultsKept.Canon := by
  have hstored := State.setKept_touches (touches_refl 0x402102 u) (by decide) { u.kept with trained := some u.trainId }
    Canon.older
  have htime := State.put_touches hstored (by decide) RST_T_TRAIN_US_US u.sinceStart
  exact (State.setRst_touches (State.setDrc_touches htime (by decide) _) (by decide) _).canon hc

/-- A training with no failure ends with its results stored and detection under way. -/
theorem State.trained_trainingDone (hp : s.rst.phase = .configured) (hs : s.get RST_STAT_START ≠ 1) (ho : s.startsOn = true)
    (hc : s.Canon) : (s.trainingDone [] false []).Trained := by
  rw [State.trainingDone_passed hp hs ho]
  generalize hu : s.drcsTrained s.fullPath = u
  have hcu : u.Canon := hu ▸ State.canon_drcsTrained hc s.fullPath
  obtain ⟨hdetecting, hrestoring⟩ := State.get_detectionBegun (State.canon_resultsKept hcu) u.sinceStart
  obtain ⟨hrst, hkept⟩ := u.resultsKept.detectionBegun_rst_kept u.sinceStart
  refine ⟨?_, ?_, hdetecting, hrestoring⟩
  · rw [hrst, State.resultsKept_phase]
  · rw [hkept, State.trainId_detectionBegun, State.stored_resultsKept]

/-! ### The metadata load (R166 to R169) -/

/-- The tables are loaded and a new run of epochs begins, outside volatile mode; no islet has a record (R163, R166). -/
def State.tablesLoaded (s : State) : State :=
  let t := s.setPers { s.pers with islets := [], plane0 := [], plane1 := [] }
  if decide (s.rstr.cls = 6) then t else ((t.loadTables).cutJournal).activate

/-- No islet is restored, and the registers show it (R169). -/
def State.interlocked (s : State) (volatile : Bool) : State :=
  let v := s.setRstr { s.rstr with interlock := true, restored := [], poisonPending := [], bgStep := 0, zeroStep := 0 }
  ((v.put RSTR_LEFT_ISLETS v.mdl.hostIslets).put RSTR_STAT_PHASE (if volatile then 5 else 3)).put PWR_STAT_STATE
    (if volatile then 0 else 4)

/-- The interlock leaves PERS. -/
theorem State.pers_interlocked (s : State) (volatile : Bool) : (s.interlocked volatile).pers = s.pers := rfl

/-- Memory is active with the staging banks in RSTR's hands (R48, R166, R167). -/
def State.restoreBegun (s : State) : State := (((s.setRes 0).claimBanks).memoryActive).grantSlots

/-- In PHASE 2 the metadata load completes in these steps. -/
theorem State.metadataLoaded_loading (hp : s.get RSTR_STAT_PHASE = 2) (hs : s.saving = false) (he : s.save.ended = false) :
    s.metadataLoaded = (s.tablesLoaded.interlocked (decide (s.rstr.cls = 6))).restoreBegun := by
  unfold State.metadataLoaded
  rw [if_neg (by simp [hp, hs, he])]
  rfl

/-- Banks that RSTR holds already are taken from no mover (R48). -/
theorem State.loadEnded_banksHeld (h : s.rstr.banks = true) : s.loadEnded = s.metadataLoaded := if_neg (by simp [h])

/-- Taking the staging banks from the movers leaves RST and RSTR (R296). -/
theorem State.loadEnded_frame (s : State) :
    s.loadEnded.rst = s.metadataLoaded.rst ∧ s.loadEnded.rstr = s.metadataLoaded.rstr := by
  have h : Touches 0xC048CC62 s.metadataLoaded s.loadEnded :=
    touches_ite (State.preemptMovers_touches (touches_refl _ _) (by decide)) (touches_refl _ _)
  exact ⟨h.frame .rst (by decide), h.frame .rstr (by decide)⟩

/-- Memory active is the last phase of a start (R167). -/
theorem State.memoryActive_phase (s : State) : s.memoryActive.rst.phase = .active := by
  have h : Touches 0x80204C02 (((s.put RSTR_STAT_MEM_ACTIVE 1).put RSTR_T_META_US_US (s.now - s.rst.startedAt)).setRst
      { s.rst with phase := .active }) s.memoryActive :=
    State.refreshHlk_touches (State.raiseInt_touches (touches_refl _ _) (by decide) 0x2D 0) (by decide)
  exact congrArg Rst.phase (h.frame .rst (by decide))

/-- Claiming the staging banks changes nothing else of RSTR (R48). -/
theorem State.claimBanks_rstr (s : State) : s.claimBanks.rstr = { s.rstr with banks := true } := by
  have h := State.preempt_touches (State.preempt_touches (touches_refl 0x2 s) (by decide) 3) (by decide) 4
  exact congrArg (fun x : Rstr => { x with banks := true }) (h.frame .rstr (by decide))

/-- Granting slots moves islets from the queue to the slots alone (R172). -/
theorem State.grantSlots_rstr (s : State) : ∃ l q, s.grantSlots.rstr = { s.rstr with slots := l, faultQ := q } := by
  unfold State.grantSlots
  split
  · exact ⟨_, _, rfl⟩
  · exact ⟨s.rstr.slots, s.rstr.faultQ, rfl⟩

/-- What the metadata load leaves of RST and RSTR: memory is active behind the interlock, with no islet restored and the staging
banks claimed (R166 to R169). -/
structure State.Loaded (t : State) : Prop where
  phase : t.rst.phase = .active
  interlock : t.rstr.interlock = true
  restored : t.rstr.restored = []
  banks : t.rstr.banks = true

/-- Behind the interlock with no islet restored, the claim and memory active complete the load. -/
theorem State.loaded_restoreBegun (hi : s.rstr.interlock = true) (hr : s.rstr.restored = []) : s.restoreBegun.Loaded := by
  have hphase : s.restoreBegun.rst = (s.setRes 0).claimBanks.memoryActive.rst :=
    (State.grantSlots_touches (touches_refl 0x100002 _) (by decide)).frame .rst (by decide)
  have hactive : (s.setRes 0).claimBanks.memoryActive.rstr = (s.setRes 0).claimBanks.rstr :=
    (State.memoryActive_touches (touches_refl 0x80206C02 _) (by decide)).frame .rstr (by decide)
  have hres : (s.setRes 0).rstr = s.rstr :=
    (State.setRes_touches (touches_refl 0xC0004C02 s) (by decide) 0).frame .rstr (by decide)
  obtain ⟨l, q, hgrant⟩ := (s.setRes 0).claimBanks.memoryActive.grantSlots_rstr
  have hrstr : s.restoreBegun.rstr = { s.rstr with banks := true, slots := l, faultQ := q } := by
    rw [State.restoreBegun, hgrant, hactive, State.claimBanks_rstr, hres]
  refine ⟨?_, ?_, ?_, ?_⟩
  · rw [hphase, State.memoryActive_phase]
  · rw [hrstr, hi]
  · rw [hrstr, hr]
  · rw [hrstr]

/-- A metadata load that ends leaves a running controller, whose islets are all still to restore. -/
theorem State.loaded_loadEnded (hp : s.get RSTR_STAT_PHASE = 2) (hs : s.saving = false) (he : s.save.ended = false) :
    s.loadEnded.Loaded := by
  obtain ⟨hrst, hrstr⟩ := s.loadEnded_frame
  rw [State.metadataLoaded_loading hp hs he] at hrst hrstr
  obtain ⟨hphase, hinterlock, hrestored, hbanks⟩ := State.loaded_restoreBegun
    (s := s.tablesLoaded.interlocked (decide (s.rstr.cls = 6))) rfl rfl
  exact ⟨(congrArg Rst.phase hrst).trans hphase, (congrArg Rstr.interlock hrstr).trans hinterlock,
    (congrArg Rstr.restored hrstr).trans hrestored, (congrArg Rstr.banks hrstr).trans hbanks⟩

/-- No islet has a record and both planes are clear (R166). -/
structure Pers.Cleared (x : Pers) : Prop where
  islets : x.islets = []
  plane0 : x.plane0 = []
  plane1 : x.plane1 = []

/-- A new run begins with both planes clear and the records as they are (R73). -/
theorem Pers.cleared_activate (h : s.pers.islets = []) : s.activate.pers.Cleared := ⟨h, rfl, rfl⟩

/-- Loading the tables brings no islet record back. -/
theorem Pers.cleared_tablesLoaded (s : State) : s.tablesLoaded.pers.Cleared := by
  unfold State.tablesLoaded
  dsimp only
  split
  · exact ⟨rfl, rfl, rfl⟩
  · refine Pers.cleared_activate ?_
    have h := State.cutJournal_touches (State.loadTables_touches (touches_refl 0x160002
      (s.setPers { s.pers with islets := [], plane0 := [], plane1 := [] })) (by decide)) (by decide)
    exact congrArg Pers.islets (h.frame .pers (by decide))

/-- The claim of the banks and memory active leave PERS. -/
theorem State.pers_restoreBegun (s : State) : s.restoreBegun.pers = s.pers := by
  have hclaim := State.claimBanks_touches (State.setRes_touches (touches_refl 0xC0306C02 s) (by decide) 0) (by decide)
  exact (State.grantSlots_touches (State.memoryActive_touches hclaim (by decide)) (by decide)).frame .pers (by decide)

/-- A metadata load whose banks RSTR holds already leaves PERS cleared. -/
theorem State.cleared_loadEnded (hp : s.get RSTR_STAT_PHASE = 2) (hs : s.saving = false) (he : s.save.ended = false)
    (hb : s.rstr.banks = true) : s.loadEnded.pers.Cleared := by
  rw [State.loadEnded_banksHeld hb, State.metadataLoaded_loading hp hs he, State.pers_restoreBegun,
    State.pers_interlocked]
  exact Pers.cleared_tablesLoaded s

/-! ### The restore of an islet (R172, R177) -/

/-- A fault-in within FI_SLOW brings its islet back, with its count and the highest latency (R172). -/
theorem State.faultInDone_inTime {i us rebuilt : Nat} {lost : List Nat} {t : State}
    (hslot : s.rstr.slots.any (fun e => decide (e.1 = i)) = true) (hr : s.isRestored i = false)
    (ht : t = ((s.fillFaultIn i).bringBack i rebuilt lost).bump64 RSTR_FI_LO_COUNT) (hus : us ≤ t.cfg RSTR_FI_SLOW_US) :
    s.faultInDone i us rebuilt lost false = ((t.put RSTR_FI_MAX_US (max (t.get RSTR_FI_MAX_US) (min us (2 ^ 22 - 1)))).setRestored
      i).joinSave i := by
  subst ht
  unfold State.faultInDone
  rw [if_pos ⟨hslot, hr⟩]
  simp only [if_neg (Nat.not_lt.mpr hus), Bool.false_eq_true, if_false]

/-- A stream of the background restore brings back the islet that is next (R177). -/
theorem State.restoreNext_some {zero : Bool} {k i : Nat} (hi : s.rstr.interlock = true) (hb : s.cfgOn RSTR_CTRL_BG_EN = true)
    (hs : s.saving = false) (he : s.save.ended = false) (hn : s.nextRestore zero = some (k, i)) (rebuilt : Nat)
    (lost : List Nat) : s.restoreNext zero rebuilt lost = ((s.setStep zero k).bringBack i rebuilt lost).setRestored i := by
  rw [State.restoreNext, if_pos ⟨hi, hb, hs, he⟩, hn]

/-! ### The check of a warm start (R184, R190, R191) -/

/-- A warm start stands before its check: configured, and not gone on cold (R190). -/
structure State.WarmChecks (s : State) : Prop where
  phase : s.rst.phase = .configured
  start : s.get RST_STAT_START = 1
  notFailed : s.flag RST_STAT_WARM_FAIL = false

/-- Its check is judged. -/
theorem State.WarmChecks.judged (h : s.WarmChecks) :
    ¬ (s.rst.phase ≠ .configured ∨ s.get RST_STAT_START ≠ 1 ∨ s.flag RST_STAT_WARM_FAIL = true) := by
  simp [h.phase, h.start, h.notFailed]

/-- The last save's page and WARM, of a check that succeeds (R158, R191). -/
def State.warmShown (s : State) : State := (s.loadLast (s.sealAt s.arr.highSealed)).put RSTR_STAT_WARM 1

/-- The check of a run that was persistent restores the states of the last save (R184, R191). -/
theorem State.warmCheck_good (h : s.WarmChecks) (hv : s.rst.volatile = false) : s.warmCheck true =
    (let u := (s.warmShown.put RSTR_STAT_PHASE 4).warmStates
     (u.setSave { u.save with keyLoaded := true, mediaKey := some s.keyOf }).memoryActive) := by
  unfold State.warmCheck
  rw [if_neg h.judged, if_pos rfl]
  simp only [hv, Bool.false_eq_true, if_false, Bool.not_false]
  rfl

/-- The check of a volatile run leaves it volatile, with its cause and no media key (R191). -/
theorem State.warmCheck_volatile (h : s.WarmChecks) (hv : s.rst.volatile = true) : s.warmCheck true =
    (let u := (s.warmShown.put RSTR_STAT_PHASE 5).put RSTR_STAT_VOL_CAUSE s.rst.volCause
     (u.setSave { u.save with keyLoaded := false, mediaKey := none }).memoryActive) := by
  unfold State.warmCheck
  rw [if_neg h.judged, if_pos rfl]
  simp only [hv, if_true, Bool.not_true]
  rfl

/-- A check that fails sets WARM_FAIL and goes on cold, with image detection (R190). -/
theorem State.warmCheck_bad (h : s.WarmChecks) : s.warmCheck false = (((s.put RST_STAT_WARM_FAIL 1).raiseInt 0x02 1).setRst
    { s.rst with phase := .trained }).detectionBegun (s.now - s.rst.startedAt) := by
  unfold State.warmCheck
  rw [if_neg h.judged, if_neg Bool.false_ne_true]
  rfl

end Sys2Proof.Machine

namespace Sys2Proof.Settled

open Sys2Proof.Machine

/-- Settles O38: each command by the step of the start that it ends. -/
theorem restoreSteps : Obligations.RestoreSteps := by
  refine ⟨?_, ?_, ?_, ?_, ?_, ?_, ?_, ?_, ?_, ?_, ?_⟩
  · intro s hp hs ho hc
    obtain ⟨hphase, hstored, hdetecting, hrestoring⟩ := State.trained_trainingDone hp hs ho hc
    exact ⟨s.trainingDone [] false [], rfl, hphase, hstored, hdetecting, hrestoring⟩
  · intro s fell bad hp hs ho hk hb
    exact congrArg Host.Outcome.next (State.trainingDone_failed hp hs ho hk fell bad hb)
  · intro s f hd hs he
    exact congrArg Host.Outcome.next (if_pos ⟨hd, hs, he⟩)
  · intro s hp hs he
    obtain ⟨hphase, hinterlock, hrestored, hbanks⟩ := State.loaded_loadEnded hp hs he
    exact ⟨s.loadEnded, rfl, hphase, hinterlock, hrestored, hbanks⟩
  · intro s hp hs he hb
    have hphase := (State.loaded_loadEnded hp hs he).phase
    obtain ⟨hislets, hplane0, hplane1⟩ := State.cleared_loadEnded hp hs he hb
    exact ⟨s.loadEnded, rfl, hphase, hislets, hplane0, hplane1⟩
  · intro s i us rebuilt lost t hslot hr ht hus
    exact congrArg Host.Outcome.next (State.faultInDone_inTime hslot hr ht hus)
  · intro s zero rebuilt lost k i hi hb hs he hn
    exact congrArg Host.Outcome.next (State.restoreNext_some hi hb hs he hn rebuilt lost)
  · intro s hp hs hw hv
    exact congrArg Host.Outcome.next (State.warmCheck_good ⟨hp, hs, hw⟩ hv)
  · intro s hp hs hw hv
    exact congrArg Host.Outcome.next (State.warmCheck_volatile ⟨hp, hs, hw⟩ hv)
  · intro s hp hs hw
    exact congrArg Host.Outcome.next (State.warmCheck_bad ⟨hp, hs, hw⟩)
  · intro s hm hn ho hw
    exact congrArg Host.Outcome.next (if_pos ⟨hm, hn, ho, hw⟩)

end Sys2Proof.Settled
end

section
/-! SUPPORT. The layout of the save array: where the cells of a stripe lie, how parity rebuilds one of them, which checks the
LDPC code of a codeword meets, and where a journal position lies (R201, R204, R205, R218). -/

namespace Sys2Proof.Machine

/-! ### The cells of a stripe (R204) -/

theorem cellAt_self (c : Nat) : cellAt c c = .parity := if_pos rfl

theorem cellAt_of_ne {c d : Nat} (h : d ≠ c) : cellAt c d = .codeword ((d + 31 - c) % 16) d := if_neg h

theorem stripeSlot_lt (j k : Nat) : stripeSlot j k < 16 := Nat.mod_lt _ (by decide)

/-- The parity cell of column `k` is out of every islet's way: only stripe column 15, which no islet has, would meet it. -/
theorem stripeSlot_ne {j k : Nat} (hj : j < 15) (hk : k < 16) : stripeSlot j k ≠ k := by
  unfold stripeSlot
  omega

/-- Slot to stripe column and stripe column to slot are the same reflection of a column, so each undoes the other. -/
theorem eq_stripeSlot_iff {j k c : Nat} (hj : j < 15) (hk : k < 16) (hc : c < 16) :
    c = stripeSlot j k ↔ (k + 31 - c) % 16 = j := by
  unfold stripeSlot
  omega

theorem cellAt_eq_codeword_iff {j k c : Nat} (hj : j < 15) (hk : k < 16) (hc : c < 16) :
    cellAt c k = .codeword j k ↔ c = stripeSlot j k := by
  by_cases h : k = c
  · subst h
    simp [cellAt_self, (stripeSlot_ne hj hk).symm]
  · rw [cellAt_of_ne h, eq_stripeSlot_iff hj hk hc, Cell.codeword.injEq, and_iff_left rfl]

/-! ### The parity of a slot (R205) -/

/-- The XOR of a byte over all 16 cells of a slot. -/
def slotXor (cell : Nat → BitVec 8) : BitVec 8 := (List.range 16).foldl (fun a d => a ^^^ cell d) 0

/-- Whichever cell is set apart, adding it to the XOR of the 15 others gives the XOR of the whole slot. -/
theorem parityByte_xor_cell (cell : Nat → BitVec 8) {d : Nat} (hd : d < 16) :
    parityByte cell d ^^^ cell d = slotXor cell := by
  have hothers : (List.range 16).filter (fun e => decide (e ≠ d)) = (List.range 16).erase d := by
    rw [List.nodup_range.erase_eq_filter d]
    exact List.filter_congr fun e _ => by simp [bne, beq_eq_decide]
  have hperm : ((List.range 16).erase d ++ [d]).Perm (List.range 16) :=
    (List.perm_append_singleton d _).trans (List.perm_cons_erase (List.mem_range.mpr hd)).symm
  calc parityByte cell d ^^^ cell d
      = ((List.range 16).erase d ++ [d]).foldl (fun a e => a ^^^ cell e) 0 := by
        rw [List.foldl_concat, parityByte, hothers]
    _ = slotXor cell := hperm.foldl_eq' (fun _ _ _ _ _ => by ac_rfl) 0

/-- A cell is the XOR of the 15 others exactly where the slot sums to zero, which does not depend on the cell. -/
theorem parityByte_eq_cell_iff (cell : Nat → BitVec 8) {d : Nat} (hd : d < 16) :
    parityByte cell d = cell d ↔ slotXor cell = 0 := by
  rw [← parityByte_xor_cell cell hd]
  exact BitVec.xor_eq_zero_iff.symm

/-! ### The LDPC code (R201) -/

/-- A column adds to the checks by its own bits alone. -/
theorem ldpcColumn_congr {v w : Nat → BitVec 32} {j : Nat} (h : v j = w j) (r : Nat) :
    ldpcColumn v r j = ldpcColumn w r j := by
  unfold ldpcColumn
  rw [h]

/-- The sum over the information columns does not see the parity columns. -/
theorem ldpcSum_congr {v w : Nat → BitVec 32} (h : ∀ j, j < 1032 → v j = w j) (r : Nat) : ldpcSum v r = ldpcSum w r :=
  List.foldl_ext _ _ _ fun a j hj => congrArg (a ^^^ ·) (ldpcColumn_congr (h j (List.mem_range.mp hj)) r)

theorem ldpcEncode_info (info : Nat → BitVec 32) {j : Nat} (hj : j < 1032) : ldpcEncode info j = info j := if_pos hj

theorem ldpcEncode_parity (info : Nat → BitVec 32) (i : Nat) : ldpcEncode info (1032 + i) = ldpcParity info i := by
  rw [ldpcEncode, if_neg (by omega), Nat.add_sub_cancel_left]

theorem ldpcSum_encode (info : Nat → BitVec 32) (r : Nat) : ldpcSum (ldpcEncode info) r = ldpcSum info r :=
  ldpcSum_congr (fun _ => ldpcEncode_info info) r

/-- Row 0 makes the first parity column; each later row makes its own from the one before, which cancels in its checks. -/
theorem ldpcCheck_encode (info : Nat → BitVec 32) (r : Nat) : ldpcCheck (ldpcEncode info) r = 0 := by
  rw [ldpcCheck, ldpcSum_encode, ldpcEncode_parity]
  cases r with
  | zero => simp [ldpcParity]
  | succ i =>
    rw [if_neg i.succ_ne_zero, show 1031 + (i + 1) = 1032 + i by omega, ldpcEncode_parity, ldpcParity,
      BitVec.xor_comm (ldpcParity info i)]
    exact BitVec.xor_self

/-- The four circulants of a column lie in four rows: their offsets 0, 29, 58 and 87 differ modulo 115. -/
theorem ldpcRow_injective (j : Nat) {t u : Nat} (ht : t < 4) (hu : u < 4) (h : ldpcRow j t = ldpcRow j u) : t = u := by
  have hmod : 29 * t ≡ 29 * u [MOD 115] := Nat.ModEq.add_left_cancel' j h
  have heq : 29 * t = 29 * u := hmod.eq_of_lt_of_lt (by omega) (by omega)
  omega

/-! ### The places of the journal (R218) -/

/-- The row, slot and first column of a position read back as that position. -/
theorem journalPos_journalPlace (p : Nat) :
    journalPos (journalPlace p).1 (journalPlace p).2.1 (journalPlace p).2.2.1 = p := by
  simp only [journalPos, journalPlace]
  omega

theorem journalPlace_slot_lt (p : Nat) : (journalPlace p).2.1 < 16 := by
  simp only [journalPlace]
  omega

theorem journalPlace_col_lt (p : Nat) : (journalPlace p).2.2.1 < 8 := Nat.mod_lt _ (by decide)

theorem journalPlace_mirror (p : Nat) : (journalPlace p).2.2.2 = (journalPlace p).2.2.1 + 8 := rfl

end Sys2Proof.Machine

namespace Sys2Proof.Settled

open Sys2Proof.Machine

/-- Settles O22: every cell of a slot is the XOR of the 15 others as soon as one of them is. -/
theorem parityRebuild : Obligations.ParityRebuild := fun cell _ _ hc hlost hparity =>
  (parityByte_eq_cell_iff cell hlost).mpr ((parityByte_eq_cell_iff cell hc).mp hparity.symm)

/-- Settles O23: the running accumulation cancels in the checks of every row. -/
theorem ldpcEncodes : Obligations.LdpcEncodes :=
  ⟨fun info r _ => ldpcCheck_encode info r, fun info _ => ldpcEncode_info info, fun j _ _ => ldpcRow_injective j⟩

/-- Settles O24: the place of a position determines it. -/
theorem journalPlaces : Obligations.JournalPlaces := by
  refine ⟨fun p q hrow hslot hcol => ?_, fun p => ⟨journalPlace_slot_lt p, journalPlace_col_lt p, journalPlace_mirror p⟩⟩
  rw [← journalPos_journalPlace p, hrow, hslot, hcol, journalPos_journalPlace q]

/-- Settles O21: the diagonal holds parity, and each codeword has its one slot of its column off the diagonal. -/
theorem stripePlacement : Obligations.StripePlacement :=
  ⟨fun c _ => cellAt_self c, fun _ _ _ => cellAt_eq_codeword_iff, fun j k hj hk => ⟨stripeSlot_lt j k, stripeSlot_ne hj hk⟩⟩

end Sys2Proof.Settled
end

section
/-! SUPPORT. The flash channels (R234, R238, R240, R246 to R252, R254, R256, R261, R265): how an operation joins its queue, suspends
another and ends, how a channel trains, and what the block query answers. -/

namespace Sys2Proof.Machine

variable {s u : State} {p : Port} {a c d : Nat} {w : Word}

/-! ### The queues (R234, R238) -/

/-- Outside a save an operation that its unit may issue, on a die that works, joins a queue with room (R234). -/
theorem State.enqueueFop_accepted {o : FOp} (hd : (s.die c o.die).st = 1)
    (hroom : ((Sparse.get (fun _ => []) s.farr.queues c).filter (fun q => decide (q.queue = o.queue))).length < 64)
    (hs : s.saving = false) (hq : o.queue ≠ .save) (hi : s.issued c o = true) : s.enqueueFop c o = (s.setFarr { s.farr with
      queues := Sparse.set (fun _ => []) s.farr.queues c (Sparse.get (fun _ => []) s.farr.queues c ++ [o]) }).refreshQ c :=
  if_neg (by simp [hd, Nat.not_le.mpr hroom, hs, hq, hi])

/-- A DEMAND read that waits suspends what the die runs, where that may be suspended, and starts (R238). -/
theorem State.suspendFor_demand (hw : s.demandWaits c d = true) (hs : s.suspendable c d = true) : s.suspendFor c d =
    State.startDie 8 c d .demand ((s.setDie c d { s.die c d with
      busy := none, susp := (s.die c d).busy, resumedAt := none }).bump (FCH_SUSPCNT_COUNT c)) :=
  if_pos (Bool.and_eq_true_iff.mpr ⟨hw, hs⟩)

/-! ### The end of a read (R246 to R248, R254, R541) -/

/-- A read that decodes at the ladder's step 0 counts in no counter of the ladder (R246). -/
theorem State.countRead_first {e : ReadResult} (h : e.step = 0) : s.countRead c e = s.bump64 (FCH_RD_LO_COUNT c) := by
  simp [State.countRead, h]

/-- A codeword that a step of the ladder recovers is not lost (R247). -/
theorem State.noteLost_recovered {e : ReadResult} (h : e.step < 4) (x : Nat × Nat × Nat × Nat) : s.noteLost e x = s :=
  if_neg fun hl => Nat.not_le.mpr h hl.1

/-- A read that neither warns early nor is rebuilt, below the read limit, only counts in its block (R248, R541). -/
theorem BlkRec.afterRead_counted {r : BlkRec} {limit : Nat} (h : r.reads + 1 < limit) :
    r.afterRead false false limit = { r with reads := r.reads + 1 } := by
  simp [BlkRec.afterRead, h]

/-- A read of no scan, below the read limit, leaves the scans as they are (R540, R541). -/
theorem State.scanRead_none (s : State) (k : Nat) : s.scanRead k false false = s := rfl

/-- The last codeword of a read of no scan that decodes at step 0 without an early warning, below the read limit, counts in its
channel and its block and frees the die (R246, R248). -/
theorem State.readEnds_plain {plane b : Nat} {r : ReadEnd} {o : FOp} {e : ReadResult} (hb : (s.die c d).busy = some o)
    (he : e = s.readResult c d plane b r (decide (o.queue = .demand))) (h0 : e.step = 0)
    (hearly : s.earlyRead (s.block c d plane b).slc 0 e.bits e.iters = false)
    (hlimit : (s.block c d plane b).reads + 1 < s.cfg UPK_SCAN_RD_LIMIT * 1000) : s.readEnds c d plane b r true false =
      ((s.bump64 (FCH_RD_LO_COUNT c)).setBlock c d plane b { s.block c d plane b with
        reads := (s.block c d plane b).reads + 1 }).dieIdle c d := by
  have hcount := State.countRead_first (s := s) (c := c) h0
  have hkept := State.noteLost_recovered (s := s.bump64 (FCH_RD_LO_COUNT c)) (e := e) (by omega)
  have hblock := BlkRec.afterRead_counted hlimit
  unfold State.readEnds
  simp [hb, ← he, h0, hearly, hcount, hkept, hblock, State.scanRead_none, Nat.not_le.mpr hlimit]

/-! ### The end of a program or an erase (R240, R249 to R252, R254, R258) -/

/-- A program that passed is counted, and recorded in the block of every plane (R240, R252). -/
def State.planesProgrammed (s : State) (c d : Nat) (o : FOp) (us : Nat) : State :=
  o.planes.foldl (fun t p => t.setBlock c d p o.block (s.blockProgrammed o (s.slowProgram c d o.slc us) true
    (s.block c d p o.block))) (s.programCounted c o.slc)

/-- A program of no stripe that passes is recorded, its time joins the die's samples, the blocks it wore out count, and the die
is freed (R240, R251, R252). -/
theorem State.programEnds_passed {us : Nat} {o : FOp} (hb : (s.die c d).busy = some o) (hk : o.kind = .program)
    (hs : o.stripe = 0) : s.programEnds c d true us =
      (let t := s.planesProgrammed c d o us
       let x := (t.die c d).sample o.slc us
       let worn := (o.planes.filter (fun p => (t.block c d p o.block).worn && !(s.block c d p o.block).worn)).length
       (((t.setDie c d { x with worn := x.worn + worn }).wearEvent c d).refreshFarr).dieIdle c d) := by
  unfold State.programEnds
  rw [hb]
  exact (if_neg (not_not.mpr hk)).trans ((if_pos rfl).trans (if_pos hs))

/-- An erase is counted, and recorded in the block of every plane (R250). -/
def State.planesErased (s : State) (c d : Nat) (o : FOp) (good : Bool) : State :=
  o.planes.foldl (fun t p => t.setBlock c d p o.block ((s.block c d p o.block).afterErase good)) (s.bump (FCH_ER_COUNT c))

/-- The die's count of worn blocks drops those of an erase that ends, and its time is noted (R251, R252). -/
def State.eraseNoted (s : State) (c d : Nat) (o : FOp) (e : EraseEnd) : State :=
  let t := s.planesErased c d o e.good
  t.setDie c d { t.die c d with
    worn := (t.die c d).worn - (o.planes.filter (fun p => (s.block c d p o.block).worn)).length, eraseUs := e.us }

/-- An erase that ends frees the die, and a block that failed is retired (R250, R254). -/
def State.eraseSettled (s : State) (c d : Nat) (o : FOp) (e : EraseEnd) : State :=
  let u := s.eraseNoted c d o e
  (((if e.good then u else u.raiseFault (0x60 + c) 3 7 0).dieIdle c d).retired c d (o.planes.filter (fun p => decide
    (((s.planesErased c d o e.good).block c d p o.block).bstate = 4))).length).refreshDie c d

/-- Is every block of a skerry ERASED or out of use (R258)? -/
def State.columnsErased (s : State) (k : Nat) : Bool :=
  (s.blocksOf k).all (fun key => decide ((Sparse.get (fun _ => freshBlock) s.farr.blocks key).bstate = 0 ∨
    3 ≤ (Sparse.get (fun _ => freshBlock) s.farr.blocks key).bstate))

/-- The erase of the last column gives its skerry back (R250, R258). -/
theorem State.eraseEnds_busy {e : EraseEnd} {o : FOp} (hb : (s.die c d).busy = some o) (hk : o.kind = .erase) :
    s.eraseEnds c d e.good e.us =
      (let v := s.eraseSettled c d o e
       (if v.columnsErased (s.skerryOf c d o.block) then v.skerryErased (s.skerryOf c d o.block) else v).refreshFarr) := by
  unfold State.eraseEnds
  rw [hb]
  exact if_neg (not_not.mpr hk)

/-! ### A die that stays busy (R256) -/

/-- The first time, outside a save and a restore, a RESET is tried (R256). -/
theorem State.dieTimeout_first (hb : (s.die c d).busy ≠ none) (hs : s.saving = false) (hi : s.rstr.interlock = false)
    (ht : (s.die c d).resetTried = false) : s.dieTimeout c d false =
      (let t := (s.bump (FCH_TMO_COUNT c)).raiseFault (0x60 + c) 1 7 0
       t.setDie c d { t.die c d with resetTried := true }) :=
  (if_neg hb).trans ((if_neg Bool.false_ne_true).trans (if_neg (by simp [hs, hi, ht])))

/-- A die that a RESET did not bring back fails (R256). -/
theorem State.dieTimeout_again (hb : (s.die c d).busy ≠ none) (ht : (s.die c d).resetTried = true) : s.dieTimeout c d false =
    ((s.bump (FCH_TMO_COUNT c)).raiseFault (0x60 + c) 1 7 0).dieFails c d (mediaAddr c d 0 0 0) :=
  (if_neg hb).trans ((if_neg Bool.false_ne_true).trans (if_pos (.inr (.inr ht))))

/-! ### The training of a channel (R256, R261) -/

/-- No feature's enable bit lies on a page of a flash channel (R49). -/
theorem features_not_flash : ∀ f ∈ features, f.enable.addr / 0x1000 < 0x60 ∨ 0x70 ≤ f.enable.addr / 0x1000 := by decide

/-- A write of FCH_CTRL with RETRAIN set begins a training (R261). -/
theorem State.written_fchCtrl (hpg : 0x60 ≤ a / 0x1000 ∧ a / 0x1000 < 0x70) (ho : a % 0x1000 = 0x044)
    (hbit : bitOf w.toNat 0 = true) : u.written s p a w = u.retrainChannel (a / 0x1000 - 0x60) := by
  have hf : ∀ f ∈ features, f.enable.addr ≠ a := fun f hf => by have := features_not_flash f hf; omega
  unfold State.written
  simp only [State.enableFeatures_none hf]
  repeat rw [if_neg (by omega)]
  rw [if_pos ⟨hpg.1, hpg.2, ho⟩, if_pos hbit]

/-- A write of RETRAIN that the channel's page accepts. -/
theorem State.portWord_fchCtrl (h : s.accepted p (0x60044 + c % 16 * 0x1000) w = some u) (hbit : bitOf w.toNat 0 = true) :
    s.portWord p (0x60044 + c % 16 * 0x1000) w = (u.retrainChannel (c % 16)).refreshArmed := by
  have hpg : (0x60044 + c % 16 * 0x1000) / 0x1000 = 0x60 + c % 16 := by omega
  rw [State.portWord_of_accepted h (.inl (by omega)) (by omega) (.inl (by omega)),
    State.written_fchCtrl (by omega) (by omega) hbit, hpg, Nat.add_sub_cancel_left]

/-- A second failure in a row takes the channel down (R256). -/
theorem State.channelTrained_twice (h : Sparse.get (fun _ => 0) s.farr.trainFails c = 1) (found : List (Option DieFound)) :
    s.channelTrained c false found =
      (s.setFarr { s.farr with trainFails := Sparse.set (fun _ => 0) s.farr.trainFails c 2 }).channelDown c := by
  unfold State.channelTrained
  rw [if_neg Bool.false_ne_true, h]
  exact if_pos (Nat.le_refl 2)

/-- A channel whose training succeeds is up, with no failure and the rate of its mode (R261). -/
def State.channelUp (s : State) (c : Nat) : State :=
  let t := ((s.put (FCH_STAT_TRAINING c) 0).put (FCH_STAT_UP c) 1).put (FCH_STAT_DOWN c) 0
  t.setFarr { t.farr with
    trainFails := Sparse.set (fun _ => 0) t.farr.trainFails c 0
    rates := Sparse.set (fun _ => 3600) t.farr.rates c (modeRate (s.cfg (FCH_MODE_IFACE c)) (s.cfg (FCH_MODE_RATE c))) }

/-- A channel comes up with the dies that a cold start finds on it, and the save rate is written for them (R233, R261). -/
theorem State.channelTrained_good (s : State) (c : Nat) (found : List (Option DieFound)) : s.channelTrained c true found =
    (let v := if s.get RST_STAT_START = 0 ∧ s.rst.phase ≠ .active then (List.range (s.mdl.diesPerChannel.getD c 0)).foldl (fun
       (v : State) d => v.dieFound c d (found.getD d none)) (s.channelUp c) else s.channelUp c
     (((List.range 16).foldl (fun w d => w.refreshDie c d) v).rewriteRate).refreshFarr) :=
  if_pos rfl

/-! ### The block query (R265) -/

/-- A write of FARR_Q_BLOCK starts a lookup. -/
theorem State.written_qBlock (ha : a = 0x71040) : u.written s p a w = u.queryBlock w.toNat := by
  have hf : ∀ f ∈ features, f.enable.addr ≠ a := ha ▸ by decide
  unfold State.written
  simp only [State.enableFeatures_none hf]
  repeat rw [if_neg (by omega)]
  rw [if_pos ha]

/-- The write of a block's address that the page accepts. -/
theorem State.portWord_qBlock (h : s.accepted p 0x71040 w = some u) :
    s.portWord p 0x71040 w = (u.queryBlock w.toNat).refreshArmed := by
  rw [State.portWord_of_accepted h (.inl (by decide)) (by decide) (.inl (by decide)), State.written_qBlock rfl]

/-- A block's record is shown in the query registers (R265). -/
def State.showBlock (s : State) (r : BlkRec) : State :=
  ((((((s.put FARR_Q_REC_VALID 1).put FARR_Q_REC_BSTATE r.bstate).put FARR_Q_REC_MODE (b2n r.slc)).put FARR_Q_REC_WORN
    (b2n r.worn)).put FARR_Q_REC_EARLY r.early).put FARR_Q_WP_PAGE r.wp).put FARR_Q_EC_EC r.ec

/-- The lookup of a block within the geometry, on a die that is there, shows its record (R265). -/
theorem State.blockFound_present {v : Nat} (hl : s.farr.lookup = some v) (hd : (s.die (v % 16) (v / 16 % 16)).st ≠ 0)
    (hp : v / 256 % 4 < s.mdl.planes) (hb : v / 4096 % 16384 < s.mdl.bpp) : s.blockFound =
      (s.setFarr { s.farr with lookup := none }).showBlock (s.block (v % 16) (v / 16 % 16) (v / 256 % 4) (v / 4096 % 16384)) := by
  have hpresent : ¬ ((s.die (v % 16) (v / 16 % 16)).st = 0 ∨ s.mdl.planes ≤ v / 256 % 4 ∨
      s.mdl.bpp ≤ v / 4096 % 16384) := by omega
  unfold State.blockFound
  rw [hl]
  simp only [if_neg hpresent]
  rfl

end Sys2Proof.Machine

namespace Sys2Proof.Settled

open Sys2Proof.Machine

/-- Settles O39: each operation by how it ends, the die and the channel by whether they failed before, and the registers' writes by
what they bring about. -/
theorem flashOperations : Obligations.FlashOperations := by
  refine ⟨?_, ?_, ?_, ?_, ?_, ?_, ?_, ?_, ?_, ?_, ?_, ?_⟩
  · intro s c o hd hroom hs hq hi
    exact congrArg Host.Outcome.next (State.enqueueFop_accepted hd hroom hs hq hi)
  · intro s c d hw hs
    exact congrArg Host.Outcome.next (State.suspendFor_demand hw hs)
  · intro s c d p b r o e hb he h0 hearly hlimit
    exact congrArg Host.Outcome.next (State.readEnds_plain hb he h0 hearly hlimit)
  · rintro s c d us o _ hb hk hs rfl
    exact congrArg Host.Outcome.next (State.programEnds_passed hb hk hs)
  · rintro s c d e o _ _ _ hb hk rfl rfl rfl
    exact congrArg Host.Outcome.next (State.eraseEnds_busy hb hk)
  · rintro s c d _ hb hs hi ht rfl
    exact congrArg Host.Outcome.next (State.dieTimeout_first hb hs hi ht)
  · intro s c d hb ht
    exact congrArg Host.Outcome.next (State.dieTimeout_again hb ht)
  · intro s p c u h hbit
    exact congrArg Host.Outcome.next (State.portWord_fchCtrl h hbit)
  · rintro s c found _ h rfl
    exact congrArg Host.Outcome.next (State.channelTrained_twice h found)
  · rintro s c found _ _ rfl rfl
    exact congrArg Host.Outcome.next (s.channelTrained_good c found)
  · intro s p q u h
    exact congrArg Host.Outcome.next (State.portWord_qBlock h)
  · rintro s v _ hl hd hp hb rfl
    exact congrArg Host.Outcome.next (State.blockFound_present hl hd hp hb)

end Sys2Proof.Settled
end

section
/-! SUPPORT. The movers' registers and their collector (R267, R274, R292, R295, R298, R300): what an accepted write of MOV_CMD, of the
program-memory window and of MVG_CPOP brings about, what a read of the window answers, and where a drained record goes. -/

namespace Sys2Proof.Machine

variable {s u : State} {p : Port} {a c k : Nat} {d : Word}

/-! ### Starting and aborting a channel (R292, R295) -/

/-- No feature's enable bit lies in MOV_CMD (R49). -/
theorem features_not_movCmd : ∀ f ∈ features, f.enable.addr / 0x1000 < 0x30 ∨ 0x50 ≤ f.enable.addr / 0x1000 ∨
    f.enable.addr % 0x1000 ≠ 0x040 := by decide

/-- A write of MOV_CMD acts on its page's channel. -/
theorem State.written_movCmd (hpg : 0x30 ≤ a / 0x1000 ∧ a / 0x1000 < 0x50) (ho : a % 0x1000 = 0x040) :
    u.written s p a d = u.movCmd (a / 0x1000 - 0x30) d.toNat := by
  have hf : ∀ f ∈ features, f.enable.addr ≠ a := fun f hf => by have := features_not_movCmd f hf; omega
  unfold State.written
  simp only [State.enableFeatures_none hf]
  repeat rw [if_neg (by omega)]
  rw [if_pos ⟨hpg.1, hpg.2, ho⟩]

/-- A write of MOV_CMD that the channel's page accepts. -/
theorem State.portWord_movCmd (h : s.accepted p (0x30040 + c % 32 * 0x1000) d = some u) :
    s.portWord p (0x30040 + c % 32 * 0x1000) d = (u.movCmd (c % 32) d.toNat).refreshArmed := by
  have hpg : (0x30040 + c % 32 * 0x1000) / 0x1000 = 0x30 + c % 32 := by omega
  rw [State.portWord_of_accepted h (.inl (by omega)) (by omega) (.inl (by omega)),
    State.written_movCmd (by omega) (by omega), hpg, Nat.add_sub_cancel_left]

/-- START alone starts the channel. -/
theorem State.movCmd_start (u : State) (c : Nat) : u.movCmd c 1 = u.movStart c := rfl

/-- ABORT alone ends the channel with cause 1. -/
theorem State.movCmd_abort (u : State) (c : Nat) : u.movCmd c 2 = u.abortChan c 1 := rfl

/-! ### The program-memory window (R273, R274) -/

/-- A write that a page accepts finds its page on and neither its semaphore, its owner nor its key missing. -/
theorem State.unrefused_of_accepted {r : Row} (h : s.accepted p a d = some u) (hr : regRow a = some r) :
    s.gated (a / 0x1000) = false ∧ ((needsSem a r && !s.holdsSem p (a / 0x1000)) || notOwned p a r ||
      (decide (a = 0x2040) && bitOf d.toNat 0 && !s.keyed p)) = false := by
  unfold State.accepted at h
  rw [hr] at h
  split at h
  · next hopen =>
    simp only [Bool.and_eq_true, Bool.not_eq_true'] at hopen
    exact ⟨hopen.2, Bool.eq_false_iff.mpr fun hrefused => Option.some_ne_none u (h.symm.trans (if_pos hrefused))⟩
  · cases h

/-- A write that a page accepts outside the Atoll window and the semaphores comes to its register. -/
theorem State.portWord_storeWord {r : Row} (h : s.accepted p a d = some u) (hr : regRow a = some r)
    (hw : a / 0x1000 ≠ 0x80 ∨ a % 0x1000 < 0x40) (hs : a / 0x100 ≠ 0x41) : s.portWord p a d = s.storeWord p a r d := by
  have hw' : ¬ (a / 0x1000 = 0x80 ∧ 0x40 ≤ a % 0x1000) := by omega
  have hs' : ¬ (0x4100 ≤ a ∧ a < 0x4200) := by omega
  obtain ⟨hgated, -⟩ := State.unrefused_of_accepted h hr
  unfold State.portWord State.busWrite
  simp only [State.portOpen_of_accepted h, implemented_of_regRow hr, hgated, hw', hs', hr, not_true_eq_false,
    Bool.false_eq_true, if_false, if_true]

/-- A write of MVG_PM_DATA_HI brings about the store of the program word. -/
theorem State.written_pmDataHi (ha : a = 0xB4088) : u.written s p a d = u.pmStore d.toNat := by
  have hf : ∀ f ∈ features, f.enable.addr ≠ a := ha ▸ by decide
  unfold State.written
  simp only [State.enableFeatures_none hf]
  repeat rw [if_neg (by omega)]
  rw [if_pos ha]

/-- A write of MVG_PM_DATA_HI that its page accepts, by a port that may write the word, stores it. -/
theorem State.portWord_pmDataHi (ha : a = 0xB4088) (h : s.accepted p a d = some u)
    (hp : pmAllowed p (s.get MVG_PM_ADDR_WORD) = true) : s.portWord p a d = (u.pmStore d.toNat).refreshArmed := by
  obtain ⟨r, hr⟩ := State.regRow_of_accepted h
  obtain ⟨-, hrefused⟩ := State.unrefused_of_accepted h hr
  have hdenied : ¬ (a = 0xB4088 ∧ pmAllowed p (s.get MVG_PM_ADDR_WORD) = false) := by simp [hp]
  have hflags : ¬ (a = 0xB4044 ∨ a = 0xB4048) := by omega
  rw [State.portWord_storeWord h hr (by omega) (by omega)]
  unfold State.storeWord
  simp only [hrefused, hdenied, hflags, Bool.false_eq_true, if_false]
  rw [← State.accepted_eq h hr, State.written_pmDataHi ha]

/-- A read of the window's page, while it is on, reads a register. -/
theorem State.portRead_mvg {o : Nat} (hp : s.portOpen p = true) (hg : s.gated 0xB4 = false) (ho : o < 0x1000) (h4 : o % 4 = 0) :
    s.portRead p (0xB4000 + o) =
      (s.readWord p (0xB4000 + o)).1.send (.regData p (0xB4000 + o) (s.readWord p (0xB4000 + o)).2) := by
  have hpg : (0xB4000 + o) / 0x1000 = 0xB4 := by omega
  exact State.portRead_of_some hp (by omega) (by omega) (State.busRead_register (by rw [hpg]; decide) (by rw [hpg]; exact hg)
    (.inl (by omega)) (by omega))

/-! ### The collector (R298, R300) -/

/-- A write of MVG_CPOP drops the head of the management ring. -/
theorem State.written_mvgCpop (ha : a = 0xB7050) : u.written s p a d = u.ringPop := by
  have hf : ∀ f ∈ features, f.enable.addr ≠ a := ha ▸ by decide
  unfold State.written
  simp only [State.enableFeatures_none hf]
  repeat rw [if_neg (by omega)]
  rw [if_pos ha]

/-- A write of MVG_CPOP that its page accepts. -/
theorem State.portWord_mvgCpop (h : s.accepted p 0xB7050 d = some u) : s.portWord p 0xB7050 d = u.ringPop.refreshArmed := by
  rw [State.portWord_of_accepted h (.inl (by decide)) (by decide) (.inl (by decide)), State.written_mvgCpop rfl]

/-- The slot of channel `c` is emptied as the one drained last. -/
def State.slotDrained (s : State) (c : Nat) : State :=
  let t := s.setChan c { s.chan c with slot := none }
  t.setMov { t.mov with drained := c }

/-- The record of a channel of Glen firmware is sent to it. -/
theorem State.collect_glen {r : MovRec} (hn : s.nextDrain = some c) (hs : (s.chan c).slot = some r) (hm : mgmtChan c = false) :
    s.collect k = ((s.slotDrained c).send (.moverRecord r.words)).unblock c k := by
  unfold State.collect
  simp only [hn, hs, hm]
  rfl

/-- The record of a management channel joins the ring, without an interrupt while this does not fill it. -/
theorem State.collect_mgmt {r : MovRec} (hn : s.nextDrain = some c) (hs : (s.chan c).slot = some r) (hm : mgmtChan c = true)
    (hroom : s.mov.ring.length < 15) : s.collect k =
      ((s.slotDrained c).setMov { (s.slotDrained c).mov with ring := s.mov.ring ++ [r] }).unblock c k := by
  have hfull : (s.mov.ring ++ [r]).length ≠ 16 := by rw [List.length_append, List.length_singleton]; omega
  unfold State.collect
  simp only [hn, hs, hm]
  exact congrArg (State.unblock · c k) (if_neg hfull)

end Sys2Proof.Machine

namespace Sys2Proof.Settled

open Sys2Proof.Machine

/-- Settles O40: each register by what its accepted write or its read brings about, and the collector by where the record goes. -/
theorem moverRegisters : Obligations.MoverRegisters := by
  refine ⟨?_, ?_, ?_, ?_, ?_, ?_, ?_, ?_⟩
  · intro s p c u h
    exact congrArg Host.Outcome.next ((State.portWord_movCmd h).trans (congrArg _ (u.movCmd_start (c % 32))))
  · intro s p c u h
    exact congrArg Host.Outcome.next ((State.portWord_movCmd h).trans (congrArg _ (u.movCmd_abort (c % 32))))
  · intro s p hi u h hp
    exact congrArg Host.Outcome.next (State.portWord_pmDataHi rfl h hp)
  · intro s p hp hg
    exact congrArg Host.Outcome.next (State.portRead_mvg (o := 0x84) hp hg (by decide) rfl)
  · intro s p hp hg
    exact congrArg Host.Outcome.next (State.portRead_mvg (o := 0x88) hp hg (by decide) rfl)
  · intro s p u h
    exact congrArg Host.Outcome.next (State.portWord_mvgCpop h)
  · rintro s k c r _ hn hs hm rfl
    exact congrArg Host.Outcome.next (State.collect_glen hn hs hm)
  · rintro s k c r _ hn hs hm hroom rfl
    exact congrArg Host.Outcome.next (State.collect_mgmt hn hs hm hroom)

end Sys2Proof.Settled
end

section
/-! SUPPORT. Mover programs (R275, R279 to R282, R285 to R291, R293 to R295): what each word does on a channel that stands at it, and how
a transfer and a WAIT end. -/

namespace Sys2Proof.Machine

variable {s : State} {c k : Nat}

/-! ### MOVE and SPREAD (R269, R282, R285, R286, R293) -/

/-- On a channel that stands at it, a MOVE or SPREAD takes the port and begins. -/
theorem State.beginXfer_runs {i : MInstr} (h : s.canRun c i = true) : s.beginXfer c i =
    (let t := s.serveChan c
     t.setChan c { t.chan c with cur := some (s.curWord c, s.pmWord ((s.chan c).pc + 1)), issued := 0 }) := if_pos h

/-- After a transfer the channel runs on behind the words of its instruction. -/
def State.xferEnded (t : State) (c : Nat) (w : BitVec 64) : State :=
  ((t.setChan c { t.chan c with cur := none, issued := 0 }).put (MOV_STAT_STATE c) 1).skip c (if bits64 w 60 4 = 1 then 1 else 2)

/-- A transfer without a bus error whose bursts have all been issued moves every line (R282). -/
theorem State.transferDone_whole {w v : BitVec 64} (hcur : (s.chan c).cur = some (w, v)) (hg : s.gated (0x30 + c) = false)
    (herr : s.firstErr c w v (xferLen w) = none) (hissued : xferLen w ≤ s.issuedLines c w) :
    s.transferDone c none = ((s.xfer c w v (xferLen w)).increments c w).xferEnded c w := by
  unfold State.transferDone
  simp only [hcur, hg, herr, Option.map_none, Option.getD_none, Nat.lt_irrefl, if_false, Nat.not_lt.mpr hissued,
    Bool.false_eq_true]
  rfl

/-- With no transfer in progress, or while the channel's clock is gated, none ends. -/
theorem State.transferDone_none (h : (s.chan c).cur = none ∨ s.gated (0x30 + c) = true) (err : Option (Nat × Nat)) :
    s.transferDone c err = s := by
  unfold State.transferDone
  rcases hcur : (s.chan c).cur with _ | x
  · rfl
  · exact if_pos (h.resolve_left (by simp [hcur]))

/-! ### LOOP (R280, R287) -/

/-- The value of a LOOP's counter after the word: loaded when it was 0, else counted down. -/
def State.loopCount (s : State) (c : Nat) : Nat :=
  let old := s.get (ctrOf c (bits64 (s.curWord c) 56 2))
  if old = 0 then (bits64 (s.curWord c) 40 16 + 65535) % 65536 else old - 1

/-- While its counter is not 0 a LOOP jumps back by its displacement; before word 0 lies outside program memory. -/
theorem State.movLoop_jumps (h : s.canRun c .loop = true) (hn : s.loopCount c ≠ 0) : s.movLoop c =
    (s.put (ctrOf c (bits64 (s.curWord c) 56 2)) (s.loopCount c)).setPc c (if bits64 (s.curWord c) 0 16 ≤ (s.chan c).pc then
      (s.chan c).pc - bits64 (s.curWord c) 0 16 else 0x10000 + ((s.chan c).pc + 0x10000 - bits64 (s.curWord c) 0 16)) :=
  (if_pos h).trans (if_pos hn)

/-- A LOOP whose counter reaches 0 goes on. -/
theorem State.movLoop_ends (h : s.canRun c .loop = true) (hn : s.loopCount c = 0) : s.movLoop c =
    (s.put (ctrOf c (bits64 (s.curWord c) 56 2)) (s.loopCount c)).setPc c ((s.chan c).pc + 1) :=
  (if_pos h).trans (if_neg (not_not.mpr hn))

/-- The last round counts the counter down to 0. -/
theorem State.loopCount_last (h : s.get (ctrOf c (bits64 (s.curWord c) 56 2)) = 1) : s.loopCount c = 0 := by
  simp [State.loopCount, h]

/-! ### SIGNAL (R290) -/

/-- SIGNAL's acts in their order, each carried out where its bit is 1: a flag, SIGCODE with the channel's interrupt, a Strait event and a
record. -/
def State.signalled (s : State) (c k flag code event record : Nat) : State :=
  let w := s.curWord c
  let t := if flag = 1 then
      s.put MVG_FLAGS_FLAGS (BitVec.ofNat 32 (s.get MVG_FLAGS_FLAGS) ||| BitVec.ofNat 32 (2 ^ bits64 w 48 5)).toNat else s
  let u := if code = 1 then (t.put (MOV_SIGCODE_CODE c) (bits64 w 0 32)).raiseInt (0x30 + c) 1 else t
  let v := if event = 1 then (u.sendFrame 0x40 none [BitVec.ofNat 8 (bits64 w 40 8)]).strtEvent (bits64 w 40 8) else u
  if record = 1 then v.produce (v.movRec c 1 0 (bits64 w 0 32) k) else v

/-- On a channel that stands at it, SIGNAL acts by its bits 56 to 59. -/
theorem State.movSignal_runs (h : s.canRun c .signal = true) : s.movSignal c k =
    (s.signalled c k (bits64 (s.curWord c) 56 1) (bits64 (s.curWord c) 57 1) (bits64 (s.curWord c) 58 1)
      (bits64 (s.curWord c) 59 1)).skip c 1 := if_pos h

/-- One bit of a field of a program word. -/
theorem bits64_bit (w : BitVec 64) (lo : Nat) {n i : Nat} (hi : i < n) : bits64 w (lo + i) 1 = bits64 w lo n / 2 ^ i % 2 := by
  have hbit : (w.toNat / 2 ^ lo % 2 ^ n).testBit i = w.toNat.testBit (lo + i) := by
    rw [Nat.testBit_mod_two_pow, Nat.testBit_div_two_pow, decide_eq_true hi, Bool.true_and, Nat.add_comm]
  unfold bits64
  rw [← Nat.toNat_testBit, hbit, Nat.toNat_testBit, pow_one]

/-- A SIGNAL acts by the bits of the field of its acts. -/
theorem State.movSignal_acts {n : Nat} (h : s.canRun c .signal = true) (hn : bits64 (s.curWord c) 56 4 = n) :
    s.movSignal c k = (s.signalled c k (n % 2) (n / 2 % 2) (n / 4 % 2) (n / 8 % 2)).skip c 1 := by
  have hflag : bits64 (s.curWord c) 56 1 = n % 2 := by
    rw [← hn, bits64_bit _ 56 (show 0 < 4 by decide), pow_zero, Nat.div_one]
  have hcode : bits64 (s.curWord c) 57 1 = n / 2 % 2 := hn ▸ bits64_bit _ 56 (show 1 < 4 by decide)
  have hevent : bits64 (s.curWord c) 58 1 = n / 4 % 2 := hn ▸ bits64_bit _ 56 (show 2 < 4 by decide)
  have hrecord : bits64 (s.curWord c) 59 1 = n / 8 % 2 := hn ▸ bits64_bit _ 56 (show 3 < 4 by decide)
  rw [State.movSignal_runs h, hflag, hcode, hevent, hrecord]

/-! ### HALT, NOP and the words that abort (R275, R279, R280) -/

/-- A NOP goes on to the next word. -/
theorem State.movNop_runs (h : s.canRun c .nop = true) : s.movNop c = s.skip c 1 := if_pos h

/-- An illegal word aborts the channel with cause 5 and is reported. -/
theorem State.movIllegal_aborts (h : s.canRun c .illegal = true) :
    s.movIllegal c k = (s.abortAfter c 5 0 k).raiseFault (0x30 + c) 2 7 0 := if_pos h

/-- A HALT whose record finds the channel's slot free idles the channel, which frees the port. -/
theorem State.movHalt_recorded (h : s.canRun c .halt = true)
    (hb : ((s.produce (s.movRec c 0 0 (bits64 (s.curWord c) 0 32) k)).chan c).blocked = none) : s.movHalt c k =
      ((s.produce (s.movRec c 0 0 (bits64 (s.curWord c) 0 32) k)).put (MOV_STAT_STATE c) 0).freePort c :=
  (if_pos h).trans (if_neg (by simp [hb]))

/-- A fetch out of range aborts the channel with cause 6. -/
theorem State.movPcRange_aborts (hc : c < 32) (hr : s.chanReady c = true) (hi : s.nextInstr c = none)
    (hp : s.hasPort c = true) : s.movPcRange c k = s.abortAfter c 6 0 k := if_pos (by simp [hc, hr, hi, hp])

/-- A fetch of an uncorrectable word aborts the channel with cause 8 and raises PM_UE. -/
theorem State.movPmUe_aborts (hc : c < 32) (hr : s.chanReady c = true) (hp : s.hasPort c = true) :
    s.movPmUe c k = (s.abortAfter c 8 0 k).raiseFaultAt (0x30 + c) 0 7 0 k false := if_pos (by simp [hc, hr, hp])

/-! ### WAIT and its end (R288, R289) -/

/-- On a channel that stands at it, a WAIT waits from now on, for events that are still to come. -/
theorem State.movWait_runs (h : s.canRun c .wait = true) : s.movWait c =
    (let t := (s.setChan c { s.chan c with waitAt := s.now }).put (MOV_STAT_STATE c) 2
     t.setMov { t.mov with events := t.mov.events.filter (fun e => decide (e.1 ≠ c)) }) := if_pos h

/-- A WAIT whose word says so clears the flag it waited for. -/
def State.waitFlagCleared (s : State) (c : Nat) : State :=
  if bits64 (s.curWord c) 56 4 = 3 ∧ bits64 (s.curWord c) 39 1 = 1 then
    s.put MVG_FLAGS_FLAGS (s.get MVG_FLAGS_FLAGS - 2 ^ bits64 (s.curWord c) 40 5)
  else s

/-- After a WAIT the channel forgets the events it heard of and runs on. -/
def State.waitLeft (t : State) (c : Nat) : State :=
  ((t.setMov { t.mov with events := t.mov.events.filter (fun e => decide (e.1 ≠ c)) }).put (MOV_STAT_STATE c) 1).skip c 1

/-- A WAIT whose condition holds before its timeout goes on. -/
theorem State.waitEnd_holds (hw : s.waits c = true) (hh : s.waitHolds c = true) (he : s.waitExpired c = false) :
    s.waitEnd c = (s.waitFlagCleared c).waitLeft c := by
  unfold State.waitEnd
  rw [if_pos (Bool.and_eq_true_iff.mpr ⟨hw, hh⟩), he]
  rfl

/-- A WAIT for anything but a flag clears none. -/
theorem State.waitFlagCleared_other (h : bits64 (s.curWord c) 56 4 ≠ 3) : s.waitFlagCleared c = s :=
  if_neg fun hf => h hf.1

/-- A WAIT for a flag clears it where bit 39 is set. -/
theorem State.waitFlagCleared_flag (h : bits64 (s.curWord c) 56 4 = 3) : s.waitFlagCleared c =
    if bits64 (s.curWord c) 39 1 = 1 then s.put MVG_FLAGS_FLAGS (s.get MVG_FLAGS_FLAGS - 2 ^ bits64 (s.curWord c) 40 5)
    else s := by
  unfold State.waitFlagCleared
  simp only [h, true_and]

/-- A WAIT whose timeout passes without its condition aborts the channel with cause 7. -/
theorem State.waitTimeout_aborts (hw : s.waits c = true) (he : s.waitExpired c = true) (hh : s.waitHolds c = false) :
    s.waitTimeout c k = s.abortAfter c 7 0 k := if_pos (by simp [hw, he, hh])

end Sys2Proof.Machine

namespace Sys2Proof.Settled

open Sys2Proof.Machine

/-- Settles O41: each word on the channel that stands at it, SIGNAL by the bits of its acts, and a transfer and a WAIT by how they
end. -/
theorem moverPrograms : Obligations.MoverPrograms := by
  refine ⟨?_, ?_, ?_, ?_, ?_, ?_, ?_, ?_, ?_, ?_, ?_, ?_, ?_, ?_, ?_, ?_, ?_, ?_, ?_⟩
  · intro s c h
    exact congrArg Host.Outcome.next (State.beginXfer_runs h)
  · intro s c h
    exact congrArg Host.Outcome.next (State.beginXfer_runs h)
  · rintro s c _ _ _ h rfl rfl rfl hn
    exact congrArg Host.Outcome.next (State.movLoop_jumps h hn)
  · rintro s c _ h rfl hone
    have hzero := State.loopCount_last hone
    have hends := State.movLoop_ends h hzero
    rw [hzero] at hends
    exact congrArg Host.Outcome.next hends
  · rintro s c _ h rfl
    exact congrArg Host.Outcome.next (State.movWait_runs h)
  · intro s c k h hb
    exact congrArg Host.Outcome.next (State.movSignal_acts h hb)
  · intro s c k h hb
    exact congrArg Host.Outcome.next (State.movSignal_acts h hb)
  · intro s c k h hb
    exact congrArg Host.Outcome.next (State.movSignal_acts h hb)
  · rintro s c k _ _ _ _ h rfl rfl rfl rfl
    exact congrArg Host.Outcome.next (State.movSignal_runs h)
  · rintro s c k _ h rfl hb
    exact congrArg Host.Outcome.next (State.movHalt_recorded h hb)
  · intro s c h
    exact congrArg Host.Outcome.next (State.movNop_runs h)
  · intro s c k h
    exact congrArg Host.Outcome.next (State.movIllegal_aborts h)
  · intro s c k hc hr hi hp
    exact congrArg Host.Outcome.next (State.movPcRange_aborts hc hr hi hp)
  · intro s c k hc hr hp
    exact congrArg Host.Outcome.next (State.movPmUe_aborts hc hr hp)
  · rintro s c y w v _ hcur hg herr hissued rfl
    exact congrArg Host.Outcome.next (State.transferDone_whole hcur hg herr hissued)
  · intro s c hit y h
    exact congrArg Host.Outcome.next (State.transferDone_none h _)
  · intro s c hw hh hkind he
    have hends := State.waitEnd_holds hw hh he
    rw [State.waitFlagCleared_other hkind] at hends
    exact congrArg Host.Outcome.next hends
  · rintro s c _ hw hh hkind he rfl
    have hends := State.waitEnd_holds hw hh he
    rw [State.waitFlagCleared_flag hkind] at hends
    exact congrArg Host.Outcome.next hends
  · intro s c k hw he hh
    exact congrArg Host.Outcome.next (State.waitTimeout_aborts hw he hh)

end Sys2Proof.Settled
end

section
/-! SUPPORT. What a CXL.mem write that nothing holds up leaves in DRAM, byte by byte (R311, R313, R320, R321). -/

namespace Sys2Proof.Machine

variable {s : State}

/-- What a line holds after a write over it: the line written, or the enabled bytes merged into the old one, whose poison and
uncorrectable errors stay as poison (R311, R313, R321). -/
def Line.overwritten (old : Line) (data : LineData) (be : BitVec 64) (poison : Bool) : Line :=
  if be = BitVec.allOnes 64 then ⟨data, poison, false⟩ else ⟨mergeBytes be old.data data, poison || old.poison || old.ue, false⟩

/-- The bytes that the write enables are new, the others stay. -/
theorem Line.lineByte_overwritten (old : Line) (data : LineData) (be : BitVec 64) (poison : Bool) {k : Nat} (hk : k < 64) :
    lineByte (old.overwritten data be poison).data k = if be.getLsbD k then lineByte data k else lineByte old.data k := by
  unfold Line.overwritten
  split
  · next hwhole => rw [hwhole, BitVec.getLsbD_allOnes, if_pos (decide_eq_true hk)]
  · exact mergeBytes_byte be old.data data k hk

/-- A line just written is correctable. -/
theorem Line.ue_overwritten (old : Line) (data : LineData) (be : BitVec 64) (poison : Bool) :
    (old.overwritten data be poison).ue = false := by
  unfold Line.overwritten
  split <;> rfl

/-- A write poisons its line with its own poison, and a partial one with what it merges into. -/
theorem Line.poison_overwritten (old : Line) (data : LineData) (be : BitVec 64) (poison : Bool) :
    (old.overwritten data be poison).poison =
      (poison || (decide (be ≠ BitVec.allOnes 64) && (old.poison || old.ue))) := by
  unfold Line.overwritten
  split
  · next hwhole => simp [hwhole]
  · next hpart => rw [decide_eq_true hpart, Bool.true_and, Bool.or_assoc]

/-- The line access of a write changes the line it is for, and DRAM nowhere else. -/
theorem State.dram_storeLine (s : State) (cls : DramClass) (line hint : Nat) (data : LineData) (be : BitVec 64) (poison : Bool) :
    (s.storeLine cls line hint data be poison).dram =
      (s.setLine line ((s.dramLine line).overwritten data be poison)).dram := by
  unfold State.storeLine Line.overwritten
  split
  · have hwrite := State.drcWrite_touches (m := 0x400022) (touches_refl _ s) (by decide) cls line hint
    exact congrArg (Sparse.set _ · line _) (hwrite.frame .dram (by decide))
  · have hread := State.drcRead_touches (m := 0x400022) (touches_refl _ s) (by decide) cls line 0
    have hwrite := State.drcWrite_touches hread (by decide) cls line hint
    have hcount := State.bump_touches hwrite (by decide) (DRC_RMW_COUNT (drcOf line))
    exact congrArg (Sparse.set _ · line _) (hcount.frame .dram (by decide))

/-- What a line holds after a write to a line. -/
theorem State.dramLine_setLine (hs : s.Canon) (line : Nat) (v : Line) (l : Nat) :
    (s.setLine line v).dramLine l = if l = line then v else s.dramLine l := by
  have hwf := hs.dram
  rw [Sparse.wf, Bool.and_eq_true] at hwf
  split
  · next h => exact h ▸ Sparse.get_set_same_from s.dram 0 line v hwf.1
  · next h => exact Sparse.get_set_other s.dram line l v h

/-- A write that nothing holds up writes its line over, and leaves DRAM as it is elsewhere. -/
theorem State.dram_served_write (s : State) (n line tag : Nat) (data : LineData) (be : BitVec 64) (poison : Bool) :
    (((s.counted (s.writeReq n line tag data be poison)).hostWrite (s.writeReq n line tag data be poison)).refreshHlk).dram =
      (s.setLine line ((s.dramLine line).overwritten data be poison)).dram := by
  generalize hq : s.writeReq n line tag data be poison = q
  have hcounted := State.counted_touches (m := 0xC020CC22) (by decide) s q
  have htouched : ((s.counted q).touch (line / 1024)).dram = s.dram :=
    (State.touch_touches hcounted (by decide) (line / 1024)).frame .dram (by decide)
  have hrefresh := (State.refreshHlk_touches (m := 0x80204C02) (touches_refl _ ((s.counted q).hostWrite q)) (by decide)).frame
    .dram (by decide)
  calc (((s.counted q).hostWrite q).refreshHlk).dram
    _ = ((s.counted q).hostWrite q).dram := hrefresh
    _ = (((s.counted q).touch (line / 1024)).storeLine .host line q.hint data be poison).dram := by
      rw [State.dram_hostWrite, ← hq]
      rfl
    _ = (s.setLine line ((s.dramLine line).overwritten data be poison)).dram := by
      rw [State.dram_storeLine]
      unfold State.setLine State.dramLine
      rw [htouched]

/-- What each line holds after a write that nothing holds up. -/
theorem State.dramLine_served (hs : s.Canon) (n line tag : Nat) (data : LineData) (be : BitVec 64) (poison : Bool)
    (l : Nat) : (((s.counted (s.writeReq n line tag data be poison)).hostWrite
      (s.writeReq n line tag data be poison)).refreshHlk).dramLine l =
      if l = line then (s.dramLine line).overwritten data be poison else s.dramLine l :=
  (congrArg (Sparse.get _ · l) (s.dram_served_write n line tag data be poison)).trans (State.dramLine_setLine hs line _ l)

end Sys2Proof.Machine

namespace Sys2Proof.Settled

open Sys2Proof.Machine

/-- Settles O10: the write is served at once, and writes its own line over. -/
theorem cxlWriteMemory : Obligations.CxlWriteMemory := by
  intro s n line tag data be poison hs hl h
  have hlines := State.dramLine_served hs n line tag data be poison
  have hline := (hlines line).trans (if_pos rfl)
  refine ⟨_, exec_cxlMemWrite_served tag data be poison hl h, fun l hne => (hlines l).trans (if_neg hne), ?_⟩
  rw [hline]
  exact ⟨fun k hk => Line.lineByte_overwritten _ data be poison hk, Line.ue_overwritten _ data be poison,
    Line.poison_overwritten _ data be poison⟩

end Sys2Proof.Settled
end

section
/-! SUPPORT. The DRAM controllers and the training unit (R309, R314 to R316, R320 to R327, R335): how a line read ends, when a line is
repaired, what refresh and power-down do, how a subchannel comes through alerts and retraining, and the training commands. -/

namespace Sys2Proof.Machine

variable {s u : State} {p : Port} {d : Word} {line n sc l : Nat} {r : Requester} {o : ReadOutcome}

/-! ### The end of a line read (R320 to R324) -/

/-- A clean read changes nothing. -/
theorem State.dramReadDone_clean (h : s.outcomeOf line o = .clean) : s.dramReadDone line r o n = s := by
  unfold State.dramReadDone
  split
  · rfl
  · rw [h]

/-- An uncorrectable read is handled by requester (R323). -/
theorem State.dramReadDone_ue (hr : r ≠ .dtrn) (h : s.outcomeOf line o = .ue) :
    s.dramReadDone line r o n = s.readUe line r n := by
  rw [State.dramReadDone, if_neg hr, h]

/-- A poisoned read of anything but a record of PERS loses no record (R95, R323). -/
theorem State.dramReadDone_poison (hr : r ≠ .dtrn) (hp : r ≠ .pers) (h : s.outcomeOf line o = .poison) :
    s.dramReadDone line r o n = s.readPoison line r := by
  rw [State.dramReadDone, if_neg hr, h]
  exact if_neg hp

/-- A corrected read is handled with the symbols it corrected (R320, R322, R324). -/
theorem State.dramReadDone_corrected {k : List Nat} {w : Bool} (hr : r ≠ .dtrn) (h : s.outcomeOf line o = .corrected k w) :
    s.dramReadDone line r o n = s.readCorrected line r k w := by
  rw [State.dramReadDone, if_neg hr, h]

/-! ### Repairs (R325) -/

/-- The repair of a line whose islet has a copy, or is all zeros, is written. -/
theorem State.repairWrite_done (h : s.drc.repairs.contains line = true)
    (hst : (s.recOf (line / 1024)).st = .durable ∨ (s.recOf (line / 1024)).st = .zero) : s.repairWrite line =
      (((s.setDrc { s.drc with repairs := dropNat s.drc.repairs line }).drcWrite .free line 2).setLine line
        (s.repairLine line)).bump (DSC_REPAIR_DONE (dscOf line)) :=
  (if_pos h).trans (if_pos hst)

/-- The repair of a line whose islet has changed since is dropped. -/
theorem State.repairWrite_dropped (h : s.drc.repairs.contains line = true)
    (hst : ¬ ((s.recOf (line / 1024)).st = .durable ∨ (s.recOf (line / 1024)).st = .zero)) : s.repairWrite line =
      (s.setDrc { s.drc with repairs := dropNat s.drc.repairs line }).bump (DSC_REPAIR_DROPPED (dscOf line)) :=
  (if_pos h).trans (if_neg hst)

/-! ### Refresh (R314, R315, R326) -/

/-- A stopped subchannel owes the refresh (R326). -/
theorem State.refreshDue_stopped (hr : s.drc.retraining.contains sc = false) (hs : s.drc.stopped.contains sc = true)
    (held : Bool) : s.refreshDue sc l held = s.setOwed sc l (s.owedBy sc l + 1) := by
  unfold State.refreshDue
  rw [hr, hs]
  rfl

/-- Below the limit the refresh of a rank with work is postponed (R315). -/
theorem State.refreshDue_postponed (hr : s.drc.retraining.contains sc = false) (hs : s.drc.stopped.contains sc = false)
    (hp : s.cfgOn (DRC_REF_POSTPONE_EN (sc / 2)) = true) (hl : s.owedBy sc l + 1 ≤ s.oweLimit (sc / 2)) :
    s.refreshDue sc l true =
      (let t := (s.setOwed sc l (s.owedBy sc l + 1)).bump (DRC_REF_PP_COUNT (sc / 2))
       t.put (DRC_STAT_DEBT_MAX (sc / 2)) (max (t.get (DRC_STAT_DEBT_MAX (sc / 2))) (s.owedBy sc l + 1))) := by
  unfold State.refreshDue
  simp only [hr, hs, hp, Bool.true_or, Bool.true_and, Bool.false_eq_true, if_false]
  exact if_pos (decide_eq_true hl)

/-- At the limit the refresh is forced, with all that the rank owes (R315). -/
theorem State.refreshDue_forced (hr : s.drc.retraining.contains sc = false) (hs : s.drc.stopped.contains sc = false)
    (hp : s.cfgOn (DRC_REF_POSTPONE_EN (sc / 2)) = true) (hl : s.oweLimit (sc / 2) ≤ s.owedBy sc l) :
    s.refreshDue sc l true = (s.payRank sc l).bump (DRC_REF_FORCED_COUNT (sc / 2)) := by
  have hlimit : ¬ s.owedBy sc l + 1 ≤ s.oweLimit (sc / 2) := by omega
  unfold State.refreshDue
  simp only [hr, hs, hp, hlimit, Bool.true_or, Bool.true_and, decide_false, Bool.false_eq_true, if_false, if_true]

/-- A rank with no work is refreshed as its refresh falls due (R314). -/
theorem State.refreshDue_idle (hr : s.drc.retraining.contains sc = false) (hs : s.drc.stopped.contains sc = false)
    (hq : s.rankQueued sc l = false) : s.refreshDue sc l false = s.payRank sc l := by
  unfold State.refreshDue
  rw [hr, hs, hq]
  rfl

/-! ### Power-down and idle rows (R309, R316) -/

/-- A rank that owes nothing and has no work enters power-down, which closes its rows (R316). -/
theorem State.powerDown_idle {c k : Nat} (he : s.cfgOn (DRC_PD_EN c) = true) (hs : s.saving = false) (hk : k < 2)
    (hup : bitOf (s.get (DRC_STAT_PD_RANKS c)) k = false)
    (hidle : (s.ranksOf c k).all (fun e => decide (s.owedBy e.1 e.2 = 0) && !s.rankQueued e.1 e.2) = true) :
    s.powerDown c k false = ((s.ranksOf c k).foldl (fun (t : State) e => t.closeRank e.1 e.2)
      (s.put (DRC_STAT_PD_RANKS c) (s.get (DRC_STAT_PD_RANKS c) + 2 ^ k))).bump (DRC_PD_ENTRY_COUNT c) := by
  unfold State.powerDown
  rw [he, hs, decide_eq_true hk, hup, hidle]
  rfl

/-- The meaning of ROW_IDLE_CLOSE: a row that a queued request wants stays open (R309). -/
theorem exec_rowIdleClose (b : Nat) (s : State) :
    exec (.rowIdleClose b) s = .next (if s.bankHit b then s else s.closeBank b) := rfl

/-! ### Alerts and retraining (R326, R327) -/

/-- The alerts of this pass, with one more of a subchannel (R326). -/
def State.alertsWith (s : State) (sc : Nat) : List (Nat × Nat) :=
  s.drc.alerts.filter (fun e => decide (e.2 = s.now)) ++ [(sc, s.now)]

/-- An alert stops its subchannel and is reported (R326). -/
def State.alerted (s : State) (sc : Nat) : State :=
  ((s.setDrc { s.drc with alerts := s.alertsWith sc, stopped := insertNat s.drc.stopped sc }).raiseInt
    (0x50 + 4 * (sc / 2)) 0).raiseFault (0x50 + 4 * (sc / 2)) 1 7 0

/-- An alert that is not the third of its subchannel in one pass only stops it. -/
theorem State.caAlert_single (h : ((s.alertsWith sc).filter (fun e => decide (e.1 = sc))).length ≠ 3) :
    s.caAlert sc = s.alerted sc := if_neg h

/-- The third alert in one pass is a storm. -/
theorem State.caAlert_storm (h : ((s.alertsWith sc).filter (fun e => decide (e.1 = sc))).length = 3) :
    s.caAlert sc = ((s.alerted sc).setDrc { (s.alerted sc).drc with
      storm := insertNat (s.alerted sc).drc.storm sc }).raiseFault (0x50 + 4 * (sc / 2)) 2 7 0 := if_pos h

/-- The end of an alert serves the queue of its subchannel (R326). -/
theorem State.caClear_serves (h : s.drc.stopped.contains sc = true) (hs : s.drc.storm.contains sc = false) :
    s.caClear sc = (s.setDrc { s.drc with stopped := dropNat s.drc.stopped sc }).drainQueue sc :=
  (if_pos h).trans (if_neg fun hc => Bool.eq_false_iff.mp hs (Bool.and_eq_true_iff.mp hc).1)

/-- The end of a storm outside a save begins a retraining, in which the ranks refresh themselves (R327). -/
theorem State.caClear_retrains (h : s.drc.stopped.contains sc = true) (hstorm : s.drc.storm.contains sc = true)
    (hs : s.saving = false) : s.caClear sc =
      (let u := (List.range 16).foldl (fun (u : State) l => (u.setOwed sc l 0).closeRank sc l)
         (s.setDrc { s.drc with stopped := dropNat s.drc.stopped sc })
       u.setDrc { u.drc with storm := dropNat u.drc.storm sc, retraining := insertNat u.drc.retraining sc }) :=
  (if_pos h).trans (if_pos (Bool.and_eq_true_iff.mpr ⟨hstorm, congrArg not hs⟩))

/-- A retraining that ends serves the queue, and one without its margin is reported (R327). -/
theorem State.retrainDone_ends (h : s.drc.retraining.contains sc = true) (margin : Bool) : s.retrainDone sc margin =
    (let t := (s.setDrc { s.drc with retraining := dropNat s.drc.retraining sc }).drainQueue sc
     if margin then t else t.raiseInt (0x50 + 4 * (sc / 2)) 1) :=
  if_pos h

/-! ### The training unit (R335) -/

/-- A write of DTRN_CMD starts and stops by its bits 0 and 1. -/
theorem State.written_dtrnCmd {a : Nat} (ha : a = 0x58040) : u.written s p a d =
    (let t := if bitOf d.toNat 0 then u.dtrnGo else u
     if bitOf d.toNat 1 then t.dtrnHalt else t) := by
  have hf : ∀ f ∈ features, f.enable.addr ≠ a := ha ▸ by decide
  unfold State.written
  simp only [State.enableFeatures_none hf]
  repeat rw [if_neg (by omega)]
  rw [if_pos ha]

/-- A write of DTRN_CMD that its page accepts. -/
theorem State.portWord_dtrnCmd (h : s.accepted p 0x58040 d = some u) : s.portWord p 0x58040 d =
    (let t := if bitOf d.toNat 0 then u.dtrnGo else u
     if bitOf d.toNat 1 then t.dtrnHalt else t).refreshArmed := by
  rw [State.portWord_of_accepted h (.inl (by decide)) (by decide) (.inl (by decide)), State.written_dtrnCmd rfl]

/-- GO alone starts. -/
theorem State.portWord_dtrnGo (h : s.accepted p 0x58040 d = some u) (hgo : bitOf d.toNat 0 = true)
    (hstop : bitOf d.toNat 1 = false) : s.portWord p 0x58040 d = u.dtrnGo.refreshArmed := by
  rw [State.portWord_dtrnCmd h, hgo, hstop]
  rfl

/-- STOP alone stops. -/
theorem State.portWord_dtrnStop (h : s.accepted p 0x58040 d = some u) (hgo : bitOf d.toNat 0 = false)
    (hstop : bitOf d.toNat 1 = true) : s.portWord p 0x58040 d = u.dtrnHalt.refreshArmed := by
  rw [State.portWord_dtrnCmd h, hgo, hstop]
  rfl

/-- A training operation that compares ends with the lanes and the bits it found. -/
theorem State.dtrnDone_compared (hb : s.flag DTRN_STAT_BUSY = true) (hop : s.get DTRN_CMD_OP ≠ 0) (lanes bits : Nat) :
    s.dtrnDone lanes bits =
      (let t := ((s.put DTRN_STAT_BUSY 0).put DTRN_STAT_DONE 1).setDrc { s.drc with dtrnStop := false }
       (((t.put DTRN_LANE0_ERR (lanes % 2 ^ 32)).put DTRN_LANE1_ERR (lanes / 2 ^ 32 % 256)).put DTRN_BITERR_COUNT
         (min bits (2 ^ 32 - 1))).raiseInt 0x58 0) :=
  (if_pos hb).trans (congrArg (State.raiseInt · 0x58 0) (if_neg hop))

end Sys2Proof.Machine

namespace Sys2Proof.Settled

open Sys2Proof.Machine

/-- Settles O42: a read by its outcome, refresh and power-down by what the rank owes and wants, a subchannel by its alerts, and the
training unit by the bits of its command. -/
theorem dramCommands : Obligations.DramCommands := by
  refine ⟨?_, ?_, ?_, ?_, ?_, ?_, ?_, ?_, ?_, ?_, ?_, ?_, ?_, ?_, ?_, ?_, ?_, ?_, ?_, ?_, ?_, ?_⟩
  · intro s line n r o h
    exact congrArg Host.Outcome.next (State.dramReadDone_clean h)
  · intro s line n r o hr h
    exact congrArg Host.Outcome.next (State.dramReadDone_ue hr h)
  · intro s line n r o hr hp h
    exact congrArg Host.Outcome.next (State.dramReadDone_poison hr hp h)
  · intro s line n r o k w hr h
    exact congrArg Host.Outcome.next (State.dramReadDone_corrected hr h)
  · intro s line h hst
    exact congrArg Host.Outcome.next (State.repairWrite_done h hst)
  · intro s line h hdurable hzero
    exact congrArg Host.Outcome.next (State.repairWrite_dropped h (not_or.mpr ⟨hdurable, hzero⟩))
  · rintro s sc l _ hr hs hp hl rfl
    exact congrArg Host.Outcome.next (State.refreshDue_postponed hr hs hp hl)
  · intro s sc l hr hs hp hl
    exact congrArg Host.Outcome.next (State.refreshDue_forced hr hs hp hl)
  · intro s sc l held hr hs
    exact congrArg Host.Outcome.next (State.refreshDue_stopped hr hs held)
  · intro s sc l hr hs hq
    exact congrArg Host.Outcome.next (State.refreshDue_idle hr hs hq)
  · intro s d b
    rfl
  · intro s d r he hs hr hup hidle
    exact congrArg Host.Outcome.next (State.powerDown_idle he hs hr hup hidle)
  · intro s b h
    rw [exec_rowIdleClose, h]
    rfl
  · intro s b h
    rw [exec_rowIdleClose, if_pos h]
  · rintro s sc _ rfl h
    exact congrArg Host.Outcome.next (State.caAlert_single h)
  · rintro s sc _ _ rfl h rfl
    exact congrArg Host.Outcome.next (State.caAlert_storm h)
  · intro s sc h hs
    exact congrArg Host.Outcome.next (State.caClear_serves h hs)
  · rintro s sc _ h hstorm hs rfl
    exact congrArg Host.Outcome.next (State.caClear_retrains h hstorm hs)
  · intro s sc m h
    exact congrArg Host.Outcome.next (State.retrainDone_ends h m)
  · rintro s p _ u rfl h hgo hstop
    exact congrArg Host.Outcome.next (State.portWord_dtrnGo h hgo hstop)
  · rintro s p _ u rfl h hgo hstop
    exact congrArg Host.Outcome.next (State.portWord_dtrnStop h hgo hstop)
  · rintro s lanes n _ hb hop rfl
    exact congrArg Host.Outcome.next (State.dtrnDone_compared hb hop lanes n)

end Sys2Proof.Settled
end

section
/-! SUPPORT. The mailbox (R342, R349, R351, R353 to R355, R359 to R362): how a command is served, and what each reply is in the cases
that the statements name. -/

namespace Sys2Proof.Machine

variable {s : State} {a n : Nat}

/-! ### Serving a command (R352, R353) -/

/-- The mailbox serves a command: it is open and no Glen core restarts (R353, R587). -/
structure State.Serves (s : State) : Prop where
  isOpen : s.mailboxOpen = true
  running : (List.range 4).any (fun k => decide (s.get (GLC_STAT_STATE k) = 2)) = false

/-- A command that is served takes effect and completes with the code and the payload of its reply (R353, R362). -/
theorem State.mailbox_serves {f : State → Reply} {t : State} {c : Nat} {p : List (BitVec 8)} (hs : s.Serves)
    (h : f s = (t, c, p)) : s.mailbox f = (t.send (.mailbox c p)).vector0 := by
  unfold State.mailbox
  rw [if_neg (not_not.mpr hs.isOpen), if_neg (Bool.eq_false_iff.mp hs.running), h]

/-! ### Event records and interrupts (R361, R362) -/

/-- What Get Event Records returns of log `l`: the flags, the overflow, and as many records as the payload holds (R361). -/
def State.eventsPayload (s : State) (l : Nat) : List (BitVec 8) :=
  let all := s.cxlLog l
  let o := Sparse.get (fun _ => ((0, 0, 0) : Nat × Nat × Nat)) s.mbox.overflow l
  byte (b2n (decide (0 < o.1)) + 2 * b2n (decide (31 < all.length))) ++ pad 1 ++ leBytes 2 (min o.1 0xFFFF)
    ++ leBytes 8 o.2.1 ++ leBytes 8 o.2.2 ++ leBytes 2 (min all.length 31) ++ pad 10
    ++ (all.take 31).flatMap (fun e => e.bytes s.free)

/-- One of the four logs is read (R361). -/
theorem State.getEvents_listed {l : Nat} (hl : l < 4) : s.getEvents l = s.drawn.success (s.eventsPayload l) :=
  if_neg (Nat.not_le.mpr hl)

/-- The oldest records, named in order, leave the log (R361). -/
theorem State.clearEvents_oldest {l : Nat} {handles : List Nat} (hl : l < 4) (hne : handles ≠ [])
    (h : ((s.cxlLog l).take handles.length).map (fun e => e.handle % 65536) = handles) :
    s.clearEvents l false handles = (s.keepEvents l ((s.cxlLog l).drop handles.length)).success [] :=
  (if_neg (Nat.not_le.mpr hl)).trans ((if_neg Bool.false_ne_true).trans (if_pos ⟨hne, h⟩))

/-- All records of a log that has overflowed leave it (R361). -/
theorem State.clearEvents_overflowed {l : Nat} (hl : l < 4)
    (h : (Sparse.get (fun _ => ((0, 0, 0) : Nat × Nat × Nat)) s.mbox.overflow l).1 ≠ 0) (handles : List Nat) :
    s.clearEvents l true handles = (s.keepEvents l []).success [] :=
  (if_neg (Nat.not_le.mpr hl)).trans ((if_pos rfl).trans (if_neg h))

/-- A mode of no interrupt or MSI-X for each of the four logs is kept (R362). -/
theorem State.setPolicy_kept {m : List Nat} (hlen : m.length = 4) (h : m.all (fun m => decide (m < 2)) = true) :
    s.setPolicy m = (s.setMbox { s.mbox with policy := m }).success [] := if_pos ⟨hlen, h⟩

/-! ### The log, the identity and the alert configuration (R342, R353) -/

/-- A span of the Command Effects Log is read (R353). -/
theorem State.getLog_within {o : Nat} (ho : o + n ≤ effectsLog.length) (hn : n ≤ 4096) :
    s.getLog effectsUuid o n = s.success ((effectsLog.drop o).take n) := if_pos ⟨rfl, ho, hn⟩

/-- Another log, or a span that the log or the payload does not hold, is refused (R353). -/
theorem State.getLog_refused {u : List (BitVec 8)} {o : Nat}
    (h : u ≠ effectsUuid ∨ effectsLog.length < o + n ∨ 4096 < n) : s.getLog u o n = s.refuse 2 := by
  refine if_neg ?_
  rintro ⟨hu, ho, hn⟩
  rcases h with hu' | ho' | hn'
  · exact hu' hu
  · exact Nat.not_lt.mpr ho ho'
  · exact Nat.not_lt.mpr hn hn'

/-- Once detection has ended the identity is read (R342). -/
theorem State.identify_detected (h : 2 ≤ s.get RSTR_STAT_PHASE) : s.identify = s.drawn.success s.identify.2.2 := by
  unfold State.identify
  rw [if_neg (Nat.not_lt.mpr h)]
  rfl

/-- Until then the controller is busy (R342). -/
theorem State.identify_busy (h : s.get RSTR_STAT_PHASE < 2) : s.identify = s.refuse 6 := if_pos h

/-- A configuration of CXL's 12 bytes is kept (R353). -/
theorem State.setAlert_kept {c : List (BitVec 8)} (h : c.length = 12) :
    s.setAlert c = (s.setMbox { s.mbox with alert := c }).success [] := if_pos h

/-! ### Poison (R349) -/

/-- What Get Poison List returns of the records that are left, where they fit one payload: the overflow and the records (R349). -/
def State.poisonPayload (s : State) (rest : List (Nat × Nat × Nat)) : List (BitVec 8) :=
  byte (2 * b2n s.mbox.poisonOverflow.isSome) ++ pad 1 ++ leBytes 8 (s.mbox.poisonOverflow.getD 0)
    ++ leBytes 2 (min rest.length 256) ++ pad 20
    ++ (rest.take 256).flatMap (fun r => leBytes 8 (r.1 * 64 + r.2.2 + 1) ++ leBytes 4 r.2.1 ++ pad 4)

/-- The last records of the list end its walk (R349). -/
theorem State.getPoison_last {rest : List (Nat × Nat × Nat)} (hm : s.mbox.mediaOff = false) (ha : a % 64 = 0)
    (hn : a + n ≤ s.mdl.hostLines * 64) (hr : rest = ((s.poisonIn a n).take 4096).drop s.mbox.poisonAt)
    (hlast : rest.length ≤ 256) :
    s.getPoison a n = (s.setMbox { s.mbox with poisonAt := 0 }).success (s.poisonPayload rest) := by
  unfold State.getPoison
  rw [if_neg (Bool.eq_false_iff.mp hm), if_neg (not_or.mpr ⟨not_not.mpr ha, Nat.not_lt.mpr hn⟩), ← hr]
  have hmore : decide (256 < rest.length) = false := decide_eq_false (Nat.not_lt.mpr hlast)
  have hflag (x : Nat) : b2n false + x = x := Nat.zero_add x
  simp only [hmore, hflag, Bool.false_eq_true, if_false]
  rfl

/-- An injected line is written poisoned, with open data (R349). -/
theorem State.injectPoison_line (hm : s.mbox.mediaOff = false) (ha : s.poisonAddr a = true) :
    s.injectPoison a = (s.drawn.ownWrite (a / 64) (BitVec.ofNat 512 s.free) true).success [] :=
  (if_neg (Bool.eq_false_iff.mp hm)).trans (if_neg (not_not.mpr ha))

/-- A cleared line is written with the supplied data (R349). -/
theorem State.clearPoison_line (hm : s.mbox.mediaOff = false) (ha : s.poisonAddr a = true) (d : LineData) :
    s.clearPoison a d = (s.ownWrite (a / 64) d false).success [] :=
  (if_neg (Bool.eq_false_iff.mp hm)).trans (if_neg (not_not.mpr ha))

/-- An address that names no line of range 1, or memory that is not active, is refused (R349). -/
theorem State.clearPoison_refused (hm : s.mbox.mediaOff = false) (ha : s.poisonAddr a = false) (d : LineData) :
    s.clearPoison a d = s.refuse 2 :=
  (if_neg (Bool.eq_false_iff.mp hm)).trans (if_pos (Bool.eq_false_iff.mp ha))

/-! ### Sanitize and format (R211, R359) -/

/-- No background command runs (R362). -/
theorem State.background_idle (h : s.mbox.background = none) : ¬ s.mbox.background.isSome = true := by simp [h]

/-- The media key's slot is erased and the pending flag stored (R211). -/
def State.sanitizePending (s : State) : State :=
  s.setKept { s.kept with sanitize := true, keys := Sparse.set (fun _ => none) s.kept.keys s.arr.keySlot none }

/-- Sanitize starts and disables the media (R211). -/
theorem State.sanitize_starts (h : s.mbox.background = none) :
    s.sanitize = (s.sanitizePending.setMbox { s.sanitizePending.mbox with background := some 0x4400, mediaOff := true }, 1, []) :=
  if_neg (State.background_idle h)

/-- The erase of Sanitize ends: its flag is cleared (R211). -/
theorem State.sanitizeDone_ends (h : s.mbox.background = some 0x4400) :
    s.sanitizeDone = (s.arrayErased.setKept { s.arrayErased.kept with sanitize := false }).backgroundEnds := if_pos h

/-- Volatile mode with a cause for which the array may be formatted (R359). -/
structure State.Formattable (s : State) : Prop where
  volatile : s.get RSTR_STAT_PHASE = 5
  causeMin : 4 ≤ s.get RSTR_STAT_VOL_CAUSE
  causeMax : s.get RSTR_STAT_VOL_CAUSE ≤ 7

/-- A format for a group of 1 to 8 devices, with a fresh tag (NEW_TAG) or one that is not 0 (R359). -/
structure FormatArgs (flags tag size : Nat) : Prop where
  tagged : flags = 1 ∨ flags = 0 ∧ tag % 2 ^ 32 ≠ 0
  sizeMin : 1 ≤ size
  sizeMax : size ≤ 8

/-- The tag, the size and the pending flag of a format are stored (R359). -/
def State.formatPending (s : State) (flags tag size : Nat) : State :=
  s.setKept { s.kept with format := true, formatTag := if flags = 1 then 0 else tag % 2 ^ 32, formatSize := size }

/-- A confirmed format with valid arguments starts where the array may be formatted (R359). -/
theorem State.format_starts {flags tag size : Nat} (hf : s.Formattable) (ha : FormatArgs flags tag size)
    (hb : s.mbox.background = none) : s.format 0x5A464D54 flags tag size = ((s.formatPending flags tag size).setMbox {
      (s.formatPending flags tag size).mbox with background := some 0xC010 }, 1, []) := by
  obtain ⟨hvolatile, hmin, hmax⟩ := hf
  obtain ⟨htagged, hsize, hsize'⟩ := ha
  exact (if_neg (by omega)).trans ((if_neg (by omega)).trans (if_neg (State.background_idle hb)))

/-- The erase of a format ends (R359). -/
theorem State.formatDone_ends (h : s.mbox.background = some 0xC010) : s.formatDone = s.arrayErased.backgroundEnds := if_pos h

/-! ### Barriers (R354, R355) -/

/-- A post that is refused completes with the code of its refusal (R354). -/
theorem State.barrierPost_refused {tag c : Nat} (hm : s.mbox.mediaOff = false) (hc : s.barRefusal = some c) :
    s.barrierPost tag = (s.postBarrier (tag % 2 ^ 32)).refuse c := by
  unfold State.barrierPost
  rw [if_neg (Bool.eq_false_iff.mp hm), hc]

/-- A post that is accepted returns its sequence number, the open barriers and the epoch (R354). -/
theorem State.barrierPost_accepted {tag : Nat} (hm : s.mbox.mediaOff = false) (hc : s.barRefusal = none) :
    s.barrierPost tag = (s.postBarrier (tag % 2 ^ 32)).success (leBytes 2 s.pers.nextSeq
      ++ byte (s.postBarrier (tag % 2 ^ 32)).pers.barriers.length ++ pad 5 ++ leBytes 8 s.epoch) := by
  unfold State.barrierPost
  rw [if_neg (Bool.eq_false_iff.mp hm), hc]

/-- A barrier that is open answers state 0, with the count it still waits for and its tag (R355). -/
theorem State.barrierStatus_open {q : Nat} {b : Barrier} (hq : q ≠ 0)
    (hb : s.pers.barriers.find? (fun b => decide (b.seq = q)) = some b) : s.barrierStatus q = s.success (leBytes 2 q ++ byte 0
      ++ byte s.pers.barriers.length ++ leBytes 2 (s.get PERS_BAR_STAT_LAST_DONE) ++ pad 2 ++ leBytes 4 (b.count.getD s.res)
      ++ leBytes 4 b.tag) := by
  unfold State.barrierStatus
  simp only [if_neg hq, hb]

/-! ### Keys (R360) -/

/-- The key of a slot that holds one is wrapped for the receiver, with a fresh key pair (R360). -/
theorem State.keyExport_wrapped {r : Nat} {k : KeySlot} (hp : s.protLevel ≠ 2)
    (hk : Sparse.get (fun _ => none) s.kept.keys n = some k) (hn : n < 8) :
    s.keyExport n r = (s.setMbox { s.mbox with sessions := s.mbox.sessions + 1 }).success
      (leBytes 97 (Config.sessionPublicKey s.mbox.sessions) ++ leBytes 4 k.keyId
        ++ leBytes 72 (Config.wrapKey (Config.kekUnwrap k.key) r)) := by
  unfold State.keyExport
  rw [if_neg hp, hk]
  exact if_neg (Nat.not_le.mpr hn)

/-- A key that does not unwrap ends the session without effect (R360). -/
theorem State.keyImport_unknown {k w : Nat} {t : State} (hs : s.mbox.session = some n) (hu : Config.unwrapKey n a w = none)
    (ht : t = s.setMbox { s.mbox with session := none }) : s.keyImport a k w = t.refuse 2 := by
  subst ht
  unfold State.keyImport
  simp only [hs, hu]

/-- A key that unwraps goes to the first free slot, wrapped under the controller's own key, and ends the session (R210, R360). -/
theorem State.keyImport_stored {k w i x : Nat} {t : State} (hs : s.mbox.session = some n)
    (hu : Config.unwrapKey n a w = some x)
    (hi : (List.range 8).find? (fun i => (Sparse.get (fun _ => none) s.kept.keys i).isNone) = some i)
    (ht : t = s.setMbox { s.mbox with session := none }) :
    s.keyImport a k w = (t.setKept { t.kept with
      keys := Sparse.set (fun _ => none) t.kept.keys i (some ⟨k % 2 ^ 32, Config.kekWrap x⟩) }).success
        (byte i ++ leBytes 4 k) := by
  subst ht
  unfold State.keyImport
  simp only [hs, hu, hi]

end Sys2Proof.Machine

namespace Sys2Proof.Settled

open Sys2Proof.Machine

/-- Settles O44: each command is served with the reply that its operands and the state call for. -/
theorem mailboxStandard : Obligations.MailboxStandard := by
  refine ⟨?_, ?_, ?_, ?_, ?_, ?_, ?_, ?_, ?_, ?_, ?_, ?_, ?_, ?_, ?_, ?_, ?_, ?_, ?_⟩
  · intro s l ho hg hl
    exact congrArg Host.Outcome.next (State.mailbox_serves ⟨ho, hg⟩ (State.getEvents_listed hl))
  · intro s l handles ho hg hl hne h
    exact congrArg Host.Outcome.next (State.mailbox_serves ⟨ho, hg⟩ (State.clearEvents_oldest hl hne h))
  · intro s l handles ho hg hl h
    exact congrArg Host.Outcome.next (State.mailbox_serves ⟨ho, hg⟩ (State.clearEvents_overflowed hl h handles))
  · intro s ho hg
    exact congrArg Host.Outcome.next (State.mailbox_serves (f := State.getPolicy) ⟨ho, hg⟩ rfl)
  · intro s m ho hg hlen h
    exact congrArg Host.Outcome.next (State.mailbox_serves ⟨ho, hg⟩ (State.setPolicy_kept hlen h))
  · intro s ho hg
    exact congrArg Host.Outcome.next (State.mailbox_serves (f := State.fwInfo) ⟨ho, hg⟩ rfl)
  · intro s ho hg
    exact congrArg Host.Outcome.next (State.mailbox_serves (f := State.unsupported) ⟨ho, hg⟩ rfl)
  · intro s ho hg
    exact congrArg Host.Outcome.next (State.mailbox_serves (f := State.getStamp) ⟨ho, hg⟩ rfl)
  · intro s ns ho hg
    exact congrArg Host.Outcome.next (State.mailbox_serves (f := fun t => t.setStamp ns) ⟨ho, hg⟩ rfl)
  · intro s ho hg
    exact congrArg Host.Outcome.next (State.mailbox_serves (f := State.supportedLogs) ⟨ho, hg⟩ rfl)
  · intro s o n ho hg hspan hn
    exact congrArg Host.Outcome.next (State.mailbox_serves ⟨ho, hg⟩ (State.getLog_within hspan hn))
  · intro s u o n ho hg h
    exact congrArg Host.Outcome.next (State.mailbox_serves ⟨ho, hg⟩ (State.getLog_refused h))
  · intro s ho hg h
    exact congrArg Host.Outcome.next (State.mailbox_serves ⟨ho, hg⟩ (State.identify_detected h))
  · intro s ho hg h
    exact congrArg Host.Outcome.next (State.mailbox_serves ⟨ho, hg⟩ (State.identify_busy h))
  · intro s ho hg
    exact congrArg Host.Outcome.next (State.mailbox_serves (f := State.health) ⟨ho, hg⟩ rfl)
  · intro s ho hg
    exact congrArg Host.Outcome.next (State.mailbox_serves (f := State.getAlert) ⟨ho, hg⟩ rfl)
  · intro s c ho hg h
    exact congrArg Host.Outcome.next (State.mailbox_serves ⟨ho, hg⟩ (State.setAlert_kept h))
  · intro s ho hg
    exact congrArg Host.Outcome.next (State.mailbox_serves (f := State.getShutdown) ⟨ho, hg⟩ rfl)
  · intro s v ho hg
    exact congrArg Host.Outcome.next (State.mailbox_serves (f := fun t => t.setShutdown v) ⟨ho, hg⟩ rfl)

/-- Settles O45: as O44, with the imported key by whether it unwraps; the two erases end without the mailbox. -/
theorem mailboxMedia : Obligations.MailboxMedia := by
  refine ⟨?_, ?_, ?_, ?_, ?_, ?_, ?_, ?_, ?_, ?_, ?_, ?_, ?_, ?_, ?_, ?_, ?_⟩
  · intro s a n rest ho hg hm ha hn hrest hlast
    exact congrArg Host.Outcome.next (State.mailbox_serves ⟨ho, hg⟩ (State.getPoison_last hm ha hn hrest hlast))
  · intro s a ho hg hm ha
    exact congrArg Host.Outcome.next (State.mailbox_serves ⟨ho, hg⟩ (State.injectPoison_line hm ha))
  · intro s a d ho hg hm ha
    exact congrArg Host.Outcome.next (State.mailbox_serves ⟨ho, hg⟩ (State.clearPoison_line hm ha d))
  · intro s a d ho hg hm ha
    exact congrArg Host.Outcome.next (State.mailbox_serves ⟨ho, hg⟩ (State.clearPoison_refused hm ha d))
  · rintro s _ ho hg hb rfl
    exact congrArg Host.Outcome.next (State.mailbox_serves ⟨ho, hg⟩ (State.sanitize_starts hb))
  · rintro s _ hb rfl
    exact congrArg Host.Outcome.next (State.sanitizeDone_ends hb)
  · intro s tag c ho hg hm hc
    exact congrArg Host.Outcome.next (State.mailbox_serves ⟨ho, hg⟩ (State.barrierPost_refused hm hc))
  · rintro s tag _ ho hg hm hc rfl
    exact congrArg Host.Outcome.next (State.mailbox_serves ⟨ho, hg⟩ (State.barrierPost_accepted hm hc))
  · intro s q b ho hg hq hb
    exact congrArg Host.Outcome.next (State.mailbox_serves ⟨ho, hg⟩ (State.barrierStatus_open hq hb))
  · intro s ho hg
    exact congrArg Host.Outcome.next (State.mailbox_serves (f := State.budgetQuery) ⟨ho, hg⟩ rfl)
  · intro s ho hg
    exact congrArg Host.Outcome.next (State.mailbox_serves (f := State.imageStatus) ⟨ho, hg⟩ rfl)
  · intro s ho hg
    exact congrArg Host.Outcome.next (State.mailbox_serves (f := State.cascadeStatus) ⟨ho, hg⟩ rfl)
  · rintro s flags tag size _ ho hg hv hmin hmax htag hsize hsize' hb rfl
    exact congrArg Host.Outcome.next
      (State.mailbox_serves ⟨ho, hg⟩ (State.format_starts ⟨hv, hmin, hmax⟩ ⟨htag, hsize, hsize'⟩ hb))
  · intro s hb
    exact congrArg Host.Outcome.next (State.formatDone_ends hb)
  · intro s ho hg
    exact congrArg Host.Outcome.next (State.mailbox_serves (f := State.keyBegin) ⟨ho, hg⟩ rfl)
  · intro s n r k ho hg hp hk hn
    exact congrArg Host.Outcome.next (State.mailbox_serves ⟨ho, hg⟩ (State.keyExport_wrapped hp hk hn))
  · intro s a k w n i t ho hg hs hi ht
    cases hu : Config.unwrapKey n a w with
    | none => exact congrArg Host.Outcome.next (State.mailbox_serves ⟨ho, hg⟩ (State.keyImport_unknown hs hu ht))
    | some x => exact congrArg Host.Outcome.next (State.mailbox_serves ⟨ho, hg⟩ (State.keyImport_stored hs hu hi ht))

end Sys2Proof.Settled
end

section
/-! SUPPORT. The messages of the Strait (R152, R186, R187, R371 to R380): what each does to the controller that takes its frame, over
`State.receive_of_takesFrame`, which says once what taking a frame comes to. -/

namespace Sys2Proof.Machine

variable {s t u : State} {h : FrameHdr} {p relay : List (BitVec 8)} {typ : Nat} {f : State → State}

/-! ### Which messages wake (R526, R527) -/

/-- HEARTBEAT, PROBE, ECHO and TICK_SYNC only have their effect. -/
theorem State.receive_link (k : s.takesFrame h = true) (ht : t = s.frameTaken h typ relay)
    (htyp : typ = 1 ∨ typ = 2 ∨ typ = 3 ∨ typ = 4) (hu : f t = u) : s.receive h typ relay f = u := by
  have hlink : ¬ (typ ≠ 1 ∧ typ ≠ 2 ∧ typ ≠ 3 ∧ typ ≠ 4 ∧ (f t).saving = false) := by omega
  rw [State.receive_of_takesFrame k, ← ht, if_neg hlink, hu]

/-- Every other message wakes the controller, unless a save runs once it has had its effect. -/
theorem State.receive_wakes (k : s.takesFrame h = true) (ht : t = s.frameTaken h typ relay) (htyp : 4 < typ) (hu : f t = u)
    (hs : u.saving = false) : s.receive h typ relay f = u.wake 5 := by
  have hwake : typ ≠ 1 ∧ typ ≠ 2 ∧ typ ≠ 3 ∧ typ ≠ 4 ∧ u.saving = false :=
    ⟨by omega, by omega, by omega, by omega, hs⟩
  rw [State.receive_of_takesFrame k, ← ht, hu, if_pos hwake]

/-- A message after whose effect a save runs wakes nothing. -/
theorem State.receive_saving (k : s.takesFrame h = true) (ht : t = s.frameTaken h typ relay) (hu : f t = u)
    (hs : u.saving = true) : s.receive h typ relay f = u := by
  have hsaves : ¬ (typ ≠ 1 ∧ typ ≠ 2 ∧ typ ≠ 3 ∧ typ ≠ 4 ∧ u.saving = false) := by simp [hs]
  rw [State.receive_of_takesFrame k, ← ht, hu, if_neg hsaves]

/-! ### Messages of the link (R372, R374, R375) -/

/-- HEARTBEAT to a device that knows its master only renews what is known of the sender. -/
theorem State.onHeartbeat_known (k : s.takesFrame h = true) (ht : t = s.frameTaken h 0x01 p) (hm : t.strt.masterHeard = true) :
    s.onHeartbeat h p = t.setPeer h.src { t.peer h.src with state := payAt p 0 1, master := payAt p 1 1 } :=
  State.receive_link k ht (by decide) (if_neg fun hc => Bool.eq_false_iff.mp hc.1 hm)

/-- TICK_SYNC of the master sets a member's offset. -/
theorem State.onTickSync_master {o : Int} {n r : Nat} (k : s.takesFrame h = true)
    (ht : t = s.frameTaken h 0x04 (p.take 4 ++
      leBytes 4 (payAt p 4 4 + s.get (if h.port = 0 then STRT_DELAY_UP_PS else STRT_DELAY_DOWN_PS) + r)))
    (hg : t.inGroup = true) (hm : t.isMaster = false) (hsrc : h.src = t.get STRT_STAT_MASTER) :
    s.onTickSync h p o n r = t.tickSync (o - (payAt p 4 4 : Int)) (payAt p 0 4 + n) := by
  unfold State.onTickSync
  exact State.receive_link k ht (by decide) (if_pos ⟨hg, hm, hsrc⟩)

/-! ### Messages of the master (R152, R155, R186, R378, R382) -/

/-- SHARE of the master reaches a member. -/
theorem State.onShare_master (k : s.takesFrame h = true) (ht : t = s.frameTaken h 0x06 p) (hg : t.inGroup = true)
    (hm : t.isMaster = false) (hsrc : h.src = t.get STRT_STAT_MASTER)
    (hu : u = t.takeShare (payAt p 0 4 % 2 ^ 20) (payAt p 4 2)) (hs : u.saving = false) : s.onShare h p = u.wake 5 :=
  State.receive_wakes k ht (by decide) ((if_pos ⟨hg, hm, hsrc⟩).trans hu.symm) hs

/-- CLOSE of the master, ahead of its tick, sets the close of a member's collecting epoch. -/
theorem State.onClose_ahead {ahead : Nat} (k : s.takesFrame h = true) (ht : t = s.frameTaken h 0x08 p)
    (hg : t.inGroup = true) (hm : t.isMaster = false) (hsrc : h.src = t.get STRT_STAT_MASTER) (ha : t.active = true)
    (hahead : ahead = (payAt p 8 4 + 2 ^ 32 - t.pass32) % 2 ^ 32) (hlo : 0 < ahead) (hhi : ahead < 2 ^ 31)
    (hu : u = t.setClose (t.now + ahead) (payAt p 0 8)) (hs : u.saving = false) : s.onClose h p = u.wake 5 := by
  subst hahead
  have hmember : ¬ (t.inGroup = false ∨ t.isMaster = true ∨ h.src ≠ t.get STRT_STAT_MASTER ∨ t.active = false) := by
    simp [hg, hm, hsrc, ha]
  exact State.receive_wakes k ht (by decide) ((if_neg hmember).trans ((if_pos ⟨hlo, hhi⟩).trans hu.symm)) hs

/-- GROUP_SEALED of the master gives the group-sealed epoch (R189). -/
theorem State.onGroupSealed_master (k : s.takesFrame h = true) (ht : t = s.frameTaken h 0x0A p) (hg : t.inGroup = true)
    (hsrc : h.src = t.get STRT_STAT_MASTER) (hu : u = t.setGroupSealed (payAt p 0 8)) (hs : u.saving = false) :
    s.onGroupSealed h p = u.wake 5 :=
  State.receive_wakes k ht (by decide) ((if_pos ⟨hg, hsrc⟩).trans hu.symm) hs

/-- SAVE of the master starts a save, which leaves no wake. -/
theorem State.onSave_master (k : s.takesFrame h = true) (ht : t = s.frameTaken h 0x10 []) (hg : t.inGroup = true)
    (hsrc : h.src = t.get STRT_STAT_MASTER) (hs : (t.startSave 4 t.now).saving = true) : s.onSave h = t.startSave 4 t.now :=
  State.receive_saving k ht (if_pos ⟨hg, hsrc⟩) hs

/-- GROUP_POINT of the master gives the restore point of the group. -/
theorem State.onPoint_master (k : s.takesFrame h = true) (ht : t = s.frameTaken h 0x21 p) (hg : t.inGroup = true)
    (hsrc : h.src = t.get STRT_STAT_MASTER)
    (hu : u = ((t.setRstr { t.rstr with settled := some (payAt p 10 8, payAt p 0 8), heardMask := payAt p 8 1 }).put
      RSTR_STAT_CASC_PARTIAL (payAt p 9 1 % 2)).takePoint) (hs : u.saving = false) : s.onPoint h p = u.wake 5 := by
  have hmaster : ¬ (t.inGroup = false ∨ h.src ≠ t.get STRT_STAT_MASTER) := by simp [hg, hsrc]
  exact State.receive_wakes k ht (by decide) ((if_neg hmaster).trans hu.symm) hs

/-! ### Messages of any member (R186, R379) -/

/-- The state in which the status of a member has joined those held, with how far it has sealed beyond its image (R186). -/
def State.statusTaken (s : State) (d : Nat) (p : List (BitVec 8)) : State :=
  (s.addStatus ⟨d, payAt p 16 4, payAt p 0 8, payAt p 8 8, payAt p 23 1⟩).setPeer d { s.peer d with xseal := payAt p 20 3 }

/-- IMAGE_STATUS before the group point is settled may settle it. -/
theorem State.onStatus_unsettled (k : s.takesFrame h = true) (ht : t = s.frameTaken h 0x20 p)
    (hn : (t.statusTaken h.src p).rstr.settled = none) (hu : u = (t.statusTaken h.src p).trySettle) (hs : u.saving = false) :
    s.onStatus h p = u.wake 5 := by
  refine State.receive_wakes k ht (by decide) ?_ hs
  dsimp only
  rw [hu]
  unfold State.statusTaken at hn ⊢
  rw [hn]

/-- MASTER_CLAIM names a member's new master. -/
theorem State.onClaim_member (k : s.takesFrame h = true) (ht : t = s.frameTaken h 0x30 p) (hg : t.inGroup = true)
    (hu : u = t.newMaster h.src) (hs : u.saving = false) : s.onClaim h p = u.wake 5 :=
  State.receive_wakes k ht (by decide) ((if_pos hg).trans hu.symm) hs

/-! ### Frames that are not taken (R370, R372) -/

/-- A frame that fails its CRC is counted, as a replay at its sender. -/
theorem State.frameBad_counted (hr : s.strtRuns = true) (mine : Bool) :
    s.frameBad mine = if mine then s.bump STRT_REPLAY_COUNT else s.bump STRT_CRC_COUNT :=
  if_neg (not_not_intro hr)

/-- A frame of a type not listed, over a trained port, is counted as dropped. -/
theorem State.frameUnlisted_counted (hr : s.strtRuns = true) (hp : h.port < 2) (hok : s.flag (portOk h.port) = true) :
    s.frameUnlisted h = s.bump STRT_DROP_COUNT := if_pos ⟨hr, hp, hok⟩

end Sys2Proof.Machine

namespace Sys2Proof.Settled

open Sys2Proof.Machine

/-- Settles O46: each message by its effect on the state in which its frame is taken, then by whether it wakes. -/
theorem straitFrames : Obligations.StraitFrames := by
  refine ⟨?_, ?_, ?_, ?_, ?_, ?_, ?_, ?_, ?_, ?_, ?_, ?_, ?_, ?_, ?_, ?_, ?_, ?_, ?_⟩
  · intro s h p t k ht hm
    exact congrArg Host.Outcome.next (State.onHeartbeat_known k ht hm)
  · intro s h n t k ht
    exact congrArg Host.Outcome.next (State.receive_link k ht (by decide) rfl)
  · intro s h p n t k ht
    exact congrArg Host.Outcome.next (State.receive_link k ht (by decide) rfl)
  · intro s h p o n r t k ht hg hm hsrc
    exact congrArg Host.Outcome.next (State.onTickSync_master k ht hg hm hsrc)
  · intro s h p t u k ht hu hs
    exact congrArg Host.Outcome.next (State.receive_wakes k ht (by decide) hu.symm hs)
  · intro s h p t u k ht hg hm hsrc hu hs
    exact congrArg Host.Outcome.next (State.onShare_master k ht hg hm hsrc hu hs)
  · intro s h p t u k ht hu hs
    exact congrArg Host.Outcome.next (State.receive_wakes k ht (by decide) hu.symm hs)
  · intro s h p t u k ht hg hm hsrc ha hlo hhi hu hs
    exact congrArg Host.Outcome.next (State.onClose_ahead k ht hg hm hsrc ha rfl hlo hhi hu hs)
  · intro s h p t u k ht hu hs
    exact congrArg Host.Outcome.next (State.receive_wakes k ht (by decide) hu.symm hs)
  · intro s h p t u k ht hg hsrc hu hs
    exact congrArg Host.Outcome.next (State.onGroupSealed_master k ht hg hsrc hu hs)
  · intro s h t k ht hg hsrc hs
    exact congrArg Host.Outcome.next (State.onSave_master k ht hg hsrc hs)
  · intro s h p t u k ht hu hs
    exact congrArg Host.Outcome.next (State.receive_wakes k ht (by decide) hu.symm hs)
  · intro s h p t u k ht hu hs
    exact congrArg Host.Outcome.next (State.receive_wakes k ht (by decide) hu.symm hs)
  · intro s h p t u k ht hn hu hs
    exact congrArg Host.Outcome.next (State.onStatus_unsettled k ht hn hu hs)
  · intro s h p t u k ht hg hsrc hu hs
    exact congrArg Host.Outcome.next (State.onPoint_master k ht hg hsrc hu hs)
  · intro s h p t u k ht hg hu hs
    exact congrArg Host.Outcome.next (State.onClaim_member k ht hg hu hs)
  · intro s h p t u k ht hu hs
    exact congrArg Host.Outcome.next (State.receive_wakes k ht (by decide) hu.symm hs)
  · intro s m hr
    exact congrArg Host.Outcome.next (State.frameBad_counted hr m)
  · intro s h hr hp hok
    exact congrArg Host.Outcome.next (State.frameUnlisted_counted hr hp hok)

end Sys2Proof.Settled
end

section
/-! SUPPORT. The group of the Strait (R152 to R156, R365 to R380, R387): how a port trains, what the census and the election fix, how
mastership, closes and silence go, and what a write of STRT_CTRL brings about. -/

namespace Sys2Proof.Machine

variable {s u a : State} {p : Port} {w : Word} {port q d addr : Nat} {ring : Bool}

/-! ### Ports (R19, R367) -/

/-- A port that trains goes by its partner. -/
theorem State.portTrained_down (hr : s.strtRuns = true) (hp : port < 2) (hok : s.flag (portOk port) = false) :
    s.portTrained port q ring = if s.rightPartner port q ring then
      ((s.put (portOk port) 1).setStrt { s.strt with
        trainedAt := if s.strt.censusDone then s.strt.trainedAt else some s.now }).sendOn [port] 0x02 (some q) []
      else (s.raiseInt 0x88 5).raiseFault 0x88 2 7 0 := by
  have htrains : ¬ (¬ s.strtRuns ∨ 2 ≤ port ∨ s.flag (portOk port) = true) := by simp [hr, hp, hok]
  exact if_neg htrains

/-- A trained port that loses training is a fault. -/
theorem State.portDown_trained (hp : port < 2) (hok : s.flag (portOk port) = true) :
    s.portDown port = (s.put (portOk port) 0).raiseFault 0x88 0 7 0 := if_pos ⟨hp, hok⟩

/-! ### Census and mastership (R21, R368, R379, R380) -/

/-- The census ends 10 ms after training, with the highest device heard. -/
theorem State.censusEnds_due {t0 : Nat} (hr : s.strtRuns = true) (hc : s.strt.censusDone = false)
    (ht : s.strt.trainedAt = some t0) (hnow : t0 + 10000 ≤ s.now) : s.censusEnds =
      ((s.setStrt { s.strt with censusDone := true }).put STRT_STAT_SIZE (s.strt.census.foldl max s.devNo + 1)).refreshExpected := by
  unfold State.censusEnds
  simp only [hr, hc, ht, hnow, decide_true, not_true_eq_false, Bool.false_eq_true, Bool.true_eq_false, or_self, if_false]

/-- Where no master was heard device 0 is master. -/
theorem State.electMaster_unheard (hg : s.inGroup = true) (hc : s.strt.censusDone = true) (hm : s.strt.masterHeard = false) :
    s.electMaster = ((s.put STRT_STAT_MASTER 0).setStrt { s.strt with
      masterHeard := true, everMaster := decide (s.devNo = 0) }).refreshExpected := if_pos ⟨hg, hc, hm⟩

/-- The state in which a device has just taken mastership (R379). -/
def State.mastered (s : State) : State :=
  ((s.newMaster s.devNo).put STRT_STAT_TOOK 1).setStrt { s.strt with masterHeard := true, everMaster := true }

/-- A device whose lower-numbered devices and master are silent takes mastership, tells the group, and takes its own gauge (R78). -/
theorem State.takeMastership_silent (hg : s.inGroup = true) (h0 : s.devNo ≠ 0) (hm : s.get STRT_STAT_MASTER ≠ s.devNo)
    (he : s.strt.everMaster = false) (hr : s.strtRuns = true)
    (hlow : (List.range s.devNo).any (fun d => !s.silentFor d (s.devNo * 50)) = false)
    (hsilent : s.silentFor (s.get STRT_STAT_MASTER) 50 = true) (hph : s.get RSTR_STAT_PHASE ≠ 1)
    (hu : u = (s.mastered.sendFrame 0x30 none (leBytes 1 (s.get STRT_STAT_MASTER))).sendTickSync) :
    s.takeMastership false = (u.setPers { u.pers with gauge := u.pers.own }).sendGroupSealed := by
  subst hu
  unfold State.takeMastership
  simp only [hg, h0, hm, he, hr, hlow, hsilent, hph, Bool.true_eq_false, Bool.false_eq_true, or_self, if_false]
  rfl

/-! ### Periodic messages (R372, R374) -/

/-- A STRT that runs sends HEARTBEAT in a group. -/
theorem State.sendPeriodic_heartbeat (hr : s.strtRuns = true) (hg : s.inGroup = true) : s.sendPeriodic .heartbeat =
    s.sendOn s.trainedPorts 0x01 none (leBytes 1 s.beatState ++ leBytes 1 s.beatMaster) :=
  (if_neg (not_not_intro hr)).trans (if_pos (by simp [hg]))

/-- It probes each trained port. -/
theorem State.sendPeriodic_probe (hr : s.strtRuns = true) : s.sendPeriodic .probe =
    s.trainedPorts.foldl (fun (t : State) p => t.sendOn [p] 0x02 none []) s := if_neg (not_not_intro hr)

/-- As master it sends TICK_SYNC. -/
theorem State.sendPeriodic_tickSync (hr : s.strtRuns = true) (hm : s.isMaster = true) :
    s.sendPeriodic .tickSync = s.sendTickSync := (if_neg (not_not_intro hr)).trans (if_pos hm)

/-- It sends MEMBER_INFO. -/
theorem State.sendPeriodic_memberInfo (hr : s.strtRuns = true) : s.sendPeriodic .memberInfo = s.sendInfo :=
  if_neg (not_not_intro hr)

/-! ### Closes and shares (R155, R377) -/

/-- The master issues CLOSE once the lead is reached and every present member lets it. -/
theorem State.issueClose_due {k n : Nat} (hm : s.isMaster = true) (ha : s.active = true) (hr : s.pers.running = true)
    (hs : s.saving = false) (hc : s.pers.closeAt = none)
    (hlead : s.pers.epochBegan + s.pers.epochLen ≤ s.now + s.cfg STRT_CFG_CLOSE_LEAD) (ht : s.pers.tail = none)
    (hall : (s.otherMembers.filter (fun d => s.present.contains d)).all s.tailOk = true)
    (hk : k = max (s.pers.epochBegan + s.pers.epochLen) (s.now + s.cfg STRT_CFG_CLOSE_LEAD)) (hn : n = s.closeNumber) :
    s.issueClose = (s.setPers { s.pers with closeAt := some (k, n) }).sendFrame 0x08 none
      (leBytes 8 n ++ leBytes 4 ((s.pass32 + (k - s.now)) % 2 ^ 32)) := by
  subst hk hn
  have hdue : ¬ (s.isMaster = false ∨ s.active = false ∨ s.pers.running = false ∨ s.saving = true
      ∨ s.pers.closeAt.isSome = true ∨ s.now + s.cfg STRT_CFG_CLOSE_LEAD < s.pers.epochBegan + s.pers.epochLen) := by
    simp [hm, ha, hr, hs, hc, hlead]
  exact (if_neg hdue).trans (if_pos (Bool.and_eq_true_iff.mpr ⟨congrArg Option.isNone ht, hall⟩))

/-- A member whose share stays out for three polls of a save goes on without a gauge. -/
theorem State.shareTimeout_due {r : SaveRun} {g : Nat × Nat} (hrun : s.save.run = some r) (hg : s.inGroup = true)
    (hm : s.isMaster = false) (hgauge : r.gauge = some g) (hnow : g.2 + 3 * s.cfg SAVE_CUT_POLL_MS * 1000 ≤ s.now) :
    s.shareTimeout = s.setSave { s.save with run := some { r with gauge := none } } := by
  unfold State.shareTimeout
  rw [hrun, hg, hm]
  simp only [Bool.not_false, Bool.and_self, hgauge, if_pos hnow]

/-! ### Silence (R156, R377) -/

/-- A device unheard for 50 µs leaves the present set, which counts and raises PEER_LOST in a group; an expected one is lost to the
save that runs. -/
theorem State.peerSilent_lost (hd : d ≠ s.devNo) (h8 : d < 8) (hb : bitOf (s.get STRT_STAT_PRESENT) d = true)
    (hs : s.silentFor d 50 = true) (hg : s.inGroup = true)
    (ha : a = s.put STRT_STAT_PRESENT (s.get STRT_STAT_PRESENT - 2 ^ d)) : s.peerSilent d false =
      ((if a.inGroup && a.expected.contains d then
          a.setSave { a.save with run := a.save.run.map (fun r => { r with lost := true }) }
        else a).bump STRT_LOST_COUNT).raiseInt 0x88 0 := by
  subst ha
  have hlost : ¬ (d = s.devNo ∨ 8 ≤ d ∨ bitOf (s.get STRT_STAT_PRESENT) d = false ∨ s.silentFor d 50 = false) := by
    simp [hd, h8, hb, hs]
  exact (if_neg hlost).trans ((if_neg Bool.false_ne_true).trans (if_pos hg))

/-! ### The control register (R47, R387) -/

/-- The one feature of STRT_CTRL is the output of the tick (R49). -/
theorem features_strtCtrl :
    features.filter (fun f => decide (f.enable.addr = 0x88040)) = [⟨STRT_CTRL_SYNC_OUT_EN, 0, 0x88⟩] := by decide

/-- A write of STRT_CTRL claims or releases the output of the tick. -/
theorem State.enableFeatures_strtCtrl : u.enableFeatures p 0x88040 w =
    if bitOf w.toNat STRT_CTRL_SYNC_OUT_EN.lo then u.claimBy p ⟨STRT_CTRL_SYNC_OUT_EN, 0, 0x88⟩
    else u.enableFeature ⟨STRT_CTRL_SYNC_OUT_EN, 0, 0x88⟩ false := by
  unfold State.enableFeatures
  rw [features_strtCtrl, List.foldl_cons, List.foldl_nil]

/-- A write of STRT_CTRL with RETRAIN set retrains the ports, after its feature. -/
theorem State.written_strtCtrl (ha : addr = 0x88040) (hbit : bitOf w.toNat 8 = true) :
    u.written s p addr w = (u.enableFeatures p addr w).strtRetrain := by
  unfold State.written
  dsimp only
  repeat rw [if_neg (by omega)]
  rw [if_pos ha, if_pos hbit]

/-- A write of RETRAIN that the page accepts. -/
theorem State.portWord_strtRetrain (h : s.accepted p 0x88040 w = some u) (hbit : bitOf w.toNat 8 = true) :
    s.portWord p 0x88040 w =
      ((if bitOf w.toNat STRT_CTRL_SYNC_OUT_EN.lo then u.claimBy p ⟨STRT_CTRL_SYNC_OUT_EN, 0, 0x88⟩
        else u.enableFeature ⟨STRT_CTRL_SYNC_OUT_EN, 0, 0x88⟩ false).strtRetrain).refreshArmed := by
  rw [State.portWord_of_accepted h (.inl (by decide)) (by decide) (.inl (by decide)), State.written_strtCtrl rfl hbit,
    State.enableFeatures_strtCtrl]

end Sys2Proof.Machine

namespace Sys2Proof.Settled

open Sys2Proof.Machine

/-- Settles O47: each event by the guard under which it acts, and the write of RETRAIN by what it brings about. -/
theorem straitGroup : Obligations.StraitGroup := by
  refine ⟨?_, ?_, ?_, ?_, ?_, ?_, ?_, ?_, ?_, ?_, ?_, ?_, ?_, ?_, ?_⟩
  · rintro s port q ring _ hr hp hok hright rfl
    exact congrArg Host.Outcome.next ((State.portTrained_down hr hp hok).trans (if_pos hright))
  · intro s port q ring hr hp hok hwrong
    exact congrArg Host.Outcome.next ((State.portTrained_down hr hp hok).trans (if_neg (Bool.eq_false_iff.mp hwrong)))
  · intro s t0 hr hc ht hnow
    exact congrArg Host.Outcome.next (State.censusEnds_due hr hc ht hnow)
  · intro s hg hc hm
    exact congrArg Host.Outcome.next (State.electMaster_unheard hg hc hm)
  · rintro s _ u hg h0 hm he hr hlow hsilent hph rfl hu
    exact congrArg Host.Outcome.next (State.takeMastership_silent hg h0 hm he hr hlow hsilent hph hu)
  · intro s hr hg
    exact congrArg Host.Outcome.next (State.sendPeriodic_heartbeat hr hg)
  · intro s hr
    exact congrArg Host.Outcome.next (State.sendPeriodic_probe hr)
  · intro s hr hm
    exact congrArg Host.Outcome.next (State.sendPeriodic_tickSync hr hm)
  · intro s hr
    exact congrArg Host.Outcome.next (State.sendPeriodic_memberInfo hr)
  · intro s k n hm ha hr hs hc hlead ht hall hk hn
    exact congrArg Host.Outcome.next (State.issueClose_due hm ha hr hs hc hlead ht hall hk hn)
  · intro s d a hd h8 hb hs hg ha hexp
    exact congrArg Host.Outcome.next ((State.peerSilent_lost hd h8 hb hs hg ha).trans (by rw [if_pos hexp]))
  · intro s d a hd h8 hb hs hg ha hexp
    exact congrArg Host.Outcome.next ((State.peerSilent_lost hd h8 hb hs hg ha).trans (by rw [hexp]; rfl))
  · rintro s p _ u rfl h hbit
    exact congrArg Host.Outcome.next (State.portWord_strtRetrain h hbit)
  · intro s port hp hok
    exact congrArg Host.Outcome.next (State.portDown_trained hp hok)
  · intro s r g hrun hg hm hgauge hnow
    exact congrArg Host.Outcome.next (State.shareTimeout_due hrun hg hm hgauge hnow)

end Sys2Proof.Settled
end

section
/-! SUPPORT. The step and the footprints, from what each command touches and how the queue is taken. -/

namespace Sys2Proof.Settled

open Sys2Proof.Machine

/-- Settles O6: each command's law of what it touches, read against its footprint. -/
theorem footprints : Obligations.Footprints := fun _ _ _ h _ hp => exec_same h hp

/-- Settles O1: the step of a queue that begins with a command. -/
theorem stepTakesFront : Obligations.StepTakesFront := fun _ _ _ => step_cons rfl

/-- Settles O2: the step of an empty queue. -/
theorem stepIdles : Obligations.StepIdles := fun _ h => step_nil h

/-- Settles O20: the decoder has no row to answer, and so places nothing in the queue. -/
theorem noWordSpellsACommand : Obligations.NoWordSpellsACommand := fun _ _ _ => ⟨rfl, rfl⟩

end Sys2Proof.Settled
end

section
/-! SUPPORT. Writes that a page accepts of registers that bring something about at once (R410, R436, R452, R453, R497, R521,
R545, R551). -/

namespace Sys2Proof.Machine

variable {s u t : State} {p : Port} {a : Nat} {d : Word}

/-! ### What an accepted write brings about -/

/-- An accepted write outside the Atoll window, the semaphores and the mover group page leaves what it brings about. -/
theorem State.portWord_brings (h : s.accepted p a d = some u)
    (ha : a / 0x1000 ≠ 0x80 ∧ a / 0x100 ≠ 0x41 ∧ a / 0x1000 ≠ 0xB4) (hw : u.written s p a d = t) :
    s.portWord p a d = t.refreshArmed := by
  rw [State.portWord_of_accepted h (.inl ha.1) ha.2.1 (.inl ha.2.2), hw]

/-- RST_KEY takes the one key for the writer (R410). -/
theorem State.written_rstKey : u.written s p 0x2044 d = if d.toNat = 0x52535430 then
    u.setRst { u.rst with keys := (u.rst.keys.filter (fun e => decide (e.1 ≠ p))) ++ [(p, u.now)] } else u := rfl

/-- RST_CTRL acts on DEV_RST (R394). -/
theorem State.written_rstCtrl : u.written s p 0x2040 d = if bitOf d.toNat 0 then u.devRst p else u := rfl

/-- PWR_MODE requests the state in TARGET (R521). -/
theorem State.written_pwrMode : u.written s p 0x3040 d = u.requestState (getBits d 0 2) := rfl

/-- FLT_POP drops the oldest record (R436). -/
theorem State.written_fltPop : u.written s p 0x92060 d = u.fltPop := rfl

/-- FLT_FIRST_CLR clears the first record (R436). -/
theorem State.written_fltFirstClr : u.written s p 0x93060 d = u.fltFirstClr := rfl

/-- REC_CTRL claims or releases the burst's bank, then acts on FREEZE and FLUSH (R47, R449, R453). -/
theorem State.written_recCtrl : u.written s p 0x94040 d =
    (let t := (if bitOf d.toNat REC_CTRL_BURST_EN.lo then u.claimBy p ⟨REC_CTRL_BURST_EN, 4, 0x94⟩
       else u.enableFeature ⟨REC_CTRL_BURST_EN, 4, 0x94⟩ false).freezeWritten
     if bitOf d.toNat 8 then t.flush else t) := rfl

/-- REC_RD_SEQ begins a read of a record (R452). -/
theorem State.written_recRdSeq : u.written s p 0x94200 d = u.beginRecRead p := rfl

/-- TWL_XCMD acts on GO (R497). -/
theorem State.written_twlXcmd : u.written s p 0x98060 d = if bitOf d.toNat 31 then u.twlGo else u := rfl

/-- TWL_NPOP drops the oldest notification (R497). -/
theorem State.written_twlNpop : u.written s p 0x98094 d = u.notifyPop := rfl

/-- DSCR_MPOP drops the oldest mark (R551). -/
theorem State.written_dscrMpop : u.written s p 0x5C0C4 d = u.markPop := rfl

/-- UPK_CAP acts on CAP_GO (R545). -/
theorem State.written_upkCap : u.written s p 0xA004C d = if bitOf d.toNat 8 then u.capBegin else u := rfl

end Sys2Proof.Machine
end

section
/-! SUPPORT. Clocks, resets and the start (R390 to R410, R514): what the power-on reset, the boot and the configuration lead to, what
a clock that goes or comes leaves, and how a device reset is keyed, held and released. -/

namespace Sys2Proof.Machine

variable {s u : State} {p : Port} {d : Word} {k src : Nat}

/-! ### The start (R399 to R406, R514) -/

/-- What the release of the power-on reset samples and loads: straps, fuses, stored fields and what Atoll keeps (R399, R401). -/
def State.sampled (s : State) (retries : Option Nat) : State :=
  ((((s.sampleStraps).loadFuses retries).loadStored).put ATOL_PROT_LEVEL s.atol.sel.prot).put ATOL_SPARE_FREE
    s.atol.spares.length

/-- Out of the off phase and outside test mode, power-on starts cold, or without whole fuses starts recovery (R399, R401). -/
theorem State.powerOn_off (hp : s.rst.phase = .off) (ht : s.flag TST_STAT_TEST_MODE = false) (retries : Option Nat) :
    s.powerOn retries =
      (let t := s.sampled retries
       let u := ((t.startFields 0 1).setRst { t.rst with startedAt := s.now }).resumeWipe
       (if retries.isSome then u.coldStart else (u.raiseFault 0x02 0 7 0).recoveryStart 3).recPowerOn) :=
  if_neg (by simp [hp, ht])

/-- A start that goes on, and is not warm, waits for the boot image (R402, R405). -/
theorem State.awaitsImage (hb : s.rst.phase = .booting) (ho : s.startsOn = true) (hs : s.get RST_STAT_START ≠ 1) :
    ¬ (s.rst.phase ≠ .booting ∨ s.startsOn = false ∨ (s.get RST_STAT_START = 1 ∧ s.atol.sel.updPend = false)) := by
  simp [hb, ho, hs]

/-- The active image verifies, with no update pending (R402). -/
theorem State.bootVerified_active (hb : s.rst.phase = .booting) (ho : s.startsOn = true) (hs : s.get RST_STAT_START ≠ 1)
    (hu : s.atol.sel.updPend = false) (k : Nat) : s.bootVerified 0 k =
      (s.put RST_STAT_ISLE s.atol.sel.active).setRst { s.rst with phase := .verified } := by
  refine (if_neg (State.awaitsImage hb ho hs)).trans ((if_pos rfl).trans ?_)
  rw [hu]
  rfl

/-- The image of the active Isle that fails gives way to the other's (R402). -/
def State.fellBack (s : State) (stage : Nat) : State :=
  let t := ((s.verifyFailed s.atol.sel.active stage).bootSwap 0).put RST_STAT_ISLE_FALLBACK 1
  ((t.put RST_STAT_ISLE t.atol.sel.active).eventNo 0x02 0x0202 [t.atol.sel.active]).raiseInt 0x02 0

/-- The other image verifies (R402). -/
theorem State.bootVerified_other (hb : s.rst.phase = .booting) (ho : s.startsOn = true) (hs : s.get RST_STAT_START ≠ 1)
    (hk : k ≠ 0) : s.bootVerified k 0 = (s.fellBack k).setRst { (s.fellBack k).rst with phase := .verified } :=
  (if_neg (State.awaitsImage hb ho hs)).trans ((if_neg hk).trans (if_pos rfl))

/-- Neither image verifies (R402, R405). -/
theorem State.bootVerified_neither {j : Nat} (hb : s.rst.phase = .booting) (ho : s.startsOn = true)
    (hs : s.get RST_STAT_START ≠ 1) (hk : k ≠ 0) (hj : j ≠ 0) : s.bootVerified k j =
      ((s.verifyFailed s.atol.sel.active k).verifyFailed (1 - s.atol.sel.active) j).recoveryStart 2 :=
  (if_neg (State.awaitsImage hb ho hs)).trans ((if_neg hk).trans (if_neg hj))

/-- The configuration of a verified start ends, and the charger may run (R127, R400). -/
theorem State.configured_verified (ho : s.startsOn = true) (hp : s.rst.phase = .verified) (v k : Nat) :
    (s.configured v k).rst.phase = .configured ∧ (s.configured v k).save.chgEn = true := by
  unfold State.configured
  rw [if_neg (by simp [ho, hp])]
  exact ⟨rfl, rfl⟩

/-- RECOVERY# is sampled once in a start (R405, R514). -/
theorem State.recoverySample_booting (hb : s.rst.phase = .booting) (hr : s.rst.rcvSampled = false) (ho : s.startsOn = true)
    (a b : Bool) : s.recoverySample a b =
      (let t := s.setRst { s.rst with rcvSampled := true, rcvRequest := a && b }
       if a && b then t.recoveryStart 4 else t) :=
  if_neg (by simp [hb, hr, ho])

/-! ### Clocks (R390 to R392, R409) -/

/-- REFCLK goes (R391). -/
theorem State.refLoss_ok (h : s.flag CLK_STAT_REF_OK = true) : s.refLoss =
    ((((((s.put CLK_STAT_REF_OK 0).bump CLK_REF_LOSS_COUNT).put CLK_STAT_LOCK (setBitTo (s.get CLK_STAT_LOCK) 1 false)).put
      CLK_STAT_ON_AON (setBitTo (s.get CLK_STAT_LOCK) 1 false)).linkLost).raiseInt 0x01 0).raiseFault 0x01 0 7 0 := if_pos h

/-- REFCLK comes back (R391). -/
theorem State.refBack_lost (hp : s.rst.phase ≠ .off) (h : s.flag CLK_STAT_REF_OK = false) (n : Nat) : s.refBack n =
    (((s.put CLK_STAT_REF_OK 1).put CLK_REF_PPM_PPM (n % 65536)).put CLK_STAT_ON_AON 0).raiseInt 0x01 1 :=
  if_neg (by simp [hp, h])

/-- The always-on clock goes (R392). -/
theorem State.aonLoss_ok (hp : s.rst.phase ≠ .off) (h : s.flag CLK_STAT_AON_OK = true) :
    s.aonLoss = (s.put CLK_STAT_AON_OK 0).raiseFault 0x01 3 7 0 := if_neg (by simp [hp, h])

/-- A PLL other than PLL H locks once the start is over (R390). -/
theorem State.pllLock_active (ha : s.rst.phase = .active) (hk : k < 6) (h1 : k ≠ 1) (hl : s.locked k = false) : s.pllLock k =
    ((s.put CLK_STAT_LOCK (setBitTo (s.get CLK_STAT_LOCK) k true)).put CLK_STAT_ON_AON
      (setBitTo (s.get CLK_STAT_ON_AON) k (!s.flag CLK_STAT_REF_OK))).unstall k := by
  have hlocks : ¬ (s.rst.phase = .off ∨ 6 ≤ k ∨ s.locked k = true ∨ (k = 1 ∧ s.flag CLK_STAT_REF_OK = false)) := by
    simp [ha, hk, h1, hl]
  exact (if_neg hlocks).trans (if_neg fun h => h.2 ha)

/-- A PLL that is neither F nor H loses lock, and its block stalls (R409). -/
theorem State.pllUnlock_stalls (hl : s.locked k = true) (h0 : k ≠ 0) (h1 : k ≠ 1) : s.pllUnlock k =
    (let t := (((s.put CLK_STAT_LOCK (setBitTo (s.get CLK_STAT_LOCK) k false)).put CLK_STAT_ON_AON
       (setBitTo (s.get CLK_STAT_ON_AON) k false)).bump CLK_UNLOCK_COUNT).raiseInt 0x01 2
     (t.setRst { t.rst with stalled := insertNat t.rst.stalled k }).raiseFault 0x01 2 7 0) :=
  (if_pos hl).trans ((if_neg h0).trans (if_neg h1))

/-! ### The device reset (R394, R397, R410) -/

/-- The key is taken (R410). -/
theorem State.portWord_rstKey (h : s.accepted p 0x2044 0x52535430 = some u) : s.portWord p 0x2044 0x52535430 =
    (u.setRst { u.rst with
      keys := (u.rst.keys.filter (fun e => decide (e.1 ≠ p))) ++ [(p, u.now)] }).refreshArmed :=
  State.portWord_brings h (by decide) (State.written_rstKey.trans (if_pos rfl))

/-- Another word is no key (R410). -/
theorem State.portWord_rstKey_wrong (hd : d ≠ 0x52535430) (h : s.accepted p 0x2044 d = some u) :
    s.portWord p 0x2044 d = u.refreshArmed :=
  State.portWord_brings h (by decide) (State.written_rstKey.trans (if_neg fun hn => hd (BitVec.eq_of_toNat_eq hn)))

/-- The source code of a device reset that a port requests (R394). -/
def resetCode : Port → Nat
  | .host => 2
  | .sideband => 3
  | .glen => 4
  | .tst => 7

/-- With the key DEV_RST requests the reset (R394, R410). -/
theorem State.devRst_keyed (hk : u.keyed p = true) : u.devRst p = u.requestReset (resetCode p) := if_pos hk

/-- DEV_RST of the port whose key is open requests the reset with the port's code (R394, R410). -/
theorem State.portWord_devRst (h : s.accepted p 0x2040 d = some u) (hbit : bitOf d.toNat 0 = true) (hk : u.keyed p = true) :
    s.portWord p 0x2040 d = (u.requestReset (resetCode p)).refreshArmed :=
  State.portWord_brings h (by decide) (State.written_rstCtrl.trans ((if_pos hbit).trans (State.devRst_keyed hk)))

/-- DEV_RST without the key is dropped with cause 1 (R410). -/
theorem State.portWord_devRst_unkeyed (hp : s.portOpen p = true) (hg : s.gated 2 = false) (hbit : bitOf d.toNat 0 = true)
    (hk : s.keyed p = false) : s.portWord p 0x2040 d = s.noteDrop p 0x2040 1 := by
  have hi : implemented (0x2040 / 0x1000) = true := by decide
  obtain ⟨r, hr⟩ : ∃ r, regRow 0x2040 = some r := ⟨_, rfl⟩
  have hdrop : s.storeWord p 0x2040 r d = s.noteDrop p 0x2040 1 := if_pos (by simp [hbit, hk])
  unfold State.portWord State.busWrite
  rw [if_pos hp, if_neg (by simp [hi]), if_neg (by simp [hg]), if_neg (by decide), if_neg (by decide), hr]
  exact hdrop

/-- The quiesce of a running controller ends in the reset (R394, R395). -/
theorem State.quiesceDone_running (hq : s.rst.quiesce = some src) (hb : s.get PWR_STAT_STATE ≠ 2)
    (hr : s.rst.phase ≠ .recovery) (b k : Bool) : s.quiesceDone b k =
      (s.setRst { s.rst with selfRefresh := b, settingsKept := k, checkWord := k }).deviceReset src := by
  unfold State.quiesceDone
  rw [hq]
  simp only [if_neg (not_or.mpr ⟨hb, hr⟩)]
  rfl

/-- A held reset that power has been good for long enough, after a save, is carried out (R397). -/
theorem State.releaseHeld_saved (hh : s.rst.held = some src) (hs : s.saving = false) (hg : s.goodLong = true)
    (he : s.save.ended = true ∨ s.save.failed = true) : s.releaseHeld = s.deviceReset src := by
  unfold State.releaseHeld
  rw [hh]
  exact (if_neg (by simp [hs, hg])).trans (if_pos (by simpa using he))

/-- With no save it goes through the quiesce (R394, R397). -/
theorem State.releaseHeld_unsaved (hh : s.rst.held = some src) (hs : s.saving = false) (hg : s.goodLong = true)
    (he : s.save.ended = false) (hf : s.save.failed = false) : s.releaseHeld = s.beginQuiesce src := by
  unfold State.releaseHeld
  rw [hh]
  exact (if_neg (by simp [hs, hg])).trans (if_neg (by simp [he, hf]))

end Sys2Proof.Machine

namespace Sys2Proof.Settled

open Sys2Proof.Machine

/-- Settles O48: power-on by the fuses, the boot by the images that verify, each clock by its loss or return, and the reset by its
key and its holds. -/
theorem startAndReset : Obligations.StartAndReset := by
  refine ⟨?_, ?_, ?_, ?_, ?_, ?_, ?_, ?_, ?_, ?_, ?_, ?_, ?_, ?_, ?_, ?_, ?_, ?_, ?_⟩
  · rintro s n _ hp ht rfl
    exact congrArg Host.Outcome.next (State.powerOn_off hp ht (some n))
  · rintro s _ hp ht rfl
    exact congrArg Host.Outcome.next (State.powerOn_off hp ht none)
  · intro s k hb ho hs hu
    exact congrArg Host.Outcome.next (State.bootVerified_active hb ho hs hu k)
  · rintro s k _ _ hk hb ho hs rfl rfl
    exact congrArg Host.Outcome.next (State.bootVerified_other hb ho hs hk)
  · intro s k j hk hj hb ho hs
    exact congrArg Host.Outcome.next (State.bootVerified_neither hb ho hs hk hj)
  · intro s v k ho hp
    exact ⟨s.configured v k, rfl, State.configured_verified ho hp v k⟩
  · intro s h
    exact congrArg Host.Outcome.next (State.refLoss_ok h)
  · intro s n hp h
    exact congrArg Host.Outcome.next (State.refBack_lost hp h n)
  · intro s hp h
    exact congrArg Host.Outcome.next (State.aonLoss_ok hp h)
  · intro s k ha hk h1 hl
    exact congrArg Host.Outcome.next (State.pllLock_active ha hk h1 hl)
  · rintro s k _ hl h0 h1 rfl
    exact congrArg Host.Outcome.next (State.pllUnlock_stalls hl h0 h1)
  · intro s p u h
    exact congrArg Host.Outcome.next (State.portWord_rstKey h)
  · intro s p d u hd h
    exact congrArg Host.Outcome.next (State.portWord_rstKey_wrong hd h)
  · rintro s p _ u rfl h hbit hk
    exact congrArg Host.Outcome.next (State.portWord_devRst h hbit hk)
  · rintro s p _ rfl hbit hp hg hk
    exact congrArg Host.Outcome.next (State.portWord_devRst_unkeyed hp hg hbit hk)
  · intro s b k src hq hb hr
    exact congrArg Host.Outcome.next (State.quiesceDone_running hq hb hr b k)
  · intro s src hh hs hg he
    exact congrArg Host.Outcome.next (State.releaseHeld_saved hh hs hg he)
  · intro s src hh hs hg he hf
    exact congrArg Host.Outcome.next (State.releaseHeld_unsaved hh hs hg he hf)
  · rintro s a b _ hb hr ho rfl
    exact congrArg Host.Outcome.next (State.recoverySample_booting hb hr ho a b)

end Sys2Proof.Settled
end

section
/-! SUPPORT. Fault collection (R412 to R436): what a detector that fires does, how the next message is recorded, how a reset of FLT's
is released, overruns and settles, and the Glen cores. -/

namespace Sys2Proof.Machine

variable {s t u : State} {p : Port} {m : FltMsg} {c : Scope} {w : ScopeOf} {pg n k : Nat}

/-! ### A detector that fires (R412, R433) -/

/-- A detector of a page that can fire raises its source, then finds what is bad (R412). -/
theorem State.detectFault_fires (h : s.detects pg n = true) (kind addr cycle place : Nat) :
    s.detectFault pg n kind addr cycle place false =
      (s.raiseFaultSev pg n (s.severity pg n) kind addr cycle false).faultFound pg n place false := by
  unfold State.detectFault
  rw [if_pos h, if_neg (by simp)]

/-- What a fault finds outside the Glen cores' pages is repaired, masked or not (R28). -/
theorem State.faultFound_block (h : pg < 0xD0 ∨ 0xD4 ≤ pg) (place : Nat) (alt : Bool) :
    t.faultFound pg n place alt = t.faultEffect pg n place alt := if_neg (by omega)

/-- An unmasked fault of a Glen core's page crashes the core (R433). -/
theorem State.faultFound_core (hlo : 0xD0 ≤ pg) (hhi : pg < 0xD4) (hm : bitOf (t.get (ERR_MASK_MASK pg)) n = false)
    (place : Nat) (alt : Bool) :
    t.faultFound pg n place alt = (t.faultEffect pg n place alt).coreCrash (pg - 0xD0) n := if_pos ⟨hlo, hhi, hm⟩

/-- The watchdog of a running core fires WDOG of its page (R433). -/
theorem State.glenWdog_running (hk : k < 4) (h : s.get (GLC_STAT_STATE k) = 1 ∨ s.get (GLC_STAT_STATE k) = 3) (cycle : Nat) :
    s.glenWdog k cycle = s.detectFault (0xD0 + k) 0 7 0 cycle 0 false := if_pos ⟨hk, h⟩

/-- A core that restarts is back with its time (R433). -/
theorem State.coreBack_restarting (h : s.get (GLC_STAT_STATE k) = 2) (us : Nat) :
    s.coreBack k us = (s.put (GLC_STAT_STATE k) 1).put (GLC_RESTART_US_US k) us := if_pos h

/-- The tick is watched while the controller runs (R432). -/
theorem State.tickStall_running (hb : s.get PWR_STAT_STATE ≠ 2) (hp : s.rst.phase ≠ .off) (hr : s.rst.phase ≠ .recovery) :
    s.tickStall = s.raiseFault 0x90 6 5 0 := if_neg (by simp [hb, hp, hr])

/-! ### The next record (R417 to R420, R424, R425) -/

/-- The message leaves its pending register, and its time is that of the last record (R417). -/
def State.taken (s : State) (m : FltMsg) : State :=
  s.setFlt { s.flt with
    pend := Sparse.set (fun _ => noMsg) s.flt.pend (fsrcOf m.page m.src) noMsg, lastTime := some (m.pass, m.cycle) }

/-- A consequential fault is recorded with code 6 (R425). -/
theorem State.recordNext_conseq (h : firstMsg s.flt.pend = some m) (hc : m.conseq = true) :
    s.recordNext = (s.taken m).makeRecord (m.record (s.coincides m) false 6) := by
  unfold State.recordNext
  rw [h]
  exact if_pos hc

/-- An advisory or corrected fault is recorded without a reaction (R420). -/
theorem State.recordNext_mild (h : firstMsg s.flt.pend = some m) (hc : m.conseq = false) (hs : m.sev ≤ 1) :
    s.recordNext = (s.taken m).makeRecord (m.record (s.coincides m) false 0) := by
  unfold State.recordNext
  rw [h]
  exact (if_neg (Bool.eq_false_iff.mp hc)).trans (if_pos hs)

/-- A FATAL fault is recorded with the code of the safe state it brought (R419, R430). -/
theorem State.recordNext_fatal (h : firstMsg s.flt.pend = some m) (hc : m.conseq = false) (hs : m.sev = 3)
    (hr : s.reacts m.inj = true) :
    s.recordNext = (s.taken m).makeRecord (m.record (s.coincides m) false s.fatalCode) := by
  unfold State.recordNext
  rw [h]
  exact (if_neg (Bool.eq_false_iff.mp hc)).trans ((if_neg (by omega)).trans ((if_neg (not_not.mpr hr)).trans (if_pos hs)))

/-- A CONTAINED fault outside the safe state is recorded with its reaction, which is started (R420, R421). -/
theorem State.recordNext_contained (h : firstMsg s.flt.pend = some m) (hc : m.conseq = false) (hs : m.sev = 2)
    (hr : s.reacts m.inj = true) (hsafe : s.flag FLT_SAFE_SAFE = false) : s.recordNext =
      ((s.taken m).makeRecord (m.record (s.coincides m) false (s.reaction m.page m.src).code)).react m.page
        (s.reaction m.page m.src) (s.get FLT_SEQ_NEXT) := by
  unfold State.recordNext
  rw [h]
  exact (if_neg (Bool.eq_false_iff.mp hc)).trans ((if_neg (by omega)).trans ((if_neg (not_not.mpr hr)).trans
    ((if_neg (by omega)).trans (if_neg (Bool.eq_false_iff.mp hsafe)))))

/-! ### FLT's resets (R421 to R425) -/

/-- The reset of a scope that reports ready in time is released (R421). -/
theorem State.releaseReset_asserted
    (h : s.flt.scopes.any (fun c => decide (c.what = w ∧ c.phase = .asserted)) = true) : s.releaseReset w false =
      ((s.setFlt { s.flt with scopes := s.flt.scopes.map (fun c =>
        if c.what = w ∧ c.phase = .asserted then { c with phase := .settling, since := s.now } else c) }).endSoft w).refreshHlk :=
  if_pos h

/-- A block's reset that passes 200 µs gives way to one of its domain (R423). -/
theorem State.resetOverrun_late {b : Nat}
    (h : s.flt.scopes.find? (fun c => decide (c.what = .block b ∧ c.phase = .asserted)) = some c) (hl : c.since + 200 ≤ s.now) :
    s.resetOverrun b =
      (let t := s.raiseFault 0x90 0 0x0B b
       let u := t.setFlt { t.flt with scopes := t.flt.scopes.filter (fun d => decide (d ≠ c)) }
       (u.escalated).callReset (.domain (domainOf b)) c.parent) := by
  unfold State.resetOverrun
  rw [h]
  exact if_neg (Nat.not_lt.mpr hl)

/-- A domain's reset that passes 300 µs is stuck (R423). -/
theorem State.resetStuck_late {d : Nat}
    (h : s.flt.scopes.find? (fun c => decide (c.what = .domain d ∧ c.phase = .asserted)) = some c) (hl : c.since + 300 ≤ s.now) :
    s.resetStuck d = (s.escalated).raiseFault 0x90 1 0x0B (((List.range 256).find? (fun p =>
      implemented p && decide (domainOf p = d))).getD 0) := by
  unfold State.resetStuck
  rw [h]
  exact if_neg (Nat.not_lt.mpr hl)

/-- Two passes after the release of a reset with a record its shadow ends, and the stall enters the record (R422, R425). -/
theorem State.endShadow_recorded (h : s.flt.scopes.find? (fun c => decide (c.what = w ∧ c.phase = .settling)) = some c)
    (hl : c.since + 2 ≤ s.now) (hp : c.parent ≠ 0) (us : Nat) : s.endShadow w us =
      (s.setFlt { s.flt with scopes := s.flt.scopes.filter (fun d => decide (d ≠ c)) }).recordStall c.parent us := by
  unfold State.endShadow
  rw [h]
  exact (if_neg (Nat.not_lt.mpr hl)).trans (if_neg hp)

end Sys2Proof.Machine

namespace Sys2Proof.Settled

open Sys2Proof.Machine

/-- Settles O49: a fault by the page it is found on, a record by its message's severity, and a reset by how it ends. -/
theorem faultCollection : Obligations.FaultCollection := by
  refine ⟨?_, ?_, ?_, ?_, ?_, ?_, ?_, ?_, ?_, ?_, ?_, ?_, ?_, ?_, ?_⟩
  · intro s pg n kind addr k place h hpg
    exact congrArg Host.Outcome.next ((State.detectFault_fires h kind addr k place).trans (State.faultFound_block hpg place false))
  · rintro s pg n kind addr k place _ h hlo hhi rfl hm
    exact congrArg Host.Outcome.next ((State.detectFault_fires h kind addr k place).trans
      (State.faultFound_core hlo hhi hm place false))
  · rintro s m _ h rfl hc
    exact congrArg Host.Outcome.next (State.recordNext_conseq h hc)
  · rintro s m _ h rfl hc hs
    exact congrArg Host.Outcome.next (State.recordNext_mild h hc hs)
  · rintro s m _ h rfl hc hs hr
    exact congrArg Host.Outcome.next (State.recordNext_fatal h hc hs hr)
  · rintro s m _ h rfl hc hs hr hsafe
    exact congrArg Host.Outcome.next (State.recordNext_contained h hc hs hr hsafe)
  · rintro s w _ h rfl
    exact congrArg Host.Outcome.next (State.releaseReset_asserted h)
  · rintro s b c _ _ h hl rfl rfl
    exact congrArg Host.Outcome.next (State.resetOverrun_late h hl)
  · intro s d c h hl
    exact congrArg Host.Outcome.next (State.resetStuck_late h hl)
  · intro s w us c h hl hp
    exact congrArg Host.Outcome.next (State.endShadow_recorded h hl hp us)
  · intro s hb hp hr
    exact congrArg Host.Outcome.next (State.tickStall_running hb hp hr)
  · intro s k y hk h
    exact congrArg Host.Outcome.next (State.glenWdog_running hk h y)
  · intro s k us h
    exact congrArg Host.Outcome.next (State.coreBack_restarting h us)
  · intro s p u h
    exact congrArg Host.Outcome.next (State.portWord_brings h (by decide) State.written_fltPop)
  · intro s p u h
    exact congrArg Host.Outcome.next (State.portWord_brings h (by decide) State.written_fltFirstClr)

end Sys2Proof.Settled
end

section
/-! SUPPORT. The event recorder (R438, R439, R449 to R453): an event of a block, the hours note, the accepted writes of REC_CTRL, how a
flush and a freeze end, and the two outcomes of a read of a record. -/

namespace Sys2Proof.Machine

variable {s u : State} {p : Port} {d : Word} {b : Nat} {r : RecRead}

/-! ### Events and notes (R438, R439) -/

/-- An event of an implemented page's block is an event of REC (R439). -/
theorem State.blockEvent_implemented (hb : implemented b = true) (hp : s.rst.phase ≠ .off) (code : Nat) (co : Bool)
    (l : List Word) : s.blockEvent b code co l = s.recEvent ⟨2, blockOf b, code % 2 ^ 16, 0, co, false, l.take 7⟩ :=
  if_pos (by simp [hb, hp])

/-- An hour after the last record the HOURS note is written (R438). -/
theorem State.hoursNote_due (ht : s.recd.lastRecordTenths + 36000 ≤ s.recd.tenths) (he : s.cfgOn REC_CTRL_EN = true)
    (hf : s.recd.frozen = false) : s.hoursNote = s.note 2 0 :=
  (if_neg (Nat.not_lt.mpr ht)).trans ((if_neg (not_not.mpr he)).trans (if_neg (Bool.eq_false_iff.mp hf)))

/-! ### REC_CTRL (R449, R453) -/

/-- The burst's bank is claimed or released by BURST_EN, before the freeze that the word asks for begins or ends (R47, R453). -/
def State.recControlled (u : State) (p : Port) (d : Word) : State :=
  (if bitOf d.toNat REC_CTRL_BURST_EN.lo then u.claimBy p ⟨REC_CTRL_BURST_EN, 4, 0x94⟩
   else u.enableFeature ⟨REC_CTRL_BURST_EN, 4, 0x94⟩ false).freezeWritten

/-- An accepted write of REC_CTRL with FLUSH flushes (R449). -/
theorem State.portWord_recFlush (h : s.accepted p 0x94040 d = some u) (hbit : bitOf d.toNat 8 = true) :
    s.portWord p 0x94040 d = ((u.recControlled p d).flush).refreshArmed :=
  State.portWord_brings h (by decide) (State.written_recCtrl.trans (if_pos hbit))

/-- One without FLUSH only begins or ends a freeze (R453). -/
theorem State.portWord_recFreeze (h : s.accepted p 0x94040 d = some u) (hbit : bitOf d.toNat 8 = false) :
    s.portWord p 0x94040 d = (u.recControlled p d).refreshArmed :=
  State.portWord_brings h (by decide) (State.written_recCtrl.trans (if_neg (Bool.eq_false_iff.mp hbit)))

/-! ### The ends of flushes and freezes (R450, R453) -/

/-- The records that the flush was asked for are programmed in order (R448 to R450). -/
def State.flushed (s : State) (failed : List Nat) : State :=
  ((s.recd.ring.filter (fun r => decide (r.rseq < s.recd.flushTo % 2 ^ 32))).foldl (State.flushRecord failed)
    (s.put REC_STAT_STALLED 0)).recRange

/-- A flush that found an erased slot for every record ends with FLUSH_DONE (R450). -/
theorem State.flushDone_whole {failed : List Nat} (hf : s.recd.flushing = true)
    (hs : (s.flushed failed).flag REC_STAT_STALLED = false) : s.flushDone failed =
      (((s.flushed failed).setRecd { (s.flushed failed).recd with flushing := false }).put REC_STAT_FLUSHING 0).raiseInt 0x94 3 :=
  (if_pos hf).trans (if_neg (Bool.eq_false_iff.mp hs))

/-- A freeze ends once FREEZE_S has passed (R453). -/
theorem State.freezeTimeout_due (hf : s.recd.frozen = true)
    (ht : s.recd.frozenAt + s.cfg REC_CFG_FREEZE_S * 1000000 ≤ s.now) : s.freezeTimeout = s.endFreeze := if_pos ⟨hf, ht⟩

/-! ### Reads of records (R452) -/

/-- The read of a port is over. -/
def State.readTaken (s : State) (p : Port) : State :=
  s.setRecd { s.recd with reads := s.recd.reads.filter (fun q => decide (q.reader ≠ p)) }

/-- A record older than the oldest is gone. -/
theorem State.recReadDone_gone (h : s.recd.reads.find? (fun r => decide (r.reader = p)) = some r)
    (hold : r.rseq < s.get REC_OLDEST_RSEQ) (bad early : Bool) : s.recReadDone p bad early =
      (((s.readTaken p).put (REC_RD_STAT_OUTCOME.at p) 2).put (REC_RD_STAT_EARLY.at p) 0).put (REC_RD_STAT_DONE.at p) 1 := by
  unfold State.recReadDone
  rw [h]
  exact if_pos (.inl hold)

/-- A record in the SRAM ring is answered. -/
theorem State.recReadDone_ring {x : RecRec} (h : s.recd.reads.find? (fun r => decide (r.reader = p)) = some r)
    (hold : s.get REC_OLDEST_RSEQ ≤ r.rseq) (hnew : r.rseq ≤ s.get REC_NEWEST_RSEQ)
    (hx : s.recordAt r.rseq = some (x, false)) (bad early : Bool) : s.recReadDone p bad early =
      ((((s.readTaken p).setRecWords p x.words).put (REC_RD_STAT_OUTCOME.at p) 0).put (REC_RD_STAT_EARLY.at p) 0).put
        (REC_RD_STAT_DONE.at p) 1 := by
  have hheld : ¬ (r.rseq < s.get REC_OLDEST_RSEQ ∨ s.get REC_NEWEST_RSEQ < r.rseq) := by omega
  unfold State.recReadDone
  rw [h]
  refine (if_neg hheld).trans ?_
  rw [hx]
  rfl

end Sys2Proof.Machine

namespace Sys2Proof.Settled

open Sys2Proof.Machine

/-- Settles O50: the writes of REC_CTRL by FLUSH, the ends of a flush and a freeze, and a read by whether the record is still held. -/
theorem eventRecorder : Obligations.EventRecorder := by
  refine ⟨?_, ?_, ?_, ?_, ?_, ?_, ?_, ?_, ?_⟩
  · intro s b code co l hb hp
    exact congrArg Host.Outcome.next (State.blockEvent_implemented hb hp code co l)
  · intro s ht he hf
    exact congrArg Host.Outcome.next (State.hoursNote_due ht he hf)
  · rintro s p _ u rfl h hbit
    exact congrArg Host.Outcome.next (State.portWord_recFlush h hbit)
  · rintro s p on _ u rfl h hbit
    exact congrArg Host.Outcome.next (State.portWord_recFreeze h hbit)
  · rintro s failed _ hf rfl hs
    exact congrArg Host.Outcome.next (State.flushDone_whole hf hs)
  · intro s hf ht
    exact congrArg Host.Outcome.next (State.freezeTimeout_due hf ht)
  · intro s p d u h
    exact congrArg Host.Outcome.next (State.portWord_brings h (by decide) State.written_recRdSeq)
  · rintro s p bad early r _ h hold rfl
    exact congrArg Host.Outcome.next (State.recReadDone_gone h hold bad early)
  · rintro s p bad early r x _ h hold hnew hx rfl
    exact congrArg Host.Outcome.next (State.recReadDone_ring h hold hnew hx bad early)

end Sys2Proof.Settled
end

section
/-! SUPPORT. The local bus (R483 to R490, R497): which transaction begins, how it ends, what a Host Notify leaves, and the accepted
write of TWL_XCMD. -/

namespace Sys2Proof.Machine

variable {s u : State} {p : Port} {d : Word} {w : TwlWork} {n k : Nat}

/-! ### Starting a transaction (R483, R485, R487) -/

/-- A poll entry that may run is due once its interval has passed (R487). -/
theorem State.pollDue_passed (ha : s.pollAllowed n = true)
    (ht : Sparse.get (fun _ => 0) s.twl.doneAt n + s.pollInterval n ≤ s.now) :
    s.pollDue n = s.setTwl { s.twl with due := insertNat s.twl.due n } := if_pos (by simp [ha, ht])

/-- The bus starts transactions: it is enabled, not stuck, and the controller is on (R483, R484). -/
structure State.TwlRuns (s : State) : Prop where
  enabled : s.cfgOn TWL_CTRL_EN = true
  free : s.flag TWL_STAT_STUCK = false
  on : s.rst.phase ≠ .off

/-- Then no condition keeps a start back. -/
theorem State.TwlRuns.not_barred (h : s.TwlRuns) :
    ¬ (¬ s.cfgOn TWL_CTRL_EN ∨ s.flag TWL_STAT_STUCK = true ∨ s.rst.phase = .off) := by
  simp [h.enabled, h.free, h.on]

/-- The engine takes work in hand: a poll is no longer due, an ARA read is timed, one transaction of the firmware fewer waits
(R483, R489). -/
def Twl.taking (x : Twl) (w : TwlWork) (now : Nat) : Twl :=
  { x with
    cur := some w, retries := 0, lost := false
    due := (match w with
      | .poll n => dropNat x.due n
      | _ => x.due)
    araAt := (if w = .ara then some now else x.araAt)
    glen := (if w = .glen then x.glen - 1 else x.glen) }

/-- An idle engine starts the work that is chosen (R483). -/
theorem State.twlStart_idle (hr : s.TwlRuns) (hc : s.twl.cur = none) (hw : s.twlChoice = some w) :
    s.twlStart = ((s.setTwl (s.twl.taking w s.now)).put TWL_STAT_TARGET 0).put TWL_STAT_BUSY 1 := by
  unfold State.twlStart
  rw [if_neg hr.not_barred, hc, hw]
  cases w <;> rfl

/-- A transaction that lost arbitration starts again (R485). -/
theorem State.twlStart_lost (hr : s.TwlRuns) (hc : s.twl.cur = some w) (hl : s.twl.lost = true) :
    s.twlStart = ((s.setTwl { s.twl with lost := false }).put TWL_STAT_TARGET 0).put TWL_STAT_BUSY 1 := by
  unfold State.twlStart
  rw [if_neg hr.not_barred, hc]
  exact if_pos hl

/-! ### Ending it (R484, R485, R488) -/

/-- How the transaction in hand ends on the bus (R485, R488). -/
def State.twlEnded (s : State) (w : TwlWork) : TwlEnd → State
  | .data b => s.twlGood w b
  | .nack => s.twlFailed w 1
  | .pec => s.twlFailed w 2
  | .arb bit inAddr winner08 => s.twlLost w bit inAddr winner08

/-- A transaction in hand ends, unless it waits after lost arbitration. -/
theorem State.twlDone_running (hc : s.twl.cur = some w) (hl : s.twl.lost = false) (e : TwlEnd) :
    s.twlDone e = s.twlEnded w e := by
  unfold State.twlDone
  rw [hc]
  refine (if_neg (Bool.eq_false_iff.mp hl)).trans ?_
  cases e <;> rfl

/-- A time-out after which the pulses free the bus only ends the transaction (R484). -/
theorem State.twlTimeout_freed (hc : s.twl.cur = some w) : s.twlTimeout false = s.twlFailed w 4 := by
  unfold State.twlTimeout
  rw [hc]
  exact if_neg Bool.false_ne_true

/-- Every poll entry in use reports TIMEOUT (R484). -/
def State.pollsTimedOut (s : State) : State :=
  (List.range 16).foldl (fun (u : State) n =>
    if u.cfg (TWL_POLL_A_DEST n) ≠ 0 then u.put (TWL_RSTAT_OUTCOME n) 4 else u) s

/-- A bus that the pulses do not free is stuck (R484). -/
theorem State.twlTimeout_stuck (hc : s.twl.cur = some w) : s.twlTimeout true =
    ((((s.twlFailed w 4).put TWL_STAT_STUCK 1).pollsTimedOut).raiseInt 0x98 3).raiseFault 0x98 1 7 0 := by
  unfold State.twlTimeout State.pollsTimedOut
  rw [hc]
  exact if_pos rfl

/-! ### Notifications and alerts (R486, R489) -/

/-- A Host Notify makes the gauge entries of its address due, and frees the target (R486). -/
def State.notified (s : State) (addr : Nat) : State :=
  (s.setTwl { s.twl with due := ((List.range 16).filter (fun n => decide (s.cfg (TWL_POLL_A_DEST n) = 1 ∧
    s.cfg (TWL_POLL_A_ADDR n) = addr % 128))).foldl insertNat s.twl.due }).put TWL_STAT_TARGET 0

/-- A Host Notify is committed to a FIFO with room (R486). -/
theorem State.hostNotify_room (he : s.cfgOn TWL_CTRL_EN = true) (ht : s.cfgOn TWL_CTRL_TARGET_EN = true)
    (hroom : s.twl.notifies.length < 8) (addr status : Nat) : s.hostNotify addr status =
      ((s.notified addr).setTwl { (s.notified addr).twl with
        notifies := (s.notified addr).twl.notifies ++ [(addr % 128, status % 2 ^ 16)] }).raiseInt 0x98 1 :=
  (if_pos (by rw [he, ht]; rfl)).trans (if_pos hroom)

/-- The wait after a spurious ARA read ends after 10 ms (R489). -/
theorem State.araReady_due (ha : s.twl.araAt = some k) (hb : s.twl.araBackoff = true) (ht : k + 10000 ≤ s.now) :
    s.araReady = s.setTwl { s.twl with araBackoff := false } := by
  unfold State.araReady
  rw [ha]
  exact if_pos ⟨hb, ht⟩

/-! ### Management transactions (R483, R497) -/

/-- Outside a save GO queues the first management transaction for the engine (R497). -/
theorem State.twlGo_first (hs : u.saving = false) (hm : u.twl.mgmt = none) :
    u.twlGo = (u.setTwl { u.twl with mgmt := some u.twlSnapshot }).put TWL_XSTAT_BUSY 1 :=
  (if_neg (Bool.eq_false_iff.mp hs)).trans (if_neg (by simp [hm]))

/-- An accepted write of TWL_XCMD with GO. -/
theorem State.portWord_twlXcmd (h : s.accepted p 0x98060 d = some u) (hbit : bitOf d.toNat 31 = true)
    (hs : u.saving = false) (hm : u.twl.mgmt = none) : s.portWord p 0x98060 d =
      ((u.setTwl { u.twl with mgmt := some u.twlSnapshot }).put TWL_XSTAT_BUSY 1).refreshArmed :=
  State.portWord_brings h (by decide) (State.written_twlXcmd.trans ((if_pos hbit).trans (State.twlGo_first hs hm)))

end Sys2Proof.Machine

namespace Sys2Proof.Settled

open Sys2Proof.Machine

/-- Settles O52: a start by whether work is in hand, an end by what the bus showed, and a time-out by whether the bus came free. -/
theorem localBus : Obligations.LocalBus := by
  refine ⟨?_, ?_, ?_, ?_, ?_, ?_, ?_, ?_, ?_, ?_, ?_, ?_, ?_, ?_, ?_⟩
  · intro s n ha ht
    exact congrArg Host.Outcome.next (State.pollDue_passed ha ht)
  · rintro s w _ he hs hp hc hw rfl
    exact congrArg Host.Outcome.next (State.twlStart_idle ⟨he, hs, hp⟩ hc hw)
  · intro s w he hs hp hc hl
    exact congrArg Host.Outcome.next (State.twlStart_lost ⟨he, hs, hp⟩ hc hl)
  · intro s b w hc hl
    exact congrArg Host.Outcome.next (State.twlDone_running hc hl (.data b))
  · intro s w hc hl
    exact congrArg Host.Outcome.next (State.twlDone_running hc hl .nack)
  · intro s w hc hl
    exact congrArg Host.Outcome.next (State.twlDone_running hc hl .pec)
  · intro s k a g w hc hl
    exact congrArg Host.Outcome.next (State.twlDone_running hc hl (.arb k a g))
  · intro s w hc
    exact congrArg Host.Outcome.next (State.twlTimeout_freed hc)
  · rintro s w _ hc rfl
    exact congrArg Host.Outcome.next (State.twlTimeout_stuck hc)
  · intro s
    rfl
  · rintro s a v _ he ht hroom rfl
    exact congrArg Host.Outcome.next (State.hostNotify_room he ht hroom a v)
  · intro s p u h
    exact congrArg Host.Outcome.next (State.portWord_brings h (by decide) State.written_twlNpop)
  · intro s b
    rfl
  · intro s k ha hb ht
    exact congrArg Host.Outcome.next (State.araReady_due ha hb ht)
  · rintro s p _ u rfl h hbit hs hm
    exact congrArg Host.Outcome.next (State.portWord_twlXcmd h hbit hs hm)

end Sys2Proof.Settled
end

section
/-! SUPPORT. The sideband target (R491 to R496): what its commands do where they are served, and with which cause they are refused. -/

namespace Sys2Proof.Machine

variable {s t : State} {count k : Nat} {x y z : BitVec 8}

/-! ### REG_WRITE (R492, R493, R495) -/

/-- The register a transaction begins at. -/
def sbReg (x y z : BitVec 8) : Nat := sbAddr x y z / 4 * 4

/-- A byte count that is not whole words is refused with cause 2. -/
theorem State.sbWrite_count (hl : s.sbListens = true) (hc : count < 7 ∨ 35 < count ∨ (count - 3) % 4 ≠ 0)
    (x y z : BitVec 8) (ws : List Word) (ok : Bool) : s.sbWrite count x y z ws ok = s.sbNack 2 0 :=
  (if_neg (not_not.mpr hl)).trans (if_pos hc)

/-- A transaction whose byte count is whole words, from one to eight. -/
structure WholeWords (count : Nat) : Prop where
  least : 7 ≤ count
  most : count ≤ 35
  whole : (count - 3) % 4 = 0

/-- Its count is not refused. -/
theorem WholeWords.not_refused (h : WholeWords count) : ¬ (count < 7 ∨ 35 < count ∨ (count - 3) % 4 ≠ 0) := by
  simp [h.least, h.most, h.whole]

/-- An address outside the registers, or words past the page's end, are refused with cause 3. -/
theorem State.sbWrite_address (hl : s.sbListens = true) (hc : WholeWords count)
    (ha : 16 ≤ z.toNat ∨ 0x1000 < sbReg x y z % 0x1000 + 4 * ((count - 3) / 4)) (ws : List Word) (ok : Bool) :
    s.sbWrite count x y z ws ok = s.sbNack 3 (sbAddr x y z) :=
  (if_neg (not_not.mpr hl)).trans ((if_neg hc.not_refused).trans (if_pos ha))

/-- A page that is gated or off is refused with cause 5, and recorded as an access and as a drop (R36). -/
theorem State.sbWrite_gated (hl : s.sbListens = true) (hc : WholeWords count) (hz : z.toNat < 16)
    (hp : sbReg x y z % 0x1000 + 4 * ((count - 3) / 4) ≤ 0x1000) (hg : s.sbGated (sbReg x y z / 0x1000) = true)
    (ws : List Word) (ok : Bool) : s.sbWrite count x y z ws ok =
      (((s.noteOff .sideband (sbReg x y z) true).noteDrop .sideband (sbReg x y z) 2).sbNack 5 (sbAddr x y z)).sbWake
        (sbReg x y z / 0x1000) :=
  (if_neg (not_not.mpr hl)).trans ((if_neg hc.not_refused).trans
    ((if_neg (not_or.mpr ⟨Nat.not_le.mpr hz, Nat.not_lt.mpr hp⟩)).trans (if_pos hg)))

/-- A PEC that matches, or is not asked for, is not refused (R495). -/
theorem State.pec_accepted {ok : Bool} (h : s.cfgOn TWS_CFG_PEC_REQ = false ∨ ok = true) :
    ¬ (s.cfgOn TWS_CFG_PEC_REQ ∧ ok = false) := by
  rcases h with h | h <;> simp [h]

/-- Words within a page that is on are written in order (R30, R492). -/
theorem State.sbWrite_served {ok : Bool} (hl : s.sbListens = true) (hc : WholeWords count) (hz : z.toNat < 16)
    (hp : sbReg x y z % 0x1000 + 4 * ((count - 3) / 4) ≤ 0x1000) (hg : s.sbGated (sbReg x y z / 0x1000) = false)
    (hpec : s.cfgOn TWS_CFG_PEC_REQ = false ∨ ok = true) (ws : List Word) : s.sbWrite count x y z ws ok =
      ((State.writeWords .sideband s (sbReg x y z) (ws.take ((count - 3) / 4))).bump TWS_XACT_COUNT).sbWake
        (sbReg x y z / 0x1000) :=
  (if_neg (not_not.mpr hl)).trans ((if_neg hc.not_refused).trans
    ((if_neg (not_or.mpr ⟨Nat.not_le.mpr hz, Nat.not_lt.mpr hp⟩)).trans
      ((if_neg (Bool.eq_false_iff.mp hg)).trans (if_neg (State.pec_accepted hpec)))))

/-! ### REG_READ (R492, R494, R495) -/

/-- A write count that is not four is refused with cause 2. -/
theorem State.sbRead_count (hl : s.sbListens = true) (hc : count ≠ 4) (x y z : BitVec 8) (k : Nat) :
    s.sbRead count x y z k = s.sbNack 2 0 := (if_neg (not_not.mpr hl)).trans (if_pos hc)

/-- An address outside the registers is refused with cause 3. -/
theorem State.sbRead_address (hl : s.sbListens = true) (hz : 16 ≤ z.toNat) (k : Nat) :
    s.sbRead 4 x y z k = s.sbNack 3 (sbAddr x y z) :=
  (if_neg (not_not.mpr hl)).trans ((if_neg (not_not.mpr rfl)).trans (if_pos hz))

/-- A number of words other than one to eight is refused with cause 4. -/
theorem State.sbRead_words (hl : s.sbListens = true) (hz : z.toNat < 16) (hk : k = 0 ∨ 8 < k) :
    s.sbRead 4 x y z k = s.sbNack 4 (sbAddr x y z) :=
  (if_neg (not_not.mpr hl)).trans ((if_neg (not_not.mpr rfl)).trans ((if_neg (Nat.not_le.mpr hz)).trans (if_pos hk)))

/-- The bytes of a REG_READ on the bus before its answer, over which the PEC is formed (R494). -/
def State.sbReadSent (s : State) (x y z : BitVec 8) (k : Nat) : List (BitVec 8) :=
  [BitVec.ofNat 8 (2 * s.get TWS_STAT_ADDR), 0x02, 4, x, y, z, BitVec.ofNat 8 k,
    BitVec.ofNat 8 (2 * s.get TWS_STAT_ADDR + 1)]

/-- Words within a page that is on are read in order and answered (R30, R494). -/
theorem State.sbRead_served {ws : List Word} (hl : s.sbListens = true) (hz : z.toNat < 16) (h1 : 1 ≤ k) (h8 : k ≤ 8)
    (hp : sbReg x y z % 0x1000 + 4 * k ≤ 0x1000) (hg : s.sbGated (sbReg x y z / 0x1000) = false)
    (hr : State.readWords .sideband k s (sbReg x y z) = (t, ws)) : s.sbRead 4 x y z k =
      ((t.bump TWS_XACT_COUNT).sbAnswer (s.sbReadSent x y z k) (BitVec.ofNat 8 (4 * k) :: wordBytes ws)).sbWake
        (sbReg x y z / 0x1000) := by
  have hk : ¬ (k = 0 ∨ 8 < k) := by omega
  have hon : ¬ (s.sbGated (sbReg x y z / 0x1000) ∧ (sbReg x y z % 0x1000 ≠ 0 ∨ k ≠ 1)) := by simp [hg]
  unfold State.sbRead
  rw [if_neg (not_not.mpr hl), if_neg (not_not.mpr rfl), if_neg (Nat.not_le.mpr hz), if_neg hk, ← sbReg,
    if_neg (Nat.not_lt.mpr hp), if_neg hon, hr]
  rfl

/-! ### RESET, ARA and abandoned transactions (R491, R493, R495, R496) -/

/-- RESET with its four bytes requests a device reset (R493). -/
theorem State.sbReset_served {ok : Bool} (hl : s.sbListens = true) (hpec : s.cfgOn TWS_CFG_PEC_REQ = false ∨ ok = true) :
    s.sbReset 4 [0x30, 0x54, 0x53, 0x52] ok = (s.bump TWS_XACT_COUNT).requestReset 3 :=
  (if_neg (not_not.mpr hl)).trans ((if_neg (not_not.mpr rfl)).trans ((if_neg (not_not.mpr rfl)).trans
    (if_neg (State.pec_accepted hpec))))

/-- An ARA is answered while the target alerts (R491). -/
theorem State.sbAra_alerting (hl : s.sbListens = true) (ha : s.flag TWS_STAT_ALERT = true)
    (he : s.cfgOn TWS_CFG_ARA_EN = true) : s.sbAra = s.sbAnswer [0x19] [BitVec.ofNat 8 (2 * s.get TWS_STAT_ADDR)] :=
  if_pos ⟨hl, ha, he⟩

/-- A time-out is counted (R496). -/
theorem State.sbTimeout_listens (hl : s.sbListens = true) : s.sbTimeout = s.bump TWS_TMO_COUNT := if_pos hl

/-- An abandoned transfer is counted and reported (R496). -/
theorem State.sbAbandon_listens (hl : s.sbListens = true) :
    s.sbAbandon = ((s.bump TWS_PROTO_COUNT).raiseInt 0x99 1).raiseFault 0x99 0 7 0 := if_pos hl

/-- An unlisted command is refused with cause 1 (R495). -/
theorem State.sbRefused_unlisted (hl : s.sbListens = true) (h1 : k ≠ 1) (h2 : k ≠ 2) (h15 : k ≠ 0x0F) :
    s.sbRefused k = s.sbNack 1 0 := if_pos ⟨hl, h1, h2, h15⟩

end Sys2Proof.Machine

namespace Sys2Proof.Settled

open Sys2Proof.Machine

/-- Settles O53: a write and a read by the first of the refusals that holds, and the other commands where the target listens. -/
theorem sidebandBus : Obligations.SidebandBus := by
  refine ⟨?_, ?_, ?_, ?_, ?_, ?_, ?_, ?_, ?_, ?_, ?_, ?_, ?_⟩
  · rintro s n _ x y z ws ok hl hlo hhi hw hz rfl hp hg hpec
    exact congrArg Host.Outcome.next (State.sbWrite_served hl ⟨hlo, hhi, hw⟩ hz hp hg hpec ws)
  · intro s n x y z ws ok hl hc
    exact congrArg Host.Outcome.next (State.sbWrite_count hl hc x y z ws ok)
  · intro s n x y z ws ok hl hlo hhi hw ha
    exact congrArg Host.Outcome.next (State.sbWrite_address hl ⟨hlo, hhi, hw⟩ ha ws ok)
  · rintro s n _ x y z ws ok hl hlo hhi hw hz rfl hp hg
    exact congrArg Host.Outcome.next (State.sbWrite_gated hl ⟨hlo, hhi, hw⟩ hz hp hg ws ok)
  · rintro s _ k x y z t ws hl hz h1 h8 rfl hp hg hr
    exact congrArg Host.Outcome.next (State.sbRead_served hl hz h1 h8 hp hg hr)
  · intro s n k x y z hl hc
    exact congrArg Host.Outcome.next (State.sbRead_count hl hc x y z k)
  · intro s k x y z hl hz
    exact congrArg Host.Outcome.next (State.sbRead_address hl hz k)
  · intro s k x y z hl hz hk
    exact congrArg Host.Outcome.next (State.sbRead_words hl hz hk)
  · intro s ok hl hpec
    exact congrArg Host.Outcome.next (State.sbReset_served hl hpec)
  · intro s hl ha he
    exact congrArg Host.Outcome.next (State.sbAra_alerting hl ha he)
  · intro s hl
    exact congrArg Host.Outcome.next (State.sbTimeout_listens hl)
  · intro s hl
    exact congrArg Host.Outcome.next (State.sbAbandon_listens hl)
  · intro s k hl h1 h2 h15
    exact congrArg Host.Outcome.next (State.sbRefused_unlisted hl h1 h2 h15)

end Sys2Proof.Settled
end

section
/-! SUPPORT. The service port (R502 to R516): a good frame with its tag, a command that the port admits, and what each command does where
its own conditions hold. -/

namespace Sys2Proof.Machine

variable {s t u : State} {tag : Nat} {f : State → State} {inRun inRcv isAbort : Bool} {p : List (BitVec 8)}

/-! ### Frames (R502, R504) -/

/-- The tag of a frame carried out is kept (R502). -/
def State.tagged (s : State) (tag : Nat) : State := s.setSvc { s.svc with lastTag := tag % 2 ^ 16 }

/-- A frame cut short is counted (R502). -/
theorem State.svcShort_on (hp : s.rst.phase ≠ .off) : s.svcShort = s.bump SVC_SHORT_COUNT := if_neg hp

/-- A frame with a bad CRC is answered BAD_FRAME (R502). -/
theorem State.svcFrame_bad (hp : s.rst.phase ≠ .off) : s.svcFrame tag false f =
    (((s.bump SVC_CRC_ERR_COUNT).raiseInt 0x9C 3).raiseFault 0x9C 0 7 0).svcAnswer 3 [] :=
  (if_neg hp).trans (if_pos Bool.false_ne_true)

/-- A good frame is counted, carried out, and its tag kept (R502). -/
theorem State.svcFrame_good (hp : s.rst.phase ≠ .off) : s.svcFrame tag true f = (f (s.bump SVC_FRAMES_COUNT)).tagged tag :=
  (if_neg hp).trans (if_neg (not_not.mpr rfl))

/-- A command that nothing refuses is carried out (R503, R504). -/
theorem State.svcCommand_served (hp : s.rst.phase ≠ .off) (ht : t = s.bump SVC_FRAMES_COUNT)
    (hr : t.svcRefusal inRun inRcv isAbort = none) (hf : f t = u) :
    s.svcCommand tag true inRun inRcv isAbort f = u.tagged tag := by
  subst ht hf
  refine (State.svcFrame_good hp).trans ?_
  rw [hr]

/-! ### The update (R508 to R513) -/

/-- PKG_BEGIN with a valid header, no update in hand and the firmware on its active Isle begins one (R508). -/
theorem State.pkgBegin_valid (he : s.cfgOn SVC_CTRL_UPD_EN = true) (hlen : p.length = 256) (hf : s.svcFree = true)
    (hu : s.atol.sel.updPend = false) (hi : s.get RST_STAT_ISLE = s.atol.sel.active)
    (hv : headerValid p s.mdl.romVer = true) (hb : (packageOf p).baseLen ≤ 2097152) : s.pkgBegin p =
      ((s.svcBegin 1 (packageOf p).targetLen { s.svc with rcv := false, pkg := packageOf p }).put SVC_TARGET_VER_VER
        (packageOf p).targetVer).svcAnswer 1 [] := by
  have hstate : ¬ (s.svcFree = false ∨ s.atol.sel.updPend = true ∨ s.get RST_STAT_ISLE ≠ s.atol.sel.active) := by
    simp [hf, hu, hi]
  exact (if_neg (not_not.mpr he)).trans ((if_neg (not_not.mpr hlen)).trans ((if_neg hstate).trans
    ((if_neg (not_not.mpr hv)).trans (if_neg (Nat.not_lt.mpr hb)))))

/-- The hash of the base decides between the erase of the target and BASE_MISMATCH (R508). -/
theorem State.hashDone_hashing (h : s.get SVC_STAT_STATE = 1) : s.hashDone =
    if Config.sha384 (s.isleBytes (s.get RST_STAT_ISLE) s.svc.pkg.baseLen) = s.svc.pkg.baseDigest then
      (s.eventNo 0x9C 0x0901 [s.svc.pkg.targetVer, s.svc.target]).eraseTarget
    else s.svcFail 8 := if_neg (not_not.mpr h)

/-- The target is erased: the port receives (R510). -/
theorem State.updErased_erased (h : s.get SVC_STAT_STATE = 2) (hb : s.srcBusy 3 = false) : s.updErased =
    ((s.setSvc { s.svc with background := false }).put SVC_STAT_STATE 3).put SVC_STAT_LAST_STATUS 0 := if_pos ⟨h, hb⟩

/-- The bytes that a download expects: an image's, or a package body's (R506, R515). -/
def State.svcSize (s : State) (rcv : Bool) : Nat := if rcv then s.get SVC_TOTAL_BYTES else s.svc.pkg.bodyLen

/-- A payload takes its place behind the bytes received (R511). -/
def State.received (s : State) (p : List (BitVec 8)) : State :=
  s.setSvc { s.svc with body := s.svc.body ++ p.drop 4, waiting := s.svc.waiting ++ [(s.svc.body ++ p.drop 4).length] }

/-- Data that follow what was received, within the size and with a buffer free, are taken (R510, R511). -/
theorem State.svcData_next {rcv : Bool} (hlo : 5 ≤ p.length) (hhi : p.length ≤ 4096) (hs : s.get SVC_STAT_STATE = 3)
    (hr : s.svc.rcv = rcv) (ho : field p 0 4 = s.svc.body.length)
    (hsize : s.svc.body.length + (p.drop 4).length ≤ s.svcSize rcv) (hw : s.svc.waiting.length < 2) :
    s.svcData rcv p = (((s.received p).svcFeed).releaseBuffers).svcAnswer 0 [] :=
  (if_neg (by omega)).trans ((if_neg (by simp [hs, hr])).trans ((if_neg (not_not.mpr ho)).trans
    ((if_neg (Nat.not_lt.mpr hsize)).trans (if_neg (Nat.not_le.mpr hw)))))

/-- The end of a download that is whole begins its check (R510, R512). -/
theorem State.svcEnd_whole {rcv : Bool} (hs : s.get SVC_STAT_STATE = 3) (hr : s.svc.rcv = rcv)
    (hsize : s.svc.body.length = s.svcSize rcv) : s.svcEnd rcv =
      ((s.setSvc { s.svc with background := true }).put SVC_STAT_STATE 4).svcAnswer 1
        (if rcv then [BitVec.ofNat 8 s.svc.target] else []) :=
  (if_neg (by simp [hs, hr])).trans (if_neg (not_not.mpr hsize))

/-- A package whose body is whole is judged by the digest of its target (R512). -/
theorem State.updChecked_ended (hs : s.svcSettled = true) (hr : s.svc.rcv = false)
    (he : (s.svcTarget s.svc.body.length).2 = .ended) (hc : (crc32c s.svc.body).toNat = s.svc.pkg.bodyCrc) :
    s.updChecked =
      (let t := ((s.setSvc { s.svc with background := false }).put SVC_STAT_STATE 5).put SVC_STAT_LAST_STATUS 0
       if Config.sha384 (s.isleBytes s.svc.target s.svc.pkg.targetLen) ≠ s.svc.pkg.targetDigest then s.svcFail 0x0B
       else (t.raiseInt 0x9C 0).eventNo 0x9C 0x0902 [s.svc.pkg.targetVer, s.svc.pkg.targetLen]) :=
  (if_neg (by simp [hs, hr])).trans (if_neg (by simp [he, hc]))

/-- ACTIVATE swaps the boot image of an applied update (R512). -/
theorem State.svcActivate_applied (hs : s.get SVC_STAT_STATE = 5) (hb : s.isleBusy = false) : s.svcActivate =
    (let v := (s.bootSwap 3).put SVC_STAT_STATE 7
     ((v.raiseInt 0x9C 2).eventNo 0x9C 0x0904 [v.atol.sel.active, 1]).svcAnswer 0 [BitVec.ofNat 8 v.atol.sel.active]) :=
  (if_neg (not_not.mpr hs)).trans (if_neg (Bool.eq_false_iff.mp hb))

/-- ABORT ends what is in hand (R510). -/
theorem State.svcAbort_inHand (hlo : 1 ≤ s.get SVC_STAT_STATE) (hhi : s.get SVC_STAT_STATE ≤ 4) :
    s.svcAbort = (s.svcFail 0x0D).svcAnswer 0 [] := if_pos ⟨hlo, hhi⟩

/-! ### Recovery, protection and erase counts (R476, R479, R515) -/

/-- RCV_BEGIN of an image of a permitted length begins a recovery download (R515). -/
theorem State.rcvBegin_free (hlen : p.length = 8) (hlo : 4096 ≤ field p 0 4) (hhi : field p 0 4 ≤ 2097152)
    (hf : s.svcFree = true) : s.rcvBegin p =
      ((s.svcBegin 2 (field p 0 4) { s.svc with rcv := true, imgCrc := field p 4 4 }).eraseTarget).svcAnswer 1 [] :=
  (if_neg (by omega)).trans (if_neg (not_not.mpr hf))

/-- A recovery image whose bytes read back right becomes the boot image (R515). -/
theorem State.rcvChecked_good (hs : s.svcSettled = true) (hr : s.svc.rcv = true)
    (hc : (crc32c (s.isleBytes s.svc.target (s.get SVC_TOTAL_BYTES))).toNat = s.svc.imgCrc) : s.rcvChecked =
      (let t := (((s.bootSwap 3).setSvc { s.svc with background := false }).put SVC_STAT_STATE 7).put SVC_STAT_LAST_STATUS 0
       (t.raiseInt 0x9C 2).eventNo 0x9C 0x0905 [s.isleWord s.svc.target 4, s.get SVC_TOTAL_BYTES]) :=
  (if_neg (by simp [hs, hr])).trans (if_neg (not_not.mpr hc))

/-- PROT_SET to a higher level is carried out while the port's array work is done (R476). -/
theorem State.protSet_raises {l : Nat} (hm : s.svcMode = 1 ∨ s.cfgOn SVC_CTRL_PROT_EN = true) (hlen : p.length = 4)
    (hw : field p 0 4 = 0x4C560000 + l) (hl : s.protLevel < l) (h2 : l ≤ 2) (hb : s.srcBusy 3 = false) :
    s.protSet p = ((s.eventNo 0x9C 0x0906 [s.protLevel, l]).protect 3 l).svcAnswer 0 [] := by
  have hmode : ¬ (s.svcMode = 0 ∧ s.cfgOn SVC_CTRL_PROT_EN = false) := by
    rcases hm with hm | hm <;> simp [hm]
  have hlevel : field p 0 4 % 256 = l := by omega
  unfold State.protSet
  simp only [hlevel]
  rw [if_neg hmode, if_neg (by omega), if_neg (by omega), if_neg (by omega), if_neg (Bool.eq_false_iff.mp hb)]

/-- EC_READ of blocks within the array answers their erase counts (R479). -/
theorem State.svcEc_within (hlen : p.length = 4) (hn : field p 2 2 ≠ 0) (hb : field p 0 2 + field p 2 2 ≤ 480) :
    s.svcEc p = s.svcAnswer 0 ((List.range (field p 2 2)).flatMap (fun k => leBytes 4 (s.atolBlk (field p 0 2 + k)).ec)) :=
  if_neg (by omega)

end Sys2Proof.Machine

namespace Sys2Proof.Settled

open Sys2Proof.Machine

/-- Settles O54: a frame by its CRC, and each command that the port admits by its own conditions. -/
theorem servicePort : Obligations.ServicePort := by
  refine ⟨?_, ?_, ?_, ?_, ?_, ?_, ?_, ?_, ?_, ?_, ?_, ?_, ?_, ?_, ?_, ?_, ?_, ?_, ?_⟩
  · intro s hp
    exact congrArg Host.Outcome.next (State.svcShort_on hp)
  · intro s tag hp
    exact congrArg Host.Outcome.next (State.svcFrame_bad hp)
  · rintro s tag _ _ hp rfl rfl
    exact congrArg Host.Outcome.next (State.svcFrame_good hp)
  · rintro s tag _ _ hp rfl rfl
    exact congrArg Host.Outcome.next (State.svcFrame_good hp)
  · rintro s tag _ _ hp rfl rfl
    exact congrArg Host.Outcome.next (State.svcFrame_good hp)
  · rintro s tag h t _ hp ht hr he hlen hf hu hi hv hb rfl
    exact congrArg Host.Outcome.next (State.svcCommand_served hp ht hr (State.pkgBegin_valid he hlen hf hu hi hv hb))
  · intro s h
    exact congrArg Host.Outcome.next (State.hashDone_hashing h)
  · intro s h hb
    exact congrArg Host.Outcome.next (State.updErased_erased h hb)
  · rintro s tag p _ t _ hp ht hr hlo hhi hs hrcv ho hsize hw rfl rfl
    exact congrArg Host.Outcome.next (State.svcCommand_served hp ht hr (State.svcData_next hlo hhi hs hrcv ho hsize hw))
  · rintro s tag t _ hp ht hr hs hrcv hsize rfl
    exact congrArg Host.Outcome.next (State.svcCommand_served hp ht hr (State.svcEnd_whole hs hrcv hsize))
  · rintro s _ hs hr he hc rfl
    exact congrArg Host.Outcome.next (State.updChecked_ended hs hr he hc)
  · rintro s tag _ t _ hp ht hr hs hb rfl rfl
    exact congrArg Host.Outcome.next (State.svcCommand_served hp ht hr (State.svcActivate_applied hs hb))
  · rintro s tag t _ hp ht hr hlo hhi rfl
    exact congrArg Host.Outcome.next (State.svcCommand_served hp ht hr (State.svcAbort_inHand hlo hhi))
  · rintro s tag p t _ hp ht hr hlen hlo hhi hf rfl
    exact congrArg Host.Outcome.next (State.svcCommand_served hp ht hr (State.rcvBegin_free hlen hlo hhi hf))
  · rintro s tag p _ t _ hp ht hr hlo hhi hs hrcv ho hsize hw rfl rfl
    exact congrArg Host.Outcome.next (State.svcCommand_served hp ht hr (State.svcData_next hlo hhi hs hrcv ho hsize hw))
  · rintro s tag t _ hp ht hr hs hrcv hsize rfl
    exact congrArg Host.Outcome.next (State.svcCommand_served hp ht hr (State.svcEnd_whole hs hrcv hsize))
  · rintro s _ hs hr hc rfl
    exact congrArg Host.Outcome.next (State.rcvChecked_good hs hr hc)
  · rintro s tag l p t _ hp ht hr hm hlen hw hl h2 hb rfl
    exact congrArg Host.Outcome.next (State.svcCommand_served hp ht hr (State.protSet_raises hm hlen hw hl h2 hb))
  · rintro s tag p t _ hp ht hr hlen hn hb rfl
    exact congrArg Host.Outcome.next (State.svcCommand_served hp ht hr (State.svcEc_within hlen hn hb))

end Sys2Proof.Settled
end

section
/-! SUPPORT. The power states (R521 to R531): the requests, and how an entry reaches its stop point, ends, fails or is left. -/

namespace Sys2Proof.Machine

variable {s u : State} {p : Port} {v k : Nat}

/-- An accepted write of TARGET requests the state it names (R521, R523). -/
theorem State.portWord_target (hv : v < 2 ^ 2) (h : s.accepted p 0x3040 (putBits (s.peek p 0x3040) 0 2 v) = some u) :
    s.portWord p 0x3040 (putBits (s.peek p 0x3040) 0 2 v) = (u.requestState v).refreshArmed := by
  rw [State.portWord_brings h (by decide) State.written_pwrMode, getBits_putBits_same _ 0 2 v (by decide), Nat.mod_eq_of_lt hv]

/-- After the idle time in L1 TERRACE is requested, once in the stay (R522). -/
theorem State.autoTerrace_due (hl : s.pwr.l1Since = some k) (hs : s.served = true)
    (ha : s.cfgOn PWR_MODE_AUTO_TERRACE = true) (ht : k + s.cfg PWR_CFG_TERRACE_IDLE_US ≤ s.now)
    (hr : s.get PWR_STAT_STATE = 0) : s.autoTerrace false = (s.setPwr { s.pwr with l1Since := none }).requestState 1 := by
  unfold State.autoTerrace
  rw [hl]
  exact (if_pos (by simp [hs, ha, ht, hr])).trans (if_neg Bool.false_ne_true)

/-- At the stop point of its target an entry switches the domains, and to BASIN their scopes (R523, R528). -/
theorem State.stopPoint_reached (he : s.pwr.entering = some k) (hs : s.served = true) (hw : s.pwr.switching = false)
    (hp : s.atStopPoint k = true) : s.stopPoint =
      (let t := (s.setPwr { s.pwr with switching := true }).put PWR_STAT_ENTERING 1
       if k = 2 then t.switchScopes else t) := by
  unfold State.stopPoint
  rw [he]
  exact if_pos (by simp [hs, hw, hp])

/-- The entry is over: nothing switches, and the time of entry is noted (R523, R533). -/
def State.entryEnded (s : State) : State :=
  (s.setPwr { s.pwr with entering := none, switching := false, enteredAt := s.now }).put PWR_STAT_ENTERING 0

/-- The last domain to switch enters the state (R523). -/
theorem State.domainReady_switching (he : s.pwr.entering = some k) (hw : s.pwr.switching = true) : s.domainReady =
    (let v := if k = 2 then s.entryEnded.toBasin else s.entryEnded.toTerrace
     (((v.put PWR_STAT_STATE k).put PWR_T_ENTRY_US_US (s.now - s.pwr.since)).raiseInt 0x03 0).replayWake) := by
  unfold State.domainReady
  rw [he, hw]
  rfl

/-- A domain that never settles ends the entry, and a wake latched in it (R523, R525). -/
def State.entryAborted (s : State) : State :=
  (((s.setPwr { s.pwr with entering := none, switching := false, wakeCode := none }).settleScopes).put PWR_STAT_ENTERING 0).put
    PWR_STAT_WAKE_LATCHED 0

/-- Its entry is refused with a fault (R523, R525). -/
theorem State.domainTimeout_switching (he : s.pwr.entering = some k) (hw : s.pwr.switching = true) (d : Nat) :
    s.domainTimeout d false = ((s.entryAborted).raiseFault 0x03 0 7 0).pwrRefuse (firstPage d) k true := by
  unfold State.domainTimeout
  rw [he, hw]
  exact if_neg Bool.false_ne_true

/-- An exit that ends is back in RUN, its cores running (R531). -/
theorem State.exitDone_exiting (h : s.flag PWR_STAT_EXITING = true) : s.exitDone =
    (let t := (List.range 4).foldl (fun (v : State) k => v.put (GLC_STAT_STATE k) 1)
       (if s.get PWR_STAT_STATE = 2 then s.fromBasin else s)
     (((t.put PWR_STAT_EXITING 0).put PWR_STAT_STATE 0).put PWR_T_EXIT_US_US (s.now - s.pwr.since)).raiseInt 0x03 1) := if_pos h

end Sys2Proof.Machine

namespace Sys2Proof.Settled

open Sys2Proof.Machine

/-- Settles O55: a request by the state it names, and an entry by how far it has come. -/
theorem powerStates : Obligations.PowerStates := by
  refine ⟨?_, ?_, ?_, ?_, ?_, ?_, ?_, ?_, ?_⟩
  · intro s p u h
    exact congrArg Host.Outcome.next (State.portWord_target (by decide) h)
  · intro s p u h
    exact congrArg Host.Outcome.next (State.portWord_target (by decide) h)
  · intro s p u h
    exact congrArg Host.Outcome.next (State.portWord_target (by decide) h)
  · intro s k hl hs ha ht hr
    exact congrArg Host.Outcome.next (State.autoTerrace_due hl hs ha ht hr)
  · intro s he hs hw hp
    exact congrArg Host.Outcome.next (State.stopPoint_reached he hs hw hp)
  · intro s he hs hw hp
    exact congrArg Host.Outcome.next (State.stopPoint_reached he hs hw hp)
  · rintro s k _ _ he hw rfl rfl
    exact congrArg Host.Outcome.next (State.domainReady_switching he hw)
  · rintro s d k _ he hw rfl
    exact congrArg Host.Outcome.next (State.domainTimeout_switching he hw d)
  · rintro s _ h rfl
    exact congrArg Host.Outcome.next (State.exitDone_exiting h)

end Sys2Proof.Settled
end

section
/-! SUPPORT. Background upkeep (R536 to R550): the scrub's next line, rounds and scans that run late, the calibrations that are due, the
capacity test, the wear horizon and the telemetry sample. -/

namespace Sys2Proof.Machine

variable {s u : State} {p : Port} {d : Word} {n sc l c : Nat}

/-! ### The scrub (R536, R537) -/

/-- A due line of a restored islet, not the last of the round, is read, and the position moves on (R536). -/
theorem State.scrubLine_due (hr : s.upkeepRuns 0x5C = true) (hd : s.dscr.due ≠ 0) (hn : n = s.get64 DSCR_POS_LO_ADDR / 64)
    (hi : s.isRestored (n / 1024) = true) (hl : n + 1 < s.mdl.scrubLines) : s.scrubLine =
      ((s.setDscr { s.dscr with due := s.dscr.due - 1 }).drcRead (.share 2) n 2).put64 DSCR_POS_LO_ADDR ((n + 1) * 64) := by
  have hread : ¬ (n < s.mdl.hostLines ∧ s.isRestored (n / 1024) = false) := by simp [hi]
  unfold State.scrubLine
  rw [if_neg (by simp [hr, hd])]
  dsimp only
  rw [← hn, if_neg hread, if_neg (Nat.not_le.mpr hl)]

/-- A round that takes an eighth longer than ROUND_H is reported once (R537). -/
theorem State.roundLate_due (ho : s.dscr.roundOpen = true) (hr : s.dscr.lateRaised = false) (hg : s.gated 0x5C = false)
    (ht : s.cfg DSCR_CFG_ROUND_H * 3600000000 * 9 / 8 < s.now - s.dscr.roundBegan) : s.roundLate =
      ((s.setDscr { s.dscr with lateRaised := true }).raiseInt 0x5C 1).raiseFault 0x5C 0 7 0 := if_pos ⟨ho, hr, hg, ht⟩

/-! ### The retention scan (R540, R542) -/

/-- A retention round is due after RESTORE_DONE of a cold start, or RET_DAYS after the last (R540). -/
def State.scanDue (s : State) (restored : Bool) : Prop :=
  if restored then s.upk.retFirst = true ∧ s.get RSTR_STAT_PHASE = 4
  else s.upk.retAt + s.cfg UPK_SCAN_RET_DAYS * dayUs ≤ s.now

/-- The blocks of the round, three rows of each: those written, of skerries with a live copy (R540). -/
def State.scanBlocks (s : State) : List Nat :=
  ((s.farr.blocks.filter (fun e => decide (e.2.bstate = 1 ∨ e.2.bstate = 2) &&
    (s.liveIn (s.skerryOf (e.1 / 1048576) (e.1 / 65536 % 16) (e.1 % 16384))).isSome)).map (·.1)).flatMap (fun k => [k, k, k])

/-- The round begins (R540). -/
theorem State.retentionDue_begins {restored : Bool} (hr : s.upkeepRuns 0xA0 = true) (hf : s.flag UPK_STAT_RET_RUN = false)
    (hd : s.scanDue restored) : s.retentionDue restored =
      ((s.setUpk { s.upk with scan := s.scanBlocks, retAt := s.now, retFirst := false }).put UPK_STAT_SCAN_LATE 0).put
        UPK_STAT_RET_RUN (b2n (decide (s.scanBlocks ≠ []))) := by
  refine if_pos ?_
  cases restored with
  | true =>
    obtain ⟨hfirst, hphase⟩ := hd
    simp [hr, hf, hfirst, hphase]
  | false =>
    have hpassed : s.upk.retAt + s.cfg UPK_SCAN_RET_DAYS * dayUs ≤ s.now := hd
    simp [hr, hf, hpassed]

/-- A round that runs longer than its interval is reported (R542). -/
theorem State.scanLate_due (hr : s.flag UPK_STAT_RET_RUN = true) (hl : s.flag UPK_STAT_SCAN_LATE = false)
    (hg : s.gated 0xA0 = false) (ht : s.upk.retAt + s.cfg UPK_SCAN_RET_DAYS * dayUs < s.now) :
    s.scanLate = ((s.put UPK_STAT_SCAN_LATE 1).raiseInt 0xA0 3).raiseFault 0xA0 1 7 0 := if_pos ⟨hr, hl, hg, ht⟩

/-! ### Calibrations (R543, R544) -/

/-- ZQ of a rank that is due runs (R543). -/
theorem State.zqDue_due (hr : s.hasRank sc l = true) (hd : s.calDue (zqKey sc l) (s.cfg UPK_CAL_ZQ_MS * 1000) = true) :
    s.zqDue sc l = (s.wakeLogical sc l).calRun (zqKey sc l) s.pers.tj := if_pos (by simp [hr, hd])

/-- The oscillator of a rank that is due is read, and a small drift leaves its delays (R543). -/
theorem State.oscDue_small {drift : Nat} (hr : s.hasRank sc l = true)
    (hd : s.calDue (oscKey sc l) (s.cfg UPK_CAL_OSC_MS * 1000) = true) (hs : drift ≤ s.cfg UPK_CAL2_DRIFT_PS) :
    s.oscDue sc l drift = (s.wakeLogical sc l).calRun (oscKey sc l) s.pers.tj :=
  (if_pos (by simp [hr, hd])).trans (if_neg (Nat.not_lt.mpr hs))

/-- The sweep of a block group that is due takes the best level (R543). -/
theorem State.fcalDue_due {die plane g : Nat} (hc : c < 16) (hst : (s.die c die).st = 1)
    (hd : s.calDue (fcalKey c die plane g) (s.cfg UPK_CAL2_FCAL_H * 3600000000) = true) (x y z : Nat) :
    s.fcalDue c die plane g x y z =
      (let k := levelKey c die plane g (s.block c die plane (g * 16)).slc
       let level := Sparse.get (fun _ => 0) s.farr.levels k
       let t := (s.calRun (fcalKey c die plane g) s.pers.tj).bump64By (FCH_RD_LO_COUNT c) (if level = 0 then 2 else 3)
       t.setFarr { t.farr with levels := Sparse.set (fun _ => 0) t.farr.levels k (bestLevel level x y z) }) :=
  if_pos (by simp [hc, hst, hd])

/-- ONFI ZQ of a channel with idle dies that is due runs (R543). -/
theorem State.onfiDue_due (hc : c < 16) (hi : (List.range 16).all (fun d => (s.die c d).busy.isNone) = true)
    (hd : s.calDue (onfiKey c) dayUs = true) : s.onfiDue c = s.calRun (onfiKey c) s.tn := by
  unfold State.onfiDue
  exact if_pos (by rw [Bool.and_eq_true, Bool.and_eq_true, decide_eq_true_eq]; exact ⟨⟨hc, hi⟩, hd⟩)

/-! ### The capacity test (R545, R546) -/

/-- CAP_DAYS after the last test, which was not refused, one begins or is refused (R545). -/
theorem State.capDue_passed (hd : s.cfg UPK_CAP_CAP_DAYS ≠ 0) (hf : s.upk.capRefused = false)
    (ht : s.upk.capAt + s.cfg UPK_CAP_CAP_DAYS * dayUs ≤ s.now) (hr : s.flag UPK_STAT_CAP_RUN = false)
    (hu : s.upkeepRuns 0xA0 = true) :
    s.capDue = (s.setUpk { s.upk with capAt := s.now, capRefused := s.capRefused }).capBegin := by
  have hpassed := Nat.not_lt.mpr ht
  exact if_neg (by simp [hd, hf, hpassed, hr, hu])

/-- An accepted write of UPK_CAP with CAP_GO begins one (R545). -/
theorem State.portWord_capGo (h : s.accepted p 0xA004C d = some u) (hbit : bitOf d.toNat 8 = true) :
    s.portWord p 0xA004C d = (u.capBegin).refreshArmed :=
  State.portWord_brings h (by decide) (State.written_upkCap.trans (if_pos hbit))

/-- A test that lasts CAP_MAX_S ends with its last reading (R545). -/
theorem State.capExpired_due (hr : s.flag UPK_STAT_CAP_RUN = true)
    (ht : s.upk.capStart + s.cfg UPK_CAP2_CAP_MAX_S * 1000000 ≤ s.now) : s.capExpired none = s.capFinish := if_pos ⟨hr, ht⟩

/-! ### The wear horizon (R548, R549) -/

/-- The life fractions of the working dies (R548). -/
def State.lives (s : State) : List (Nat × Nat × Nat) :=
  (s.farr.dies.filter (fun e => decide (e.2.st = 1))).map (fun e => (e.1, s.lifeOf (e.1 / 16) (e.1 % 16)))

/-- Each joins the last eight of its die (R548). -/
def State.wearSamples (s : State) : Sparse (List Nat) :=
  s.lives.foldl (fun m e => Sparse.set (fun _ => []) m e.1 ((lifeU e.2 :: Sparse.get (fun _ => []) m e.1).take 8)) s.upk.wear

/-- The samples of the day are kept (R548). -/
def State.wearKept (s : State) : State := s.setUpk { s.upk with wearAt := s.now, wear := s.wearSamples }

/-- Upkeep that runs forms the horizon a day after the last. -/
theorem State.wear_due (hr : s.upkeepRuns 0xA0 = true) (ht : s.upk.wearAt + dayUs ≤ s.now) :
    ¬ (s.upkeepRuns 0xA0 = false ∨ s.now < s.upk.wearAt + dayUs) := by simp [hr, Nat.not_lt.mpr ht]

/-- With no working die there is nothing to project (R548). -/
theorem State.wearUpdate_none (hr : s.upkeepRuns 0xA0 = true) (ht : s.upk.wearAt + dayUs ≤ s.now)
    (hl : limiting s.lives = none) : s.wearUpdate = s.wearKept := by
  unfold State.lives at hl
  unfold State.wearUpdate
  rw [if_neg (State.wear_due hr ht)]
  dsimp only
  rw [hl]
  rfl

/-- The horizon of the die that limits the array's life (R548, R549). -/
def State.horizonOf (s : State) (e : Nat × Nat × Nat) : State :=
  let days := wearDays (lifeU e.2) ((Sparse.get (fun _ => []) s.wearSamples e.1)[7]?)
  (((((s.wearKept.put WEAR_HORIZON_PCT (lifeU e.2 * 100 / 65536)).put WEAR_HORIZON_DAYS days).put WEAR_U_U (lifeU e.2)).put
    WEAR_U_DIE (16 * (e.1 % 16) + e.1 / 16)).put WEAR_U_SPARE_LIMITED (b2n (decide (e.2.1 < e.2.2)))).horizonWarn
      (lifeU e.2 * 100 / 65536) days

/-- The horizon is that of the limiting die (R548). -/
theorem State.wearUpdate_limited {e : Nat × Nat × Nat} (hr : s.upkeepRuns 0xA0 = true)
    (ht : s.upk.wearAt + dayUs ≤ s.now) (hl : limiting s.lives = some e) : s.wearUpdate = s.horizonOf e := by
  unfold State.lives at hl
  unfold State.wearUpdate
  rw [if_neg (State.wear_due hr ht)]
  dsimp only
  rw [hl]
  rfl

/-! ### Telemetry (R550) -/

/-- A sample that is due is taken now: the sums begin again, and the residual count is the first maximum of the next (R550). -/
theorem State.telemetry_due (hr : s.upkeepRuns 0xA1 = true) (ht : s.upk.telAt + s.cfg TEL_CFG_TEL_MS * 1000 ≤ s.now)
    (tj : Int) (mw : Nat) :
    (s.telemetry tj mw).upk.telAt = s.now ∧ (s.telemetry tj mw).upk.telRd = 0 ∧ (s.telemetry tj mw).upk.telWr = 0 ∧
      (s.telemetry tj mw).upk.telShadow = 0 ∧ (s.telemetry tj mw).upk.telPages = 0 ∧
      (s.telemetry tj mw).upk.resMax = s.res := by
  unfold State.telemetry
  rw [if_neg (by simp [hr, Nat.not_lt.mpr ht])]
  exact ⟨rfl, rfl, rfl, rfl, rfl, rfl⟩

end Sys2Proof.Machine

namespace Sys2Proof.Settled

open Sys2Proof.Machine

/-- Settles O56: each piece of upkeep where it is due, and the horizon by whether a die works. -/
theorem backgroundUpkeep : Obligations.BackgroundUpkeep := by
  refine ⟨?_, ?_, ?_, ?_, ?_, ?_, ?_, ?_, ?_, ?_, ?_, ?_, ?_, ?_, ?_⟩
  · rintro s n _ hr hd hn hi hl rfl
    exact congrArg Host.Outcome.next (State.scrubLine_due hr hd hn hi hl)
  · intro s ho hr hg ht
    exact congrArg Host.Outcome.next (State.roundLate_due ho hr hg ht)
  · rintro s r _ _ hr hf hd rfl rfl
    exact congrArg Host.Outcome.next (State.retentionDue_begins hr hf hd)
  · intro s hr hl hg ht
    exact congrArg Host.Outcome.next (State.scanLate_due hr hl hg ht)
  · intro s sc l hr hd
    exact congrArg Host.Outcome.next (State.zqDue_due hr hd)
  · intro s sc l d hr hd hs
    exact congrArg Host.Outcome.next (State.oscDue_small hr hd hs)
  · rintro s c d p g x y z _ _ _ hc hst hd rfl rfl rfl
    exact congrArg Host.Outcome.next (State.fcalDue_due hc hst hd x y z)
  · intro s c hc hi hd
    exact congrArg Host.Outcome.next (State.onfiDue_due hc hi hd)
  · intro s hd hf ht hr hu
    exact congrArg Host.Outcome.next (State.capDue_passed hd hf ht hr hu)
  · rintro s p _ u rfl h hbit
    exact congrArg Host.Outcome.next (State.portWord_capGo h hbit)
  · intro s hr ht
    exact congrArg Host.Outcome.next (State.capExpired_due hr ht)
  · rintro s _ _ _ hr ht rfl rfl rfl hl
    exact congrArg Host.Outcome.next (State.wearUpdate_none hr ht hl)
  · rintro s _ _ _ e _ hr ht rfl rfl rfl hl rfl
    exact congrArg Host.Outcome.next (State.wearUpdate_limited hr ht hl)
  · intro s tj mw hr ht
    exact ⟨s.telemetry tj mw, rfl, State.telemetry_due hr ht tj mw⟩
  · intro s p u h
    exact congrArg Host.Outcome.next (State.portWord_brings h (by decide) State.written_dscrMpop)

end Sys2Proof.Settled
end

section
/-! SUPPORT. The test port (R553 to R560): an instruction is loaded as it takes the pins, waits for a save, or leaves test mode. -/

namespace Sys2Proof.Machine

variable {s : State} {code : Nat}

/-- An instruction that takes the pins enters test mode (R555). -/
theorem State.loadIr_takes (ht : takesPins code = true) (hs : s.saving = false) :
    s.loadIr code = (s.put TST_STAT_IR code).enterTest := (if_pos ht).trans (if_neg (Bool.eq_false_iff.mp hs))

/-- During a save it is held (R556). -/
theorem State.loadIr_held (ht : takesPins code = true) (hs : s.saving = true) : s.loadIr code =
    ((s.put TST_STAT_IR code).setTst { s.tst with waiting := some code }).put TST_STAT_HELD 1 :=
  (if_pos ht).trans (if_pos hs)

/-- The instruction is in force outside test mode (R555). -/
def State.irLeaves (s : State) (code : Nat) : State :=
  let t := s.put TST_STAT_IR code
  ((t.setTst { t.tst with waiting := none }).put TST_STAT_HELD 0).leaveTest

/-- Any other instruction ends test mode (R555). -/
theorem State.loadIr_leaves (ht : takesPins code = false) : s.loadIr code = s.irLeaves code :=
  if_neg (Bool.eq_false_iff.mp ht)

/-- The codes of the listed instructions (R554, R560). -/
def listedCodes : List Nat := [0x00, 0x01, 0x02, 0x03, 0x04, 0x05, 0x08, 0x09, 0x20, 0x21, 0x22, 0x23]

/-- A code that is not listed does not take the pins (R554). -/
theorem takesPins_unlisted (h : listedCodes.contains code = false) : takesPins code = false := by
  refine decide_eq_false fun ht => ?_
  rcases ht with rfl | rfl | rfl | rfl | rfl <;> exact absurd h (by decide)

/-- A code that is not listed is BYPASS (R554). -/
theorem exec_bypass (hk : code < 256) (h : listedCodes.contains code = false) :
    exec (.bypass code) s = .next ((s.irLeaves code).jtagOut 0) := by
  have hload : (if listedCodes.contains code then 0xFF else code % 256) = code := by
    rw [if_neg (Bool.eq_false_iff.mp h), Nat.mod_eq_of_lt hk]
  have hleaves := State.loadIr_leaves (s := s) (takesPins_unlisted h)
  calc exec (.bypass code) s
      = .next ((s.loadIr (if listedCodes.contains code then 0xFF else code % 256)).jtagOut 0) := rfl
    _ = .next ((s.irLeaves code).jtagOut 0) := by rw [hload, hleaves]

end Sys2Proof.Machine

namespace Sys2Proof.Settled

open Sys2Proof.Machine

/-- Settles O57: each instruction by whether it takes the pins, and by whether a save holds it. -/
theorem testAccess : Obligations.TestAccess := by
  refine ⟨?_, ?_, ?_, ?_, ?_, ?_, ?_, ?_, ?_, ?_, ?_, ?_, ?_⟩
  · intro s
    rfl
  · rintro s pins v _ hs rfl
    exact congrArg (fun t : State => Host.Outcome.next (t.boundary pins v)) (State.loadIr_takes rfl hs)
  · rintro s pins v _ hs rfl
    exact congrArg (fun t : State => Host.Outcome.next (t.boundary pins v)) (State.loadIr_held rfl hs)
  · rintro s pins v _ hs rfl
    exact congrArg (fun t : State => Host.Outcome.next (t.boundary pins v)) (State.loadIr_takes rfl hs)
  · rintro s pins v _ hs rfl
    exact congrArg (fun t : State => Host.Outcome.next (t.boundary pins v)) (State.loadIr_takes rfl hs)
  · rintro s _ hs rfl
    exact congrArg (fun t : State => Host.Outcome.next (t.jtagOut 0)) (State.loadIr_takes rfl hs)
  · rintro s _ hs rfl
    exact congrArg (fun t : State => Host.Outcome.next (t.jtagOut 0)) (State.loadIr_takes rfl hs)
  · rintro s pins _ rfl
    exact congrArg (fun t : State => Host.Outcome.next (t.boundary pins none)) (State.loadIr_leaves rfl)
  · rintro s pins v _ rfl
    exact congrArg (fun t : State => Host.Outcome.next (t.boundary pins v)) (State.loadIr_leaves rfl)
  · rintro s _ rfl
    exact congrArg (fun t : State => Host.Outcome.next (t.jtagOut 0x1816094F)) (State.loadIr_leaves rfl)
  · rintro s _ rfl
    exact congrArg (fun t : State => Host.Outcome.next (t.requestReset 7)) (State.loadIr_leaves rfl)
  · rintro s _ _ rfl rfl
    exact congrArg (fun t : State => Host.Outcome.next (t.jtagOut (leNat s.identity))) (State.loadIr_leaves rfl)
  · rintro s k _ hk h rfl
    exact exec_bypass hk h

end Sys2Proof.Settled
end
